-- ==== Sys2Proof/Word.lean ====
section
/-! DEFINITION. The word types of the E-312's fields: bytes, two-byte fields and station numbers, which the
Bank Link frames and the service requests carry as bits (TABLE 10-1, TABLE 10-2). -/

namespace Sys2Proof

/-- One byte of a payload or of a service request. -/
abbrev Byte := BitVec 8

/-- A two-byte field: a version, an amount, a balance on the link. -/
abbrev Half := BitVec 16

/-- A station number as the frame's 4-bit source and destination fields carry it (0 is "all stations"). -/
abbrev Station := BitVec 4

/-- A yes-or-no value as one byte: 0 no, 1 yes (TABLE 10-3). -/
def Byte.ofBool (b : Bool) : Byte := if b then 1 else 0

end Sys2Proof
end

