-- ==== Sys2Proof/Syntax.lean ====
section
/-! DEFINITION. The commands of the E-312: one constructor of `Instr` for each row of spec/opcode_table.json, with the
enumerations, the image and the frames that their operands are made of. Sampled inputs (codes, readback lines, current,
thermistor codes), the contents of the configuration memory and the fields of received frames are operands. -/

namespace Sys2Proof

/-! ### Enumerated field values (TABLE 10-3), in code order -/

/-- R34: the session states. -/
inductive SessionState where
  | idle | opened | held | paying
  deriving DecidableEq, Repr

/-- Chapter 9: the claim classes; the code is also the frame class of the CLAIM (TABLE 9-2). -/
inductive ClaimClass where
  | vend | coolUrgent | cool | defrost
  deriving DecidableEq, Repr

/-- TABLE 10-3: the VEND-STATUS outcomes. -/
inductive VendOutcome where
  | accepted | vended | noProduct | jammed | motorFault | aborted | insufficient | noChange | paymentBusy
  | paymentUnreachable | budgetTimeout | outOfService | doorOpen | invalidSlot | unavailable | unavailableTemp | busy
  deriving DecidableEq, Repr

/-- TABLE 10-3: the DEBIT-ANSWER outcomes. -/
inductive DebitOutcome where
  | granted | noSession | heldBusy | stale | short | noChange
  deriving DecidableEq, Repr

/-- TABLE 10-3: the SETTLE results. -/
inductive SettleResult where
  | vended | notVended
  deriving DecidableEq, Repr

/-- TABLE 10-3: the SETTLE-ANSWER outcomes. -/
inductive SettleOutcome where
  | ok | tooLate | unknown
  deriving DecidableEq, Repr

/-- TABLE 10-3: the SERVICE-ANSWER results. -/
inductive ServiceResult where
  | done | busy | badArgument | notPresent | needsDoor
  deriving DecidableEq, Repr

/-! ### Names of inputs, loads and endings -/

/-- R16: the two level switches of a tube. -/
inductive LevelSwitch where
  | empty | full
  deriving DecidableEq, Repr

/-- Chapter 8: the two thermistors. -/
inductive Sensor where
  | cabinet | evaporator
  deriving DecidableEq, Repr

/-- 9.4: the three own load records. -/
inductive LoadKind where
  | motor | compressor | heater
  deriving DecidableEq, Repr

/-- R166: how a transmission attempt ends. -/
inductive AttemptEnd where
  | completed | bitError | noAcknowledgement
  deriving DecidableEq, Repr

/-- R164: why a frame is bad. -/
inductive BadCause where
  | checkFailed | badLength | cutShort
  deriving DecidableEq, Repr

/-- R181: how an audit save ends. -/
inductive SaveEnd where
  | matched | differed | noAnswer
  deriving DecidableEq, Repr

/-! ### The configuration memory (11.2, 11.6) -/

/-- One coin type as the parameter area holds it, before the clamps of R4. -/
structure RawCoinType where
  value : Nat
  enabled : Byte
  tube : Nat
  deriving DecidableEq, Repr

/-- One tube as the parameter area holds it, before the clamps of R13. -/
structure RawTube where
  coinType : Nat
  capacity : Nat
  lowMark : Nat
  fullMark : Nat
  reserve : Nat
  deriving DecidableEq, Repr

/-- One slot as the parameter area holds it, before the clamps of R93; `ready` gives the initial state. -/
structure RawSlot where
  price : Nat
  turns : Nat
  extraTurns : Nat
  chilled : Byte
  ready : Byte
  deriving DecidableEq, Repr

/-- The parameter area of TABLE 11-1, each number as stored. Times are in the unit TABLE 11-1 or the table it names
states (s, min, h), the jam time in 0.1 s. Tube and slot lists run by index from 1 and from 0; `none` is absent. -/
structure Image where
  coinMech : Byte
  cooling : Byte
  matrix : Byte
  coinTypes : List RawCoinType
  tubes : List (Option RawTube)
  maxCredit : Nat
  probeAmount : Nat
  idleTime : Nat
  multiVend : Byte
  slots : List (Option RawSlot)
  jamTime : Nat
  motorAmount : Nat
  openThreshold : Nat
  stallThreshold : Nat
  setPoint : Int
  differential : Nat
  minOff : Nat
  minOn : Nat
  urgentMargin : Nat
  startAmount : Nat
  runAmount : Nat
  defrostInterval : Nat
  defrostEnd : Int
  maxDefrost : Nat
  heaterAmount : Nat
  saleLimit : Int
  hotHoldTime : Nat
  conversion : List Int
  ownLimit : Nat
  baseLoad : Nat
  loadStations : Nat
  deriving DecidableEq, Repr

/-- R173: what the read of the parameter area gives, with the stored and the computed check. -/
inductive ParamRead where
  | answered (img : Image) (stored computed : Half)
  | noAnswer
  deriving DecidableEq, Repr

/-- TABLE 11-4: the audit totals in their order, and the eighty per-slot vend counts. -/
structure AuditTotals where
  credited : Nat
  toTubes : Nat
  toCashbox : Nat
  sold : Nat
  paidOut : Nat
  forfeited : Nat
  overpay : Nat
  shortPays : Nat
  unpaidVends : Nat
  unsettledHolds : Nat
  spuriousDrops : Nat
  jams : Nat
  unstoredCoins : Nat
  badFrames : Nat
  vendSum : Nat
  vendCounts : List Nat
  deriving DecidableEq, Repr

/-- R180: what the read of the audit area gives at power-up. `kept`: the memory holds what the part left in it.
`replaced`: it holds other contents, with the stored and the computed check. -/
inductive AuditRead where
  | kept
  | replaced (totals : AuditTotals) (stored computed : Half)
  | noAnswer
  deriving DecidableEq, Repr

/-- R175: the first filtered level of every input. `true` is: door open, cashbox switch closed, exit BLOCKED, lever
pressed, curtain interrupted, strobe active, level switch COVERED (tubes 1 to 5 in order). -/
structure InputLevels where
  door : Bool
  cashbox : Bool
  exit : Bool
  lever : Bool
  curtain : Bool
  strobe : Bool
  empties : List Bool
  fulls : List Bool
  deriving DecidableEq, Repr

/-- The fields every SERVICE frame begins with (11.5); its source must be 15 (TABLE 10-4). -/
structure ServiceHead where
  source : Station
  dest : Station
  tag : Byte
  deriving DecidableEq, Repr

/-! ### Frames (Chapter 10) -/

/-- A frame in its place in the transmit queue. STATUS and CREDIT hold no content: it is composed at the beginning of
their transmission (R165). SELECT and SERVICE are not sent by an E-312. -/
inductive Frame where
  | status
  | credit
  | claim (kind : LoadKind) (cls : ClaimClass) (amount : Nat) (sequence : Byte)
  | release (kind : LoadKind) (sequence : Byte)
  | object (dest : Station) (kind : Byte) (sequence : Byte) (sum : Nat)
  | purge (number : Byte)
  | vendStatus (dest : Station) (tag : Byte) (outcome : VendOutcome) (price position : Option Nat)
  | debit (dest : Station) (number : Byte) (amount : Nat) (tag : Byte) (expected : Option Half)
  | debitAnswer (dest : Station) (tag : Byte) (outcome : DebitOutcome) (balance : Option Nat) (version : Option Half)
  | settle (dest : Station) (tag number : Byte) (result : SettleResult)
  | settleAnswer (dest : Station) (tag : Byte) (outcome : SettleOutcome)
  | serviceAnswer (dest : Station) (tag : Byte) (result : ServiceResult) (data : List Byte)
  deriving DecidableEq, Repr

/-- A frame as it goes on the bus: the fields of TABLE 10-1 but for the length, which the payload gives, and the check. -/
structure Wire where
  cls : BitVec 3
  source : Station
  kind : BitVec 5
  dest : Station
  payload : List Byte
  deriving DecidableEq, Repr

/-! ### The commands -/

/-- One constructor per row of spec/opcode_table.json, in the table's order. In the frame rows `src` and `dst` are the
frame's source and destination; a timer row means that its timer has reached its limit. -/
inductive Instr where
  /-- R2: the codes on the code lines in the two strobe samples that made the change. -/
  | coinStrobe (first second : BitVec 3)
  | routingTimeExpiry
  | cashboxSwitchChange (closed : Bool)
  | levelSwitchChange (tube : Nat) (which : LevelSwitch) (covered : Bool)
  | serviceDoorOpens
  | serviceDoorCloses
  | auditSaveEnd (ending : SaveEnd)
  | debitReceived (src dst : Station) (number : Byte) (amount : Half) (tag : Byte) (expected : Option Half)
  | settleReceived (src dst : Station) (tag number : Byte) (result : SettleResult)
  | holdExpiry
  | refreshTimerExpiry
  | idleTimerExpiry
  | coinSeen
  | solenoidPulseEnd
  | payoutWindowExpiry
  | exitClears
  | clearTimerExpiry
  | escrowLever
  | creditReceived (src dst : Station) (number : Byte) (state : SessionState) (balance version : Half) (changeShort : Bool)
  | cacheEntryAgeOut (station : Station)
  | purgeReceived (src dst : Station) (number : Byte)
  | selectReceived (src dst : Station) (tag slot credit : Byte)
  | answerTimerExpiry
  | debitAnswerReceived (src dst : Station) (tag : Byte) (outcome : DebitOutcome) (balance version : Option Half)
  | settleTimerExpiry
  | settleAnswerReceived (src dst : Station) (tag : Byte) (outcome : SettleOutcome)
  | budgetTimerExpiry
  | camPulse
  | jamTimerExpiry
  | drop
  | dropWindowExpiry
  /-- R119, R121: the sensed levels of the row and column lines and of the cam return lines at the tick. -/
  | driveTick (rows : BitVec 8) (cols cams : BitVec 10)
  /-- R124: the reading, in 0.1 A. -/
  | currentSample (reading : Byte)
  /-- R127: the eight samples of the period. -/
  | averagingPeriodEnd (sensor : Sensor) (samples : Vector (BitVec 10) 8)
  | lockoutTimerExpiry
  | offTimerExpiry
  | cycleTimerUrgent
  | cycleTimerFixedDuty
  | startTimerExpiry
  | onTimerExpiry
  | accumulatorSecond
  | heaterWaitExpiry
  | defrostTimerExpiry
  | dripTimerExpiry
  | warmTimerExpiry
  | statusReceived (src dst : Station) (change : Byte) (total limit : Half) (flags : Byte)
  | peerEntryAgeOut (station : Station)
  | claimReceived (src dst : Station) (kind : Byte) (cls : ClaimClass) (amount : Half) (sequence : Byte)
  | releaseReceived (src dst : Station) (kind sequence : Byte)
  | claimAssumed (station : Station) (kind : Byte)
  | objectReceived (src dst : Station) (kind sequence : Byte) (sum : Half)
  | heldOffExpiry (kind : LoadKind)
  | claimRetryAge (kind : LoadKind)
  | settleWindowExpiry (kind : LoadKind)
  | badFrame (cause : BadCause)
  | unknownFrame (src : Station)
  | vendStatusReceived (src dst : Station) (tag : Byte) (outcome : VendOutcome) (price : Option Half) (position : Option Byte)
  | serviceAnswerReceived (src dst : Station) (tag : Byte) (result : ServiceResult) (data : List Byte)
  | addressConflict
  | frameOffer
  | lostArbitration
  | frameAttemptEnd (ending : AttemptEnd)
  | silentEnd
  | statusPeriodExpiry
  | isolationTimerExpiry
  /-- R172, R173, R180: what the straps and the two areas of the configuration memory read as. -/
  | powerUp (straps : Station) (params : ParamRead) (audit : AuditRead)
  | powerUpReconciliation (levels : InputLevels)
  | stateRead (head : ServiceHead) (args : List Byte)
  | auditRead (head : ServiceHead) (args : List Byte)
  | auditClear (head : ServiceHead) (args : List Byte)
  | setPrice (head : ServiceHead) (args : List Byte)
  | setSlot (head : ServiceHead) (args : List Byte)
  | setStock (head : ServiceHead) (args : List Byte)
  | setTube (head : ServiceHead) (args : List Byte)
  | clearFault (head : ServiceHead) (args : List Byte)
  | testMotor (head : ServiceHead) (args : List Byte)
  | forgetPeer (head : ServiceHead) (args : List Byte)
  /-- R176: with what the straps and the parameter area read as in the restart event. -/
  | restart (head : ServiceHead) (args : List Byte) (straps : Station) (params : ParamRead)
  | serviceUnknownCode (head : ServiceHead) (code : Byte) (args : List Byte)
  deriving DecidableEq, Repr

end Sys2Proof
end

