-- ==== Sys2Proof/Decode.lean ====
section
/-! DEFINITION. The frames of the Bank Link as bits (Chapter 10): the field codes of TABLE 10-3, the payloads of TABLE
10-2, the frame check, and the judging of a received frame (R164) into the command it stands for, with the writer of
each command's frame beside it. spec/opcode_table.json gives no row any bits, so `decodeTableWord` spells no command. -/

namespace Sys2Proof

/-! ### Codes (TABLE 10-3) -/

/-- The value at a code, from the list of values in code order. -/
def fromCode {α : Type} (values : List α) (b : Byte) : Option α := values[b.toNat]?

def SessionState.values : List SessionState := [.idle, .opened, .held, .paying]

def SessionState.code : SessionState → Byte
  | .idle => 0 | .opened => 1 | .held => 2 | .paying => 3

def ClaimClass.values : List ClaimClass := [.vend, .coolUrgent, .cool, .defrost]

/-- TABLE 9-2: the code is also the frame class of the CLAIM. -/
def ClaimClass.code : ClaimClass → Byte
  | .vend => 0 | .coolUrgent => 1 | .cool => 2 | .defrost => 3

/-- TABLE 10-3: load kind 0 is unused. -/
def LoadKind.code : LoadKind → Byte
  | .motor => 1 | .compressor => 2 | .heater => 3

/-- The own load kind of a code; 4 to 255 are for peers of other types. -/
def LoadKind.ofCode (b : Byte) : Option LoadKind :=
  if b = 1 then some .motor else if b = 2 then some .compressor else if b = 3 then some .heater else none

def VendOutcome.values : List VendOutcome :=
  [.accepted, .vended, .noProduct, .jammed, .motorFault, .aborted, .insufficient, .noChange, .paymentBusy,
    .paymentUnreachable, .budgetTimeout, .outOfService, .doorOpen, .invalidSlot, .unavailable, .unavailableTemp, .busy]

def VendOutcome.code : VendOutcome → Byte
  | .accepted => 0 | .vended => 1 | .noProduct => 2 | .jammed => 3 | .motorFault => 4 | .aborted => 5
  | .insufficient => 6 | .noChange => 7 | .paymentBusy => 8 | .paymentUnreachable => 9 | .budgetTimeout => 10
  | .outOfService => 11 | .doorOpen => 12 | .invalidSlot => 13 | .unavailable => 14 | .unavailableTemp => 15 | .busy => 16

def DebitOutcome.values : List DebitOutcome := [.granted, .noSession, .heldBusy, .stale, .short, .noChange]

def DebitOutcome.code : DebitOutcome → Byte
  | .granted => 0 | .noSession => 1 | .heldBusy => 2 | .stale => 3 | .short => 4 | .noChange => 5

def SettleResult.values : List SettleResult := [.vended, .notVended]

def SettleResult.code : SettleResult → Byte
  | .vended => 0 | .notVended => 1

def SettleOutcome.values : List SettleOutcome := [.ok, .tooLate, .unknown]

def SettleOutcome.code : SettleOutcome → Byte
  | .ok => 0 | .tooLate => 1 | .unknown => 2

def ServiceResult.values : List ServiceResult := [.done, .busy, .badArgument, .notPresent, .needsDoor]

def ServiceResult.code : ServiceResult → Byte
  | .done => 0 | .busy => 1 | .badArgument => 2 | .notPresent => 3 | .needsDoor => 4

/-- A yes-or-no field: 0 no, 1 yes. -/
def flagOf (b : Byte) : Option Bool := fromCode [false, true] b

/-! ### Bits and the check (TABLE 10-1) -/

/-- The `n` low bits of a number, most significant first. -/
def bitsOf : Nat → Nat → List Bool
  | 0, _ => []
  | n + 1, v => v.testBit n :: bitsOf n v

/-- The number that bits spell, most significant first. -/
def bitsNat (l : List Bool) : Nat := l.foldl (fun a b => 2 * a + b.toNat) 0

/-- The two bytes of a 16-bit field, high byte first. -/
def halfBytes (h : Half) : List Byte := [h.extractLsb' 8 8, h.extractLsb' 0 8]

/-- The 16-bit field two bytes spell. -/
def halfOf (hi lo : Byte) : Half := hi ++ lo

/-- One bit into the CRC-16 with generator x¹⁶ + x¹² + x⁵ + 1. -/
def crcBit (c : Half) (b : Bool) : Half :=
  if c.msb != b then (c <<< 1) ^^^ 0x1021#16 else c <<< 1

/-- The check over a run of bits, from the initial value of all ones. -/
def crc16 (l : List Bool) : Half := l.foldl crcBit 0xFFFF#16

/-- Class through payload, as bits. -/
def Wire.body (w : Wire) : List Bool :=
  bitsOf 3 w.cls.toNat ++ (bitsOf 4 w.source.toNat ++ (bitsOf 5 w.kind.toNat ++ (bitsOf 4 w.dest.toNat ++
    (bitsOf 4 w.payload.length ++ w.payload.flatMap fun b => bitsOf 8 b.toNat))))

/-- The bits between the start pattern and the acknowledgement slot. -/
def Wire.bits (w : Wire) : List Bool := w.body ++ bitsOf 16 (crc16 w.body).toNat

/-- The bytes that runs of eight bits spell. -/
def bytesOfBits : Nat → List Bool → List Byte
  | 0, _ => []
  | n + 1, l => BitVec.ofNat 8 (bitsNat (l.take 8)) :: bytesOfBits n (l.drop 8)

/-- R164: the frame that bits spell, or why they are a bad frame. One with more bits before its end pattern than its length
field gives is a bad frame as one cut short is (DESIGN CHOICE, log 45). -/
def parseWire (l : List Bool) : Except BadCause Wire :=
  if l.length < 20 then .error .cutShort
  else
    let len := bitsNat ((l.drop 16).take 4)
    if 12 < len then .error .badLength
    else if l.length ≠ 20 + 8 * len + 16 then .error .cutShort
    else if bitsNat (l.drop (20 + 8 * len)) ≠ (crc16 (l.take (20 + 8 * len))).toNat then .error .checkFailed
    else
      .ok
        { cls := BitVec.ofNat 3 (bitsNat (l.take 3)), source := BitVec.ofNat 4 (bitsNat ((l.drop 3).take 4)),
          kind := BitVec.ofNat 5 (bitsNat ((l.drop 7).take 5)), dest := BitVec.ofNat 4 (bitsNat ((l.drop 12).take 4)),
          payload := bytesOfBits len (l.drop 20) }

/-! ### Payload to command (TABLE 10-2, R164) -/

/-- The service request of a code (TABLE 11-2). RESTART takes with it what the straps and the parameter area read as. -/
def serviceCommand (straps : Station) (area : ParamRead) (h : ServiceHead) (code : Byte) (args : List Byte) : Instr :=
  match code.toNat with
  | 1 => .stateRead h args
  | 2 => .auditRead h args
  | 3 => .auditClear h args
  | 4 => .setPrice h args
  | 5 => .setSlot h args
  | 6 => .setStock h args
  | 7 => .setTube h args
  | 8 => .clearFault h args
  | 9 => .testMotor h args
  | 10 => .forgetPeer h args
  | 11 => .restart h args straps area
  | _ => .serviceUnknownCode h code args

/-- The command a good frame's kind and payload stand for; none where R164 counts it as unknown. -/
def knownCommand (straps : Station) (area : ParamRead) (w : Wire) : Option Instr :=
  let s := w.source
  let d := w.dest
  match w.kind.toNat, w.payload with
  | 1, [n, t1, t0, l1, l0, f] => some (.statusReceived s d n (halfOf t1 t0) (halfOf l1 l0) f)
  | 2, [k, c, a1, a0, q] =>
    if k = 0 then none else (fromCode ClaimClass.values c).map fun c => .claimReceived s d k c (halfOf a1 a0) q
  | 3, [k, q] => if k = 0 then none else some (.releaseReceived s d k q)
  | 4, [k, q, a1, a0] => if k = 0 then none else some (.objectReceived s d k q (halfOf a1 a0))
  | 5, [n, st, b1, b0, v1, v0, cs] => do
    let st ← fromCode SessionState.values st
    let cs ← flagOf cs
    some (.creditReceived s d n st (halfOf b1 b0) (halfOf v1 v0) cs)
  | 6, [n] => some (.purgeReceived s d n)
  | 7, [t, n, c] => some (.selectReceived s d t n c)
  | 8, [t, o] => (fromCode VendOutcome.values o).map fun o => .vendStatusReceived s d t o none none
  | 8, [t, o, p] => (fromCode VendOutcome.values o).map fun o => .vendStatusReceived s d t o none (some p)
  | 8, [t, o, p1, p0] => (fromCode VendOutcome.values o).map fun o => .vendStatusReceived s d t o (some (halfOf p1 p0)) none
  | 9, [n, a1, a0, t] => some (.debitReceived s d n (halfOf a1 a0) t none)
  | 9, [n, a1, a0, t, v1, v0] => some (.debitReceived s d n (halfOf a1 a0) t (some (halfOf v1 v0)))
  | 10, [t, o] => (fromCode DebitOutcome.values o).map fun o => .debitAnswerReceived s d t o none none
  | 10, [t, o, b1, b0] =>
    (fromCode DebitOutcome.values o).map fun o => .debitAnswerReceived s d t o (some (halfOf b1 b0)) none
  | 10, [t, o, b1, b0, v1, v0] =>
    (fromCode DebitOutcome.values o).map fun o => .debitAnswerReceived s d t o (some (halfOf b1 b0)) (some (halfOf v1 v0))
  | 11, [t, n, r] => (fromCode SettleResult.values r).map fun r => .settleReceived s d t n r
  | 12, [t, o] => (fromCode SettleOutcome.values o).map fun o => .settleAnswerReceived s d t o
  | 13, t :: c :: args => if s = 15 then some (serviceCommand straps area ⟨s, d, t⟩ c args) else none
  | 14, t :: r :: data => (fromCode ServiceResult.values r).map fun r => .serviceAnswerReceived s d t r data
  | _, _ => none

/-- R164: the command that the bits of a frame sent by another station stand for at the station numbered `own`. -/
def commandOf (own straps : Station) (area : ParamRead) (l : List Bool) : Instr :=
  match parseWire l with
  | .error c => .badFrame c
  | .ok w => if w.source = own then .addressConflict else (knownCommand straps area w).getD (.unknownFrame w.source)

/-! ### Command to frame -/

/-- The frame a received command came in, for the rows that are good frames of a known kind; the class is the one TABLE
10-2 gives the kind. -/
def wireOf : Instr → Option Wire
  | .statusReceived s d n t l f => some ⟨7, s, 1, d, n :: (halfBytes t ++ (halfBytes l ++ [f]))⟩
  | .claimReceived s d k c a q => some ⟨c.code.setWidth 3, s, 2, d, k :: c.code :: (halfBytes a ++ [q])⟩
  | .releaseReceived s d k q => some ⟨0, s, 3, d, [k, q]⟩
  | .objectReceived s d k q a => some ⟨0, s, 4, d, k :: q :: halfBytes a⟩
  | .creditReceived s d n st b v cs =>
    some ⟨6, s, 5, d, n :: st.code :: (halfBytes b ++ (halfBytes v ++ [Byte.ofBool cs]))⟩
  | .purgeReceived s d n => some ⟨6, s, 6, d, [n]⟩
  | .selectReceived s d t n c => some ⟨5, s, 7, d, [t, n, c]⟩
  | .vendStatusReceived s d t o p q =>
    some ⟨5, s, 8, d, t :: o.code :: ((p.map halfBytes).getD [] ++ (q.map fun b => [b]).getD [])⟩
  | .debitReceived s d n a t v => some ⟨4, s, 9, d, n :: (halfBytes a ++ (t :: (v.map halfBytes).getD []))⟩
  | .debitAnswerReceived s d t o b v =>
    some ⟨4, s, 10, d, t :: o.code :: ((b.map halfBytes).getD [] ++ (v.map halfBytes).getD [])⟩
  | .settleReceived s d t n r => some ⟨4, s, 11, d, [t, n, r.code]⟩
  | .settleAnswerReceived s d t o => some ⟨4, s, 12, d, [t, o.code]⟩
  | .stateRead h a => some ⟨7, h.source, 13, h.dest, h.tag :: 1 :: a⟩
  | .auditRead h a => some ⟨7, h.source, 13, h.dest, h.tag :: 2 :: a⟩
  | .auditClear h a => some ⟨7, h.source, 13, h.dest, h.tag :: 3 :: a⟩
  | .setPrice h a => some ⟨7, h.source, 13, h.dest, h.tag :: 4 :: a⟩
  | .setSlot h a => some ⟨7, h.source, 13, h.dest, h.tag :: 5 :: a⟩
  | .setStock h a => some ⟨7, h.source, 13, h.dest, h.tag :: 6 :: a⟩
  | .setTube h a => some ⟨7, h.source, 13, h.dest, h.tag :: 7 :: a⟩
  | .clearFault h a => some ⟨7, h.source, 13, h.dest, h.tag :: 8 :: a⟩
  | .testMotor h a => some ⟨7, h.source, 13, h.dest, h.tag :: 9 :: a⟩
  | .forgetPeer h a => some ⟨7, h.source, 13, h.dest, h.tag :: 10 :: a⟩
  | .restart h a _ _ => some ⟨7, h.source, 13, h.dest, h.tag :: 11 :: a⟩
  | .serviceUnknownCode h c a => some ⟨7, h.source, 13, h.dest, h.tag :: c :: a⟩
  | .serviceAnswerReceived s d t r data => some ⟨7, s, 14, d, t :: r.code :: data⟩
  | _ => none

/-! ### The table's words -/

/-- No row of spec/opcode_table.json gives bits ("fields" is empty in all 79), so no word spells a command. -/
def decodeTableWord (_nbits _w : Nat) : Option Instr := none

end Sys2Proof
end

