-- ==== Sys2Proof/Config.lean ====
section
/-! DEFINITION. What the manual fixes once for the part: its fixed times in milliseconds, its capacities and its
limits; and the free values, the constants without a body that stand for values no sentence of the manual gives. -/

namespace Sys2Proof.Config

/-- R9: the routing time. -/
def routingTime : Nat := 250
/-- R37: the ceiling of balance plus held amount. -/
def ceiling : Nat := 9999
/-- R39: the CREDIT refresh time. -/
def refreshTime : Nat := 2000
/-- R39: the refresh time while an announcement is owed. -/
def owedTime : Nat := 250
/-- R47: the hold time, 20 s. -/
def holdTime : Nat := 20000
/-- R61: the length of one solenoid pulse. -/
def pulseTime : Nat := 50
/-- R64: the payout window. -/
def payoutWindow : Nat := 400
/-- R65: the time allowed for the exit chute to clear. -/
def clearTime : Nat := 500
/-- R75: the most entries of the credit cache. -/
def cacheSize : Nat := 8
/-- R78: the age at which a cache entry is removed. -/
def cacheAge : Nat := 6000
/-- R83: the places of the selection queue. -/
def selectionPlaces : Nat := 4
/-- R87: the DEBIT answer timer. -/
def answerTime : Nat := 250
/-- R91: the settle timer. -/
def settleTime : Nat := 250
/-- R99: the budget timer, 10 s. -/
def budgetTime : Nat := 10000
/-- R102: the drop window, counted from the motor stop. -/
def dropWindow : Nat := 1500
/-- R119: the drive tick. -/
def driveTick : Nat := 5
/-- R124: the energised time of the first current sample. -/
def firstSample : Nat := 200
/-- R124: the time between later current samples. -/
def sampleStep : Nat := 50
/-- R127: the averaging period. -/
def averagingPeriod : Nat := 250
/-- R132: the fixed-duty off phase, 20 min. -/
def fixedOff : Nat := 1200000
/-- R133: the wait after which a COOL request is raised, 60 s. -/
def urgentTime : Nat := 60000
/-- R133: the fixed-duty on phase, 10 min. -/
def fixedOn : Nat := 600000
/-- R134: the start window. -/
def startWindow : Nat := 3000
/-- R138: the longest wait for the HEATER load, 10 min. -/
def heaterWait : Nat := 600000
/-- R140: the drip, 120 s. -/
def dripTime : Nat := 120000
/-- R149: the age at which a peer entry is removed or becomes LOST. -/
def peerAge : Nat := 2000
/-- R153: the wait age of a new test after a full transmit queue. -/
def retryAge : Nat := 100
/-- R156: the settle window of a claim. -/
def settleWindow : Nat := 40
/-- R157: the wait age at which held off clears. -/
def heldOffAge : Nat := 500
/-- R160: the heard-age at which a pending claim is assumed. -/
def assumedAge : Nat := 60
/-- R160: the heard-age from which a new STATUS drops a pending claim. -/
def droppableAge : Nat := 40
/-- TABLE 9-1: the most pending claims of one peer entry. -/
def claimPlaces : Nat := 4
/-- R166: the attempts a frame is given. -/
def attempts : Nat := 3
/-- R166: the consecutive failures that enter SILENT. -/
def silentFailures : Nat := 16
/-- R167: the SILENT second. -/
def silentTime : Nat := 1000
/-- R168: the places of the transmit queue. -/
def queuePlaces : Nat := 8
/-- R169: the STATUS period. -/
def statusPeriod : Nat := 500
/-- R170: the isolation time. -/
def isolationTime : Nat := 2000
/-- 0.6.4, R180: where a count stops. -/
def countMax : Nat := 65535
/-- 0.6.4, R180: where a money total of the audit stops. -/
def moneyMax : Nat := 4294967295

/-- FREE VALUE (log 20). The announced total of a peer entry whose range of 0 to 65535 an excess claim (R160) would
pass: the manual gives no value for that sum, here its argument. -/
opaque announcedOverflow : Nat → Nat

/-- FREE VALUE (log 21). The denomination of a tube record whose coin type lies outside 1 to 6, here its argument:
the manual defines the denomination as the value of the coin type (R13), and there is none. -/
opaque noTypeDenomination : Nat → Nat

end Sys2Proof.Config
end

