-- ==== Sys2Proof/Machine/State.lean ====
section
/-! DEFINITION. The state of one E-312 as plain data, one structure per block of TABLE 0-1, with the applied image
parameters, the inputs, the outputs and the queue of waiting commands; the reasons a step can stop; and the state
right after reset. Times are in milliseconds. A timer that may be stopped is an `Option Nat`, `none` when stopped. -/

namespace Sys2Proof.Machine

/-! ### Inputs and outputs -/

/-- R1: one filtered input: its pin, its last sample and its filtered level. -/
structure Filter where
  raw : Bool
  last : Bool
  level : Bool
  deriving DecidableEq, Repr

/-- The sensed inputs of TABLE 0-4. `true` is: strobe active, curtain interrupted, door open, lever pressed, cashbox
switch closed, exit BLOCKED, level switch COVERED, cam closed. -/
structure Inputs where
  strobe : Filter
  curtain : Filter
  door : Filter
  lever : Filter
  cashbox : Filter
  exit : Filter
  empties : List Filter
  fulls : List Filter
  /-- R2: the code lines now, and as they stood in the last strobe sample. -/
  codes : BitVec 3
  lastCodes : BitVec 3
  /-- R120: the ten cam return lines, and the filter of the presented cam input. -/
  camLines : BitVec 10
  cam : Filter
  /-- TABLE 0-4: true when half of the present millisecond has passed: the phase of the two sample periods to each other, which
  the manual does not give (DESIGN CHOICE, log 6). -/
  half : Bool
  deriving DecidableEq, Repr

/-- The output lines that no other field of the state stands for. `inhibit` holds coin type n at bit n - 1. -/
structure Outputs where
  inhibit : BitVec 6
  compressorRelay : Bool
  heaterRelay : Bool
  condenserFan : Bool
  evaporatorFan : Bool
  deriving DecidableEq, Repr

/-- R175: how far the part has come up: outputs held off (steps 1 to 3), enabled (steps 4 and 5), running. -/
inductive Phase where
  | heldOff | enabled | running
  deriving DecidableEq, Repr

/-! ### The applied parameters (TABLE 11-1, after the clamps) -/

/-- The parameters each block works with; times in ms but for the credit idle time and defrost interval (s). -/
structure Params where
  coinMech : Bool
  cooling : Bool
  matrix : Bool
  maxCredit : Nat
  probeAmount : Nat
  idleTime : Nat
  multiVend : Bool
  jamTime : Nat
  motorAmount : Nat
  openThreshold : Nat
  stallThreshold : Nat
  setPoint : Int
  differential : Nat
  minOff : Nat
  minOn : Nat
  urgentMargin : Nat
  startAmount : Nat
  runAmount : Nat
  defrostInterval : Nat
  defrostEnd : Int
  maxDefrost : Nat
  heaterAmount : Nat
  saleLimit : Int
  hotHoldTime : Nat
  conversion : List Int
  ownLimit : Nat
  baseLoad : Nat
  loadStations : Nat
  deriving DecidableEq, Repr

/-! ### CNU (Chapter 1) -/

/-- TABLE 1-1. -/
structure CoinType where
  value : Nat
  enabled : Bool
  tube : Option Nat
  deriving DecidableEq, Repr

/-- R14. -/
inductive TubeState where
  | normal | dry | disabled
  deriving DecidableEq, Repr

/-- TABLE 1-3; the two switches stand in `Inputs`. -/
structure Tube where
  coinType : Nat
  denomination : Nat
  capacity : Nat
  lowMark : Nat
  fullMark : Nat
  reserve : Nat
  count : Nat
  state : TubeState
  deriving DecidableEq, Repr

/-- R8: where a routed coin goes. -/
inductive Route where
  | tube (index : Nat)
  | cashbox
  deriving DecidableEq, Repr

/-- R9: the route on the outputs and the routing time gone. -/
structure Routing where
  route : Route
  elapsed : Nat
  deriving DecidableEq, Repr

/-- The Coin Unit. `tubes` holds indexes 1 to 5 in order, `none` for an absent record. -/
structure Cnu where
  coinTypes : List CoinType
  tubes : List (Option Tube)
  routing : Option Routing
  cashboxPresent : Bool
  headRejects : Nat
  deriving DecidableEq, Repr

/-! ### CRU (Chapters 3 and 4) -/

/-- R47. -/
structure Hold where
  requester : Station
  tag : Byte
  amount : Nat
  age : Nat
  deriving DecidableEq, Repr

/-- R52. -/
structure LastExpired where
  requester : Station
  tag : Byte
  deriving DecidableEq, Repr

/-- TABLE 3-1. -/
structure Session where
  number : Byte
  state : SessionState
  balance : Nat
  version : Half
  changeShort : Bool
  escrowPending : Bool
  idleTimer : Option Nat
  hold : Option Hold
  lastExpired : Option LastExpired
  deriving DecidableEq, Repr

/-- R61. -/
inductive PayoutPhase where
  | pulseWait | exitClear
  deriving DecidableEq, Repr

/-- TABLE 4-1. -/
structure Payout where
  phase : PayoutPhase
  tube : Option Nat
  attempt : Nat
  window : Option Nat
  clear : Option Nat
  deriving DecidableEq, Repr

/-- R61: the active solenoid output and the time of its pulse gone. -/
structure Pulse where
  tube : Nat
  elapsed : Nat
  deriving DecidableEq, Repr

/-- R59. -/
structure Books where
  credited : Nat
  sold : Nat
  paidOut : Nat
  forfeited : Nat
  overpay : Nat
  shortPays : Nat
  deriving DecidableEq, Repr

/-- The Credit Unit. `refresh` is the refresh timer of R39 with `owed` its announcement-owed condition; `probeShort` is
the result of the last probe (R28). `versionRaised` is the MODEL's own: the version has risen in the present event (R35). -/
structure Cru where
  session : Session
  payout : Option Payout
  solenoid : Option Pulse
  books : Books
  refresh : Option Nat
  owed : Bool
  exactChangeOnly : Bool
  probeShort : Bool
  strayExits : Nat
  versionRaised : Bool
  deriving DecidableEq, Repr

/-! ### CCA (Chapter 5) -/

/-- TABLE 5-1. -/
structure CacheEntry where
  station : Station
  number : Byte
  state : SessionState
  balance : Nat
  version : Half
  changeShort : Bool
  age : Nat
  deriving DecidableEq, Repr

/-- The Credit Cache: entries by rising station number; `memory` holds positions 1 to 15 in order (R79). -/
structure Cca where
  entries : List CacheEntry
  memory : List (Option Byte)
  deriving DecidableEq, Repr

/-! ### VSQ (Chapters 5 and 6) -/

/-- R94. -/
inductive SlotState where
  | ready | soldOut | jammed | disabled
  deriving DecidableEq, Repr

/-- TABLE 6-1 of a present slot; its vend count stands in the audit totals. -/
structure Slot where
  price : Nat
  turns : Nat
  extraTurns : Nat
  chilled : Bool
  state : SlotState
  stock : Option Nat
  noDropRun : Nat
  offHome : Bool
  deriving DecidableEq, Repr

/-- R82. -/
structure Selection where
  panel : Station
  tag : Byte
  slot : Nat
  credit : Nat
  deriving DecidableEq, Repr

/-- TABLE 6-3. -/
inductive VsqState where
  | idle | debiting | claiming | running | dropWait | settling | testing
  deriving DecidableEq, Repr

/-- TABLE 6-4: how the price is taken. -/
inductive Payment where
  | unpaid | own | remote
  deriving DecidableEq, Repr

/-- TABLE 6-4: the debit granted for a vend. -/
structure Grant where
  tag : Byte
  number : Byte
  deriving DecidableEq, Repr

/-- R86 to R89: the DEBIT outstanding, its sendings and its answer timer; `retry` for a STALE retry. -/
structure Asked where
  tag : Byte
  number : Byte
  expected : Option Half
  sendings : Nat
  retry : Bool
  timer : Nat
  deriving DecidableEq, Repr

/-- R91: the SETTLE outstanding, its sendings and its settle timer. -/
structure Settling where
  tag : Byte
  number : Byte
  result : SettleResult
  sendings : Nat
  timer : Nat
  deriving DecidableEq, Repr

/-- R96, R108: the causes of an outcome, in the order TABLE 6-5 first names them: a drop with the motor stopped, the end of a
run, a jam or stall, MOTOR-OPEN, the door, a drive fault, the window's end, the budget timer, a loss of cold, a debit not
granted (log 37). -/
inductive EndCause where
  | drop | runEnd | jam | motorOpen | door | driveFault | windowEnd | budget | lossOfCold | debit
  deriving DecidableEq, Repr

/-- TABLE 6-4, and the outcome of R108. `asked` and `settling` are the exchanges of 5.4 and 5.5; `settled`: the settlement is
over (R109). -/
structure Vend where
  selection : Selection
  price : Nat
  payment : Payment
  granted : Option Grant
  asked : Option Asked
  pulses : Nat
  extraLeft : Nat
  motorOn : Bool
  windowArmed : Bool
  dropSeen : Bool
  jammed : Bool
  doorOpened : Bool
  doorStop : Bool
  outcome : Option VendOutcome
  endedBy : Option EndCause
  settling : Option Settling
  settled : Bool
  budgetTimer : Option Nat
  jamTimer : Option Nat
  windowTimer : Option Nat
  deriving DecidableEq, Repr

/-- R116: the test results, in code order. -/
inductive TestResult where
  | complete | jammed | motorOpen | budgetTimeout | driveFault | unavailableTemp
  deriving DecidableEq, Repr

/-- R115: the motor test in progress. -/
structure Test where
  slot : Nat
  tag : Byte
  station : Station
  pulses : Nat
  motorOn : Bool
  budgetTimer : Option Nat
  jamTimer : Option Nat
  result : Option TestResult
  deriving DecidableEq, Repr

/-- The Vend Sequencer. `slots` holds slots 0 to 79 in order, `none` for an absent record. -/
structure Vsq where
  state : VsqState
  vend : Option Vend
  test : Option Test
  queue : List Selection
  tagCounter : Byte
  slots : List (Option Slot)
  deriving DecidableEq, Repr

/-! ### MXD (Chapter 7) -/

/-- TABLE 7-1. -/
inductive DriveState where
  | off | normal | fault
  deriving DecidableEq, Repr

/-- One row and one column of the matrix. -/
structure Pair where
  row : BitVec 3
  col : BitVec 4
  deriving DecidableEq, Repr

/-- R122. Lines are numbered rows 0 to 7, then columns as 8 to 17; a level is `true` when active. -/
structure FaultRecord where
  line : Nat
  latched : Bool
  sensed : Bool
  deriving DecidableEq, Repr

/-- TABLE 7-1; `none` is all-off in the buffer and the latch. `samples` counts the current samples of the present
energisation (R124); `tick` is the time since the last drive tick (R119). -/
structure Mxd where
  state : DriveState
  staging : Option Pair
  latch : Option Pair
  hold : Nat
  mismatch : Nat
  fault : Option FaultRecord
  energised : Option Nat
  samples : Nat
  stallRun : Nat
  supervision : Bool
  lastSample : Byte
  tick : Nat
  deriving DecidableEq, Repr

/-! ### RFC (Chapter 8) -/

/-- TABLE 8-1. -/
inductive SensorState where
  | awaiting | valid | faulted
  deriving DecidableEq, Repr

/-- TABLE 8-1; `period` is the time gone in the averaging period (R127). -/
structure SensorRecord where
  state : SensorState
  average : Nat
  reading : Option Int
  inRun : Nat
  outRun : Nat
  period : Nat
  deriving DecidableEq, Repr

/-- TABLE 8-4. -/
inductive CoolState where
  | offLockout | off | want | starting | running | defrostHeat | defrostDrip | absent
  deriving DecidableEq, Repr

/-- R138. -/
inductive HeaterMode where
  | waiting | heating | offCycle
  deriving DecidableEq, Repr

/-- TABLE 8-3 and TABLE 8-6. `second` is the part of a second of compressor running not yet counted (R137). -/
structure Rfc where
  cabinet : SensorRecord
  evaporator : SensorRecord
  state : CoolState
  lockoutTimer : Option Nat
  cycleTimer : Option Nat
  classAsked : ClaimClass
  startTimer : Option Nat
  onTimer : Option Nat
  offTimer : Option Nat
  accumulator : Nat
  second : Nat
  defrostDue : Bool
  defrostTimer : Option Nat
  heaterMode : Option HeaterMode
  dripTimer : Option Nat
  sellableCold : Bool
  warmTimer : Option Nat
  hotHold : Bool
  deriving DecidableEq, Repr

/-! ### LBU (Chapter 9) -/

/-- TABLE 9-1: one pending claim; `kind` is the load kind's code, 4 to 255 for peers of other types. -/
structure Claim where
  kind : Byte
  cls : ClaimClass
  amount : Nat
  sequence : Byte
  heardAge : Nat
  assumed : Bool
  deriving DecidableEq, Repr

/-- TABLE 9-1; `live` false is LOST. -/
structure Peer where
  station : Station
  live : Bool
  total : Nat
  limit : Nat
  change : Option Byte
  door : Bool
  isolated : Bool
  unconfigured : Bool
  listenOnly : Bool
  age : Nat
  claims : List Claim
  deriving DecidableEq, Repr

/-- TABLE 9-3. -/
inductive LoadState where
  | none | waiting | queued | proposed | held
  deriving DecidableEq, Repr

/-- TABLE 9-2; `metFull`: the record's last test met a full transmit queue (R153). -/
structure OwnLoad where
  state : LoadState
  cls : ClaimClass
  amount : Nat
  sequence : Byte
  waitAge : Nat
  heldOff : Bool
  metFull : Bool
  window : Option Nat
  deriving DecidableEq, Repr

/-- An owner's business that a test of the Load Budget Unit or the end of a vend leaves to be taken within the same
event: a record granted (R156, R161), or the head of the selection queue to be taken (R97). -/
inductive Signal where
  | granted (kind : LoadKind)
  | takeHead
  deriving DecidableEq, Repr

/-- The Load Budget Unit: `peers` by rising station number. `agenda` is the MODEL's own: the signals of the present
event not yet taken; every event that can raise one takes them all before it ends. -/
structure Lbu where
  peers : List Peer
  motor : OwnLoad
  compressor : OwnLoad
  heater : OwnLoad
  claimCounter : Byte
  ignored : Nat
  objectSum : Option Half
  agenda : List Signal
  deriving DecidableEq, Repr

/-! ### LNK (Chapter 10) -/

/-- 10.1. -/
inductive LinkState where
  | active | silent | listenOnly
  deriving DecidableEq, Repr

/-- R168: a place of the transmit queue; the list order is the order of queueing. `onBus` is the frame as composed at
its beginning, while its transmission is in progress. -/
structure TxEntry where
  frame : Frame
  attempts : Nat
  onBus : Option Wire
  deriving DecidableEq, Repr

/-- The Link Unit. `acknowledged`: this part drove the acknowledgement slot of the frame it last received from another
station (R164). `heard`: a good frame has been heard and the isolation timer has not expired since (R170). -/
structure Lnk where
  state : LinkState
  queue : List TxEntry
  acknowledged : Bool
  heard : Bool
  isolationTimer : Nat
  change : Byte
  periodTimer : Option Nat
  silentTimer : Option Nat
  failures : Nat
  unknownFrames : Nat
  droppedFrames : Nat
  silentEntries : Nat
  deriving DecidableEq, Repr

/-! ### SSU (Chapter 11) -/

/-- R174. -/
inductive Cause where
  | straps | image
  deriving DecidableEq, Repr

/-- R173. -/
inductive ImageStatus where
  | good | checkFailed | noAnswer
  deriving DecidableEq, Repr

/-- The Start-up and Service Unit. `cause` is none on a configured station; `snapshot` is the save in progress (R181);
`auditArea` is what the audit area of the memory holds with a good check, none when its check fails. -/
structure Ssu where
  own : Station
  cause : Option Cause
  imageStatus : ImageStatus
  auditGood : Bool
  totals : AuditTotals
  snapshot : Option AuditTotals
  saveOwed : Bool
  lastSave : Option Bool
  auditArea : Option AuditTotals
  deriving DecidableEq, Repr

/-- The whole part; `pending`, the queue of the commands that wait, first in first out; and `due`, the timer expiries that the
last half millisecond has brought and that are not yet taken (log 2). -/
structure State where
  pending : List Instr
  due : List Instr
  phase : Phase
  inputs : Inputs
  outputs : Outputs
  params : Params
  cnu : Cnu
  cru : Cru
  cca : Cca
  vsq : Vsq
  mxd : Mxd
  rfc : Rfc
  lbu : Lbu
  lnk : Lnk
  ssu : Ssu
  deriving DecidableEq, Repr

/-! ### Why a step stops -/

/-- The reasons of a fault. No rule of the manual stops the part, and no command of this model raises one. -/
inductive Fault where
  /-- Never raised: the manual describes no condition in which the part stops. Safe. -/
  | stopped
  deriving DecidableEq, Repr

/-- The reasons of a refusal. -/
inductive Refusal where
  /-- The command has no meaning in this model yet. Raised by `exec`'s refused arms alone; there is none. Safe. -/
  | notModelled (mnemonic : String)
  deriving DecidableEq, Repr

/-! ### The state after reset -/

namespace State

/-- R1: an input at rest. -/
def restFilter : Filter := { raw := false, last := false, level := false }

/-- TABLE 9-2: a record nothing is asked for. -/
def noLoad (cls : ClaimClass) : OwnLoad :=
  { state := .none, cls := cls, amount := 0, sequence := 0, waitAge := 0, heldOff := false, metFull := false, window := none }

/-- R145: a sensor record before its first average; its average code, which no rule gives yet, is 0 (log 3). -/
def awaitingSensor : SensorRecord :=
  { state := .awaiting, average := 0, reading := none, inRun := 0, outRun := 0, period := 0 }

/-- R180: every total 0. -/
def zeroTotals : AuditTotals :=
  { credited := 0, toTubes := 0, toCashbox := 0, sold := 0, paidOut := 0, forfeited := 0, overpay := 0, shortPays := 0,
    unpaidVends := 0, unsettledHolds := 0, spuriousDrops := 0, jams := 0, unstoredCoins := 0, badFrames := 0, vendSum := 0,
    vendCounts := List.replicate 80 0 }

/-- R174: the parameters while no image is good: every equipment group undeclared, and every other number its default
where the manual gives one, else the lowest value of its range. The multi-vend option, of which R174 says nothing, is no
(DESIGN CHOICE, log 4). -/
def noImageParams : Params :=
  { coinMech := false, cooling := false, matrix := false, maxCredit := 1, probeAmount := 1, idleTime := 0, multiVend := false,
    jamTime := 4000, motorAmount := 1, openThreshold := 2, stallThreshold := 30, setPoint := 40, differential := 30,
    minOff := 180000, minOn := 60000, urgentMargin := 20, startAmount := 120, runAmount := 40, defrostInterval := 3600,
    defrostEnd := 0, maxDefrost := 600000, heaterAmount := 1, saleLimit := -50, hotHoldTime := 300000,
    conversion := List.replicate 17 (-999), ownLimit := 10, baseLoad := 0, loadStations := 1 }

/-- TABLE 3-6, power-up column. -/
def resetSession : Session :=
  { number := 0, state := .idle, balance := 0, version := 0, changeShort := false, escrowPending := false, idleTimer := none,
    hold := none, lastExpired := none }

/-- The machine right after reset: R175's opening, every output held off and all six inhibit lines active, before the
straps and the image are read; each block as its table of reset values gives it, UNCONFIGURED by the want of an image. What no table gives a value
before the sequence sets it, the readback hold among it, stands as log 3 says. -/
def reset : State :=
  { pending := []
    due := []
    phase := .heldOff
    inputs :=
      { strobe := restFilter, curtain := restFilter, door := restFilter, lever := restFilter, cashbox := restFilter,
        exit := restFilter, empties := List.replicate 5 restFilter, fulls := List.replicate 5 restFilter, codes := 0,
        lastCodes := 0, camLines := 0, cam := restFilter, half := false }
    outputs :=
      { inhibit := 0b111111, compressorRelay := false, heaterRelay := false, condenserFan := false, evaporatorFan := false }
    params := noImageParams
    cnu :=
      { coinTypes := List.replicate 6 { value := 1, enabled := false, tube := none }, tubes := List.replicate 5 none,
        routing := none, cashboxPresent := false, headRejects := 0 }
    cru :=
      { session := resetSession, payout := none, solenoid := none,
        books := { credited := 0, sold := 0, paidOut := 0, forfeited := 0, overpay := 0, shortPays := 0 },
        refresh := none, owed := false, exactChangeOnly := false, probeShort := false, strayExits := 0, versionRaised := false }
    cca := { entries := [], memory := List.replicate 15 none }
    vsq := { state := .idle, vend := none, test := none, queue := [], tagCounter := 0, slots := List.replicate 80 none }
    mxd :=
      { state := .off, staging := none, latch := none, hold := 0, mismatch := 0, fault := none, energised := none, samples := 0,
        stallRun := 0, supervision := false, lastSample := 0, tick := 0 }
    rfc :=
      { cabinet := awaitingSensor, evaporator := awaitingSensor, state := .absent, lockoutTimer := none, cycleTimer := none,
        classAsked := .cool, startTimer := none, onTimer := none, offTimer := none, accumulator := 0, second := 0,
        defrostDue := false, defrostTimer := none, heaterMode := none, dripTimer := none, sellableCold := false,
        warmTimer := none, hotHold := false }
    lbu :=
      { peers := [], motor := noLoad .vend, compressor := noLoad .cool, heater := noLoad .defrost, claimCounter := 0,
        ignored := 0, objectSum := none, agenda := [] }
    lnk :=
      { state := .active, queue := [], acknowledged := false, heard := false, isolationTimer := 0, change := 0, periodTimer := none,
        silentTimer := none, failures := 0, unknownFrames := 0, droppedFrames := 0, silentEntries := 0 }
    ssu :=
      { own := 0, cause := some .image, imageStatus := .noAnswer, auditGood := false, totals := zeroTotals, snapshot := none,
        saveOwed := false, lastSave := none, auditArea := none } }

end State

end Sys2Proof.Machine
end

