-- ==== Sys2Proof/Machine/Ops.lean ====
section
/-! DEFINITION. The named operations every block works with: reading and writing the parts of the state, counts that
saturate, byte lists, the keyed lists of tubes and slots, filtered inputs, audit totals, and the passing of time. -/

namespace Sys2Proof.Machine

/-! ### One updater per part of the state -/

namespace State

def modInputs (f : Inputs → Inputs) (s : State) : State := { s with inputs := f s.inputs }
def modCnu (f : Cnu → Cnu) (s : State) : State := { s with cnu := f s.cnu }
def modCru (f : Cru → Cru) (s : State) : State := { s with cru := f s.cru }
def modCca (f : Cca → Cca) (s : State) : State := { s with cca := f s.cca }
def modVsq (f : Vsq → Vsq) (s : State) : State := { s with vsq := f s.vsq }
def modMxd (f : Mxd → Mxd) (s : State) : State := { s with mxd := f s.mxd }
def modRfc (f : Rfc → Rfc) (s : State) : State := { s with rfc := f s.rfc }
def modLbu (f : Lbu → Lbu) (s : State) : State := { s with lbu := f s.lbu }
def modLnk (f : Lnk → Lnk) (s : State) : State := { s with lnk := f s.lnk }
def modSsu (f : Ssu → Ssu) (s : State) : State := { s with ssu := f s.ssu }

/-- The session record of the Credit Unit. -/
def modSession (f : Session → Session) (s : State) : State :=
  s.modCru fun c => { c with session := f c.session }

/-- The audit totals kept by the Start-up and Service Unit (R180). -/
def modTotals (f : AuditTotals → AuditTotals) (s : State) : State :=
  s.modSsu fun u => { u with totals := f u.totals }

end State

/-! ### Counts, numbers and bytes -/

/-- 0.6.4: a count raised by `n` stops at 65535. -/
def countUp (a n : Nat) : Nat := min Config.countMax (a + n)

/-- R180: a money total raised by `n` stops at 4,294,967,295. -/
def moneyUp (a n : Nat) : Nat := min Config.moneyMax (a + n)

/-- The nearer end of a range for a value outside it (R173). -/
def clampNat (lo hi v : Nat) : Nat := max lo (min hi v)

/-- `clampNat` for the signed parameters. -/
def clampInt (lo hi v : Int) : Int := max lo (min hi v)

/-- 10.1: the `n` low bytes of a number, high byte first. -/
def bytesOf : Nat → Nat → List Byte
  | 0, _ => []
  | n + 1, v => bytesOf n (v / 256) ++ [BitVec.ofNat 8 v]

/-- The number that bytes spell, high byte first. -/
def numberOf (bs : List Byte) : Nat := bs.foldl (fun a b => a * 256 + b.toNat) 0

/-- R173: a yes-or-no parameter is yes when its byte is not 0. -/
def isYes (b : Byte) : Bool := b != 0

/-! ### Records held by index -/

/-- The record at place `i` of an indexed table, if it is present. -/
def recordAt {α : Type} (t : List (Option α)) (i : Nat) : Option α := (t[i]?).join

/-- The tube record of index 1 to 5 (TABLE 1-3). -/
def tubeAt (s : State) (i : Nat) : Option Tube :=
  match i with
  | 0 => none
  | j + 1 => recordAt s.cnu.tubes j

/-- Change a present tube record. -/
def modTube (i : Nat) (f : Tube → Tube) (s : State) : State :=
  match i with
  | 0 => s
  | j + 1 => s.modCnu fun c => { c with tubes := c.tubes.modify j (Option.map f) }

/-- The slot record of a slot number (R93). -/
def slotAt (s : State) (n : Nat) : Option Slot := recordAt s.vsq.slots n

/-- Change a present slot record. -/
def modSlot (n : Nat) (f : Slot → Slot) (s : State) : State :=
  s.modVsq fun v => { v with slots := v.slots.modify n (Option.map f) }

/-- The vend in progress changed by `f`. -/
def modVend (f : Vend → Vend) (s : State) : State := s.modVsq fun v => { v with vend := v.vend.map f }

/-- The motor test in progress changed by `f`. -/
def modTest (f : Test → Test) (s : State) : State := s.modVsq fun v => { v with test := v.test.map f }

/-- The own load record of a kind (TABLE 9-2). -/
def Lbu.load (l : Lbu) : LoadKind → OwnLoad
  | .motor => l.motor
  | .compressor => l.compressor
  | .heater => l.heater

/-- Change the own load record of a kind. -/
def modLoad (k : LoadKind) (f : OwnLoad → OwnLoad) (s : State) : State :=
  s.modLbu fun l =>
    match k with
    | .motor => { l with motor := f l.motor }
    | .compressor => { l with compressor := f l.compressor }
    | .heater => { l with heater := f l.heater }

/-- Leave a signal for the end of the event. -/
def signal (g : Signal) (s : State) : State := s.modLbu fun l => { l with agenda := l.agenda ++ [g] }

/-! ### Filtered inputs (R1) -/

/-- An input standing at a level: pin, sample and filtered level agree. -/
def Filter.standing (b : Bool) : Filter := { raw := b, last := b, level := b }

/-- R1: one sample of the pin. The filtered level changes when this sample and the one before agree on a new level. -/
def Filter.sample (f : Filter) : Filter :=
  { f with last := f.raw, level := if f.raw = f.last then f.raw else f.level }

/-- R1: the level this sample would make the filtered level change to, if any. -/
def Filter.change (f : Filter) : Option Bool :=
  if f.raw = f.last ∧ f.raw ≠ f.level then some f.raw else none

/-- A level switch of tube `i`, COVERED or not (TABLE 1-3). -/
def levelOf (t : List Filter) (i : Nat) : Bool :=
  match i with
  | 0 => false
  | j + 1 => ((t[j]?).map Filter.level).getD false

/-- The filtered level of a tube's empty switch. -/
def emptyCovered (s : State) (i : Nat) : Bool := levelOf s.inputs.empties i

/-- The filtered level of a tube's full switch. -/
def fullCovered (s : State) (i : Nat) : Bool := levelOf s.inputs.fulls i

/-- The filtered service door: open. -/
def doorOpen (s : State) : Bool := s.inputs.door.level

/-- A level switch of a tube stands at a level. -/
def standSwitch (i : Nat) (which : LevelSwitch) (covered : Bool) (n : Inputs) : Inputs :=
  match i, which with
  | 0, _ => n
  | j + 1, .empty => { n with empties := n.empties.modify j fun _ => Filter.standing covered }
  | j + 1, .full => { n with fulls := n.fulls.modify j fun _ => Filter.standing covered }

/-! ### The passing of time -/

/-- A running timer after `d` ms more; it stops counting at its limit, where its expiry is due. -/
def runTo (limit d t : Nat) : Nat := min limit (t + d)

/-- The timers of the Credit Unit after `d` ms. -/
def Cru.later (p : Params) (d : Nat) (c : Cru) : Cru :=
  { c with
    session :=
      { c.session with
        idleTimer := c.session.idleTimer.map (runTo (p.idleTime * 1000) d)
        hold := c.session.hold.map fun h => { h with age := runTo Config.holdTime d h.age } }
    payout := c.payout.map fun o =>
      { o with window := o.window.map (runTo Config.payoutWindow d), clear := o.clear.map (runTo Config.clearTime d) }
    solenoid := c.solenoid.map fun o => { o with elapsed := runTo Config.pulseTime d o.elapsed }
    refresh := c.refresh.map (runTo (if c.owed then Config.owedTime else Config.refreshTime) d) }

/-- The timers of the vend or test in progress after `d` ms. -/
def Vsq.later (p : Params) (d : Nat) (v : Vsq) : Vsq :=
  { v with
    vend := v.vend.map fun r =>
      { r with
        asked := r.asked.map fun a => { a with timer := runTo Config.answerTime d a.timer }
        settling := r.settling.map fun a => { a with timer := runTo Config.settleTime d a.timer }
        budgetTimer := r.budgetTimer.map (runTo Config.budgetTime d)
        jamTimer := r.jamTimer.map (runTo p.jamTime d)
        windowTimer := r.windowTimer.map (runTo Config.dropWindow d) }
    test := v.test.map fun r =>
      { r with budgetTimer := r.budgetTimer.map (runTo Config.budgetTime d), jamTimer := r.jamTimer.map (runTo p.jamTime d) } }

/-- The drive tick and the energised time after `d` ms. -/
def Mxd.later (d : Nat) (m : Mxd) : Mxd :=
  { m with tick := runTo Config.driveTick d m.tick, energised := m.energised.map (· + d) }

/-- TABLE 8-4: the compressor runs in STARTING and RUNNING. -/
def Rfc.compressorOn (r : Rfc) : Bool := r.state == .starting || r.state == .running

/-- The timers of the Refrigeration Controller after `d` ms; in ABSENT none runs (R145). The on timer stands at the minimum on
time in force once it has reached it (DEDUCED, log 44). -/
def Rfc.later (p : Params) (d : Nat) (r : Rfc) : Rfc :=
  if r.state = .absent then r
  else
    { r with
      cabinet := { r.cabinet with period := runTo Config.averagingPeriod d r.cabinet.period }
      evaporator := { r.evaporator with period := runTo Config.averagingPeriod d r.evaporator.period }
      lockoutTimer := r.lockoutTimer.map (runTo p.minOff d)
      cycleTimer := r.cycleTimer.map (· + d)
      startTimer := r.startTimer.map (runTo Config.startWindow d)
      onTimer := r.onTimer.map (runTo p.minOn d)
      offTimer := r.offTimer.map (runTo Config.fixedOff d)
      second := if r.compressorOn then runTo 1000 d r.second else r.second
      defrostTimer := r.defrostTimer.map (runTo p.maxDefrost d)
      dripTimer := r.dripTimer.map (runTo Config.dripTime d)
      warmTimer := r.warmTimer.map (runTo p.hotHoldTime d) }

/-- An own load record after `d` ms: TABLE 9-2's wait age runs on in every state (log 38), the settle window in PROPOSED. -/
def OwnLoad.later (d : Nat) (l : OwnLoad) : OwnLoad :=
  { l with
    waitAge := l.waitAge + d
    window := l.window.map (runTo Config.settleWindow d) }

/-- A peer entry after `d` ms: a LOST entry ages no further, its claims go on ageing (R149). -/
def Peer.later (d : Nat) (e : Peer) : Peer :=
  { e with
    age := if e.live then runTo Config.peerAge d e.age else e.age
    claims := e.claims.map fun c => { c with heardAge := c.heardAge + d } }

/-- The timers and ages of the Load Budget Unit after `d` ms. -/
def Lbu.later (d : Nat) (l : Lbu) : Lbu :=
  { l with
    peers := l.peers.map (Peer.later d), motor := l.motor.later d, compressor := l.compressor.later d
    heater := l.heater.later d }

/-- The timers of the Link Unit after `d` ms. -/
def Lnk.later (d : Nat) (l : Lnk) : Lnk :=
  { l with
    isolationTimer := runTo Config.isolationTime d l.isolationTimer
    periodTimer := l.periodTimer.map (runTo Config.statusPeriod d)
    silentTimer := l.silentTimer.map (runTo Config.silentTime d) }

/-- Every running timer and age of the part after `d` ms more, each stopping at its limit (log 1). -/
def advance (d : Nat) (s : State) : State :=
  { s with
    cnu := { s.cnu with routing := s.cnu.routing.map fun r => { r with elapsed := runTo Config.routingTime d r.elapsed } }
    cru := s.cru.later s.params d
    cca := { s.cca with entries := s.cca.entries.map fun e => { e with age := runTo Config.cacheAge d e.age } }
    vsq := s.vsq.later s.params d
    mxd := s.mxd.later d
    rfc := s.rfc.later s.params d
    lbu := s.lbu.later d
    lnk := s.lnk.later d }

/-- The part `d` ms later. Before the outputs are enabled no timer runs. No input is sampled in this time (log 1). -/
def elapse (d : Nat) (s : State) : State :=
  match d with
  | 0 => s
  | n + 1 => if s.phase = .heldOff then s else advance (n + 1) s

/-- The moment at which a timer that stands at `now` reaches `limit` (log 1): the command of an expiry says that this
moment has come, so the time still missing has passed for every timer. No input is sampled in it, so the sample from before
counts as the one before the next (log 1). -/
def reach (limit now : Nat) (s : State) : State := elapse (limit - now) s

end Sys2Proof.Machine
end

