-- ==== Sys2Proof/Machine/Flags.lean ====
section
/-! DEFINITION. The conditions and flags the blocks read of one another: configured or not, ISOLATED, the load sums of
Chapter 9, the drive, cooling and sale flags, the eight STATUS flags, and the outputs that follow the state. -/

namespace Sys2Proof.Machine

/-- R174: the station is not UNCONFIGURED. -/
def configured (s : State) : Bool := s.ssu.cause.isNone

/-- R34, R41: a configured station with a coin mechanism: the only one that has a session. -/
def coinStation (s : State) : Bool := s.params.coinMech && configured s

/-- R170: the three conditions of ISOLATED. -/
def isolated (s : State) : Bool := !s.lnk.heard || s.lnk.state != .active

/-- R80, R41: the link is LISTEN-ONLY. -/
def listenOnly (s : State) : Bool := s.lnk.state == .listenOnly

/-- R119: the MOTOR record is HELD. -/
def motorHeld (s : State) : Bool := s.lbu.motor.state == .held

/-! ### Load sums (R150 to R152) -/

/-- The amount of a record that is HELD. -/
def OwnLoad.heldAmount (l : OwnLoad) : Nat := if l.state = .held then l.amount else 0

/-- R151: the amount of a record that is QUEUED or PROPOSED. -/
def OwnLoad.claimedAmount (l : OwnLoad) : Nat := if l.state = .queued ∨ l.state = .proposed then l.amount else 0

/-- R152: the base load plus the amounts of the HELD own records. -/
def ownTotal (s : State) : Nat :=
  s.params.baseLoad + s.lbu.motor.heldAmount + s.lbu.compressor.heldAmount + s.lbu.heater.heldAmount

/-- R150: the solo allowance. -/
def soloAllowance (s : State) : Nat := s.params.ownLimit / s.params.loadStations

/-- R150: the effective limit. -/
def effectiveLimit (s : State) : Nat :=
  (s.lbu.peers.filter fun e => e.live && decide (0 < e.limit)).foldl (fun m e => min m e.limit) s.params.ownLimit

/-- R150: an entry's counted total. -/
def countedTotal (s : State) (e : Peer) : Nat :=
  if e.live && !e.isolated then e.total else max e.total (soloAllowance s)

/-- The sum of an entry's pending claims, assumed or not. -/
def Peer.claimSum (e : Peer) : Nat := e.claims.foldl (fun a c => a + c.amount) 0

/-- R150: the counted peer sum. -/
def peerSum (s : State) : Nat := s.lbu.peers.foldl (fun a e => a + countedTotal s e + e.claimSum) 0

/-- R151: the amounts of the own records other than `k` that are QUEUED or PROPOSED. -/
def otherClaims (k : LoadKind) (s : State) : Nat :=
  (if k = .motor then 0 else s.lbu.motor.claimedAmount) + (if k = .compressor then 0 else s.lbu.compressor.claimedAmount)
    + (if k = .heater then 0 else s.lbu.heater.claimedAmount)

/-- R151: the sum tested for the own record `k`. -/
def fitSum (k : LoadKind) (s : State) : Nat := ownTotal s + otherClaims k s + peerSum s + (s.lbu.load k).amount

/-- R151: the fit test. -/
def fits (k : LoadKind) (s : State) : Bool := fitSum k s ≤ effectiveLimit s

/-- R161: the solo rule. -/
def fitsSolo (k : LoadKind) (s : State) : Bool := ownTotal s + (s.lbu.load k).amount ≤ soloAllowance s

/-- R159: the objection view, with every own QUEUED or PROPOSED record counted and no own amount. -/
def objectionView (s : State) : Nat :=
  ownTotal s + s.lbu.motor.claimedAmount + s.lbu.compressor.claimedAmount + s.lbu.heater.claimedAmount + peerSum s

/-- R152: the configured limit to announce. -/
def announcedLimit (s : State) : Nat :=
  if configured s && (s.params.matrix || s.params.cooling) then s.params.ownLimit else 0

/-! ### Cooling and sale -/

/-- R132: the cut-in. -/
def cutIn (s : State) : Int := s.params.setPoint + (s.params.differential / 2 : Nat)

/-- R132: the cut-out. -/
def cutOut (s : State) : Int := s.params.setPoint - (s.params.differential / 2 : Nat)

/-- R133: the reading from which a request is urgent. -/
def urgentFrom (s : State) : Int := cutIn s + s.params.urgentMargin

/-- A sensor's reading, when the sensor is VALID (R129). -/
def SensorRecord.valid? (r : SensorRecord) : Option Int := if r.state = .valid then r.reading else none

/-- The sensor is VALID with a reading that satisfies `p`. -/
def SensorRecord.reads (r : SensorRecord) (p : Int → Bool) : Bool := (r.valid?.map p).getD false

/-- R142, R143: the cabinet sensor is VALID with its reading at or below the sale limit. -/
def cabinetCold (s : State) : Bool := s.rfc.cabinet.reads (fun t => t ≤ s.params.saleLimit)

/-- R129: the cooling-fault flag. -/
def coolingFault (s : State) : Bool := s.rfc.cabinet.state == .faulted || s.rfc.evaporator.state == .faulted

/-- R81, R97: a slot that may not be sold for want of cold: chilled, cooling declared, not sellable cold. -/
def tooWarm (s : State) (t : Slot) : Bool := t.chilled && s.params.cooling && !s.rfc.sellableCold

/-! ### STATUS flags (TABLE 10-3) -/

/-- R169: the eight flags, bit 0 to bit 7. -/
def statusFlags (s : State) : Byte :=
  let bit (n : Nat) (b : Bool) : Nat := if b then 2 ^ n else 0
  BitVec.ofNat 8
    (bit 0 (doorOpen s) + bit 1 (isolated s) + bit 2 (!configured s) + bit 3 (listenOnly s) + bit 4 s.cru.exactChangeOnly
      + bit 5 (s.mxd.state == .fault) + bit 6 s.rfc.hotHold + bit 7 (coolingFault s))

/-! ### Coin types, tubes and the inhibit set -/

/-- The coin type record of a validator code 1 to 6 (TABLE 1-1). -/
def coinTypeAt (s : State) (code : Nat) : Option CoinType :=
  match code with
  | 0 => none
  | j + 1 => s.cnu.coinTypes[j]?

/-- R5: the tube a coin type is linked to. -/
def linkedTube (s : State) (code : Nat) : Option Nat := do
  let c ← coinTypeAt s code
  let i ← c.tube
  let t ← tubeAt s i
  if t.state ≠ .disabled ∧ t.coinType = code then some i else none

/-- R6: the tube of a coin type when it can take a coin. -/
def takingTube (s : State) (code : Nat) : Option Nat := do
  let i ← linkedTube s code
  let t ← tubeAt s i
  if t.count < t.capacity ∧ fullCovered s i = false then some i else none

/-- R6, TABLE 1-2: a coin type is in the inhibit set. -/
def inhibited (s : State) (code : Nat) : Bool :=
  match coinTypeAt s code with
  | none => true
  | some c =>
    !c.enabled || !s.params.coinMech || !configured s || listenOnly s || doorOpen s
      || s.cru.session.state == .paying || (s.cru.session.state == .held && s.cru.session.escrowPending)
      || decide (s.cru.session.balance + c.value > s.params.maxCredit)
      || ((takingTube s code).isNone && !s.cnu.cashboxPresent)

/-- R7: the inhibit lines; all active until the power-up reconciliation. -/
def inhibitLines (s : State) : BitVec 6 :=
  if s.phase = .running then
    (List.range 6).foldl (fun m j => if inhibited s (j + 1) then m ||| BitVec.ofNat 6 (2 ^ j) else m) 0
  else 0b111111

/-- R174, R175: the part's outputs are enabled. -/
def outputsOn (s : State) : Bool := s.phase != .heldOff && configured s

/-- R7, R130, R141: the outputs as the state gives them. -/
def outputsOf (s : State) : Outputs :=
  { inhibit := inhibitLines s
    compressorRelay := outputsOn s && s.rfc.compressorOn
    heaterRelay := outputsOn s && s.rfc.state == .defrostHeat && s.rfc.heaterMode == some .heating
    condenserFan := outputsOn s && s.rfc.compressorOn
    evaporatorFan := outputsOn s && !doorOpen s && s.rfc.state != .defrostHeat && s.rfc.state != .absent }

/-! ### The drive lines (R117) -/

/-- R117: the latched level of a line, rows 0 to 7 then columns as 8 to 17. In OFF every level is inactive. -/
def latchedLevel (m : Mxd) (line : Nat) : Bool :=
  match m.latch with
  | none => false
  | some p => m.state != .off && (decide (line = p.row.toNat) || decide (line = 8 + p.col.toNat))

end Sys2Proof.Machine
end

