-- ==== Sys2Proof/Machine/Link.lean ====
section
/-! DEFINITION. The Link Unit's transmit queue (R168), the frames as composed (R165, R169), the requests the blocks make
of it, the STATUS period, and the ending of an attempt as far as it is the Link Unit's own (R166). -/

namespace Sys2Proof.Machine

/-! ### Classes and composition -/

/-- TABLE 10-2: the class of a frame. -/
def frameClass : Frame → Nat
  | .status => 7
  | .credit => 6
  | .claim _ c _ _ => c.code.toNat
  | .release _ _ => 0
  | .object _ _ _ _ => 0
  | .purge _ => 6
  | .vendStatus _ _ _ _ _ => 5
  | .debit _ _ _ _ _ => 4
  | .debitAnswer _ _ _ _ _ => 4
  | .settle _ _ _ _ => 4
  | .settleAnswer _ _ _ => 4
  | .serviceAnswer _ _ _ _ => 7

/-- R168: STATUS and CREDIT supersede. -/
def superseding : Frame → Bool
  | .status => true
  | .credit => true
  | _ => false

/-- R169: the payload of a STATUS composed in this state. -/
def statusPayload (s : State) : List Byte :=
  s.lnk.change :: (bytesOf 2 (ownTotal s) ++ (bytesOf 2 (announcedLimit s) ++ [statusFlags s]))

/-- R38: the payload of a CREDIT composed in this state. -/
def creditPayload (s : State) : List Byte :=
  let c := s.cru.session
  c.number :: c.state.code :: (bytesOf 2 c.balance ++ (halfBytes c.version ++ [Byte.ofBool c.changeShort]))

/-- The bytes of an optional two-byte number. -/
def optBytes (v : Option Nat) : List Byte := (v.map (bytesOf 2)).getD []

/-- TABLE 10-2: a frame's kind, destination and payload, composed in this state. -/
def frameBody (s : State) : Frame → BitVec 5 × Station × List Byte
  | .status => (1, 0, statusPayload s)
  | .claim k c a q => (2, 0, k.code :: c.code :: (bytesOf 2 a ++ [q]))
  | .release k q => (3, 0, [k.code, q])
  | .object d k q a => (4, d, k :: q :: bytesOf 2 (min 65535 a))
  | .credit => (5, 0, creditPayload s)
  | .purge n => (6, 0, [n])
  | .vendStatus d t o p q => (8, d, t :: o.code :: (optBytes p ++ (q.map fun n => [BitVec.ofNat 8 n]).getD []))
  | .debit d n a t v => (9, d, n :: (bytesOf 2 a ++ (t :: (v.map halfBytes).getD [])))
  | .debitAnswer d t o b v => (10, d, t :: o.code :: (optBytes b ++ (v.map halfBytes).getD []))
  | .settle d t n r => (11, d, [t, n, r.code])
  | .settleAnswer d t o => (12, d, [t, o.code])
  | .serviceAnswer d t r data => (14, d, t :: r.code :: data)

/-- R165: the frame as its transmission begins, with this station's own number as source. -/
def compose (s : State) (f : Frame) : Wire :=
  let b := frameBody s f
  { cls := BitVec.ofNat 3 (frameClass f), source := s.ssu.own, kind := b.1, dest := b.2.1, payload := b.2.2 }

/-! ### Requests (R168) -/

/-- A frame of this kind waits: queued and not under transmission. -/
def TxEntry.waits (f : Frame) (e : TxEntry) : Bool := e.frame == f && e.onBus.isNone

/-- A new place's content. -/
def TxEntry.fresh (f : Frame) : TxEntry := { frame := f, attempts := 0, onBus := none }

/-- R168: a request to queue a frame, and whether it was queued or joined to a waiting one. -/
def request (f : Frame) (s : State) : State × Bool :=
  if listenOnly s then (s, false)
  else if superseding f && s.lnk.queue.any (TxEntry.waits f) then
    (s.modLnk fun l => { l with queue := l.queue.map fun e => if e.waits f then { e with attempts := 0 } else e }, true)
  else if s.lnk.queue.length < Config.queuePlaces then
    (s.modLnk fun l => { l with queue := l.queue ++ [TxEntry.fresh f] }, true)
  else (s, false)

/-- A request whose failure has no effect of its own: the frame is lost. -/
def send (f : Frame) (s : State) : State := (request f s).1

/-- R169: a STATUS is asked for; the period timer, once started, restarts when it is queued or joined. -/
def queueStatus (s : State) : State :=
  let r := request .status s
  if r.2 then r.1.modLnk fun l => { l with periodTimer := l.periodTimer.map fun _ => 0 } else r.1

/-- R169: the STATUS of a power-up or restart, which starts the period timer. -/
def startStatus (s : State) : State :=
  let r := request .status s
  if r.2 then r.1.modLnk fun l => { l with periodTimer := some 0 } else r.1

/-- R152: the change number advances by 1 and a STATUS is queued. -/
def announceChange (s : State) : State := queueStatus (s.modLnk fun l => { l with change := l.change + 1 })

/-- R39: a CREDIT is asked for, with the send-failure path. A LISTEN-ONLY station asks for none (R41): none is then owed and
the refresh timer is left as it is (DEDUCED, log 40). -/
def queueCredit (s : State) : State :=
  if listenOnly s then s
  else
    let r := request .credit s
    r.1.modCru fun c => { c with owed := !r.2, refresh := some 0 }

/-! ### CLAIM frames in the queue (R154, R158) -/

/-- The CLAIM of a record and sequence, whatever its class and amount. -/
def isClaim (k : LoadKind) (q : Byte) : Frame → Bool
  | .claim k' _ _ q' => k' == k && q' == q
  | _ => false

/-- R154: the CLAIM's transmission has begun: one of its offers is in progress. -/
def claimBegun (k : LoadKind) (q : Byte) (s : State) : Bool :=
  s.lnk.queue.any fun e => isClaim k q e.frame && e.onBus.isSome

/-- R168: the LBU removes a CLAIM whose transmission has not begun. -/
def removeClaim (k : LoadKind) (q : Byte) (s : State) : State :=
  s.modLnk fun l => { l with queue := l.queue.filter fun e => !(isClaim k q e.frame && e.onBus.isNone) }

/-! ### Offer, loss and end (R165, R166) -/

/-- The place of the frame offered next: lowest class, then earliest queued. -/
def bestPlace : List TxEntry → Option Nat
  | [] => none
  | e :: t =>
    match bestPlace t with
    | none => some 0
    | some j =>
      match t[j]? with
      | some b => if frameClass e.frame ≤ frameClass b.frame then some 0 else some (j + 1)
      | none => some 0

/-- A frame is under transmission. -/
def onBus (s : State) : Bool := s.lnk.queue.any fun e => e.onBus.isSome

/-- R165, R171: LNK may begin a transmission. In LISTEN-ONLY the queue holds at most the one STATUS of R171. -/
def mayOffer (s : State) : Bool := s.phase == .running && s.lnk.state != .silent && !onBus s

/-- R165: the first queued frame begins, composed in this state. -/
def beginFrame (s : State) : State :=
  if mayOffer s then
    match bestPlace s.lnk.queue with
    | none => s
    | some i =>
      s.modLnk fun l => { l with queue := l.queue.modify i fun e => { e with onBus := some (compose s e.frame) } }
  else s

/-- R165: the frame under transmission stands again in its place. -/
def standAgain (s : State) : State :=
  s.modLnk fun l => { l with queue := l.queue.map fun e => { e with onBus := none } }

/-- The frame under transmission, if there is one. -/
def sending (s : State) : Option TxEntry := s.lnk.queue.find? fun e => e.onBus.isSome

/-- The frame under transmission leaves the queue. -/
def leaveQueue (s : State) : State :=
  s.modLnk fun l => { l with queue := l.queue.filter fun e => e.onBus.isNone }

/-- R166: one failed attempt raises the attempt count and the consecutive-failure count. -/
def countFailure (s : State) : State :=
  s.modLnk fun l =>
    { l with
      failures := l.failures + 1
      queue := l.queue.map fun e => if e.onBus.isSome then { e with attempts := e.attempts + 1 } else e }

/-- R166: the frame leaves the queue at its last failed attempt, and is counted. -/
def dropFrame (s : State) : State :=
  (leaveQueue s).modLnk fun l => { l with droppedFrames := countUp l.droppedFrames 1 }

/-- R164: a good frame is counted as unknown. -/
def countUnknown (s : State) : State := s.modLnk fun l => { l with unknownFrames := countUp l.unknownFrames 1 }

end Sys2Proof.Machine
end

