-- ==== Sys2Proof/Machine/Planner.lean ====
section
/-! DEFINITION. The Change Planner (Chapter 2): the tube list, the availability, the candidate plans of every backoff
vector and the choice among them. It keeps no state (R21). -/

namespace Sys2Proof.Machine

/-- R21: one tube of the tube list: its index in the image, its availability and its denomination. -/
structure PlanTube where
  index : Nat
  avail : Nat
  denom : Nat
  deriving DecidableEq, Repr

/-- R23: the availability of a tube. -/
def available (t : Tube) : Nat := if t.state = .normal then t.count - t.reserve else 0

/-- Put a tube into a list kept highest denomination first. -/
def insertTube (t : PlanTube) : List PlanTube → List PlanTube
  | [] => [t]
  | u :: r => if u.denom < t.denom then t :: u :: r else u :: insertTube t r

/-- R22: the present tubes that are not DISABLED, from index `i` on, highest denomination first. -/
def tubeListFrom : Nat → List (Option Tube) → List PlanTube
  | _, [] => []
  | i, none :: r => tubeListFrom (i + 1) r
  | i, some t :: r =>
    if t.state = .disabled then tubeListFrom (i + 1) r
    else insertTube { index := i, avail := available t, denom := t.denomination } (tubeListFrom (i + 1) r)

/-- R22: the tube list of a run. -/
def tubeList (s : State) : List PlanTube := tubeListFrom 1 s.cnu.tubes

/-- R24: the coin numbers of every candidate for an amount, one list for each backoff vector that yields one. -/
def candidates : List PlanTube → Nat → List (List Nat)
  | [], _ => []
  | [t], rem => [[min t.avail (rem / t.denom)]]
  | t :: r, rem =>
    let g := min t.avail (rem / t.denom)
    (List.range 4).flatMap fun b =>
      if b ≤ g then (candidates r (rem - (g - b) * t.denom)).map fun ns => (g - b) :: ns else []

/-- R24: the amount coin numbers pay. -/
def planAmount : List PlanTube → List Nat → Nat
  | t :: r, n :: ns => n * t.denom + planAmount r ns
  | _, _ => 0

/-- R25: the first list is lexicographically larger. -/
def lexGreater : List Nat → List Nat → Bool
  | a :: as, b :: bs => b < a || (a == b && lexGreater as bs)
  | _, _ => false

/-- R25: the first candidate comes before the second. -/
def comesFirst (ts : List PlanTube) (a b : List Nat) : Bool :=
  let pa := planAmount ts a
  let pb := planAmount ts b
  pb < pa || (pa == pb && (a.sum < b.sum || (a.sum == b.sum && lexGreater a b)))

/-- R25: the plan chosen; with no candidate (k = 0) the empty plan (R26). -/
def choose (ts : List PlanTube) : List (List Nat) → List Nat
  | [] => []
  | c :: cs => cs.foldl (fun best x => if comesFirst ts x best then x else best) c

/-- R21: the coin numbers of the plan a run for an amount returns, in the order of the tube list. -/
def plan (ts : List PlanTube) (due : Nat) : List Nat := choose ts (candidates ts due)

/-- R26: the run returns EXACT. -/
def planExact (s : State) (due : Nat) : Bool := planAmount (tubeList s) (plan (tubeList s) due) == due

/-- The first tube of the list with a coin number above 0. -/
def firstPaying : List PlanTube → List Nat → Option Nat
  | t :: r, n :: ns => if 0 < n then some t.index else firstPaying r ns
  | _, _ => none

/-- R31: the tube that pays the next coin of an amount due; none when the plan is empty. -/
def nextTube (s : State) (due : Nat) : Option Nat := firstPaying (tubeList s) (plan (tubeList s) due)

end Sys2Proof.Machine
end

