-- ==== Sys2Proof/Machine/Tubes.lean ====
section
/-! DEFINITION. Tube counts and states (R14 to R18) and the exact-change probe that follows them (R28 to R30). -/

namespace Sys2Proof.Machine

/-! ### The exact-change flag -/

/-- R28: the flag as the last probe and the change-short flag give it. -/
def exactChangeValue (s : State) : Bool := coinStation s && (s.cru.probeShort || s.cru.session.changeShort)

/-- R29: the flag is re-evaluated; a change of its value queues a STATUS. -/
def reevaluateExact (s : State) : State :=
  if exactChangeValue s = s.cru.exactChangeOnly then s
  else queueStatus (s.modCru fun c => { c with exactChangeOnly := exactChangeValue s })

/-- R28: one probe: a planner run for the change probe amount. Without a session it is not run and the flag is clear. -/
def probe (s : State) : State :=
  reevaluateExact (s.modCru fun c => { c with probeShort := coinStation s && !planExact s s.params.probeAmount })

/-- R29: a probe is run when the event has changed a tube's count or state since `before`; also between the enabling and the
reconciliation, where R30's first probe is still to come (DEDUCED, log 5). -/
def probeAfter (before : List (Option Tube)) (s : State) : State := if s.cnu.tubes = before then s else probe s

/-- Change a tube and run the probe if that altered it. -/
def changeTube (i : Nat) (f : Tube → Tube) (s : State) : State := probeAfter s.cnu.tubes (modTube i f s)

/-! ### Counts -/

/-- R15: a new count is clamped to 0 to capacity; a DISABLED tube's count stays 0. -/
def Tube.withCount (n : Nat) (t : Tube) : Tube :=
  { t with count := if t.state = .disabled then 0 else min n t.capacity }

/-- R16: the corrected count, the empty switch first and the full switch second. -/
def reconciled (t : Tube) (empty full : Bool) : Nat :=
  let a := if empty then max t.count (t.lowMark + 1) else min t.count t.lowMark
  if full then max a t.fullMark else min a (t.fullMark - 1)

/-- R16: a NORMAL or DRY tube's count after its switches; a DISABLED tube is left alone. -/
def Tube.reconcile (empty full : Bool) (t : Tube) : Tube :=
  if t.state = .disabled then t else t.withCount (reconciled t empty full)

/-- R18: the estimate of a tube in use: the low mark, then the corrections of R16. -/
def Tube.estimate (empty full : Bool) (t : Tube) : Tube :=
  if t.state = .disabled then { t with count := 0 }
  else Tube.reconcile empty full ({ t with state := .normal }.withCount t.lowMark)

/-- R14, R20: a DRY tube becomes NORMAL. -/
def Tube.revive (t : Tube) : Tube := { t with state := if t.state = .dry then .normal else t.state }

/-- R8: a coin routed to the tube. -/
def Tube.takeCoin (t : Tube) : Tube := (t.withCount (t.count + 1)).revive

/-- R63: a coin seen leaving the tube. -/
def Tube.giveCoin (t : Tube) : Tube := t.withCount (t.count - 1)

/-- R64: the tube that failed its re-pulse. -/
def Tube.goDry (t : Tube) : Tube := { t with count := 0, state := if t.state = .normal then .dry else t.state }

end Sys2Proof.Machine
end

