-- ==== Sys2Proof/Machine/Operands.lean ====
section
/-! DEFINITION. What the commands' operands come to once read: the image applied with its clamps and structural faults
(R4, R13, R93, R173), the station condition the straps and the image give (R172, R174), the audit area (R180), and the
arguments of the service requests (TABLE 11-2, R177). -/

namespace Sys2Proof.Machine

/-! ### Parameters (R173) -/

/-- R57: the credit idle time as loaded. -/
def idleTimeOf (v : Nat) : Nat := if v = 0 then 0 else clampNat 30 600 v

/-- R124: the stall threshold as loaded, above the open threshold. -/
def stallOf (openT stall : Nat) : Nat := if clampNat 5 200 stall ≤ openT then openT + 1 else clampNat 5 200 stall

/-- R173: every parameter of a good image, clamped; times turned into ms (the defrost interval into s). -/
def paramsOf (i : Image) : Params :=
  { coinMech := isYes i.coinMech, cooling := isYes i.cooling, matrix := isYes i.matrix
    maxCredit := clampNat 1 9999 i.maxCredit, probeAmount := clampNat 1 9999 i.probeAmount
    idleTime := idleTimeOf i.idleTime, multiVend := isYes i.multiVend
    jamTime := clampNat 10 80 i.jamTime * 100, motorAmount := clampNat 1 2000 i.motorAmount
    openThreshold := clampNat 1 50 i.openThreshold
    stallThreshold := stallOf (clampNat 1 50 i.openThreshold) i.stallThreshold
    setPoint := clampInt (-50) 150 i.setPoint, differential := clampNat 5 100 i.differential
    minOff := clampNat 60 600 i.minOff * 1000, minOn := clampNat 30 600 i.minOn * 1000
    urgentMargin := clampNat 10 100 i.urgentMargin, startAmount := clampNat 1 2000 i.startAmount
    runAmount := clampNat 1 (clampNat 1 2000 i.startAmount) i.runAmount
    defrostInterval := clampNat 1 12 i.defrostInterval * 3600, defrostEnd := clampInt 0 200 i.defrostEnd
    maxDefrost := clampNat 10 60 i.maxDefrost * 60000, heaterAmount := clampNat 1 2000 i.heaterAmount
    saleLimit := clampInt (-50) 200 i.saleLimit, hotHoldTime := clampNat 5 120 i.hotHoldTime * 60000
    conversion := i.conversion.map (clampInt (-999) 1999)
    ownLimit := clampNat 10 2000 i.ownLimit, baseLoad := clampNat 0 500 i.baseLoad
    loadStations := clampNat 1 14 i.loadStations }

/-! ### Coin types, tubes and slots (R4, R13, R93) -/

/-- R4: a coin type record as loaded. -/
def coinTypeOf (c : RawCoinType) : CoinType :=
  { value := clampNat 1 2000 c.value, enabled := isYes c.enabled, tube := if 1 ≤ c.tube ∧ c.tube ≤ 5 then some c.tube else none }

/-- R4: the six records when no image is good. -/
def noCoinTypes : List CoinType := List.replicate 6 { value := 1, enabled := false, tube := none }

/-- R13: the coin type record a tube names, when its coin type lies in 1 to 6. -/
def typeOfTube (types : List CoinType) (n : Nat) : Option CoinType :=
  match n with
  | 0 => none
  | j + 1 => types[j]?

/-- R13: a tube after its clamps, before its structural faults are looked for. -/
def clampTube (types : List CoinType) (r : RawTube) : Tube :=
  let cap := clampNat 10 250 r.capacity
  { coinType := r.coinType
    denomination := ((typeOfTube types r.coinType).map CoinType.value).getD (Config.noTypeDenomination r.coinType)
    capacity := cap, fullMark := clampNat 1 cap r.fullMark, lowMark := clampNat 1 cap r.lowMark
    reserve := clampNat 0 cap r.reserve, count := 0, state := .normal }

/-- R13: the structural faults of one tube, with the denominations already in use at lower indexes. -/
def tubeFaulty (types : List CoinType) (used : List Nat) (t : Tube) : Bool :=
  match typeOfTube types t.coinType with
  | none => true
  | some c => decide (t.fullMark ≤ t.lowMark) || !c.enabled || used.contains t.denomination

/-- R13: the tube records as loaded, NORMAL or DISABLED, in index order. -/
def loadTubes (types : List CoinType) : List Nat → List (Option RawTube) → List (Option Tube)
  | _, [] => []
  | used, none :: r => none :: loadTubes types used r
  | used, some x :: r =>
    let t := clampTube types x
    if tubeFaulty types used t then some { t with state := .disabled } :: loadTubes types used r
    else some t :: loadTubes types (t.denomination :: used) r

/-- R93: a slot record as the image gives it. -/
def slotOf (r : RawSlot) : Slot :=
  { price := clampNat 0 9999 r.price, turns := clampNat 1 4 r.turns, extraTurns := clampNat 0 2 r.extraTurns
    chilled := isYes r.chilled, state := if isYes r.ready then .ready else .disabled, stock := none, noDropRun := 0
    offHome := false }

/-! ### A read of the parameter area applied (R172 to R174) -/

/-- What the straps and the parameter area come to. -/
structure Applied where
  own : Station
  cause : Option Cause
  status : ImageStatus
  params : Params
  coinTypes : List CoinType
  tubes : List (Option Tube)
  slots : List (Option Slot)
  deriving DecidableEq, Repr

/-- R172: straps of 0 or 15 give no usable station number. -/
def strapsBad (straps : Station) : Bool := straps == 0 || straps == 15

/-- R173: the image status of a read. -/
def imageStatusOf : ParamRead → ImageStatus
  | .answered _ stored computed => if stored = computed then .good else .checkFailed
  | .noAnswer => .noAnswer

/-- R174: the cause of UNCONFIGURED; the straps come before the image. -/
def causeOf (straps : Station) (st : ImageStatus) : Option Cause :=
  if strapsBad straps then some .straps else if st = .good then none else some .image

/-- R173: an image with its matching check. -/
def goodImage : ParamRead → Option Image
  | .answered img stored computed => if stored = computed then some img else none
  | .noAnswer => none

/-- R172 to R174: straps and parameter area applied. -/
def applyImage (straps : Station) (r : ParamRead) : Applied :=
  let st := imageStatusOf r
  let cause := causeOf straps st
  match goodImage r with
  | some i =>
    let types := i.coinTypes.map coinTypeOf
    { own := straps, cause := cause, status := st, params := paramsOf i, coinTypes := types
      tubes := loadTubes types [] i.tubes
      slots := if cause.isNone then i.slots.map (Option.map slotOf) else List.replicate 80 none }
  | none =>
    { own := straps, cause := cause, status := st, params := State.noImageParams, coinTypes := noCoinTypes
      tubes := List.replicate 5 none, slots := List.replicate 80 none }

/-- R178: the code of an image status. -/
def ImageStatus.code : ImageStatus → Byte
  | .good => 0 | .checkFailed => 1 | .noAnswer => 2

/-! ### Records at a service restart (R19, R93) -/

/-- R19: a tube record after a restart, from the record kept and the record as loaded. -/
def restartTube (kept loaded : Option Tube) (empty full : Bool) : Option Tube :=
  loaded.map fun n =>
    if n.state = .disabled then n
    else
      match kept with
      | some t => if t.state = .disabled then n.estimate empty full else { n with state := t.state, count := min t.count n.capacity }
      | none => n.estimate empty full

/-- R93: a slot record after a restart. -/
def restartSlot (kept loaded : Option Slot) : Option Slot :=
  loaded.map fun n =>
    match kept with
    | some t => { n with stock := t.stock, offHome := t.offHome }
    | none => n

/-! ### The audit area (R180) -/

/-- What the audit area holds with a good check after a read. -/
def auditContents (kept : Option AuditTotals) : AuditRead → Option AuditTotals
  | .kept => kept
  | .replaced t stored computed => if stored = computed then some t else none
  | .noAnswer => kept

/-- R180: the totals loaded from a read; none when the check fails or the memory does not answer. -/
def auditLoaded (kept : Option AuditTotals) : AuditRead → Option AuditTotals
  | .kept => kept
  | .replaced t stored computed => if stored = computed then some t else none
  | .noAnswer => none

/-! ### Service arguments (TABLE 11-2, R177) -/

/-- R177: a flag argument is 0 or 1. -/
def flagArg (b : Byte) : Bool := b == 0 || b == 1

/-- R177: the record of a slot argument; none when the number is above 79 or the record absent. -/
def slotArg (b : Byte) (s : State) : Option Slot := if b.toNat ≤ 79 then slotAt s b.toNat else none

/-- R177: the record of a tube argument. -/
def tubeArg (b : Byte) (s : State) : Option Tube := if 1 ≤ b.toNat ∧ b.toNat ≤ 5 then tubeAt s b.toNat else none

/-- The two-byte amount of an argument pair, high byte first. -/
def pairArg (hi lo : Byte) : Nat := numberOf [hi, lo]

/-- R178: the total an AUDIT-READ selector names: a slot's vend count, or a total of TABLE 11-4 in its order. -/
def auditTotal (sel : Nat) (t : AuditTotals) : Option Nat :=
  if sel ≤ 79 then some ((t.vendCounts[sel]?).getD 0)
  else if sel < 100 then none
  else
    [t.credited, t.toTubes, t.toCashbox, t.sold, t.paidOut, t.forfeited, t.overpay, t.shortPays, t.unpaidVends,
      t.unsettledHolds, t.spuriousDrops, t.jams, t.unstoredCoins, t.badFrames, t.vendSum][sel - 100]?

end Sys2Proof.Machine
end

