-- ==== Sys2Proof/Machine/Cache.lean ====
section
/-! DEFINITION. The Credit Cache (5.1): entries by rising station number, at most 8, and the session number memory. -/

namespace Sys2Proof.Machine

/-- The cache entry of a credit station. -/
def cacheEntry (st : Station) (s : State) : Option CacheEntry := s.cca.entries.find? fun e => e.station == st

/-- Put an entry into its place by station number. -/
def insertEntry (e : CacheEntry) : List CacheEntry → List CacheEntry
  | [] => [e]
  | x :: r => if e.station.toNat < x.station.toNat then e :: x :: r else x :: insertEntry e r

/-- R78: the entry of a station is removed. -/
def removeEntry (st : Station) (l : List CacheEntry) : List CacheEntry := l.filter fun e => e.station != st

/-- R77: the entry displaced by a new one: the greatest age, and of equal ages the lowest station number. -/
def oldestEntry : List CacheEntry → Option CacheEntry
  | [] => none
  | e :: r =>
    match oldestEntry r with
    | none => some e
    | some o => if o.age ≤ e.age then some e else some o

/-- R77: a full cache gives up its oldest entry. -/
def makeRoom (l : List CacheEntry) : List CacheEntry :=
  if l.length < Config.cacheSize then l
  else
    match oldestEntry l with
    | some o => removeEntry o.station l
    | none => l

/-- R76, R77: a CREDIT taken: a refresh or a replacement leaves the notice's values with age zero, as a new entry does. -/
def takeCredit (n : CacheEntry) (l : List CacheEntry) : List CacheEntry :=
  match l.find? (fun e => e.station == n.station) with
  | some e =>
    if e.number = n.number ∧ e.version = n.version then l.map fun x => if x.station = n.station then { x with age := 0 } else x
    else l.map fun x => if x.station = n.station then n else x
  | none => insertEntry n (makeRoom l)

/-- R79: the session number memory's position of a station. -/
def rememberedNumber (st : Station) (s : State) : Option Byte :=
  match st.toNat with
  | 0 => none
  | j + 1 => recordAt s.cca.memory j

/-- R79: a position of the session number memory is set. -/
def rememberNumber (st : Station) (n : Byte) (c : Cca) : Cca :=
  match st.toNat with
  | 0 => c
  | j + 1 => { c with memory := c.memory.modify j fun _ => some n }

end Sys2Proof.Machine
end

