-- ==== Sys2Proof/Machine/Load.lean ====
section
/-! DEFINITION. The Load Budget Unit (Chapter 9): the tests of own records, the owners' five requests, the endings of a
claim round, the peer load table, and the changes to and from ISOLATED. A grant leaves a signal for the record's owner. -/

namespace Sys2Proof.Machine

/-! ### Tests of own records (R153, R154, R161) -/

/-- R156, R161: the record becomes HELD, the own total rises and its owner is to be told. Held off is left as it stands, as
at a withdrawal (DESIGN CHOICE, log 12). -/
def grantLoad (k : LoadKind) (s : State) : State :=
  signal (.granted k) (announceChange (modLoad k (fun l => { l with state := .held, window := none, metFull := false }) s))

/-- R153: a passed test: the next sequence is taken and the CLAIM queued, unless the transmit queue is full. A record that met
the full queue stays WAITING, and the later tests of the same event do not count it (DESIGN CHOICE, log 12). -/
def queueClaim (k : LoadKind) (s : State) : State :=
  let l := s.lbu.load k
  let q := s.lbu.claimCounter + 1
  let r := request (.claim k l.cls l.amount q) s
  if r.2 then
    modLoad k (fun l => { l with state := .queued, sequence := q, metFull := false })
      (r.1.modLbu fun b => { b with claimCounter := q })
  else modLoad k (fun l => { l with waitAge := 0, metFull := true }) s

/-- R153, R161: the test of one record, when it is WAITING. -/
def testOne (k : LoadKind) (s : State) : State :=
  let l := s.lbu.load k
  if l.state ≠ .waiting then s
  else if isolated s then
    if fitsSolo k s then grantLoad k s else modLoad k (fun l => { l with metFull := false }) s
  else if l.heldOff then s
  else if fits k s then queueClaim k s
  else modLoad k (fun l => { l with metFull := false }) s

/-- R153: every WAITING record is tested, in class order. -/
def testWaiting (s : State) : State := testOne .heater (testOne .compressor (testOne .motor s))

/-- R153: every WAITING record but one is tested, in class order. -/
def testOthers (k : LoadKind) (s : State) : State :=
  let t (j : LoadKind) (s : State) : State := if j = k then s else testOne j s
  t .heater (t .compressor (t .motor s))

/-- R153, R161: the test of one record. A grant by the solo rule changes the own total, at which the others are tested. -/
def testRecord (k : LoadKind) (s : State) : State :=
  let t := testOne k s
  if ownTotal t = ownTotal s then t else testOthers k t

/-- A record returns to WAITING with its wait age restarted. -/
def waitAgain (k : LoadKind) (s : State) : State :=
  modLoad k (fun l => { l with state := .waiting, waitAge := 0, metFull := false, window := none }) s

/-- R154: the test of a QUEUED record; a CLAIM that no longer fits and has not begun is removed. -/
def retestQueued (k : LoadKind) (s : State) : State :=
  let l := s.lbu.load k
  if l.state = .queued ∧ claimBegun k l.sequence s = false ∧ fits k s = false then
    waitAgain k (removeClaim k l.sequence s)
  else s

/-- R157, R162: held off clears on every own record. -/
def clearHeldOff (s : State) : State :=
  s.modLbu fun b =>
    { b with
      motor := { b.motor with heldOff := false }, compressor := { b.compressor with heldOff := false }
      heater := { b.heater with heldOff := false } }

/-- R153, R154, R157: what a change of the peer load table does to the own records. -/
def tableChanged (s : State) : State :=
  testWaiting (retestQueued .heater (retestQueued .compressor (retestQueued .motor (clearHeldOff s))))

/-! ### The owners' requests (R152, R154, R158) -/

/-- R152: a RELEASE is queued, and the change number advances with it. The RELEASE is queued before the STATUS of the same
event and takes the one place that may be free (DESIGN CHOICE, log 14). -/
def sendRelease (k : LoadKind) (q : Byte) (s : State) : State := announceChange (send (.release k q) s)

/-- R152: a request on a record in NONE, tested at once. -/
def askLoad (k : LoadKind) (cls : ClaimClass) (amount : Nat) (s : State) : State :=
  if (s.lbu.load k).state = .none then
    testRecord k (modLoad k (fun l =>
      { l with
        state := .waiting, cls := cls, amount := amount, waitAge := 0, heldOff := false, metFull := false
        window := none }) s)
  else s

/-- The record becomes NONE; class and amount stay those last asked (DESIGN CHOICE, log 47). A held off that stands is left until a change of the peer load table, the end of ISOLATED or the
next request clears it (DESIGN CHOICE, log 12). -/
def clearLoad (k : LoadKind) (s : State) : State :=
  modLoad k (fun l => { l with state := .none, metFull := false, window := none }) s

/-- R158: a withdrawal by the record's state. Its RELEASE and the STATUS come before the CLAIMs of the others' tests (DESIGN CHOICE,
log 14). -/
def withdrawLoad (k : LoadKind) (s : State) : State :=
  let l := s.lbu.load k
  match l.state with
  | .waiting => if isolated s then testWaiting (clearLoad k s) else clearLoad k s
  | .queued =>
    testWaiting
      (if claimBegun k l.sequence s then sendRelease k l.sequence (clearLoad k s)
        else clearLoad k (removeClaim k l.sequence s))
  | .proposed => testWaiting (sendRelease k l.sequence (clearLoad k s))
  | .none => s
  | .held => s

/-- R158: the release of a HELD record. The records that wait are tested at the release itself; a record asked for later in the same
event, as MOTOR is by the next selection after a vend's end, is tested at its request, after them (DESIGN CHOICE, log 46). The
STATUS of the changed own total (R152) is queued before the CLAIMs of these tests, and so takes the one place that may be free
(DESIGN CHOICE, log 14). -/
def releaseLoad (k : LoadKind) (s : State) : State :=
  if (s.lbu.load k).state = .held then testWaiting (announceChange (clearLoad k s)) else s

/-- R130, R163: a record is given up: released when HELD, withdrawn otherwise. -/
def giveUp (k : LoadKind) (s : State) : State :=
  if (s.lbu.load k).state = .held then releaseLoad k s else withdrawLoad k s

/-- R154: the class of a request is raised. -/
def raiseClass (k : LoadKind) (cls : ClaimClass) (s : State) : State :=
  let l := s.lbu.load k
  let stored := modLoad k (fun l => { l with cls := cls }) s
  match l.state with
  | .waiting => stored
  | .queued =>
    if claimBegun k l.sequence s then stored
    else send (.claim k cls l.amount l.sequence) (removeClaim k l.sequence stored)
  | .proposed => stored
  | .none => s
  | .held => s

/-- R152: the amount of a HELD record is lowered without a test; an equal amount changes nothing. The STATUS comes before the CLAIMs
of the records that are tested (DESIGN CHOICE, log 14). -/
def lowerAmount (k : LoadKind) (amount : Nat) (s : State) : State :=
  if (s.lbu.load k).state = .held ∧ (s.lbu.load k).amount ≠ amount then
    testWaiting (announceChange (modLoad k (fun l => { l with amount := amount }) s))
  else s

/-! ### The claim round (R155 to R157) -/

/-- R155: the transmission of the CLAIM of a record and sequence ends. The move from QUEUED to PROPOSED is no departure from
the two, so it tests no other record (R153; DEDUCED, log 10). -/
def claimEnded (k : LoadKind) (q : Byte) (completed : Bool) (s : State) : State :=
  let l := s.lbu.load k
  if l.state = .queued ∧ l.sequence = q then
    if completed then modLoad k (fun l => { l with state := .proposed, window := some 0 }) s
    else testWaiting (waitAgain k s)
  else s

/-- R156: the window of a PROPOSED record ends. What the record queues itself, its RELEASE and the STATUS, comes before the CLAIMs
of the others' tests (DESIGN CHOICE, log 14). -/
def decideProposed (k : LoadKind) (s : State) : State :=
  if fits k s then testWaiting (grantLoad k s)
  else testOthers k (sendRelease k (s.lbu.load k).sequence (waitAgain k s))

/-- R157: an OBJECT defeats the PROPOSED record `k`; its RELEASE and the STATUS come before the others' CLAIMs (DESIGN CHOICE,
log 14). -/
def defeatClaim (k : LoadKind) (s : State) : State :=
  testOthers k
    (modLoad k (fun l => { l with heldOff := true }) (sendRelease k (s.lbu.load k).sequence (waitAgain k s)))

/-- R157: an OBJECT directed to this station. -/
def takeObject (kind sequence : Byte) (sum : Half) (s : State) : State :=
  let s1 := s.modLbu fun b => { b with objectSum := some sum }
  let ignored := s1.modLbu fun b => { b with ignored := countUp b.ignored 1 }
  match LoadKind.ofCode kind with
  | some k =>
    if (s.lbu.load k).state = .proposed ∧ (s.lbu.load k).sequence = sequence then defeatClaim k s1 else ignored
  | none => ignored

/-! ### ISOLATED (R161, R162) -/

/-- R161: a record leaves QUEUED or PROPOSED by the solo rule; a claim the peers may have heard is released. -/
def decideSolo (k : LoadKind) (s : State) : State :=
  let l := s.lbu.load k
  match l.state with
  | .queued =>
    let begun := claimBegun k l.sequence s
    let s1 := removeClaim k l.sequence s
    if fitsSolo k s1 then grantLoad k s1
    else if begun then sendRelease k l.sequence (waitAgain k s1)
    else waitAgain k s1
  | .proposed => if fitsSolo k s then grantLoad k s else sendRelease k l.sequence (waitAgain k s)
  | .waiting => s
  | .none => s
  | .held => s

/-- A record is QUEUED or PROPOSED. -/
def OwnLoad.claiming (l : OwnLoad) : Bool := l.state == .queued || l.state == .proposed

/-- R161: the LBU at the change to ISOLATED. The departures let every WAITING record be tested. -/
def becomeIsolated (s : State) : State :=
  let s1 := decideSolo .heater (decideSolo .compressor (decideSolo .motor s))
  if s.lbu.motor.claiming || s.lbu.compressor.claiming || s.lbu.heater.claiming then testWaiting s1 else s1

/-- R162: the LBU at the change from ISOLATED. -/
def leaveIsolated (s : State) : State := testWaiting (clearHeldOff s)

/-- R170: ISOLATED has or has not changed since it was `was`. -/
def noteIsolation (was : Bool) (s : State) : State :=
  if isolated s = was then s
  else if isolated s then queueStatus (becomeIsolated s)
  else queueStatus (leaveIsolated s)

/-! ### The peer load table (R148, R149, R159, R160) -/

/-- The entry of a station. -/
def peerAt (st : Station) (s : State) : Option Peer := s.lbu.peers.find? fun e => e.station == st

/-- Put an entry into its place by station number. -/
def insertPeer (e : Peer) : List Peer → List Peer
  | [] => [e]
  | x :: r => if e.station.toNat < x.station.toNat then e :: x :: r else x :: insertPeer e r

/-- R148: an entry as it is created. -/
def newPeer (st : Station) : Peer :=
  { station := st, live := true, total := 0, limit := 0, change := none, door := false, isolated := false
    unconfigured := false, listenOnly := false, age := 0, claims := [] }

/-- Change the entry of a station. -/
def modPeer (st : Station) (f : Peer → Peer) (s : State) : State :=
  s.modLbu fun b => { b with peers := b.peers.map fun e => if e.station = st then f e else e }

/-- Remove the entry of a station. -/
def removePeer (st : Station) (s : State) : State :=
  s.modLbu fun b => { b with peers := b.peers.filter fun e => e.station != st }

/-- R148: the source of a good frame is noted. -/
def notePeer (st : Station) (s : State) : State :=
  match peerAt st s with
  | none => s.modLbu fun b => { b with peers := insertPeer (newPeer st) b.peers }
  | some _ => modPeer st (fun e => { e with age := 0, live := true }) s

/-- R148, R160: a STATUS sets the entry, and a new change number clears its claims. -/
def Peer.takeStatus (change : Byte) (total limit : Nat) (flags : Byte) (e : Peer) : Peer :=
  { e with
    total := total, limit := limit, change := some change
    door := flags.getLsbD 0, isolated := flags.getLsbD 1, unconfigured := flags.getLsbD 2, listenOnly := flags.getLsbD 3
    claims :=
      if e.change = some change then e.claims
      else e.claims.filter fun c => !(c.assumed || decide (Config.droppableAge ≤ c.heardAge)) }

/-- R159: a CLAIM becomes a pending claim of the entry. -/
def newClaim (kind : Byte) (cls : ClaimClass) (amount : Nat) (sequence : Byte) : Claim :=
  { kind := kind, cls := cls, amount := amount, sequence := sequence, heardAge := 0, assumed := false }

/-- R159, R160: a claim takes the place of one of its kind, joins the list, or is an excess claim. -/
def Peer.takeClaim (c : Claim) (e : Peer) : Peer :=
  if e.claims.any fun x => x.kind == c.kind then
    { e with claims := e.claims.map fun x => if x.kind = c.kind then c else x }
  else if e.claims.length < Config.claimPlaces then { e with claims := e.claims ++ [c] }
  else
    { e with
      total :=
        if e.total + c.amount ≤ 65535 then e.total + c.amount else Config.announcedOverflow (e.total + c.amount) }

/-- R159: the claim is listed, not an excess claim. -/
def Peer.lists (kind : Byte) (e : Peer) : Bool :=
  (e.claims.any fun x => x.kind == kind) || decide (e.claims.length < Config.claimPlaces)

/-- R160: a RELEASE drops the claim it names. -/
def Peer.takeRelease (kind sequence : Byte) (e : Peer) : Peer :=
  { e with claims := e.claims.filter fun c => !(c.kind == kind && c.sequence == sequence) }

/-- What R150 counts of an entry: without its ages, and without the kept flags. -/
structure PeerKey where
  station : Station
  live : Bool
  counted : Nat
  limit : Nat
  claims : List Claim
  deriving DecidableEq

/-- R150: what of the table counts as changed when it differs: entries, LIVE or LOST, counted totals, limits, claims. -/
def tableKey (s : State) : List PeerKey :=
  s.lbu.peers.map fun e =>
    { station := e.station, live := e.live, counted := countedTotal s e, limit := e.limit
      claims := e.claims.map fun c => { c with heardAge := 0, assumed := false } }

/-- R150, R153: the own records are tested when the table differs from what it was before. -/
def afterTable (before s : State) : State := if tableKey s = tableKey before then s else tableChanged s

/-- R159: the conditions under which an OBJECT is queued to a claimer. -/
def objects (s : State) : Bool :=
  announcedLimit s != 0 && !isolated s && decide (effectiveLimit s < objectionView s)

end Sys2Proof.Machine
end

