-- ==== Sys2Proof/Machine/Cooling.lean ====
section
/-! DEFINITION. The Refrigeration Controller (Chapter 8): averaging and conversion, the sensor update, the compressor
states, the defrost, fixed duty and the chilled sale state, as operations that the cooling commands combine. -/

namespace Sys2Proof.Machine

/-! ### Averaging and conversion (R127, R128) -/

/-- R127: the average code of eight samples, remainder discarded. -/
def averageOf (samples : Vector (BitVec 10) 8) : Nat := (samples.toList.map BitVec.toNat).sum / 8

/-- R128: the temperature of an average code by the conversion table; the step is truncated toward zero. -/
def convert (table : List Int) (c : Nat) : Int :=
  let j := c / 64
  let a := table[j]?.getD 0
  let b := table[j + 1]?.getD 0
  a + ((b - a) * (c % 64 : Nat)).tdiv 64

/-- R129: a code inside 16 to 1007. -/
def codeInside (c : Nat) : Bool := decide (16 ≤ c) && decide (c ≤ 1007)

/-- R129: a run that stops at 3. -/
def runUp (n : Nat) : Nat := min 3 (n + 1)

/-- R129: the sensor record after an average. -/
def SensorRecord.update (table : List Int) (c : Nat) (r : SensorRecord) : SensorRecord :=
  if codeInside c then
    let run := runUp r.inRun
    let taken := r.state == .valid || run == 3
    { r with
      average := c, inRun := run, outRun := 0
      state := if taken then .valid else r.state
      reading := if taken then some (convert table c) else none }
  else
    let run := runUp r.outRun
    { r with
      average := c, outRun := run, inRun := 0
      state := if run = 3 then .faulted else r.state
      reading := if run = 3 then none else r.reading }

/-! ### Conditions -/

/-- R132, R136: fixed duty is in force. -/
def fixedDuty (s : State) : Bool := s.rfc.cabinet.state == .faulted

/-- R132: OFF enters WANT. -/
def wantsCool (s : State) : Bool :=
  s.rfc.cabinet.reads (fun t => cutIn s ≤ t)
    || (fixedDuty s && (s.rfc.offTimer.map fun t => decide (Config.fixedOff ≤ t)).getD false)

/-- R132, R133: a request is urgent by its reading. -/
def urgentReading (s : State) : Bool := s.rfc.cabinet.reads (fun t => urgentFrom s ≤ t)

/-- R133, R135: the cabinet reading is at or below the cut-out. -/
def cooled (s : State) : Bool := s.rfc.cabinet.reads (fun t => t ≤ cutOut s)

/-- R133, R135: the cycle timer has reached 10 min under fixed duty. -/
def dutyOver (s : State) : Bool :=
  fixedDuty s && (s.rfc.cycleTimer.map fun t => decide (Config.fixedOn ≤ t)).getD false

/-- R135: the on timer has reached the minimum on time. -/
def onLongEnough (s : State) : Bool := (s.rfc.onTimer.map fun t => decide (s.params.minOn ≤ t)).getD false

/-- R139: the evaporator sensor is VALID with its reading at or above the defrost end temperature. -/
def coilClear (s : State) : Bool := s.rfc.evaporator.reads (fun t => s.params.defrostEnd ≤ t)

/-! ### The compressor (R131 to R135) -/

/-- R132: WANT is entered from OFF, its class chosen and the COMPRESSOR load asked for. -/
def enterWant (s : State) : State :=
  let c : ClaimClass := if urgentReading s then .coolUrgent else .cool
  askLoad .compressor c s.params.startAmount
    (s.modRfc fun r => { r with state := .want, cycleTimer := some 0, classAsked := c })

/-- R132: the test made in OFF. -/
def testOff (s : State) : State := if s.rfc.state = .off ∧ wantsCool s = true then enterWant s else s

/-- R131: OFF-LOCKOUT with its lockout timer from zero. -/
def enterLockout (s : State) : State := s.modRfc fun r => { r with state := .offLockout, lockoutTimer := some 0 }

/-- R131: the lockout ends in OFF, and the test of R132 is made. -/
def endLockout (s : State) : State := testOff (s.modRfc fun r => { r with state := .off, lockoutTimer := none })

/-- R133: the request is withdrawn and the state becomes OFF. The class asked, which TABLE 8-3 gives for the present request alone,
keeps the class of the request that has ended (DESIGN CHOICE, log 47). -/
def withdrawWant (s : State) : State :=
  withdrawLoad .compressor (s.modRfc fun r => { r with state := .off, cycleTimer := none })

/-- R133: the withdrawal at the end of the on phase, which restarts the off timer. -/
def endDutyWait (s : State) : State := withdrawWant (s.modRfc fun r => { r with offTimer := some 0 })

/-- R133: the class asked is raised, once. -/
def raiseWant (s : State) : State :=
  if s.rfc.classAsked = .cool then
    raiseClass .compressor .coolUrgent (s.modRfc fun r => { r with classAsked := .coolUrgent })
  else s

/-- R134: the COMPRESSOR grant. -/
def startCompressor (s : State) : State :=
  s.modRfc fun r => { r with state := .starting, startTimer := some 0, onTimer := some 0, second := 0 }

/-- R134: the start window ends. -/
def endStart (s : State) : State :=
  lowerAmount .compressor s.params.runAmount (s.modRfc fun r => { r with state := .running, startTimer := none })

/-- R138: DEFROST-HEAT is entered in mode WAITING and the HEATER load asked for. -/
def startDefrost (s : State) : State :=
  askLoad .heater .defrost s.params.heaterAmount
    (s.modRfc fun r => { r with state := .defrostHeat, defrostTimer := some 0, heaterMode := some .waiting })

/-- R137: defrost due stands, or is set by an accumulator at or above the interval. -/
def dueNow (s : State) : Bool := s.rfc.defrostDue || decide (s.params.defrostInterval ≤ s.rfc.accumulator)

/-- R137: a whole second of compressor running is counted. -/
def addSecond (s : State) : State :=
  let s1 := s.modRfc fun r => { r with second := 0, accumulator := countUp r.accumulator 1 }
  s1.modRfc fun r => { r with defrostDue := dueNow s1 }

/-- R137: a second that stands whole at the relay's opening is counted before it opens. -/
def wholeSecond (s : State) : State := if 1000 ≤ s.rfc.second then addSecond s else s

/-- R135: the stop, with every whole second counted. The class asked stays (DESIGN CHOICE, log 47). -/
def openRelay (s : State) : State :=
  let s1 := s.modRfc fun r =>
    { r with
      state := if r.defrostDue then .defrostHeat else .offLockout
      onTimer := none, cycleTimer := none, offTimer := some 0, second := 0 }
  let s2 := releaseLoad .compressor s1
  if s.rfc.defrostDue then startDefrost s2 else enterLockout s2

/-- R135: the stop. The part of a second that is not whole is discarded (R137). -/
def stopCompressor (s : State) : State := openRelay (wholeSecond s)

/-- R135: the test for a stop made in RUNNING. -/
def testStop (s : State) : State :=
  if s.rfc.state = .running ∧ onLongEnough s = true ∧ (cooled s = true ∨ dutyOver s = true) then stopCompressor s else s

/-- R133: the tests made in WANT at a cabinet reading or sensor state event. -/
def testWant (s : State) : State :=
  if s.rfc.state ≠ .want then s
  else if cooled s then withdrawWant s
  else if dutyOver s then endDutyWait s
  else if urgentReading s then raiseWant s
  else s

/-- R131 to R136: a cabinet reading or sensor state event reaches the compressor record. -/
def cabinetEvent (s : State) : State :=
  match s.rfc.state with
  | .off => testOff s
  | .want => testWant s
  | .running => testStop s
  | .offLockout => s
  | .starting => s
  | .defrostHeat => s
  | .defrostDrip => s
  | .absent => s

/-! ### The defrost (R138 to R140) -/

/-- R138: the HEATER grant. -/
def startHeating (s : State) : State := s.modRfc fun r => { r with heaterMode := some .heating }

/-- R138: the heater wait ends without a grant. -/
def endHeaterWait (s : State) : State :=
  withdrawLoad .heater (s.modRfc fun r => { r with heaterMode := some .offCycle })

/-- R139: DEFROST-HEAT ends, the HEATER load given up by its mode, and the drip begins. The heater mode is none from here on
(DESIGN CHOICE, log 41). -/
def endDefrost (s : State) : State :=
  giveUp .heater
    (s.modRfc fun r =>
      { r with state := .defrostDrip, defrostTimer := none, heaterMode := none, dripTimer := some 0 })

/-- R139: an evaporator reading reaches a defrost. -/
def evaporatorEvent (s : State) : State :=
  if s.rfc.state = .defrostHeat ∧ coilClear s = true then endDefrost s else s

/-- R140: the drip ends. -/
def endDrip (s : State) : State :=
  enterLockout (s.modRfc fun r => { r with accumulator := 0, defrostDue := false, dripTimer := none })

/-! ### The sale state (R142 to R144) -/

/-- R142: sellable cold as its three conditions give it. -/
def coldNow (s : State) : Bool := cabinetCold s && !s.rfc.hotHold

/-- R143: the warm timer runs while HOT-HOLD is clear and the cabinet is warm or unread. -/
def warmTimerNow (s : State) : Option Nat :=
  if s.rfc.hotHold then none else if cabinetCold s then none else some (s.rfc.warmTimer.getD 0)

/-- R142, R143: sellable cold and the warm timer are evaluated again. -/
def evaluateSale (s : State) : State :=
  s.modRfc fun r => { r with sellableCold := coldNow s, warmTimer := warmTimerNow s }

/-- R143: HOT-HOLD latches. -/
def latchHotHold (s : State) : State :=
  queueStatus (evaluateSale (s.modRfc fun r => { r with hotHold := true }))

/-- R144: HOT-HOLD is cleared; the warm timer starts from zero while the cabinet is still warm. -/
def clearHotHold (s : State) : State :=
  queueStatus (evaluateSale (s.modRfc fun r => { r with hotHold := false, warmTimer := none }))

/-! ### ABSENT and the power-up state (R145, R146) -/

/-- R145: the RFC in ABSENT. The class asked, of which the rule gives no value there, is COOL (log 3). -/
def absentRfc : Rfc :=
  { cabinet := State.awaitingSensor, evaporator := State.awaitingSensor, state := .absent, lockoutTimer := none
    cycleTimer := none, classAsked := .cool, startTimer := none, onTimer := none, offTimer := none, accumulator := 0
    second := 0, defrostDue := false, defrostTimer := none, heaterMode := none, dripTimer := none, sellableCold := false
    warmTimer := none, hotHold := false }

/-- R146: the RFC as cooling comes up; the class asked is COOL until a request is made (log 3). -/
def freshRfc : Rfc :=
  { absentRfc with state := .offLockout, lockoutTimer := some 0, offTimer := some 0, warmTimer := some 0 }

end Sys2Proof.Machine
end

