-- ==== Sys2Proof/Machine/Credit.lean ====
section
/-! DEFINITION. The credit session (Chapter 3) and its payout (Chapter 4) as operations: the version and its CREDIT,
crediting, the DEBIT checks, the settlement, entering IDLE and PAYING, one coin step and the two endings of a payout. -/

namespace Sys2Proof.Machine

/-- R48: the amount in the hold, 0 when none exists. -/
def Session.heldAmount (c : Session) : Nat := (c.hold.map Hold.amount).getD 0

/-- Change the credit books. -/
def modBooks (f : Books → Books) (s : State) : State := s.modCru fun c => { c with books := f c.books }

/-- R35, R38: the version rises by 1, once in an event, and a CREDIT is queued. -/
def raiseVersion (s : State) : State :=
  if s.cru.versionRaised then s
  else
    queueCredit (s.modCru fun c =>
      { c with versionRaised := true, session := { c.session with version := c.session.version + 1 } })

/-- R57: the idle timer from zero, or stopped when the credit idle time is 0. -/
def freshIdle (s : State) : Option Nat := if s.params.idleTime = 0 then none else some 0

/-! ### Entering IDLE and OPEN, and the endings of a payout -/

/-- R56: the session enters IDLE. -/
def enterIdle (s : State) : State :=
  reevaluateExact (raiseVersion (s.modSession fun c =>
    { c with state := .idle, balance := 0, changeShort := false, escrowPending := false, idleTimer := none }))

/-- R49, R51: the session enters OPEN with its balance, the idle timer from zero. -/
def enterOpen (s : State) : State :=
  raiseVersion (s.modSession fun c => { c with state := .opened, idleTimer := freshIdle s })

/-- R67: the payout is complete. -/
def payoutComplete (s : State) : State := enterIdle (s.modCru fun c => { c with payout := none })

/-- R68: the payout ends short. -/
def payoutShort (s : State) : State :=
  let s1 := s.modCru fun c =>
    { c with payout := none, solenoid := none, books := { c.books with shortPays := countUp c.books.shortPays 1 } }
  let s2 := s1.modTotals fun t => { t with shortPays := countUp t.shortPays 1 }
  reevaluateExact (enterOpen (s2.modSession fun c => { c with changeShort := true }))

/-- R62: the pulse that begins a coin step or its re-pulse. -/
def pulse (tube attempt : Nat) (s : State) : State :=
  s.modCru fun c =>
    { c with
      solenoid := some { tube := tube, elapsed := 0 }
      payout := some { phase := .pulseWait, tube := some tube, attempt := attempt, window := some 0, clear := none } }

/-- R62, R32: a coin step: the planning run for the due, then the pulse of the tube of R31 or the short ending. -/
def coinStep (s : State) : State :=
  if s.cru.session.balance = 0 then payoutComplete s
  else
    match nextTube s s.cru.session.balance with
    | some i => pulse i 1 s
    | none => payoutShort s

/-- R65: the payout waits for the exit chute to clear. -/
def awaitClear (tube : Option Nat) (attempt : Nat) (s : State) : State :=
  s.modCru fun c =>
    { c with payout := some { phase := .exitClear, tube := tube, attempt := attempt, window := none, clear := some 0 } }

/-- R55, R62: the session enters PAYING and its first coin step is taken, or waits for the exit chute. -/
def enterPaying (s : State) : State :=
  let s1 := raiseVersion (s.modSession fun c =>
    { c with state := .paying, escrowPending := false, idleTimer := none })
  if s1.inputs.exit.level then awaitClear none 1 s1 else coinStep s1

/-! ### Crediting (R36, R37) -/

/-- R36: a credited coin opens an IDLE session. -/
def openSession (value : Nat) (s : State) : State :=
  let s1 := s.modSession fun c =>
    { c with
      number := c.number + 1, state := .opened, balance := value, changeShort := false, escrowPending := false
      idleTimer := freshIdle s }
  let s2 := modBooks (fun b => { b with credited := b.credited + value }) s1
  raiseVersion (s2.modTotals fun t => { t with credited := moneyUp t.credited value })

/-- R37: the space left under the ceiling. -/
def space (s : State) : Nat := Config.ceiling - s.cru.session.balance - s.cru.session.heldAmount

/-- R37: a credited coin taken in OPEN, HELD or PAYING. -/
def addCoin (value : Nat) (s : State) : State :=
  let entered := min value (space s)
  let excess := value - entered
  let s1 := modBooks (fun b => { b with credited := b.credited + entered, overpay := b.overpay + excess }) s
  let s2 := s1.modTotals fun t =>
    { t with credited := moneyUp t.credited entered, overpay := moneyUp t.overpay excess }
  if entered = 0 then s2
  else
    raiseVersion (s2.modSession fun c =>
      { c with
        balance := c.balance + entered
        idleTimer := if c.state = .opened then freshIdle s else c.idleTimer })

/-- R10: the hand-over of one routed coin's value. -/
def creditCoin (value : Nat) (s : State) : State :=
  if s.cru.session.state = .idle then openSession value s else addCoin value s

/-! ### DEBIT (R42 to R45) -/

/-- The answer to a debit: its outcome and the optional fields of TABLE 3-4. -/
structure DebitReply where
  outcome : DebitOutcome
  balance : Option Nat
  version : Option Half
  deriving DecidableEq, Repr

/-- TABLE 3-3: the first check that holds; `granted` where check 2 holds or no check does. -/
def debitCheck (requester : Station) (number : Byte) (amount : Nat) (tag : Byte) (expected : Option Half) (s : State) :
    DebitOutcome :=
  let c := s.cru.session
  if !coinStation s || number != c.number || c.state == .idle || c.state == .paying then .noSession
  else
    match c.hold with
    | some h => if h.requester = requester ∧ h.tag = tag then .granted else .heldBusy
    | none =>
      if expected ≠ some c.version then .stale
      else if c.balance < amount then .short
      else if 0 < c.balance - amount ∧ planExact s (c.balance - amount) = false then .noChange
      else .granted

/-- R43: the effects of a new grant. -/
def grantDebit (requester : Station) (amount : Nat) (tag : Byte) (s : State) : State :=
  raiseVersion (s.modSession fun c =>
    { c with
      balance := c.balance - amount, state := .held, idleTimer := none
      hold := some { requester := requester, tag := tag, amount := amount, age := 0 } })

/-- TABLE 3-4: the fields an answer carries, from the session after the event's changes. -/
def debitReply (o : DebitOutcome) (s : State) : DebitReply :=
  let c := s.cru.session
  match o with
  | .granted => ⟨o, some c.balance, some c.version⟩
  | .stale => ⟨o, some c.balance, some c.version⟩
  | .short => ⟨o, some c.balance, none⟩
  | .noSession => ⟨o, none, none⟩
  | .heldBusy => ⟨o, none, none⟩
  | .noChange => ⟨o, none, none⟩

/-- R42 to R44: a debit, from a frame or asked inside the part (R53): the checks, the grant, the answer. -/
def takeDebit (requester : Station) (number : Byte) (amount : Nat) (tag : Byte) (expected : Option Half) (s : State) :
    State × DebitReply :=
  let o := debitCheck requester number amount tag expected s
  let s' := if o = .granted ∧ s.cru.session.hold = none then grantDebit requester amount tag s else s
  (s', debitReply o s')

/-! ### SETTLE (R48 to R50) -/

/-- R48: a settlement matches the hold. -/
def settleMatches (requester : Station) (tag number : Byte) (s : State) : Bool :=
  match s.cru.session.hold with
  | some h => h.requester == requester && h.tag == tag && number == s.cru.session.number
  | none => false

/-- R49: the next state after a matching settlement. -/
def afterSettle (result : SettleResult) (s : State) : State :=
  let c := s.cru.session
  if c.escrowPending then
    let s1 := s.modSession fun c => { c with escrowPending := false }
    if c.balance = 0 then enterIdle s1 else enterPaying s1
  else if result = .vended ∧ s.params.multiVend = false ∧ 0 < c.balance then enterPaying s
  else if c.balance = 0 then enterIdle s
  else enterOpen s

/-- R48: the hold is removed, its amount sold or returned. -/
def endHold (result : SettleResult) (s : State) : State :=
  let a := s.cru.session.heldAmount
  let s1 := s.modSession fun c =>
    { c with hold := none, balance := if result = .notVended then c.balance + a else c.balance }
  if result = .vended then
    (modBooks (fun b => { b with sold := b.sold + a }) s1).modTotals fun t => { t with sold := moneyUp t.sold a }
  else s1

/-- R50: the answer to a settlement that matches no hold. -/
def unmatchedAnswer (requester : Station) (tag : Byte) (s : State) : SettleOutcome :=
  if s.cru.session.lastExpired = some ⟨requester, tag⟩ then .tooLate else .unknown

/-- R48 to R50: a settlement, from a frame or asked inside the part (R54). -/
def takeSettle (requester : Station) (tag number : Byte) (result : SettleResult) (s : State) : State × SettleOutcome :=
  if settleMatches requester tag number s then (afterSettle result (endHold result s), .ok)
  else (s, unmatchedAnswer requester tag s)

/-! ### Expiries and the lever -/

/-- R51: the hold expires. -/
def expireHold (h : Hold) (s : State) : State :=
  let s1 := s.modSession fun c =>
    { c with hold := none, balance := c.balance + h.amount, lastExpired := some ⟨h.requester, h.tag⟩ }
  let s2 := s1.modTotals fun t => { t with unsettledHolds := countUp t.unsettledHolds 1 }
  if s.cru.session.escrowPending then enterPaying s2 else enterOpen s2

/-- R58: the balance is forfeited. -/
def forfeit (s : State) : State :=
  let b := s.cru.session.balance
  let s1 := modBooks (fun k => { k with forfeited := k.forfeited + b }) s
  enterIdle (s1.modTotals fun t => { t with forfeited := moneyUp t.forfeited b })

/-- R58: the idle timer reaches the idle time in OPEN. -/
def expireIdle (s : State) : State := if s.cru.session.changeShort then forfeit s else enterPaying s

/-- R71: the escrow lever by session state. -/
def pressLever (s : State) : State :=
  match s.cru.session.state with
  | .opened => enterPaying s
  | .held => s.modSession fun c => { c with escrowPending := true }
  | .idle => s
  | .paying => s

/-- R39: the limit of the refresh timer. -/
def refreshLimit (c : Cru) : Nat := if c.owed then Config.owedTime else Config.refreshTime

/-- R39: the refresh timer expires. In LISTEN-ONLY it stops, whatever the session's state (DEDUCED, log 40). -/
def expireRefresh (s : State) : State :=
  if !listenOnly s && (s.cru.owed || s.cru.session.state != .idle) then queueCredit s
  else s.modCru fun c => { c with refresh := none }

/-! ### The payout's own events -/

/-- R63: a coin seen while a pulse of tube `i` is awaited. -/
def payCoin (i attempt : Nat) (s : State) : State :=
  let d := ((tubeAt s i).map Tube.denomination).getD 0
  let s1 := changeTube i Tube.giveCoin s
  let s2 := modBooks (fun b => { b with paidOut := b.paidOut + d }) s1
  let s3 := s2.modTotals fun t => { t with paidOut := moneyUp t.paidOut d }
  let s4 := raiseVersion (s3.modSession fun c => { c with balance := c.balance - d })
  if s4.cru.session.balance = 0 then payoutComplete s4 else awaitClear (some i) attempt s4

/-- R63, R66: a coin seen at the exit sensor. -/
def seeCoin (s : State) : State :=
  match s.cru.payout with
  | some { phase := .pulseWait, tube := some i, attempt := a, window := _, clear := _ } => payCoin i a s
  | _ => s.modCru fun c => { c with strayExits := countUp c.strayExits 1 }

/-- R64: the window of the present attempt passes with no coin seen. -/
def failAttempt (i attempt : Nat) (s : State) : State :=
  if attempt = 1 then pulse i 2 s else coinStep (changeTube i Tube.goDry s)

end Sys2Proof.Machine
end

