-- ==== Sys2Proof/Machine/Drive.lean ====
section
/-! DEFINITION. The Matrix Driver (Chapter 7): the staging buffer, the transfer at the drive tick, the presented cam input,
the readback of the eighteen lines, the drive fault and its clearing, and the judging of a current sample. -/

namespace Sys2Proof.Machine

/-- 0.6.3, R117: the row and column of a slot. -/
def pairOf (slot : Nat) : Pair := { row := BitVec.ofNat 3 (slot / 10), col := BitVec.ofNat 4 (slot % 10) }

/-- R118: VSQ writes the staging buffer. -/
def writeStaging (p : Option Pair) (s : State) : State := s.modMxd fun m => { m with staging := p }

/-- TABLE 7-2: what a tick transfers. -/
inductive Transfer where
  | none
  | latched (p : Pair)
  | allOff
  deriving DecidableEq, Repr

/-- TABLE 7-2: the transfer for a latch, a buffer and the MOTOR record HELD or not. -/
def transferOf (latch staging : Option Pair) (held : Bool) : Transfer :=
  match latch, staging with
  | none, none => .none
  | none, some p => if held then .latched p else .none
  | some _, none => .allOff
  | some p, some q => if p = q ∧ held = true then .none else .allOff

/-- R120: the presented cam input takes a level without an event. -/
def seedCam (level : Bool) (s : State) : State := s.modInputs fun n => { n with cam := Filter.standing level }

/-- R119: a pair is latched; supervision opens and the presented cam is seeded from its column's return line. -/
def latchPair (p : Pair) (s : State) : State :=
  seedCam (s.inputs.camLines.getLsbD p.col.toNat)
    (s.modMxd fun m =>
      { m with
        latch := some p, hold := 2, mismatch := 0, energised := some 0, samples := 0, stallRun := 0, supervision := true })

/-- R119: all-off is latched; the stall run stays that of the energisation that has ended (DESIGN CHOICE, log 47); the energised time stops, supervision closes and the presented cam is open. -/
def latchAllOff (s : State) : State :=
  seedCam false
    (s.modMxd fun m => { m with latch := none, hold := 2, mismatch := 0, energised := none, supervision := false })

/-! ### Readback (R121, R122) -/

/-- R121: the sensed level of a line, rows 0 to 7 then columns as 8 to 17. -/
def sensedLevel (rows : BitVec 8) (cols : BitVec 10) (line : Nat) : Bool :=
  if line < 8 then rows.getLsbD line else cols.getLsbD (line - 8)

/-- R122: the first line whose sensed level is not its latched level, rows before columns. -/
def firstDisagreement (rows : BitVec 8) (cols : BitVec 10) (m : Mxd) : Option FaultRecord :=
  ((List.range 18).find? fun i => sensedLevel rows cols i != latchedLevel m i).map fun i =>
    { line := i, latched := latchedLevel m i, sensed := sensedLevel rows cols i }

/-- R122: what the Matrix Driver itself does at the entry into FAULT, before its report to VSQ and the STATUS. -/
def enterFault (f : FaultRecord) (s : State) : State :=
  seedCam false
    (s.modMxd fun m =>
      { m with
        state := .fault, latch := none, staging := none, energised := none, supervision := false, mismatch := 0
        fault := some f })

/-- R121: the readback step of a tick in NORMAL, and the disagreement that must enter FAULT, if it does. -/
def readback (rows : BitVec 8) (cols : BitVec 10) (s : State) : State × Option FaultRecord :=
  if 0 < s.mxd.hold then (s.modMxd fun m => { m with hold := m.hold - 1 }, none)
  else
    match firstDisagreement rows cols s.mxd with
    | none => (s.modMxd fun m => { m with mismatch := 0 }, none)
    | some f => if s.mxd.mismatch = 0 then (s.modMxd fun m => { m with mismatch := 1 }, none) else (s, some f)

/-- R123: FAULT is left for `state`; the first tick after it does not compare. -/
def clearFaultState (state : DriveState) (s : State) : State :=
  queueStatus (s.modMxd fun m => { m with state := state, fault := none, mismatch := 0, hold := 1, staging := none })

/-! ### Current (R124, R125) -/

/-- What a current sample reports to VSQ. -/
inductive CurrentReport where
  | quiet
  | motorOpen
  | stall
  deriving DecidableEq, Repr

/-- R124: the energised time at which the next sample falls. -/
def sampleTime (m : Mxd) : Nat := Config.firstSample + Config.sampleStep * m.samples

/-- R124, R125: what a sample reports, with supervision open or closed. -/
def judgeSample (p : Params) (reading : Byte) (m : Mxd) : CurrentReport :=
  if m.supervision = false then .quiet
  else if m.samples = 0 then if reading.toNat < p.openThreshold then .motorOpen else .quiet
  else if p.stallThreshold < reading.toNat ∧ m.stallRun = 2 then .stall
  else .quiet

/-- R124, R125: the sample is stored, and tested while supervision is open. -/
def takeSample (p : Params) (reading : Byte) (m : Mxd) : Mxd :=
  { m with
    lastSample := reading
    samples := m.samples + 1
    stallRun :=
      if m.supervision = false ∨ m.samples = 0 then m.stallRun
      else if p.stallThreshold < reading.toNat then m.stallRun + 1 else 0
    supervision := m.supervision && judgeSample p reading m == .quiet }

end Sys2Proof.Machine
end

