-- ==== Sys2Proof/Machine/Vend.lean ====
section
/-! DEFINITION. The Vend Sequencer (5.2 to 5.5, Chapter 6): answers, payment and settlement, the motor and the drop window,
the outcome decision, leaving SETTLING, the motor test, and the taking of the signals left within an event. -/

namespace Sys2Proof.Machine

/-- The Vend Sequencer's state is set. -/
def setVsq (v : VsqState) (s : State) : State := s.modVsq fun q => { q with state := v }

/-- R82: a VEND-STATUS to a panel; the price is carried for INSUFFICIENT alone (TABLE 5-3). -/
def answerPanel (sel : Selection) (o : VendOutcome) (price : Nat) (s : State) : State :=
  send (.vendStatus sel.panel sel.tag o (if o = .insufficient then some price else none) none) s

/-- R84: the selection queue is emptied whole, each record answered in order. -/
def emptyQueue (o : VendOutcome) (s : State) : State :=
  (s.vsq.queue.foldl (fun t sel => answerPanel sel o 0 t) s).modVsq fun q => { q with queue := [] }

/-- R84: at LISTEN-ONLY the records are removed without answers. -/
def dropQueue (s : State) : State := s.modVsq fun q => { q with queue := [] }

/-- R85: the next vend tag. -/
def nextTag (s : State) : Byte := s.vsq.tagCounter + 1

/-- R85: the vend tag counter takes the next tag. -/
def takeTag (s : State) : State := s.modVsq fun q => { q with tagCounter := q.tagCounter + 1 }

/-- The credit station of a record as a station number. -/
def Selection.creditStation (r : Selection) : Station := BitVec.ofNat 4 r.credit

/-- R86: the record names this station's own session. -/
def paysAtHome (s : State) (r : Selection) : Bool := r.credit == s.ssu.own.toNat

/-! ### Slot records (R94, R107) -/

/-- TABLE 6-2: a jam or stall in a customer vend. -/
def SlotState.jam : SlotState → SlotState
  | .disabled => .disabled
  | .ready => .jammed
  | .soldOut => .jammed
  | .jammed => .jammed

/-- TABLE 6-2: a vend with a drop brings the stock to 0; also SET-STOCK to 0. -/
def SlotState.sellOut : SlotState → SlotState
  | .ready => .soldOut
  | .soldOut => .soldOut
  | .jammed => .jammed
  | .disabled => .disabled

/-- R107: the slot after a vend with a drop. A stock already 0 stays 0 and brings no change of state. -/
def Slot.sold (t : Slot) : Slot :=
  { t with
    noDropRun := 0, stock := t.stock.map (· - 1), state := if t.stock = some 1 then t.state.sellOut else t.state }

/-- R107: the slot after a vend that ended NO-PRODUCT. -/
def Slot.missed (t : Slot) : Slot :=
  let run := min 2 (t.noDropRun + 1)
  { t with noDropRun := run, state := if run = 2 then t.state.sellOut else t.state }

/-- R107: the per-slot vend count and the sum of them rise. -/
def countVend (slot : Nat) (s : State) : State :=
  s.modTotals fun t =>
    { t with vendSum := countUp t.vendSum 1, vendCounts := t.vendCounts.modify slot fun n => countUp n 1 }

/-- R107: the slot changes of an outcome decision. -/
def slotOutcome (slot : Nat) (o : VendOutcome) (s : State) : State :=
  match o with
  | .vended => countVend slot (modSlot slot Slot.sold s)
  | .noProduct => modSlot slot Slot.missed s
  | _ => s

/-! ### Settlement (R91, R92) -/

/-- R92: a VENDED vend whose settlement was not answered OK is counted unpaid. -/
def countUnpaid (r : SettleResult) (answer : Option SettleOutcome) (s : State) : State :=
  if r = .vended ∧ answer ≠ some .ok then s.modTotals fun t => { t with unpaidVends := countUp t.unpaidVends 1 } else s

/-- The settlement of the vend is over. -/
def settlementOver (s : State) : State := modVend (fun v => { v with settling := none, settled := true }) s

/-- R91: a SETTLE is queued, and its timer runs whether or not it found a place. -/
def sendSettle (v : Vend) (tag number : Byte) (r : SettleResult) (sendings : Nat) (s : State) : State :=
  modVend (fun v => { v with settling := some { tag := tag, number := number, result := r, sendings := sendings, timer := 0 } })
    (send (.settle v.selection.creditStation tag number r) s)

/-- R54, R91, R92: an internal settlement, answered in the same event. -/
def settleAtHome (g : Grant) (r : SettleResult) (s : State) : State :=
  let a := takeSettle s.ssu.own g.tag g.number r s
  settlementOver (countUnpaid r (some a.2) a.1)

/-- TABLE 6-5: the settlement result an outcome asks for. -/
def settleResult (o : VendOutcome) : SettleResult := if o = .vended then .vended else .notVended

/-- R108: the settlement of a decided vend: of its granted debit, or of the DEBIT outstanding (R90), or none. -/
def settleVend (v : Vend) (o : VendOutcome) (s : State) : State :=
  match v.granted with
  | some g =>
    if v.payment = .own then settleAtHome g (settleResult o) s else sendSettle v g.tag g.number (settleResult o) 1 s
  | none =>
    match v.asked with
    | some a => sendSettle v a.tag a.number .notVended 1 s
    | none => settlementOver s

/-! ### The outcome decision and the end (R100, R108, R109) -/

/-- R100: the MOTOR load is given up: released once the latch holds all-off, withdrawn when not HELD. -/
def giveUpMotor (s : State) : State :=
  if motorHeld s then if s.mxd.latch = none then releaseLoad .motor s else s else withdrawLoad .motor s

/-- R109: the vend leaves SETTLING when its settlement is over and its MOTOR load is given up. The next head is taken after the
tests that giving up the load has made (DESIGN CHOICE, log 46). -/
def tryLeave (s : State) : State :=
  match s.vsq.vend with
  | some v =>
    if s.vsq.state = .settling ∧ v.settled = true ∧ s.lbu.motor.state = .none then
      let s1 := answerPanel v.selection (v.outcome.getD .aborted) v.price s
      signal .takeHead (s1.modVsq fun q => { q with vend := none, state := .idle })
    else s
  | none => s

/-- R108: the outcome decision of the vend in progress, and its cause. -/
def decideOutcome (o : VendOutcome) (c : EndCause) (s : State) : State :=
  match s.vsq.vend with
  | none => s
  | some v =>
    let s1 := slotOutcome v.selection.slot o s
    let s2 := modVend (fun v =>
      { v with
        outcome := some o, endedBy := some c, windowArmed := false, motorOn := false, asked := none, budgetTimer := none
        jamTimer := none, windowTimer := none }) s1
    tryLeave (settleVend v o (giveUpMotor (setVsq .settling (writeStaging none s2))))

/-! ### Claiming and turning (R99, R101) -/

/-- R99: CLAIMING is entered and the MOTOR load asked for. -/
def enterClaiming (s : State) : State :=
  askLoad .motor .vend s.params.motorAmount
    (modVend (fun v => { v with budgetTimer := some 0, asked := none }) (setVsq .claiming s))

/-- R101: the motor start of a vend, at the grant. -/
def startMotor (slot : Nat) (t : Slot) (s : State) : State :=
  let s1 := modVend (fun v =>
    { v with
      motorOn := true, pulses := t.turns + (if t.offHome then 1 else 0), extraLeft := t.extraTurns, jamTimer := some 0
      windowArmed := true, dropSeen := false, jammed := false, budgetTimer := none }) s
  setVsq .running (modSlot slot (fun t => { t with offHome := false }) (writeStaging (some (pairOf slot)) s1))

/-- R101, R106: an extra turn. -/
def extraTurn (slot : Nat) (s : State) : State :=
  setVsq .running (writeStaging (some (pairOf slot))
    (modVend (fun v =>
      { v with
        motorOn := true, pulses := 1, extraLeft := v.extraLeft - 1, jamTimer := some 0, windowArmed := true
        windowTimer := none }) s))

/-- R102, R103, R111: the motor stops: all-off is written and the jam timer stops. -/
def stopMotor (s : State) : State :=
  writeStaging none (modVend (fun v => { v with motorOn := false, jamTimer := none }) s)

/-- R102: DROP-WAIT, the window timer from zero. -/
def enterDropWait (s : State) : State := modVend (fun v => { v with windowTimer := some 0 }) (setVsq .dropWait s)

/-- A slot is left away from home. -/
def leaveHome (slot : Nat) (s : State) : State := modSlot slot (fun t => { t with offHome := true }) s

/-! ### The motor test (R115, R116) -/

def TestResult.code : TestResult → Byte
  | .complete => 0 | .jammed => 1 | .motorOpen => 2 | .budgetTimeout => 3 | .driveFault => 4 | .unavailableTemp => 5

/-- R116: the test is answered and VSQ becomes IDLE, once the test has its result and the MOTOR load is given up. -/
def finishTest (s : State) : State :=
  match s.vsq.test with
  | some t =>
    match t.result with
    | some r =>
      if s.vsq.state = .testing ∧ s.lbu.motor.state = .none then
        let s1 := send (.serviceAnswer t.station t.tag .done [r.code]) s
        signal .takeHead (s1.modVsq fun q => { q with test := none, state := .idle })
      else s
    | none => s
  | none => s

/-- R116: the test ends with a result. -/
def endTest (r : TestResult) (s : State) : State :=
  let s1 := modTest (fun t => { t with result := some r, motorOn := false, budgetTimer := none, jamTimer := none }) s
  finishTest (giveUpMotor (writeStaging none s1))

/-- R115: the motor start of a test, at the grant. -/
def startTestMotor (slot : Nat) (offHome : Bool) (s : State) : State :=
  let s1 := modTest (fun t =>
    { t with motorOn := true, pulses := 1 + (if offHome then 1 else 0), jamTimer := some 0, budgetTimer := none }) s
  modSlot slot (fun t => { t with offHome := false }) (writeStaging (some (pairOf slot)) s1)

/-- R115: VSQ takes a motor test of a present slot. -/
def beginTest (slot : Nat) (t : Slot) (tag : Byte) (station : Station) (s : State) : State :=
  let r : Test :=
    { slot := slot, tag := tag, station := station, pulses := 0, motorOn := false, budgetTimer := none, jamTimer := none
      result := none }
  let s1 := s.modVsq fun q => { q with state := .testing, test := some r }
  if s.mxd.state = .fault then endTest .driveFault s1
  else if tooWarm s t then endTest .unavailableTemp s1
  else askLoad .motor .vend s.params.motorAmount (modTest (fun t => { t with budgetTimer := some 0 }) s1)

/-! ### Payment (R86 to R89, R98) -/

/-- R86, R89: a DEBIT to a remote credit station with a new tag; a full queue ends the vend. -/
def askDebit (v : Vend) (number : Byte) (expected : Option Half) (retry : Bool) (s : State) : State :=
  let tag := nextTag s
  let r := request (.debit v.selection.creditStation number v.price tag expected) (takeTag s)
  if r.2 then
    modVend (fun v =>
      { v with asked := some { tag := tag, number := number, expected := expected, sendings := 1, retry := retry, timer := 0 } })
      r.1
  else decideOutcome .paymentUnreachable .debit (modVend (fun v => { v with asked := none }) r.1)

/-- R86, R79: the session number a DEBIT to a remote station carries. -/
def debitNumber (st : Station) (s : State) : Byte :=
  match cacheEntry st s with
  | some e => e.number
  | none => (rememberedNumber st s).getD 0

/-- TABLE 5-5: a debit refused ends the vend without a settlement. -/
def endUnpaid (o : VendOutcome) (s : State) : State := decideOutcome o .debit (modVend (fun v => { v with asked := none }) s)

/-- TABLE 5-5: a granted debit leads to CLAIMING. -/
def debitGranted (tag number : Byte) (s : State) : State :=
  enterClaiming (modVend (fun v => { v with granted := some { tag := tag, number := number } }) s)

/-- TABLE 5-5: the ending a refused debit gives. -/
def refusalOutcome : DebitOutcome → VendOutcome
  | .noChange => .noChange
  | .heldBusy => .paymentBusy
  | .noSession => .insufficient
  | .stale => .insufficient
  | .short => .insufficient
  | .granted => .insufficient

/-- TABLE 5-5: VSQ acts on the answer to the DEBIT `a`. -/
def actOnDebit (v : Vend) (a : Asked) (o : DebitOutcome) (balance : Option Nat) (version : Option Half) (s : State) : State :=
  if o = .granted then debitGranted a.tag a.number s
  else if o = .stale ∧ a.retry = false ∧ (balance.map fun b => decide (v.price ≤ b)) = some true then
    askDebit v a.number version true s
  else endUnpaid (refusalOutcome o) s

/-- R53, R86: an internal debit, its outcome acted on in the same event. -/
def debitAtHome (v : Vend) (s : State) : State :=
  let tag := nextTag s
  let c := s.cru.session
  let r := takeDebit s.ssu.own c.number v.price tag (some c.version) (takeTag s)
  if r.2.outcome = .granted then debitGranted tag c.number r.1 else endUnpaid (refusalOutcome r.2.outcome) r.1

/-- R86: DEBITING is entered and payment taken. -/
def enterDebiting (v : Vend) (s : State) : State :=
  if paysAtHome s v.selection then
    debitAtHome v (modVend (fun v => { v with payment := .own }) (setVsq .debiting s))
  else
    let st := v.selection.creditStation
    askDebit v (debitNumber st s) ((cacheEntry st s).map CacheEntry.version) false
      (modVend (fun v => { v with payment := .remote }) (setVsq .debiting s))

/-! ### Taking the head (R97) -/

/-- R97: the check a head record fails, with the slot's price. -/
def headRefusal (r : Selection) (s : State) : Option (VendOutcome × Nat) :=
  match slotAt s r.slot with
  | none => some (.invalidSlot, 0)
  | some t =>
    if t.state ≠ .ready then some (.unavailable, t.price)
    else if tooWarm s t then some (.unavailableTemp, t.price)
    else if 0 < t.price ∧ (r.credit = 0 ∨ 15 < r.credit) then some (.insufficient, t.price)
    else none

/-- R96: a vend record as it is created. The pulse counter and the extra turns left, of which TABLE 6-4 gives no value before the
motor start sets them (R101), are 0 (DESIGN CHOICE, log 48). -/
def newVend (r : Selection) (price : Nat) : Vend :=
  { selection := r, price := price, payment := .unpaid, granted := none, asked := none, pulses := 0, extraLeft := 0
    motorOn := false, windowArmed := false, dropSeen := false, jammed := false, doorOpened := false, doorStop := false
    outcome := none, endedBy := none, settling := none, settled := false, budgetTimer := none, jamTimer := none
    windowTimer := none }

/-- R97: a record that passes becomes the vend in progress. -/
def startVend (r : Selection) (price : Nat) (s : State) : State :=
  let v := newVend r price
  let s1 := s.modVsq fun q => { q with vend := some v }
  if price = 0 then enterClaiming s1 else enterDebiting v s1

/-- R97: VSQ, being IDLE, takes the head record; a refused one leaves the next to be taken in the same event. -/
def takeHead (s : State) : State :=
  if s.vsq.state = .idle then
    match s.vsq.queue with
    | [] => s
    | r :: rest =>
      let s1 := s.modVsq fun q => { q with queue := rest }
      match headRefusal r s with
      | some (o, p) => signal .takeHead (answerPanel r o p s1)
      | none => startVend r (((slotAt s r.slot).map Slot.price).getD 0) s1
  else s

/-! ### Grants and the agenda -/

/-- R99, R115: the MOTOR grant. -/
def motorGranted (s : State) : State :=
  if motorHeld s then
    match s.vsq.state, s.vsq.vend, s.vsq.test with
    | .claiming, some v, _ =>
      match slotAt s v.selection.slot with
      | some t => if tooWarm s t then decideOutcome .unavailableTemp .lossOfCold s else startMotor v.selection.slot t s
      | none => s
    | .testing, _, some r =>
      match slotAt s r.slot with
      | some t => if r.result = none ∧ r.motorOn = false then startTestMotor r.slot t.offHome s else s
      | none => s
    | _, _, _ => s
  else s

/-- R134: the COMPRESSOR grant reaches WANT. -/
def compressorGranted (s : State) : State :=
  if s.rfc.state = .want ∧ s.lbu.compressor.state = .held then startCompressor s else s

/-- R138: the HEATER grant reaches mode WAITING. -/
def heaterGranted (s : State) : State :=
  if s.rfc.state = .defrostHeat ∧ s.rfc.heaterMode = some .waiting ∧ s.lbu.heater.state = .held then startHeating s else s

/-- The owner of a signal takes it. -/
def takeSignal (g : Signal) (s : State) : State :=
  match g with
  | .granted .motor => motorGranted s
  | .granted .compressor => compressorGranted s
  | .granted .heater => heaterGranted s
  | .takeHead => takeHead s

/-- The signals left in the event are taken, first left first. The queue of 4 and the three records bound how many one
event can leave; `fuel` stands above that bound. -/
def runAgendaFor (fuel : Nat) (s : State) : State :=
  match fuel with
  | 0 => s
  | n + 1 =>
    match s.lbu.agenda with
    | [] => s
    | g :: rest => runAgendaFor n (takeSignal g (s.modLbu fun b => { b with agenda := rest }))

/-- Every signal left in the event is taken. -/
def runAgenda (s : State) : State := runAgendaFor 32 s

/-! ### What reaches the vend or test in progress -/

/-- R102, R116: a cam pulse, counted while the motor runs and the latch holds the slot's pair. -/
def takeCamPulse (s : State) : State :=
  match s.vsq.vend, s.vsq.test with
  | some v, _ =>
    if v.motorOn = true ∧ s.mxd.latch = some (pairOf v.selection.slot) then
      let s1 := modVend (fun v => { v with pulses := v.pulses - 1, jamTimer := some 0 }) s
      if v.pulses - 1 = 0 then
        if v.dropSeen then decideOutcome .vended .runEnd (stopMotor s1) else enterDropWait (stopMotor s1)
      else s1
    else s
  | none, some t =>
    if t.motorOn = true ∧ s.mxd.latch = some (pairOf t.slot) then
      let s1 := modTest (fun t => { t with pulses := t.pulses - 1, jamTimer := some 0 }) s
      if t.pulses - 1 = 0 then endTest .complete s1 else s1
    else s
  | none, none => s

/-- R103, R116: a jam or stall of the running motor. -/
def takeJam (s : State) : State :=
  match s.vsq.vend, s.vsq.test with
  | some v, _ =>
    if v.motorOn then
      let n := v.selection.slot
      let s1 := stopMotor (modVend (fun v => { v with jammed := true, extraLeft := if v.dropSeen then v.extraLeft else 0 }) s)
      let s2 := modSlot n (fun t => { t with offHome := true, state := t.state.jam }) s1
      let s3 := s2.modTotals fun t => { t with jams := countUp t.jams 1 }
      if v.dropSeen then decideOutcome .vended .jam s3 else enterDropWait s3
    else s
  | none, some t => if t.motorOn then endTest .jammed (leaveHome t.slot s) else s
  | none, none => s

/-- R104, R116: MOTOR-OPEN of the running motor. -/
def takeMotorOpen (s : State) : State :=
  match s.vsq.vend, s.vsq.test with
  | some v, _ =>
    if v.motorOn then
      let s1 := modSlot v.selection.slot (fun t => { t with offHome := true, state := .disabled }) (stopMotor s)
      decideOutcome (if v.dropSeen then .vended else .motorFault) .motorOpen s1
    else s
  | none, some t => if t.motorOn then endTest .motorOpen (leaveHome t.slot s) else s
  | none, none => s

/-- R105: a drop counts for an armed window, and is spurious otherwise. -/
def takeDrop (s : State) : State :=
  let spurious := s.modTotals fun t => { t with spuriousDrops := countUp t.spuriousDrops 1 }
  match s.vsq.vend with
  | some v =>
    if v.windowArmed then
      let s1 := modVend (fun v => { v with dropSeen := true, windowArmed := false }) s
      if s.vsq.state = .dropWait then decideOutcome .vended .drop s1 else s1
    else spurious
  | none => spurious

/-- R106: the window ends without a drop. -/
def endWindow (v : Vend) (s : State) : State :=
  let s1 := modVend (fun v => { v with windowArmed := false, windowTimer := none }) s
  let warm := ((slotAt s v.selection.slot).map (tooWarm s)).getD false
  if 0 < v.extraLeft ∧ v.doorOpened = false ∧ warm = false then extraTurn v.selection.slot s1
  else if v.doorOpened = true ∧ (0 < v.extraLeft ∨ v.doorStop = true) then decideOutcome .aborted .door s1
  else if v.jammed then decideOutcome .jammed .jam s1 else decideOutcome .noProduct .windowEnd s1

/-- R110 to R112: the door opening reaches the vend in progress. -/
def doorAtVend (s : State) : State :=
  match s.vsq.vend with
  | none => s
  | some v =>
    match s.vsq.state with
    | .debiting => decideOutcome .aborted .door s
    | .claiming => decideOutcome .aborted .door s
    | .running =>
      let s1 := leaveHome v.selection.slot (stopMotor s)
      let s2 := modVend (fun v => { v with extraLeft := 0, doorOpened := true, doorStop := true }) s1
      if v.dropSeen then decideOutcome .vended .door s2 else enterDropWait s2
    | .dropWait => modVend (fun v => { v with doorOpened := true }) s
    | .settling => s
    | .idle => s
    | .testing => s

/-- R100, R116, R119: the Matrix Driver reports that the latch holds all-off. -/
def allOffReported (s : State) : State :=
  match s.vsq.state, s.vsq.test with
  | .settling, _ => tryLeave (if motorHeld s then releaseLoad .motor s else s)
  | .testing, some t =>
    if t.result.isSome then finishTest (if motorHeld s then releaseLoad .motor s else s) else s
  | _, _ => s

/-- R113, R116: the drive fault reaches VSQ. One that stops the running motor of a test leaves the slot's off-home as it is:
R115 lists a jam, a stall and MOTOR-OPEN alone (DESIGN CHOICE, log 42). -/
def faultAtVend (s : State) : State :=
  let s1 := emptyQueue .outOfService s
  match s1.vsq.vend, s1.vsq.state with
  | some _, .debiting => decideOutcome .outOfService .driveFault s1
  | some _, .claiming => decideOutcome .outOfService .driveFault s1
  | some v, .running =>
    decideOutcome (if v.dropSeen then .vended else .motorFault) .driveFault (leaveHome v.selection.slot (stopMotor s1))
  | some _, .dropWait => decideOutcome .motorFault .driveFault s1
  | _, .testing =>
    match s1.vsq.test with
    | some t => if t.result.isSome then allOffReported s1 else endTest .driveFault s1
    | none => s1
  | _, .settling => allOffReported s1
  | _, _ => s1

/-- R114, R116: the loss of cold reaches the vend of a chilled slot, or a test not yet granted. -/
def lossOfCold (s : State) : State :=
  match s.vsq.vend, s.vsq.test with
  | some v, _ =>
    let warm := ((slotAt s v.selection.slot).map (tooWarm s)).getD false
    if warm = true ∧ (s.vsq.state = .debiting ∨ s.vsq.state = .claiming) then decideOutcome .unavailableTemp .lossOfCold s else s
  | none, some t =>
    let warm := ((slotAt s t.slot).map (tooWarm s)).getD false
    if warm = true ∧ t.result = none ∧ t.motorOn = false then endTest .unavailableTemp s else s
  | none, none => s

/-- R142: sellable cold is evaluated; its change from yes to no is the loss of cold, in the same event. -/
def saleEvent (s : State) : State :=
  let s1 := evaluateSale s
  if s.rfc.sellableCold && !s1.rfc.sellableCold then lossOfCold s1 else s1

end Sys2Proof.Machine
end

