-- ==== Sys2Proof/Machine/Event.lean ====
section
/-! DEFINITION. What every command is made of: one event taken whole, with the outputs following the state at its end; the
hearing of a good frame and its delivery (R148, R164, R170); the address conflict (R171); the audit save (R181). -/

namespace Sys2Proof.Machine

/-! ### One event -/

/-- The event begins: the version has not risen in it yet (R35), and no signal is left to be taken in it. -/
def openEvent (s : State) : State :=
  (s.modCru fun c => { c with versionRaised := false }).modLbu fun b => { b with agenda := [] }

/-- R7, R130, R141: the outputs follow the state. -/
def refreshOutputs (s : State) : State := { s with outputs := outputsOf s }

/-- One event taken whole. -/
def event (f : State → State) (s : State) : Host.Outcome State Fault Refusal := .next (refreshOutputs (f (openEvent s)))

/-- R175: filtered inputs are events from the end of the reconciliation onward. -/
def running (f : State → State) (s : State) : State := if s.phase = .running then f s else s

/-! ### Audit saves (R181) -/

/-- R181: a save begins with a snapshot; until it ends the area holds no good contents. -/
def beginSave (s : State) : State :=
  s.modSsu fun u => { u with snapshot := some u.totals, auditArea := none }

/-- R181: a save is asked. -/
def askSave (s : State) : State :=
  if s.ssu.snapshot = none then beginSave s else s.modSsu fun u => { u with saveOwed := true }

/-- R181: a save ends; an owed one begins in the same event. -/
def endSave (ending : SaveEnd) (s : State) : State :=
  match s.ssu.snapshot with
  | none => s
  | some t =>
    let s1 := s.modSsu fun u =>
      { u with
        snapshot := none, lastSave := some (ending == .matched), auditArea := if ending = .matched then some t else none
        saveOwed := false }
    if s.ssu.saveOwed then beginSave s1 else s1

/-! ### Address conflict (R171) -/

/-- R168, R171: the link becomes LISTEN-ONLY: the queue is emptied, SILENT and the STATUS period end, and the selection
queue loses its records without answers (R84). -/
def enterListenOnly (s : State) : State :=
  dropQueue (s.modLnk fun l => { l with state := .listenOnly, queue := [], silentTimer := none, periodTimer := none })

/-- R171: the one STATUS of an address conflict. -/
def queueLastStatus (s : State) : State := s.modLnk fun l => { l with queue := [TxEntry.fresh .status] }

/-- R171: an address conflict. A further one while LISTEN-ONLY has no effect. -/
def takeConflict (s : State) : State :=
  if listenOnly s then s
  else
    let s1 := enterListenOnly s
    runAgenda (queueLastStatus (if isolated s then s1 else becomeIsolated s1))

/-! ### Hearing a frame (R148, R164, R170) -/

/-- R164: whether this part drives the acknowledgement slot of the frame it has just received. -/
def acknowledge (driven : Bool) (s : State) : State := s.modLnk fun l => { l with acknowledged := driven }

/-- R164, R171: a good frame with the own number as source is an address conflict, and is not acknowledged. -/
def heardOwnNumber (s : State) : State := takeConflict (acknowledge false s)

/-- R170, R148: a good frame from another station restarts the isolation timer and its source is noted. -/
def noteSource (src : Station) (s : State) : State :=
  notePeer src (s.modLnk fun l => { l with heard := true, isolationTimer := 0 })

/-- R153, R162: the tests of an event that heard a frame: those of leaving ISOLATED, or those of a changed table. -/
def afterHearing (listed : Bool) (before s : State) : State :=
  if isolated s = isolated before then if listed then tableChanged s else afterTable before s
  else noteIsolation (isolated before) s

/-- R148, R159, R160: a good frame at the Load Budget Unit: the source, the frame's own act, then the tests. -/
def hearAtLbu (src : Station) (act : State → State) (listed : Bool) (s : State) : State :=
  runAgenda (afterHearing listed s (act (noteSource src s)))

/-- R164: a good frame: what the Load Budget Unit queues comes before what the delivery queues (DESIGN CHOICE, log 14). Nothing
before the enabling, a conflict with the own number as source, and otherwise the
acknowledgement, which SILENT and LISTEN-ONLY withhold, then the Load Budget Unit and the delivery after it. -/
def hearWith (src : Station) (act : State → State) (listed : Bool) (deliver : State → State) (s : State) : State :=
  if s.phase = .heldOff then s
  else if src = s.ssu.own then heardOwnNumber s
  else runAgenda (deliver (hearAtLbu src act listed (acknowledge (s.lnk.state == .active) s)))

/-- R164: a good frame whose kind does not itself act on the peer load table. -/
def hear (src : Station) (deliver : State → State) (s : State) : State := hearWith src id false deliver s

/-- TABLE 10-4: a directed kind is delivered at its destination alone. -/
def directed (dst : Station) (f : State → State) (s : State) : State := if dst = s.ssu.own ∧ dst ≠ 0 then f s else s

end Sys2Proof.Machine
end

