-- ==== Sys2Proof/Machine/CoinCommands.lean ====
section
/-! DEFINITION. The commands of coin intake, the cashbox, the level switches, the service door and the audit save
(Chapter 1, R84, R181). -/

namespace Sys2Proof.Machine

/-! ### A coin report (R2, R3, R8 to R11) -/

/-- R2: the code of a report; two samples that differ make code 0. -/
def reportCode (first second : BitVec 3) : Nat := if first = second then first.toNat else 0

/-- R3, R11: the coin falls to the return chute. -/
def unstored (s : State) : State := s.modTotals fun t => { t with unstoredCoins := countUp t.unstoredCoins 1 }

/-- R9: the routing outputs take a route for 250 ms. -/
def setRoute (r : Route) (s : State) : State := s.modCnu fun c => { c with routing := some { route := r, elapsed := 0 } }

/-- R8: the coin goes to tube `i`. -/
def routeToTube (i value : Nat) (s : State) : State :=
  setRoute (.tube i) (modTube i Tube.takeCoin (s.modTotals fun t => { t with toTubes := moneyUp t.toTubes value }))

/-- R8: the coin goes to the cashbox. -/
def routeToCashbox (value : Nat) (s : State) : State :=
  setRoute .cashbox (s.modTotals fun t => { t with toCashbox := moneyUp t.toCashbox value })

/-- R8, R10, R29: a coin routed and credited, or unstored; one probe when a tube count or state has changed. -/
def takeCoin (code : Nat) (c : CoinType) (s : State) : State :=
  match takingTube s code with
  | some i => probeAfter s.cnu.tubes (creditCoin c.value (routeToTube i c.value s))
  | none => if s.cnu.cashboxPresent then creditCoin c.value (routeToCashbox c.value s) else unstored s

/-- R2, R3: a coin report by its code. -/
def coinReport (code : Nat) (s : State) : State :=
  if configured s ∧ s.params.coinMech = false then s
  else if code = 0 ∨ code = 7 then s.modCnu fun c => { c with headRejects := countUp c.headRejects 1 }
  else if configured s = false then unstored s
  else
    match coinTypeAt s code with
    | some c => takeCoin code c s
    | none => unstored s

/-- R2: the filtered strobe has become active, with the codes of its two samples on the code lines. -/
def standStrobe (first second : BitVec 3) (n : Inputs) : Inputs :=
  { n with strobe := Filter.standing true, lastCodes := first, codes := second }

/-- A strobe that stands active already is taken whole (log 8). -/
def execCoinStrobe (first second : BitVec 3) (s : State) : Host.Outcome State Fault Refusal :=
  event (fun s => running (coinReport (reportCode first second)) (s.modInputs (standStrobe first second))) s

/-- R9: the routing time ends and the outputs return to rest. -/
def endRouting (s : State) : State :=
  match s.cnu.routing with
  | some r => (reach Config.routingTime r.elapsed s).modCnu fun c => { c with routing := none }
  | none => s

def execRoutingTimeExpiry (s : State) : Host.Outcome State Fault Refusal := event endRouting s

/-! ### Cashbox and level switches (R12, R16) -/

/-- R12: the cashbox state follows the filtered switch. -/
def takeCashbox (closed : Bool) (s : State) : State := s.modCnu fun c => { c with cashboxPresent := closed }

/-- A change to the level that stands already is taken whole (log 8). -/
def execCashboxSwitchChange (closed : Bool) (s : State) : Host.Outcome State Fault Refusal :=
  event (fun s =>
    running (takeCashbox closed) (s.modInputs fun n => { n with cashbox := Filter.standing closed })) s

/-- R16: a tube is reconciled against the present levels of both its switches. -/
def reconcileTube (i : Nat) (s : State) : State := changeTube i (Tube.reconcile (emptyCovered s i) (fullCovered s i)) s

/-- A change to the level that stands already is taken whole (log 8). -/
def execLevelSwitchChange (tube : Nat) (which : LevelSwitch) (covered : Bool) (s : State) : Host.Outcome State Fault Refusal :=
  event (fun s => running (reconcileTube tube) (s.modInputs (standSwitch tube which covered))) s

/-! ### The service door (R84, R110 to R112, R169, R181) -/

/-- The opening: the selection queue, the vend in progress and STATUS. -/
def takeDoorOpening (s : State) : State := runAgenda (queueStatus (doorAtVend (emptyQueue .doorOpen s)))

/-- The closing: an audit save and STATUS. -/
def takeDoorClosing (s : State) : State := queueStatus (askSave s)

/-- An opening with the door open already is taken whole (log 8). -/
def execServiceDoorOpens (s : State) : Host.Outcome State Fault Refusal :=
  event (fun s => running takeDoorOpening (s.modInputs fun n => { n with door := Filter.standing true })) s

/-- A closing with the door closed already is taken whole (log 8). -/
def execServiceDoorCloses (s : State) : Host.Outcome State Fault Refusal :=
  event (fun s => running takeDoorClosing (s.modInputs fun n => { n with door := Filter.standing false })) s

def execAuditSaveEnd (ending : SaveEnd) (s : State) : Host.Outcome State Fault Refusal := event (endSave ending) s

end Sys2Proof.Machine
end

