-- ==== Sys2Proof/Machine/CoolingCommands.lean ====
section
/-! DEFINITION. The commands of the Refrigeration Controller: the averaging periods and its timers (Chapter 8). -/

namespace Sys2Proof.Machine

/-- The sensor record of a thermistor. -/
def sensorOf (r : Rfc) : Sensor → SensorRecord
  | .cabinet => r.cabinet
  | .evaporator => r.evaporator

/-- Set the sensor record of a thermistor. -/
def setSensor (k : Sensor) (v : SensorRecord) (r : Rfc) : Rfc :=
  match k with
  | .cabinet => { r with cabinet := v }
  | .evaporator => { r with evaporator := v }

/-- R129: a change of the cooling-fault flag queues a STATUS. -/
def followFault (was : Bool) (s : State) : State := if coolingFault s = was then s else queueStatus s

/-- R129: the average makes a reading event or a sensor state event. -/
def sensorEvent (old new : SensorRecord) (c : Nat) : Bool := (codeInside c && new.state == .valid) || old.state != new.state

/-- R132 to R135, R139, R142: what a sensor's reading or state event reaches. -/
def sensorReaches (k : Sensor) (s : State) : State :=
  match k with
  | .cabinet => runAgenda (saleEvent (runAgenda (cabinetEvent s)))
  | .evaporator => runAgenda (evaporatorEvent s)

/-- R127, R129: the end of an averaging period of one sensor. The STATUS of a changed cooling-fault flag is queued before the frames
that the sensor's event queues, and so takes the one place that may be free (DESIGN CHOICE, log 14). -/
def takeAverage (k : Sensor) (samples : Vector (BitVec 10) 8) (s : State) : State :=
  let old := sensorOf s.rfc k
  let c := averageOf samples
  let new := { old.update s.params.conversion c with period := 0 }
  let s1 := (reach Config.averagingPeriod old.period s).modRfc (setSensor k new)
  let s2 := followFault (coolingFault s) s1
  if sensorEvent old new c then sensorReaches k s2 else s2

def execAveragingPeriodEnd (sensor : Sensor) (samples : Vector (BitVec 10) 8) (s : State) :
    Host.Outcome State Fault Refusal :=
  event (fun s => if s.rfc.state = .absent then s else takeAverage sensor samples s) s

/-- A timer of the RFC reaches its limit: the time still missing passes and its expiry is taken; stopped, it has none. -/
def onTimer (timer : Option Nat) (limit : Nat) (f : State → State) (s : State) : State :=
  match timer with
  | some t => runAgenda (f (reach limit t s))
  | none => s

/-- R131: the lockout timer reaches the minimum off time. -/
def lockoutExpiry (s : State) : State :=
  if s.rfc.state = .offLockout then onTimer s.rfc.lockoutTimer s.params.minOff endLockout s else s

def execLockoutTimerExpiry (s : State) : Host.Outcome State Fault Refusal := event lockoutExpiry s

/-- R132, R136: the off timer reaches 20 min under fixed duty; with the sensor otherwise nothing reads it. -/
def offExpiry (s : State) : State :=
  if fixedDuty s then onTimer s.rfc.offTimer Config.fixedOff testOff s else s

def execOffTimerExpiry (s : State) : Host.Outcome State Fault Refusal := event offExpiry s

/-- R133: the cycle timer reaches 60 s in WANT with class COOL. -/
def urgentExpiry (s : State) : State :=
  if s.rfc.state = .want ∧ s.rfc.classAsked = .cool then onTimer s.rfc.cycleTimer Config.urgentTime raiseWant s else s

def execCycleTimerUrgent (s : State) : Host.Outcome State Fault Refusal := event urgentExpiry s

/-- R133, R135: what the end of the on phase does in each state. -/
def endOnPhase (s : State) : State :=
  match s.rfc.state with
  | .want => endDutyWait s
  | .running => testStop s
  | .starting => s
  | .offLockout => s
  | .off => s
  | .defrostHeat => s
  | .defrostDrip => s
  | .absent => s

/-- R133, R136: the cycle timer reaches 10 min under fixed duty. -/
def dutyExpiry (s : State) : State :=
  if fixedDuty s then onTimer s.rfc.cycleTimer Config.fixedOn endOnPhase s else s

def execCycleTimerFixedDuty (s : State) : Host.Outcome State Fault Refusal := event dutyExpiry s

/-- R134: the start timer reaches 3 s. -/
def startExpiry (s : State) : State :=
  if s.rfc.state = .starting then onTimer s.rfc.startTimer Config.startWindow endStart s else s

def execStartTimerExpiry (s : State) : Host.Outcome State Fault Refusal := event startExpiry s

def execOnTimerExpiry (s : State) : Host.Outcome State Fault Refusal :=
  event (fun s => onTimer s.rfc.onTimer s.params.minOn testStop s) s

/-- R137: the second of compressor running that is under way ends. -/
def countSecond (s : State) : State := if s.rfc.compressorOn then addSecond (reach 1000 s.rfc.second s) else s

def execAccumulatorSecond (s : State) : Host.Outcome State Fault Refusal := event countSecond s

/-- R138: the defrost timer reaches 10 min in mode WAITING. -/
def heaterWaitEnd (s : State) : State :=
  if s.rfc.state = .defrostHeat ∧ s.rfc.heaterMode = some .waiting then
    onTimer s.rfc.defrostTimer Config.heaterWait endHeaterWait s
  else s

def execHeaterWaitExpiry (s : State) : Host.Outcome State Fault Refusal := event heaterWaitEnd s

/-- R139: the defrost timer reaches the maximum defrost duration. -/
def defrostExpiry (s : State) : State :=
  if s.rfc.state = .defrostHeat then onTimer s.rfc.defrostTimer s.params.maxDefrost endDefrost s else s

def execDefrostTimerExpiry (s : State) : Host.Outcome State Fault Refusal := event defrostExpiry s

/-- R140: the drip timer reaches 120 s. -/
def dripExpiry (s : State) : State :=
  if s.rfc.state = .defrostDrip then onTimer s.rfc.dripTimer Config.dripTime endDrip s else s

def execDripTimerExpiry (s : State) : Host.Outcome State Fault Refusal := event dripExpiry s

def execWarmTimerExpiry (s : State) : Host.Outcome State Fault Refusal :=
  event (fun s => onTimer s.rfc.warmTimer s.params.hotHoldTime latchHotHold s) s

end Sys2Proof.Machine
end

