-- ==== Sys2Proof/Machine/CreditCommands.lean ====
section
/-! DEFINITION. The commands of the credit session and the payout: DEBIT, SETTLE, the session's timers, the exit sensor, the
solenoid pulse and the escrow lever (Chapters 3 and 4). -/

namespace Sys2Proof.Machine

/-- R41, R42, R44: a DEBIT at the Credit Unit and its answer; in LISTEN-ONLY it is not taken. -/
def answerDebit (src : Station) (number : Byte) (amount : Nat) (tag : Byte) (expected : Option Half) (s : State) : State :=
  if listenOnly s then s
  else
    let r := takeDebit src number amount tag expected s
    send (.debitAnswer src tag r.2.outcome r.2.balance r.2.version) r.1

def execDebitReceived (src dst : Station) (number : Byte) (amount : Half) (tag : Byte) (expected : Option Half) (s : State) :
    Host.Outcome State Fault Refusal :=
  event (hear src (directed dst (answerDebit src number amount.toNat tag expected))) s

/-- R41, R48, R50: a SETTLE at the Credit Unit and its answer. -/
def answerSettle (src : Station) (tag number : Byte) (result : SettleResult) (s : State) : State :=
  let r := takeSettle src tag number result s
  send (.settleAnswer src tag r.2) r.1

def execSettleReceived (src dst : Station) (tag number : Byte) (result : SettleResult) (s : State) :
    Host.Outcome State Fault Refusal :=
  event (hear src (directed dst (answerSettle src tag number result))) s

/-- R51: the hold reaches 20 s. -/
def endOldHold (s : State) : State :=
  match s.cru.session.hold with
  | some h => expireHold h (reach Config.holdTime h.age s)
  | none => s

def execHoldExpiry (s : State) : Host.Outcome State Fault Refusal := event endOldHold s

/-- R39: the refresh timer reaches its limit. -/
def endRefresh (s : State) : State :=
  match s.cru.refresh with
  | some t => expireRefresh (reach (refreshLimit s.cru) t s)
  | none => s

def execRefreshTimerExpiry (s : State) : Host.Outcome State Fault Refusal := event endRefresh s

/-- R57, R58: the idle timer reaches the idle time in OPEN. -/
def endIdleTime (s : State) : State :=
  match s.cru.session.idleTimer with
  | some t => if s.cru.session.state = .opened then expireIdle (reach (s.params.idleTime * 1000) t s) else s
  | none => s

def execIdleTimerExpiry (s : State) : Host.Outcome State Fault Refusal := event endIdleTime s

/-- R61: the filtered exit sensor stands BLOCKED or CLEAR. -/
def standExit (blocked : Bool) (s : State) : State := s.modInputs fun n => { n with exit := Filter.standing blocked }

/-- A coin seen with the sensor BLOCKED already is taken whole (log 8). -/
def execCoinSeen (s : State) : Host.Outcome State Fault Refusal := event (fun s => running seeCoin (standExit true s)) s

/-- R61: the 50 ms pulse ends and its output returns to rest. -/
def endPulse (s : State) : State :=
  match s.cru.solenoid with
  | some p => (reach Config.pulseTime p.elapsed s).modCru fun c => { c with solenoid := none }
  | none => s

def execSolenoidPulseEnd (s : State) : Host.Outcome State Fault Refusal := event endPulse s

/-- R64: the window of the present attempt reaches 400 ms. -/
def endPayoutWindow (s : State) : State :=
  match s.cru.payout with
  | some { phase := .pulseWait, tube := some i, attempt := a, window := some w, clear := _ } =>
    failAttempt i a (reach Config.payoutWindow w s)
  | _ => s

def execPayoutWindowExpiry (s : State) : Host.Outcome State Fault Refusal := event endPayoutWindow s

/-- R65: the exit sensor clears; in EXIT-CLEAR a new coin step begins. -/
def exitCleared (s : State) : State :=
  match s.cru.payout with
  | some { phase := .exitClear, tube := _, attempt := _, window := _, clear := _ } => coinStep s
  | _ => s

/-- A clearing with the sensor CLEAR already is taken whole (log 8). -/
def execExitClears (s : State) : Host.Outcome State Fault Refusal := event (fun s => running exitCleared (standExit false s)) s

/-- R65: the clear timer reaches 500 ms and the payout ends short. -/
def endClearTime (s : State) : State :=
  match s.cru.payout with
  | some { phase := .exitClear, tube := _, attempt := _, window := _, clear := some t } =>
    payoutShort (reach Config.clearTime t s)
  | _ => s

def execClearTimerExpiry (s : State) : Host.Outcome State Fault Refusal := event endClearTime s

/-- A lever that stands pressed already is taken whole (log 8). -/
def execEscrowLever (s : State) : Host.Outcome State Fault Refusal :=
  event (fun s => running pressLever (s.modInputs fun n => { n with lever := Filter.standing true })) s

end Sys2Proof.Machine
end

