-- ==== Sys2Proof/Machine/DriveCommands.lean ====
section
/-! DEFINITION. The commands of the Matrix Driver: the drive tick and the current sample (Chapter 7). -/

namespace Sys2Proof.Machine

/-- R119: the transfer of a tick in NORMAL, with the all-off report to VSQ where all-off is latched. -/
def transfer (s : State) : State :=
  match transferOf s.mxd.latch s.mxd.staging (motorHeld s) with
  | .none => s
  | .latched p => latchPair p s
  | .allOff => allOffReported (latchAllOff s)

/-- R121, R122, R113: the readback step, with the drive fault, its report to VSQ and then its STATUS. -/
def readbackStep (rows : BitVec 8) (cols : BitVec 10) (s : State) : State :=
  let r := readback rows cols s
  match r.2 with
  | none => r.1
  | some f => queueStatus (faultAtVend (enterFault f r.1))

/-- R119, R121: a drive tick; in OFF and FAULT nothing is transferred or compared. -/
def tickDrive (rows : BitVec 8) (cols cams : BitVec 10) (s : State) : State :=
  let s1 := (reach Config.driveTick s.mxd.tick s).modInputs fun n => { n with camLines := cams }
  let s2 := s1.modMxd fun m => { m with tick := 0 }
  if s.mxd.state = .normal then runAgenda (readbackStep rows cols (transfer s2)) else s2

def execDriveTick (rows : BitVec 8) (cols cams : BitVec 10) (s : State) : Host.Outcome State Fault Refusal :=
  event (fun s => if s.phase = .heldOff then s else tickDrive rows cols cams s) s

/-- R104, R103: what a current sample reports is taken by VSQ. -/
def takeReport (r : CurrentReport) (s : State) : State :=
  match r with
  | .quiet => s
  | .motorOpen => takeMotorOpen s
  | .stall => takeJam s

/-- R124, R125: a current sample while a pair is latched in NORMAL. -/
def sampleCurrent (reading : Byte) (s : State) : State :=
  match s.mxd.latch, s.mxd.energised with
  | some _, some e =>
    if s.mxd.state = .normal then
      let s1 := reach (sampleTime s.mxd) e s
      runAgenda (takeReport (judgeSample s.params reading s.mxd) (s1.modMxd (takeSample s.params reading)))
    else s
  | _, _ => s

def execCurrentSample (reading : Byte) (s : State) : Host.Outcome State Fault Refusal := event (sampleCurrent reading) s

end Sys2Proof.Machine
end

