-- ==== Sys2Proof/Machine/LinkCommands.lean ====
section
/-! DEFINITION. The commands of the Link Unit: frames that reach no block, the address conflict, the offering of frames and
the endings of attempts, and the link's timers (Chapter 10). -/

namespace Sys2Proof.Machine

/-- The link receives from the enabling step onward (R175). -/
def receiving (f : State → State) (s : State) : State := if s.phase = .heldOff then s else f s

/-- R164: a bad frame is not acknowledged, raises the link-bad-frames total and has no further effect. -/
def countBad (s : State) : State :=
  (acknowledge false s).modTotals fun t => { t with badFrames := countUp t.badFrames 1 }

/-- R164: whichever way the frame is bad, it is discarded in the same way. -/
def execBadFrame (_cause : BadCause) (s : State) : Host.Outcome State Fault Refusal := event (receiving countBad) s

def execUnknownFrame (src : Station) (s : State) : Host.Outcome State Fault Refusal := event (hear src countUnknown) s

/-- TABLE 10-4: a VEND-STATUS has only its source noted. -/
def execVendStatusReceived (src _dst : Station) (_tag : Byte) (_outcome : VendOutcome) (_price : Option Half)
    (_position : Option Byte) (s : State) : Host.Outcome State Fault Refusal :=
  event (hear src id) s

/-- TABLE 10-4: a SERVICE-ANSWER has only its source noted. -/
def execServiceAnswerReceived (src _dst : Station) (_tag : Byte) (_result : ServiceResult) (_data : List Byte) (s : State) :
    Host.Outcome State Fault Refusal :=
  event (hear src id) s

def execAddressConflict (s : State) : Host.Outcome State Fault Refusal := event (receiving heardOwnNumber) s

def execFrameOffer (s : State) : Host.Outcome State Fault Refusal := event beginFrame s

def execLostArbitration (s : State) : Host.Outcome State Fault Refusal := event standAgain s

/-! ### The ending of an attempt (R155, R166, R168, R171) -/

/-- R155: the ending of a CLAIM is reported to the Load Budget Unit; no other frame's ending is acted on. -/
def reportEnding (f : Frame) (completed : Bool) (s : State) : State :=
  match f with
  | .claim k _ _ q => claimEnded k q completed s
  | _ => s

/-- R168: another frame of the same superseding kind is waiting. -/
def superseded (f : Frame) (s : State) : Bool := superseding f && s.lnk.queue.any (TxEntry.waits f)

/-- R166: a failed attempt of `e`. In LISTEN-ONLY the single attempt of R171 has been given. -/
def attemptFailed (e : TxEntry) (s : State) : State :=
  let s1 := countFailure s
  if listenOnly s ∨ superseded e.frame s = true then leaveQueue s1
  else if e.attempts + 1 < Config.attempts then standAgain s1
  else reportEnding e.frame false (dropFrame s1)

/-- R166: a completed attempt of `e`. -/
def attemptCompleted (e : TxEntry) (s : State) : State :=
  reportEnding e.frame true ((leaveQueue s).modLnk fun l => { l with failures := 0 })

/-- R167: SILENT is entered for 1 s. -/
def enterSilent (s : State) : State :=
  noteIsolation (isolated s) (s.modLnk fun l =>
    { l with state := .silent, silentTimer := some 0, silentEntries := countUp l.silentEntries 1 })

/-- R166: SILENT is entered at the sixteenth failure in a row, after the frame's own attempt has been dealt with. -/
def checkFailures (s : State) : State :=
  if s.lnk.state = .active ∧ Config.silentFailures ≤ s.lnk.failures then enterSilent s else s

/-- R166: the attempt under way ends. -/
def endAttempt (ending : AttemptEnd) (s : State) : State :=
  match sending s with
  | none => s
  | some e =>
    runAgenda (checkFailures (if ending = .completed then attemptCompleted e s else attemptFailed e s))

def execFrameAttemptEnd (ending : AttemptEnd) (s : State) : Host.Outcome State Fault Refusal := event (endAttempt ending) s

/-! ### Timers (R167, R169, R170) -/

/-- R167: the SILENT second ends. -/
def endSilent (s : State) : State :=
  match s.lnk.silentTimer with
  | some t =>
    if s.lnk.state = .silent then
      let s1 := reach Config.silentTime t s
      runAgenda (noteIsolation true (s1.modLnk fun l => { l with state := .active, silentTimer := none, failures := 0 }))
    else s
  | none => s

def execSilentEnd (s : State) : Host.Outcome State Fault Refusal := event endSilent s

/-- R169: the STATUS period ends. -/
def endPeriod (s : State) : State :=
  match s.lnk.periodTimer with
  | some t => queueStatus (reach Config.statusPeriod t s)
  | none => s

def execStatusPeriodExpiry (s : State) : Host.Outcome State Fault Refusal := event endPeriod s

/-- R170: nothing has been heard for 2 s. -/
def endHearing (s : State) : State :=
  if s.lnk.heard then
    let s1 := reach Config.isolationTime s.lnk.isolationTimer s
    runAgenda (noteIsolation (isolated s1) (s1.modLnk fun l => { l with heard := false }))
  else s

def execIsolationTimerExpiry (s : State) : Host.Outcome State Fault Refusal := event endHearing s

end Sys2Proof.Machine
end

