-- ==== Sys2Proof/Machine/LoadCommands.lean ====
section
/-! DEFINITION. The commands of the Load Budget Unit: STATUS, CLAIM, RELEASE and OBJECT, the ages of the peer load table,
and the timers of the own records (Chapter 9). -/

namespace Sys2Proof.Machine

def execStatusReceived (src _dst : Station) (change : Byte) (total limit : Half) (flags : Byte) (s : State) :
    Host.Outcome State Fault Refusal :=
  event (hearWith src (modPeer src (Peer.takeStatus change total.toNat limit.toNat flags)) false id) s

/-- R149: an entry's age reaches 2 s. -/
def ageOutPeer (st : Station) (s : State) : State :=
  match peerAt st s with
  | some e =>
    if e.live then
      let s1 := reach Config.peerAge e.age s
      let s2 := if e.limit = 0 then removePeer st s1 else modPeer st (fun e => { e with live := false }) s1
      runAgenda (afterTable s1 s2)
    else s
  | none => s

def execPeerEntryAgeOut (station : Station) (s : State) : Host.Outcome State Fault Refusal := event (ageOutPeer station) s

/-- R159: the OBJECT to a claimer whose claim does not fit the objection view. -/
def objectTo (src : Station) (kind sequence : Byte) (s : State) : State :=
  if objects s then send (.object src kind sequence (objectionView s)) s else s

/-- R159: a claim is listed in the entry its source has, or will have once it is noted. -/
def listsClaim (src : Station) (kind : Byte) (s : State) : Bool := ((peerAt src s).map (Peer.lists kind)).getD true

/-- R159, R160: a CLAIM of a kind in TABLE 10-3. -/
def hearClaim (src : Station) (kind : Byte) (cls : ClaimClass) (amount : Nat) (sequence : Byte) (s : State) : State :=
  hearWith src (modPeer src (Peer.takeClaim (newClaim kind cls amount sequence))) (listsClaim src kind s)
    (objectTo src kind sequence) s

def execClaimReceived (src _dst : Station) (kind : Byte) (cls : ClaimClass) (amount : Half) (sequence : Byte) (s : State) :
    Host.Outcome State Fault Refusal :=
  event (fun s => if kind = 0 then hear src countUnknown s else hearClaim src kind cls amount.toNat sequence s) s

def execReleaseReceived (src _dst : Station) (kind sequence : Byte) (s : State) : Host.Outcome State Fault Refusal :=
  event (fun s =>
    if kind = 0 then hear src countUnknown s else hearWith src (modPeer src (Peer.takeRelease kind sequence)) false id s) s

/-- R160: the claims of a kind in an entry become assumed. -/
def Peer.assume (kind : Byte) (e : Peer) : Peer :=
  { e with claims := e.claims.map fun c => if c.kind = kind then { c with assumed := true } else c }

/-- R160: a pending claim's heard-age reaches 60 ms; no counted amount changes. -/
def assumeClaim (st : Station) (kind : Byte) (s : State) : State :=
  match (peerAt st s).bind fun e => e.claims.find? fun c => c.kind == kind with
  | some c => modPeer st (Peer.assume kind) (reach Config.assumedAge c.heardAge s)
  | none => s

def execClaimAssumed (station : Station) (kind : Byte) (s : State) : Host.Outcome State Fault Refusal :=
  event (assumeClaim station kind) s

def execObjectReceived (src dst : Station) (kind sequence : Byte) (sum : Half) (s : State) : Host.Outcome State Fault Refusal :=
  event (fun s =>
    if kind = 0 then hear src countUnknown s else hear src (directed dst (takeObject kind sequence sum)) s) s

/-- R157: a held-off record's wait age reaches 500 ms. -/
def endHeldOff (k : LoadKind) (s : State) : State :=
  let l := s.lbu.load k
  if l.state = .waiting ∧ l.heldOff = true then
    runAgenda (testRecord k (modLoad k (fun l => { l with heldOff := false }) (reach Config.heldOffAge l.waitAge s)))
  else s

def execHeldOffExpiry (kind : LoadKind) (s : State) : Host.Outcome State Fault Refusal := event (endHeldOff kind) s

/-- R153: the wait age of a record that met a full transmit queue reaches 100 ms. -/
def retryClaim (k : LoadKind) (s : State) : State :=
  let l := s.lbu.load k
  if l.state = .waiting ∧ l.metFull = true then runAgenda (testRecord k (reach Config.retryAge l.waitAge s)) else s

def execClaimRetryAge (kind : LoadKind) (s : State) : Host.Outcome State Fault Refusal := event (retryClaim kind) s

/-- R156: the settle window of a PROPOSED record reaches 40 ms. -/
def endSettleWindow (k : LoadKind) (s : State) : State :=
  let l := s.lbu.load k
  match l.window with
  | some w => if l.state = .proposed then runAgenda (decideProposed k (reach Config.settleWindow w s)) else s
  | none => s

def execSettleWindowExpiry (kind : LoadKind) (s : State) : Host.Outcome State Fault Refusal := event (endSettleWindow kind) s

end Sys2Proof.Machine
end

