-- ==== Sys2Proof/Machine/StartCommands.lean ====
section
/-! DEFINITION. The power-up sequence, its reconciliation, and the service restart with each block's restart rule
(R172 to R176 and the reset tables of every chapter). -/

namespace Sys2Proof.Machine

/-! ### Power-up (R175, steps 1 to 4) -/

/-- TABLE 10-5: the link state the straps give. -/
def linkStateOf (straps : Station) : LinkState := if strapsBad straps then .listenOnly else .active

/-- R126, R145, R146: the drive and cooling conditions of an applied image. -/
def Applied.drives (a : Applied) : Bool := a.params.matrix && a.cause.isNone
def Applied.cools (a : Applied) : Bool := a.params.cooling && a.cause.isNone

/-- R126: the Matrix Driver at the enabling step. -/
def driveAtPowerUp (a : Applied) : Mxd :=
  if a.drives then { State.reset.mxd with state := .normal, hold := 1 } else State.reset.mxd

/-- R172 to R175, R180: the state at the end of the enabling step; every block as its power-up column gives it. Kept are
the waiting commands, what the memory's audit area holds, and every input with its last sample and filtered level, of which
the manual gives none between this step and R175's step 5; the evaporator fan follows the door level so kept (log 6). The phase of
the sample clock within its millisecond is kept with them (DESIGN CHOICE, log 6). -/
def powerUpState (straps : Station) (params : ParamRead) (audit : AuditRead) (s : State) : State :=
  let a := applyImage straps params
  let loaded := auditLoaded s.ssu.auditArea audit
  { State.reset with
    pending := s.pending
    phase := .enabled
    inputs := { s.inputs with cam := Filter.standing false }
    outputs := s.outputs
    params := a.params
    cnu := { State.reset.cnu with coinTypes := a.coinTypes, tubes := a.tubes }
    vsq := { State.reset.vsq with slots := a.slots }
    mxd := driveAtPowerUp a
    rfc := if a.cools then freshRfc else absentRfc
    lnk := { State.reset.lnk with state := linkStateOf straps }
    ssu :=
      { own := a.own, cause := a.cause, imageStatus := a.status, auditGood := loaded.isSome
        totals := loaded.getD State.zeroTotals, snapshot := none, saveOwed := false, lastSave := none
        auditArea := auditContents s.ssu.auditArea audit } }

def execPowerUp (straps : Station) (params : ParamRead) (audit : AuditRead) (s : State) :
    Host.Outcome State Fault Refusal :=
  event (powerUpState straps params audit) s

/-! ### Reconciliation and announcement (R175, steps 5 and 6) -/

/-- R175: every filtered input takes its first level. -/
def standLevels (l : InputLevels) (n : Inputs) : Inputs :=
  { n with
    strobe := Filter.standing l.strobe, curtain := Filter.standing l.curtain, door := Filter.standing l.door
    lever := Filter.standing l.lever, cashbox := Filter.standing l.cashbox, exit := Filter.standing l.exit
    empties := l.empties.map Filter.standing, fulls := l.fulls.map Filter.standing }

/-- R18: the estimates of the tubes from index `i` on. -/
def estimateFrom (n : Inputs) : Nat → List (Option Tube) → List (Option Tube)
  | _, [] => []
  | i, t :: r => t.map (Tube.estimate (levelOf n.empties i) (levelOf n.fulls i)) :: estimateFrom n (i + 1) r

/-- R12, R18: the cashbox state and the tube estimates. -/
def reconcileAll (closed : Bool) (s : State) : State :=
  s.modCnu fun c => { c with cashboxPresent := closed, tubes := estimateFrom s.inputs 1 c.tubes }

/-- R40, R169: PURGE and then STATUS. -/
def announceStart (s : State) : State := startStatus (send (.purge s.cru.session.number) s)

/-- R175: steps 5 and 6; the part runs from their end. -/
def finishPowerUp (l : InputLevels) (s : State) : State :=
  let s1 := reconcileAll l.cashbox (s.modInputs (standLevels l))
  announceStart (probe { s1 with phase := .running })

def execPowerUpReconciliation (l : InputLevels) (s : State) : Host.Outcome State Fault Refusal :=
  event (fun s => if s.phase = .enabled then finishPowerUp l s else s) s

/-! ### Service restart (R176), block by block -/

/-- R176, TABLE 10-5: the link at a restart. -/
def restartLink (straps : Station) (s : State) : State :=
  s.modLnk fun l =>
    { l with
      state := linkStateOf straps, queue := [], failures := 0, silentTimer := none
      periodTimer := if strapsBad straps then none else l.periodTimer }

/-- R19: the tube records from index `i` on. The two steps of R18, which R19 makes at a restart without saying against which
levels, are made against the levels filtered now (DEDUCED, log 39). -/
def restartTubesFrom (n : Inputs) : Nat → List (Option Tube) → List (Option Tube) → List (Option Tube)
  | _, _, [] => []
  | i, kept, x :: r =>
    restartTube (kept.head?.join) x (levelOf n.empties i) (levelOf n.fulls i) :: restartTubesFrom n (i + 1) kept.tail r

/-- R4, R9, R19: the Coin Unit at a restart. -/
def restartCoins (a : Applied) (s : State) : State :=
  s.modCnu fun c =>
    { c with coinTypes := a.coinTypes, tubes := restartTubesFrom s.inputs 1 c.tubes a.tubes, routing := none }

/-- R60, TABLE 3-6: the Credit Unit at a restart; number, version and stray-exit count are kept. -/
def restartCredit (s : State) : State :=
  s.modCru fun c =>
    { c with
      session :=
        { c.session with
          state := .idle, changeShort := false, escrowPending := false, idleTimer := none, hold := none, lastExpired := none }
      payout := none, solenoid := none
      books := { credited := 0, sold := 0, paidOut := 0, forfeited := 0, overpay := 0, shortPays := 0 }
      refresh := none, owed := false }

/-- TABLE 5-7: the Credit Cache at a restart. -/
def restartCache (s : State) : State := s.modCca fun _ => { entries := [], memory := List.replicate 15 none }

/-- R93: the slot records of a restart. -/
def restartSlots (kept loaded : List (Option Slot)) : List (Option Slot) :=
  match loaded with
  | [] => []
  | x :: r => restartSlot kept.head?.join x :: restartSlots kept.tail r

/-- R93, TABLE 6-6: the Vend Sequencer at a restart. -/
def restartVend (a : Applied) (s : State) : State :=
  s.modVsq fun q => { q with queue := [], slots := restartSlots q.slots a.slots }

/-- R126: the Matrix Driver's own items at a restart. -/
def restartMxd (state : DriveState) (m : Mxd) : Mxd :=
  { m with
    state := state, staging := none, latch := none, hold := 1, mismatch := 0, fault := none, energised := none, samples := 0
    stallRun := 0, supervision := false, lastSample := 0 }

/-- R123, R126: the Matrix Driver at a restart; a fault so cleared queues a STATUS. -/
def restartDrive (a : Applied) (s : State) : State :=
  let s1 := s.modMxd (restartMxd (if a.drives then .normal else .off))
  if s.mxd.state = .fault then queueStatus s1 else s1

/-- R163: a COMPRESSOR record QUEUED has lost its frame with the queue. -/
def restartCompressorLoad (s : State) : State :=
  if s.lbu.compressor.state = .queued then testRecord .compressor (waitAgain .compressor s) else s

/-- R163: the Load Budget Unit at a restart: MOTOR and HEATER given up, the QUEUED COMPRESSOR, the entry of the own number with
the counted totals of the re-read parameters, and the changed own total. -/
def restartLoad (before s : State) : State :=
  let s1 := restartCompressorLoad (giveUp .heater (giveUp .motor s))
  let s2 := afterTable before (removePeer s.ssu.own s1)
  if ownTotal s = ownTotal before then s2 else testWaiting (announceChange s2)

/-- R147: a timer stands at or beyond its re-read limit. -/
def timerDue (timer : Option Nat) (limit : Nat) : Bool := (timer.map fun t => decide (limit ≤ t)).getD false

/-- R147: the defrost goes on without heat, and defrost due follows the re-read interval. -/
def restartDefrost (s : State) : State :=
  s.modRfc fun r => { r with heaterMode := r.heaterMode.map fun _ => .offCycle, defrostDue := dueNow s }

/-- R147: the lockout expires in the restart event. -/
def restartLockout (s : State) : State :=
  if s.rfc.state = .offLockout ∧ timerDue s.rfc.lockoutTimer s.params.minOff = true then endLockout s else s

/-- R147: the maximum defrost duration expires in the restart event. -/
def restartMaxDefrost (s : State) : State :=
  if s.rfc.state = .defrostHeat ∧ timerDue s.rfc.defrostTimer s.params.maxDefrost = true then endDefrost s else s

/-- R147: the hot-hold time expires in the restart event. -/
def restartWarm (s : State) : State := if timerDue s.rfc.warmTimer s.params.hotHoldTime then latchHotHold s else s

/-- R147: cooling is kept; each running timer is compared with its re-read limit. The sale state is re-evaluated under the
re-read sale limit before the warm timer is compared with the re-read hot-hold time (DEDUCED, log 26). -/
def keepCooling (s : State) : State := restartWarm (saleEvent (restartMaxDefrost (testStop (restartLockout (restartDefrost s)))))

/-- R147: cooling is no longer declared, or the station is UNCONFIGURED. -/
def dropCooling (s : State) : State :=
  (giveUp .heater (giveUp .compressor s)).modRfc fun _ => absentRfc

/-- R147: the Refrigeration Controller at a restart. -/
def restartCooling (a : Applied) (s : State) : State :=
  if s.rfc.state = .absent then if a.cools then s.modRfc fun _ => freshRfc else s
  else if a.cools then keepCooling s
  else dropCooling s

/-- R172, R173: the straps and the image as read again. -/
def restartStation (a : Applied) (s : State) : State :=
  let s1 := s.modSsu fun u => { u with own := a.own, cause := a.cause, imageStatus := a.status }
  { s1 with params := a.params }

/-- R176: the restart, whole, in its order, up to its answer. -/
def restartAll (straps : Station) (params : ParamRead) (s : State) : State :=
  let a := applyImage straps params
  let s1 := restartStation a (restartLink straps s)
  let s2 := restartDrive a (restartVend a (restartCache (restartCredit (restartCoins a s1))))
  let s3 := runAgenda (restartCooling a (restartLoad s s2))
  announceStart (probe (runAgenda (noteIsolation (isolated s) s3)))

/-- R176: the conditions that refuse a RESTART. -/
def restartBusy (s : State) : Bool :=
  decide (0 < s.cru.session.balance) || s.cru.session.hold.isSome || s.cru.session.state == .paying || s.vsq.state != .idle

end Sys2Proof.Machine
end

