-- ==== Sys2Proof/Machine/StateRead.lean ====
section
/-! DEFINITION. What STATE-READ reports (R178, TABLE 11-3): the bytes of each area's records. Field order is that of the
table that specifies the record; log 17 gives the conventions the manual leaves open (widths, codes, presence bytes). -/

namespace Sys2Proof.Machine

/-! ### Fields -/

def byte1 (n : Nat) : List Byte := [BitVec.ofNat 8 n]

/-- A yes-or-no field, or a record's presence. -/
def flagByte (b : Bool) : List Byte := [Byte.ofBool b]

/-- R178: a timer or age in ms as 4 bytes, stopping at the greatest value they hold. -/
def timeBytes (t : Nat) : List Byte := bytesOf 4 (min 4294967295 t)

/-- A timer that may be stopped, at zero. -/
def timerBytes (t : Option Nat) : List Byte := timeBytes (t.getD 0)

/-- A signed field of two bytes, in two's complement. -/
def signedBytes (v : Int) : List Byte := bytesOf 2 (v % 65536).toNat

/-- R178: an optional field or record: its presence byte, and its bytes when present. -/
def optField {α : Type} (v : Option α) (f : α → List Byte) : List Byte :=
  match v with
  | some a => 1 :: f a
  | none => [0]

/-- A list of records: how many, then each. -/
def listField {α : Type} (l : List α) (f : α → List Byte) : List Byte := byte1 l.length ++ l.flatMap f

/-! ### Codes of states, in the order their tables list them -/

def TubeState.code : TubeState → Nat
  | .normal => 0 | .dry => 1 | .disabled => 2

def PayoutPhase.code : PayoutPhase → Nat
  | .pulseWait => 0 | .exitClear => 1

def SlotState.code : SlotState → Nat
  | .ready => 0 | .soldOut => 1 | .jammed => 2 | .disabled => 3

def VsqState.code : VsqState → Nat
  | .idle => 0 | .debiting => 1 | .claiming => 2 | .running => 3 | .dropWait => 4 | .settling => 5 | .testing => 6

def Payment.code : Payment → Nat
  | .unpaid => 0 | .own => 1 | .remote => 2

/-- Log 37. -/
def EndCause.code : EndCause → Nat
  | .drop => 0 | .runEnd => 1 | .jam => 2 | .motorOpen => 3 | .door => 4 | .driveFault => 5 | .windowEnd => 6 | .budget => 7
  | .lossOfCold => 8 | .debit => 9

def DriveState.code : DriveState → Nat
  | .off => 0 | .normal => 1 | .fault => 2

def SensorState.code : SensorState → Nat
  | .awaiting => 0 | .valid => 1 | .faulted => 2

def CoolState.code : CoolState → Nat
  | .offLockout => 0 | .off => 1 | .want => 2 | .starting => 3 | .running => 4 | .defrostHeat => 5 | .defrostDrip => 6 | .absent => 7

def HeaterMode.code : HeaterMode → Nat
  | .waiting => 0 | .heating => 1 | .offCycle => 2

def LoadState.code : LoadState → Nat
  | .none => 0 | .waiting => 1 | .queued => 2 | .proposed => 3 | .held => 4

def LinkState.code : LinkState → Nat
  | .active => 0 | .silent => 1 | .listenOnly => 2

def Cause.code : Cause → Nat
  | .straps => 0 | .image => 1

/-! ### Records -/

def Hold.bytes (h : Hold) : List Byte := byte1 h.requester.toNat ++ (h.tag :: (bytesOf 2 h.amount ++ timeBytes h.age))

def LastExpired.bytes (l : LastExpired) : List Byte := byte1 l.requester.toNat ++ [l.tag]

def Session.bytes (c : Session) : List Byte :=
  c.number :: c.state.code :: (bytesOf 2 c.balance ++ halfBytes c.version ++ flagByte c.changeShort ++ flagByte c.escrowPending
    ++ timerBytes c.idleTimer ++ optField c.hold Hold.bytes ++ optField c.lastExpired LastExpired.bytes)

def Payout.bytes (p : Payout) : List Byte :=
  byte1 p.phase.code ++ byte1 (p.tube.getD 0) ++ byte1 p.attempt ++ timerBytes p.window ++ timerBytes p.clear

def Books.bytes (b : Books) : List Byte :=
  bytesOf 6 b.credited ++ bytesOf 6 b.sold ++ bytesOf 6 b.paidOut ++ bytesOf 6 b.forfeited ++ bytesOf 6 b.overpay
    ++ bytesOf 2 b.shortPays

def CoinType.bytes (c : CoinType) : List Byte := bytesOf 2 c.value ++ flagByte c.enabled ++ byte1 (c.tube.getD 0)

/-- COVERED comes before UNCOVERED in TABLE 1-3. -/
def Tube.bytes (empty full : Bool) (t : Tube) : List Byte :=
  byte1 t.coinType ++ bytesOf 2 t.denomination ++ byte1 t.capacity ++ byte1 t.lowMark ++ byte1 t.fullMark ++ byte1 t.reserve
    ++ byte1 t.count ++ byte1 t.state.code ++ flagByte (!empty) ++ flagByte (!full)

def Slot.bytes (vends : Nat) (t : Slot) : List Byte :=
  flagByte true ++ bytesOf 2 t.price ++ byte1 t.turns ++ byte1 t.extraTurns ++ flagByte t.chilled ++ byte1 t.state.code
    ++ optField t.stock byte1 ++ byte1 t.noDropRun ++ flagByte t.offHome ++ bytesOf 2 vends

def Selection.bytes (r : Selection) : List Byte := byte1 r.panel.toNat ++ (r.tag :: (byte1 r.slot ++ byte1 r.credit))

def Grant.bytes (g : Grant) : List Byte := [g.tag, g.number]

def Vend.bytes (v : Vend) : List Byte :=
  v.selection.bytes ++ bytesOf 2 v.price ++ byte1 v.payment.code ++ optField v.granted Grant.bytes ++ byte1 v.pulses
    ++ byte1 v.extraLeft ++ flagByte v.motorOn ++ flagByte v.windowArmed ++ flagByte v.dropSeen ++ flagByte v.jammed
    ++ flagByte v.doorOpened ++ flagByte v.doorStop ++ optField v.endedBy (fun c => byte1 c.code) ++ timerBytes v.budgetTimer
    ++ timerBytes v.jamTimer ++ timerBytes v.windowTimer

/-- R115: the test record: the slot, the request tag and the service tool's station. -/
def Test.bytes (t : Test) : List Byte := byte1 t.slot ++ (t.tag :: byte1 t.station.toNat)

/-- R178: the vend or test record of area 5. -/
def workBytes (v : Vsq) : List Byte :=
  match v.vend, v.test with
  | some r, _ => 1 :: r.bytes
  | none, some t => 1 :: t.bytes
  | none, none => [0]

def CacheEntry.bytes (e : CacheEntry) : List Byte :=
  byte1 e.station.toNat ++ (e.number :: e.state.code :: (bytesOf 2 e.balance ++ halfBytes e.version ++ flagByte e.changeShort
    ++ timeBytes e.age))

def Claim.bytes (c : Claim) : List Byte :=
  c.kind :: c.cls.code :: (bytesOf 2 c.amount ++ (c.sequence :: (timeBytes c.heardAge ++ flagByte c.assumed)))

/-- TABLE 9-1: LIVE comes before LOST; the four flags stand in one byte as STATUS carries them. -/
def Peer.bytes (e : Peer) : List Byte :=
  byte1 e.station.toNat ++ flagByte (!e.live) ++ bytesOf 2 e.total ++ bytesOf 2 e.limit ++ optField e.change (fun b => [b])
    ++ byte1 (e.door.toNat + 2 * e.isolated.toNat + 4 * e.unconfigured.toNat + 8 * e.listenOnly.toNat) ++ timeBytes e.age
    ++ listField e.claims Claim.bytes

def OwnLoad.bytes (l : OwnLoad) : List Byte :=
  byte1 l.state.code ++ (l.cls.code :: (bytesOf 2 l.amount ++ (l.sequence :: (timeBytes l.waitAge ++ flagByte l.heldOff
    ++ timerBytes l.window))))

def Pair.bytes (p : Pair) : List Byte := byte1 p.row.toNat ++ byte1 p.col.toNat

/-- R122: the line as one byte 0 to 17, and the two levels, 1 for active (log 17). -/
def FaultRecord.bytes (f : FaultRecord) : List Byte := byte1 f.line ++ flagByte f.latched ++ flagByte f.sensed

/-- TABLE 7-1; supervision is open, then closed. All-off is the presence byte 0 (log 17). -/
def Mxd.bytes (m : Mxd) : List Byte :=
  byte1 m.state.code ++ optField m.staging Pair.bytes ++ optField m.latch Pair.bytes ++ byte1 m.hold ++ byte1 m.mismatch
    ++ optField m.fault FaultRecord.bytes ++ timerBytes m.energised ++ byte1 m.stallRun ++ flagByte (!m.supervision)
    ++ [m.lastSample]

def SensorRecord.bytes (r : SensorRecord) : List Byte :=
  byte1 r.state.code ++ bytesOf 2 r.average ++ optField r.reading signedBytes ++ byte1 r.inRun ++ byte1 r.outRun

/-- TABLE 8-3, the relay levels of R130 at the place log 17 gives them, TABLE 8-6 (HOT-HOLD latched, then clear) and the fans
of R141. The class asked has the code that TABLE 10-3 gives it as a claim class (DESIGN CHOICE, log 17). -/
def Rfc.bytes (o : Outputs) (r : Rfc) : List Byte :=
  r.cabinet.bytes ++ r.evaporator.bytes ++ byte1 r.state.code ++ timerBytes r.lockoutTimer ++ timerBytes r.cycleTimer
    ++ [r.classAsked.code] ++ timerBytes r.startTimer ++ timerBytes r.onTimer ++ timerBytes r.offTimer
    ++ bytesOf 2 r.accumulator ++ flagByte r.defrostDue ++ timerBytes r.defrostTimer
    ++ optField r.heaterMode (fun m => byte1 m.code) ++ timerBytes r.dripTimer ++ flagByte o.compressorRelay
    ++ flagByte o.heaterRelay ++ flagByte r.sellableCold ++ timerBytes r.warmTimer ++ flagByte (!r.hotHold)
    ++ flagByte o.condenserFan ++ flagByte o.evaporatorFan

/-- R178, area 12: the four items of TABLE 11-3, with the rest of the record in the order in which 10.1 tells it: isolation
timer, change number, period timer, failures, and the three error counts (DESIGN CHOICE, log 17). -/
def Lnk.bytes (l : Lnk) : List Byte :=
  byte1 l.state.code ++ byte1 l.queue.length ++ timeBytes l.isolationTimer ++ [l.change] ++ timerBytes l.periodTimer
    ++ byte1 l.failures ++ bytesOf 2 l.unknownFrames ++ bytesOf 2 l.droppedFrames ++ bytesOf 2 l.silentEntries

/-- TABLE 11-3, area 13. After the save status, IDLE or WRITING, the record goes on with the owed save and the last save of
R181 (DESIGN CHOICE, log 17). -/
def Ssu.bytes (u : Ssu) : List Byte :=
  byte1 u.own.toNat ++ optField u.cause (fun c => byte1 c.code) ++ [u.imageStatus.code] ++ flagByte (!u.auditGood)
    ++ flagByte u.snapshot.isSome ++ flagByte u.saveOwed ++ optField u.lastSave (fun b => flagByte (!b))

/-! ### Areas -/

/-- R178, TABLE 11-3: the bytes of the record an area and an index name; none where there is no such record. A parameter is
reported where a record of TABLE 11-3 holds it, and nowhere else (R173; DESIGN CHOICE, log 17). The inhibit set of
area 3 has coin type `n` at bit `n - 1`; the limits of area 9 are the own configured limit, the effective limit and the solo
allowance, in this order (DESIGN CHOICE, log 17). -/
def recordBytes (area index : Nat) (s : State) : Option (List Byte) :=
  match area with
  | 0 =>
    some (s.cru.session.bytes ++ optField s.cru.payout Payout.bytes ++ s.cru.books.bytes ++ flagByte s.cru.exactChangeOnly)
  | 1 => (coinTypeAt s index).map CoinType.bytes
  | 2 => (tubeAt s index).map (Tube.bytes (emptyCovered s index) (fullCovered s index))
  | 3 =>
    some (byte1 (inhibitLines s).toNat ++ flagByte (!s.cnu.cashboxPresent) ++ bytesOf 2 s.cnu.headRejects
      ++ bytesOf 2 s.cru.strayExits)
  | 4 =>
    if index ≤ 79 then (slotAt s index).map (Slot.bytes ((s.ssu.totals.vendCounts[index]?).getD 0)) else none
  | 5 => some (byte1 s.vsq.state.code ++ workBytes s.vsq ++ listField s.vsq.queue Selection.bytes)
  | 6 =>
    match index with
    | 0 => none
    | j + 1 => (s.cca.entries[j]?).map CacheEntry.bytes
  | 7 =>
    match index with
    | 0 => none
    | j + 1 => (s.cca.memory[j]?).map fun n => optField n (fun b => [b])
  | 8 => if index ≤ 15 then (peerAt (BitVec.ofNat 4 index) s).map Peer.bytes else none
  | 9 =>
    some (s.lbu.motor.bytes ++ s.lbu.compressor.bytes ++ s.lbu.heater.bytes ++ bytesOf 2 s.params.ownLimit
      ++ bytesOf 2 (effectiveLimit s) ++ bytesOf 2 (soloAllowance s) ++ optField s.lbu.objectSum halfBytes
      ++ bytesOf 2 s.lbu.ignored)
  | 10 => some s.mxd.bytes
  | 11 => some (s.rfc.bytes (outputsOf s))
  | 12 => some s.lnk.bytes
  | 13 => some s.ssu.bytes
  | _ => none

/-- R178: part 0 is the first 10 bytes, part 1 the next 10, and so on; none beyond the record's end. -/
def partOf (part : Nat) (bytes : List Byte) : Option (List Byte) :=
  let p := (bytes.drop (10 * part)).take 10
  if p = [] then none else some p

end Sys2Proof.Machine
end

