-- ==== Sys2Proof/Machine/ServiceCommands.lean ====
section
/-! DEFINITION. The service requests (11.5, 11.6): the checks of R177 in their order, what each request does when it is
taken, and its answer. -/

namespace Sys2Proof.Machine

/-- The station of the service tool (0.6.2). -/
def toolStation : Station := 15

/-- R177: a SERVICE-ANSWER to the tool. -/
def answerTool (tag : Byte) (r : ServiceResult) (data : List Byte) (s : State) : State :=
  send (.serviceAnswer toolStation tag r data) s

/-- R164, R177: a SERVICE heard; one not from station 15 is counted unknown, and one for another station is not delivered. -/
def serve (h : ServiceHead) (f : State → State) (s : State) : State :=
  hear h.source (if h.source = toolStation then directed h.dest f else countUnknown) s

/-- R177: a request refused, or acted on and answered DONE without data. What the act queues comes before the answer (DESIGN CHOICE,
log 14). -/
def takeRequest (tag : Byte) (refusal : Option ServiceResult) (act : State → State) (s : State) : State :=
  match refusal with
  | some r => answerTool tag r [] s
  | none => answerTool tag .done [] (act s)

/-! ### STATE-READ and AUDIT-READ (R178) -/

/-- R177, R178: a STATE-READ. -/
def readState (tag : Byte) (args : List Byte) (s : State) : State :=
  match args with
  | [area, index, part] =>
    if 13 < area.toNat then answerTool tag .badArgument [] s
    else
      match recordBytes area.toNat index.toNat s with
      | none => answerTool tag .notPresent [] s
      | some bytes =>
        match partOf part.toNat bytes with
        | none => answerTool tag .badArgument [] s
        | some data => answerTool tag .done data s
  | _ => answerTool tag .badArgument [] s

def execStateRead (h : ServiceHead) (args : List Byte) (s : State) : Host.Outcome State Fault Refusal :=
  event (serve h (readState h.tag args)) s

/-- R177, R178: an AUDIT-READ. -/
def readAudit (tag : Byte) (args : List Byte) (s : State) : State :=
  match args with
  | [sel] =>
    match auditTotal sel.toNat s.ssu.totals with
    | some n => answerTool tag .done (bytesOf 4 n) s
    | none => answerTool tag .badArgument [] s
  | _ => answerTool tag .badArgument [] s

def execAuditRead (h : ServiceHead) (args : List Byte) (s : State) : Host.Outcome State Fault Refusal :=
  event (serve h (readAudit h.tag args)) s

/-- R181: every total and vend count becomes 0 and a save is asked. -/
def clearAudit (s : State) : State := askSave (s.modTotals fun _ => State.zeroTotals)

/-- R177, R181: an AUDIT-CLEAR. -/
def serveAuditClear (tag : Byte) (args : List Byte) (s : State) : State :=
  takeRequest tag (if args = [] then none else some .badArgument) clearAudit s

def execAuditClear (h : ServiceHead) (args : List Byte) (s : State) : Host.Outcome State Fault Refusal :=
  event (serve h (serveAuditClear h.tag args)) s

/-! ### Slots (R95) -/

/-- R177: the NOT-PRESENT check of a slot argument. -/
def slotRefusal (slot : Byte) (s : State) : Option ServiceResult := if slotArg slot s = none then some .notPresent else none

/-- R95: SET-PRICE on a record. -/
def Slot.setPrice (price : Nat) (t : Slot) : Slot := { t with price := min 9999 price }

/-- R177, R95: a SET-PRICE. -/
def serveSetPrice (tag : Byte) (args : List Byte) (s : State) : State :=
  match args with
  | [slot, p1, p0] => takeRequest tag (slotRefusal slot s) (modSlot slot.toNat (Slot.setPrice (pairArg p1 p0))) s
  | _ => answerTool tag .badArgument [] s

def execSetPrice (h : ServiceHead) (args : List Byte) (s : State) : Host.Outcome State Fault Refusal :=
  event (serve h (serveSetPrice h.tag args)) s

/-- R95: SET-SLOT on a record: with enable it becomes READY and its no-drop run 0, with disable DISABLED. -/
def Slot.set (price turns extra : Nat) (chilled enable : Bool) (t : Slot) : Slot :=
  { t with
    price := min 9999 price, turns := clampNat 1 4 turns, extraTurns := min 2 extra, chilled := chilled
    state := if enable then .ready else .disabled, noDropRun := if enable then 0 else t.noDropRun }

/-- R177, R95: a SET-SLOT. -/
def serveSetSlot (tag : Byte) (args : List Byte) (s : State) : State :=
  match args with
  | [slot, p1, p0, turns, extra, chilled, enable] =>
    if flagArg chilled && flagArg enable then
      takeRequest tag (slotRefusal slot s)
        (modSlot slot.toNat (Slot.set (pairArg p1 p0) turns.toNat extra.toNat (isYes chilled) (isYes enable))) s
    else answerTool tag .badArgument [] s
  | _ => answerTool tag .badArgument [] s

def execSetSlot (h : ServiceHead) (args : List Byte) (s : State) : Host.Outcome State Fault Refusal :=
  event (serve h (serveSetSlot h.tag args)) s

/-- TABLE 6-2: SET-STOCK above 0 or to absent makes a SOLD-OUT slot READY. -/
def SlotState.restock : SlotState → SlotState
  | .soldOut => .ready
  | .ready => .ready
  | .jammed => .jammed
  | .disabled => .disabled

/-- R95: SET-STOCK on a record. -/
def Slot.setStock (stock : Option Nat) (t : Slot) : Slot :=
  if stock = some 0 then { t with stock := stock, state := t.state.sellOut }
  else { t with stock := stock, noDropRun := 0, state := t.state.restock }

/-- R177, R95: a SET-STOCK. -/
def serveSetStock (tag : Byte) (args : List Byte) (s : State) : State :=
  match args with
  | [slot, stock, present] =>
    if flagArg present then
      takeRequest tag (slotRefusal slot s)
        (modSlot slot.toNat (Slot.setStock (if isYes present then some stock.toNat else none))) s
    else answerTool tag .badArgument [] s
  | _ => answerTool tag .badArgument [] s

def execSetStock (h : ServiceHead) (args : List Byte) (s : State) : Host.Outcome State Fault Refusal :=
  event (serve h (serveSetStock h.tag args)) s

/-! ### Tubes (R20) -/

/-- R177: the NOT-PRESENT check of a tube argument. -/
def tubeRefusal (i : Byte) (s : State) : Option ServiceResult := if tubeArg i s = none then some .notPresent else none

/-- R20: SET-TUBE on a record; a DISABLED tube is not changed. -/
def Tube.setCount (n : Nat) (t : Tube) : Tube := (t.withCount n).revive

/-- R177, R20: a SET-TUBE, with the door open. One heard between the enabling and the reconciliation acts, and probes under
R29 before R30's first probe (DEDUCED, log 5). -/
def serveSetTube (tag : Byte) (args : List Byte) (s : State) : State :=
  match args with
  | [i, n] =>
    takeRequest tag ((tubeRefusal i s).or (if doorOpen s then none else some .needsDoor)) (changeTube i.toNat (Tube.setCount n.toNat)) s
  | _ => answerTool tag .badArgument [] s

def execSetTube (h : ServiceHead) (args : List Byte) (s : State) : Host.Outcome State Fault Refusal :=
  event (serve h (serveSetTube h.tag args)) s

/-! ### CLEAR-FAULT (R179) -/

/-- TABLE 6-2: CLEAR-FAULT naming a JAMMED slot. -/
def Slot.clearJam (t : Slot) : Slot :=
  if t.state = .jammed then { t with state := if t.stock = some 0 then .soldOut else .ready } else t

/-- R179: the data byte: whether the target was in the fault named, and cleared. -/
def answerCleared (tag : Byte) (changed : Bool) (s : State) : State := answerTool tag .done [Byte.ofBool changed] s

/-- R177, R179: the target a CLEAR-FAULT names. What the clearing queues comes before the answer (DESIGN CHOICE, log 14). -/
def clearTarget (tag target index : Byte) (s : State) : State :=
  if target = 0 then
    match slotArg index s with
    | none => answerTool tag .notPresent [] s
    | some t => answerCleared tag (t.state == .jammed) (modSlot index.toNat Slot.clearJam s)
  else if target = 1 then
    if s.mxd.state = .fault then answerCleared tag true (clearFaultState .normal s) else answerCleared tag false s
  else if target = 2 then
    if s.rfc.hotHold then answerCleared tag true (clearHotHold s) else answerCleared tag false s
  else if target = 3 then
    match tubeArg index s with
    | none => answerTool tag .notPresent [] s
    | some t => answerCleared tag (t.state == .dry) (changeTube index.toNat Tube.revive s)
  else answerTool tag .badArgument [] s

/-- R177, R179: a CLEAR-FAULT. -/
def serveClearFault (tag : Byte) (args : List Byte) (s : State) : State :=
  match args with
  | [target, index] => clearTarget tag target index s
  | _ => answerTool tag .badArgument [] s

def execClearFault (h : ServiceHead) (args : List Byte) (s : State) : Host.Outcome State Fault Refusal :=
  event (serve h (serveClearFault h.tag args)) s

/-! ### TEST-MOTOR (R115) -/

/-- R177: the checks of a TEST-MOTOR on a slot. -/
def testRefusal (slot : Byte) (s : State) : Option ServiceResult :=
  if slotArg slot s = none ∨ s.params.matrix = false then some .notPresent
  else if doorOpen s = false then some .needsDoor
  else if s.vsq.state ≠ .idle then some .busy
  else none

/-- R177, R115: a TEST-MOTOR; its DONE is VSQ's, at the test's end. -/
def serveTestMotor (tag : Byte) (args : List Byte) (s : State) : State :=
  match args with
  | [slot] =>
    match testRefusal slot s, slotArg slot s with
    | some r, _ => answerTool tag r [] s
    | none, some t => beginTest slot.toNat t tag toolStation s
    | none, none => s
  | _ => answerTool tag .badArgument [] s

def execTestMotor (h : ServiceHead) (args : List Byte) (s : State) : Host.Outcome State Fault Refusal :=
  event (serve h (serveTestMotor h.tag args)) s

/-! ### FORGET-PEER (R149) -/

/-- R177: the entry a FORGET-PEER names, by its station byte. -/
def namedPeer (st : Byte) (s : State) : Option Peer :=
  if st.toNat ≤ 15 then peerAt (BitVec.ofNat 4 st.toNat) s else none

/-- R149: the entry is removed with its claims, a change of the table. -/
def forgetPeer (st : Byte) (s : State) : State := afterTable s (removePeer (BitVec.ofNat 4 st.toNat) s)

/-- R177, R149: a FORGET-PEER. -/
def serveForgetPeer (tag : Byte) (args : List Byte) (s : State) : State :=
  match args with
  | [st] => takeRequest tag (if namedPeer st s = none then some .notPresent else none) (forgetPeer st) s
  | _ => answerTool tag .badArgument [] s

def execForgetPeer (h : ServiceHead) (args : List Byte) (s : State) : Host.Outcome State Fault Refusal :=
  event (serve h (serveForgetPeer h.tag args)) s

/-! ### RESTART (R176) and unknown codes -/

/-- R176, R177: a RESTART. -/
def serveRestart (tag : Byte) (args : List Byte) (straps : Station) (params : ParamRead) (s : State) : State :=
  if args ≠ [] then answerTool tag .badArgument [] s
  else if restartBusy s then answerTool tag .busy [] s
  else answerTool tag .done [(imageStatusOf params).code] (restartAll straps params s)

def execRestart (h : ServiceHead) (args : List Byte) (straps : Station) (params : ParamRead) (s : State) :
    Host.Outcome State Fault Refusal :=
  event (serve h (serveRestart h.tag args straps params)) s

/-- R177: a request code that is not in TABLE 11-2. -/
def serveUnknown (tag : Byte) (s : State) : State := answerTool tag .badArgument [] s

/-- R177: whatever the code and the arguments, the answer is BAD-ARGUMENT. -/
def execServiceUnknownCode (h : ServiceHead) (_code : Byte) (_args : List Byte) (s : State) :
    Host.Outcome State Fault Refusal :=
  event (serve h (serveUnknown h.tag)) s

end Sys2Proof.Machine
end

