-- ==== Sys2Proof/Machine/VendCommands.lean ====
section
/-! DEFINITION. The commands of the credit cache, of selections, of the requesting side of debit and settlement, and of a
vend's timers and inputs (Chapters 5 and 6). -/

namespace Sys2Proof.Machine

/-! ### The credit cache (R76 to R79) -/

/-- R75 to R77, R79: a CREDIT at the Credit Cache. -/
def cacheCredit (n : CacheEntry) (s : State) : State :=
  s.modCca fun c => rememberNumber n.station n.number { c with entries := takeCredit n c.entries }

def execCreditReceived (src _dst : Station) (number : Byte) (state : SessionState) (balance version : Half)
    (changeShort : Bool) (s : State) : Host.Outcome State Fault Refusal :=
  event (hear src (cacheCredit
    { station := src, number := number, state := state, balance := balance.toNat, version := version
      changeShort := changeShort, age := 0 })) s

/-- R78: an entry's age reaches 6 s and it is removed. -/
def ageOutEntry (st : Station) (s : State) : State :=
  match cacheEntry st s with
  | some e => (reach Config.cacheAge e.age s).modCca fun c => { c with entries := removeEntry st c.entries }
  | none => s

def execCacheEntryAgeOut (station : Station) (s : State) : Host.Outcome State Fault Refusal := event (ageOutEntry station) s

/-- R78, R79: a PURGE at the Credit Cache. -/
def cachePurge (st : Station) (n : Byte) (s : State) : State :=
  s.modCca fun c => rememberNumber st n { c with entries := removeEntry st c.entries }

def execPurgeReceived (src _dst : Station) (number : Byte) (s : State) : Host.Outcome State Fault Refusal :=
  event (hear src (cachePurge src number)) s

/-! ### Selections (R80 to R83) -/

/-- R83: the panel already has a record in the queue or in the vend in progress. -/
def panelBusy (panel : Station) (s : State) : Bool :=
  (s.vsq.queue.any fun r => r.panel == panel) || (s.vsq.vend.map fun v => v.selection.panel == panel).getD false

/-- R81: the session of a credit station as it is known: its own session, or its cache entry. -/
def knownSession (credit : Nat) (s : State) : Option (SessionState × Nat) :=
  if credit = s.ssu.own.toNat then some (s.cru.session.state, s.cru.session.balance)
  else (cacheEntry (BitVec.ofNat 4 credit) s).map fun e => (e.state, e.balance)

/-- TABLE 5-2: the first check that a SELECT fails, with the slot's price. -/
def selectRefusal (panel : Station) (slot credit : Nat) (s : State) : Option (VendOutcome × Nat) :=
  if configured s = false ∨ s.mxd.state = .fault ∨ s.params.matrix = false then some (.outOfService, 0)
  else if doorOpen s then some (.doorOpen, 0)
  else
    match (if slot ≤ 79 then slotAt s slot else none) with
    | none => some (.invalidSlot, 0)
    | some t =>
      if t.state ≠ .ready then some (.unavailable, t.price)
      else if tooWarm s t then some (.unavailableTemp, t.price)
      else if Config.selectionPlaces ≤ s.vsq.queue.length ∨ panelBusy panel s = true then some (.busy, t.price)
      else if 0 < t.price ∧ (credit = 0 ∨ 15 < credit) then some (.insufficient, t.price)
      else if 0 < t.price ∧
          ((knownSession credit s).map fun k => k.1 == .opened && decide (k.2 < t.price)) = some true then
        some (.insufficient, t.price)
      else none

/-- R82: an accepted record joins the queue, is answered with its position, and is taken at once by an IDLE VSQ. -/
def joinQueue (r : Selection) (s : State) : State :=
  let s1 := s.modVsq fun q => { q with queue := q.queue ++ [r] }
  let s2 := send (.vendStatus r.panel r.tag .accepted none (some s1.vsq.queue.length)) s1
  if s.vsq.state = .idle then signal .takeHead s2 else s2

/-- R80: a SELECT at VSQ; in LISTEN-ONLY it is not taken. -/
def takeSelect (panel : Station) (tag : Byte) (slot credit : Nat) (s : State) : State :=
  if listenOnly s then s
  else
    let r : Selection := { panel := panel, tag := tag, slot := slot, credit := credit }
    match selectRefusal panel slot credit s with
    | some (o, p) => answerPanel r o p s
    | none => joinQueue r s

def execSelectReceived (src dst : Station) (tag slot credit : Byte) (s : State) : Host.Outcome State Fault Refusal :=
  event (hear src (directed dst (takeSelect src tag slot.toNat credit.toNat))) s

/-! ### Debit and settlement as requester (R87 to R92) -/

/-- R87: the answer timer reaches 250 ms: one resend, then PAYMENT-UNREACHABLE. -/
def repeatDebit (v : Vend) (a : Asked) (s : State) : State :=
  if a.sendings = 1 then
    let r := request (.debit v.selection.creditStation a.number v.price a.tag a.expected) s
    if r.2 then modVend (fun v => { v with asked := some { a with sendings := 2, timer := 0 } }) r.1
    else endUnpaid .paymentUnreachable s
  else endUnpaid .paymentUnreachable s

/-- R87: the answer timer of the DEBIT outstanding ends. -/
def endAnswerTime (s : State) : State :=
  match s.vsq.vend with
  | some v =>
    match v.asked with
    | some a => runAgenda (repeatDebit v a (reach Config.answerTime a.timer s))
    | none => s
  | none => s

def execAnswerTimerExpiry (s : State) : Host.Outcome State Fault Refusal := event endAnswerTime s

/-- R88: VSQ accepts a DEBIT-ANSWER, or disregards it. -/
def takeDebitAnswer (src : Station) (tag : Byte) (o : DebitOutcome) (balance version : Option Half) (s : State) : State :=
  match s.vsq.vend with
  | some v =>
    match v.asked with
    | some a =>
      if s.vsq.state = .debiting ∧ src = v.selection.creditStation ∧ tag = a.tag then
        actOnDebit v a o (balance.map BitVec.toNat) version s
      else s
    | none => s
  | none => s

def execDebitAnswerReceived (src dst : Station) (tag : Byte) (outcome : DebitOutcome) (balance version : Option Half)
    (s : State) : Host.Outcome State Fault Refusal :=
  event (hear src (directed dst (takeDebitAnswer src tag outcome balance version))) s

/-- R91, R92: the settle timer reaches 250 ms: one resend, then the settlement ends unanswered. -/
def repeatSettle (v : Vend) (a : Settling) (s : State) : State :=
  if a.sendings = 1 then sendSettle v a.tag a.number a.result 2 s
  else tryLeave (settlementOver (countUnpaid a.result none s))

/-- R91: the settle timer of the SETTLE outstanding ends. -/
def endSettleTime (s : State) : State :=
  match s.vsq.vend with
  | some v =>
    match v.settling with
    | some a => runAgenda (repeatSettle v a (reach Config.settleTime a.timer s))
    | none => s
  | none => s

def execSettleTimerExpiry (s : State) : Host.Outcome State Fault Refusal := event endSettleTime s

/-- R91, R92: VSQ accepts a SETTLE-ANSWER, or disregards it. One that comes once the settlement has ended, while the vend still
stands in SETTLING for its MOTOR load, is disregarded (DEDUCED, log 43). -/
def takeSettleAnswer (src : Station) (tag : Byte) (o : SettleOutcome) (s : State) : State :=
  match s.vsq.vend with
  | some v =>
    match v.settling with
    | some a =>
      if s.vsq.state = .settling ∧ src = v.selection.creditStation ∧ tag = a.tag then
        tryLeave (settlementOver (countUnpaid a.result (some o) s))
      else s
    | none => s
  | none => s

def execSettleAnswerReceived (src dst : Station) (tag : Byte) (outcome : SettleOutcome) (s : State) :
    Host.Outcome State Fault Refusal :=
  event (hear src (directed dst (takeSettleAnswer src tag outcome))) s

/-! ### The vend's timers and inputs (R99, R102 to R106, R116) -/

/-- R99, R116: the budget timer reaches 10 s. -/
def endBudgetTime (s : State) : State :=
  match s.vsq.vend, s.vsq.test with
  | some v, _ =>
    match v.budgetTimer with
    | some t => runAgenda (decideOutcome .budgetTimeout .budget (reach Config.budgetTime t s))
    | none => s
  | none, some r =>
    match r.budgetTimer with
    | some t => runAgenda (endTest .budgetTimeout (reach Config.budgetTime t s))
    | none => s
  | none, none => s

def execBudgetTimerExpiry (s : State) : Host.Outcome State Fault Refusal := event endBudgetTime s

/-- R120: the return line of a latched column stands closed, and so does the presented cam. -/
def closeCam (p : Pair) (n : Inputs) : Inputs :=
  { n with camLines := n.camLines ||| (1 <<< p.col.toNat), cam := Filter.standing true }

/-- R120: the presented cam closes while a pair is latched; otherwise the input is open and not read. -/
def takeCam (s : State) : State :=
  match s.mxd.latch with
  | none => s
  | some p => runAgenda (takeCamPulse (s.modInputs (closeCam p)))

/-- A pulse with the presented cam closed already is taken whole (log 8). -/
def execCamPulse (s : State) : Host.Outcome State Fault Refusal := event takeCam s

/-- The jam timer of the vend or the test in progress. -/
def jamTimer (s : State) : Option Nat :=
  match s.vsq.vend, s.vsq.test with
  | some v, _ => v.jamTimer
  | none, some r => r.jamTimer
  | none, none => none

/-- R103, R116: the jam timer reaches the jam time. -/
def endJamTime (s : State) : State :=
  match jamTimer s with
  | some t => runAgenda (takeJam (reach s.params.jamTime t s))
  | none => s

def execJamTimerExpiry (s : State) : Host.Outcome State Fault Refusal := event endJamTime s

/-- A drop with the curtain interrupted already is taken whole (log 8). -/
def execDrop (s : State) : Host.Outcome State Fault Refusal :=
  event (fun s =>
    running (fun s => runAgenda (takeDrop s)) (s.modInputs fun n => { n with curtain := Filter.standing true })) s

/-- R106: the window timer reaches 1500 ms in DROP-WAIT. -/
def endDropWindow (s : State) : State :=
  match s.vsq.vend with
  | some v =>
    match v.windowTimer with
    | some t =>
      if s.vsq.state = .dropWait then runAgenda (endWindow v (reach Config.dropWindow t s)) else s
    | none => s
  | none => s

def execDropWindowExpiry (s : State) : Host.Outcome State Fault Refusal := event endDropWindow s

end Sys2Proof.Machine
end

