-- ==== Sys2Proof/Machine/Dispatch.lean ====
section
/-! DEFINITION. One arm per command of the table, each a direct call of its meaning. -/

namespace Sys2Proof.Machine

def exec (i : Instr) (s : State) : Host.Outcome State Fault Refusal :=
  match i with
  | .coinStrobe first second => Sys2Proof.Machine.execCoinStrobe first second s
  | .routingTimeExpiry => Sys2Proof.Machine.execRoutingTimeExpiry s
  | .cashboxSwitchChange closed => Sys2Proof.Machine.execCashboxSwitchChange closed s
  | .levelSwitchChange tube which covered => Sys2Proof.Machine.execLevelSwitchChange tube which covered s
  | .serviceDoorOpens => Sys2Proof.Machine.execServiceDoorOpens s
  | .serviceDoorCloses => Sys2Proof.Machine.execServiceDoorCloses s
  | .auditSaveEnd ending => Sys2Proof.Machine.execAuditSaveEnd ending s
  | .debitReceived src dst number amount tag expected => Sys2Proof.Machine.execDebitReceived src dst number amount tag expected s
  | .settleReceived src dst tag number result => Sys2Proof.Machine.execSettleReceived src dst tag number result s
  | .holdExpiry => Sys2Proof.Machine.execHoldExpiry s
  | .refreshTimerExpiry => Sys2Proof.Machine.execRefreshTimerExpiry s
  | .idleTimerExpiry => Sys2Proof.Machine.execIdleTimerExpiry s
  | .coinSeen => Sys2Proof.Machine.execCoinSeen s
  | .solenoidPulseEnd => Sys2Proof.Machine.execSolenoidPulseEnd s
  | .payoutWindowExpiry => Sys2Proof.Machine.execPayoutWindowExpiry s
  | .exitClears => Sys2Proof.Machine.execExitClears s
  | .clearTimerExpiry => Sys2Proof.Machine.execClearTimerExpiry s
  | .escrowLever => Sys2Proof.Machine.execEscrowLever s
  | .creditReceived src dst number state balance version changeShort => Sys2Proof.Machine.execCreditReceived src dst number state balance version changeShort s
  | .cacheEntryAgeOut station => Sys2Proof.Machine.execCacheEntryAgeOut station s
  | .purgeReceived src dst number => Sys2Proof.Machine.execPurgeReceived src dst number s
  | .selectReceived src dst tag slot credit => Sys2Proof.Machine.execSelectReceived src dst tag slot credit s
  | .answerTimerExpiry => Sys2Proof.Machine.execAnswerTimerExpiry s
  | .debitAnswerReceived src dst tag outcome balance version => Sys2Proof.Machine.execDebitAnswerReceived src dst tag outcome balance version s
  | .settleTimerExpiry => Sys2Proof.Machine.execSettleTimerExpiry s
  | .settleAnswerReceived src dst tag outcome => Sys2Proof.Machine.execSettleAnswerReceived src dst tag outcome s
  | .budgetTimerExpiry => Sys2Proof.Machine.execBudgetTimerExpiry s
  | .camPulse => Sys2Proof.Machine.execCamPulse s
  | .jamTimerExpiry => Sys2Proof.Machine.execJamTimerExpiry s
  | .drop => Sys2Proof.Machine.execDrop s
  | .dropWindowExpiry => Sys2Proof.Machine.execDropWindowExpiry s
  | .driveTick rows cols cams => Sys2Proof.Machine.execDriveTick rows cols cams s
  | .currentSample reading => Sys2Proof.Machine.execCurrentSample reading s
  | .averagingPeriodEnd sensor samples => Sys2Proof.Machine.execAveragingPeriodEnd sensor samples s
  | .lockoutTimerExpiry => Sys2Proof.Machine.execLockoutTimerExpiry s
  | .offTimerExpiry => Sys2Proof.Machine.execOffTimerExpiry s
  | .cycleTimerUrgent => Sys2Proof.Machine.execCycleTimerUrgent s
  | .cycleTimerFixedDuty => Sys2Proof.Machine.execCycleTimerFixedDuty s
  | .startTimerExpiry => Sys2Proof.Machine.execStartTimerExpiry s
  | .onTimerExpiry => Sys2Proof.Machine.execOnTimerExpiry s
  | .accumulatorSecond => Sys2Proof.Machine.execAccumulatorSecond s
  | .heaterWaitExpiry => Sys2Proof.Machine.execHeaterWaitExpiry s
  | .defrostTimerExpiry => Sys2Proof.Machine.execDefrostTimerExpiry s
  | .dripTimerExpiry => Sys2Proof.Machine.execDripTimerExpiry s
  | .warmTimerExpiry => Sys2Proof.Machine.execWarmTimerExpiry s
  | .statusReceived src dst change total limit flags => Sys2Proof.Machine.execStatusReceived src dst change total limit flags s
  | .peerEntryAgeOut station => Sys2Proof.Machine.execPeerEntryAgeOut station s
  | .claimReceived src dst kind cls amount sequence => Sys2Proof.Machine.execClaimReceived src dst kind cls amount sequence s
  | .releaseReceived src dst kind sequence => Sys2Proof.Machine.execReleaseReceived src dst kind sequence s
  | .claimAssumed station kind => Sys2Proof.Machine.execClaimAssumed station kind s
  | .objectReceived src dst kind sequence sum => Sys2Proof.Machine.execObjectReceived src dst kind sequence sum s
  | .heldOffExpiry kind => Sys2Proof.Machine.execHeldOffExpiry kind s
  | .claimRetryAge kind => Sys2Proof.Machine.execClaimRetryAge kind s
  | .settleWindowExpiry kind => Sys2Proof.Machine.execSettleWindowExpiry kind s
  | .badFrame cause => Sys2Proof.Machine.execBadFrame cause s
  | .unknownFrame src => Sys2Proof.Machine.execUnknownFrame src s
  | .vendStatusReceived src dst tag outcome price position => Sys2Proof.Machine.execVendStatusReceived src dst tag outcome price position s
  | .serviceAnswerReceived src dst tag result data => Sys2Proof.Machine.execServiceAnswerReceived src dst tag result data s
  | .addressConflict => Sys2Proof.Machine.execAddressConflict s
  | .frameOffer => Sys2Proof.Machine.execFrameOffer s
  | .lostArbitration => Sys2Proof.Machine.execLostArbitration s
  | .frameAttemptEnd ending => Sys2Proof.Machine.execFrameAttemptEnd ending s
  | .silentEnd => Sys2Proof.Machine.execSilentEnd s
  | .statusPeriodExpiry => Sys2Proof.Machine.execStatusPeriodExpiry s
  | .isolationTimerExpiry => Sys2Proof.Machine.execIsolationTimerExpiry s
  | .powerUp straps params audit => Sys2Proof.Machine.execPowerUp straps params audit s
  | .powerUpReconciliation levels => Sys2Proof.Machine.execPowerUpReconciliation levels s
  | .stateRead head args => Sys2Proof.Machine.execStateRead head args s
  | .auditRead head args => Sys2Proof.Machine.execAuditRead head args s
  | .auditClear head args => Sys2Proof.Machine.execAuditClear head args s
  | .setPrice head args => Sys2Proof.Machine.execSetPrice head args s
  | .setSlot head args => Sys2Proof.Machine.execSetSlot head args s
  | .setStock head args => Sys2Proof.Machine.execSetStock head args s
  | .setTube head args => Sys2Proof.Machine.execSetTube head args s
  | .clearFault head args => Sys2Proof.Machine.execClearFault head args s
  | .testMotor head args => Sys2Proof.Machine.execTestMotor head args s
  | .forgetPeer head args => Sys2Proof.Machine.execForgetPeer head args s
  | .restart head args straps params => Sys2Proof.Machine.execRestart head args straps params s
  | .serviceUnknownCode head code args => Sys2Proof.Machine.execServiceUnknownCode head code args s

end Sys2Proof.Machine
end

