-- ==== Sys2Proof/Machine/Time.lean ====
section
/-! DEFINITION. The half millisecond that passes when no command waits (log 2): the input samples of TABLE 0-4 and one tick
of every timer. A filtered change that is a command of the table is put into the queue as that command, and a timer that
reaches its limit into the list `due`; what the command does, it does when it is taken. -/

namespace Sys2Proof.Machine

/-! ### Sampling (R1) -/

/-- R1: a sample whose filtered change, if any, is left to its command. -/
def Filter.watch (f : Filter) : Filter := { f with last := f.raw }

/-- R1: a sample whose filtered change to `level` is left to its command, any other being taken at once. -/
def Filter.watchFor (level : Bool) (f : Filter) : Filter := if f.change = some level then f.watch else f.sample

/-- The command of a filtered change to a level. -/
def changeTo (level : Bool) (f : Filter) (c : Instr) : List Instr := if f.change = some level then [c] else []

/-- TABLE 0-4: the half-millisecond samples: the coin strobe with its codes, and the drop curtain. -/
def sampleFast (n : Inputs) : Inputs :=
  { n with strobe := n.strobe.watchFor true, lastCodes := n.codes, curtain := n.curtain.watchFor true }

/-- R2, R105: the commands of the half-millisecond samples. -/
def fastCommands (n : Inputs) : List Instr :=
  changeTo true n.strobe (.coinStrobe n.lastCodes n.codes) ++ changeTo true n.curtain .drop

/-- R120: the presented cam input's pin: the latched column's return line, open with all-off latched. -/
def camPin (s : State) : Bool :=
  match s.mxd.latch with
  | some p => s.inputs.camLines.getLsbD p.col.toNat
  | none => false

/-- TABLE 0-4: the one-millisecond samples. -/
def sampleSlow (camNow : Bool) (n : Inputs) : Inputs :=
  { n with
    door := n.door.watch, lever := n.lever.watchFor true, cashbox := n.cashbox.watch, exit := n.exit.watch
    empties := n.empties.map Filter.watch, fulls := n.fulls.map Filter.watch
    cam := { n.cam with raw := camNow }.watchFor true }

/-- The commands of the level switches of one kind, from tube `i` on. -/
def switchCommands (which : LevelSwitch) : Nat → List Filter → List Instr
  | _, [] => []
  | i, f :: r => (f.change.map fun b => Instr.levelSwitchChange i which b).toList ++ switchCommands which (i + 1) r

/-- The commands of the one-millisecond samples. -/
def slowCommands (camNow : Bool) (n : Inputs) : List Instr :=
  changeTo true n.door .serviceDoorOpens ++ changeTo false n.door .serviceDoorCloses
    ++ (n.cashbox.change.map Instr.cashboxSwitchChange).toList ++ changeTo true n.exit .coinSeen
    ++ changeTo false n.exit .exitClears ++ changeTo true n.lever .escrowLever ++ switchCommands .empty 1 n.empties
    ++ switchCommands .full 1 n.fulls ++ changeTo true { n.cam with raw := camNow } .camPulse

/-! ### Timers that stand at their limits -/

/-- The command of a timer, when it runs and stands at a limit or beyond. -/
def atLimit (limit : Nat) (timer : Option Nat) (c : Instr) : List Instr :=
  match timer with
  | some t => if limit ≤ t then [c] else []
  | none => []

/-- The Credit Unit's and the Coin Unit's timers. -/
def dueCredit (s : State) : List Instr :=
  atLimit Config.routingTime (s.cnu.routing.map Routing.elapsed) .routingTimeExpiry
    ++ atLimit Config.holdTime (s.cru.session.hold.map Hold.age) .holdExpiry
    ++ atLimit (refreshLimit s.cru) s.cru.refresh .refreshTimerExpiry
    ++ atLimit (s.params.idleTime * 1000) s.cru.session.idleTimer .idleTimerExpiry
    ++ atLimit Config.pulseTime (s.cru.solenoid.map Pulse.elapsed) .solenoidPulseEnd
    ++ atLimit Config.payoutWindow (s.cru.payout.bind Payout.window) .payoutWindowExpiry
    ++ atLimit Config.clearTime (s.cru.payout.bind Payout.clear) .clearTimerExpiry

/-- The timers of the vend or test in progress. -/
def dueVend (s : State) : List Instr :=
  let v := s.vsq.vend
  let t := s.vsq.test
  atLimit Config.answerTime (v.bind fun r => r.asked.map Asked.timer) .answerTimerExpiry
    ++ atLimit Config.settleTime (v.bind fun r => r.settling.map Settling.timer) .settleTimerExpiry
    ++ atLimit Config.budgetTime (v.bind Vend.budgetTimer) .budgetTimerExpiry
    ++ atLimit Config.budgetTime (t.bind Test.budgetTimer) .budgetTimerExpiry
    ++ atLimit s.params.jamTime (v.bind Vend.jamTimer) .jamTimerExpiry
    ++ atLimit s.params.jamTime (t.bind Test.jamTimer) .jamTimerExpiry
    ++ atLimit Config.dropWindow (v.bind Vend.windowTimer) .dropWindowExpiry

/-- The Refrigeration Controller's timers. A whole second of running is counted before a stop of the same moment (R137). -/
def dueCooling (s : State) : List Instr :=
  let r := s.rfc
  (if r.compressorOn then atLimit 1000 (some r.second) .accumulatorSecond else [])
    ++ atLimit s.params.minOff r.lockoutTimer .lockoutTimerExpiry
    ++ (if fixedDuty s then atLimit Config.fixedOff r.offTimer .offTimerExpiry else [])
    ++ (if r.state = .want ∧ r.classAsked = .cool then atLimit Config.urgentTime r.cycleTimer .cycleTimerUrgent else [])
    ++ (if fixedDuty s then atLimit Config.fixedOn r.cycleTimer .cycleTimerFixedDuty else [])
    ++ atLimit Config.startWindow r.startTimer .startTimerExpiry
    ++ atLimit s.params.minOn r.onTimer .onTimerExpiry
    ++ (if r.heaterMode = some .waiting then atLimit Config.heaterWait r.defrostTimer .heaterWaitExpiry else [])
    ++ atLimit s.params.maxDefrost r.defrostTimer .defrostTimerExpiry
    ++ atLimit Config.dripTime r.dripTimer .dripTimerExpiry
    ++ atLimit s.params.hotHoldTime r.warmTimer .warmTimerExpiry

/-- An own load record's wait age in WAITING, and its settle window. -/
def dueLoad (k : LoadKind) (s : State) : List Instr :=
  let l := s.lbu.load k
  let age := if l.state = .waiting then some l.waitAge else none
  (if l.heldOff then atLimit Config.heldOffAge age (.heldOffExpiry k) else [])
    ++ (if l.metFull then atLimit Config.retryAge age (.claimRetryAge k) else [])
    ++ atLimit Config.settleWindow l.window (.settleWindowExpiry k)

/-- The ages of the credit cache. -/
def dueCache (s : State) : List Instr :=
  s.cca.entries.flatMap fun e => atLimit Config.cacheAge (some e.age) (.cacheEntryAgeOut e.station)

/-- The ages of the peer load table and of its claims. -/
def duePeers (s : State) : List Instr :=
  s.lbu.peers.flatMap fun e =>
    (if e.live then atLimit Config.peerAge (some e.age) (.peerEntryAgeOut e.station) else [])
      ++ e.claims.flatMap fun c =>
        if c.assumed then [] else atLimit Config.assumedAge (some c.heardAge) (.claimAssumed e.station c.kind)

/-- The Link Unit's timers. -/
def dueLink (s : State) : List Instr :=
  atLimit Config.silentTime s.lnk.silentTimer .silentEnd
    ++ atLimit Config.statusPeriod s.lnk.periodTimer .statusPeriodExpiry
    ++ (if s.lnk.heard then atLimit Config.isolationTime (some s.lnk.isolationTimer) .isolationTimerExpiry else [])

/-- Every timer that stands at its limit, as its command. -/
def standing (s : State) : List Instr :=
  dueCredit s ++ dueCache s ++ dueVend s ++ dueCooling s ++ dueLoad .motor s ++ dueLoad .compressor s ++ dueLoad .heater s
    ++ duePeers s ++ dueLink s

/-- The timers that reach their limits in the next `d` ms, as their commands. -/
def newlyDue (d : Nat) (s : State) : List Instr := (standing (elapse d s)).filter fun c => !(standing s).contains c

/-- An expiry that has come due is still to be taken: its timer has not been restarted or stopped since. -/
def stillDue (c : Instr) (s : State) : Bool := (standing s).contains c

/-! ### The half millisecond -/

/-- Commands join the queue of waiting ones. -/
def await (cs : List Instr) (s : State) : State := { s with pending := s.pending ++ cs }

/-- The first half of a millisecond: the fast samples alone. -/
def firstHalf (s : State) : State :=
  await (fastCommands s.inputs) (s.modInputs fun n => { sampleFast n with half := true })

/-- Expiries that have come due. -/
def comeDue (cs : List Instr) (s : State) : State := { s with due := s.due ++ cs }

/-- The second half: the fast and the slow samples, and one millisecond for every timer. -/
def secondHalf (s : State) : State :=
  comeDue (newlyDue 1 s)
    (await (fastCommands s.inputs ++ slowCommands (camPin s) s.inputs)
      ((elapse 1 s).modInputs fun n => { sampleSlow (camPin s) (sampleFast n) with half := false }))

/-- R175: before the enabling nothing is sampled and no timer runs. -/
def idle (s : State) : State :=
  if s.phase = .heldOff then s else if s.inputs.half then secondHalf s else firstHalf s

end Sys2Proof.Machine
end

