-- ==== Sys2Proof/Machine/Step.lean ====
section
/-! DEFINITION. One step: the command at the front of the queue is taken; with none waiting the first expiry that has come due
is taken, if its timer still stands at its limit; with none due half a millisecond passes. -/

namespace Sys2Proof.Machine

/-- A step. On an empty queue the part's clock goes on in place of idling, and the expiries it brings are taken one a step; an
expiry whose timer an earlier event has restarted or stopped does not occur (log 2). -/
def step (s : State) : Host.Outcome State Fault Refusal :=
  match s.pending, s.due with
  | c :: rest, _ => exec c { s with pending := rest }
  | [], c :: rest => if stillDue c s then exec c { s with due := rest } else .next { s with due := rest }
  | [], [] => .next (idle s)

/-- The command that a word spells, at the front of the queue; a word that spells none leaves the state as it is. -/
def State.withFetchWord (s : State) (nbits w : Nat) : State :=
  match Sys2Proof.decodeTableWord nbits w with
  | some c => { s with pending := c :: s.pending }
  | none => s

end Sys2Proof.Machine
end

