-- ==== Sys2Proof/Safety.lean ====
section
/-! DEFINITION. What counts as a safe state of the part: the laws that every step keeps (money, supply loads, tubes,
capacities, the vend, the link, the cooling record, the outputs), and the conditions under which the statements about
single commands are made. -/

namespace Sys2Proof.Machine

/-! ### Laws that every step keeps -/

/-- R34, R37, R47, R59, R61: the money of a credit session. -/
structure MoneyLaw (s : State) : Prop where
  /-- R37: balance and held amount together stay under the ceiling. -/
  ceiling : s.cru.session.balance + s.cru.session.heldAmount ≤ 9999
  /-- R59: every credited unit is sold, paid out, forfeited, in the balance or held. -/
  equation :
    s.cru.books.credited =
      s.cru.books.sold + s.cru.books.paidOut + s.cru.books.forfeited + s.cru.session.balance + s.cru.session.heldAmount
  /-- TABLE 3-2 and R56: what IDLE leaves. -/
  idleEmpty :
    s.cru.session.state = .idle →
      s.cru.session.balance = 0 ∧ s.cru.session.changeShort = false ∧ s.cru.session.escrowPending = false
  /-- TABLE 3-2: OPEN and PAYING hold money. -/
  openMoney : s.cru.session.state = .opened ∨ s.cru.session.state = .paying → 0 < s.cru.session.balance
  /-- R51: a grant from OPEN cannot leave a hold of 0 beside a balance of 0. -/
  heldMoney : s.cru.session.state = .held → 0 < s.cru.session.balance + s.cru.session.heldAmount
  /-- R47: the hold exists exactly while the state is HELD. -/
  holdIffHeld : s.cru.session.hold.isSome = true ↔ s.cru.session.state = .held
  /-- R61: the payout record exists exactly while the state is PAYING. -/
  payoutIffPaying : s.cru.payout.isSome = true ↔ s.cru.session.state = .paying
  /-- R57: the idle timer runs only while the state is OPEN. -/
  idleTimerInOpen : s.cru.session.idleTimer.isSome = true → s.cru.session.state = .opened
  /-- R63: a pulsed tube's denomination is at most the due. -/
  pulsedWithinDue :
    ∀ p, s.cru.payout = some p → p.phase = .pulseWait →
      ∃ i t, p.tube = some i ∧ tubeAt s i = some t ∧ t.denomination ≤ s.cru.session.balance
  /-- TABLE 1-1: a coin type's value. -/
  coinValues : ∀ c ∈ s.cnu.coinTypes, 1 ≤ c.value ∧ c.value ≤ 2000

/-- R119, R134, R135, R138, R139: nothing of this station draws current but under its HELD load record. -/
structure LoadLaw (s : State) : Prop where
  /-- TABLE 7-1, R119: a pair is latched in NORMAL alone, and only while the MOTOR record is HELD. -/
  motor : s.mxd.latch.isSome = true → s.mxd.state = .normal ∧ s.lbu.motor.state = .held
  /-- R134, R135: the compressor runs only while the COMPRESSOR record is HELD. -/
  compressor : s.rfc.compressorOn = true → s.lbu.compressor.state = .held
  /-- R138, R139: the heater heats only while the HEATER record is HELD. -/
  heater : s.rfc.state = .defrostHeat ∧ s.rfc.heaterMode = some .heating → s.lbu.heater.state = .held

/-- R13 to R16: one tube record. -/
structure TubeLaw (t : Tube) : Prop where
  capacity : 10 ≤ t.capacity ∧ t.capacity ≤ 250
  count : t.count ≤ t.capacity
  reserve : t.reserve ≤ t.capacity
  disabledEmpty : t.state = .disabled → t.count = 0
  marks : t.state ≠ .disabled → 1 ≤ t.lowMark ∧ t.lowMark < t.fullMark ∧ t.fullMark ≤ t.capacity

/-- R13, R22: every present tube keeps its law, and no two tubes in use share a denomination. -/
structure TubesLaw (s : State) : Prop where
  each : ∀ t, some t ∈ s.cnu.tubes → TubeLaw t
  distinct :
    s.cnu.tubes.Pairwise fun a b =>
      ∀ t u, a = some t → b = some u → t.state ≠ .disabled → u.state ≠ .disabled → t.denomination ≠ u.denomination

/-- R75, R83, TABLE 9-1, R165, R168: every list of the part stays within its places. -/
structure PlacesLaw (s : State) : Prop where
  transmit : s.lnk.queue.length ≤ 8
  onBus : (s.lnk.queue.filter fun e => e.onBus.isSome).length ≤ 1
  selections : s.vsq.queue.length ≤ 4
  cache : s.cca.entries.length ≤ 8
  cacheOrder : s.cca.entries.Pairwise fun a b => a.station.toNat < b.station.toNat
  peerOrder : s.lbu.peers.Pairwise fun a b => a.station.toNat < b.station.toNat
  claims : ∀ e ∈ s.lbu.peers, e.claims.length ≤ 4

/-- TABLE 6-3, R96, R99, R109, R116: the Vend Sequencer's records follow its state. -/
structure VendLaw (s : State) : Prop where
  vend : s.vsq.vend.isSome = true ↔ s.vsq.state ≠ .idle ∧ s.vsq.state ≠ .testing
  test : s.vsq.test.isSome = true ↔ s.vsq.state = .testing
  /-- The MOTOR load is asked for no earlier than CLAIMING, and given up before the vend or test is left. -/
  motor : s.vsq.state = .idle ∨ s.vsq.state = .debiting → s.lbu.motor.state = .none
  /-- R100: the MOTOR record is kept HELD for as long as the vend may still turn the spiral. -/
  held : s.vsq.state = .running ∨ s.vsq.state = .dropWait → s.lbu.motor.state = .held
  /-- R101 to R104: the motor of a vend is set running in RUNNING alone. -/
  turning : ∀ v, s.vsq.vend = some v → v.motorOn = true → s.vsq.state = .running
  /-- R108: before the outcome decision there is no outcome, no cause and no settlement. -/
  undecided :
    ∀ v, s.vsq.vend = some v → s.vsq.state ≠ .settling →
      v.outcome = none ∧ v.endedBy = none ∧ v.settling = none ∧ v.settled = false

/-- R41, R84, R166, R167, R171: the link's states. -/
structure LinkLaw (s : State) : Prop where
  silent : s.lnk.state = .silent ↔ s.lnk.silentTimer.isSome = true
  /-- R166: sixteen failures in a row do not leave the link ACTIVE. -/
  failures : s.lnk.state = .active → s.lnk.failures < 16
  /-- R168, R171: in LISTEN-ONLY nothing is queued but the one STATUS of the conflict, and the period timer is stopped. -/
  listenOnly :
    s.lnk.state = .listenOnly →
      (∀ e ∈ s.lnk.queue, e.frame = .status) ∧ s.lnk.queue.length ≤ 1 ∧ s.lnk.periodTimer = none ∧ s.vsq.queue = []

/-- TABLE 8-4, R145: the cooling record's timers follow its state. -/
structure CoolLaw (s : State) : Prop where
  lockout : s.rfc.state = .offLockout ↔ s.rfc.lockoutTimer.isSome = true
  start : s.rfc.state = .starting ↔ s.rfc.startTimer.isSome = true
  running : s.rfc.compressorOn = true ↔ s.rfc.onTimer.isSome = true
  mode : s.rfc.state = .defrostHeat ↔ s.rfc.heaterMode.isSome = true
  defrost : s.rfc.state = .defrostHeat ↔ s.rfc.defrostTimer.isSome = true
  drip : s.rfc.state = .defrostDrip ↔ s.rfc.dripTimer.isSome = true
  absent : s.rfc.state = .absent → s.rfc = absentRfc

/-- R28, R29: the exact-change-only flag of a station with a session, from the last probe and change-short; from the power-up
reconciliation on, the last probe is that of the tubes and the probe amount as they stand. -/
structure ExactLaw (s : State) : Prop where
  value :
    s.cru.exactChangeOnly = true ↔
      s.params.coinMech = true ∧ s.ssu.cause = none ∧ (s.cru.probeShort = true ∨ s.cru.session.changeShort = true)
  probed :
    s.cru.probeShort = true → s.params.coinMech = true ∧ s.ssu.cause = none ∧ planExact s s.params.probeAmount = false
  latest :
    s.phase = .running → s.params.coinMech = true → s.ssu.cause = none → planExact s s.params.probeAmount = false →
      s.cru.probeShort = true

/-- R7, R130, R141, TABLE 8-4: the output lines are what the state gives; the relays and the fans written out. Before the outputs are
enabled, and on an UNCONFIGURED station, every one of these is off. -/
structure OutputsLaw (s : State) : Prop where
  follow : s.outputs = outputsOf s
  compressorRelay :
    s.outputs.compressorRelay = true ↔
      s.phase ≠ .heldOff ∧ s.ssu.cause = none ∧ (s.rfc.state = .starting ∨ s.rfc.state = .running)
  condenserFan :
    s.outputs.condenserFan = true ↔
      s.phase ≠ .heldOff ∧ s.ssu.cause = none ∧ (s.rfc.state = .starting ∨ s.rfc.state = .running)
  heaterRelay :
    s.outputs.heaterRelay = true ↔
      s.phase ≠ .heldOff ∧ s.ssu.cause = none ∧ s.rfc.state = .defrostHeat ∧ s.rfc.heaterMode = some .heating
  evaporatorFan :
    s.outputs.evaporatorFan = true ↔
      s.phase ≠ .heldOff ∧ s.ssu.cause = none ∧ s.inputs.door.level = false ∧ s.rfc.state ≠ .defrostHeat ∧ s.rfc.state ≠ .absent

/-! ### The candidates of the change planner (R24) -/

/-- R24: the coin numbers that one backoff vector yields for an amount; none where the vector yields no candidate. -/
def byVector : List Nat → List PlanTube → Nat → Option (List Nat)
  | [], [t], rem => some [min t.avail (rem / t.denom)]
  | b :: v, t :: r, rem =>
    if min t.avail (rem / t.denom) < b then none
    else
      (byVector v r (rem - (min t.avail (rem / t.denom) - b) * t.denom)).map fun ns =>
        (min t.avail (rem / t.denom) - b) :: ns
  | _, _, _ => none

/-- R25: the plan `p` comes before the plan `q`, or is the same plan: the greater amount, then the fewer coins, then the
first position where the coin numbers differ. -/
def NoWorse (ts : List PlanTube) (p q : List Nat) : Prop :=
  q = p ∨ planAmount ts q < planAmount ts p ∨
    (planAmount ts q = planAmount ts p ∧
      (p.sum < q.sum ∨ (p.sum = q.sum ∧ ∃ k, p.take k = q.take k ∧ q[k]?.getD 0 < p[k]?.getD 0)))

/-! ### Conditions of the statements -/

/-- A coin of code `n` can go to tube `i` (R5, R6). -/
def CanStore (s : State) (n i : Nat) : Prop :=
  ∃ c t, coinTypeAt s n = some c ∧ c.tube = some i ∧ tubeAt s i = some t ∧ t.state ≠ .disabled ∧ t.coinType = n ∧
    t.count < t.capacity ∧ fullCovered s i = false

/-- A strobe report is taken as a coin (R3), of code `n`. -/
def TakesCoin (s : State) (n : BitVec 3) : Prop :=
  s.phase = .running ∧ configured s = true ∧ s.params.coinMech = true ∧ n ≠ 0 ∧ n ≠ 7

/-- A frame waits in the transmit queue (R168). -/
def Awaits (f : Frame) (s : State) : Prop := ∃ e ∈ s.lnk.queue, e.frame = f ∧ e.onBus = none

/-- R168: a superseding frame asked for finds a place: one waits, or a place is free. -/
def HasRoom (f : Frame) (s : State) : Prop := s.lnk.state ≠ .listenOnly ∧ (Awaits f s ∨ s.lnk.queue.length < 8)

/-- A station that this one hears and knows: its frames are received, it is another station, it has a LIVE entry (and no
LOST one), and this station is not ISOLATED. -/
structure Known (src : Station) (s : State) : Prop where
  receiving : s.phase ≠ .heldOff
  other : src ≠ s.ssu.own
  together : isolated s = false
  listed : ∃ e ∈ s.lbu.peers, e.station = src
  live : ∀ e ∈ s.lbu.peers, e.station = src → e.live = true

/-- R148, R170: what a good frame of a known station does to the state whatever its kind: its entry's age is 0 and the
isolation timer restarts. -/
def heardFrom (src : Station) (s : State) : State :=
  { openEvent s with
    lbu :=
      { s.lbu with
        peers := s.lbu.peers.map fun e => if e.station = src then { e with age := 0 } else e
        agenda := [] }
    lnk := { s.lnk with isolationTimer := 0, acknowledged := true } }

/-- R168, R169: a STATUS is asked for: it joins a waiting one, or takes the place behind the queued frames; the running period
timer starts again with it. With no place free, or in LISTEN-ONLY, nothing changes. -/
def statusAsked (s : State) : State :=
  let waits (e : TxEntry) : Bool := decide (e.frame = .status ∧ e.onBus = none)
  let period := s.lnk.periodTimer.map fun _ => 0
  if s.lnk.state = .listenOnly then s
  else if s.lnk.queue.any waits = true then
    { s with
      lnk := { s.lnk with queue := s.lnk.queue.map fun e => if waits e then { e with attempts := 0 } else e, periodTimer := period } }
  else if s.lnk.queue.length < 8 then
    { s with lnk := { s.lnk with queue := s.lnk.queue ++ [TxEntry.fresh .status], periodTimer := period } }
  else s

/-- R177: a SERVICE-ANSWER to the tool at the tail of the transmit queue. -/
def withAnswer (tag : Byte) (r : ServiceResult) (data : List Byte) (s : State) : State :=
  { s with lnk := { s.lnk with queue := s.lnk.queue ++ [TxEntry.fresh (.serviceAnswer 15 tag r data)] } }

/-- R168, R177: the answer to the tool; with the transmit queue full it is lost, and in LISTEN-ONLY the queue refuses it. -/
def answered (tag : Byte) (r : ServiceResult) (data : List Byte) (s : State) : State :=
  if s.lnk.state ≠ .listenOnly ∧ s.lnk.queue.length < 8 then withAnswer tag r data s else s

/-- R29: a change of the exact-change-only flag has a STATUS wait, where two frames find their places. -/
def ExactAnnounced (s t : State) : Prop :=
  t.cru.exactChangeOnly ≠ s.cru.exactChangeOnly → s.lnk.state ≠ .listenOnly → s.lnk.queue.length < 7 → Awaits .status t

/-- No own load record waits or is queued: a changed peer load table leaves all three as they are. -/
def LoadsSettled (s : State) : Prop :=
  ∀ k, (s.lbu.load k).state ≠ .waiting ∧ (s.lbu.load k).state ≠ .queued ∧ (s.lbu.load k).heldOff = false

/-- A station whose frames this one receives, in whatever state its own link is and whether or not the sender is known; but where
its frame changes the peer load table or ends ISOLATED, no own load record is there to be tested. -/
structure Hears (src : Station) (s : State) : Prop where
  receiving : s.phase ≠ .heldOff
  other : src ≠ s.ssu.own
  untested :
    LoadsSettled s ∨
      ((∃ e ∈ s.lbu.peers, e.station = src) ∧ (∀ e ∈ s.lbu.peers, e.station = src → e.live = true) ∧
        (s.lnk.heard = true ∨ s.lnk.state ≠ .active))

/-- R148, R164, R170: what a good frame of a station that `Hears` describes does to the state whatever its kind: its entry is LIVE
with age 0, a new one where there was none; the isolation timer restarts; the acknowledgement slot is driven unless the link is
SILENT or LISTEN-ONLY; and where ISOLATED ends a STATUS is asked for. -/
def hearing (src : Station) (s : State) : State :=
  let u :=
    { openEvent s with
      lbu :=
        { s.lbu with
          peers :=
            if s.lbu.peers.any (fun e => e.station == src) = true then
              s.lbu.peers.map fun e => if e.station = src then { e with age := 0, live := true } else e
            else insertPeer (newPeer src) s.lbu.peers
          agenda := [] }
      lnk := { s.lnk with heard := true, isolationTimer := 0, acknowledged := s.lnk.state == .active } }
  if s.lnk.heard = false ∧ s.lnk.state = .active then statusAsked u else u

/-- The session has entered PAYING with its payout record, or its payout has already ended short (R55, R73). -/
def PayingOrShort (c : Cru) : Prop :=
  (c.session.state = .paying ∧ c.payout.isSome = true) ∨
    (c.session.state = .opened ∧ c.session.changeShort = true ∧ c.payout = none)

/-- The own session holds the debit granted to the vend in progress (R53), with no escrow payout waiting. -/
def HomeHold (g : Grant) (h : Hold) (s : State) : Prop :=
  s.cru.session.hold = some h ∧ h.requester = s.ssu.own ∧ h.tag = g.tag ∧ s.cru.session.number = g.number ∧
    s.cru.session.state = .held ∧ s.cru.session.escrowPending = false ∧ 0 < h.amount

/-- R54, R48, R49: the held amount is back in the balance of an OPEN session, announced by a CREDIT, and the books stand. -/
def HomeReturned (h : Hold) (s t : State) : Prop :=
  t.cru.session =
      { s.cru.session with
        state := .opened, balance := s.cru.session.balance + h.amount, version := s.cru.session.version + 1, hold := none
        idleTimer := if s.params.idleTime = 0 then none else some 0 } ∧
    t.cru.books = s.cru.books ∧ Awaits .credit t

/-- R107: the slot after a vend with a drop. -/
def SoldSlot (x : Slot) : Slot :=
  { x with
    noDropRun := 0, stock := x.stock.map (· - 1)
    state := if x.stock = some 1 ∧ x.state = .ready then .soldOut else x.state }

/-- The outcome of the vend `v` is decided with its cause (R108): it stands in SETTLING with the motor off and no window armed,
or it is over, its final VEND-STATUS queued (R109). -/
def Decided (o : VendOutcome) (c : EndCause) (v : Vend) (t : State) : Prop :=
  (∃ w, t.vsq.vend = some w ∧ t.vsq.state = .settling ∧ w.selection = v.selection ∧ w.outcome = some o ∧ w.endedBy = some c ∧
      w.motorOn = false ∧ w.windowArmed = false) ∨
    (t.vsq.vend = none ∧ t.vsq.state = .idle ∧
      Awaits (.vendStatus v.selection.panel v.selection.tag o (if o = .insufficient then some v.price else none) none) t)

/-! ### Frames on the bus (R165) -/

/-- The high and the low byte of a two-byte number. -/
def highByte (n : Nat) : Byte := BitVec.ofNat 8 (n / 256)
def lowByte (n : Nat) : Byte := BitVec.ofNat 8 n

/-- The two bytes of an optional number. -/
def optionalPair (n : Option Nat) : List Byte := (n.map fun v => [highByte v, lowByte v]).getD []

/-- R152, R169, TABLE 10-3: a STATUS as composed: the change number, the own total, the configured limit where it is to be announced
and else 0, and the eight flags. -/
def StatusCarries (s : State) (w : Wire) : Prop :=
  let total := s.params.baseLoad + ([LoadKind.motor, .compressor, .heater].map fun k =>
    if (s.lbu.load k).state = .held then (s.lbu.load k).amount else 0).sum
  let limit := if s.ssu.cause = none ∧ (s.params.matrix = true ∨ s.params.cooling = true) then s.params.ownLimit else 0
  ∃ flags : Byte,
    w = ⟨7, s.ssu.own, 1, 0, [s.lnk.change, highByte total, lowByte total, highByte limit, lowByte limit, flags]⟩ ∧
    (flags.getLsbD 0 = true ↔ s.inputs.door.level = true) ∧
    (flags.getLsbD 1 = true ↔ s.lnk.heard = false ∨ s.lnk.state ≠ .active) ∧
    (flags.getLsbD 2 = true ↔ s.ssu.cause ≠ none) ∧
    (flags.getLsbD 3 = true ↔ s.lnk.state = .listenOnly) ∧
    (flags.getLsbD 4 = true ↔ s.cru.exactChangeOnly = true) ∧
    (flags.getLsbD 5 = true ↔ s.mxd.state = .fault) ∧
    (flags.getLsbD 6 = true ↔ s.rfc.hotHold = true) ∧
    (flags.getLsbD 7 = true ↔ s.rfc.cabinet.state = .faulted ∨ s.rfc.evaporator.state = .faulted)

/-- R38, TABLE 10-2, TABLE 10-3: a CREDIT as composed: the session as it stands. -/
def creditWire (s : State) : Wire :=
  let c := s.cru.session
  let state : Byte :=
    match c.state with
    | .idle => 0
    | .opened => 1
    | .held => 2
    | .paying => 3
  ⟨6, s.ssu.own, 5, 0,
    [c.number, state, highByte c.balance, lowByte c.balance, highByte c.version.toNat, lowByte c.version.toNat,
      if c.changeShort then 1 else 0]⟩

/-- R165, TABLE 10-2: the frame `w` is the queued frame `f` as composed in `s`: its class, this station as its source, its kind, its
destination and its payload. -/
def ComposedAs (s : State) (f : Frame) (w : Wire) : Prop :=
  let own := s.ssu.own
  match f with
  | .status => StatusCarries s w
  | .credit => w = creditWire s
  | .claim k c a q => w = ⟨c.code.setWidth 3, own, 2, 0, [k.code, c.code, highByte a, lowByte a, q]⟩
  | .release k q => w = ⟨0, own, 3, 0, [k.code, q]⟩
  | .object d k q a => w = ⟨0, own, 4, d, [k, q, highByte (min 65535 a), lowByte (min 65535 a)]⟩
  | .purge n => w = ⟨6, own, 6, 0, [n]⟩
  | .vendStatus d t o p q => w = ⟨5, own, 8, d, [t, o.code] ++ optionalPair p ++ (q.map lowByte).toList⟩
  | .debit d n a t v => w = ⟨4, own, 9, d, [n, highByte a, lowByte a, t] ++ optionalPair (v.map BitVec.toNat)⟩
  | .debitAnswer d t o b v => w = ⟨4, own, 10, d, [t, o.code] ++ optionalPair b ++ optionalPair (v.map BitVec.toNat)⟩
  | .settle d t n r => w = ⟨4, own, 11, d, [t, n, r.code]⟩
  | .settleAnswer d t o => w = ⟨4, own, 12, d, [t, o.code]⟩
  | .serviceAnswer d t r data => w = ⟨7, own, 14, d, [t, r.code] ++ data⟩

/-! ### What the straps and the image give (R4, R13, R93, R172 to R174) -/

/-- R173: a byte is read as yes when it is not 0. -/
def yes (b : Byte) : Bool := decide (b ≠ 0)

/-- R173, TABLE 11-1: every parameter of a good image at the nearer end of its range where it lies outside; R57's idle time (0 or 30 to
600 s), R124's stall threshold (raised above the open threshold), and the run amount under the start amount. Times are in ms, but
the idle time and the defrost interval in s. -/
def imageParams (i : Image) : Params :=
  let opens := max 1 (min 50 i.openThreshold)
  let stalls := max 5 (min 200 i.stallThreshold)
  let start := max 1 (min 2000 i.startAmount)
  { coinMech := yes i.coinMech, cooling := yes i.cooling, matrix := yes i.matrix, multiVend := yes i.multiVend
    maxCredit := max 1 (min 9999 i.maxCredit), probeAmount := max 1 (min 9999 i.probeAmount)
    idleTime := if i.idleTime = 0 then 0 else max 30 (min 600 i.idleTime)
    jamTime := 100 * max 10 (min 80 i.jamTime), motorAmount := max 1 (min 2000 i.motorAmount)
    openThreshold := opens, stallThreshold := if opens < stalls then stalls else opens + 1
    setPoint := max (-50) (min 150 i.setPoint), differential := max 5 (min 100 i.differential)
    minOff := 1000 * max 60 (min 600 i.minOff), minOn := 1000 * max 30 (min 600 i.minOn)
    urgentMargin := max 10 (min 100 i.urgentMargin), startAmount := start, runAmount := max 1 (min start i.runAmount)
    defrostInterval := 3600 * max 1 (min 12 i.defrostInterval), defrostEnd := max 0 (min 200 i.defrostEnd)
    maxDefrost := 60000 * max 10 (min 60 i.maxDefrost), heaterAmount := max 1 (min 2000 i.heaterAmount)
    saleLimit := max (-50) (min 200 i.saleLimit), hotHoldTime := 60000 * max 5 (min 120 i.hotHoldTime)
    conversion := i.conversion.map fun v => max (-999) (min 1999 v)
    ownLimit := max 10 (min 2000 i.ownLimit), baseLoad := min 500 i.baseLoad, loadStations := max 1 (min 14 i.loadStations) }

/-- R174: with no good image no equipment group is declared, and every number is its default where TABLE 11-1 gives one, else the
lowest of its range. The multi-vend option, of which R174 says nothing, is no (DESIGN CHOICE, log 4). -/
def defaultParams : Params :=
  { coinMech := false, cooling := false, matrix := false, multiVend := false, maxCredit := 1, probeAmount := 1, idleTime := 0
    jamTime := 4000, motorAmount := 1, openThreshold := 2, stallThreshold := 30, setPoint := 40, differential := 30
    minOff := 180 * 1000, minOn := 60 * 1000, urgentMargin := 20, startAmount := 120, runAmount := 40
    defrostInterval := 1 * 3600, defrostEnd := 0, maxDefrost := 10 * 60000, heaterAmount := 1, saleLimit := -50
    hotHoldTime := 5 * 60000, conversion := List.replicate 17 (-999), ownLimit := 10, baseLoad := 0, loadStations := 1 }

/-- R173: the parameter area answers with an image whose stored check is the computed one. -/
def readImage (p : ParamRead) : Option Image :=
  match p with
  | .answered i stored computed => if stored = computed then some i else none
  | .noAnswer => none

/-- R172 to R174, R4: straps, image status, cause, parameters and coin types as a read gives them; a good image is applied beside bad
straps too (DEDUCED, log 28). -/
structure ReadApplied (straps : Station) (p : ParamRead) (t : State) : Prop where
  own : t.ssu.own = straps
  status :
    t.ssu.imageStatus = match p with
      | .answered _ stored computed => if stored = computed then .good else .checkFailed
      | .noAnswer => .noAnswer
  cause :
    t.ssu.cause = if straps = 0 ∨ straps = 15 then some .straps else if readImage p = none then some .image else none
  good :
    ∀ i, readImage p = some i →
      t.params = imageParams i ∧
      t.cnu.coinTypes = i.coinTypes.map fun c =>
        { value := max 1 (min 2000 c.value), enabled := yes c.enabled, tube := if c.tube ∈ [1, 2, 3, 4, 5] then some c.tube else none }
  bad :
    readImage p = none →
      t.params = defaultParams ∧ t.cnu.coinTypes = List.replicate 6 { value := 1, enabled := false, tube := none }

/-- R13: the tube that a good image gives at an index from 1 on. -/
def imageTube (p : ParamRead) (i : Nat) : Option RawTube :=
  match readImage p, i with
  | some g, j + 1 => (g.tubes[j]?).join
  | _, _ => none

/-- R13: the tube `u` of index `i` as loaded from `r`, beside the other records of `t`: its clamps in their order, its denomination, and
DISABLED exactly for a structural fault. -/
def TubeLoaded (t : State) (i : Nat) (r : RawTube) (u : Tube) : Prop :=
  u.coinType = r.coinType ∧ u.capacity = max 10 (min 250 r.capacity) ∧ u.fullMark = max 1 (min u.capacity r.fullMark) ∧
    u.lowMark = max 1 (min u.capacity r.lowMark) ∧ u.reserve = min u.capacity r.reserve ∧
    (∀ c, coinTypeAt t r.coinType = some c → u.denomination = c.value) ∧
    (u.state = .disabled ↔
      u.fullMark ≤ u.lowMark ∨ (∀ c, coinTypeAt t r.coinType = some c → c.enabled = false) ∨
        ∃ j w, 0 < j ∧ j < i ∧ tubeAt t j = some w ∧ w.state ≠ .disabled ∧ w.denomination = u.denomination)

/-- R16, R18: the estimate of a tube in use: its low mark, corrected by its empty switch and then by its full switch. -/
def estimatedCount (empty full : Bool) (u : Tube) : Nat :=
  let a := if empty then u.lowMark + 1 else u.lowMark
  if full then max a u.fullMark else min a (u.fullMark - 1)

/-- R93: the slot that the straps and a read of the image give; on an UNCONFIGURED station there is none. -/
def imageSlot (straps : Station) (p : ParamRead) (n : Nat) : Option Slot :=
  if straps = 0 ∨ straps = 15 then none
  else
    (readImage p).bind fun g =>
      ((g.slots[n]?).join).map fun r =>
        { price := min 9999 r.price, turns := max 1 (min 4 r.turns), extraTurns := min 2 r.extraTurns, chilled := yes r.chilled
          state := if yes r.ready then .ready else .disabled, stock := none, noDropRun := 0, offHome := false }

/-! ### The records after an event: averages, claim rounds, the solo rule -/

/-- R127 to R129: a sensor's record after the average of eight samples. -/
def averaged (k : Sensor) (x : Vector (BitVec 10) 8) (s : State) : SensorRecord :=
  let old := sensorOf s.rfc k
  let c := (x.toList.map BitVec.toNat).sum / 8
  let a := s.params.conversion[c / 64]?.getD 0
  let b := s.params.conversion[c / 64 + 1]?.getD 0
  let reading : Int := a + ((b - a) * (c % 64 : Nat)).tdiv 64
  if 16 ≤ c ∧ c ≤ 1007 then
    if old.state = .valid ∨ 2 ≤ old.inRun then ⟨.valid, c, some reading, min 3 (old.inRun + 1), 0, 0⟩
    else ⟨old.state, c, none, old.inRun + 1, 0, 0⟩
  else if 2 ≤ old.outRun then ⟨.faulted, c, none, 0, 3, 0⟩
  else ⟨old.state, c, old.reading, 0, old.outRun + 1, 0⟩

/-- R127: the averaging period has ended and the sensor's record stands updated; nothing has acted on it yet. -/
def averageTaken (k : Sensor) (x : Vector (BitVec 10) 8) (s : State) : State :=
  let u := elapse (250 - (sensorOf s.rfc k).period) (openEvent s)
  { u with rfc := setSensor k (averaged k x s) u.rfc }

/-- R129: the average makes a reading event or a sensor state event. -/
def MakesEvent (k : Sensor) (x : Vector (BitVec 10) 8) (s : State) : Prop :=
  let r := averaged k x s
  r.state ≠ (sensorOf s.rfc k).state ∨ (r.state = .valid ∧ 16 ≤ r.average ∧ r.average ≤ 1007)

/-- The slot is chilled and its station declares cooling (R114). -/
def ChilledAt (n : Nat) (s : State) : Prop := ∃ x, slotAt s n = some x ∧ x.chilled = true ∧ s.params.cooling = true

/-- R114, R116: a loss of cold ends the vend or the test in progress. -/
def EndedByLossOfCold (s : State) : Prop :=
  (∃ v, s.vsq.vend = some v ∧ ChilledAt v.selection.slot s ∧ (s.vsq.state = .debiting ∨ s.vsq.state = .claiming)) ∨
    (∃ r, s.vsq.vend = none ∧ s.vsq.test = some r ∧ ChilledAt r.slot s ∧ r.result = none ∧ r.motorOn = false)

/-- R153: the own records in class order, VEND first and DEFROST last. -/
def classOrder : List LoadKind := [.motor, .compressor, .heater]

/-- R151: the records that are QUEUED or PROPOSED. -/
def claiming (s : State) (k : LoadKind) : Bool :=
  decide ((s.lbu.load k).state = .queued ∨ (s.lbu.load k).state = .proposed)

/-- R151: the fit test of record `k` at the own total `own` when, of the other records, those of `c` are counted as QUEUED or
PROPOSED. -/
def fitsAt (own : Nat) (c : LoadKind → Bool) (k : LoadKind) (s : State) : Bool :=
  let others := classOrder.filter fun j => c j && decide (j ≠ k)
  decide (own + (others.map fun j => (s.lbu.load j).amount).sum + peerSum s + (s.lbu.load k).amount ≤ effectiveLimit s)

/-- R151: the fit test of record `k` when, of the other records, those of `c` are counted as QUEUED or PROPOSED. -/
def fitsBeside (c : LoadKind → Bool) (k : LoadKind) (s : State) : Bool := fitsAt (ownTotal s) c k s

/-- R154: of the records that claim in `s`, those that go on claiming under the peer load table of `t`: in class order, a QUEUED
one whose CLAIM is not on the bus is given up when it no longer fits. -/
def keptClaims (s t : State) : LoadKind → Bool :=
  classOrder.foldl
    (fun c k =>
      if (s.lbu.load k).state = .queued ∧ claimBegun k (s.lbu.load k).sequence s = false ∧ fitsBeside c k t = false then
        fun j => c j && decide (j ≠ k)
      else c)
    (claiming s)

/-- R153: the records that claim once each WAITING one, a given-up one among them, has been tested in class order under the
peer load table of `t`, each counting those that have passed before it. -/
def passedClaims (kept : LoadKind → Bool) (s t : State) : LoadKind → Bool :=
  classOrder.foldl
    (fun c k =>
      if ((s.lbu.load k).state = .waiting ∨ claiming s k = true ∧ kept k = false) ∧ fitsBeside c k t = true then
        fun j => c j || decide (j = k)
      else c)
    kept

/-- R153, R154, R157: what the tests of one event make of the own records of `s`, of which those of `kept` go on claiming: held
off is clear; a record given up waits from zero, its CLAIM removed; and a WAITING one that passes is QUEUED with its CLAIM. -/
def FitTested (kept : LoadKind → Bool) (s t : State) : Prop :=
  ∀ k,
    let l := s.lbu.load k
    let m := t.lbu.load k
    (l.state = .none ∨ l.state = .held ∨ kept k = true → m = { l with heldOff := false }) ∧
    (l.state = .waiting ∨ (claiming s k = true ∧ kept k = false) →
      m.heldOff = false ∧ m.cls = l.cls ∧ m.amount = l.amount ∧ m.waitAge = (if l.state = .waiting then l.waitAge else 0) ∧
      if passedClaims kept s t k = true then
        m.state = .queued ∧ Awaits (.claim k l.cls l.amount m.sequence) t
      else m.state = .waiting ∧ (l.state = .queued → ∀ e ∈ t.lnk.queue, isClaim k l.sequence e.frame = false))

/-- The queued frames other than CLAIMs. -/
def otherFrames (s : State) : List TxEntry :=
  s.lnk.queue.filter fun e =>
    match e.frame with
    | .claim _ _ _ _ => false
    | _ => true

/-- R161: the records of `w` decided by the solo rule, in class order, from an own total: the total after it and the granted. -/
def soloTests (w : LoadKind → Bool) (s : State) (start : Nat × (LoadKind → Bool)) : Nat × (LoadKind → Bool) :=
  classOrder.foldl
    (fun g k =>
      if w k = true ∧ g.1 + (s.lbu.load k).amount ≤ soloAllowance s then
        (g.1 + (s.lbu.load k).amount, fun j => g.2 j || decide (j = k))
      else g)
    start

/-- R161: the records granted at the change to ISOLATED: the QUEUED and PROPOSED ones are decided, and where there is one, the
WAITING ones are tested after them (log 11). -/
def soloGrants (s : State) : LoadKind → Bool :=
  let g := soloTests (claiming s) s (ownTotal s, fun _ => false)
  if classOrder.any (claiming s) then (soloTests (fun k => decide ((s.lbu.load k).state = .waiting)) s g).2 else g.2

/-- R99, R115, R134, R138: the owner of record `k` has been told of its grant. -/
def OwnerTold (k : LoadKind) (s t : State) : Prop :=
  match k with
  | .compressor => s.rfc.state = .want → t.rfc.state = .starting ∧ t.rfc.startTimer = some 0 ∧ t.rfc.onTimer = some 0
  | .heater => s.rfc.state = .defrostHeat → s.rfc.heaterMode = some .waiting → t.rfc.heaterMode = some .heating
  | .motor =>
    (∀ v x, s.vsq.state = .claiming → s.vsq.vend = some v → slotAt s v.selection.slot = some x →
      t.vsq.state = .running ∧ t.mxd.staging = some (pairOf v.selection.slot)) ∧
    (∀ r x, s.vsq.state = .testing → s.vsq.vend = none → s.vsq.test = some r → slotAt s r.slot = some x → r.result = none →
      r.motorOn = false → t.mxd.staging = some (pairOf r.slot) ∧ ∃ w, t.vsq.test = some w ∧ w.motorOn = true)

/-- R161: what the change to ISOLATED makes of the own records of `s`: those the solo rule grants are HELD and their owners told,
and the own total has risen by them; the others wait, those that claimed from zero; the HELD ones run on. -/
def SoloDecided (s t : State) : Prop :=
  (∀ k,
    let l := s.lbu.load k
    let m := t.lbu.load k
    (l.state = .none ∨ l.state = .held → m = l) ∧
    (l.state = .waiting ∨ claiming s k = true →
      m.cls = l.cls ∧ m.amount = l.amount ∧
      if soloGrants s k = true then m.state = .held ∧ OwnerTold k s t
      else m.state = .waiting ∧ m.waitAge = if l.state = .waiting then l.waitAge else 0)) ∧
  ownTotal t = ownTotal s + ((classOrder.filter (soloGrants s)).map fun k => (s.lbu.load k).amount).sum

/-- No slot that the vend in progress waits to turn is too warm to be sold, so that a MOTOR grant starts it (R99). -/
def GrantStartsVend (s : State) : Prop := ∀ v x, s.vsq.vend = some v → slotAt s v.selection.slot = some x → tooWarm s x = false

/-! ### A request, a withdrawal, and the tests of the other records (R152, R153, R158, R161) -/

/-- R152, R153: what a request of record `k` leaves in `t`, where `v` gives the other own records and the peers that its test counts,
and `place` says that the transmit queue has a place for its CLAIM. On a station that is not ISOLATED the record is QUEUED, with the
sequence just taken and its CLAIM waiting, exactly when the test passes and there is a place; elsewhere it waits from zero. On an
ISOLATED one the solo rule holds it or lets it wait (R161). -/
def RequestTested (k : LoadKind) (cls : ClaimClass) (amount : Nat) (place : Prop) (v t : State) : Prop :=
  let m := t.lbu.load k
  let own := v.params.baseLoad + ((classOrder.filter fun j => decide (j ≠ k ∧ (v.lbu.load j).state = .held)).map fun j =>
    (v.lbu.load j).amount).sum
  let passes : Prop := own + otherClaims k v + peerSum v + amount ≤ effectiveLimit v
  m.cls = cls ∧ m.amount = amount ∧ m.heldOff = false ∧
    (isolated v = false → passes → place →
      m.state = .queued ∧ m.sequence = t.lbu.claimCounter ∧ Awaits (.claim k cls amount m.sequence) t) ∧
    (isolated v = false → ¬ (passes ∧ place) → m.state = .waiting ∧ m.waitAge = 0) ∧
    (isolated v = true → own + amount ≤ soloAllowance v → m.state = .held) ∧
    (isolated v = true → soloAllowance v < own + amount → m.state = .waiting ∧ m.waitAge = 0)

/-- A WAITING record other than `gone`. -/
def waitsBeside (gone : LoadKind) (s : State) (k : LoadKind) : Bool := decide (k ≠ gone ∧ (s.lbu.load k).state = .waiting)

/-- R153: the records that claim once `gone` no longer does and each other WAITING one that is not held off has been tested at the
own total `own`, in class order, each counting those that have passed before it. -/
def passedBeside (gone : LoadKind) (own : Nat) (s : State) : LoadKind → Bool :=
  classOrder.foldl
    (fun c k =>
      if waitsBeside gone s k = true ∧ (s.lbu.load k).heldOff = false ∧ fitsAt own c k s = true then
        fun j => c j || decide (j = k)
      else c)
    (fun k => claiming s k && decide (k ≠ gone))

/-- R153, R161: what is made of the own record `k` of `s` when the own total becomes `own`, or the record `gone` leaves QUEUED or
PROPOSED. A WAITING one is tested: by the fit test, where one that passes takes the next sequence and has its CLAIM queued, or on an
ISOLATED station by the solo rule, where one that passes is HELD, its owner told and a STATUS asked for. The others stay. A test that
is not passed clears the mark of a full transmit queue (DEDUCED, log 12). -/
def TestedBeside (gone : LoadKind) (own : Nat) (k : LoadKind) (s t : State) : Prop :=
  let l := s.lbu.load k
  let m := t.lbu.load k
  let waits := waitsBeside gone s
  (isolated s = false →
    let passes (j : LoadKind) : Bool := waits j && passedBeside gone own s j
    let before := (classOrder.takeWhile fun j => decide (j ≠ k)).filter passes
    let q := s.lbu.claimCounter + 1 + BitVec.ofNat 8 before.length
    (passes k = true →
      m = { l with state := .queued, sequence := q, metFull := false } ∧ Awaits (.claim k l.cls l.amount q) t) ∧
    (passes k = false → m = if waits k = true ∧ l.heldOff = false then { l with metFull := false } else l)) ∧
  (isolated s = true → (waits .motor = true → GrantStartsVend s) →
    let granted := (soloTests waits s (own, fun _ => false)).2
    (granted k = true →
      m = { l with state := .held, window := none, metFull := false } ∧ OwnerTold k s t ∧ Awaits .status t) ∧
    (granted k = false → m = if waits k = true then { l with metFull := false } else l))

/-- The queued CLAIMs and RELEASEs. -/
def loadFrames (s : State) : List TxEntry :=
  s.lnk.queue.filter fun e =>
    match e.frame with
    | .claim _ _ _ _ => true
    | .release _ _ => true
    | _ => false

/-- The queued RELEASEs. -/
def releases (s : State) : List TxEntry :=
  s.lnk.queue.filter fun e =>
    match e.frame with
    | .release _ _ => true
    | _ => false

/-- R158: what the withdrawal of record `k` does. A WAITING record changes no frame; a QUEUED one whose CLAIM is not on the bus takes
its CLAIM out of the queue, without a RELEASE; one whose CLAIM is on the bus leaves it to end, and it and a PROPOSED one have their
RELEASE queued, the change number rising by 1 and a STATUS waiting. The record's departure has the others tested (R153), on an
ISOLATED station that of a WAITING one too (R161). -/
def Withdrawn (k : LoadKind) (s t : State) : Prop :=
  let l := s.lbu.load k
  let begun := claimBegun k l.sequence s
  (t.lbu.load k).state = .none ∧
    (l.state = .waiting →
      loadFrames t = loadFrames s ∧
        (isolated s = false → t.lnk.change = s.lnk.change ∧ ∀ j, j ≠ k → t.lbu.load j = s.lbu.load j)) ∧
    (l.state = .queued → begun = false →
      (∀ e ∈ t.lnk.queue, isClaim k l.sequence e.frame = false) ∧ releases t = releases s ∧
        (isolated s = false → t.lnk.change = s.lnk.change)) ∧
    (l.state = .queued → begun = true → ∃ e ∈ t.lnk.queue, isClaim k l.sequence e.frame = true ∧ e.onBus.isSome = true) ∧
    ((l.state = .queued ∧ begun = true) ∨ l.state = .proposed →
      Awaits (.release k l.sequence) t ∧ Awaits .status t ∧ (isolated s = false → t.lnk.change = s.lnk.change + 1)) ∧
    (claiming s k = true ∨ (l.state = .waiting ∧ isolated s = true) → ∀ j, j ≠ k → TestedBeside k (ownTotal s) j s t)

end Sys2Proof.Machine
end

