-- ==== Sys2Proof/WellFormed.lean ====
section
/-! DEFINITION. What a command's operands must satisfy to be something the outside of the part can send: a frame has a
source of 1 to 15 (TABLE 10-1), an optional field stands only where a length of TABLE 10-2 allows it, and an index lies
in its range. `exec` gives every command an effect all the same; nothing refuses one for its form. -/

namespace Sys2Proof

/-- TABLE 10-1: a frame's source is 1 to 15. -/
def sourceOk (s : Station) : Bool := s != 0

/-- A SERVICE delivered as a request: source 15, and at most 10 argument bytes (TABLE 10-2). -/
def serviceOk (h : ServiceHead) (args : List Byte) : Bool := h.source == 15 && args.length ≤ 10

/-- TABLE 10-3: load kind 0 is unused. -/
def kindOk (k : Byte) : Bool := k != 0

/-- TABLE 10-2: a DEBIT-ANSWER of length 2, 4 or 6 carries no field, the balance, or balance and version. -/
def debitAnswerOk (balance version : Option Half) : Bool := balance.isSome || version.isNone

/-- TABLE 10-2: a VEND-STATUS of length 2, 3 or 4 carries no field, the queue position, or the price. -/
def vendStatusOk (price : Option Half) (position : Option Byte) : Bool := price.isNone || position.isNone

/-- 0.3, 1.6: a tube index is 1 to 5. -/
def tubeOk (i : Nat) : Bool := 1 ≤ i && i ≤ 5

/-- R175: the first levels name five empty and five full switches. -/
def levelsOk (l : InputLevels) : Bool := l.empties.length == 5 && l.fulls.length == 5

/-- TABLE 11-1: the tables of an image have their numbers of records. -/
def imageOk (i : Image) : Bool :=
  i.coinTypes.length == 6 && i.tubes.length == 5 && i.slots.length == 80 && i.conversion.length == 17

/-- The image a read delivers, when one answers, has its form. -/
def paramReadOk : ParamRead → Bool
  | .answered img _ _ => imageOk img
  | .noAnswer => true

/-- R180: a total lies where it stops: a count at 65535, a money total at 4,294,967,295. -/
def totalsOk (t : AuditTotals) : Bool :=
  [t.credited, t.toTubes, t.toCashbox, t.sold, t.paidOut, t.forfeited, t.overpay].all (· ≤ 4294967295)
    && [t.shortPays, t.unpaidVends, t.unsettledHolds, t.spuriousDrops, t.jams, t.unstoredCoins, t.badFrames, t.vendSum].all
        (· ≤ 65535)
    && t.vendCounts.length == 80 && t.vendCounts.all (· ≤ 65535)

/-- The audit area a read delivers has its form. -/
def auditReadOk : AuditRead → Bool
  | .replaced t _ _ => totalsOk t
  | _ => true

/-- A command the outside can send. -/
def Instr.wellFormed : Instr → Bool
  | .levelSwitchChange i _ _ => tubeOk i
  | .debitReceived s _ _ _ _ _ => sourceOk s
  | .settleReceived s _ _ _ _ => sourceOk s
  | .creditReceived s _ _ _ _ _ _ => sourceOk s
  | .cacheEntryAgeOut s => sourceOk s
  | .purgeReceived s _ _ => sourceOk s
  | .selectReceived s _ _ _ _ => sourceOk s
  | .debitAnswerReceived s _ _ _ b v => sourceOk s && debitAnswerOk b v
  | .settleAnswerReceived s _ _ _ => sourceOk s
  | .statusReceived s _ _ _ _ _ => sourceOk s
  | .peerEntryAgeOut s => sourceOk s
  | .claimReceived s _ k _ _ _ => sourceOk s && kindOk k
  | .releaseReceived s _ k _ => sourceOk s && kindOk k
  | .claimAssumed s k => sourceOk s && kindOk k
  | .objectReceived s _ k _ _ => sourceOk s && kindOk k
  | .unknownFrame s => sourceOk s
  | .vendStatusReceived s _ _ _ p q => sourceOk s && vendStatusOk p q
  | .serviceAnswerReceived s _ _ _ d => sourceOk s && decide (d.length ≤ 10)
  | .powerUp _ p a => paramReadOk p && auditReadOk a
  | .powerUpReconciliation l => levelsOk l
  | .stateRead h a => serviceOk h a
  | .auditRead h a => serviceOk h a
  | .auditClear h a => serviceOk h a
  | .setPrice h a => serviceOk h a
  | .setSlot h a => serviceOk h a
  | .setStock h a => serviceOk h a
  | .setTube h a => serviceOk h a
  | .clearFault h a => serviceOk h a
  | .testMotor h a => serviceOk h a
  | .forgetPeer h a => serviceOk h a
  | .restart h a _ p => serviceOk h a && paramReadOk p
  | .serviceUnknownCode h c a => serviceOk h a && (c == 0 || decide (11 < c.toNat))
  | .coinStrobe _ _ => true
  | .routingTimeExpiry => true
  | .cashboxSwitchChange _ => true
  | .serviceDoorOpens => true
  | .serviceDoorCloses => true
  | .auditSaveEnd _ => true
  | .holdExpiry => true
  | .refreshTimerExpiry => true
  | .idleTimerExpiry => true
  | .coinSeen => true
  | .solenoidPulseEnd => true
  | .payoutWindowExpiry => true
  | .exitClears => true
  | .clearTimerExpiry => true
  | .escrowLever => true
  | .answerTimerExpiry => true
  | .settleTimerExpiry => true
  | .budgetTimerExpiry => true
  | .camPulse => true
  | .jamTimerExpiry => true
  | .drop => true
  | .dropWindowExpiry => true
  | .driveTick _ _ _ => true
  | .currentSample _ => true
  | .averagingPeriodEnd _ _ => true
  | .lockoutTimerExpiry => true
  | .offTimerExpiry => true
  | .cycleTimerUrgent => true
  | .cycleTimerFixedDuty => true
  | .startTimerExpiry => true
  | .onTimerExpiry => true
  | .accumulatorSecond => true
  | .heaterWaitExpiry => true
  | .defrostTimerExpiry => true
  | .dripTimerExpiry => true
  | .warmTimerExpiry => true
  | .heldOffExpiry _ => true
  | .claimRetryAge _ => true
  | .settleWindowExpiry _ => true
  | .badFrame _ => true
  | .addressConflict => true
  | .frameOffer => true
  | .lostArbitration => true
  | .frameAttemptEnd _ => true
  | .silentEnd => true
  | .statusPeriodExpiry => true
  | .isolationTimerExpiry => true

end Sys2Proof
end

