-- ==== Sys2Proof/Certificates/Slice0/Obligations.lean ====
section
/-! DEFINITION. The statements about this model, from the rules of the manual: what every step keeps, and what each command
does, block by block. Each docstring names the rules; a condition on the state that a statement makes stands in Safety.lean. -/

open Sys2Proof Sys2Proof.Machine

/-! ### The whole part -/

/-- Taking commands first in, first out: a step with a command at the front of the queue is that command's effect on the state
with the queue's rest. With none waiting the first expiry that has come due is taken, unless its timer stands at its limit no
more; with none due half a millisecond passes (DESIGN CHOICE, log 2), and before the outputs are enabled nothing happens in
it. -/
def Obligations.StepTakesTheFrontCommand : Prop :=
  (∀ (c : Instr) (rest : List Instr) (s : State),
    step { s with pending := c :: rest } = exec c { s with pending := rest }) ∧
  (∀ (c : Instr) (rest : List Instr) (s : State), s.pending = [] →
    step { s with due := c :: rest } =
      if stillDue c { s with due := c :: rest } = true then exec c { s with due := rest } else .next { s with due := rest }) ∧
  (∀ s : State, s.pending = [] → s.due = [] → step s = .next (idle s)) ∧
  (∀ s : State, s.pending = [] → s.due = [] → s.phase = .heldOff → step s = .next s)

/-- R7, R130, R141: every command completes in every state, leaves the commands that wait behind it, and leaves the output lines
as the state after it gives them; the half millisecond that passes with none waiting keeps them so (DESIGN CHOICE, log 2). With the
outputs enabled on a configured station the compressor relay is closed and the condenser fan runs exactly in STARTING and RUNNING,
the heater relay is closed exactly in DEFROST-HEAT in mode HEATING, and the evaporator fan runs exactly with the door closed
outside DEFROST-HEAT and ABSENT (TABLE 8-4); elsewhere all four are off.
A command whose condition does not hold still completes (DESIGN CHOICE, log 8). -/
def Obligations.EveryCommandIsTakenWhole : Prop :=
  (∀ (c : Instr) (s : State), ∃ t, exec c s = .next t ∧ t.pending = s.pending ∧ OutputsLaw t) ∧
  (∀ s : State, OutputsLaw s → OutputsLaw (idle s))

/-- R175, TABLE 3-6, TABLE 9-4, TABLE 10-5: right after reset every output is held off, all six inhibit lines are active, no
session, load, vend or frame exists, and every law that a step keeps holds.
The want of an image at reset and the values it gives are the model's (DESIGN CHOICE, logs 3 and 4). -/
def Obligations.ResetMeetsTheLaws : Prop :=
  MoneyLaw State.reset ∧ ExactLaw State.reset ∧ LoadLaw State.reset ∧ TubesLaw State.reset ∧ PlacesLaw State.reset ∧
    VendLaw State.reset ∧
    LinkLaw State.reset ∧ CoolLaw State.reset ∧ OutputsLaw State.reset ∧ State.reset.outputs.inhibit = 0b111111 ∧
    State.reset.outputs.compressorRelay = false ∧ State.reset.outputs.heaterRelay = false ∧ State.reset.mxd.latch = none ∧
    State.reset.cru.session.state = .idle ∧ State.reset.cru.session.number = 0 ∧ State.reset.cru.session.version = 0 ∧
    State.reset.lnk.queue = [] ∧ isolated State.reset = true ∧ State.reset.pending = [] ∧ State.reset.due = [] ∧
    State.reset.outputs.condenserFan = false ∧ State.reset.outputs.evaporatorFan = false ∧ State.reset.cnu.routing = none ∧
    State.reset.cru.solenoid = none ∧ State.reset.vsq.vend = none ∧ State.reset.vsq.test = none ∧
    (∀ k, (State.reset.lbu.load k).state = .none) ∧ State.reset.phase = .heldOff

/-- R34, R37, R47, R59, R61: every step keeps the law of the money: what was credited is sold, paid out, forfeited, in the balance
or held; balance and hold stay within 9999; and hold, payout record and idle timer stand only in their states. -/
def Obligations.MoneyIsKept : Prop :=
  ∀ s t : State, MoneyLaw s → step s = .next t → MoneyLaw t

/-- R119, R130, R134, R135, R138, R139: every step keeps this: a motor is latched, the compressor runs and the heater heats only
under the HELD load record of each; so a relay line that stands closed after a step stands under its HELD record. -/
def Obligations.NothingDrawsUngranted : Prop :=
  ∀ s t : State, LoadLaw s → step s = .next t →
    LoadLaw t ∧
      (OutputsLaw s →
        (t.outputs.compressorRelay = true → t.lbu.compressor.state = .held) ∧
          (t.outputs.heaterRelay = true → t.lbu.heater.state = .held))

/-- R13 to R16: every step keeps every tube's count within its capacity, a DISABLED tube's count at 0, the marks in order, and
the denominations in use distinct. -/
def Obligations.TubesKeepTheirLaw : Prop :=
  ∀ s t : State, TubesLaw s → step s = .next t → TubesLaw t

/-- R75, R83, R165, R168, TABLE 5-1, TABLE 9-1: every step keeps the transmit queue within 8 frames with at most one on the bus,
the selection queue within 4, the cache within 8, four claims an entry, and each list in its order. -/
def Obligations.ListsKeepTheirPlaces : Prop :=
  ∀ s t : State, PlacesLaw s → step s = .next t → PlacesLaw t

/-- R96, R99, R100, R108, R109, R116, TABLE 6-3: every step keeps this: a vend record exists outside IDLE and TESTING alone, a
test record in TESTING alone; the MOTOR record is NONE in IDLE and in DEBITING and HELD in RUNNING and in DROP-WAIT; a vend's
motor is set running in RUNNING alone; and before SETTLING a vend has no outcome, no cause and no settlement. -/
def Obligations.VendFollowsItsState : Prop :=
  ∀ s t : State, VendLaw s → step s = .next t → VendLaw t

/-- R41, R84, R166, R167, R171: every step keeps this: the silent timer runs in SILENT alone, an ACTIVE link has fewer than 16
failures in a row, and a LISTEN-ONLY one has queued nothing but its one STATUS and holds no selection. -/
def Obligations.LinkFollowsItsState : Prop :=
  ∀ s t : State, LinkLaw s → step s = .next t → LinkLaw t

/-- R131, R134, R135, R138 to R140, R145: every step keeps this: the lockout, start, on, defrost and drip timers run, and the
heater mode stands, exactly in their states, and an ABSENT controller keeps one record, that of TABLE 8-7 and R145.
The model's choices: the average code 0 and the class asked COOL in ABSENT (DESIGN CHOICE, log 3), and no heater mode once
DEFROST-HEAT has ended (DESIGN CHOICE, log 41). -/
def Obligations.CoolingFollowsItsState : Prop :=
  ∀ s t : State, CoolLaw s → step s = .next t → CoolLaw t

/-- R35, R176: a command other than the power-up leaves the version or raises it by 1, and raises it whenever it changes the
session's state, its balance or change-short. R28 to R30: and every step keeps the exact-change-only flag what it is to be: set on a
station with a session exactly when the last probe came out short or change-short is set, clear elsewhere; and while the part
runs the last probe is that of the tubes and the probe amount as they stand. -/
def Obligations.VersionRisesOnce : Prop :=
  (∀ (c : Instr) (s t : State), MoneyLaw s → (∀ a p q, c ≠ .powerUp a p q) → exec c s = .next t →
    (t.cru.session.version = s.cru.session.version ∨ t.cru.session.version = s.cru.session.version + 1) ∧
    (t.cru.session.state ≠ s.cru.session.state ∨ t.cru.session.balance ≠ s.cru.session.balance ∨
        t.cru.session.changeShort ≠ s.cru.session.changeShort →
      t.cru.session.version = s.cru.session.version + 1)) ∧
  (∀ s t : State, MoneyLaw s → ExactLaw s → step s = .next t → ExactLaw t)

/-! ### Coin intake and the change planner (Chapters 1 and 2) -/

/-- R6, R7, TABLE 1-2: a coin type is in the inhibit set exactly when a condition of TABLE 1-2 holds for it. From the power-up
reconciliation on, a line is active exactly for a type of the set; before it all six are. -/
def Obligations.InhibitSetFollowsItsTable : Prop :=
  ∀ (n : Nat) (c : CoinType) (s : State), coinTypeAt s n = some c →
    (inhibited s n = true ↔
      c.enabled = false ∨ s.params.coinMech = false ∨ s.ssu.cause ≠ none ∨ s.lnk.state = .listenOnly ∨ doorOpen s = true ∨
        s.cru.session.state = .paying ∨ (s.cru.session.state = .held ∧ s.cru.session.escrowPending = true) ∨
        s.params.maxCredit < s.cru.session.balance + c.value ∨
        (s.cnu.cashboxPresent = false ∧ ∀ i, ¬ CanStore s n i)) ∧
    (1 ≤ n → n ≤ 6 →
      (outputsOf s).inhibit.getLsbD (n - 1) = (decide (s.phase ≠ .running) || inhibited s n))

/-- R22 to R26: the tube list of a run holds the present tubes that are not DISABLED with their availabilities, the
denominations falling; the plan is one that some backoff vector of numbers 0 to 3 yields, no vector yields one that comes
before it, and it never pays more than the amount due. With no tube in use it is empty. -/
def Obligations.PlannerChoosesTheBestPlan : Prop :=
  (∀ s : State, TubesLaw s →
    ((tubeList s).Pairwise fun a b => b.denom < a.denom) ∧
    ∀ p, p ∈ tubeList s ↔
      ∃ i t, tubeAt s i = some t ∧ t.state ≠ .disabled ∧
        p = ⟨i, if t.state = .normal then t.count - t.reserve else 0, t.denomination⟩) ∧
  (∀ (ts : List PlanTube) (due : Nat),
    planAmount ts (plan ts due) ≤ due ∧ (ts = [] → plan ts due = []) ∧
    (ts ≠ [] → ∃ v, (∀ b ∈ v, b ≤ 3) ∧ byVector v ts due = some (plan ts due)) ∧
    ∀ v q, (∀ b ∈ v, b ≤ 3) → byVector v ts due = some q → NoWorse ts (plan ts due) q)

/-- R2, R3: a strobe that is not taken as a coin. Without a declared coin mechanism nothing but the strobe's own filter
moves; elsewhere a head reject only raises the head-reject count; a coin of an UNCONFIGURED station is only counted unstored.
That a station without a coin mechanism counts no head reject is log 23 (DEDUCED). -/
def Obligations.StrobeThatIsNoCoin : Prop :=
  ∀ (a b : BitVec 3) (s : State), s.phase = .running →
    let t : State := { openEvent s with inputs := standStrobe a b s.inputs }
    (configured s = true → s.params.coinMech = false → exec (.coinStrobe a b) s = .next (refreshOutputs t)) ∧
    (configured s = false ∨ s.params.coinMech = true → a ≠ b ∨ a = 0 ∨ a = 7 →
      exec (.coinStrobe a b) s =
        .next (refreshOutputs { t with cnu := { s.cnu with headRejects := min 65535 (s.cnu.headRejects + 1) } })) ∧
    (configured s = false → a = b → a ≠ 0 → a ≠ 7 →
      exec (.coinStrobe a b) s =
        .next (refreshOutputs
          { t with
            ssu :=
              { s.ssu with totals := { s.ssu.totals with unstoredCoins := min 65535 (s.ssu.totals.unstoredCoins + 1) } } }))

/-- R5, R8, R9, R11: a coin that its tube can take goes to that tube: the diverter is set for 250 ms from now, the count rises by
1, a DRY tube becomes NORMAL, "to tubes" rises by the value, and no other tube record changes. A coin that no tube can take
goes to the cashbox while that is PRESENT; otherwise it is only counted unstored, with routing, tubes and session as they were. -/
def Obligations.CoinIsRouted : Prop :=
  (∀ (n : BitVec 3) (i : Nat) (s : State), TakesCoin s n → CanStore s n.toNat i →
    ∃ (t : State) (c : CoinType) (u : Tube),
      exec (.coinStrobe n n) s = .next t ∧ coinTypeAt s n.toNat = some c ∧ tubeAt s i = some u ∧
        t.cnu.routing = some ⟨.tube i, 0⟩ ∧
        tubeAt t i = some { u with count := u.count + 1, state := .normal } ∧
        (∀ j, j ≠ i → tubeAt t j = tubeAt s j) ∧
        t.ssu.totals.toTubes = min 4294967295 (s.ssu.totals.toTubes + c.value) ∧
        t.ssu.totals.toCashbox = s.ssu.totals.toCashbox ∧
        t.cnu.coinTypes = s.cnu.coinTypes ∧ t.cnu.cashboxPresent = s.cnu.cashboxPresent ∧
        t.cnu.headRejects = s.cnu.headRejects ∧ t.vsq = s.vsq ∧ t.mxd = s.mxd ∧ t.rfc = s.rfc ∧ t.cca = s.cca) ∧
  (∀ (n : BitVec 3) (c : CoinType) (s : State), TakesCoin s n → coinTypeAt s n.toNat = some c →
    (∀ i, ¬ CanStore s n.toNat i) →
    (s.cnu.cashboxPresent = true →
      ∃ t, exec (.coinStrobe n n) s = .next t ∧ t.cnu = { s.cnu with routing := some ⟨.cashbox, 0⟩ } ∧
        t.ssu.totals.toCashbox = min 4294967295 (s.ssu.totals.toCashbox + c.value) ∧
        t.ssu.totals.toTubes = s.ssu.totals.toTubes ∧ t.vsq = s.vsq ∧ t.mxd = s.mxd ∧ t.rfc = s.rfc ∧ t.cca = s.cca) ∧
    (s.cnu.cashboxPresent = false →
      exec (.coinStrobe n n) s =
        .next (refreshOutputs
          { openEvent s with
            inputs := standStrobe n n s.inputs
            ssu :=
              { s.ssu with totals := { s.ssu.totals with unstoredCoins := min 65535 (s.ssu.totals.unstoredCoins + 1) } } })))

/-- R36, R37, R59: what a coin that is routed does to the session: it opens an IDLE session with its value, and otherwise enters
the balance as far as the ceiling leaves space, the rest being overpay; the version rises only when the balance does. The audit
totals of the credited and the overpaid units rise with their books, up to 4,294,967,295 (R180). A change of the exact-change-only
flag that its tube brings queues a STATUS (R29). -/
def Obligations.RoutedCoinEntersTheSession : Prop :=
  ∀ (n : BitVec 3) (c : CoinType) (s : State), TakesCoin s n → coinTypeAt s n.toNat = some c →
    (∃ i, CanStore s n.toNat i) ∨ s.cnu.cashboxPresent = true →
    ∃ t, exec (.coinStrobe n n) s = .next t ∧ ExactAnnounced s t ∧
      (s.cru.session.state = .idle →
        t.cru.session =
            { s.cru.session with
              number := s.cru.session.number + 1, state := .opened, balance := c.value
              version := s.cru.session.version + 1, changeShort := false, escrowPending := false
              idleTimer := if s.params.idleTime = 0 then none else some 0 } ∧
          t.cru.books = { s.cru.books with credited := s.cru.books.credited + c.value } ∧
          t.ssu.totals =
            { s.ssu.totals with
              credited := min 4294967295 (s.ssu.totals.credited + c.value)
              toTubes := t.ssu.totals.toTubes, toCashbox := t.ssu.totals.toCashbox } ∧
          (HasRoom .credit s → Awaits .credit t)) ∧
      (s.cru.session.state ≠ .idle →
        let entered := min c.value (9999 - s.cru.session.balance - s.cru.session.heldAmount)
        t.cru.session =
            { s.cru.session with
              balance := s.cru.session.balance + entered
              version := if entered = 0 then s.cru.session.version else s.cru.session.version + 1
              idleTimer :=
                if entered ≠ 0 ∧ s.cru.session.state = .opened then if s.params.idleTime = 0 then none else some 0
                else s.cru.session.idleTimer } ∧
          t.cru.books =
            { s.cru.books with
              credited := s.cru.books.credited + entered, overpay := s.cru.books.overpay + (c.value - entered) } ∧
          t.ssu.totals =
            { s.ssu.totals with
              credited := min 4294967295 (s.ssu.totals.credited + entered)
              overpay := min 4294967295 (s.ssu.totals.overpay + (c.value - entered))
              toTubes := t.ssu.totals.toTubes, toCashbox := t.ssu.totals.toCashbox } ∧
          t.cru.payout = s.cru.payout ∧ (entered ≠ 0 → HasRoom .credit s → Awaits .credit t))

/-- R9, R61, R12: the routing outputs and the solenoid return to rest when their time has passed, and the cashbox state
follows its switch; nothing else changes but the time that has passed.
Time passed at an expiry: log 1 (DESIGN CHOICE). -/
def Obligations.RoutingPulseAndCashbox : Prop :=
  (∀ (r : Routing) (s : State), s.cnu.routing = some r →
    let u := elapse (250 - r.elapsed) (openEvent s)
    exec .routingTimeExpiry s = .next (refreshOutputs { u with cnu := { u.cnu with routing := none } })) ∧
  (∀ (p : Pulse) (s : State), s.cru.solenoid = some p →
    let u := elapse (50 - p.elapsed) (openEvent s)
    exec .solenoidPulseEnd s = .next (refreshOutputs { u with cru := { u.cru with solenoid := none } })) ∧
  (∀ (closed : Bool) (s : State), s.phase = .running →
    exec (.cashboxSwitchChange closed) s =
      .next (refreshOutputs
        { openEvent s with
          inputs := { s.inputs with cashbox := Filter.standing closed }
          cnu := { s.cnu with cashboxPresent := closed } }))

/-- R16, R17, R29: a level switch change reconciles a NORMAL or DRY tube's count against both switches, the empty switch's
correction first and the full switch's second, and leaves its state; a DISABLED tube and every other tube stay. The exact-change
probe follows a changed count, and a changed flag queues a STATUS. -/
def Obligations.LevelSwitchReconcilesTheCount : Prop :=
  ∀ (i : Nat) (w : LevelSwitch) (covered : Bool) (u : Tube) (s : State), s.phase = .running → tubeAt s i = some u →
    u.count ≤ u.capacity → u.lowMark < u.fullMark → u.fullMark ≤ u.capacity →
    ∃ t, exec (.levelSwitchChange i w covered) s = .next t ∧ ExactAnnounced s t ∧
      (u.state = .disabled → tubeAt t i = some u) ∧
      (u.state ≠ .disabled →
        let a :=
          if emptyCovered t i then if u.count ≤ u.lowMark then u.lowMark + 1 else u.count
          else if u.lowMark < u.count then u.lowMark else u.count
        let b :=
          if fullCovered t i then if a < u.fullMark then u.fullMark else a
          else if u.fullMark ≤ a then u.fullMark - 1 else a
        tubeAt t i = some { u with count := b }) ∧
      (∀ j, j ≠ i → tubeAt t j = tubeAt s j) ∧
      t.inputs = standSwitch i w covered s.inputs ∧ t.cru.session = s.cru.session ∧ t.cru.books = s.cru.books ∧
      t.vsq = s.vsq ∧ t.mxd = s.mxd ∧ t.rfc = s.rfc ∧ t.cca = s.cca ∧ t.ssu = s.ssu

/-- R84, R110, R111, R112, R116, R169: the opening door empties the selection queue, answering each record DOOR-OPEN in order,
and queues a STATUS; with no vend in progress, a motor test included, and with a vend in SETTLING, that is all. It ends a vend
before its motor start ABORTED and settles its debit NOT-VENDED (R90, R91, R54); it stops a turning motor and leaves the slot
off-home: with a drop seen the vend is VENDED and an own session's hold sold, in the book and the audit total (R59), without one
it waits for one; in DROP-WAIT it only marks the vend, which waits on. In LISTEN-ONLY the same is done without a frame (R168).
The model's choices: the STATUS stands behind the answers (DEDUCED, log 14), and the cause recorded with an outcome is the door
(DESIGN CHOICE, log 37). -/
def Obligations.DoorOpens : Prop :=
  (∀ s : State, s.phase = .running → s.vsq.vend = none ∨ s.vsq.state = .settling →
    (s.lnk.state ≠ .listenOnly → ¬ Awaits .status s → s.lnk.queue.length + s.vsq.queue.length < 8 →
      ∃ t, exec .serviceDoorOpens s = .next t ∧ doorOpen t = true ∧ t.vsq = { s.vsq with queue := [] } ∧
        t.lnk.queue =
          s.lnk.queue ++
            (s.vsq.queue.map fun r => TxEntry.fresh (.vendStatus r.panel r.tag .doorOpen none none)) ++
            [TxEntry.fresh .status] ∧
        t.cru.session = s.cru.session ∧ t.cnu = s.cnu ∧ t.ssu = s.ssu ∧ t.mxd = s.mxd ∧ t.rfc = s.rfc ∧
        t.lbu.peers = s.lbu.peers ∧ t.lbu.motor = s.lbu.motor) ∧
    (s.lnk.state = .listenOnly →
      exec .serviceDoorOpens s =
        .next (refreshOutputs
          { openEvent s with
            inputs := { s.inputs with door := Filter.standing true }
            vsq := { s.vsq with queue := [] } }))) ∧
  (∀ (v : Vend) (x : Slot) (s : State), s.phase = .running → s.vsq.vend = some v → slotAt s v.selection.slot = some x →
    s.lnk.queue.length + s.vsq.queue.length < 3 → s.lnk.state ≠ .listenOnly → v.settled = false →
    let told (t : State) : Prop :=
      Awaits .status t ∧ ∀ r ∈ s.vsq.queue, Awaits (.vendStatus r.panel r.tag .doorOpen none none) t
    (s.vsq.state = .debiting ∨ s.vsq.state = .claiming → s.lbu.motor.state ≠ .held →
      ∃ t, exec .serviceDoorOpens s = .next t ∧ Decided .aborted .door v t ∧ t.lbu.motor.state = .none ∧
        t.vsq.slots = s.vsq.slots ∧ t.vsq.queue = [] ∧ told t ∧
        (∀ g, v.granted = some g → v.payment ≠ .own →
          t.vsq.state = .settling ∧ Awaits (.settle v.selection.creditStation g.tag g.number .notVended) t) ∧
        (∀ a, v.granted = none → v.asked = some a →
          t.vsq.state = .settling ∧ Awaits (.settle v.selection.creditStation a.tag a.number .notVended) t) ∧
        ∀ g h, v.granted = some g → v.payment = .own → HomeHold g h s →
          t.vsq.state = .idle ∧ t.vsq.vend = none ∧ HomeReturned h s t) ∧
    (s.vsq.state = .running → v.dropSeen = true →
      ∃ t, exec .serviceDoorOpens s = .next t ∧ Decided .vended .door v t ∧ t.mxd.staging = none ∧ t.vsq.queue = [] ∧ told t ∧
        slotAt t v.selection.slot = some (SoldSlot { x with offHome := true }) ∧
        (∀ n, n ≠ v.selection.slot → slotAt t n = slotAt s n) ∧
        ∀ g h, v.granted = some g → v.payment = .own → HomeHold g h s →
          t.cru.session.hold = none ∧ t.cru.books.sold = s.cru.books.sold + h.amount ∧
            t.ssu.totals.sold = min 4294967295 (s.ssu.totals.sold + h.amount)) ∧
    (s.vsq.state = .running → v.dropSeen = false →
      ∃ t, exec .serviceDoorOpens s = .next t ∧ t.vsq.state = .dropWait ∧ t.mxd.staging = none ∧ t.vsq.queue = [] ∧ told t ∧
        slotAt t v.selection.slot = some { x with offHome := true } ∧
        t.vsq.vend =
          some
            { v with
              motorOn := false, jamTimer := none, extraLeft := 0, doorOpened := true, doorStop := true
              windowTimer := some 0 }) ∧
    (s.vsq.state = .dropWait →
      ∃ t, exec .serviceDoorOpens s = .next t ∧ told t ∧
        t.vsq = { s.vsq with queue := [], vend := some { v with doorOpened := true } })) ∧
  (∀ (v : Vend) (x : Slot) (s : State), s.phase = .running → s.vsq.vend = some v → slotAt s v.selection.slot = some x →
    s.lnk.state = .listenOnly → v.settled = false →
    (s.vsq.state = .debiting ∨ s.vsq.state = .claiming → s.lbu.motor.state ≠ .held →
      ∃ t, exec .serviceDoorOpens s = .next t ∧ t.lbu.motor.state = .none ∧ t.vsq.slots = s.vsq.slots ∧ t.vsq.queue = [] ∧
        ((t.vsq.state = .idle ∧ t.vsq.vend = none) ∨
          (t.vsq.state = .settling ∧ ∃ w, t.vsq.vend = some w ∧ w.outcome = some .aborted))) ∧
    (s.vsq.state = .running →
      ∃ t, exec .serviceDoorOpens s = .next t ∧ t.mxd.staging = none ∧ t.vsq.queue = [] ∧
        slotAt t v.selection.slot =
          some (if v.dropSeen then SoldSlot { x with offHome := true } else { x with offHome := true }) ∧
        (v.dropSeen = false → t.vsq.state = .dropWait ∧ t.lnk = s.lnk)) ∧
    (s.vsq.state = .dropWait →
      ∃ t, exec .serviceDoorOpens s = .next t ∧ t.lnk = s.lnk ∧
        t.vsq = { s.vsq with queue := [], vend := some { v with doorOpened := true } }))

/-- R169, R181: the closing door asks an audit save, which begins at once with a snapshot of the totals or is owed while one is in
progress, and queues a STATUS. The end of a save records whether it matched; an owed one begins in the same event.
What the audit area holds meanwhile is log 29 (DEDUCED). -/
def Obligations.DoorClosesAndSavesEnd : Prop :=
  (∀ s : State, s.phase = .running → HasRoom .status s →
    ∃ t, exec .serviceDoorCloses s = .next t ∧ doorOpen t = false ∧ Awaits .status t ∧
      t.ssu =
        (if s.ssu.snapshot = none then { s.ssu with snapshot := some s.ssu.totals, auditArea := none }
         else { s.ssu with saveOwed := true }) ∧
      t.vsq = s.vsq ∧ t.cru.session = s.cru.session ∧ t.cnu = s.cnu ∧ t.rfc = s.rfc ∧ t.mxd = s.mxd) ∧
  (∀ (e : SaveEnd) (k : AuditTotals) (s : State), s.ssu.snapshot = some k →
    exec (.auditSaveEnd e) s =
      .next (refreshOutputs
        { openEvent s with
          ssu :=
            { s.ssu with
              lastSave := some (e == .matched), saveOwed := false
              snapshot := if s.ssu.saveOwed then some s.ssu.totals else none
              auditArea := if s.ssu.saveOwed = true ∨ e ≠ .matched then none else some k } }))

/-! ### Credit sessions and payout (Chapters 3 and 4) -/

/-- R42 to R44: a DEBIT of a known station is answered by the first check of TABLE 3-3 that holds, with the fields TABLE
3-4 gives; a refusal, or a repeat of the granted DEBIT, leaves the session and the books; a new grant moves the amount from
the balance into the hold. In LISTEN-ONLY a DEBIT is not taken and not answered (R41).
The model's choice: the answer stands behind the CREDIT and any STATUS of the same event (DEDUCED, log 14). -/
def Obligations.DebitIsCheckedInOrder : Prop :=
  (∀ (src own : Station) (n : Byte) (amount : Half) (tag : Byte) (x : Option Half) (s : State), Known src s → s.ssu.own = own →
    own ≠ 0 → s.lnk.queue.length ≤ 5 →
    ∃ t o b v, exec (.debitReceived src own n amount tag x) s = .next t ∧
      t.lnk.queue.getLast? = some (TxEntry.fresh (.debitAnswer src tag o b v)) ∧
      t.cru.books = s.cru.books ∧ t.cnu = s.cnu ∧ t.vsq = s.vsq ∧ t.cca = s.cca ∧ t.ssu = s.ssu ∧
      (o ≠ .granted → t.cru.session = s.cru.session) ∧
      if coinStation s = false ∨ n ≠ s.cru.session.number ∨ s.cru.session.state = .idle ∨ s.cru.session.state = .paying then
        o = .noSession ∧ b = none ∧ v = none
      else if ∃ h, s.cru.session.hold = some h ∧ h.requester = src ∧ h.tag = tag then
        o = .granted ∧ b = some s.cru.session.balance ∧ v = some s.cru.session.version ∧ t.cru.session = s.cru.session
      else if s.cru.session.hold.isSome = true then o = .heldBusy ∧ b = none ∧ v = none
      else if x ≠ some s.cru.session.version then
        o = .stale ∧ b = some s.cru.session.balance ∧ v = some s.cru.session.version
      else if s.cru.session.balance < amount.toNat then o = .short ∧ b = some s.cru.session.balance ∧ v = none
      else if 0 < s.cru.session.balance - amount.toNat ∧ planExact s (s.cru.session.balance - amount.toNat) = false then
        o = .noChange ∧ b = none ∧ v = none
      else
        o = .granted ∧ b = some (s.cru.session.balance - amount.toNat) ∧ v = some (s.cru.session.version + 1) ∧
          Awaits .credit t ∧
          t.cru.session =
            { s.cru.session with
              balance := s.cru.session.balance - amount.toNat, state := .held, idleTimer := none
              version := s.cru.session.version + 1, hold := some ⟨src, tag, amount.toNat, 0⟩ }) ∧
  (∀ (src dst : Station) (n : Byte) (amount : Half) (tag : Byte) (x : Option Half) (s : State), s.phase ≠ .heldOff →
    src ≠ s.ssu.own → s.lnk.state = .listenOnly → LoadsSettled s →
    ∃ t, exec (.debitReceived src dst n amount tag x) s = .next t ∧ t.cru.session = s.cru.session ∧
      t.cru.books = s.cru.books ∧ t.lnk.queue = s.lnk.queue ∧ t.lnk.acknowledged = false ∧ t.cnu = s.cnu ∧ t.vsq = s.vsq ∧
      t.cca = s.cca ∧ t.mxd = s.mxd ∧ t.rfc = s.rfc ∧ t.ssu = s.ssu)

/-- R48 to R50: a SETTLE that matches the hold ends it and is answered OK: VENDED sells the held amount, the book and the audit
total of sold units rising by it (R59), NOT-VENDED returns it to the balance, the version rises by 1 with its CREDIT, and the
session takes the first next state of R49 whose condition holds; a payout that so begins and ends short at once is counted in
its book and its audit total. A change of the exact-change-only flag queues a STATUS (R29). One that matches no hold is answered
TOO-LATE when the last-expired record names its source and tag, and UNKNOWN otherwise, and changes nothing else. In LISTEN-ONLY
a SETTLE acts in the same way and is not answered (R41).
The model's choice: the answer stands behind the CREDIT and any STATUS of the same event (DEDUCED, log 14). -/
def Obligations.SettleIsAnswered : Prop :=
  let ends (r : SettleResult) (h : Hold) (s t : State) : Prop :=
    let bal := if r = .notVended then s.cru.session.balance + h.amount else s.cru.session.balance
    let endsShort :=
      0 < bal ∧ (s.cru.session.escrowPending = true ∨ (r = .vended ∧ s.params.multiVend = false)) ∧
        t.cru.session.state = .opened
    t.cru.session.hold = none ∧ t.cru.session.number = s.cru.session.number ∧ t.cru.session.balance = bal ∧
      t.cru.session.version = s.cru.session.version + 1 ∧ t.cru.session.lastExpired = s.cru.session.lastExpired ∧
      t.cru.session.escrowPending = false ∧
      t.cru.books =
        { s.cru.books with
          sold := if r = .vended then s.cru.books.sold + h.amount else s.cru.books.sold
          shortPays := if endsShort then min 65535 (s.cru.books.shortPays + 1) else s.cru.books.shortPays } ∧
      t.ssu.totals =
        { s.ssu.totals with
          sold := if r = .vended then min 4294967295 (s.ssu.totals.sold + h.amount) else s.ssu.totals.sold
          shortPays := if endsShort then min 65535 (s.ssu.totals.shortPays + 1) else s.ssu.totals.shortPays } ∧
      t.cnu = s.cnu ∧ t.vsq = s.vsq ∧ t.cca = s.cca ∧
      if s.cru.session.escrowPending = true then
        if bal = 0 then t.cru.session.state = .idle else PayingOrShort t.cru
      else if r = .vended ∧ s.params.multiVend = false ∧ 0 < bal then PayingOrShort t.cru
      else if bal = 0 then t.cru.session.state = .idle
      else
        t.cru.session.state = .opened ∧
          t.cru.session.idleTimer = (if s.params.idleTime = 0 then none else some 0)
  (∀ (src own : Station) (tag n : Byte) (r : SettleResult) (h : Hold) (s : State), s.ssu.own = own → own ≠ 0 →
    s.cru.session.hold = some h → h.requester = src → h.tag = tag → n = s.cru.session.number → s.cru.session.state = .held →
    (Known src s → s.lnk.queue.length ≤ 5 →
      ∃ t, exec (.settleReceived src own tag n r) s = .next t ∧
        t.lnk.queue.getLast? = some (TxEntry.fresh (.settleAnswer src tag .ok)) ∧ Awaits .credit t ∧
        ExactAnnounced s t ∧ ends r h s t) ∧
    (s.phase ≠ .heldOff → src ≠ own → s.lnk.state = .listenOnly → LoadsSettled s →
      ∃ t, exec (.settleReceived src own tag n r) s = .next t ∧ t.lnk.queue = s.lnk.queue ∧ t.lnk.acknowledged = false ∧
        ends r h s t)) ∧
  (∀ (src own : Station) (tag n : Byte) (r : SettleResult) (s : State), Known src s → s.ssu.own = own → own ≠ 0 →
    s.lnk.queue.length < 8 →
    (∀ h, s.cru.session.hold = some h → ¬ (h.requester = src ∧ h.tag = tag ∧ n = s.cru.session.number)) →
    exec (.settleReceived src own tag n r) s =
      .next (refreshOutputs
        { heardFrom src s with
          lnk :=
            { (heardFrom src s).lnk with
              queue :=
                s.lnk.queue ++
                  [TxEntry.fresh (.settleAnswer src tag
                    (if s.cru.session.lastExpired = some ⟨src, tag⟩ then .tooLate else .unknown))] } }))

/-- R51: a hold that reaches 20 s returns its amount to the balance, is named by the last-expired record, is counted unsettled
and raises the version, announced by a CREDIT; the session goes OPEN with its idle timer from zero, or with escrow-pending set
begins the payout of the whole balance. A change of the exact-change-only flag that a payout ending short at once brings queues
a STATUS (R29). -/
def Obligations.HoldExpires : Prop :=
  ∀ (h : Hold) (s : State), s.cru.session.hold = some h → 0 < s.cru.session.balance + h.amount →
    ∃ t, exec .holdExpiry s = .next t ∧ t.cru.session.hold = none ∧
      t.cru.session.balance = s.cru.session.balance + h.amount ∧
      t.cru.session.lastExpired = some ⟨h.requester, h.tag⟩ ∧ t.cru.session.version = s.cru.session.version + 1 ∧
      t.cru.session.number = s.cru.session.number ∧
      t.ssu.totals.unsettledHolds = min 65535 (s.ssu.totals.unsettledHolds + 1) ∧
      t.cru.books.credited = s.cru.books.credited ∧ t.cru.books.sold = s.cru.books.sold ∧
      t.cru.books.paidOut = s.cru.books.paidOut ∧ t.cru.books.forfeited = s.cru.books.forfeited ∧ t.vsq.state = s.vsq.state ∧
      t.cnu.tubes = s.cnu.tubes ∧ (HasRoom .credit s → Awaits .credit t) ∧ ExactAnnounced s t ∧
      (s.cru.session.escrowPending = false →
        t.cru.session.state = .opened ∧ t.cru.session.changeShort = s.cru.session.changeShort ∧
          t.cru.session.idleTimer = (if s.params.idleTime = 0 then none else some 0)) ∧
      (s.cru.session.escrowPending = true → PayingOrShort t.cru ∧ t.cru.session.escrowPending = false)

/-- R39: at the refresh timer's expiry a CREDIT is queued again while the session is not IDLE or an announcement is owed,
and the timer restarts; with no place for it the announcement is owed and the timer runs to 250 ms; in IDLE with none owed,
and in LISTEN-ONLY, the timer stops (the model's choice for LISTEN-ONLY: DEDUCED, log 40).
Time passed at an expiry: log 1 (DESIGN CHOICE). -/
def Obligations.RefreshTimerRepeatsTheCredit : Prop :=
  ∀ (r : Nat) (s : State), s.cru.refresh = some r →
    let u := elapse ((if s.cru.owed = true then 250 else 2000) - r) (openEvent s)
    if s.lnk.state ≠ .listenOnly ∧ (s.cru.owed = true ∨ s.cru.session.state ≠ .idle) then
      (HasRoom .credit s →
        ∃ t, exec .refreshTimerExpiry s = .next t ∧ Awaits .credit t ∧ t.cru = { u.cru with refresh := some 0, owed := false } ∧
          t.vsq = u.vsq ∧ t.cnu = u.cnu ∧ t.lbu = u.lbu ∧ t.rfc = u.rfc ∧ t.mxd = u.mxd ∧ t.ssu = u.ssu) ∧
      (¬ HasRoom .credit s →
        exec .refreshTimerExpiry s = .next (refreshOutputs { u with cru := { u.cru with refresh := some 0, owed := true } }))
    else exec .refreshTimerExpiry s = .next (refreshOutputs { u with cru := { u.cru with refresh := none } })

/-- R55, R58, R62, R71 to R73: in OPEN the escrow lever, and the idle timer's expiry without change-short, begin the payout of
the whole balance: with the chute clear and a tube that can pay, that tube is pulsed at once; with the chute BLOCKED the payout
waits for it; with no tube that can pay it ends short in the same event, counted in the book and the audit total (R59). With
change-short set the expiry forfeits the balance, in its book and its audit total. A change of the exact-change-only flag queues
a STATUS (R29). In HELD the lever only sets escrow-pending; in IDLE and PAYING it has no effect. -/
def Obligations.LeverAndIdleTimer : Prop :=
  (∀ (c : Instr) (s : State), s.cru.session.state = .opened → 0 < s.cru.session.balance →
    (c = .escrowLever ∧ s.phase = .running) ∨
      (c = .idleTimerExpiry ∧ s.cru.session.idleTimer.isSome = true ∧ s.cru.session.changeShort = false) →
    ∃ t, exec c s = .next t ∧ t.cru.session.balance = s.cru.session.balance ∧
      t.cru.session.version = s.cru.session.version + 1 ∧ t.cru.session.number = s.cru.session.number ∧
      t.cru.session.escrowPending = false ∧ t.cnu.tubes = s.cnu.tubes ∧ t.vsq.queue = s.vsq.queue ∧
      t.cru.books.credited = s.cru.books.credited ∧ t.cru.books.paidOut = s.cru.books.paidOut ∧ ExactAnnounced s t ∧
      if s.inputs.exit.level = true then
        t.cru.session.state = .paying ∧
          ∃ p, t.cru.payout = some p ∧ p.phase = .exitClear ∧ p.tube = none ∧ p.clear = some 0 ∧ p.window = none
      else
        match nextTube s s.cru.session.balance with
        | some i =>
          t.cru.session.state = .paying ∧ t.cru.payout = some ⟨.pulseWait, some i, 1, some 0, none⟩ ∧
            t.cru.solenoid = some ⟨i, 0⟩
        | none =>
          t.cru.session.state = .opened ∧ t.cru.session.changeShort = true ∧ t.cru.payout = none ∧
            t.cru.books.shortPays = min 65535 (s.cru.books.shortPays + 1) ∧
            t.ssu.totals = { s.ssu.totals with shortPays := min 65535 (s.ssu.totals.shortPays + 1) } ∧
            t.cru.session.idleTimer = (if s.params.idleTime = 0 then none else some 0)) ∧
  (∀ (k : Nat) (s : State), s.cru.session.idleTimer = some k → s.cru.session.state = .opened →
    s.cru.session.hold = none → s.cru.session.changeShort = true →
    ∃ t, exec .idleTimerExpiry s = .next t ∧
      t.cru.session =
        { s.cru.session with
          state := .idle, balance := 0, version := s.cru.session.version + 1, changeShort := false, escrowPending := false
          idleTimer := none } ∧
      t.cru.books = { s.cru.books with forfeited := s.cru.books.forfeited + s.cru.session.balance } ∧
      t.ssu.totals.forfeited = min 4294967295 (s.ssu.totals.forfeited + s.cru.session.balance) ∧ ExactAnnounced s t ∧
      t.cnu.tubes = s.cnu.tubes ∧ (HasRoom .credit s → Awaits .credit t)) ∧
  (∀ s : State, s.phase = .running → s.cru.session.state ≠ .opened →
    exec .escrowLever s =
      .next (refreshOutputs
        { openEvent s with
          inputs := { s.inputs with lever := Filter.standing true }
          cru :=
            { s.cru with
              versionRaised := false
              session :=
                { s.cru.session with
                  escrowPending := if s.cru.session.state = .held then true else s.cru.session.escrowPending } } }))

/-- R63, R66, R67: a coin seen while a pulse is awaited is one coin of the pulsed tube: its count and the balance fall, the
paid-out book and audit total rise (R59), a change of the exact-change-only flag queues a STATUS (R29), the version rises once;
the payout then waits for the chute, or with nothing more due is complete and the session goes IDLE. One seen with no payout
record, or in EXIT-CLEAR, only raises the stray-exit count. -/
def Obligations.CoinSeenAtTheExit : Prop :=
  (∀ (i a : Nat) (w : Option Nat) (cl : Option Nat) (u : Tube) (s : State), s.phase = .running →
    s.cru.payout = some ⟨.pulseWait, some i, a, w, cl⟩ → tubeAt s i = some u → u.state ≠ .disabled → u.count ≤ u.capacity →
    u.denomination ≤ s.cru.session.balance →
    ∃ t, exec .coinSeen s = .next t ∧ ExactAnnounced s t ∧ tubeAt t i = some { u with count := u.count - 1 } ∧
      (∀ j, j ≠ i → tubeAt t j = tubeAt s j) ∧
      t.cru.session.balance = s.cru.session.balance - u.denomination ∧
      t.cru.session.version = s.cru.session.version + 1 ∧ t.cru.session.number = s.cru.session.number ∧
      t.cru.books = { s.cru.books with paidOut := s.cru.books.paidOut + u.denomination } ∧
      t.ssu.totals.paidOut = min 4294967295 (s.ssu.totals.paidOut + u.denomination) ∧ t.vsq = s.vsq ∧ t.rfc = s.rfc ∧
      t.mxd = s.mxd ∧
      if s.cru.session.balance = u.denomination then
        t.cru.payout = none ∧ t.cru.session.state = .idle ∧ t.cru.session.changeShort = false
      else
        t.cru.payout = some ⟨.exitClear, some i, a, none, some 0⟩ ∧ t.cru.session.state = s.cru.session.state ∧
          t.cru.session.changeShort = s.cru.session.changeShort) ∧
  (∀ s : State, s.phase = .running → (∀ p, s.cru.payout = some p → p.phase = .exitClear) →
    exec .coinSeen s =
      .next (refreshOutputs
        { openEvent s with
          inputs := { s.inputs with exit := Filter.standing true }
          cru := { s.cru with versionRaised := false, strayExits := min 65535 (s.cru.strayExits + 1) } }))

/-- R64: with no coin seen in 400 ms the first attempt is followed by a re-pulse of the same tube; the second makes the tube DRY
with count 0, and the step that follows pulses another tube or ends the payout short, counted in the book and the audit total
(R59); a change of the exact-change-only flag queues a STATUS (R29). No session field changes but at that ending.
Time passed at an expiry: log 1 (DESIGN CHOICE). -/
def Obligations.PayoutWindowExpires : Prop :=
  ∀ (i a w : Nat) (cl : Option Nat) (s : State), s.cru.payout = some ⟨.pulseWait, some i, a, some w, cl⟩ →
    let u := elapse (400 - w) (openEvent s)
    (a = 1 →
      exec .payoutWindowExpiry s =
        .next (refreshOutputs
          { u with
            cru := { u.cru with solenoid := some ⟨i, 0⟩, payout := some ⟨.pulseWait, some i, 2, some 0, none⟩ } })) ∧
    (a ≠ 1 → 0 < s.cru.session.balance → ∀ x, tubeAt s i = some x → x.state = .normal →
      ∃ t, exec .payoutWindowExpiry s = .next t ∧ ExactAnnounced s t ∧ tubeAt t i = some { x with count := 0, state := .dry } ∧
        (∀ j, j ≠ i → tubeAt t j = tubeAt s j) ∧ t.cru.session.balance = s.cru.session.balance ∧
        match nextTube t s.cru.session.balance with
        | some j =>
          j ≠ i ∧ t.cru.payout = some ⟨.pulseWait, some j, 1, some 0, none⟩ ∧ t.cru.solenoid = some ⟨j, 0⟩ ∧
            t.cru.session = u.cru.session
        | none =>
          t.cru.payout = none ∧ t.cru.session.state = .opened ∧ t.cru.session.changeShort = true ∧
            t.cru.session.version = s.cru.session.version + 1 ∧
            t.cru.books = { s.cru.books with shortPays := min 65535 (s.cru.books.shortPays + 1) } ∧
            t.ssu.totals = { s.ssu.totals with shortPays := min 65535 (s.ssu.totals.shortPays + 1) })

/-- R65, R62, R68: in EXIT-CLEAR the clearing chute begins a new coin step, which pulses the tube the plan names; with no tube
that can pay, and when the chute stays BLOCKED for 500 ms, the payout ends short: change-short is set, the due stays as the
balance of an OPEN session, the book and the audit total of short payouts rise by 1 (R59), and a change of the exact-change-only
flag queues a STATUS (R29). -/
def Obligations.ChuteClearsOrJams : Prop :=
  ∀ (tube : Option Nat) (a k : Nat) (w : Option Nat) (s : State), s.cru.payout = some ⟨.exitClear, tube, a, w, some k⟩ →
    0 < s.cru.session.balance →
    (s.phase = .running → ∀ i, nextTube s s.cru.session.balance = some i →
      exec .exitClears s =
        .next (refreshOutputs
          { openEvent s with
            inputs := { s.inputs with exit := Filter.standing false }
            cru :=
              { s.cru with
                versionRaised := false, solenoid := some ⟨i, 0⟩
                payout := some ⟨.pulseWait, some i, 1, some 0, none⟩ } })) ∧
    (∀ c, (c = .exitClears ∧ s.phase = .running ∧ nextTube s s.cru.session.balance = none) ∨ c = .clearTimerExpiry →
      ∃ t, exec c s = .next t ∧ ExactAnnounced s t ∧ t.cru.payout = none ∧ t.cru.solenoid = none ∧
        t.cru.session.state = .opened ∧
        t.cru.session.changeShort = true ∧ t.cru.session.balance = s.cru.session.balance ∧
        t.cru.session.version = s.cru.session.version + 1 ∧
        t.cru.session.idleTimer = (if s.params.idleTime = 0 then none else some 0) ∧
        t.cru.books = { s.cru.books with shortPays := min 65535 (s.cru.books.shortPays + 1) } ∧
        t.ssu.totals.shortPays = min 65535 (s.ssu.totals.shortPays + 1) ∧ t.cnu.tubes = s.cnu.tubes ∧
        (HasRoom .credit s → Awaits .credit t))

/-! ### The credit cache, selections, debit and settlement as requester (Chapter 5) -/

/-- R76 to R79: a CREDIT from another station refreshes its entry when number and version are equal, replaces it when either
differs, or makes one; into a full cache the new entry comes in place of the oldest (of equal ages the lowest station); the
session number memory takes the number. A PURGE removes its source's entry whatever number it carries, and sets the memory;
an entry whose age reaches 6 s is removed; every other entry stays.
Time passed at an expiry: log 1 (DESIGN CHOICE). -/
def Obligations.CacheMirrorsTheSessions : Prop :=
  (∀ (src dst : Station) (n : Byte) (st : SessionState) (b v : Half) (cs : Bool) (s : State), s.phase ≠ .heldOff →
    src ≠ s.ssu.own → src ≠ 0 → s.cca.memory.length = 15 → PlacesLaw s →
    ∃ t, exec (.creditReceived src dst n st b v cs) s = .next t ∧ rememberedNumber src t = some n ∧
      (∀ j, j ≠ src → rememberedNumber j t = rememberedNumber j s) ∧
      cacheEntry src t =
        (match cacheEntry src s with
        | some e =>
          if e.number = n ∧ e.version = v then some { e with age := 0 } else some ⟨src, n, st, b.toNat, v, cs, 0⟩
        | none => some ⟨src, n, st, b.toNat, v, cs, 0⟩) ∧
      (((cacheEntry src s).isSome = true ∨ s.cca.entries.length < 8) →
        ∀ j, j ≠ src → cacheEntry j t = cacheEntry j s) ∧
      (cacheEntry src s = none → s.cca.entries.length = 8 → ∀ o ∈ s.cca.entries,
        (∀ e ∈ s.cca.entries, e.age < o.age ∨ (e.age = o.age ∧ o.station.toNat ≤ e.station.toNat)) →
          cacheEntry o.station t = none ∧ ∀ j, j ≠ src → j ≠ o.station → cacheEntry j t = cacheEntry j s)) ∧
  (∀ (src dst : Station) (n : Byte) (s : State), s.phase ≠ .heldOff → src ≠ s.ssu.own → src ≠ 0 →
    s.cca.memory.length = 15 →
    ∃ t, exec (.purgeReceived src dst n) s = .next t ∧ cacheEntry src t = none ∧ rememberedNumber src t = some n ∧
      (∀ j, j ≠ src → cacheEntry j t = cacheEntry j s) ∧
      ∀ j, j ≠ src → rememberedNumber j t = rememberedNumber j s) ∧
  (∀ (st : Station) (e : CacheEntry) (s : State), cacheEntry st s = some e →
    let u := elapse (6000 - e.age) (openEvent s)
    exec (.cacheEntryAgeOut st) s =
      .next (refreshOutputs
        { u with cca := { u.cca with entries := u.cca.entries.filter fun x => decide (x.station ≠ st) } }))

/-- R80, R81, R82, TABLE 5-2: a SELECT of a known panel is answered by the first check of TABLE 5-2 that holds, and then changes
nothing in the Vend Sequencer, whatever its state; one that passes every check, while VSQ is not IDLE, joins the tail of the queue
and is answered ACCEPTED with its position. In LISTEN-ONLY it is not taken and not answered. -/
def Obligations.SelectIsCheckedInOrder : Prop :=
  (∀ (src own : Station) (tag slot credit : Byte) (s : State), Known src s → s.ssu.own = own → own ≠ 0 →
    s.lnk.queue.length < 8 →
    let answer (o : VendOutcome) (p q : Option Nat) : State :=
      { heardFrom src s with
        lnk := { (heardFrom src s).lnk with queue := s.lnk.queue ++ [TxEntry.fresh (.vendStatus src tag o p q)] } }
    let known : Option (SessionState × Nat) :=
      if credit.toNat = own.toNat then some (s.cru.session.state, s.cru.session.balance)
      else (cacheEntry (BitVec.ofNat 4 credit.toNat) s).map fun e => (e.state, e.balance)
    let refusal : Option (VendOutcome × Option Nat) :=
      if s.ssu.cause ≠ none ∨ s.mxd.state = .fault ∨ s.params.matrix = false then some (.outOfService, none)
      else if doorOpen s = true then some (.doorOpen, none)
      else
        match (if slot.toNat ≤ 79 then slotAt s slot.toNat else none) with
        | none => some (.invalidSlot, none)
        | some u =>
          if u.state ≠ .ready then some (.unavailable, none)
          else if u.chilled = true ∧ s.params.cooling = true ∧ s.rfc.sellableCold = false then some (.unavailableTemp, none)
          else if 4 ≤ s.vsq.queue.length ∨ (∃ r ∈ s.vsq.queue, r.panel = src) ∨
              (∃ v, s.vsq.vend = some v ∧ v.selection.panel = src) then
            some (.busy, none)
          else if 0 < u.price ∧ (credit = 0 ∨ 15 < credit.toNat) then some (.insufficient, some u.price)
          else if 0 < u.price ∧ (known.map fun k => k.1 == .opened && decide (k.2 < u.price)) = some true then
            some (.insufficient, some u.price)
          else none
    (∀ o p, refusal = some (o, p) →
      exec (.selectReceived src own tag slot credit) s = .next (refreshOutputs (answer o p none))) ∧
    (refusal = none → s.vsq.state ≠ .idle →
      exec (.selectReceived src own tag slot credit) s =
        .next (refreshOutputs
          { answer .accepted none (some (s.vsq.queue.length + 1)) with
            vsq := { s.vsq with queue := s.vsq.queue ++ [⟨src, tag, slot.toNat, credit.toNat⟩] } }))) ∧
  (∀ (src dst : Station) (tag slot credit : Byte) (s : State), s.phase ≠ .heldOff → src ≠ s.ssu.own →
    s.lnk.state = .listenOnly → LoadsSettled s →
    ∃ t, exec (.selectReceived src dst tag slot credit) s = .next t ∧ t.vsq = s.vsq ∧ t.lnk.queue = s.lnk.queue ∧
      t.lnk.acknowledged = false ∧
      t.cru.session = s.cru.session ∧ t.cnu = s.cnu ∧ t.mxd = s.mxd ∧ t.rfc = s.rfc ∧ t.ssu = s.ssu)

/-- R82, R86, R96, R97, R99: an accepted SELECT that finds VSQ IDLE is answered ACCEPTED with position 1 and taken at once: a
free one enters CLAIMING with the budget timer from zero and asks for the MOTOR load; a priced one that another station pays
enters DEBITING with a new vend tag, its DEBIT queued and the answer timer from zero; one that this station's own OPEN session
can pay is granted in the same event, the price moved into the hold under the new tag, and enters CLAIMING (R53). The request
for the MOTOR load is tested in that event (R152, R153): the record is QUEUED with the next sequence and its CLAIM waits,
exactly when the test of fit passes and the transmit queue has a place behind the answer and the CREDIT; otherwise it waits from
zero, and no sequence is taken. -/
def Obligations.SelectionIsTakenAtOnce : Prop :=
  ∀ (src own : Station) (tag slot credit : Byte) (u : Slot) (s : State), Known src s → s.ssu.own = own → own ≠ 0 →
    s.vsq.state = .idle → s.vsq.queue = [] → s.vsq.vend = none → s.vsq.test = none →
    s.lbu.motor.state = .none → s.ssu.cause = none → s.mxd.state ≠ .fault → s.params.matrix = true → doorOpen s = false →
    slot.toNat ≤ 79 → slotAt s slot.toNat = some u → u.state = .ready → tooWarm s u = false →
    let st : Station := BitVec.ofNat 4 credit.toNat
    let number := ((cacheEntry st s).map CacheEntry.number).getD ((rememberedNumber st s).getD 0)
    let expected := (cacheEntry st s).map CacheEntry.version
    let remote : Prop :=
      0 < u.price ∧ credit.toNat ≠ own.toNat ∧ credit ≠ 0 ∧ credit.toNat ≤ 15 ∧
        ∀ e, cacheEntry st s = some e → e.state = .opened → u.price ≤ e.balance
    let c := s.cru.session
    let athome : Prop :=
      0 < u.price ∧ credit.toNat = own.toNat ∧ coinStation s = true ∧ c.state = .opened ∧ c.hold = none ∧ u.price ≤ c.balance ∧
        (c.balance = u.price ∨ planExact s (c.balance - u.price) = true)
    let asked (place : Prop) (t : State) : Prop :=
      RequestTested .motor .vend s.params.motorAmount place s t ∧
        t.lbu.claimCounter = (if t.lbu.motor.state = .queued then s.lbu.claimCounter + 1 else s.lbu.claimCounter)
    u.price = 0 ∨ (s.lnk.queue.length < 6 ∧ (remote ∨ athome)) →
    ∃ t, exec (.selectReceived src own tag slot credit) s = .next t ∧
      (s.lnk.queue.length < 8 →
        t.lnk.queue[s.lnk.queue.length]? = some (TxEntry.fresh (.vendStatus src tag .accepted none (some 1)))) ∧
      t.vsq.queue = [] ∧ t.vsq.slots = s.vsq.slots ∧ t.cnu = s.cnu ∧ t.rfc = s.rfc ∧
      (u.price = 0 →
        t.vsq.state = .claiming ∧ t.cru.session = c ∧ t.vsq.tagCounter = s.vsq.tagCounter ∧
          t.vsq.vend = some { newVend ⟨src, tag, slot.toNat, credit.toNat⟩ 0 with budgetTimer := some 0 } ∧
          asked (s.lnk.queue.length + 1 < 8) t) ∧
      (remote →
        t.vsq.state = .debiting ∧ t.cru.session = c ∧ t.vsq.tagCounter = s.vsq.tagCounter + 1 ∧
          t.lbu.motor = s.lbu.motor ∧
          t.vsq.vend =
            some
              { newVend ⟨src, tag, slot.toNat, credit.toNat⟩ u.price with
                payment := .remote, asked := some ⟨s.vsq.tagCounter + 1, number, expected, 1, false, 0⟩ } ∧
          t.lnk.queue[s.lnk.queue.length + 1]? =
            some (TxEntry.fresh (.debit st number u.price (s.vsq.tagCounter + 1) expected))) ∧
      (athome →
        t.vsq.state = .claiming ∧ t.vsq.tagCounter = s.vsq.tagCounter + 1 ∧
          t.vsq.vend =
            some
              { newVend ⟨src, tag, slot.toNat, credit.toNat⟩ u.price with
                payment := .own, granted := some ⟨s.vsq.tagCounter + 1, c.number⟩, budgetTimer := some 0 } ∧
          t.cru.session =
            { c with
              balance := c.balance - u.price, state := .held, idleTimer := none, version := c.version + 1
              hold := some ⟨own, s.vsq.tagCounter + 1, u.price, 0⟩ } ∧
          t.cru.books = s.cru.books ∧ Awaits .credit t ∧ asked True t)

/-- R87 to R89, TABLE 5-5: the first expiry of the answer timer resends the DEBIT unchanged; the second ends the vend
PAYMENT-UNREACHABLE. A DEBIT-ANSWER is accepted in DEBITING from the record's credit station with the outstanding tag, and
disregarded otherwise: GRANTED leads to CLAIMING, a first STALE with enough balance to a DEBIT with a new tag and the version
carried, and any other outcome ends the vend without a SETTLE.
Time passed at an expiry: log 1 (DESIGN CHOICE). A STALE answer without a balance: log 15 (DESIGN CHOICE). -/
def Obligations.DebitIsFollowedUp : Prop :=
  (∀ (v : Vend) (a : Asked) (s : State), s.vsq.vend = some v → v.asked = some a →
    let u := elapse (250 - a.timer) (openEvent s)
    (a.sendings = 1 → s.lnk.state ≠ .listenOnly → s.lnk.queue.length < 8 →
      exec .answerTimerExpiry s =
        .next (refreshOutputs
          { u with
            lnk :=
              { u.lnk with
                queue :=
                  s.lnk.queue ++
                    [TxEntry.fresh (.debit v.selection.creditStation a.number v.price a.tag a.expected)] }
            vsq :=
              { u.vsq with
                vend := u.vsq.vend.map fun w => { w with asked := some { a with sendings := 2, timer := 0 } } } })) ∧
    (a.sendings ≠ 1 → s.lnk.state ≠ .listenOnly → s.lnk.queue.length < 8 → v.granted = none → s.vsq.queue = [] →
      s.lbu.motor.state = .none →
      ∃ t, exec .answerTimerExpiry s = .next t ∧ t.vsq.state = .idle ∧ t.vsq.vend = none ∧
        t.lnk.queue =
          s.lnk.queue ++
            [TxEntry.fresh (.vendStatus v.selection.panel v.selection.tag .paymentUnreachable none none)] ∧
        t.vsq.slots = s.vsq.slots ∧ t.cca = u.cca ∧ t.cru = u.cru ∧ t.lbu = u.lbu)) ∧
  (∀ (src own : Station) (tag : Byte) (o : DebitOutcome) (b : Option Half) (x : Option Half) (v : Vend) (s : State),
    Known src s → s.ssu.own = own → own ≠ 0 → s.vsq.vend = some v →
    if ∃ a, v.asked = some a ∧ s.vsq.state = .debiting ∧ src = v.selection.creditStation ∧ tag = a.tag then
      ∀ a, v.asked = some a → s.lnk.queue.length < 8 → s.lbu.motor.state = .none → v.granted = none → s.vsq.queue = [] →
        ∃ t, exec (.debitAnswerReceived src own tag o b x) s = .next t ∧ t.cca = s.cca ∧ t.vsq.slots = s.vsq.slots ∧
          t.cru.session = s.cru.session ∧
          if o = .granted then
            t.vsq.state = .claiming ∧
              t.vsq.vend =
                some { v with granted := some ⟨a.tag, a.number⟩, asked := none, budgetTimer := some 0 } ∧
              (t.lbu.motor.state = .waiting ∨ t.lbu.motor.state = .queued) ∧ t.lbu.motor.cls = .vend ∧
              t.lbu.motor.amount = s.params.motorAmount
          else if o = .stale ∧ a.retry = false ∧ (∃ y, b = some y ∧ v.price ≤ y.toNat) then
            t.vsq.state = .debiting ∧ t.vsq.tagCounter = s.vsq.tagCounter + 1 ∧
              t.vsq.vend = some { v with asked := some ⟨s.vsq.tagCounter + 1, a.number, x, 1, true, 0⟩ } ∧
              t.lnk.queue =
                s.lnk.queue ++
                  [TxEntry.fresh (.debit v.selection.creditStation a.number v.price (s.vsq.tagCounter + 1) x)]
          else
            t.vsq.state = .idle ∧ t.vsq.vend = none ∧ t.lbu.motor.state = .none ∧
              t.lnk.queue =
                s.lnk.queue ++
                  [TxEntry.fresh (.vendStatus v.selection.panel v.selection.tag
                    (if o = .noChange then .noChange else if o = .heldBusy then .paymentBusy else .insufficient)
                    (if o = .noChange ∨ o = .heldBusy then none else some v.price) none)]
    else exec (.debitAnswerReceived src own tag o b x) s = .next (refreshOutputs (heardFrom src s)))

/-- R91, R92, R109: the first expiry of the settle timer resends the SETTLE; the second expiry, and an accepted
SETTLE-ANSWER, end the settlement, counted unpaid when a VENDED result was not answered OK; with the MOTOR load given up the
vend then ends with its final VEND-STATUS.
Time passed at an expiry: log 1 (DESIGN CHOICE). -/
def Obligations.SettlementEnds : Prop :=
  ∀ (v : Vend) (a : Settling) (s : State), s.vsq.vend = some v → v.settling = some a → s.vsq.state = .settling →
    s.lnk.queue.length < 8 → s.lnk.state ≠ .listenOnly →
    (a.sendings = 1 →
      let u := elapse (250 - a.timer) (openEvent s)
      exec .settleTimerExpiry s =
        .next (refreshOutputs
          { u with
            lnk :=
              { u.lnk with
                queue := s.lnk.queue ++ [TxEntry.fresh (.settle v.selection.creditStation a.tag a.number a.result)] }
            vsq :=
              { u.vsq with
                vend := u.vsq.vend.map fun w => { w with settling := some { a with sendings := 2, timer := 0 } } } })) ∧
    (∀ (c : Instr) (ok : Bool),
      (c = .settleTimerExpiry ∧ a.sendings ≠ 1 ∧ ok = false) ∨
        (∃ src own o, Known src s ∧ s.ssu.own = own ∧ own ≠ 0 ∧ src = v.selection.creditStation ∧
          c = .settleAnswerReceived src own a.tag o ∧ ok = (o == .ok)) →
      s.vsq.queue = [] → v.settled = false →
      ∃ t, exec c s = .next t ∧ t.cru.session.balance = s.cru.session.balance ∧ t.vsq.slots = s.vsq.slots ∧
        t.ssu.totals =
          (if a.result = .vended ∧ ok = false then
            { s.ssu.totals with unpaidVends := min 65535 (s.ssu.totals.unpaidVends + 1) }
          else s.ssu.totals) ∧
        (s.lbu.motor.state ≠ .none →
          t.vsq.state = .settling ∧ t.lnk.queue = s.lnk.queue ∧
            ∃ w, t.vsq.vend = some w ∧ w.settling = none ∧ w.settled = true) ∧
        (s.lbu.motor.state = .none → ∀ o, v.outcome = some o →
          t.vsq.state = .idle ∧ t.vsq.vend = none ∧
            t.lnk.queue =
              s.lnk.queue ++
                [TxEntry.fresh (.vendStatus v.selection.panel v.selection.tag o
                  (if o = .insufficient then some v.price else none) none)]))

/-! ### The vend and the motor test (Chapter 6) -/

/-- R99, R100, R116: at 10 s without a grant the MOTOR request is withdrawn, with the frames and the tests of the other own
records that R158, R153 and R161 give by its state (`Withdrawn`): a vend is decided BUDGET-TIMEOUT, its granted debit to be
settled NOT-VENDED, and a motor test is answered with result BUDGET-TIMEOUT. A debit granted by the own session is settled in
the same event (R54): the held amount returns to the balance, the session is OPEN, and the vend is over.
The model's choices: the cause recorded with the outcome is the budget timer (DESIGN CHOICE, log 37); a test that is not passed
clears the mark of a full queue, log 12, and its order, log 10 (DEDUCED); in ISOLATED, log 11 (DEDUCED); time passed at an
expiry: log 1 (DESIGN CHOICE). -/
def Obligations.BudgetTimeExpires : Prop :=
  ∀ (k : Nat) (s : State), s.lnk.queue.length < 4 → s.lnk.state ≠ .listenOnly → s.vsq.queue = [] →
    s.lbu.motor.state ≠ .held →
    let u := elapse (10000 - k) (openEvent s)
    (∀ v, s.vsq.vend = some v → v.budgetTimer = some k → v.asked = none → v.payment ≠ .own → v.settled = false →
      ∃ t, exec .budgetTimerExpiry s = .next t ∧ Withdrawn .motor u t ∧ t.vsq.slots = s.vsq.slots ∧
        Decided .budgetTimeout .budget v t ∧
        ∀ g, v.granted = some g →
          t.vsq.state = .settling ∧ Awaits (.settle v.selection.creditStation g.tag g.number .notVended) t) ∧
    (∀ v g h, s.vsq.vend = some v → v.budgetTimer = some k → v.payment = .own → v.granted = some g → HomeHold g h s →
      s.lnk.queue.length < 3 →
      ∃ t, exec .budgetTimerExpiry s = .next t ∧ Withdrawn .motor u t ∧ t.vsq.slots = s.vsq.slots ∧
        t.vsq.state = .idle ∧ t.vsq.vend = none ∧
        Awaits (.vendStatus v.selection.panel v.selection.tag .budgetTimeout none none) t ∧ HomeReturned h s t) ∧
    (∀ r, s.vsq.vend = none → s.vsq.test = some r → s.vsq.state = .testing → r.budgetTimer = some k →
      ∃ t, exec .budgetTimerExpiry s = .next t ∧ Withdrawn .motor u t ∧ t.vsq.test = none ∧ t.vsq.state = .idle ∧
        t.vsq.slots = s.vsq.slots ∧ Awaits (.serviceAnswer r.station r.tag .done [3]) t)

/-- R102, R116: while the motor turns with its pair latched a cam pulse lowers the pulse counter and restarts the jam timer; at
0 the motor stops (all-off is written), and VSQ waits for a drop from zero, or with a drop already seen decides VENDED, an own
session's hold being sold in the same event, in the book and the audit total (R54, R59); a motor test has its result COMPLETE
then. A cam pulse with nothing latched changes nothing.
The model's choices: a pulse counts only with the slot's own pair latched (DEDUCED, log 18), it leaves the return line of its
column closed (DEDUCED, log 35), and the cause recorded with VENDED is the end of the run (DESIGN CHOICE, log 37). -/
def Obligations.CamPulseTurnsTheSpiral : Prop :=
  let closed (n : Nat) (s : State) : State :=
    { openEvent s with
      inputs :=
        { s.inputs with
          camLines := s.inputs.camLines ||| (1 <<< (pairOf n).col.toNat), cam := Filter.standing true } }
  (∀ s : State, s.mxd.latch = none → exec .camPulse s = .next (refreshOutputs (openEvent s))) ∧
  (∀ (v : Vend) (s : State), s.vsq.vend = some v → v.motorOn = true → s.mxd.latch = some (pairOf v.selection.slot) →
    s.lbu.motor.state = .held → 0 < v.pulses →
    let e := closed v.selection.slot s
    (1 < v.pulses →
      exec .camPulse s =
        .next (refreshOutputs
          { e with vsq := { s.vsq with vend := some { v with pulses := v.pulses - 1, jamTimer := some 0 } } })) ∧
    (v.pulses = 1 → v.dropSeen = false →
      exec .camPulse s =
        .next (refreshOutputs
          { e with
            mxd := { s.mxd with staging := none }
            vsq :=
              { s.vsq with
                state := .dropWait
                vend := some { v with pulses := 0, motorOn := false, jamTimer := none, windowTimer := some 0 } } })) ∧
    (v.pulses = 1 → v.dropSeen = true →
      ∃ t, exec .camPulse s = .next t ∧ Decided .vended .runEnd v t ∧ t.vsq.state = .settling ∧ t.mxd.staging = none ∧
        t.lbu.motor = s.lbu.motor ∧ t.mxd.latch = s.mxd.latch ∧ t.inputs = e.inputs ∧
        (v.payment ≠ .own → t.cru = e.cru) ∧
        ∀ g h, v.granted = some g → v.payment = .own → HomeHold g h s →
          t.cru.session.hold = none ∧ t.cru.books.sold = s.cru.books.sold + h.amount ∧
            t.ssu.totals.sold = min 4294967295 (s.ssu.totals.sold + h.amount))) ∧
  (∀ (r : Test) (s : State), s.vsq.vend = none → s.vsq.test = some r → r.motorOn = true →
    s.mxd.latch = some (pairOf r.slot) → s.lbu.motor.state = .held → 0 < r.pulses →
    let e := closed r.slot s
    (1 < r.pulses →
      exec .camPulse s =
        .next (refreshOutputs
          { e with vsq := { s.vsq with test := some { r with pulses := r.pulses - 1, jamTimer := some 0 } } })) ∧
    (r.pulses = 1 →
      ∃ t, exec .camPulse s = .next t ∧ t.mxd.staging = none ∧ t.lbu.motor = s.lbu.motor ∧ t.inputs = e.inputs ∧
        t.vsq.test =
          some { r with pulses := 0, motorOn := false, jamTimer := none, budgetTimer := none, result := some .complete }))

/-- R103, R116: at the jam time with the motor running it stops, the slot is off-home and JAMMED unless it is DISABLED, the
jams total rises; with no drop seen the extra turns end and VSQ waits for a drop, and with a drop seen the vend is VENDED (R108);
in a test the result is JAMMED and only off-home is set.
The model's choices: the cause recorded with VENDED is the jam (DESIGN CHOICE, log 37); time passed at an expiry: log 1 (DESIGN
CHOICE). -/
def Obligations.JamStopsTheMotor : Prop :=
  (∀ (v : Vend) (k : Nat) (x : Slot) (s : State), s.vsq.vend = some v → v.motorOn = true → v.jamTimer = some k →
    v.dropSeen = false → slotAt s v.selection.slot = some x →
    ∃ t, exec .jamTimerExpiry s = .next t ∧ t.vsq.state = .dropWait ∧ t.mxd.staging = none ∧ t.mxd.latch = s.mxd.latch ∧
      slotAt t v.selection.slot =
        some { x with offHome := true, state := if x.state = .disabled then .disabled else .jammed } ∧
      (∀ n, n ≠ v.selection.slot → slotAt t n = slotAt s n) ∧
      t.ssu.totals = { s.ssu.totals with jams := min 65535 (s.ssu.totals.jams + 1) } ∧ t.lbu.motor.state = s.lbu.motor.state ∧
      t.lnk.queue = s.lnk.queue ∧
      ∃ w, t.vsq.vend = some w ∧ w.jammed = true ∧ w.extraLeft = 0 ∧ w.motorOn = false ∧ w.jamTimer = none ∧
        w.windowTimer = some 0 ∧ w.windowArmed = v.windowArmed ∧ w.pulses = v.pulses) ∧
  (∀ (v : Vend) (k : Nat) (x : Slot) (s : State), s.vsq.vend = some v → v.motorOn = true → v.jamTimer = some k →
    v.dropSeen = true → v.settled = false → slotAt s v.selection.slot = some x → s.vsq.queue = [] → s.lnk.queue.length < 3 →
    s.lnk.state ≠ .listenOnly →
    ∃ t, exec .jamTimerExpiry s = .next t ∧ Decided .vended .jam v t ∧ t.mxd.staging = none ∧
      slotAt t v.selection.slot =
        some (SoldSlot { x with offHome := true, state := if x.state = .disabled then .disabled else .jammed }) ∧
      (∀ n, n ≠ v.selection.slot → slotAt t n = slotAt s n) ∧
      t.ssu.totals.jams = min 65535 (s.ssu.totals.jams + 1) ∧
      t.ssu.totals.vendSum = min 65535 (s.ssu.totals.vendSum + 1)) ∧
  (∀ (r : Test) (k : Nat) (x : Slot) (s : State), s.vsq.vend = none → s.vsq.test = some r → r.motorOn = true →
    r.jamTimer = some k → slotAt s r.slot = some x → s.mxd.latch.isSome = true → s.lbu.motor.state = .held →
    ∃ t, exec .jamTimerExpiry s = .next t ∧ slotAt t r.slot = some { x with offHome := true } ∧ t.mxd.staging = none ∧
      t.ssu.totals = s.ssu.totals ∧
      ∃ w, t.vsq.test = some w ∧ w.result = some .jammed ∧ w.motorOn = false ∧ w.jamTimer = none)

/-- R105 to R107: a drop with no armed window is only counted spurious; one that comes while the motor turns is remembered; in
DROP-WAIT it decides the vend VENDED, and the slot's stock, no-drop run and vend count take the sale. The window that ends
without a drop gives an extra turn while one is left, the door has not opened and the slot may be sold; otherwise the vend is
decided ABORTED (by the door), JAMMED or NO-PRODUCT, and a second NO-PRODUCT in a row makes a READY slot SOLD-OUT. A vend that
the own session pays is settled in the same event (R54): the deciding drop sells the hold, in the book and the audit total
(R59), and the window's end returns it. The model's choices: the cause recorded with each outcome (DESIGN CHOICE, log 37); time
passed at an expiry: log 1 (DESIGN CHOICE). -/
def Obligations.DropAndItsWindow : Prop :=
  (∀ s : State, s.phase = .running →
    let e : State := { openEvent s with inputs := { s.inputs with curtain := Filter.standing true } }
    ((∀ v, s.vsq.vend = some v → v.windowArmed = false) →
      exec .drop s =
        .next (refreshOutputs
          { e with
            ssu :=
              { s.ssu with totals := { s.ssu.totals with spuriousDrops := min 65535 (s.ssu.totals.spuriousDrops + 1) } } })) ∧
    (∀ v, s.vsq.vend = some v → v.windowArmed = true → s.vsq.state ≠ .dropWait →
      exec .drop s =
        .next (refreshOutputs { e with vsq := { s.vsq with vend := some { v with dropSeen := true, windowArmed := false } } })) ∧
    (∀ v x, s.vsq.vend = some v → v.windowArmed = true → s.vsq.state = .dropWait → v.settled = false →
      slotAt s v.selection.slot = some x → s.vsq.queue = [] → s.lnk.queue.length < 4 →
      (v.payment = .own → s.lnk.queue.length < 3) → s.lnk.state ≠ .listenOnly →
      ∃ t, exec .drop s = .next t ∧ Decided .vended .drop v t ∧ t.mxd.staging = none ∧
        slotAt t v.selection.slot = some (SoldSlot x) ∧
        (∀ n, n ≠ v.selection.slot → slotAt t n = slotAt s n) ∧
        t.ssu.totals.vendSum = min 65535 (s.ssu.totals.vendSum + 1) ∧
        t.ssu.totals.vendCounts = (s.ssu.totals.vendCounts.modify v.selection.slot fun n => min 65535 (n + 1)) ∧
        (v.payment ≠ .own →
          t.ssu.totals =
              { s.ssu.totals with vendSum := t.ssu.totals.vendSum, vendCounts := t.ssu.totals.vendCounts } ∧
            t.cru.books = s.cru.books) ∧
        ∀ g h, v.granted = some g → v.payment = .own → HomeHold g h s →
          t.cru.session.hold = none ∧ t.cru.books.sold = s.cru.books.sold + h.amount ∧
            t.ssu.totals.sold = min 4294967295 (s.ssu.totals.sold + h.amount))) ∧
  (∀ (v : Vend) (k : Nat) (x : Slot) (s : State), s.vsq.vend = some v → v.windowTimer = some k → s.vsq.state = .dropWait →
    slotAt s v.selection.slot = some x → s.vsq.queue = [] → s.lnk.queue.length < 4 →
    (v.payment = .own → s.lnk.queue.length < 3) → s.lnk.state ≠ .listenOnly → v.settled = false →
    let u := elapse (1500 - k) (openEvent s)
    if 0 < v.extraLeft ∧ v.doorOpened = false ∧ tooWarm s x = false then
      exec .dropWindowExpiry s =
        .next (refreshOutputs
          { u with
            mxd := { u.mxd with staging := some (pairOf v.selection.slot) }
            vsq :=
              { u.vsq with
                state := .running
                vend :=
                  u.vsq.vend.map fun w =>
                    { w with
                      motorOn := true, pulses := 1, extraLeft := v.extraLeft - 1, jamTimer := some 0, windowArmed := true
                      windowTimer := none } } })
    else
      let aborted := v.doorOpened = true ∧ (0 < v.extraLeft ∨ v.doorStop = true)
      ∃ t, exec .dropWindowExpiry s = .next t ∧ t.mxd.staging = none ∧
        (aborted → Decided .aborted .door v t ∧ slotAt t v.selection.slot = some x) ∧
        (¬ aborted → v.jammed = true → Decided .jammed .jam v t ∧ slotAt t v.selection.slot = some x) ∧
        (¬ aborted → v.jammed = false →
          Decided .noProduct .windowEnd v t ∧
            slotAt t v.selection.slot =
              some
                { x with
                  noDropRun := min 2 (x.noDropRun + 1)
                  state := if 1 ≤ x.noDropRun ∧ x.state = .ready then .soldOut else x.state }) ∧
        ∀ g h, v.granted = some g → v.payment = .own → HomeHold g h s → HomeReturned h s t)

/-! ### The matrix drive (Chapter 7) -/

/-- R119 to R122, TABLE 7-2: a tick in NORMAL transfers the buffer: a pair to an all-off latch only while the MOTOR record is
HELD, and all-off from a latched pair; the first tick after a latch change compares nothing. All-off latched in SETTLING
releases the MOTOR load, at whose lower own total the other WAITING records are tested (R153), and with the settlement over the
vend ends with its final VEND-STATUS (R100, R109). A second disagreeing readback in a row enters FAULT with all-off, the first
disagreeing line recorded; the report empties the selection queue, ends a vend before its motor start OUT-OF-SERVICE and a later
one MOTOR-FAULT (VENDED with a drop seen), and a test DRIVE-FAULT (R113, R116); in SETTLING it gives up the MOTOR load. All-off
latched in TESTING ends a test that has its result with its SERVICE-ANSWER, the load released in the same way. In OFF and FAULT
nothing is transferred.
The model's choices: the cause recorded with an outcome is the drive fault (DESIGN CHOICE, log 37); a test that is not passed
clears the mark of a full queue, log 12 (DEDUCED); time passed at an expiry: log 1 (DESIGN CHOICE). -/
def Obligations.DriveTickMovesTheLatch : Prop :=
  ∀ (rows : BitVec 8) (cols cams : BitVec 10) (s : State), s.phase ≠ .heldOff →
    let u := elapse (5 - s.mxd.tick) (openEvent s)
    let e : State := { u with inputs := { u.inputs with camLines := cams }, mxd := { u.mxd with tick := 0 } }
    -- the frames of a MOTOR release find their places; on an ISOLATED station no other record is there to be granted
    let released : Prop :=
      s.lnk.state ≠ .listenOnly ∧ ((LoadsSettled s ∧ s.lnk.queue.length < 7) ∨ (isolated s = false ∧ s.lnk.queue.length < 5))
    let others (t : State) : Prop :=
      ∀ j, j ≠ .motor → TestedBeside .motor (ownTotal s - s.lbu.motor.amount) j u t
    (s.mxd.state ≠ .normal → exec (.driveTick rows cols cams) s = .next (refreshOutputs e)) ∧
    (s.mxd.state = .normal → s.mxd.latch = none → ∀ p, s.mxd.staging = some p → s.lbu.motor.state = .held →
      exec (.driveTick rows cols cams) s =
        .next (refreshOutputs
          { e with
            inputs := { e.inputs with cam := Filter.standing (cams.getLsbD p.col.toNat) }
            mxd :=
              { e.mxd with
                latch := some p, hold := 1, mismatch := 0, energised := some 0, samples := 0, stallRun := 0
                supervision := true } })) ∧
    (s.mxd.state = .normal → ∀ p, s.mxd.latch = some p → s.mxd.staging ≠ some p ∨ s.lbu.motor.state ≠ .held →
      s.vsq.state ≠ .settling → s.vsq.state ≠ .testing →
      exec (.driveTick rows cols cams) s =
        .next (refreshOutputs
          { e with
            inputs := { e.inputs with cam := Filter.standing false }
            mxd := { e.mxd with latch := none, hold := 1, mismatch := 0, energised := none, supervision := false } })) ∧
    (s.mxd.state = .normal → ∀ p v, s.mxd.latch = some p → s.mxd.staging ≠ some p → s.lbu.motor.state = .held →
      s.vsq.state = .settling → s.vsq.vend = some v → s.vsq.queue = [] → released →
      ∃ t, exec (.driveTick rows cols cams) s = .next t ∧ t.mxd.latch = none ∧ t.mxd.energised = none ∧
        t.lbu.motor.state = .none ∧ others t ∧ t.lnk.change = s.lnk.change + 1 ∧ Awaits .status t ∧
        (v.settled = false → t.vsq = u.vsq) ∧
        (v.settled = true → ∀ o, v.outcome = some o →
          t.vsq.state = .idle ∧ t.vsq.vend = none ∧
            Awaits (.vendStatus v.selection.panel v.selection.tag o
              (if o = .insufficient then some v.price else none) none) t)) ∧
    (s.mxd.state = .normal → ∀ p r, s.mxd.latch = some p → s.mxd.staging ≠ some p → s.lbu.motor.state = .held →
      s.vsq.state = .testing → s.vsq.test = some r → s.vsq.queue = [] → released →
      ∃ t, exec (.driveTick rows cols cams) s = .next t ∧ t.mxd.latch = none ∧ t.mxd.energised = none ∧
        (r.result = none → t.vsq = u.vsq ∧ t.lbu = u.lbu) ∧
        ∀ c, r.result = some c →
          t.lbu.motor.state = .none ∧ others t ∧ Awaits .status t ∧ t.vsq.state = .idle ∧ t.vsq.test = none ∧
            Awaits (.serviceAnswer r.station r.tag .done [c.code]) t) ∧
    (s.mxd.state = .normal → s.mxd.hold ≠ 0 →
      (s.mxd.latch = none ∧ (s.mxd.staging = none ∨ s.lbu.motor.state ≠ .held)) ∨
        (s.mxd.latch ≠ none ∧ s.mxd.staging = s.mxd.latch ∧ s.lbu.motor.state = .held) →
      exec (.driveTick rows cols cams) s = .next (refreshOutputs { e with mxd := { e.mxd with hold := s.mxd.hold - 1 } })) ∧
    (s.mxd.state = .normal → s.mxd.hold = 0 →
      (s.mxd.latch = none ∧ (s.mxd.staging = none ∨ s.lbu.motor.state ≠ .held)) ∨
        (s.mxd.latch ≠ none ∧ s.mxd.staging = s.mxd.latch ∧ s.lbu.motor.state = .held) →
      ((∀ i, i < 18 → sensedLevel rows cols i = latchedLevel s.mxd i) →
        exec (.driveTick rows cols cams) s = .next (refreshOutputs { e with mxd := { e.mxd with mismatch := 0 } })) ∧
      (∀ i, i < 18 → sensedLevel rows cols i ≠ latchedLevel s.mxd i →
        (∀ j, j < i → sensedLevel rows cols j = latchedLevel s.mxd j) →
        (s.mxd.mismatch = 0 →
          exec (.driveTick rows cols cams) s = .next (refreshOutputs { e with mxd := { e.mxd with mismatch := 1 } })) ∧
        (s.mxd.mismatch ≠ 0 →
          ∃ t, exec (.driveTick rows cols cams) s = .next t ∧ t.mxd.state = .fault ∧ t.mxd.latch = none ∧
            t.mxd.staging = none ∧ t.mxd.fault = some ⟨i, latchedLevel s.mxd i, sensedLevel rows cols i⟩ ∧
            t.mxd.supervision = false ∧ t.vsq.queue = [] ∧ t.cnu = e.cnu ∧
            (s.vsq.vend = none → s.vsq.test = none → s.lnk.state ≠ .listenOnly →
              Awaits .status s ∨ s.lnk.queue.length + s.vsq.queue.length < 8 → Awaits .status t) ∧
            (∀ v x, s.vsq.vend = some v → slotAt s v.selection.slot = some x → s.vsq.queue = [] → s.lnk.queue.length < 3 →
              s.lnk.state ≠ .listenOnly → v.settled = false →
              Awaits .status t ∧
                (s.vsq.state = .debiting ∨ s.vsq.state = .claiming → s.lbu.motor.state ≠ .held →
                  Decided .outOfService .driveFault v t ∧ t.vsq.slots = s.vsq.slots) ∧
                (s.vsq.state = .running →
                  Decided (if v.dropSeen then .vended else .motorFault) .driveFault v t ∧
                    slotAt t v.selection.slot =
                      some (if v.dropSeen then SoldSlot { x with offHome := true } else { x with offHome := true })) ∧
                (s.vsq.state = .dropWait → Decided .motorFault .driveFault v t ∧ t.vsq.slots = s.vsq.slots)) ∧
            (∀ v, s.vsq.vend = some v → s.vsq.state = .settling → s.lbu.motor.state = .held ∨ s.lbu.motor.state = .none →
              s.vsq.queue = [] → s.lnk.queue.length < 3 → s.lnk.state ≠ .listenOnly →
              Awaits .status t ∧ t.lbu.motor.state = .none ∧ t.vsq.slots = s.vsq.slots ∧ (v.settled = false → t.vsq = u.vsq) ∧
                (v.settled = true → ∀ o, v.outcome = some o →
                  t.vsq.state = .idle ∧ t.vsq.vend = none ∧
                    Awaits (.vendStatus v.selection.panel v.selection.tag o
                      (if o = .insufficient then some v.price else none) none) t)) ∧
            (∀ r, s.vsq.vend = none → s.vsq.state = .testing → s.vsq.test = some r → r.result = none → s.vsq.queue = [] →
              s.lnk.queue.length < 3 → s.lnk.state ≠ .listenOnly →
              t.vsq.state = .idle ∧ t.vsq.test = none ∧ t.lbu.motor.state = .none ∧
                Awaits (.serviceAnswer r.station r.tag .done [4]) t))))

/-- R103, R104, R124, R125: a current sample while a pair is latched in NORMAL is stored and counted; below the open
threshold the first one reports MOTOR-OPEN, which stops the motor, disables the slot and ends the vend MOTOR-FAULT, or VENDED
with a drop seen; the third in a row above the stall threshold reports a stall, taken as a jam; in a test each gives the test its
result and sets off-home alone (R115, R116); with no motor set running a report only closes supervision; any other sample, and
any with supervision closed, does nothing more.
The model's choices: the cause recorded with an outcome (DESIGN CHOICE, log 37); time passed at an expiry: log 1 (DESIGN
CHOICE). -/
def Obligations.CurrentSampleJudgesTheMotor : Prop :=
  ∀ (r : Byte) (p : Pair) (k : Nat) (s : State), s.mxd.latch = some p → s.mxd.energised = some k → s.mxd.state = .normal →
    let u := elapse (200 + 50 * s.mxd.samples - k) (openEvent s)
    let openMotor := s.mxd.supervision = true ∧ s.mxd.samples = 0 ∧ r.toNat < s.params.openThreshold
    let stall :=
      s.mxd.supervision = true ∧ s.mxd.samples ≠ 0 ∧ s.params.stallThreshold < r.toNat ∧ s.mxd.stallRun = 2
    let stored : Mxd :=
      { u.mxd with
        lastSample := r, samples := s.mxd.samples + 1
        stallRun :=
          if s.mxd.supervision = false ∨ s.mxd.samples = 0 then s.mxd.stallRun
          else if s.params.stallThreshold < r.toNat then s.mxd.stallRun + 1 else 0 }
    (¬ openMotor → ¬ stall → exec (.currentSample r) s = .next (refreshOutputs { u with mxd := stored })) ∧
    (openMotor ∨ stall → (∀ v, s.vsq.vend = some v → v.motorOn = false) →
      (∀ e, s.vsq.vend = none → s.vsq.test = some e → e.motorOn = false) →
      exec (.currentSample r) s = .next (refreshOutputs { u with mxd := { stored with supervision := false } })) ∧
    (∀ v x, s.vsq.vend = some v → v.motorOn = true → v.dropSeen = false →
      slotAt s v.selection.slot = some x → s.lbu.motor.state = .held →
      (openMotor →
        ∃ t, exec (.currentSample r) s = .next t ∧ Decided .motorFault .motorOpen v t ∧ t.mxd.staging = none ∧
          t.mxd.supervision = false ∧ t.mxd.lastSample = r ∧
          slotAt t v.selection.slot = some { x with offHome := true, state := .disabled }) ∧
      (stall →
        ∃ t, exec (.currentSample r) s = .next t ∧ t.vsq.state = .dropWait ∧ t.mxd.staging = none ∧
          t.mxd.supervision = false ∧ t.mxd.lastSample = r ∧
          slotAt t v.selection.slot =
            some { x with offHome := true, state := if x.state = .disabled then .disabled else .jammed } ∧
          t.ssu.totals.jams = min 65535 (s.ssu.totals.jams + 1))) ∧
    (∀ v x, s.vsq.vend = some v → v.motorOn = true → v.dropSeen = true → slotAt s v.selection.slot = some x →
      s.lbu.motor.state = .held →
      (openMotor →
        ∃ t, exec (.currentSample r) s = .next t ∧ Decided .vended .motorOpen v t ∧ t.mxd.staging = none ∧
          t.mxd.supervision = false ∧ t.mxd.lastSample = r ∧
          slotAt t v.selection.slot = some (SoldSlot { x with offHome := true, state := .disabled })) ∧
      (stall →
        ∃ t, exec (.currentSample r) s = .next t ∧ Decided .vended .jam v t ∧ t.mxd.staging = none ∧
          t.mxd.supervision = false ∧ t.mxd.lastSample = r ∧
          slotAt t v.selection.slot =
            some (SoldSlot { x with offHome := true, state := if x.state = .disabled then .disabled else .jammed }) ∧
          t.ssu.totals.jams = min 65535 (s.ssu.totals.jams + 1))) ∧
    (∀ e x, s.vsq.vend = none → s.vsq.test = some e → e.motorOn = true → slotAt s e.slot = some x →
      s.lbu.motor.state = .held → openMotor ∨ stall →
      ∃ t, exec (.currentSample r) s = .next t ∧ t.mxd.staging = none ∧ t.mxd.supervision = false ∧ t.mxd.lastSample = r ∧
        slotAt t e.slot = some { x with offHome := true } ∧ (∀ n, n ≠ e.slot → slotAt t n = slotAt s n) ∧
        t.ssu.totals = s.ssu.totals ∧
        t.vsq.test =
          some
            { e with
              motorOn := false, jamTimer := none, budgetTimer := none
              result := some (if s.mxd.samples = 0 then .motorOpen else .jammed) })

/-! ### Refrigeration (Chapter 8) -/

/-- R127 to R129: the average of eight samples updates its sensor: an inside code raises the in-range run and gives VALID a
reading by the conversion table (a sensor not VALID becomes so at the third in a row); an outside one raises the out-of-range
run and at the third in a row makes the sensor FAULTED. The other sensor stays; a change of the cooling fault queues a STATUS.
An average that makes no event changes nothing more. One of the cabinet sensor that makes an event has sellable cold and the
warm timer follow (R142, R143), whatever the compressor's state; what the reading does in OFF, WANT and RUNNING, and the coil
clear reading, stand in the next three statements, and in no other state does the compressor record move. A loss of cold ends
the vend of a chilled slot in DEBITING or CLAIMING, and a test not yet granted, UNAVAILABLE-TEMP (R114, R116), and reaches no
other.
The model's choices: time passed at an expiry, log 1 (DESIGN CHOICE); the reading of the change to VALID is an event, and the
compressor record comes before the sale state, log 22 (DEDUCED); the cause recorded is the loss of cold, log 37 (DESIGN CHOICE);
the STATUS of a changed cooling fault comes before what the sensor's event queues, log 14 (DESIGN CHOICE). -/
def Obligations.AverageUpdatesItsSensor : Prop :=
  ∀ (k : Sensor) (x : Vector (BitVec 10) 8) (s : State), s.rfc.state ≠ .absent →
    let u := averageTaken k x s
    ∃ t, exec (.averagingPeriodEnd k x) s = .next t ∧ (∀ j, j ≠ k → sensorOf t.rfc j = sensorOf u.rfc j) ∧
      sensorOf t.rfc k = averaged k x s ∧
      (coolingFault t ≠ coolingFault s → HasRoom .status s → Awaits .status t) ∧ t.cnu = u.cnu ∧ t.cca = u.cca ∧
      (¬ MakesEvent k x s → t = refreshOutputs u) ∧
      (k = .evaporator → s.rfc.state ≠ .defrostHeat ∨ coilClear u = false →
        t.rfc = u.rfc ∧ t.lbu = u.lbu ∧ t.vsq = u.vsq) ∧
      (k = .cabinet → MakesEvent k x s →
        let cold := cabinetCold u
        let follows (r : Rfc) : Rfc :=
          { r with
            sellableCold := cold && !s.rfc.hotHold
            warmTimer := if s.rfc.hotHold = true ∨ cold = true then none else some (u.rfc.warmTimer.getD 0) }
        let lost : Prop := s.rfc.sellableCold = true ∧ (cold && !s.rfc.hotHold) = false
        t.rfc = follows t.rfc ∧ t.rfc.hotHold = s.rfc.hotHold ∧
        (s.rfc.state ≠ .off → s.rfc.state ≠ .want → s.rfc.state ≠ .running →
          t.rfc.state = s.rfc.state ∧ (¬ lost → t.rfc = follows u.rfc ∧ t.lbu = u.lbu)) ∧
        (s.lbu.motor.state ≠ .waiting → ¬ lost ∨ ¬ EndedByLossOfCold s → t.vsq = u.vsq ∧ t.mxd = u.mxd ∧ t.cru = u.cru) ∧
        (lost → s.vsq.queue = [] → s.lnk.queue.length < 3 → s.lnk.state ≠ .listenOnly → s.lbu.motor.state ≠ .held →
          (s.lbu.motor.state = .waiting → isolated s = false) →
          (∀ v, s.vsq.vend = some v → ChilledAt v.selection.slot s → s.vsq.state = .debiting ∨ s.vsq.state = .claiming →
            v.settled = false →
            t.lbu.motor.state = .none ∧ t.vsq.slots = s.vsq.slots ∧ Decided .unavailableTemp .lossOfCold v t ∧
              (∀ g, v.granted = some g → v.payment ≠ .own →
                t.vsq.state = .settling ∧ Awaits (.settle v.selection.creditStation g.tag g.number .notVended) t) ∧
              ∀ g h, v.granted = some g → v.payment = .own → HomeHold g h s → HomeReturned h s t) ∧
          (∀ r, s.vsq.vend = none → s.vsq.test = some r → s.vsq.state = .testing → ChilledAt r.slot s → r.result = none →
            r.motorOn = false →
            t.lbu.motor.state = .none ∧ t.vsq.slots = s.vsq.slots ∧ t.vsq.state = .idle ∧ t.vsq.test = none ∧
              Awaits (.serviceAnswer r.station r.tag .done [5]) t)))

/-- R131 to R133: the lockout's end in a warm cabinet, and the off timer's end under fixed duty, enter WANT and ask for the
COMPRESSOR load at the class the reading gives: not ISOLATED, the record is QUEUED with the next sequence and its CLAIM exactly
when the test of fit passes and the transmit queue has a place, and otherwise waits from zero; an ISOLATED station decides by
the solo rule in the same event (R152, R153, R161); the lockout's end with nothing wanted leaves OFF. In WANT, 60 s raise the
class of the request to COOL-URGENT, and 10 min of fixed duty withdraw it, with the frames and tests of R158. While the cabinet
sensor is not FAULTED the off timer's and the cycle timer's limits of fixed duty do nothing (R136). An average of the cabinet
sensor that makes an event has OFF enter WANT at the cut-in, or FAULTED with the off timer at 20 min; and has WANT withdraw its
request at the cut-out, or FAULTED with the cycle timer at 10 min, the off timer then from zero, and otherwise raise a class
COOL at an urgent reading.
The model's choices: time passed at an expiry, log 1 (DESIGN CHOICE); the reading of the average that makes the sensor VALID is
tested in WANT too, log 22 (DEDUCED); the tests at a withdrawal, logs 10 to 12 (DEDUCED). -/
def Obligations.CoolingIsAskedFor : Prop :=
  (∀ (k : Nat) (s : State), s.rfc.state = .offLockout → s.rfc.lockoutTimer = some k →
    let u := elapse (s.params.minOff - k) (openEvent s)
    wantsCool u = false →
    exec .lockoutTimerExpiry s =
      .next (refreshOutputs { u with rfc := { u.rfc with state := .off, lockoutTimer := none } })) ∧
  (∀ (c : Instr) (k : Nat) (s : State), s.phase ≠ .heldOff → s.lbu.compressor.state = .none →
    (c = .lockoutTimerExpiry ∧ s.rfc.state = .offLockout ∧ s.rfc.lockoutTimer = some k ∧ s.rfc.cabinet.state = .valid ∧
        ∃ y, s.rfc.cabinet.reading = some y ∧ cutIn s ≤ y) ∨
      (c = .offTimerExpiry ∧ s.rfc.state = .off ∧ s.rfc.offTimer = some k ∧ s.rfc.cabinet.state = .faulted) →
    let cls : ClaimClass :=
      if s.rfc.cabinet.state = .valid ∧ (s.rfc.cabinet.reading.map fun y => decide (urgentFrom s ≤ y)) = some true then
        .coolUrgent
      else .cool
    ∃ t, exec c s = .next t ∧ (t.rfc.state = .want ∨ t.rfc.state = .starting) ∧ t.rfc.cycleTimer = some 0 ∧
      t.rfc.classAsked = cls ∧ RequestTested .compressor cls s.params.startAmount (s.lnk.queue.length < 8) s t ∧
      (isolated s = false →
        t.lbu.claimCounter = (if t.lbu.compressor.state = .queued then s.lbu.claimCounter + 1 else s.lbu.claimCounter) ∧
          t.lnk.queue =
            s.lnk.queue ++
              (if t.lbu.compressor.state = .queued then
                [TxEntry.fresh (.claim .compressor cls s.params.startAmount t.lbu.claimCounter)]
              else [])) ∧
      (t.rfc.state = .starting ↔ t.lbu.compressor.state = .held)) ∧
  (∀ c ∈ [Instr.offTimerExpiry, .cycleTimerFixedDuty], ∀ s : State, s.rfc.cabinet.state ≠ .faulted →
    exec c s = .next (refreshOutputs (openEvent s))) ∧
  (∀ (k : Nat) (s : State), s.rfc.state = .want → s.rfc.classAsked = .cool → s.rfc.cycleTimer = some k →
    let u := elapse (60000 - k) (openEvent s)
    (s.lbu.compressor.state = .waiting ∨ s.lbu.compressor.state = .proposed →
      exec .cycleTimerUrgent s =
        .next (refreshOutputs
          { u with
            rfc := { u.rfc with classAsked := .coolUrgent }
            lbu := { u.lbu with compressor := { u.lbu.compressor with cls := .coolUrgent } } })) ∧
    (s.lbu.compressor.state = .queued → claimBegun .compressor s.lbu.compressor.sequence s = false →
      s.lnk.queue.length < 8 → s.lnk.state ≠ .listenOnly →
      exec .cycleTimerUrgent s =
        .next (refreshOutputs
          { u with
            rfc := { u.rfc with classAsked := .coolUrgent }
            lbu := { u.lbu with compressor := { u.lbu.compressor with cls := .coolUrgent } }
            lnk :=
              { u.lnk with
                queue :=
                  (s.lnk.queue.filter fun e => !isClaim .compressor s.lbu.compressor.sequence e.frame) ++
                    [TxEntry.fresh
                      (.claim .compressor .coolUrgent s.lbu.compressor.amount s.lbu.compressor.sequence)] } }))) ∧
  (∀ (k : Nat) (s : State), s.rfc.state = .want → s.rfc.cabinet.state = .faulted → s.rfc.cycleTimer = some k →
    s.lbu.compressor.state ≠ .held →
    let u := elapse (600000 - k) (openEvent s)
    ∃ t, exec .cycleTimerFixedDuty s = .next t ∧ t.lbu.compressor.state = .none ∧
      (s.lnk.queue.length < 5 → s.lnk.state ≠ .listenOnly → Withdrawn .compressor u t) ∧
      t.rfc = { u.rfc with state := .off, cycleTimer := none, offTimer := some 0 }) ∧
  (∀ (x : Vector (BitVec 10) 8) (s : State), MakesEvent .cabinet x s →
    let u := averageTaken .cabinet x s
    let at_ (p : Int → Prop) : Prop := u.rfc.cabinet.state = .valid ∧ ∃ y, u.rfc.cabinet.reading = some y ∧ p y
    let timed (timer : Option Nat) (limit : Nat) : Prop := u.rfc.cabinet.state = .faulted ∧ ∃ k, timer = some k ∧ limit ≤ k
    let wanted : Prop := at_ (cutIn s ≤ ·) ∨ timed u.rfc.offTimer 1200000
    let urgent : Prop := at_ (urgentFrom s ≤ ·)
    ∃ t, exec (.averagingPeriodEnd .cabinet x) s = .next t ∧
      (s.rfc.state = .off → s.lbu.compressor.state = .none →
        (¬ wanted → t.rfc.state = .off ∧ t.rfc.cycleTimer = u.rfc.cycleTimer ∧ t.lbu.compressor.state = .none) ∧
        (wanted →
          (t.rfc.state = .want ∨ t.rfc.state = .starting) ∧ t.rfc.cycleTimer = some 0 ∧
            (urgent → t.rfc.classAsked = .coolUrgent) ∧ (¬ urgent → t.rfc.classAsked = .cool) ∧
            t.lbu.compressor.cls = t.rfc.classAsked ∧ t.lbu.compressor.amount = s.params.startAmount ∧
            (t.rfc.state = .starting ↔ t.lbu.compressor.state = .held) ∧ t.lbu.compressor.state ≠ .none ∧
            t.lbu.compressor.state ≠ .proposed)) ∧
      (s.rfc.state = .want → s.lbu.compressor.state ≠ .held → s.lbu.compressor.state ≠ .none →
        let sale (r : Rfc) : Rfc := { r with sellableCold := t.rfc.sellableCold, warmTimer := t.rfc.warmTimer }
        (at_ (· ≤ cutOut s) →
          t.lbu.compressor.state = .none ∧ t.rfc = sale { u.rfc with state := .off, cycleTimer := none }) ∧
        (timed u.rfc.cycleTimer 600000 →
          t.lbu.compressor.state = .none ∧
            t.rfc = sale { u.rfc with state := .off, cycleTimer := none, offTimer := some 0 }) ∧
        (¬ at_ (· ≤ cutOut s) → ¬ timed u.rfc.cycleTimer 600000 →
          t.rfc.cycleTimer = u.rfc.cycleTimer ∧ t.rfc.offTimer = u.rfc.offTimer ∧
            t.lbu.compressor.amount = s.lbu.compressor.amount ∧
            (t.rfc.state = .want ∨ t.rfc.state = .starting) ∧
            (t.rfc.state = .starting ↔ t.lbu.compressor.state = .held) ∧
            (urgent → s.rfc.classAsked = .cool →
              t.rfc.classAsked = .coolUrgent ∧ t.lbu.compressor.cls = .coolUrgent) ∧
            (¬ urgent ∨ s.rfc.classAsked ≠ .cool →
              t.rfc.classAsked = s.rfc.classAsked ∧ t.lbu.compressor.cls = s.lbu.compressor.cls) ∧
            (s.rfc.sellableCold = false ∨ t.rfc.sellableCold = true →
              t.rfc.state = .want ∧ t.lbu.compressor.state = s.lbu.compressor.state))))

/-- R134, R135, R137: 3 s after the grant the compressor is RUNNING and its held amount falls to the run amount, at which the
other WAITING records are tested (R152, R153, R161); it stops at the minimum on time with the cabinet cooled, or at 10 min of
fixed duty, releasing its load, at which the others are tested, into OFF-LOCKOUT or, with defrost due, into DEFROST-HEAT, whose
HEATER request is tested after them; and each whole second of running is counted, one that stands whole at the stop before it.
An average of the cabinet sensor that makes an event in RUNNING stops it in the same way past the minimum on time, with a
reading at or below the cut-out or FAULTED with the cycle timer at 10 min, and otherwise lets it run.
Time passed at an expiry: log 1 (DESIGN CHOICE); the on timer held at the minimum on time: log 44 (DEDUCED); the tests, log 12
(DEDUCED) and log 46 (DESIGN CHOICE). -/
def Obligations.CompressorRunsAndStops : Prop :=
  let stopped (whole : Bool) (s t : State) : Prop :=
    let accumulator := if whole then min 65535 (s.rfc.accumulator + 1) else s.rfc.accumulator
    let due := s.rfc.defrostDue || (whole && decide (s.params.defrostInterval ≤ accumulator))
    t.lbu.compressor.state = .none ∧ t.rfc.onTimer = none ∧ t.rfc.cycleTimer = none ∧
      t.rfc.offTimer = some 0 ∧ t.rfc.accumulator = accumulator ∧
      (due = false → t.rfc.state = .offLockout ∧ t.rfc.lockoutTimer = some 0) ∧
      (due = true → s.lbu.heater.state = .none →
        t.rfc.state = .defrostHeat ∧ t.rfc.defrostTimer = some 0 ∧ t.lbu.heater.cls = .defrost ∧
          t.lbu.heater.amount = s.params.heaterAmount ∧
          t.rfc.heaterMode = some (if t.lbu.heater.state = .held then .heating else .waiting))
  (∀ (k : Nat) (s : State), s.rfc.state = .starting → s.rfc.startTimer = some k → s.lbu.compressor.state = .held →
    let u := elapse (3000 - k) (openEvent s)
    let run : OwnLoad := { u.lbu.compressor with amount := s.params.runAmount }
    ∃ t, exec .startTimerExpiry s = .next t ∧ t.rfc.state = .running ∧ t.lbu.compressor = run ∧
      (LoadsSettled s ∨ s.lbu.compressor.amount = s.params.runAmount →
        (s.lbu.compressor.amount ≠ s.params.runAmount → HasRoom .status s → Awaits .status t) ∧
        t.rfc = { u.rfc with state := .running, startTimer := none } ∧ t.lbu = { u.lbu with compressor := run } ∧
          t.lnk.change = (if s.lbu.compressor.amount = s.params.runAmount then s.lnk.change else s.lnk.change + 1) ∧
          t.vsq = u.vsq) ∧
      (s.lbu.compressor.amount ≠ s.params.runAmount → s.lnk.queue.length < 6 → s.lnk.state ≠ .listenOnly →
        Awaits .status t ∧ ∀ j, j ≠ .compressor → TestedBeside .compressor (ownTotal s - s.lbu.compressor.amount + s.params.runAmount) j u t)) ∧
  (∀ (c : Instr) (k d : Nat) (s : State), s.phase ≠ .heldOff → s.rfc.state = .running → s.lbu.compressor.state = .held →
    (c = .onTimerExpiry ∧ s.rfc.onTimer = some k ∧ d = s.params.minOn - k ∧ s.rfc.cabinet.state = .valid ∧
        ∃ y, s.rfc.cabinet.reading = some y ∧ y ≤ cutOut s) ∨
      (c = .cycleTimerFixedDuty ∧ s.rfc.cabinet.state = .faulted ∧ s.rfc.cycleTimer = some k ∧ d = 600000 - k ∧
        ∃ j, s.rfc.onTimer = some j ∧ s.params.minOn ≤ j) →
    let u := elapse d (openEvent s)
    let own := ownTotal s - s.lbu.compressor.amount
    ∃ t, exec c s = .next t ∧ stopped (decide (1000 ≤ s.rfc.second + d)) s t ∧
      (s.lnk.queue.length < 6 → s.lnk.state ≠ .listenOnly → isolated s = false ∨ GrantStartsVend s →
        TestedBeside .compressor own .motor u t ∧ (t.rfc.state = .offLockout → TestedBeside .compressor own .heater u t) ∧
          (t.rfc.state = .defrostHeat → s.lbu.heater.state = .none →
            RequestTested .heater .defrost s.params.heaterAmount True t t))) ∧
  (∀ (x : Vector (BitVec 10) 8) (s : State), s.rfc.state = .running → s.lbu.compressor.state = .held →
    MakesEvent .cabinet x s →
    let u := averageTaken .cabinet x s
    let stop : Prop :=
      (∃ j, u.rfc.onTimer = some j ∧ s.params.minOn ≤ j) ∧
        ((u.rfc.cabinet.state = .valid ∧ ∃ y, u.rfc.cabinet.reading = some y ∧ y ≤ cutOut s) ∨
          (u.rfc.cabinet.state = .faulted ∧ ∃ j, u.rfc.cycleTimer = some j ∧ 600000 ≤ j))
    ∃ t, exec (.averagingPeriodEnd .cabinet x) s = .next t ∧
      (stop → stopped (decide (1000 ≤ u.rfc.second)) s t) ∧
      (¬ stop →
        t.rfc = { u.rfc with sellableCold := t.rfc.sellableCold, warmTimer := t.rfc.warmTimer } ∧
          t.lbu.compressor = u.lbu.compressor)) ∧
  (∀ s : State,
    let u := elapse (1000 - s.rfc.second) (openEvent s)
    exec .accumulatorSecond s =
      .next (refreshOutputs
        (if s.rfc.state = .starting ∨ s.rfc.state = .running then
          { u with
            rfc :=
              { u.rfc with
                second := 0, accumulator := min 65535 (s.rfc.accumulator + 1)
                defrostDue :=
                  s.rfc.defrostDue || decide (s.params.defrostInterval ≤ min 65535 (s.rfc.accumulator + 1)) } }
        else openEvent s)))

/-- R138 to R140, R143: a defrost that has waited 10 min for the HEATER load withdraws it, with the frames and tests of R158,
and goes on off-cycle; at the maximum duration, or at an evaporator reading at or above the defrost end temperature, it ends,
its load given up, at which the other WAITING records are tested (R153, R161), and the drip begins; the drip's end zeroes the
accumulator, clears defrost due and enters OFF-LOCKOUT. When the warm timer reaches the hot-hold time, HOT-HOLD latches, the
cabinet is not sellable cold, and a STATUS is queued; the coin, credit, vend, drive and load records stay.
The heater mode is none once DEFROST-HEAT has ended: log 41 (DESIGN CHOICE).
Time passed at an expiry: log 1 (DESIGN CHOICE); the tests, logs 10 to 12 (DEDUCED). -/
def Obligations.DefrostAndHotHold : Prop :=
  (∀ (k : Nat) (s : State), s.rfc.state = .defrostHeat → s.rfc.defrostTimer = some k →
    let places : Prop := s.lnk.queue.length < 5 ∧ s.lnk.state ≠ .listenOnly
    (s.rfc.heaterMode = some .waiting → s.lbu.heater.state ≠ .held →
      let u := elapse (600000 - k) (openEvent s)
      ∃ t, exec .heaterWaitExpiry s = .next t ∧ t.lbu.heater.state = .none ∧ (places → Withdrawn .heater u t) ∧
        t.rfc = { u.rfc with heaterMode := some .offCycle }) ∧
    let u := elapse (s.params.maxDefrost - k) (openEvent s)
    ∃ t, exec .defrostTimerExpiry s = .next t ∧ t.lbu.heater.state = .none ∧
      (places → s.lbu.heater.state ≠ .held → Withdrawn .heater u t) ∧
      (places → s.lbu.heater.state = .held →
        ∀ j, j ≠ .heater → TestedBeside .heater (ownTotal s - s.lbu.heater.amount) j u t) ∧
      t.rfc = { u.rfc with state := .defrostDrip, defrostTimer := none, heaterMode := none, dripTimer := some 0 }) ∧
  (∀ (x : Vector (BitVec 10) 8) (s : State), s.rfc.state = .defrostHeat → MakesEvent .evaporator x s →
    let u := averageTaken .evaporator x s
    u.rfc.evaporator.state = .valid → (∃ y, u.rfc.evaporator.reading = some y ∧ s.params.defrostEnd ≤ y) →
    ∃ t, exec (.averagingPeriodEnd .evaporator x) s = .next t ∧ t.lbu.heater.state = .none ∧
      t.rfc = { u.rfc with state := .defrostDrip, defrostTimer := none, heaterMode := none, dripTimer := some 0 }) ∧
  (∀ (k : Nat) (s : State), s.rfc.state = .defrostDrip → s.rfc.dripTimer = some k →
    let u := elapse (120000 - k) (openEvent s)
    exec .dripTimerExpiry s =
      .next (refreshOutputs
        { u with
          rfc :=
            { u.rfc with
              state := .offLockout, lockoutTimer := some 0, accumulator := 0, defrostDue := false, dripTimer := none } })) ∧
  (∀ (k : Nat) (s : State), s.rfc.warmTimer = some k →
    let u := elapse (s.params.hotHoldTime - k) (openEvent s)
    ∃ t, exec .warmTimerExpiry s = .next t ∧
      t.rfc = { u.rfc with hotHold := true, sellableCold := false, warmTimer := none } ∧ t.vsq = u.vsq ∧ t.cru = u.cru ∧
      t.lbu = u.lbu ∧ t.cnu = u.cnu ∧ t.mxd = u.mxd ∧ (HasRoom .status s → Awaits .status t))

/-! ### The bank load budget (Chapter 9) -/

/-- R148, R149, R159, R160, R164, R170: a STATUS, CLAIM or RELEASE of another station makes its entry LIVE with age 0 and acts
on it alone, restarts the isolation timer, and is acknowledged unless the link is SILENT or LISTEN-ONLY: a STATUS sets total,
limit, change number and flags, and with a new change number drops the assumed claims and those heard 40 ms ago or longer; a
CLAIM takes the place of one of its kind or a free place, and with none raises the total; a RELEASE drops the claim of its kind
and sequence. A LIVE entry whose age reaches 2 s is removed when its limit is 0 and becomes LOST otherwise; a claim heard 60 ms
ago becomes assumed, which changes no amount. On a station that is not ISOLATED a change of the table (R150) clears held off,
takes back each QUEUED record that no longer fits and whose CLAIM is not on the bus, without a RELEASE, and tests each WAITING
one (R153, R154, R157); without a change the own records and the queue stay. A frame that ends ISOLATED has the WAITING records
tested and queues a STATUS (R162). A CLAIM whose objection view stands above the effective limit is answered by one OBJECT, but
not with a limit of 0 announced, in SILENT or LISTEN-ONLY, or with the queue full. The model's choices: time passed at an
expiry, log 1 (DESIGN CHOICE); one test of the records an event, and that a listed CLAIM always changes the table, log 9
(DEDUCED); QUEUED records before WAITING ones, and the objection view after both, log 10 (DEDUCED); held off cleared on every
record, log 12 (DEDUCED). -/
def Obligations.PeerTableFollowsTheFrames : Prop :=
  (∀ (src dst : Station) (s : State), s.phase ≠ .heldOff → src ≠ s.ssu.own →
    let e := { (peerAt src s).getD (newPeer src) with live := true, age := 0 }
    let only (t : State) : Prop :=
      (∀ j, j ≠ src → peerAt j t = peerAt j s) ∧ t.lnk.heard = true ∧ t.lnk.isolationTimer = 0 ∧
        (t.lnk.acknowledged = true ↔ s.lnk.state = .active) ∧ t.cca = s.cca ∧ t.cnu = s.cnu
    let own (changed : Prop) (answer : List TxEntry) (t : State) : Prop :=
      s.lnk.queue.length < 4 →
      (isolated s = false →
        otherFrames t = otherFrames s ++ answer ∧ t.vsq = s.vsq ∧ t.rfc = s.rfc ∧ t.mxd = s.mxd ∧
          (changed → FitTested (keptClaims s t) s t) ∧
          (¬ changed → s.lnk.queue <+: t.lnk.queue ∧ ∀ k, t.lbu.load k = s.lbu.load k)) ∧
      (s.lnk.state = .active → s.lnk.heard = false → isolated t = false ∧ Awaits .status t ∧ FitTested (claiming s) s t)
    (∀ (n : Byte) (total limit : Half) (flags : Byte),
      ∃ t, exec (.statusReceived src dst n total limit flags) s = .next t ∧ only t ∧ own (tableKey t ≠ tableKey s) [] t ∧
        peerAt src t =
          some
            { e with
              total := total.toNat, limit := limit.toNat, change := some n, door := flags.getLsbD 0
              isolated := flags.getLsbD 1, unconfigured := flags.getLsbD 2, listenOnly := flags.getLsbD 3
              claims :=
                if e.change = some n then e.claims
                else e.claims.filter fun c => c.assumed == false && decide (c.heardAge < 40) }) ∧
    (∀ (kind : Byte) (cls : ClaimClass) (amount : Half) (q : Byte), kind ≠ 0 →
      ∃ t, exec (.claimReceived src dst kind cls amount q) s = .next t ∧ only t ∧
        let c : Claim := ⟨kind, cls, amount.toNat, q, 0, false⟩
        let objected := TxEntry.fresh (.object src kind q (objectionView t))
        own (tableKey t ≠ tableKey s ∨ (∃ x ∈ e.claims, x.kind = kind) ∨ e.claims.length < 4)
            (if announcedLimit s ≠ 0 ∧ effectiveLimit t < objectionView t then [objected] else []) t ∧
        (LoadsSettled s → s.lnk.state ≠ .active ∨ (isolated s = false ∧ 8 ≤ s.lnk.queue.length) →
          t.lnk.queue = s.lnk.queue ∧ ∀ k, t.lbu.load k = s.lbu.load k) ∧
        ((∃ x ∈ e.claims, x.kind = kind) →
          peerAt src t = some { e with claims := e.claims.map fun x => if x.kind = kind then c else x }) ∧
        ((∀ x ∈ e.claims, x.kind ≠ kind) → e.claims.length < 4 →
          peerAt src t = some { e with claims := e.claims ++ [c] }) ∧
        ((∀ x ∈ e.claims, x.kind ≠ kind) → 4 ≤ e.claims.length → e.total + amount.toNat ≤ 65535 →
          peerAt src t = some { e with total := e.total + amount.toNat })) ∧
    (∀ kind q : Byte, kind ≠ 0 →
      ∃ t, exec (.releaseReceived src dst kind q) s = .next t ∧ only t ∧ own (tableKey t ≠ tableKey s) [] t ∧
        peerAt src t = some { e with claims := e.claims.filter fun c => decide (¬ (c.kind = kind ∧ c.sequence = q)) })) ∧
  (∀ (st : Station) (e : Peer) (s : State), peerAt st s = some e → e.live = true →
    let u := elapse (2000 - e.age) (openEvent s)
    ∃ t, exec (.peerEntryAgeOut st) s = .next t ∧
      t.lbu.peers =
        (if e.limit = 0 then u.lbu.peers.filter fun x => decide (x.station ≠ st)
        else u.lbu.peers.map fun x => if x.station = st then { x with live := false } else x) ∧
      (isolated s = false → s.lnk.queue.length < 4 → otherFrames t = otherFrames s ∧ FitTested (keptClaims u t) u t)) ∧
  (∀ (st : Station) (kind : Byte) (e : Peer) (c : Claim) (s : State), peerAt st s = some e →
    (e.claims.find? fun x => x.kind == kind) = some c →
    let u := elapse (60 - c.heardAge) (openEvent s)
    exec (.claimAssumed st kind) s =
      .next (refreshOutputs
        { u with
          lbu :=
            { u.lbu with
              peers :=
                u.lbu.peers.map fun x =>
                  if x.station = st then
                    { x with claims := x.claims.map fun y => if y.kind = kind then { y with assumed := true } else y }
                  else x } }))

/-- R153, R157: a held-off record at 500 ms, and a record that met a full transmit queue at 100 ms, is tested again: when it
fits and a place is free its CLAIM is queued with the next sequence number; when it fits and none is free it waits again from
zero; when it does not fit it waits on. On an ISOLATED station the solo rule decides (R161): with its amount within the solo
allowance the record is HELD, its owner told and a STATUS queued, and otherwise it waits on.
The model's choices: a test that fails clears the mark of a full transmit queue, so that the test at 100 ms does not recur after
it (DEDUCED, log 12); time passed at an expiry: log 1 (DESIGN CHOICE). -/
def Obligations.WaitingRecordIsTestedAgain : Prop :=
  ∀ (c : Instr) (k : LoadKind) (d : Nat) (s : State),
    let l := s.lbu.load k
    let u := elapse d (openEvent s)
    let q := s.lbu.claimCounter + 1
    l.state = .waiting →
    (c = .heldOffExpiry k ∧ l.heldOff = true ∧ d = 500 - l.waitAge) ∨
      (c = .claimRetryAge k ∧ l.heldOff = false ∧ l.metFull = true ∧ d = 100 - l.waitAge) →
    (isolated s = true → ownTotal s + l.amount ≤ soloAllowance s → (∀ j, j ≠ k → (s.lbu.load j).state ≠ .waiting) →
      (k = .motor → GrantStartsVend s) →
      ∃ t, exec c s = .next t ∧ (t.lbu.load k).state = .held ∧ (t.lbu.load k).amount = l.amount ∧
        (∀ j, j ≠ k → t.lbu.load j = u.lbu.load j) ∧ ownTotal t ≤ soloAllowance t ∧ t.lnk.change = s.lnk.change + 1 ∧
        OwnerTold k s t ∧ (HasRoom .status s → Awaits .status t)) ∧
    (isolated s = true → soloAllowance s < ownTotal s + l.amount →
      exec c s = .next (refreshOutputs (modLoad k (fun x => { x with heldOff := false, metFull := false }) u))) ∧
    (isolated s = false → exec c s =
      .next (refreshOutputs
        (if fits k s = false then modLoad k (fun x => { x with heldOff := false, metFull := false }) u
        else if s.lnk.queue.length < 8 then
          modLoad k (fun x => { x with state := .queued, sequence := q, heldOff := false, metFull := false })
            { u with
              lbu := { u.lbu with claimCounter := q }
              lnk := { u.lnk with queue := s.lnk.queue ++ [TxEntry.fresh (.claim k l.cls l.amount q)] } }
        else modLoad k (fun x => { x with waitAge := 0, heldOff := false, metFull := true }) u)))

/-- R156, R157, R101, R115, R134: a PROPOSED record is defeated by the OBJECT that names its sequence: it waits held off, its
RELEASE and a STATUS queued; any other OBJECT is counted ignored. At the end of the settle window a record that still fits is
HELD within the effective limit and its owner (a vend, a motor test, the compressor, the defrost) acts on it in the same event;
one that does not fit waits again, its RELEASE and a STATUS queued. In each of the three events the other WAITING records are
tested (R153), in class order, each counting those that passed before it, at the own total then in force. A MOTOR grant that
finds the cabinet of a chilled slot not sellable cold starts no motor: the vend is decided UNAVAILABLE-TEMP, its MOTOR load
given up and its debit settled NOT-VENDED, by the own session in the same event (R99, R54).
The model's choices: the record so returned to WAITING is not itself tested in that event (DEDUCED, log 10); a test that is not
passed clears the mark of a full queue (DEDUCED, log 12); the RELEASE is queued before its STATUS (DESIGN CHOICE, log 14); the
cause recorded is the loss of cold (DESIGN CHOICE, log 37); time passed at an expiry: log 1 (DESIGN CHOICE). -/
def Obligations.ProposedRecordIsDecided : Prop :=
  (∀ (src own : Station) (kind q : Byte) (sum : Half) (s : State), Known src s → s.ssu.own = own → own ≠ 0 → kind ≠ 0 →
    (∀ k, kind = k.code → (s.lbu.load k).state = .proposed → (s.lbu.load k).sequence = q → s.lnk.queue.length < 5 →
      ∃ t, exec (.objectReceived src own kind q sum) s = .next t ∧ (t.lbu.load k).state = .waiting ∧
        Awaits (.release k q) t ∧ Awaits .status t ∧
        ∀ j, j ≠ k → TestedBeside k (ownTotal s) j (heardFrom src s) t) ∧
    (LoadsSettled s → s.lnk.queue.length < 7 → ¬ Awaits .status s → ∀ k, kind = k.code → (s.lbu.load k).state = .proposed → (s.lbu.load k).sequence = q →
      ∃ t, exec (.objectReceived src own kind q sum) s = .next t ∧
        t.lbu.load k = { s.lbu.load k with state := .waiting, waitAge := 0, heldOff := true, metFull := false, window := none } ∧
        (∀ j, j ≠ k → t.lbu.load j = s.lbu.load j) ∧ t.lbu.objectSum = some sum ∧ t.lbu.ignored = s.lbu.ignored ∧
        t.lnk.queue = s.lnk.queue ++ [TxEntry.fresh (.release k q), TxEntry.fresh .status] ∧
        t.lnk.change = s.lnk.change + 1) ∧
    ((∀ k, kind = k.code → ¬ ((s.lbu.load k).state = .proposed ∧ (s.lbu.load k).sequence = q)) →
      ∃ t, exec (.objectReceived src own kind q sum) s = .next t ∧
        t.lbu =
          { (heardFrom src s).lbu with objectSum := some sum, ignored := min 65535 (s.lbu.ignored + 1) } ∧
        t.lnk = (heardFrom src s).lnk ∧ t.cru.session = s.cru.session ∧ t.vsq = s.vsq ∧ t.rfc = s.rfc)) ∧
  (∀ (k : LoadKind) (w : Nat) (s : State), (s.lbu.load k).state = .proposed → (s.lbu.load k).window = some w →
    s.lnk.queue.length < 7 → s.lnk.state ≠ .listenOnly →
    let u := elapse (40 - w) (openEvent s)
    (fits k s = false → isolated s = false → s.lnk.queue.length < 5 →
      ∃ t, exec (.settleWindowExpiry k) s = .next t ∧ (t.lbu.load k).state = .waiting ∧
        Awaits (.release k (s.lbu.load k).sequence) t ∧ Awaits .status t ∧
        ∀ j, j ≠ k → TestedBeside k (ownTotal s) j u t) ∧
    (fits k s = false → LoadsSettled s → ¬ Awaits .status s →
      ∃ t, exec (.settleWindowExpiry k) s = .next t ∧
        t.lbu.load k = { s.lbu.load k with state := .waiting, waitAge := 0, metFull := false, window := none } ∧
        (∀ j, j ≠ k → t.lbu.load j = u.lbu.load j) ∧
        t.lnk.queue = s.lnk.queue ++ [TxEntry.fresh (.release k (s.lbu.load k).sequence), TxEntry.fresh .status] ∧
        t.vsq = u.vsq ∧ t.rfc = u.rfc) ∧
    (fits k s = true → LoadsSettled s → k = .motor → s.vsq.state = .claiming → s.lnk.queue.length < 5 → s.vsq.queue = [] →
      s.mxd.latch = none →
      ∀ v x, s.vsq.vend = some v → slotAt s v.selection.slot = some x → tooWarm s x = true → v.settled = false →
      ∃ t, exec (.settleWindowExpiry k) s = .next t ∧ t.lbu.motor.state = .none ∧ t.mxd.staging = none ∧ t.mxd.latch = none ∧
        t.vsq.slots = s.vsq.slots ∧ Decided .unavailableTemp .lossOfCold v t ∧
        (∀ g, v.granted = some g → v.payment ≠ .own →
          t.vsq.state = .settling ∧ Awaits (.settle v.selection.creditStation g.tag g.number .notVended) t) ∧
        ∀ g h, v.granted = some g → v.payment = .own → HomeHold g h s → HomeReturned h s t) ∧
    (fits k s = true →
      (k = .compressor → s.rfc.state = .want) → (k = .heater → s.rfc.state = .defrostHeat ∧ s.rfc.heaterMode = some .waiting) →
      (k = .motor →
        (s.vsq.state = .claiming ∧ ∃ v x, s.vsq.vend = some v ∧ slotAt s v.selection.slot = some x ∧ tooWarm s x = false) ∨
          (s.vsq.state = .testing ∧ s.vsq.vend = none ∧
            ∃ r x, s.vsq.test = some r ∧ slotAt s r.slot = some x ∧ r.result = none ∧ r.motorOn = false)) →
      isolated s = false ∧ s.lnk.queue.length < 6 ∨ LoadsSettled s →
      ∃ t, exec (.settleWindowExpiry k) s = .next t ∧ (t.lbu.load k).state = .held ∧
        (t.lbu.load k).amount = (s.lbu.load k).amount ∧
        (∀ j, j ≠ k → TestedBeside k (ownTotal s + (s.lbu.load k).amount) j u t) ∧
        (LoadsSettled s → ∀ j, j ≠ k → t.lbu.load j = u.lbu.load j) ∧
        ownTotal t + otherClaims k t + peerSum t ≤ effectiveLimit t ∧ t.lnk.change = s.lnk.change + 1 ∧ Awaits .status t ∧
        (k = .compressor →
          t.rfc.state = .starting ∧ t.rfc.startTimer = some 0 ∧ t.rfc.onTimer = some 0 ∧ t.vsq = u.vsq) ∧
        (k = .heater → t.rfc.heaterMode = some .heating ∧ t.vsq = u.vsq) ∧
        (k = .motor → ∀ v x, s.vsq.vend = some v → slotAt s v.selection.slot = some x →
          t.vsq.state = .running ∧ t.mxd.staging = some (pairOf v.selection.slot) ∧
            slotAt t v.selection.slot = some { x with offHome := false } ∧
            ∃ y, t.vsq.vend = some y ∧ y.motorOn = true ∧ y.pulses = x.turns + (if x.offHome then 1 else 0) ∧
              y.extraLeft = x.extraTurns ∧ y.jamTimer = some 0 ∧ y.windowArmed = true ∧ y.budgetTimer = none) ∧
        (k = .motor → ∀ r x, s.vsq.vend = none → s.vsq.test = some r → slotAt s r.slot = some x →
          t.vsq.state = .testing ∧ t.mxd.staging = some (pairOf r.slot) ∧ slotAt t r.slot = some { x with offHome := false } ∧
            t.vsq.test =
              some
                { r with
                  motorOn := true, pulses := 1 + (if x.offHome then 1 else 0), jamTimer := some 0, budgetTimer := none })))

/-! ### The bank link (Chapter 10) -/

/-- R164, TABLE 10-1, TABLE 10-2, TABLE 10-3: every frame of at most 12 payload bytes is read back from its bits; and the bits
of the frame that carries a well-formed command from another station stand for exactly that command (a RESTART takes with it
what the straps and the parameter area read as).
What the straps and the area read as is no part of a frame (DESIGN CHOICE, log 7). -/
def Obligations.FramesAreReadBack : Prop :=
  (∀ w : Wire, w.payload.length ≤ 12 → parseWire w.bits = .ok w) ∧
  (∀ (own straps : Station) (area : ParamRead) (i : Instr) (w : Wire), i.wellFormed = true → wireOf i = some w →
    w.source ≠ own → (∀ h a st p, i = .restart h a st p → st = straps ∧ p = area) → commandOf own straps area w.bits = i)

/-- R164, TABLE 10-1: a frame in which any one bit between the start pattern and the acknowledgement slot is inverted is a bad
frame, whichever station it came from.
One whose length field now names fewer bytes than follow is too long, and bad for that (DESIGN CHOICE, log 45). -/
def Obligations.OneWrongBitIsABadFrame : Prop :=
  ∀ (own straps : Station) (area : ParamRead) (w : Wire) (k : Nat), w.payload.length ≤ 12 → k < w.bits.length →
    ∃ c, commandOf own straps area (w.bits.modify k not) = .badFrame c

/-- R164, TABLE 10-4: a bad frame is only counted and not acknowledged; a good frame of a known station of which the part makes
no use (an unknown one, a CLAIM, RELEASE or OBJECT of load kind 0, a SERVICE that is not the tool's, a VEND-STATUS, a
SERVICE-ANSWER, a directed kind for another station) has its source noted, and the unknown ones (all but the last three) are
counted. -/
def Obligations.FramesTheBlocksDoNotUse : Prop :=
  (∀ (c : BadCause) (s : State), s.phase ≠ .heldOff →
    exec (.badFrame c) s =
      .next (refreshOutputs
        { openEvent s with
          lnk := { s.lnk with acknowledged := false }
          ssu := { s.ssu with totals := { s.ssu.totals with badFrames := min 65535 (s.ssu.totals.badFrames + 1) } } })) ∧
  (∀ (src dst : Station) (s : State), Known src s →
    let counted : State := refreshOutputs
      { heardFrom src s with
        lnk := { (heardFrom src s).lnk with unknownFrames := min 65535 (s.lnk.unknownFrames + 1) } }
    exec (.unknownFrame src) s = .next counted ∧
      (∀ cls a q, exec (.claimReceived src dst 0 cls a q) s = .next counted ∧
        exec (.releaseReceived src dst 0 q) s = .next counted ∧ exec (.objectReceived src dst 0 q a) s = .next counted) ∧
      (∀ tag args code st p,
        let h : ServiceHead := ⟨src, dst, tag⟩
        ∀ c ∈ [.stateRead h args, .auditRead h args, .auditClear h args, .setPrice h args, .setSlot h args, .setStock h args,
            .setTube h args, .clearFault h args, .testMotor h args, .forgetPeer h args, .restart h args st p,
            .serviceUnknownCode h code args],
          (src ≠ 15 → exec c s = .next counted) ∧
            (src = 15 → dst ≠ s.ssu.own ∨ dst = 0 → exec c s = .next (refreshOutputs (heardFrom src s)))) ∧
      (∀ tag o p q, exec (.vendStatusReceived src dst tag o p q) s = .next (refreshOutputs (heardFrom src s))) ∧
      (∀ tag r d, exec (.serviceAnswerReceived src dst tag r d) s = .next (refreshOutputs (heardFrom src s))) ∧
      ((dst ≠ s.ssu.own ∨ dst = 0) →
        (∀ n a tag x, exec (.debitReceived src dst n a tag x) s = .next (refreshOutputs (heardFrom src s))) ∧
          (∀ tag n r, exec (.settleReceived src dst tag n r) s = .next (refreshOutputs (heardFrom src s))) ∧
          (∀ tag n k, exec (.selectReceived src dst tag n k) s = .next (refreshOutputs (heardFrom src s))) ∧
          (∀ tag o b v, exec (.debitAnswerReceived src dst tag o b v) s = .next (refreshOutputs (heardFrom src s))) ∧
          (∀ tag o, exec (.settleAnswerReceived src dst tag o) s = .next (refreshOutputs (heardFrom src s))) ∧
          ∀ k q a, k ≠ 0 → exec (.objectReceived src dst k q a) s = .next (refreshOutputs (heardFrom src s))))

/-- R171: a good frame bearing the own number makes the link LISTEN-ONLY: the queue holds one STATUS and nothing else, the
STATUS period and SILENT end, the selection queue loses its records without answers, and the station is ISOLATED. A further
one has no effect. On a station that was not ISOLATED the own load records are decided by the solo rule (R161): those QUEUED and
PROPOSED in class order, then those WAITING; the granted ones are HELD and their owners told, the others wait, the HELD ones run
on, and no RELEASE is queued. On one that was, they stay.
The model's choices: the frame is not acknowledged (R164; DEDUCED, log 36); the departures let the WAITING records be tested
(DEDUCED, log 11). -/
def Obligations.AddressConflictSilencesTheStation : Prop :=
  ∀ s : State, s.phase ≠ .heldOff →
    (s.lnk.state ≠ .listenOnly →
      ∃ t, exec .addressConflict s = .next t ∧ t.lnk.acknowledged = false ∧ t.lnk.state = .listenOnly ∧ t.lnk.queue = [TxEntry.fresh .status] ∧
        t.lnk.periodTimer = none ∧ t.lnk.silentTimer = none ∧ t.vsq.queue = [] ∧ isolated t = true ∧
        t.outputs.inhibit = 0b111111 ∧ t.cca = s.cca ∧ t.cnu = s.cnu ∧ t.lbu.peers = s.lbu.peers ∧
        (isolated s = true → ∀ k, t.lbu.load k = s.lbu.load k) ∧
        (isolated s = false → GrantStartsVend s → SoloDecided s t)) ∧
    (s.lnk.state = .listenOnly →
      exec .addressConflict s = .next (refreshOutputs { openEvent s with lnk := { s.lnk with acknowledged := false } }))

/-- R165, R166, TABLE 10-2, TABLE 10-3: an offer begins the queued frame of the lowest class, the earliest queued of those,
composed at that moment; a lost arbitration leaves every frame standing in its place with no attempt used. Every frame is
composed with its class, this station's number as its source, its kind, its destination and its payload bytes: a STATUS with the
change number, the own total, the configured limit to announce (0 on a station that is UNCONFIGURED, or declares neither matrix
nor cooling) and the eight flags as they stand (R152, R169), and a CREDIT with the session as it stands (R38). -/
def Obligations.FrameIsOfferedByClass : Prop :=
  (∀ (i : Nat) (e : TxEntry) (s : State), s.phase = .running → s.lnk.state ≠ .silent →
    (∀ x ∈ s.lnk.queue, x.onBus = none) → s.lnk.queue[i]? = some e →
    (∀ j x, s.lnk.queue[j]? = some x →
      frameClass e.frame < frameClass x.frame ∨ (frameClass e.frame = frameClass x.frame ∧ i ≤ j)) →
    exec .frameOffer s =
      .next (refreshOutputs
        { openEvent s with
          lnk := { s.lnk with queue := s.lnk.queue.set i { e with onBus := some (compose s e.frame) } } })) ∧
  (∀ s : State,
    exec .lostArbitration s =
      .next (refreshOutputs
        { openEvent s with lnk := { s.lnk with queue := s.lnk.queue.map fun x => { x with onBus := none } } })) ∧
  ∀ (f : Frame) (s : State), ComposedAs s f (compose s f)

/-- R155, R166, R167: a completed attempt takes the frame from the queue and zeroes the failures in a row, and a completed
CLAIM makes its QUEUED record PROPOSED with the settle window from zero; a failed one raises both counts and leaves the frame
in its place, and the third failure of a frame drops it and counts it, the record of a CLAIM so dropped waiting again and being
tested at once; a failed STATUS or CREDIT of which a newer one waits leaves without a report (R168); at the sixteenth failure in
a row the link is SILENT for 1 s, and the own load records of a station that was not ISOLATED are decided by the solo rule (R161),
with a RELEASE for each PROPOSED one that fails. In LISTEN-ONLY the single attempt of R171 ends with its frame gone.
The model's choices: the move of the CLAIM's record from QUEUED to PROPOSED is no departure from the two, so that no other record
is tested for a completed CLAIM (DEDUCED, log 10); neither the frame so superseded, also at its third attempt, nor the one of R171
is counted dropped (DEDUCED, log 13); at the change to ISOLATED the WAITING records are tested too (DEDUCED, log 11). -/
def Obligations.AttemptsEnd : Prop :=
  ∀ (e : TxEntry) (s : State), (s.lnk.queue.find? fun x => x.onBus.isSome) = some e →
    let rest := s.lnk.queue.filter fun x => x.onBus.isNone
    (s.lnk.failures < 16 → (∀ k c a q, e.frame ≠ .claim k c a q) →
      exec (.frameAttemptEnd .completed) s =
        .next (refreshOutputs { openEvent s with lnk := { s.lnk with queue := rest, failures := 0 } })) ∧
    (∀ k c a q, s.lnk.failures < 16 → e.frame = .claim k c a q → (s.lbu.load k).state = .queued →
      (s.lbu.load k).sequence = q →
      exec (.frameAttemptEnd .completed) s =
        .next (refreshOutputs
          (modLoad k (fun l => { l with state := .proposed, window := some 0 })
            { openEvent s with lnk := { s.lnk with queue := rest, failures := 0 } }))) ∧
    (∀ x : AttemptEnd, x ≠ .completed → s.lnk.state = .active →
      ¬ (superseding e.frame = true ∧ Awaits e.frame s) →
      (e.attempts < 2 → s.lnk.failures < 15 →
        exec (.frameAttemptEnd x) s =
          .next (refreshOutputs
            { openEvent s with
              lnk :=
                { s.lnk with
                  failures := s.lnk.failures + 1
                  queue :=
                    s.lnk.queue.map fun y =>
                      { y with attempts := if y.onBus.isSome then y.attempts + 1 else y.attempts, onBus := none } } })) ∧
      (2 ≤ e.attempts → s.lnk.failures < 15 → (∀ k c a q, e.frame ≠ .claim k c a q) →
        exec (.frameAttemptEnd x) s =
          .next (refreshOutputs
            { openEvent s with
              lnk :=
                { s.lnk with
                  failures := s.lnk.failures + 1, queue := rest
                  droppedFrames := min 65535 (s.lnk.droppedFrames + 1) } })) ∧
      (2 ≤ e.attempts → s.lnk.failures < 15 → s.lnk.queue.length ≤ 8 → isolated s = false → ∀ k c a q, e.frame = .claim k c a q →
        (s.lbu.load k).state = .queued → (s.lbu.load k).sequence = q → (s.lbu.load k).heldOff = false →
        (∀ j, (s.lbu.load j).state ≠ .waiting) →
        let l := s.lbu.load k
        let n := s.lbu.claimCounter + 1
        let u : State :=
          { openEvent s with
            lnk :=
              { s.lnk with
                failures := s.lnk.failures + 1, queue := rest, droppedFrames := min 65535 (s.lnk.droppedFrames + 1) } }
        exec (.frameAttemptEnd x) s =
          .next (refreshOutputs
            (if fits k s = false then
              modLoad k (fun l => { l with state := .waiting, waitAge := 0, metFull := false, window := none }) u
            else
              modLoad k
                (fun l => { l with state := .queued, waitAge := 0, sequence := n, metFull := false, window := none })
                { u with
                  lbu := { u.lbu with claimCounter := n }
                  lnk := { u.lnk with queue := rest ++ [TxEntry.fresh (.claim k l.cls l.amount n)] } }))) ∧
      (15 ≤ s.lnk.failures →
        ∃ t, exec (.frameAttemptEnd x) s = .next t ∧ t.lnk.state = .silent ∧ t.lnk.silentTimer = some 0 ∧
          t.lnk.silentEntries = min 65535 (s.lnk.silentEntries + 1) ∧ isolated t = true ∧ t.cca = s.cca ∧ t.cnu = s.cnu ∧
          (isolated s = false → (∀ k c a q, e.frame ≠ .claim k c a q) → GrantStartsVend s → s.lnk.queue.length < 5 →
            SoloDecided s t ∧
              ∀ k, (s.lbu.load k).state = .proposed → (t.lbu.load k).state = .waiting →
                Awaits (.release k (s.lbu.load k).sequence) t))) ∧
    (∀ x : AttemptEnd, x ≠ .completed → s.lnk.state = .active → superseding e.frame = true → Awaits e.frame s →
      s.lnk.failures < 15 →
      exec (.frameAttemptEnd x) s =
        .next (refreshOutputs
          { openEvent s with lnk := { s.lnk with failures := s.lnk.failures + 1, queue := rest } })) ∧
    (∀ x : AttemptEnd, x ≠ .completed → s.lnk.state = .listenOnly →
      exec (.frameAttemptEnd x) s =
        .next (refreshOutputs
          { openEvent s with lnk := { s.lnk with failures := s.lnk.failures + 1, queue := rest } }))

/-- R167, R169, R170: the SILENT second ends in ACTIVE with no failures counted; the STATUS period queues a STATUS and, when it
finds its place, starts again; 2 s without a good frame make the station ISOLATED. At that change the own load records are
decided by the solo rule (R161): those QUEUED and PROPOSED, with a RELEASE for each that fails and is PROPOSED or has its CLAIM
on the bus, then those WAITING. The SILENT second's end on a station that has heard a frame ends ISOLATED (R162): held off is
clear, and each WAITING record is tested by the fit test; the HELD ones stay.
The model's choices: time passed at an expiry, log 1 (DESIGN CHOICE); the CLAIM on the bus and the tests of the WAITING records
at the change to ISOLATED, log 11 (DEDUCED); at the end of ISOLATED held off is cleared on the records that are not WAITING too
(DESIGN CHOICE, log 12). -/
def Obligations.LinkTimersExpire : Prop :=
  (∀ (k : Nat) (s : State), s.lnk.state = .silent → s.lnk.silentTimer = some k →
    ∃ t, exec .silentEnd s = .next t ∧ t.lnk.state = .active ∧ t.lnk.silentTimer = none ∧ t.lnk.failures = 0 ∧
      t.lnk.heard = s.lnk.heard ∧ isolated t = !s.lnk.heard ∧ t.cnu.tubes = s.cnu.tubes ∧
      (s.lnk.heard = true → s.lnk.queue.length < 5 →
        Awaits .status t ∧ let u := elapse (1000 - k) (openEvent s); FitTested (claiming u) u t)) ∧
  (∀ (k : Nat) (s : State), s.lnk.periodTimer = some k →
    let u := elapse (500 - k) (openEvent s)
    (HasRoom .status s →
      ∃ t, exec .statusPeriodExpiry s = .next t ∧ Awaits .status t ∧ t.lnk.periodTimer = some 0 ∧ t.lnk.change = s.lnk.change ∧
        t.lbu = u.lbu ∧ t.cru = u.cru ∧ t.vsq = u.vsq ∧ t.rfc = u.rfc) ∧
    (¬ HasRoom .status s → exec .statusPeriodExpiry s = .next (refreshOutputs u))) ∧
  (∀ s : State, s.lnk.heard = true →
    ∃ t, exec .isolationTimerExpiry s = .next t ∧ t.lnk.heard = false ∧ isolated t = true ∧ t.cnu.tubes = s.cnu.tubes ∧
      (LoadsSettled s → (∀ k, (s.lbu.load k).state ≠ .proposed) → isolated s = false → HasRoom .status s → Awaits .status t) ∧
      (isolated s = false → GrantStartsVend s → s.lnk.queue.length < 5 →
        let u := elapse (2000 - s.lnk.isolationTimer) (openEvent s)
        SoloDecided u t ∧
          ∀ k, (s.lbu.load k).state = .proposed ∨
              ((s.lbu.load k).state = .queued ∧ claimBegun k (s.lbu.load k).sequence s = true) →
            (t.lbu.load k).state = .waiting → Awaits (.release k (s.lbu.load k).sequence) t))

/-! ### Start-up and service (Chapter 11) -/

/-- R172 to R175, R180: the end of the enabling step, from any state: the station number is the straps'; with usable straps and
a good image the station is configured, otherwise UNCONFIGURED, for cause STRAPS before IMAGE. Every parameter is the image's,
clamped to its range (R57, R124, R128), and with no good image its default or lowest value; so are the coin types (R4), each
tube with its clamps, its denomination and its structural faults (R13), and each slot (R93), none on an UNCONFIGURED station.
Every block is at its power-up value, the latch is all-off, the transmit queue empty, the relays open, all six inhibit lines
active, and the audit totals as loaded, or zero.
The model's choices: a good image beside bad straps is applied but for its slots (DEDUCED, log 28); the multi-vend option
without a good image (DESIGN CHOICE, log 4); the count 0 of every tube until the reconciliation (DESIGN CHOICE, log 6), the
average code 0 and the class asked COOL of the cooling record (DESIGN CHOICE, log 3), and that what the two areas read as is an
operand (DESIGN CHOICE, logs 7 and 29). -/
def Obligations.PowerUpBringsThePartUp : Prop :=
  ∀ (straps : Station) (p : ParamRead) (a : AuditRead) (s : State),
    ∃ t, exec (.powerUp straps p a) s = .next t ∧ t.phase = .enabled ∧ t.pending = s.pending ∧ ReadApplied straps p t ∧
      (t.ssu.cause = none ↔ (straps ≠ 0 ∧ straps ≠ 15 ∧ ∃ i k, p = .answered i k k)) ∧
      (t.lnk.state = if straps = 0 ∨ straps = 15 then .listenOnly else .active) ∧
      t.cru.session = State.resetSession ∧ t.cru.payout = none ∧ t.cru.solenoid = none ∧
      t.cru.books = ⟨0, 0, 0, 0, 0, 0⟩ ∧ t.cru.owed = false ∧ t.cru.refresh = none ∧ t.cru.exactChangeOnly = false ∧
      t.cca.entries = [] ∧ t.cca.memory = List.replicate 15 none ∧ t.vsq.state = .idle ∧ t.vsq.vend = none ∧
      t.vsq.queue = [] ∧ t.vsq.tagCounter = 0 ∧ t.mxd.latch = none ∧ t.mxd.staging = none ∧ t.mxd.fault = none ∧
      t.mxd.state = (if t.ssu.cause = none ∧ t.params.matrix = true then .normal else .off) ∧
      t.rfc = (if t.ssu.cause = none ∧ t.params.cooling = true then freshRfc else absentRfc) ∧
      (∀ i, imageTube p i = none → tubeAt t i = none) ∧
      (∀ i r, imageTube p i = some r →
        ∃ u, tubeAt t i = some u ∧ TubeLoaded t i r u ∧ u.count = 0 ∧ (u.state = .normal ∨ u.state = .disabled)) ∧
      (∀ n, slotAt t n = imageSlot straps p n) ∧ t.lbu.peers = [] ∧ (∀ k, (t.lbu.load k).state = .none) ∧ t.lbu.claimCounter = 0 ∧
      t.lnk.queue = [] ∧ t.lnk.change = 0 ∧ isolated t = true ∧ t.cnu.routing = none ∧ t.cnu.headRejects = 0 ∧
      t.outputs.inhibit = 0b111111 ∧ t.outputs.compressorRelay = false ∧ t.outputs.heaterRelay = false ∧
      (∀ x k, a = .replaced x k k → t.ssu.totals = x ∧ t.ssu.auditGood = true) ∧
      (∀ x, a = .kept → s.ssu.auditArea = some x → t.ssu.totals = x ∧ t.ssu.auditGood = true) ∧
      (a = .noAnswer ∨ (a = .kept ∧ s.ssu.auditArea = none) ∨ (∃ x k j, a = .replaced x k j ∧ k ≠ j) →
        t.ssu.totals = State.zeroTotals ∧ t.ssu.auditGood = false)

/-- R12, R18, R40, R175: the reconciliation takes the cashbox state and every input's first level, estimates every tube from
its low mark and its switches, and queues PURGE with its session number, and STATUS; from then on the part runs. -/
def Obligations.ReconciliationStartsThePart : Prop :=
  ∀ (l : InputLevels) (s : State), s.phase = .enabled → s.lnk.queue = [] → s.lnk.state ≠ .listenOnly →
    ∃ t, exec (.powerUpReconciliation l) s = .next t ∧ t.phase = .running ∧ t.cnu.cashboxPresent = l.cashbox ∧
      t.inputs =
        { s.inputs with
          strobe := Filter.standing l.strobe, curtain := Filter.standing l.curtain, door := Filter.standing l.door
          lever := Filter.standing l.lever, cashbox := Filter.standing l.cashbox, exit := Filter.standing l.exit
          empties := l.empties.map Filter.standing, fulls := l.fulls.map Filter.standing } ∧
      t.lnk.queue.length = 2 ∧ Awaits (.purge s.cru.session.number) t ∧ Awaits .status t ∧
      t.lnk.periodTimer = some 0 ∧
      (∀ i u, tubeAt s i = some u → u.state ≠ .disabled → u.lowMark < u.fullMark → u.fullMark ≤ u.capacity →
        let a := if emptyCovered t i then u.lowMark + 1 else u.lowMark
        let b :=
          if fullCovered t i then if a < u.fullMark then u.fullMark else a
          else if u.fullMark ≤ a then u.fullMark - 1 else a
        tubeAt t i = some { u with state := .normal, count := b }) ∧
      t.cru.session = s.cru.session ∧ t.vsq = s.vsq ∧ t.mxd = s.mxd ∧ t.rfc = s.rfc ∧ t.ssu = s.ssu

/-- R176, R177, R60, TABLE 5-7, TABLE 6-6, TABLE 9-4, TABLE 10-5: a RESTART is refused BUSY with nothing changed while money, a
hold, a payout or a vend is in progress; otherwise the part restarts, whatever its link state: SILENT and a LISTEN-ONLY by
conflict end, the queue is emptied, and straps and image are read and applied again. Kept are the session number and version,
the vend tag counter, the change number but for a changed own total, the error counts, the peer entries but for the own number's
(R163), the audit and its save. A tube in use before and after keeps its state and its count within the new capacity; one that
newly comes into use is estimated, and one DISABLED is empty (R19). A slot keeps stock and off-home, its no-drop run is 0 and
the rest is the image's (R93). MOTOR and HEATER are given up, a PROPOSED one with its RELEASE; the COMPRESSOR record is kept
while cooling stays declared, a QUEUED one being tested again (R163). The cooling record is kept with its defrost without heat,
taken up, or made ABSENT (R147). PURGE, STATUS and the DONE answer are queued, and heard also by the tool of a station that was
silenced (with the straps 0 or 15 nothing is queued, the link being LISTEN-ONLY).
The model's choices: the order within the event, log 26 (DEDUCED); a good image beside bad straps, log 28 (DEDUCED); the level
switches of an estimate, log 39 (DEDUCED); the multi-vend option without a good image, log 4, and the average code and class
asked of a cooling record newly ABSENT or taken up, log 3 (DESIGN CHOICE). -/
def Obligations.RestartKeepsAndClears : Prop :=
  ∀ (tag : Byte) (straps : Station) (p : ParamRead) (s : State), Hears 15 s → s.ssu.own ≠ 0 →
    let h : ServiceHead := ⟨15, s.ssu.own, tag⟩
    let usable := straps ≠ 0 ∧ straps ≠ 15
    (restartBusy s = true →
      exec (.restart h [] straps p) s = .next (refreshOutputs (answered tag .busy [] (hearing 15 s)))) ∧
    (restartBusy s = false →
      ∃ t, exec (.restart h [] straps p) s = .next t ∧ ReadApplied straps p t ∧
        t.cru.session.number = s.cru.session.number ∧ t.cru.session.version = s.cru.session.version ∧
        t.cru.session.state = .idle ∧ t.cru.session.balance = 0 ∧ t.cru.session.hold = none ∧
        t.cru.session.lastExpired = none ∧ t.cru.books = ⟨0, 0, 0, 0, 0, 0⟩ ∧ t.cru.owed = false ∧ t.cru.solenoid = none ∧
        t.cca.entries = [] ∧ t.cca.memory = List.replicate 15 none ∧ t.vsq.state = .idle ∧ t.vsq.queue = [] ∧
        t.vsq.tagCounter = s.vsq.tagCounter ∧ t.mxd.latch = none ∧ t.mxd.staging = none ∧ t.mxd.state ≠ .fault ∧
        t.lbu.motor.state = .none ∧ (s.rfc.state ≠ .running → t.lbu.heater.state = .none) ∧ t.ssu.totals = s.ssu.totals ∧
        t.ssu.snapshot = s.ssu.snapshot ∧ t.ssu.saveOwed = s.ssu.saveOwed ∧ t.ssu.auditArea = s.ssu.auditArea ∧
        t.cnu.headRejects = s.cnu.headRejects ∧ t.cnu.cashboxPresent = s.cnu.cashboxPresent ∧ t.cnu.routing = none ∧
        t.cru.strayExits = s.cru.strayExits ∧
        (t.ssu.cause = none ↔ (straps ≠ 0 ∧ straps ≠ 15 ∧ ∃ i k, p = .answered i k k)) ∧
        -- the link, TABLE 10-5
        t.lnk.failures = 0 ∧ t.lnk.silentTimer = none ∧ t.lnk.unknownFrames = s.lnk.unknownFrames ∧
        t.lnk.droppedFrames = s.lnk.droppedFrames ∧ t.lnk.silentEntries = s.lnk.silentEntries ∧ t.lnk.heard = true ∧
        t.lnk.isolationTimer = 0 ∧ (∀ e ∈ t.lnk.queue, e.attempts = 0 ∧ e.onBus = none) ∧
        (¬ usable → t.lnk.state = .listenOnly ∧ t.lnk.queue = [] ∧ t.lnk.periodTimer = none) ∧
        (usable →
          t.lnk.state = .active ∧ isolated t = false ∧ t.lnk.queue.length ≤ 8 ∧ t.lnk.periodTimer = some 0 ∧
            Awaits (.purge s.cru.session.number) t ∧ Awaits .status t ∧
            Awaits
              (.serviceAnswer 15 tag .done
                [match p with
                  | .answered _ stored computed => if stored = computed then 0 else 1
                  | .noAnswer => 2]) t ∧
            (∀ k, k ≠ .compressor → (s.lbu.load k).state = .proposed → Awaits (.release k (s.lbu.load k).sequence) t)) ∧
        (usable → (∀ k, (s.lbu.load k).state = .none) → s.rfc.state = .absent →
          t.lnk.queue.length = 3 ∧
            t.lnk.change = (if t.params.baseLoad = s.params.baseLoad then s.lnk.change else s.lnk.change + 1)) ∧
        -- tubes and slots, R19 and R93
        (∀ i, imageTube p i = none → tubeAt t i = none) ∧
        (∀ i r, imageTube p i = some r →
          ∃ u, tubeAt t i = some u ∧ TubeLoaded t i r u ∧
            if u.state = .disabled then u.count = 0
            else
              (∀ y, tubeAt s i = some y → y.state ≠ .disabled → u.state = y.state ∧ u.count = min y.count u.capacity) ∧
                ((∀ y, tubeAt s i = some y → y.state = .disabled) →
                  u.state = .normal ∧ u.count = estimatedCount (emptyCovered s i) (fullCovered s i) u)) ∧
        (∀ n, imageSlot straps p n = none → slotAt t n = none) ∧
        (∀ n x, imageSlot straps p n = some x →
          (slotAt s n = none → slotAt t n = some x) ∧
            ∀ y, slotAt s n = some y → slotAt t n = some { x with stock := y.stock, offHome := y.offHome }) ∧
        -- the load budget, R163
        t.lbu.peers = (hearing 15 s).lbu.peers.filter (fun e => decide (e.station ≠ straps)) ∧
        t.lbu.ignored = s.lbu.ignored ∧ t.lbu.objectSum = s.lbu.objectSum ∧
        let cools := t.ssu.cause = none ∧ t.params.cooling = true
        (usable → cools → s.rfc.state ≠ .absent → (s.rfc.state = .running → t.rfc.state = .running) →
          let l := s.lbu.compressor
          let m := t.lbu.compressor
          (l.state = .held → m.state = .held ∧ m.amount = l.amount) ∧
            (l.state = .proposed →
              m.state = .proposed ∧ m.amount = l.amount ∧ m.sequence = l.sequence ∧ m.window = l.window) ∧
            (l.state = .waiting ∨ l.state = .queued →
              (m.state = .waiting ∨ (m.state = .queued ∧ Awaits (.claim .compressor m.cls m.amount m.sequence) t)) ∧
                m.cls = l.cls ∧ m.amount = l.amount)) ∧
        -- cooling, R147
        (s.rfc.state ≠ .absent → cools →
          t.rfc.cabinet = s.rfc.cabinet ∧ t.rfc.evaporator = s.rfc.evaporator ∧ (s.rfc.hotHold = true → t.rfc.hotHold = true) ∧
            (t.rfc.sellableCold = true ↔ cabinetCold t = true ∧ t.rfc.hotHold = false) ∧
            (s.rfc.state ≠ .running →
              t.rfc.accumulator = s.rfc.accumulator ∧
                (t.rfc.defrostDue = true ↔ s.rfc.defrostDue = true ∨ t.params.defrostInterval ≤ s.rfc.accumulator)) ∧
            (∀ n, s.rfc.state = .offLockout → s.rfc.lockoutTimer = some n →
              if n < t.params.minOff then t.rfc.state = .offLockout ∧ t.rfc.lockoutTimer = some n
              else t.rfc.state = .off ∨ t.rfc.state = .want) ∧
            (s.rfc.state = .defrostHeat →
              (t.rfc.state = .defrostHeat ∧ t.rfc.heaterMode = s.rfc.heaterMode.map fun _ => .offCycle) ∨
                (t.rfc.state = .defrostDrip ∧ t.rfc.dripTimer = some 0))) ∧
        (¬ cools → t.rfc = absentRfc ∨ s.rfc.state = .absent ∧ t.rfc = s.rfc) ∧
        (¬ cools → s.rfc.state ≠ .absent → t.lbu.compressor.state = .none) ∧
        (s.rfc.state = .absent → cools → t.rfc = freshRfc))

/-- R177, R178: the tool's reads change nothing and are answered: AUDIT-READ with the four bytes of the total its selector
names, STATE-READ with the ten bytes of one part of a present record, as it stands once the tool's frame has been heard. A
request with an unknown code, an argument too many or too few, or an argument out of range is answered BAD-ARGUMENT, and an
absent record NOT-PRESENT. An answer that finds the transmit queue full is lost, and in LISTEN-ONLY it is refused by the queue;
nothing else is different there.
The bytes of STATE-READ rest on log 17 (DESIGN CHOICE). -/
def Obligations.ToolReadsAreAnswered : Prop :=
  ∀ (tag : Byte) (s : State), Hears 15 s → s.ssu.own ≠ 0 →
    let h : ServiceHead := ⟨15, s.ssu.own, tag⟩
    let answer (r : ServiceResult) (d : List Byte) : State := refreshOutputs (answered tag r d (hearing 15 s))
    let totals : List Nat :=
      let a := s.ssu.totals
      [a.credited, a.toTubes, a.toCashbox, a.sold, a.paidOut, a.forfeited, a.overpay, a.shortPays, a.unpaidVends,
        a.unsettledHolds, a.spuriousDrops, a.jams, a.unstoredCoins, a.badFrames, a.vendSum]
    (∀ sel : Byte, sel.toNat ≤ 79 →
      exec (.auditRead h [sel]) s =
        .next (answer .done (bytesOf 4 (s.ssu.totals.vendCounts[sel.toNat]?.getD 0)))) ∧
    (∀ (sel : Byte) (n : Nat), 100 ≤ sel.toNat → totals[sel.toNat - 100]? = some n →
      exec (.auditRead h [sel]) s = .next (answer .done (bytesOf 4 n))) ∧
    (∀ sel : Byte, (79 < sel.toNat ∧ sel.toNat < 100) ∨ 114 < sel.toNat →
      exec (.auditRead h [sel]) s = .next (answer .badArgument [])) ∧
    (∀ args, args.length ≠ 1 → exec (.auditRead h args) s = .next (answer .badArgument [])) ∧
    (∀ (area index part : Byte) (bytes : List Byte), area.toNat ≤ 13 →
      recordBytes area.toNat index.toNat (hearing 15 s) = some bytes → 10 * part.toNat < bytes.length →
      exec (.stateRead h [area, index, part]) s =
        .next (answer .done ((bytes.drop (10 * part.toNat)).take 10))) ∧
    (∀ (area index part : Byte) (bytes : List Byte), area.toNat ≤ 13 →
      recordBytes area.toNat index.toNat (hearing 15 s) = some bytes → bytes.length ≤ 10 * part.toNat →
      exec (.stateRead h [area, index, part]) s = .next (answer .badArgument [])) ∧
    (∀ area index part : Byte, area.toNat ≤ 13 → recordBytes area.toNat index.toNat (hearing 15 s) = none →
      exec (.stateRead h [area, index, part]) s = .next (answer .notPresent [])) ∧
    (∀ area index part : Byte, 13 < area.toNat →
      exec (.stateRead h [area, index, part]) s = .next (answer .badArgument [])) ∧
    (∀ args, args.length ≠ 3 → exec (.stateRead h args) s = .next (answer .badArgument [])) ∧
    (∀ code args, exec (.serviceUnknownCode h code args) s = .next (answer .badArgument [])) ∧
    ∀ args : List Byte,
      (args ≠ [] →
        exec (.auditClear h args) s = .next (answer .badArgument []) ∧
          ∀ st p, exec (.restart h args st p) s = .next (answer .badArgument [])) ∧
      (args.length ≠ 3 →
        exec (.setPrice h args) s = .next (answer .badArgument []) ∧
          exec (.setStock h args) s = .next (answer .badArgument [])) ∧
      (args.length ≠ 7 → exec (.setSlot h args) s = .next (answer .badArgument [])) ∧
      (args.length ≠ 2 →
        exec (.setTube h args) s = .next (answer .badArgument []) ∧
          exec (.clearFault h args) s = .next (answer .badArgument [])) ∧
      (args.length ≠ 1 →
        exec (.testMotor h args) s = .next (answer .badArgument []) ∧
          exec (.forgetPeer h args) s = .next (answer .badArgument []))

/-- R95, R177, TABLE 6-2: SET-PRICE, SET-SLOT and SET-STOCK on a present slot set its fields, clamped, with the state and
no-drop run effects, and change no other slot; an absent slot is answered NOT-PRESENT, and a flag other than 0 and 1
BAD-ARGUMENT. With the transmit queue full, and in LISTEN-ONLY, the request acts all the same and its answer is lost. -/
def Obligations.SlotRequestsSetTheRecord : Prop :=
  ∀ (tag slot : Byte) (s : State), Hears 15 s → s.ssu.own ≠ 0 →
    let h : ServiceHead := ⟨15, s.ssu.own, tag⟩
    let answer (r : ServiceResult) (t : State) : State := refreshOutputs (answered tag r [] t)
    let here := hearing 15 s
    let present := slot.toNat ≤ 79 ∧ slotAt s slot.toNat ≠ none
    (∀ p1 p0 : Byte,
      exec (.setPrice h [slot, p1, p0]) s =
        .next
          (if present then
            answer .done (modSlot slot.toNat (fun x => { x with price := min 9999 (256 * p1.toNat + p0.toNat) }) here)
          else answer .notPresent here)) ∧
    (∀ p1 p0 turns extra chilled enable : Byte,
      exec (.setSlot h [slot, p1, p0, turns, extra, chilled, enable]) s =
        .next
          (if 1 < chilled.toNat ∨ 1 < enable.toNat then answer .badArgument here
          else if present then
            answer .done
              (modSlot slot.toNat
                (fun x =>
                  { x with
                    price := min 9999 (256 * p1.toNat + p0.toNat), turns := max 1 (min 4 turns.toNat)
                    extraTurns := min 2 extra.toNat, chilled := chilled == 1
                    state := if enable = 1 then .ready else .disabled
                    noDropRun := if enable = 1 then 0 else x.noDropRun }) here)
          else answer .notPresent here)) ∧
    (∀ stock flag : Byte,
      exec (.setStock h [slot, stock, flag]) s =
        .next
          (if 1 < flag.toNat then answer .badArgument here
          else if present then
            answer .done
              (modSlot slot.toNat
                (fun x =>
                  if flag = 1 ∧ stock = 0 then
                    { x with stock := some 0, state := if x.state = .ready then .soldOut else x.state }
                  else
                    { x with
                      stock := if flag = 1 then some stock.toNat else none, noDropRun := 0
                      state := if x.state = .soldOut then .ready else x.state }) here)
          else answer .notPresent here))

/-- R20, R123, R144, R177, R179, R181: AUDIT-CLEAR zeroes every total and asks a save; SET-TUBE needs the open door and sets a
count within the capacity; CLEAR-FAULT returns a JAMMED slot, the drive fault, HOT-HOLD or a DRY tube, and answers whether it
changed anything; an absent tube or slot is answered NOT-PRESENT. A change of the exact-change-only flag that a tube brings
queues a STATUS (R29). With the transmit queue full, and in LISTEN-ONLY, the request acts all the same, its answer is lost and
the queued frames stay the ones they were. -/
def Obligations.ServiceRequestsActAndAnswer : Prop :=
  ∀ (tag : Byte) (s : State), Hears 15 s → s.ssu.own ≠ 0 →
    let h : ServiceHead := ⟨15, s.ssu.own, tag⟩
    let here := hearing 15 s
    -- the answer reaches the queue where it has a place; where it has none the queue holds the frames it held
    let told (data : List Byte) (t : State) : Prop :=
      (s.lnk.state ≠ .listenOnly → s.lnk.queue.length < 7 → Awaits (.serviceAnswer 15 tag .done data) t) ∧
        (s.lnk.state = .listenOnly ∨ 8 ≤ s.lnk.queue.length →
          (t.lnk.queue.map fun e => e.frame) = s.lnk.queue.map fun e => e.frame)
    (exec (.auditClear h []) s =
      .next (refreshOutputs (answered tag .done []
        { here with
          ssu :=
            if s.ssu.snapshot = none then
              { s.ssu with totals := State.zeroTotals, snapshot := some State.zeroTotals, auditArea := none }
            else { s.ssu with totals := State.zeroTotals, saveOwed := true } }))) ∧
    (∀ (i n : Byte) (u : Tube), 1 ≤ i.toNat → i.toNat ≤ 5 → tubeAt s i.toNat = some u →
      (u.state = .disabled → u.count = 0) →
      (doorOpen s = false →
        exec (.setTube h [i, n]) s = .next (refreshOutputs (answered tag .needsDoor [] here))) ∧
      (doorOpen s = true →
        ∃ t, exec (.setTube h [i, n]) s = .next t ∧ told [] t ∧ ExactAnnounced s t ∧
          tubeAt t i.toNat =
            some
              { u with
                count := if u.state = .disabled then u.count else min n.toNat u.capacity
                state := if u.state = .dry then .normal else u.state } ∧
          (∀ j, j ≠ i.toNat → tubeAt t j = tubeAt s j) ∧ t.cru.session = s.cru.session ∧ t.vsq = s.vsq) ∧
      ∃ t, exec (.clearFault h [3, i]) s = .next t ∧ told [if u.state = .dry then 1 else 0] t ∧ ExactAnnounced s t ∧
        tubeAt t i.toNat = some { u with state := if u.state = .dry then .normal else u.state }) ∧
    (∀ i n : Byte,
      (i = 0 ∨ 5 < i.toNat ∨ tubeAt s i.toNat = none →
        exec (.setTube h [i, n]) s = .next (refreshOutputs (answered tag .notPresent [] here)) ∧
          exec (.clearFault h [3, i]) s = .next (refreshOutputs (answered tag .notPresent [] here))) ∧
      (79 < n.toNat ∨ slotAt s n.toNat = none →
        exec (.clearFault h [0, n]) s = .next (refreshOutputs (answered tag .notPresent [] here)))) ∧
    (∀ (n : Byte) (x : Slot), n.toNat ≤ 79 → slotAt s n.toNat = some x →
      exec (.clearFault h [0, n]) s =
        .next (refreshOutputs (answered tag .done [if x.state = .jammed then 1 else 0]
          (modSlot n.toNat
            (fun y =>
              if y.state = .jammed then { y with state := if y.stock = some 0 then .soldOut else .ready } else y) here)))) ∧
    (∀ n : Byte,
      (s.mxd.state = .fault →
        ∃ t, exec (.clearFault h [1, n]) s = .next t ∧ t.mxd.state = .normal ∧ t.mxd.fault = none ∧ t.mxd.hold = 1 ∧
          t.mxd.staging = none ∧ (HasRoom .status s → Awaits .status t) ∧ told [1] t) ∧
      (s.mxd.state ≠ .fault →
        exec (.clearFault h [1, n]) s = .next (refreshOutputs (answered tag .done [0] here))) ∧
      (s.rfc.hotHold = true →
        ∃ t, exec (.clearFault h [2, n]) s = .next t ∧ t.rfc.hotHold = false ∧ t.rfc.sellableCold = cabinetCold s ∧
          t.rfc.warmTimer = (if cabinetCold s = true then none else some 0) ∧ (HasRoom .status s → Awaits .status t) ∧
          told [1] t) ∧
      (s.rfc.hotHold = false →
        exec (.clearFault h [2, n]) s = .next (refreshOutputs (answered tag .done [0] here))) ∧
      ∀ x : Byte, 3 < x.toNat →
        exec (.clearFault h [x, n]) s = .next (refreshOutputs (answered tag .badArgument [] here)))

/-- R115, R116, R149, R161, R177: TEST-MOTOR with its checks passed enters TESTING with the budget timer from zero and asks for
the MOTOR load, unanswered until its end, with the test of R152 and R153: QUEUED with its CLAIM exactly when it fits and the
queue has a place, and otherwise WAITING from zero; a failed check is answered. On a station whose link is SILENT or
LISTEN-ONLY, and which is therefore ISOLATED, the solo rule decides the load at once: within the allowance it is HELD and the
motor started, and otherwise it waits. In the drive's fault state no motor starts and the test ends at once, answered DONE with
the result DRIVE-FAULT; otherwise with a chilled slot whose cabinet is not sellable cold, UNAVAILABLE-TEMP. FORGET-PEER removes
the entry it names with its claims, and no other, and is answered DONE, or NOT-PRESENT where there is none. With the transmit
queue full, and in LISTEN-ONLY, the request acts all the same, and what answers it is lost.
The model's choice: the STATUS of the end of ISOLATED comes before the CLAIM (DEDUCED, log 14). -/
def Obligations.MotorTestAndForgottenPeer : Prop :=
  ∀ (tag b : Byte) (s : State), Hears 15 s → s.ssu.own ≠ 0 →
    let h : ServiceHead := ⟨15, s.ssu.own, tag⟩
    let here := hearing 15 s
    let answer (r : ServiceResult) : State := refreshOutputs (answered tag r [] here)
    ((79 < b.toNat ∨ slotAt s b.toNat = none ∨ s.params.matrix = false) →
      exec (.testMotor h [b]) s = .next (answer .notPresent)) ∧
    (∀ x, b.toNat ≤ 79 → slotAt s b.toNat = some x → s.params.matrix = true →
      (doorOpen s = false → exec (.testMotor h [b]) s = .next (answer .needsDoor)) ∧
      (doorOpen s = true → s.vsq.state ≠ .idle → exec (.testMotor h [b]) s = .next (answer .busy)) ∧
      (doorOpen s = true → s.vsq.state = .idle → s.mxd.state = .fault ∨ tooWarm s x = true → s.lbu.motor.state = .none →
        s.vsq.queue = [] →
        exec (.testMotor h [b]) s =
          .next (refreshOutputs (answered tag .done [if s.mxd.state = .fault then 4 else 5]
            { here with mxd := { s.mxd with staging := none }, vsq := { s.vsq with test := none } }))) ∧
      (doorOpen s = true → s.vsq.state = .idle → s.mxd.state ≠ .fault → tooWarm s x = false → s.lbu.motor.state = .none →
        ∃ t, exec (.testMotor h [b]) s = .next t ∧ t.vsq.state = .testing ∧
          RequestTested .motor .vend s.params.motorAmount (here.lnk.queue.length < 8) here t ∧
          (∀ e ∈ t.lnk.queue, ∀ d g r x, e.frame = .serviceAnswer d g r x → ∃ y ∈ s.lnk.queue, y.frame = e.frame) ∧
          let asked : Test := ⟨b.toNat, tag, 15, 0, false, some 0, none, none⟩
          if s.lnk.state = .active ∨ soloAllowance s < ownTotal s + s.params.motorAmount then
            t.vsq.test = some asked ∧ t.vsq.slots = s.vsq.slots ∧ t.mxd = s.mxd ∧
              (t.lbu.motor.state = .waiting ∨ (s.lnk.state = .active ∧ t.lbu.motor.state = .queued))
          else
            t.lbu.motor.state = .held ∧ t.mxd.staging = some (pairOf b.toNat) ∧
              slotAt t b.toNat = some { x with offHome := false } ∧ (∀ n, n ≠ b.toNat → slotAt t n = slotAt s n) ∧
              t.vsq.test =
                some
                  { asked with
                    motorOn := true, pulses := 1 + (if x.offHome then 1 else 0), jamTimer := some 0, budgetTimer := none })) ∧
    ((15 < b.toNat ∨ ∀ e ∈ here.lbu.peers, e.station.toNat ≠ b.toNat) →
      exec (.forgetPeer h [b]) s = .next (answer .notPresent)) ∧
    ((∃ e ∈ here.lbu.peers, e.station.toNat = b.toNat) →
      ∃ t, exec (.forgetPeer h [b]) s = .next t ∧
        t.lbu.peers = (here.lbu.peers.filter fun e => decide (e.station.toNat ≠ b.toNat)) ∧
        (s.lnk.state ≠ .listenOnly → s.lnk.queue.length < 4 → Awaits (.serviceAnswer 15 tag .done []) t) ∧
        (s.lnk.state = .listenOnly → ∀ e ∈ t.lnk.queue, e ∈ s.lnk.queue) ∧
        (8 ≤ s.lnk.queue.length → LoadsSettled s → (t.lnk.queue.map fun e => e.frame) = s.lnk.queue.map fun e => e.frame))
end

