-- ==== Sys2Proof/Laws/State.lean ====
section
/-! SUPPORT. One lemma per field per update of the state, each true by `rfl`, so that no later proof unfolds a record update. -/

namespace Sys2Proof.Machine.Laws

/-! ### `State.modInputs` -/

@[simp] theorem modInputs_pending (g : Inputs → Inputs) (s : State) : (s.modInputs g).pending = s.pending := rfl
@[simp] theorem modInputs_due (g : Inputs → Inputs) (s : State) : (s.modInputs g).due = s.due := rfl
@[simp] theorem modInputs_phase (g : Inputs → Inputs) (s : State) : (s.modInputs g).phase = s.phase := rfl
@[simp] theorem modInputs_inputs (g : Inputs → Inputs) (s : State) : (s.modInputs g).inputs = g s.inputs := rfl
@[simp] theorem modInputs_outputs (g : Inputs → Inputs) (s : State) : (s.modInputs g).outputs = s.outputs := rfl
@[simp] theorem modInputs_params (g : Inputs → Inputs) (s : State) : (s.modInputs g).params = s.params := rfl
@[simp] theorem modInputs_cnu (g : Inputs → Inputs) (s : State) : (s.modInputs g).cnu = s.cnu := rfl
@[simp] theorem modInputs_cru (g : Inputs → Inputs) (s : State) : (s.modInputs g).cru = s.cru := rfl
@[simp] theorem modInputs_cca (g : Inputs → Inputs) (s : State) : (s.modInputs g).cca = s.cca := rfl
@[simp] theorem modInputs_vsq (g : Inputs → Inputs) (s : State) : (s.modInputs g).vsq = s.vsq := rfl
@[simp] theorem modInputs_mxd (g : Inputs → Inputs) (s : State) : (s.modInputs g).mxd = s.mxd := rfl
@[simp] theorem modInputs_rfc (g : Inputs → Inputs) (s : State) : (s.modInputs g).rfc = s.rfc := rfl
@[simp] theorem modInputs_lbu (g : Inputs → Inputs) (s : State) : (s.modInputs g).lbu = s.lbu := rfl
@[simp] theorem modInputs_lnk (g : Inputs → Inputs) (s : State) : (s.modInputs g).lnk = s.lnk := rfl
@[simp] theorem modInputs_ssu (g : Inputs → Inputs) (s : State) : (s.modInputs g).ssu = s.ssu := rfl

/-! ### `State.modCnu` -/

@[simp] theorem modCnu_pending (g : Cnu → Cnu) (s : State) : (s.modCnu g).pending = s.pending := rfl
@[simp] theorem modCnu_due (g : Cnu → Cnu) (s : State) : (s.modCnu g).due = s.due := rfl
@[simp] theorem modCnu_phase (g : Cnu → Cnu) (s : State) : (s.modCnu g).phase = s.phase := rfl
@[simp] theorem modCnu_inputs (g : Cnu → Cnu) (s : State) : (s.modCnu g).inputs = s.inputs := rfl
@[simp] theorem modCnu_outputs (g : Cnu → Cnu) (s : State) : (s.modCnu g).outputs = s.outputs := rfl
@[simp] theorem modCnu_params (g : Cnu → Cnu) (s : State) : (s.modCnu g).params = s.params := rfl
@[simp] theorem modCnu_cnu (g : Cnu → Cnu) (s : State) : (s.modCnu g).cnu = g s.cnu := rfl
@[simp] theorem modCnu_cru (g : Cnu → Cnu) (s : State) : (s.modCnu g).cru = s.cru := rfl
@[simp] theorem modCnu_cca (g : Cnu → Cnu) (s : State) : (s.modCnu g).cca = s.cca := rfl
@[simp] theorem modCnu_vsq (g : Cnu → Cnu) (s : State) : (s.modCnu g).vsq = s.vsq := rfl
@[simp] theorem modCnu_mxd (g : Cnu → Cnu) (s : State) : (s.modCnu g).mxd = s.mxd := rfl
@[simp] theorem modCnu_rfc (g : Cnu → Cnu) (s : State) : (s.modCnu g).rfc = s.rfc := rfl
@[simp] theorem modCnu_lbu (g : Cnu → Cnu) (s : State) : (s.modCnu g).lbu = s.lbu := rfl
@[simp] theorem modCnu_lnk (g : Cnu → Cnu) (s : State) : (s.modCnu g).lnk = s.lnk := rfl
@[simp] theorem modCnu_ssu (g : Cnu → Cnu) (s : State) : (s.modCnu g).ssu = s.ssu := rfl

/-! ### `State.modCru` -/

@[simp] theorem modCru_pending (g : Cru → Cru) (s : State) : (s.modCru g).pending = s.pending := rfl
@[simp] theorem modCru_due (g : Cru → Cru) (s : State) : (s.modCru g).due = s.due := rfl
@[simp] theorem modCru_phase (g : Cru → Cru) (s : State) : (s.modCru g).phase = s.phase := rfl
@[simp] theorem modCru_inputs (g : Cru → Cru) (s : State) : (s.modCru g).inputs = s.inputs := rfl
@[simp] theorem modCru_outputs (g : Cru → Cru) (s : State) : (s.modCru g).outputs = s.outputs := rfl
@[simp] theorem modCru_params (g : Cru → Cru) (s : State) : (s.modCru g).params = s.params := rfl
@[simp] theorem modCru_cnu (g : Cru → Cru) (s : State) : (s.modCru g).cnu = s.cnu := rfl
@[simp] theorem modCru_cru (g : Cru → Cru) (s : State) : (s.modCru g).cru = g s.cru := rfl
@[simp] theorem modCru_cca (g : Cru → Cru) (s : State) : (s.modCru g).cca = s.cca := rfl
@[simp] theorem modCru_vsq (g : Cru → Cru) (s : State) : (s.modCru g).vsq = s.vsq := rfl
@[simp] theorem modCru_mxd (g : Cru → Cru) (s : State) : (s.modCru g).mxd = s.mxd := rfl
@[simp] theorem modCru_rfc (g : Cru → Cru) (s : State) : (s.modCru g).rfc = s.rfc := rfl
@[simp] theorem modCru_lbu (g : Cru → Cru) (s : State) : (s.modCru g).lbu = s.lbu := rfl
@[simp] theorem modCru_lnk (g : Cru → Cru) (s : State) : (s.modCru g).lnk = s.lnk := rfl
@[simp] theorem modCru_ssu (g : Cru → Cru) (s : State) : (s.modCru g).ssu = s.ssu := rfl

/-! ### `State.modCca` -/

@[simp] theorem modCca_pending (g : Cca → Cca) (s : State) : (s.modCca g).pending = s.pending := rfl
@[simp] theorem modCca_due (g : Cca → Cca) (s : State) : (s.modCca g).due = s.due := rfl
@[simp] theorem modCca_phase (g : Cca → Cca) (s : State) : (s.modCca g).phase = s.phase := rfl
@[simp] theorem modCca_inputs (g : Cca → Cca) (s : State) : (s.modCca g).inputs = s.inputs := rfl
@[simp] theorem modCca_outputs (g : Cca → Cca) (s : State) : (s.modCca g).outputs = s.outputs := rfl
@[simp] theorem modCca_params (g : Cca → Cca) (s : State) : (s.modCca g).params = s.params := rfl
@[simp] theorem modCca_cnu (g : Cca → Cca) (s : State) : (s.modCca g).cnu = s.cnu := rfl
@[simp] theorem modCca_cru (g : Cca → Cca) (s : State) : (s.modCca g).cru = s.cru := rfl
@[simp] theorem modCca_cca (g : Cca → Cca) (s : State) : (s.modCca g).cca = g s.cca := rfl
@[simp] theorem modCca_vsq (g : Cca → Cca) (s : State) : (s.modCca g).vsq = s.vsq := rfl
@[simp] theorem modCca_mxd (g : Cca → Cca) (s : State) : (s.modCca g).mxd = s.mxd := rfl
@[simp] theorem modCca_rfc (g : Cca → Cca) (s : State) : (s.modCca g).rfc = s.rfc := rfl
@[simp] theorem modCca_lbu (g : Cca → Cca) (s : State) : (s.modCca g).lbu = s.lbu := rfl
@[simp] theorem modCca_lnk (g : Cca → Cca) (s : State) : (s.modCca g).lnk = s.lnk := rfl
@[simp] theorem modCca_ssu (g : Cca → Cca) (s : State) : (s.modCca g).ssu = s.ssu := rfl

/-! ### `State.modVsq` -/

@[simp] theorem modVsq_pending (g : Vsq → Vsq) (s : State) : (s.modVsq g).pending = s.pending := rfl
@[simp] theorem modVsq_due (g : Vsq → Vsq) (s : State) : (s.modVsq g).due = s.due := rfl
@[simp] theorem modVsq_phase (g : Vsq → Vsq) (s : State) : (s.modVsq g).phase = s.phase := rfl
@[simp] theorem modVsq_inputs (g : Vsq → Vsq) (s : State) : (s.modVsq g).inputs = s.inputs := rfl
@[simp] theorem modVsq_outputs (g : Vsq → Vsq) (s : State) : (s.modVsq g).outputs = s.outputs := rfl
@[simp] theorem modVsq_params (g : Vsq → Vsq) (s : State) : (s.modVsq g).params = s.params := rfl
@[simp] theorem modVsq_cnu (g : Vsq → Vsq) (s : State) : (s.modVsq g).cnu = s.cnu := rfl
@[simp] theorem modVsq_cru (g : Vsq → Vsq) (s : State) : (s.modVsq g).cru = s.cru := rfl
@[simp] theorem modVsq_cca (g : Vsq → Vsq) (s : State) : (s.modVsq g).cca = s.cca := rfl
@[simp] theorem modVsq_vsq (g : Vsq → Vsq) (s : State) : (s.modVsq g).vsq = g s.vsq := rfl
@[simp] theorem modVsq_mxd (g : Vsq → Vsq) (s : State) : (s.modVsq g).mxd = s.mxd := rfl
@[simp] theorem modVsq_rfc (g : Vsq → Vsq) (s : State) : (s.modVsq g).rfc = s.rfc := rfl
@[simp] theorem modVsq_lbu (g : Vsq → Vsq) (s : State) : (s.modVsq g).lbu = s.lbu := rfl
@[simp] theorem modVsq_lnk (g : Vsq → Vsq) (s : State) : (s.modVsq g).lnk = s.lnk := rfl
@[simp] theorem modVsq_ssu (g : Vsq → Vsq) (s : State) : (s.modVsq g).ssu = s.ssu := rfl

/-! ### `State.modMxd` -/

@[simp] theorem modMxd_pending (g : Mxd → Mxd) (s : State) : (s.modMxd g).pending = s.pending := rfl
@[simp] theorem modMxd_due (g : Mxd → Mxd) (s : State) : (s.modMxd g).due = s.due := rfl
@[simp] theorem modMxd_phase (g : Mxd → Mxd) (s : State) : (s.modMxd g).phase = s.phase := rfl
@[simp] theorem modMxd_inputs (g : Mxd → Mxd) (s : State) : (s.modMxd g).inputs = s.inputs := rfl
@[simp] theorem modMxd_outputs (g : Mxd → Mxd) (s : State) : (s.modMxd g).outputs = s.outputs := rfl
@[simp] theorem modMxd_params (g : Mxd → Mxd) (s : State) : (s.modMxd g).params = s.params := rfl
@[simp] theorem modMxd_cnu (g : Mxd → Mxd) (s : State) : (s.modMxd g).cnu = s.cnu := rfl
@[simp] theorem modMxd_cru (g : Mxd → Mxd) (s : State) : (s.modMxd g).cru = s.cru := rfl
@[simp] theorem modMxd_cca (g : Mxd → Mxd) (s : State) : (s.modMxd g).cca = s.cca := rfl
@[simp] theorem modMxd_vsq (g : Mxd → Mxd) (s : State) : (s.modMxd g).vsq = s.vsq := rfl
@[simp] theorem modMxd_mxd (g : Mxd → Mxd) (s : State) : (s.modMxd g).mxd = g s.mxd := rfl
@[simp] theorem modMxd_rfc (g : Mxd → Mxd) (s : State) : (s.modMxd g).rfc = s.rfc := rfl
@[simp] theorem modMxd_lbu (g : Mxd → Mxd) (s : State) : (s.modMxd g).lbu = s.lbu := rfl
@[simp] theorem modMxd_lnk (g : Mxd → Mxd) (s : State) : (s.modMxd g).lnk = s.lnk := rfl
@[simp] theorem modMxd_ssu (g : Mxd → Mxd) (s : State) : (s.modMxd g).ssu = s.ssu := rfl

/-! ### `State.modRfc` -/

@[simp] theorem modRfc_pending (g : Rfc → Rfc) (s : State) : (s.modRfc g).pending = s.pending := rfl
@[simp] theorem modRfc_due (g : Rfc → Rfc) (s : State) : (s.modRfc g).due = s.due := rfl
@[simp] theorem modRfc_phase (g : Rfc → Rfc) (s : State) : (s.modRfc g).phase = s.phase := rfl
@[simp] theorem modRfc_inputs (g : Rfc → Rfc) (s : State) : (s.modRfc g).inputs = s.inputs := rfl
@[simp] theorem modRfc_outputs (g : Rfc → Rfc) (s : State) : (s.modRfc g).outputs = s.outputs := rfl
@[simp] theorem modRfc_params (g : Rfc → Rfc) (s : State) : (s.modRfc g).params = s.params := rfl
@[simp] theorem modRfc_cnu (g : Rfc → Rfc) (s : State) : (s.modRfc g).cnu = s.cnu := rfl
@[simp] theorem modRfc_cru (g : Rfc → Rfc) (s : State) : (s.modRfc g).cru = s.cru := rfl
@[simp] theorem modRfc_cca (g : Rfc → Rfc) (s : State) : (s.modRfc g).cca = s.cca := rfl
@[simp] theorem modRfc_vsq (g : Rfc → Rfc) (s : State) : (s.modRfc g).vsq = s.vsq := rfl
@[simp] theorem modRfc_mxd (g : Rfc → Rfc) (s : State) : (s.modRfc g).mxd = s.mxd := rfl
@[simp] theorem modRfc_rfc (g : Rfc → Rfc) (s : State) : (s.modRfc g).rfc = g s.rfc := rfl
@[simp] theorem modRfc_lbu (g : Rfc → Rfc) (s : State) : (s.modRfc g).lbu = s.lbu := rfl
@[simp] theorem modRfc_lnk (g : Rfc → Rfc) (s : State) : (s.modRfc g).lnk = s.lnk := rfl
@[simp] theorem modRfc_ssu (g : Rfc → Rfc) (s : State) : (s.modRfc g).ssu = s.ssu := rfl

/-! ### `State.modLbu` -/

@[simp] theorem modLbu_pending (g : Lbu → Lbu) (s : State) : (s.modLbu g).pending = s.pending := rfl
@[simp] theorem modLbu_due (g : Lbu → Lbu) (s : State) : (s.modLbu g).due = s.due := rfl
@[simp] theorem modLbu_phase (g : Lbu → Lbu) (s : State) : (s.modLbu g).phase = s.phase := rfl
@[simp] theorem modLbu_inputs (g : Lbu → Lbu) (s : State) : (s.modLbu g).inputs = s.inputs := rfl
@[simp] theorem modLbu_outputs (g : Lbu → Lbu) (s : State) : (s.modLbu g).outputs = s.outputs := rfl
@[simp] theorem modLbu_params (g : Lbu → Lbu) (s : State) : (s.modLbu g).params = s.params := rfl
@[simp] theorem modLbu_cnu (g : Lbu → Lbu) (s : State) : (s.modLbu g).cnu = s.cnu := rfl
@[simp] theorem modLbu_cru (g : Lbu → Lbu) (s : State) : (s.modLbu g).cru = s.cru := rfl
@[simp] theorem modLbu_cca (g : Lbu → Lbu) (s : State) : (s.modLbu g).cca = s.cca := rfl
@[simp] theorem modLbu_vsq (g : Lbu → Lbu) (s : State) : (s.modLbu g).vsq = s.vsq := rfl
@[simp] theorem modLbu_mxd (g : Lbu → Lbu) (s : State) : (s.modLbu g).mxd = s.mxd := rfl
@[simp] theorem modLbu_rfc (g : Lbu → Lbu) (s : State) : (s.modLbu g).rfc = s.rfc := rfl
@[simp] theorem modLbu_lbu (g : Lbu → Lbu) (s : State) : (s.modLbu g).lbu = g s.lbu := rfl
@[simp] theorem modLbu_lnk (g : Lbu → Lbu) (s : State) : (s.modLbu g).lnk = s.lnk := rfl
@[simp] theorem modLbu_ssu (g : Lbu → Lbu) (s : State) : (s.modLbu g).ssu = s.ssu := rfl

/-! ### `State.modLnk` -/

@[simp] theorem modLnk_pending (g : Lnk → Lnk) (s : State) : (s.modLnk g).pending = s.pending := rfl
@[simp] theorem modLnk_due (g : Lnk → Lnk) (s : State) : (s.modLnk g).due = s.due := rfl
@[simp] theorem modLnk_phase (g : Lnk → Lnk) (s : State) : (s.modLnk g).phase = s.phase := rfl
@[simp] theorem modLnk_inputs (g : Lnk → Lnk) (s : State) : (s.modLnk g).inputs = s.inputs := rfl
@[simp] theorem modLnk_outputs (g : Lnk → Lnk) (s : State) : (s.modLnk g).outputs = s.outputs := rfl
@[simp] theorem modLnk_params (g : Lnk → Lnk) (s : State) : (s.modLnk g).params = s.params := rfl
@[simp] theorem modLnk_cnu (g : Lnk → Lnk) (s : State) : (s.modLnk g).cnu = s.cnu := rfl
@[simp] theorem modLnk_cru (g : Lnk → Lnk) (s : State) : (s.modLnk g).cru = s.cru := rfl
@[simp] theorem modLnk_cca (g : Lnk → Lnk) (s : State) : (s.modLnk g).cca = s.cca := rfl
@[simp] theorem modLnk_vsq (g : Lnk → Lnk) (s : State) : (s.modLnk g).vsq = s.vsq := rfl
@[simp] theorem modLnk_mxd (g : Lnk → Lnk) (s : State) : (s.modLnk g).mxd = s.mxd := rfl
@[simp] theorem modLnk_rfc (g : Lnk → Lnk) (s : State) : (s.modLnk g).rfc = s.rfc := rfl
@[simp] theorem modLnk_lbu (g : Lnk → Lnk) (s : State) : (s.modLnk g).lbu = s.lbu := rfl
@[simp] theorem modLnk_lnk (g : Lnk → Lnk) (s : State) : (s.modLnk g).lnk = g s.lnk := rfl
@[simp] theorem modLnk_ssu (g : Lnk → Lnk) (s : State) : (s.modLnk g).ssu = s.ssu := rfl

/-! ### `State.modSsu` -/

@[simp] theorem modSsu_pending (g : Ssu → Ssu) (s : State) : (s.modSsu g).pending = s.pending := rfl
@[simp] theorem modSsu_due (g : Ssu → Ssu) (s : State) : (s.modSsu g).due = s.due := rfl
@[simp] theorem modSsu_phase (g : Ssu → Ssu) (s : State) : (s.modSsu g).phase = s.phase := rfl
@[simp] theorem modSsu_inputs (g : Ssu → Ssu) (s : State) : (s.modSsu g).inputs = s.inputs := rfl
@[simp] theorem modSsu_outputs (g : Ssu → Ssu) (s : State) : (s.modSsu g).outputs = s.outputs := rfl
@[simp] theorem modSsu_params (g : Ssu → Ssu) (s : State) : (s.modSsu g).params = s.params := rfl
@[simp] theorem modSsu_cnu (g : Ssu → Ssu) (s : State) : (s.modSsu g).cnu = s.cnu := rfl
@[simp] theorem modSsu_cru (g : Ssu → Ssu) (s : State) : (s.modSsu g).cru = s.cru := rfl
@[simp] theorem modSsu_cca (g : Ssu → Ssu) (s : State) : (s.modSsu g).cca = s.cca := rfl
@[simp] theorem modSsu_vsq (g : Ssu → Ssu) (s : State) : (s.modSsu g).vsq = s.vsq := rfl
@[simp] theorem modSsu_mxd (g : Ssu → Ssu) (s : State) : (s.modSsu g).mxd = s.mxd := rfl
@[simp] theorem modSsu_rfc (g : Ssu → Ssu) (s : State) : (s.modSsu g).rfc = s.rfc := rfl
@[simp] theorem modSsu_lbu (g : Ssu → Ssu) (s : State) : (s.modSsu g).lbu = s.lbu := rfl
@[simp] theorem modSsu_lnk (g : Ssu → Ssu) (s : State) : (s.modSsu g).lnk = s.lnk := rfl
@[simp] theorem modSsu_ssu (g : Ssu → Ssu) (s : State) : (s.modSsu g).ssu = g s.ssu := rfl

/-! ### `State.modSession` -/

@[simp] theorem modSession_pending (g : Session → Session) (s : State) : (s.modSession g).pending = s.pending := rfl
@[simp] theorem modSession_due (g : Session → Session) (s : State) : (s.modSession g).due = s.due := rfl
@[simp] theorem modSession_phase (g : Session → Session) (s : State) : (s.modSession g).phase = s.phase := rfl
@[simp] theorem modSession_inputs (g : Session → Session) (s : State) : (s.modSession g).inputs = s.inputs := rfl
@[simp] theorem modSession_outputs (g : Session → Session) (s : State) : (s.modSession g).outputs = s.outputs := rfl
@[simp] theorem modSession_params (g : Session → Session) (s : State) : (s.modSession g).params = s.params := rfl
@[simp] theorem modSession_cnu (g : Session → Session) (s : State) : (s.modSession g).cnu = s.cnu := rfl
@[simp] theorem modSession_cru (g : Session → Session) (s : State) : (s.modSession g).cru = { s.cru with session := g s.cru.session } := rfl
@[simp] theorem modSession_cca (g : Session → Session) (s : State) : (s.modSession g).cca = s.cca := rfl
@[simp] theorem modSession_vsq (g : Session → Session) (s : State) : (s.modSession g).vsq = s.vsq := rfl
@[simp] theorem modSession_mxd (g : Session → Session) (s : State) : (s.modSession g).mxd = s.mxd := rfl
@[simp] theorem modSession_rfc (g : Session → Session) (s : State) : (s.modSession g).rfc = s.rfc := rfl
@[simp] theorem modSession_lbu (g : Session → Session) (s : State) : (s.modSession g).lbu = s.lbu := rfl
@[simp] theorem modSession_lnk (g : Session → Session) (s : State) : (s.modSession g).lnk = s.lnk := rfl
@[simp] theorem modSession_ssu (g : Session → Session) (s : State) : (s.modSession g).ssu = s.ssu := rfl

/-! ### `State.modTotals` -/

@[simp] theorem modTotals_pending (g : AuditTotals → AuditTotals) (s : State) : (s.modTotals g).pending = s.pending := rfl
@[simp] theorem modTotals_due (g : AuditTotals → AuditTotals) (s : State) : (s.modTotals g).due = s.due := rfl
@[simp] theorem modTotals_phase (g : AuditTotals → AuditTotals) (s : State) : (s.modTotals g).phase = s.phase := rfl
@[simp] theorem modTotals_inputs (g : AuditTotals → AuditTotals) (s : State) : (s.modTotals g).inputs = s.inputs := rfl
@[simp] theorem modTotals_outputs (g : AuditTotals → AuditTotals) (s : State) : (s.modTotals g).outputs = s.outputs := rfl
@[simp] theorem modTotals_params (g : AuditTotals → AuditTotals) (s : State) : (s.modTotals g).params = s.params := rfl
@[simp] theorem modTotals_cnu (g : AuditTotals → AuditTotals) (s : State) : (s.modTotals g).cnu = s.cnu := rfl
@[simp] theorem modTotals_cru (g : AuditTotals → AuditTotals) (s : State) : (s.modTotals g).cru = s.cru := rfl
@[simp] theorem modTotals_cca (g : AuditTotals → AuditTotals) (s : State) : (s.modTotals g).cca = s.cca := rfl
@[simp] theorem modTotals_vsq (g : AuditTotals → AuditTotals) (s : State) : (s.modTotals g).vsq = s.vsq := rfl
@[simp] theorem modTotals_mxd (g : AuditTotals → AuditTotals) (s : State) : (s.modTotals g).mxd = s.mxd := rfl
@[simp] theorem modTotals_rfc (g : AuditTotals → AuditTotals) (s : State) : (s.modTotals g).rfc = s.rfc := rfl
@[simp] theorem modTotals_lbu (g : AuditTotals → AuditTotals) (s : State) : (s.modTotals g).lbu = s.lbu := rfl
@[simp] theorem modTotals_lnk (g : AuditTotals → AuditTotals) (s : State) : (s.modTotals g).lnk = s.lnk := rfl
@[simp] theorem modTotals_ssu (g : AuditTotals → AuditTotals) (s : State) : (s.modTotals g).ssu = { s.ssu with totals := g s.ssu.totals } := rfl

/-! ### `modSlot` -/

@[simp] theorem modSlot_pending (n : Nat) (g : Slot → Slot) (s : State) : (modSlot n g s).pending = s.pending := rfl
@[simp] theorem modSlot_due (n : Nat) (g : Slot → Slot) (s : State) : (modSlot n g s).due = s.due := rfl
@[simp] theorem modSlot_phase (n : Nat) (g : Slot → Slot) (s : State) : (modSlot n g s).phase = s.phase := rfl
@[simp] theorem modSlot_inputs (n : Nat) (g : Slot → Slot) (s : State) : (modSlot n g s).inputs = s.inputs := rfl
@[simp] theorem modSlot_outputs (n : Nat) (g : Slot → Slot) (s : State) : (modSlot n g s).outputs = s.outputs := rfl
@[simp] theorem modSlot_params (n : Nat) (g : Slot → Slot) (s : State) : (modSlot n g s).params = s.params := rfl
@[simp] theorem modSlot_cnu (n : Nat) (g : Slot → Slot) (s : State) : (modSlot n g s).cnu = s.cnu := rfl
@[simp] theorem modSlot_cru (n : Nat) (g : Slot → Slot) (s : State) : (modSlot n g s).cru = s.cru := rfl
@[simp] theorem modSlot_cca (n : Nat) (g : Slot → Slot) (s : State) : (modSlot n g s).cca = s.cca := rfl
@[simp] theorem modSlot_vsq (n : Nat) (g : Slot → Slot) (s : State) : (modSlot n g s).vsq = { s.vsq with slots := s.vsq.slots.modify n (Option.map g) } := rfl
@[simp] theorem modSlot_mxd (n : Nat) (g : Slot → Slot) (s : State) : (modSlot n g s).mxd = s.mxd := rfl
@[simp] theorem modSlot_rfc (n : Nat) (g : Slot → Slot) (s : State) : (modSlot n g s).rfc = s.rfc := rfl
@[simp] theorem modSlot_lbu (n : Nat) (g : Slot → Slot) (s : State) : (modSlot n g s).lbu = s.lbu := rfl
@[simp] theorem modSlot_lnk (n : Nat) (g : Slot → Slot) (s : State) : (modSlot n g s).lnk = s.lnk := rfl
@[simp] theorem modSlot_ssu (n : Nat) (g : Slot → Slot) (s : State) : (modSlot n g s).ssu = s.ssu := rfl

/-! ### `modVend` -/

@[simp] theorem modVend_pending (g : Vend → Vend) (s : State) : (modVend g s).pending = s.pending := rfl
@[simp] theorem modVend_due (g : Vend → Vend) (s : State) : (modVend g s).due = s.due := rfl
@[simp] theorem modVend_phase (g : Vend → Vend) (s : State) : (modVend g s).phase = s.phase := rfl
@[simp] theorem modVend_inputs (g : Vend → Vend) (s : State) : (modVend g s).inputs = s.inputs := rfl
@[simp] theorem modVend_outputs (g : Vend → Vend) (s : State) : (modVend g s).outputs = s.outputs := rfl
@[simp] theorem modVend_params (g : Vend → Vend) (s : State) : (modVend g s).params = s.params := rfl
@[simp] theorem modVend_cnu (g : Vend → Vend) (s : State) : (modVend g s).cnu = s.cnu := rfl
@[simp] theorem modVend_cru (g : Vend → Vend) (s : State) : (modVend g s).cru = s.cru := rfl
@[simp] theorem modVend_cca (g : Vend → Vend) (s : State) : (modVend g s).cca = s.cca := rfl
@[simp] theorem modVend_vsq (g : Vend → Vend) (s : State) : (modVend g s).vsq = { s.vsq with vend := s.vsq.vend.map g } := rfl
@[simp] theorem modVend_mxd (g : Vend → Vend) (s : State) : (modVend g s).mxd = s.mxd := rfl
@[simp] theorem modVend_rfc (g : Vend → Vend) (s : State) : (modVend g s).rfc = s.rfc := rfl
@[simp] theorem modVend_lbu (g : Vend → Vend) (s : State) : (modVend g s).lbu = s.lbu := rfl
@[simp] theorem modVend_lnk (g : Vend → Vend) (s : State) : (modVend g s).lnk = s.lnk := rfl
@[simp] theorem modVend_ssu (g : Vend → Vend) (s : State) : (modVend g s).ssu = s.ssu := rfl

/-! ### `modTest` -/

@[simp] theorem modTest_pending (g : Test → Test) (s : State) : (modTest g s).pending = s.pending := rfl
@[simp] theorem modTest_due (g : Test → Test) (s : State) : (modTest g s).due = s.due := rfl
@[simp] theorem modTest_phase (g : Test → Test) (s : State) : (modTest g s).phase = s.phase := rfl
@[simp] theorem modTest_inputs (g : Test → Test) (s : State) : (modTest g s).inputs = s.inputs := rfl
@[simp] theorem modTest_outputs (g : Test → Test) (s : State) : (modTest g s).outputs = s.outputs := rfl
@[simp] theorem modTest_params (g : Test → Test) (s : State) : (modTest g s).params = s.params := rfl
@[simp] theorem modTest_cnu (g : Test → Test) (s : State) : (modTest g s).cnu = s.cnu := rfl
@[simp] theorem modTest_cru (g : Test → Test) (s : State) : (modTest g s).cru = s.cru := rfl
@[simp] theorem modTest_cca (g : Test → Test) (s : State) : (modTest g s).cca = s.cca := rfl
@[simp] theorem modTest_vsq (g : Test → Test) (s : State) : (modTest g s).vsq = { s.vsq with test := s.vsq.test.map g } := rfl
@[simp] theorem modTest_mxd (g : Test → Test) (s : State) : (modTest g s).mxd = s.mxd := rfl
@[simp] theorem modTest_rfc (g : Test → Test) (s : State) : (modTest g s).rfc = s.rfc := rfl
@[simp] theorem modTest_lbu (g : Test → Test) (s : State) : (modTest g s).lbu = s.lbu := rfl
@[simp] theorem modTest_lnk (g : Test → Test) (s : State) : (modTest g s).lnk = s.lnk := rfl
@[simp] theorem modTest_ssu (g : Test → Test) (s : State) : (modTest g s).ssu = s.ssu := rfl

/-! ### `signal` -/

@[simp] theorem signal_pending (g : Signal) (s : State) : (signal g s).pending = s.pending := rfl
@[simp] theorem signal_due (g : Signal) (s : State) : (signal g s).due = s.due := rfl
@[simp] theorem signal_phase (g : Signal) (s : State) : (signal g s).phase = s.phase := rfl
@[simp] theorem signal_inputs (g : Signal) (s : State) : (signal g s).inputs = s.inputs := rfl
@[simp] theorem signal_outputs (g : Signal) (s : State) : (signal g s).outputs = s.outputs := rfl
@[simp] theorem signal_params (g : Signal) (s : State) : (signal g s).params = s.params := rfl
@[simp] theorem signal_cnu (g : Signal) (s : State) : (signal g s).cnu = s.cnu := rfl
@[simp] theorem signal_cru (g : Signal) (s : State) : (signal g s).cru = s.cru := rfl
@[simp] theorem signal_cca (g : Signal) (s : State) : (signal g s).cca = s.cca := rfl
@[simp] theorem signal_vsq (g : Signal) (s : State) : (signal g s).vsq = s.vsq := rfl
@[simp] theorem signal_mxd (g : Signal) (s : State) : (signal g s).mxd = s.mxd := rfl
@[simp] theorem signal_rfc (g : Signal) (s : State) : (signal g s).rfc = s.rfc := rfl
@[simp] theorem signal_lbu (g : Signal) (s : State) : (signal g s).lbu = { s.lbu with agenda := s.lbu.agenda ++ [g] } := rfl
@[simp] theorem signal_lnk (g : Signal) (s : State) : (signal g s).lnk = s.lnk := rfl
@[simp] theorem signal_ssu (g : Signal) (s : State) : (signal g s).ssu = s.ssu := rfl

/-! ### `modLoad` and `modTube`, by the record they name -/

@[simp] theorem modLoad_pending (k : LoadKind) (g : OwnLoad → OwnLoad) (s : State) : (modLoad k g s).pending = s.pending := rfl
@[simp] theorem modLoad_due (k : LoadKind) (g : OwnLoad → OwnLoad) (s : State) : (modLoad k g s).due = s.due := rfl
@[simp] theorem modLoad_phase (k : LoadKind) (g : OwnLoad → OwnLoad) (s : State) : (modLoad k g s).phase = s.phase := rfl
@[simp] theorem modLoad_inputs (k : LoadKind) (g : OwnLoad → OwnLoad) (s : State) : (modLoad k g s).inputs = s.inputs := rfl
@[simp] theorem modLoad_outputs (k : LoadKind) (g : OwnLoad → OwnLoad) (s : State) : (modLoad k g s).outputs = s.outputs := rfl
@[simp] theorem modLoad_params (k : LoadKind) (g : OwnLoad → OwnLoad) (s : State) : (modLoad k g s).params = s.params := rfl
@[simp] theorem modLoad_cnu (k : LoadKind) (g : OwnLoad → OwnLoad) (s : State) : (modLoad k g s).cnu = s.cnu := rfl
@[simp] theorem modLoad_cru (k : LoadKind) (g : OwnLoad → OwnLoad) (s : State) : (modLoad k g s).cru = s.cru := rfl
@[simp] theorem modLoad_cca (k : LoadKind) (g : OwnLoad → OwnLoad) (s : State) : (modLoad k g s).cca = s.cca := rfl
@[simp] theorem modLoad_vsq (k : LoadKind) (g : OwnLoad → OwnLoad) (s : State) : (modLoad k g s).vsq = s.vsq := rfl
@[simp] theorem modLoad_mxd (k : LoadKind) (g : OwnLoad → OwnLoad) (s : State) : (modLoad k g s).mxd = s.mxd := rfl
@[simp] theorem modLoad_rfc (k : LoadKind) (g : OwnLoad → OwnLoad) (s : State) : (modLoad k g s).rfc = s.rfc := rfl
@[simp] theorem modLoad_lnk (k : LoadKind) (g : OwnLoad → OwnLoad) (s : State) : (modLoad k g s).lnk = s.lnk := rfl
@[simp] theorem modLoad_ssu (k : LoadKind) (g : OwnLoad → OwnLoad) (s : State) : (modLoad k g s).ssu = s.ssu := rfl
@[simp] theorem modLoad_lbu_peers (k : LoadKind) (g : OwnLoad → OwnLoad) (s : State) :
    (modLoad k g s).lbu.peers = s.lbu.peers := by cases k <;> rfl
@[simp] theorem modLoad_lbu_claimCounter (k : LoadKind) (g : OwnLoad → OwnLoad) (s : State) :
    (modLoad k g s).lbu.claimCounter = s.lbu.claimCounter := by cases k <;> rfl
@[simp] theorem modLoad_lbu_ignored (k : LoadKind) (g : OwnLoad → OwnLoad) (s : State) :
    (modLoad k g s).lbu.ignored = s.lbu.ignored := by cases k <;> rfl
@[simp] theorem modLoad_lbu_objectSum (k : LoadKind) (g : OwnLoad → OwnLoad) (s : State) :
    (modLoad k g s).lbu.objectSum = s.lbu.objectSum := by cases k <;> rfl
@[simp] theorem modLoad_lbu_agenda (k : LoadKind) (g : OwnLoad → OwnLoad) (s : State) :
    (modLoad k g s).lbu.agenda = s.lbu.agenda := by cases k <;> rfl
@[simp] theorem modLoad_load (k : LoadKind) (g : OwnLoad → OwnLoad) (s : State) :
    (modLoad k g s).lbu.load k = g (s.lbu.load k) := by cases k <;> rfl
theorem modLoad_load_ne (k j : LoadKind) (g : OwnLoad → OwnLoad) (s : State) (h : j ≠ k) :
    (modLoad k g s).lbu.load j = s.lbu.load j := by cases k <;> cases j <;> first | rfl | exact absurd rfl h
@[simp] theorem modLoad_motor_motor (g : OwnLoad → OwnLoad) (s : State) : (modLoad .motor g s).lbu.motor = g s.lbu.motor := rfl
@[simp] theorem modLoad_motor_compressor (g : OwnLoad → OwnLoad) (s : State) : (modLoad .motor g s).lbu.compressor = s.lbu.compressor := rfl
@[simp] theorem modLoad_motor_heater (g : OwnLoad → OwnLoad) (s : State) : (modLoad .motor g s).lbu.heater = s.lbu.heater := rfl
@[simp] theorem modLoad_compressor_motor (g : OwnLoad → OwnLoad) (s : State) : (modLoad .compressor g s).lbu.motor = s.lbu.motor := rfl
@[simp] theorem modLoad_compressor_compressor (g : OwnLoad → OwnLoad) (s : State) : (modLoad .compressor g s).lbu.compressor = g s.lbu.compressor := rfl
@[simp] theorem modLoad_compressor_heater (g : OwnLoad → OwnLoad) (s : State) : (modLoad .compressor g s).lbu.heater = s.lbu.heater := rfl
@[simp] theorem modLoad_heater_motor (g : OwnLoad → OwnLoad) (s : State) : (modLoad .heater g s).lbu.motor = s.lbu.motor := rfl
@[simp] theorem modLoad_heater_compressor (g : OwnLoad → OwnLoad) (s : State) : (modLoad .heater g s).lbu.compressor = s.lbu.compressor := rfl
@[simp] theorem modLoad_heater_heater (g : OwnLoad → OwnLoad) (s : State) : (modLoad .heater g s).lbu.heater = g s.lbu.heater := rfl
@[simp] theorem modTube_pending (i : Nat) (g : Tube → Tube) (s : State) : (modTube i g s).pending = s.pending := by cases i <;> rfl
@[simp] theorem modTube_due (i : Nat) (g : Tube → Tube) (s : State) : (modTube i g s).due = s.due := by cases i <;> rfl
@[simp] theorem modTube_phase (i : Nat) (g : Tube → Tube) (s : State) : (modTube i g s).phase = s.phase := by cases i <;> rfl
@[simp] theorem modTube_inputs (i : Nat) (g : Tube → Tube) (s : State) : (modTube i g s).inputs = s.inputs := by cases i <;> rfl
@[simp] theorem modTube_outputs (i : Nat) (g : Tube → Tube) (s : State) : (modTube i g s).outputs = s.outputs := by cases i <;> rfl
@[simp] theorem modTube_params (i : Nat) (g : Tube → Tube) (s : State) : (modTube i g s).params = s.params := by cases i <;> rfl
@[simp] theorem modTube_cru (i : Nat) (g : Tube → Tube) (s : State) : (modTube i g s).cru = s.cru := by cases i <;> rfl
@[simp] theorem modTube_cca (i : Nat) (g : Tube → Tube) (s : State) : (modTube i g s).cca = s.cca := by cases i <;> rfl
@[simp] theorem modTube_vsq (i : Nat) (g : Tube → Tube) (s : State) : (modTube i g s).vsq = s.vsq := by cases i <;> rfl
@[simp] theorem modTube_mxd (i : Nat) (g : Tube → Tube) (s : State) : (modTube i g s).mxd = s.mxd := by cases i <;> rfl
@[simp] theorem modTube_rfc (i : Nat) (g : Tube → Tube) (s : State) : (modTube i g s).rfc = s.rfc := by cases i <;> rfl
@[simp] theorem modTube_lbu (i : Nat) (g : Tube → Tube) (s : State) : (modTube i g s).lbu = s.lbu := by cases i <;> rfl
@[simp] theorem modTube_lnk (i : Nat) (g : Tube → Tube) (s : State) : (modTube i g s).lnk = s.lnk := by cases i <;> rfl
@[simp] theorem modTube_ssu (i : Nat) (g : Tube → Tube) (s : State) : (modTube i g s).ssu = s.ssu := by cases i <;> rfl
@[simp] theorem modTube_cnu_coinTypes (i : Nat) (g : Tube → Tube) (s : State) : (modTube i g s).cnu.coinTypes = s.cnu.coinTypes := by cases i <;> rfl
@[simp] theorem modTube_cnu_routing (i : Nat) (g : Tube → Tube) (s : State) : (modTube i g s).cnu.routing = s.cnu.routing := by cases i <;> rfl
@[simp] theorem modTube_cnu_cashboxPresent (i : Nat) (g : Tube → Tube) (s : State) : (modTube i g s).cnu.cashboxPresent = s.cnu.cashboxPresent := by cases i <;> rfl
@[simp] theorem modTube_cnu_headRejects (i : Nat) (g : Tube → Tube) (s : State) : (modTube i g s).cnu.headRejects = s.cnu.headRejects := by cases i <;> rfl
@[simp] theorem load_motor (l : Lbu) : l.load .motor = l.motor := rfl
@[simp] theorem load_compressor (l : Lbu) : l.load .compressor = l.compressor := rfl
@[simp] theorem load_heater (l : Lbu) : l.load .heater = l.heater := rfl

end Sys2Proof.Machine.Laws
end

