-- ==== Sys2Proof/Laws/FramesLink.lean ====
section
/-! SUPPORT. Frames: what each shared operation of the Link Unit leaves as it was, one lemma per operation and part. -/

set_option linter.unusedTactic false
set_option linter.unnecessarySeqFocus false
set_option linter.unreachableTactic false

namespace Sys2Proof.Machine.Laws

@[simp] theorem request_pending (f : Frame) (s : State) : ((request f s).1).pending = s.pending := by
  unfold request; try dsimp only
  (repeat' split) <;> simp
@[simp] theorem request_due (f : Frame) (s : State) : ((request f s).1).due = s.due := by
  unfold request; try dsimp only
  (repeat' split) <;> simp
@[simp] theorem request_phase (f : Frame) (s : State) : ((request f s).1).phase = s.phase := by
  unfold request; try dsimp only
  (repeat' split) <;> simp
@[simp] theorem request_inputs (f : Frame) (s : State) : ((request f s).1).inputs = s.inputs := by
  unfold request; try dsimp only
  (repeat' split) <;> simp
@[simp] theorem request_outputs (f : Frame) (s : State) : ((request f s).1).outputs = s.outputs := by
  unfold request; try dsimp only
  (repeat' split) <;> simp
@[simp] theorem request_params (f : Frame) (s : State) : ((request f s).1).params = s.params := by
  unfold request; try dsimp only
  (repeat' split) <;> simp
@[simp] theorem request_cnu (f : Frame) (s : State) : ((request f s).1).cnu = s.cnu := by
  unfold request; try dsimp only
  (repeat' split) <;> simp
@[simp] theorem request_cru (f : Frame) (s : State) : ((request f s).1).cru = s.cru := by
  unfold request; try dsimp only
  (repeat' split) <;> simp
@[simp] theorem request_cca (f : Frame) (s : State) : ((request f s).1).cca = s.cca := by
  unfold request; try dsimp only
  (repeat' split) <;> simp
@[simp] theorem request_vsq (f : Frame) (s : State) : ((request f s).1).vsq = s.vsq := by
  unfold request; try dsimp only
  (repeat' split) <;> simp
@[simp] theorem request_mxd (f : Frame) (s : State) : ((request f s).1).mxd = s.mxd := by
  unfold request; try dsimp only
  (repeat' split) <;> simp
@[simp] theorem request_rfc (f : Frame) (s : State) : ((request f s).1).rfc = s.rfc := by
  unfold request; try dsimp only
  (repeat' split) <;> simp
@[simp] theorem request_lbu (f : Frame) (s : State) : ((request f s).1).lbu = s.lbu := by
  unfold request; try dsimp only
  (repeat' split) <;> simp
@[simp] theorem request_ssu (f : Frame) (s : State) : ((request f s).1).ssu = s.ssu := by
  unfold request; try dsimp only
  (repeat' split) <;> simp
@[simp] theorem request_lnk_state (f : Frame) (s : State) : ((request f s).1).lnk.state = s.lnk.state := by
  unfold request; try dsimp only
  (repeat' split) <;> simp
@[simp] theorem request_lnk_heard (f : Frame) (s : State) : ((request f s).1).lnk.heard = s.lnk.heard := by
  unfold request; try dsimp only
  (repeat' split) <;> simp
@[simp] theorem request_lnk_acknowledged (f : Frame) (s : State) : ((request f s).1).lnk.acknowledged = s.lnk.acknowledged := by
  unfold request; try dsimp only
  (repeat' split) <;> simp
@[simp] theorem request_lnk_isolationTimer (f : Frame) (s : State) : ((request f s).1).lnk.isolationTimer = s.lnk.isolationTimer := by
  unfold request; try dsimp only
  (repeat' split) <;> simp
@[simp] theorem request_lnk_change (f : Frame) (s : State) : ((request f s).1).lnk.change = s.lnk.change := by
  unfold request; try dsimp only
  (repeat' split) <;> simp
@[simp] theorem request_lnk_periodTimer (f : Frame) (s : State) : ((request f s).1).lnk.periodTimer = s.lnk.periodTimer := by
  unfold request; try dsimp only
  (repeat' split) <;> simp
@[simp] theorem request_lnk_silentTimer (f : Frame) (s : State) : ((request f s).1).lnk.silentTimer = s.lnk.silentTimer := by
  unfold request; try dsimp only
  (repeat' split) <;> simp
@[simp] theorem request_lnk_failures (f : Frame) (s : State) : ((request f s).1).lnk.failures = s.lnk.failures := by
  unfold request; try dsimp only
  (repeat' split) <;> simp
@[simp] theorem request_lnk_unknownFrames (f : Frame) (s : State) : ((request f s).1).lnk.unknownFrames = s.lnk.unknownFrames := by
  unfold request; try dsimp only
  (repeat' split) <;> simp
@[simp] theorem request_lnk_droppedFrames (f : Frame) (s : State) : ((request f s).1).lnk.droppedFrames = s.lnk.droppedFrames := by
  unfold request; try dsimp only
  (repeat' split) <;> simp
@[simp] theorem request_lnk_silentEntries (f : Frame) (s : State) : ((request f s).1).lnk.silentEntries = s.lnk.silentEntries := by
  unfold request; try dsimp only
  (repeat' split) <;> simp
@[simp] theorem send_pending (f : Frame) (s : State) : (send f s).pending = s.pending := by
  unfold send; try dsimp only
  (repeat' split) <;> simp
@[simp] theorem send_due (f : Frame) (s : State) : (send f s).due = s.due := by
  unfold send; try dsimp only
  (repeat' split) <;> simp
@[simp] theorem send_phase (f : Frame) (s : State) : (send f s).phase = s.phase := by
  unfold send; try dsimp only
  (repeat' split) <;> simp
@[simp] theorem send_inputs (f : Frame) (s : State) : (send f s).inputs = s.inputs := by
  unfold send; try dsimp only
  (repeat' split) <;> simp
@[simp] theorem send_outputs (f : Frame) (s : State) : (send f s).outputs = s.outputs := by
  unfold send; try dsimp only
  (repeat' split) <;> simp
@[simp] theorem send_params (f : Frame) (s : State) : (send f s).params = s.params := by
  unfold send; try dsimp only
  (repeat' split) <;> simp
@[simp] theorem send_cnu (f : Frame) (s : State) : (send f s).cnu = s.cnu := by
  unfold send; try dsimp only
  (repeat' split) <;> simp
@[simp] theorem send_cru (f : Frame) (s : State) : (send f s).cru = s.cru := by
  unfold send; try dsimp only
  (repeat' split) <;> simp
@[simp] theorem send_cca (f : Frame) (s : State) : (send f s).cca = s.cca := by
  unfold send; try dsimp only
  (repeat' split) <;> simp
@[simp] theorem send_vsq (f : Frame) (s : State) : (send f s).vsq = s.vsq := by
  unfold send; try dsimp only
  (repeat' split) <;> simp
@[simp] theorem send_mxd (f : Frame) (s : State) : (send f s).mxd = s.mxd := by
  unfold send; try dsimp only
  (repeat' split) <;> simp
@[simp] theorem send_rfc (f : Frame) (s : State) : (send f s).rfc = s.rfc := by
  unfold send; try dsimp only
  (repeat' split) <;> simp
@[simp] theorem send_lbu (f : Frame) (s : State) : (send f s).lbu = s.lbu := by
  unfold send; try dsimp only
  (repeat' split) <;> simp
@[simp] theorem send_ssu (f : Frame) (s : State) : (send f s).ssu = s.ssu := by
  unfold send; try dsimp only
  (repeat' split) <;> simp
@[simp] theorem send_lnk_state (f : Frame) (s : State) : (send f s).lnk.state = s.lnk.state := by
  unfold send; try dsimp only
  (repeat' split) <;> simp
@[simp] theorem send_lnk_heard (f : Frame) (s : State) : (send f s).lnk.heard = s.lnk.heard := by
  unfold send; try dsimp only
  (repeat' split) <;> simp
@[simp] theorem send_lnk_acknowledged (f : Frame) (s : State) : (send f s).lnk.acknowledged = s.lnk.acknowledged := by
  unfold send; try dsimp only
  (repeat' split) <;> simp
@[simp] theorem send_lnk_isolationTimer (f : Frame) (s : State) : (send f s).lnk.isolationTimer = s.lnk.isolationTimer := by
  unfold send; try dsimp only
  (repeat' split) <;> simp
@[simp] theorem send_lnk_change (f : Frame) (s : State) : (send f s).lnk.change = s.lnk.change := by
  unfold send; try dsimp only
  (repeat' split) <;> simp
@[simp] theorem send_lnk_periodTimer (f : Frame) (s : State) : (send f s).lnk.periodTimer = s.lnk.periodTimer := by
  unfold send; try dsimp only
  (repeat' split) <;> simp
@[simp] theorem send_lnk_silentTimer (f : Frame) (s : State) : (send f s).lnk.silentTimer = s.lnk.silentTimer := by
  unfold send; try dsimp only
  (repeat' split) <;> simp
@[simp] theorem send_lnk_failures (f : Frame) (s : State) : (send f s).lnk.failures = s.lnk.failures := by
  unfold send; try dsimp only
  (repeat' split) <;> simp
@[simp] theorem send_lnk_unknownFrames (f : Frame) (s : State) : (send f s).lnk.unknownFrames = s.lnk.unknownFrames := by
  unfold send; try dsimp only
  (repeat' split) <;> simp
@[simp] theorem send_lnk_droppedFrames (f : Frame) (s : State) : (send f s).lnk.droppedFrames = s.lnk.droppedFrames := by
  unfold send; try dsimp only
  (repeat' split) <;> simp
@[simp] theorem send_lnk_silentEntries (f : Frame) (s : State) : (send f s).lnk.silentEntries = s.lnk.silentEntries := by
  unfold send; try dsimp only
  (repeat' split) <;> simp
@[simp] theorem queueStatus_pending (s : State) : (queueStatus s).pending = s.pending := by
  unfold queueStatus; try dsimp only
  (repeat' split) <;> simp
@[simp] theorem queueStatus_due (s : State) : (queueStatus s).due = s.due := by
  unfold queueStatus; try dsimp only
  (repeat' split) <;> simp
@[simp] theorem queueStatus_phase (s : State) : (queueStatus s).phase = s.phase := by
  unfold queueStatus; try dsimp only
  (repeat' split) <;> simp
@[simp] theorem queueStatus_inputs (s : State) : (queueStatus s).inputs = s.inputs := by
  unfold queueStatus; try dsimp only
  (repeat' split) <;> simp
@[simp] theorem queueStatus_outputs (s : State) : (queueStatus s).outputs = s.outputs := by
  unfold queueStatus; try dsimp only
  (repeat' split) <;> simp
@[simp] theorem queueStatus_params (s : State) : (queueStatus s).params = s.params := by
  unfold queueStatus; try dsimp only
  (repeat' split) <;> simp
@[simp] theorem queueStatus_cnu (s : State) : (queueStatus s).cnu = s.cnu := by
  unfold queueStatus; try dsimp only
  (repeat' split) <;> simp
@[simp] theorem queueStatus_cru (s : State) : (queueStatus s).cru = s.cru := by
  unfold queueStatus; try dsimp only
  (repeat' split) <;> simp
@[simp] theorem queueStatus_cca (s : State) : (queueStatus s).cca = s.cca := by
  unfold queueStatus; try dsimp only
  (repeat' split) <;> simp
@[simp] theorem queueStatus_vsq (s : State) : (queueStatus s).vsq = s.vsq := by
  unfold queueStatus; try dsimp only
  (repeat' split) <;> simp
@[simp] theorem queueStatus_mxd (s : State) : (queueStatus s).mxd = s.mxd := by
  unfold queueStatus; try dsimp only
  (repeat' split) <;> simp
@[simp] theorem queueStatus_rfc (s : State) : (queueStatus s).rfc = s.rfc := by
  unfold queueStatus; try dsimp only
  (repeat' split) <;> simp
@[simp] theorem queueStatus_lbu (s : State) : (queueStatus s).lbu = s.lbu := by
  unfold queueStatus; try dsimp only
  (repeat' split) <;> simp
@[simp] theorem queueStatus_ssu (s : State) : (queueStatus s).ssu = s.ssu := by
  unfold queueStatus; try dsimp only
  (repeat' split) <;> simp
@[simp] theorem queueStatus_lnk_state (s : State) : (queueStatus s).lnk.state = s.lnk.state := by
  unfold queueStatus; try dsimp only
  (repeat' split) <;> simp
@[simp] theorem queueStatus_lnk_heard (s : State) : (queueStatus s).lnk.heard = s.lnk.heard := by
  unfold queueStatus; try dsimp only
  (repeat' split) <;> simp
@[simp] theorem queueStatus_lnk_acknowledged (s : State) : (queueStatus s).lnk.acknowledged = s.lnk.acknowledged := by
  unfold queueStatus; try dsimp only
  (repeat' split) <;> simp
@[simp] theorem queueStatus_lnk_isolationTimer (s : State) : (queueStatus s).lnk.isolationTimer = s.lnk.isolationTimer := by
  unfold queueStatus; try dsimp only
  (repeat' split) <;> simp
@[simp] theorem queueStatus_lnk_change (s : State) : (queueStatus s).lnk.change = s.lnk.change := by
  unfold queueStatus; try dsimp only
  (repeat' split) <;> simp
@[simp] theorem queueStatus_lnk_silentTimer (s : State) : (queueStatus s).lnk.silentTimer = s.lnk.silentTimer := by
  unfold queueStatus; try dsimp only
  (repeat' split) <;> simp
@[simp] theorem queueStatus_lnk_failures (s : State) : (queueStatus s).lnk.failures = s.lnk.failures := by
  unfold queueStatus; try dsimp only
  (repeat' split) <;> simp
@[simp] theorem queueStatus_lnk_unknownFrames (s : State) : (queueStatus s).lnk.unknownFrames = s.lnk.unknownFrames := by
  unfold queueStatus; try dsimp only
  (repeat' split) <;> simp
@[simp] theorem queueStatus_lnk_droppedFrames (s : State) : (queueStatus s).lnk.droppedFrames = s.lnk.droppedFrames := by
  unfold queueStatus; try dsimp only
  (repeat' split) <;> simp
@[simp] theorem queueStatus_lnk_silentEntries (s : State) : (queueStatus s).lnk.silentEntries = s.lnk.silentEntries := by
  unfold queueStatus; try dsimp only
  (repeat' split) <;> simp
@[simp] theorem startStatus_pending (s : State) : (startStatus s).pending = s.pending := by
  unfold startStatus; try dsimp only
  (repeat' split) <;> simp
@[simp] theorem startStatus_due (s : State) : (startStatus s).due = s.due := by
  unfold startStatus; try dsimp only
  (repeat' split) <;> simp
@[simp] theorem startStatus_phase (s : State) : (startStatus s).phase = s.phase := by
  unfold startStatus; try dsimp only
  (repeat' split) <;> simp
@[simp] theorem startStatus_inputs (s : State) : (startStatus s).inputs = s.inputs := by
  unfold startStatus; try dsimp only
  (repeat' split) <;> simp
@[simp] theorem startStatus_outputs (s : State) : (startStatus s).outputs = s.outputs := by
  unfold startStatus; try dsimp only
  (repeat' split) <;> simp
@[simp] theorem startStatus_params (s : State) : (startStatus s).params = s.params := by
  unfold startStatus; try dsimp only
  (repeat' split) <;> simp
@[simp] theorem startStatus_cnu (s : State) : (startStatus s).cnu = s.cnu := by
  unfold startStatus; try dsimp only
  (repeat' split) <;> simp
@[simp] theorem startStatus_cru (s : State) : (startStatus s).cru = s.cru := by
  unfold startStatus; try dsimp only
  (repeat' split) <;> simp
@[simp] theorem startStatus_cca (s : State) : (startStatus s).cca = s.cca := by
  unfold startStatus; try dsimp only
  (repeat' split) <;> simp
@[simp] theorem startStatus_vsq (s : State) : (startStatus s).vsq = s.vsq := by
  unfold startStatus; try dsimp only
  (repeat' split) <;> simp
@[simp] theorem startStatus_mxd (s : State) : (startStatus s).mxd = s.mxd := by
  unfold startStatus; try dsimp only
  (repeat' split) <;> simp
@[simp] theorem startStatus_rfc (s : State) : (startStatus s).rfc = s.rfc := by
  unfold startStatus; try dsimp only
  (repeat' split) <;> simp
@[simp] theorem startStatus_lbu (s : State) : (startStatus s).lbu = s.lbu := by
  unfold startStatus; try dsimp only
  (repeat' split) <;> simp
@[simp] theorem startStatus_ssu (s : State) : (startStatus s).ssu = s.ssu := by
  unfold startStatus; try dsimp only
  (repeat' split) <;> simp
@[simp] theorem startStatus_lnk_state (s : State) : (startStatus s).lnk.state = s.lnk.state := by
  unfold startStatus; try dsimp only
  (repeat' split) <;> simp
@[simp] theorem startStatus_lnk_heard (s : State) : (startStatus s).lnk.heard = s.lnk.heard := by
  unfold startStatus; try dsimp only
  (repeat' split) <;> simp
@[simp] theorem startStatus_lnk_acknowledged (s : State) : (startStatus s).lnk.acknowledged = s.lnk.acknowledged := by
  unfold startStatus; try dsimp only
  (repeat' split) <;> simp
@[simp] theorem startStatus_lnk_isolationTimer (s : State) : (startStatus s).lnk.isolationTimer = s.lnk.isolationTimer := by
  unfold startStatus; try dsimp only
  (repeat' split) <;> simp
@[simp] theorem startStatus_lnk_change (s : State) : (startStatus s).lnk.change = s.lnk.change := by
  unfold startStatus; try dsimp only
  (repeat' split) <;> simp
@[simp] theorem startStatus_lnk_silentTimer (s : State) : (startStatus s).lnk.silentTimer = s.lnk.silentTimer := by
  unfold startStatus; try dsimp only
  (repeat' split) <;> simp
@[simp] theorem startStatus_lnk_failures (s : State) : (startStatus s).lnk.failures = s.lnk.failures := by
  unfold startStatus; try dsimp only
  (repeat' split) <;> simp
@[simp] theorem startStatus_lnk_unknownFrames (s : State) : (startStatus s).lnk.unknownFrames = s.lnk.unknownFrames := by
  unfold startStatus; try dsimp only
  (repeat' split) <;> simp
@[simp] theorem startStatus_lnk_droppedFrames (s : State) : (startStatus s).lnk.droppedFrames = s.lnk.droppedFrames := by
  unfold startStatus; try dsimp only
  (repeat' split) <;> simp
@[simp] theorem startStatus_lnk_silentEntries (s : State) : (startStatus s).lnk.silentEntries = s.lnk.silentEntries := by
  unfold startStatus; try dsimp only
  (repeat' split) <;> simp
@[simp] theorem announceChange_pending (s : State) : (announceChange s).pending = s.pending := by
  unfold announceChange; try dsimp only
  (repeat' split) <;> simp
@[simp] theorem announceChange_due (s : State) : (announceChange s).due = s.due := by
  unfold announceChange; try dsimp only
  (repeat' split) <;> simp
@[simp] theorem announceChange_phase (s : State) : (announceChange s).phase = s.phase := by
  unfold announceChange; try dsimp only
  (repeat' split) <;> simp
@[simp] theorem announceChange_inputs (s : State) : (announceChange s).inputs = s.inputs := by
  unfold announceChange; try dsimp only
  (repeat' split) <;> simp
@[simp] theorem announceChange_outputs (s : State) : (announceChange s).outputs = s.outputs := by
  unfold announceChange; try dsimp only
  (repeat' split) <;> simp
@[simp] theorem announceChange_params (s : State) : (announceChange s).params = s.params := by
  unfold announceChange; try dsimp only
  (repeat' split) <;> simp
@[simp] theorem announceChange_cnu (s : State) : (announceChange s).cnu = s.cnu := by
  unfold announceChange; try dsimp only
  (repeat' split) <;> simp
@[simp] theorem announceChange_cru (s : State) : (announceChange s).cru = s.cru := by
  unfold announceChange; try dsimp only
  (repeat' split) <;> simp
@[simp] theorem announceChange_cca (s : State) : (announceChange s).cca = s.cca := by
  unfold announceChange; try dsimp only
  (repeat' split) <;> simp
@[simp] theorem announceChange_vsq (s : State) : (announceChange s).vsq = s.vsq := by
  unfold announceChange; try dsimp only
  (repeat' split) <;> simp
@[simp] theorem announceChange_mxd (s : State) : (announceChange s).mxd = s.mxd := by
  unfold announceChange; try dsimp only
  (repeat' split) <;> simp
@[simp] theorem announceChange_rfc (s : State) : (announceChange s).rfc = s.rfc := by
  unfold announceChange; try dsimp only
  (repeat' split) <;> simp
@[simp] theorem announceChange_lbu (s : State) : (announceChange s).lbu = s.lbu := by
  unfold announceChange; try dsimp only
  (repeat' split) <;> simp
@[simp] theorem announceChange_ssu (s : State) : (announceChange s).ssu = s.ssu := by
  unfold announceChange; try dsimp only
  (repeat' split) <;> simp
@[simp] theorem announceChange_lnk_state (s : State) : (announceChange s).lnk.state = s.lnk.state := by
  unfold announceChange; try dsimp only
  (repeat' split) <;> simp
@[simp] theorem announceChange_lnk_heard (s : State) : (announceChange s).lnk.heard = s.lnk.heard := by
  unfold announceChange; try dsimp only
  (repeat' split) <;> simp
@[simp] theorem announceChange_lnk_acknowledged (s : State) : (announceChange s).lnk.acknowledged = s.lnk.acknowledged := by
  unfold announceChange; try dsimp only
  (repeat' split) <;> simp
@[simp] theorem announceChange_lnk_isolationTimer (s : State) : (announceChange s).lnk.isolationTimer = s.lnk.isolationTimer := by
  unfold announceChange; try dsimp only
  (repeat' split) <;> simp
@[simp] theorem announceChange_lnk_silentTimer (s : State) : (announceChange s).lnk.silentTimer = s.lnk.silentTimer := by
  unfold announceChange; try dsimp only
  (repeat' split) <;> simp
@[simp] theorem announceChange_lnk_failures (s : State) : (announceChange s).lnk.failures = s.lnk.failures := by
  unfold announceChange; try dsimp only
  (repeat' split) <;> simp
@[simp] theorem announceChange_lnk_unknownFrames (s : State) : (announceChange s).lnk.unknownFrames = s.lnk.unknownFrames := by
  unfold announceChange; try dsimp only
  (repeat' split) <;> simp
@[simp] theorem announceChange_lnk_droppedFrames (s : State) : (announceChange s).lnk.droppedFrames = s.lnk.droppedFrames := by
  unfold announceChange; try dsimp only
  (repeat' split) <;> simp
@[simp] theorem announceChange_lnk_silentEntries (s : State) : (announceChange s).lnk.silentEntries = s.lnk.silentEntries := by
  unfold announceChange; try dsimp only
  (repeat' split) <;> simp
@[simp] theorem queueCredit_pending (s : State) : (queueCredit s).pending = s.pending := by
  unfold queueCredit; try dsimp only
  (repeat' split) <;> simp
@[simp] theorem queueCredit_due (s : State) : (queueCredit s).due = s.due := by
  unfold queueCredit; try dsimp only
  (repeat' split) <;> simp
@[simp] theorem queueCredit_phase (s : State) : (queueCredit s).phase = s.phase := by
  unfold queueCredit; try dsimp only
  (repeat' split) <;> simp
@[simp] theorem queueCredit_inputs (s : State) : (queueCredit s).inputs = s.inputs := by
  unfold queueCredit; try dsimp only
  (repeat' split) <;> simp
@[simp] theorem queueCredit_outputs (s : State) : (queueCredit s).outputs = s.outputs := by
  unfold queueCredit; try dsimp only
  (repeat' split) <;> simp
@[simp] theorem queueCredit_params (s : State) : (queueCredit s).params = s.params := by
  unfold queueCredit; try dsimp only
  (repeat' split) <;> simp
@[simp] theorem queueCredit_cnu (s : State) : (queueCredit s).cnu = s.cnu := by
  unfold queueCredit; try dsimp only
  (repeat' split) <;> simp
@[simp] theorem queueCredit_cca (s : State) : (queueCredit s).cca = s.cca := by
  unfold queueCredit; try dsimp only
  (repeat' split) <;> simp
@[simp] theorem queueCredit_vsq (s : State) : (queueCredit s).vsq = s.vsq := by
  unfold queueCredit; try dsimp only
  (repeat' split) <;> simp
@[simp] theorem queueCredit_mxd (s : State) : (queueCredit s).mxd = s.mxd := by
  unfold queueCredit; try dsimp only
  (repeat' split) <;> simp
@[simp] theorem queueCredit_rfc (s : State) : (queueCredit s).rfc = s.rfc := by
  unfold queueCredit; try dsimp only
  (repeat' split) <;> simp
@[simp] theorem queueCredit_lbu (s : State) : (queueCredit s).lbu = s.lbu := by
  unfold queueCredit; try dsimp only
  (repeat' split) <;> simp
@[simp] theorem queueCredit_ssu (s : State) : (queueCredit s).ssu = s.ssu := by
  unfold queueCredit; try dsimp only
  (repeat' split) <;> simp
@[simp] theorem queueCredit_cru_session (s : State) : (queueCredit s).cru.session = s.cru.session := by
  unfold queueCredit; try dsimp only
  (repeat' split) <;> simp
@[simp] theorem queueCredit_cru_payout (s : State) : (queueCredit s).cru.payout = s.cru.payout := by
  unfold queueCredit; try dsimp only
  (repeat' split) <;> simp
@[simp] theorem queueCredit_cru_solenoid (s : State) : (queueCredit s).cru.solenoid = s.cru.solenoid := by
  unfold queueCredit; try dsimp only
  (repeat' split) <;> simp
@[simp] theorem queueCredit_cru_books (s : State) : (queueCredit s).cru.books = s.cru.books := by
  unfold queueCredit; try dsimp only
  (repeat' split) <;> simp
@[simp] theorem queueCredit_cru_exactChangeOnly (s : State) : (queueCredit s).cru.exactChangeOnly = s.cru.exactChangeOnly := by
  unfold queueCredit; try dsimp only
  (repeat' split) <;> simp
@[simp] theorem queueCredit_cru_probeShort (s : State) : (queueCredit s).cru.probeShort = s.cru.probeShort := by
  unfold queueCredit; try dsimp only
  (repeat' split) <;> simp
@[simp] theorem queueCredit_cru_strayExits (s : State) : (queueCredit s).cru.strayExits = s.cru.strayExits := by
  unfold queueCredit; try dsimp only
  (repeat' split) <;> simp
@[simp] theorem queueCredit_cru_versionRaised (s : State) : (queueCredit s).cru.versionRaised = s.cru.versionRaised := by
  unfold queueCredit; try dsimp only
  (repeat' split) <;> simp
@[simp] theorem queueCredit_lnk_state (s : State) : (queueCredit s).lnk.state = s.lnk.state := by
  unfold queueCredit; try dsimp only
  (repeat' split) <;> simp
@[simp] theorem queueCredit_lnk_heard (s : State) : (queueCredit s).lnk.heard = s.lnk.heard := by
  unfold queueCredit; try dsimp only
  (repeat' split) <;> simp
@[simp] theorem queueCredit_lnk_acknowledged (s : State) : (queueCredit s).lnk.acknowledged = s.lnk.acknowledged := by
  unfold queueCredit; try dsimp only
  (repeat' split) <;> simp
@[simp] theorem queueCredit_lnk_isolationTimer (s : State) : (queueCredit s).lnk.isolationTimer = s.lnk.isolationTimer := by
  unfold queueCredit; try dsimp only
  (repeat' split) <;> simp
@[simp] theorem queueCredit_lnk_change (s : State) : (queueCredit s).lnk.change = s.lnk.change := by
  unfold queueCredit; try dsimp only
  (repeat' split) <;> simp
@[simp] theorem queueCredit_lnk_periodTimer (s : State) : (queueCredit s).lnk.periodTimer = s.lnk.periodTimer := by
  unfold queueCredit; try dsimp only
  (repeat' split) <;> simp
@[simp] theorem queueCredit_lnk_silentTimer (s : State) : (queueCredit s).lnk.silentTimer = s.lnk.silentTimer := by
  unfold queueCredit; try dsimp only
  (repeat' split) <;> simp
@[simp] theorem queueCredit_lnk_failures (s : State) : (queueCredit s).lnk.failures = s.lnk.failures := by
  unfold queueCredit; try dsimp only
  (repeat' split) <;> simp
@[simp] theorem queueCredit_lnk_unknownFrames (s : State) : (queueCredit s).lnk.unknownFrames = s.lnk.unknownFrames := by
  unfold queueCredit; try dsimp only
  (repeat' split) <;> simp
@[simp] theorem queueCredit_lnk_droppedFrames (s : State) : (queueCredit s).lnk.droppedFrames = s.lnk.droppedFrames := by
  unfold queueCredit; try dsimp only
  (repeat' split) <;> simp
@[simp] theorem queueCredit_lnk_silentEntries (s : State) : (queueCredit s).lnk.silentEntries = s.lnk.silentEntries := by
  unfold queueCredit; try dsimp only
  (repeat' split) <;> simp
@[simp] theorem removeClaim_pending (k : LoadKind) (q : Byte) (s : State) : (removeClaim k q s).pending = s.pending := by
  unfold removeClaim; try dsimp only
  (repeat' split) <;> simp
@[simp] theorem removeClaim_due (k : LoadKind) (q : Byte) (s : State) : (removeClaim k q s).due = s.due := by
  unfold removeClaim; try dsimp only
  (repeat' split) <;> simp
@[simp] theorem removeClaim_phase (k : LoadKind) (q : Byte) (s : State) : (removeClaim k q s).phase = s.phase := by
  unfold removeClaim; try dsimp only
  (repeat' split) <;> simp
@[simp] theorem removeClaim_inputs (k : LoadKind) (q : Byte) (s : State) : (removeClaim k q s).inputs = s.inputs := by
  unfold removeClaim; try dsimp only
  (repeat' split) <;> simp
@[simp] theorem removeClaim_outputs (k : LoadKind) (q : Byte) (s : State) : (removeClaim k q s).outputs = s.outputs := by
  unfold removeClaim; try dsimp only
  (repeat' split) <;> simp
@[simp] theorem removeClaim_params (k : LoadKind) (q : Byte) (s : State) : (removeClaim k q s).params = s.params := by
  unfold removeClaim; try dsimp only
  (repeat' split) <;> simp
@[simp] theorem removeClaim_cnu (k : LoadKind) (q : Byte) (s : State) : (removeClaim k q s).cnu = s.cnu := by
  unfold removeClaim; try dsimp only
  (repeat' split) <;> simp
@[simp] theorem removeClaim_cru (k : LoadKind) (q : Byte) (s : State) : (removeClaim k q s).cru = s.cru := by
  unfold removeClaim; try dsimp only
  (repeat' split) <;> simp
@[simp] theorem removeClaim_cca (k : LoadKind) (q : Byte) (s : State) : (removeClaim k q s).cca = s.cca := by
  unfold removeClaim; try dsimp only
  (repeat' split) <;> simp
@[simp] theorem removeClaim_vsq (k : LoadKind) (q : Byte) (s : State) : (removeClaim k q s).vsq = s.vsq := by
  unfold removeClaim; try dsimp only
  (repeat' split) <;> simp
@[simp] theorem removeClaim_mxd (k : LoadKind) (q : Byte) (s : State) : (removeClaim k q s).mxd = s.mxd := by
  unfold removeClaim; try dsimp only
  (repeat' split) <;> simp
@[simp] theorem removeClaim_rfc (k : LoadKind) (q : Byte) (s : State) : (removeClaim k q s).rfc = s.rfc := by
  unfold removeClaim; try dsimp only
  (repeat' split) <;> simp
@[simp] theorem removeClaim_lbu (k : LoadKind) (q : Byte) (s : State) : (removeClaim k q s).lbu = s.lbu := by
  unfold removeClaim; try dsimp only
  (repeat' split) <;> simp
@[simp] theorem removeClaim_ssu (k : LoadKind) (q : Byte) (s : State) : (removeClaim k q s).ssu = s.ssu := by
  unfold removeClaim; try dsimp only
  (repeat' split) <;> simp
@[simp] theorem removeClaim_lnk_state (k : LoadKind) (q : Byte) (s : State) : (removeClaim k q s).lnk.state = s.lnk.state := by
  unfold removeClaim; try dsimp only
  (repeat' split) <;> simp
@[simp] theorem removeClaim_lnk_heard (k : LoadKind) (q : Byte) (s : State) : (removeClaim k q s).lnk.heard = s.lnk.heard := by
  unfold removeClaim; try dsimp only
  (repeat' split) <;> simp
@[simp] theorem removeClaim_lnk_acknowledged (k : LoadKind) (q : Byte) (s : State) : (removeClaim k q s).lnk.acknowledged = s.lnk.acknowledged := by
  unfold removeClaim; try dsimp only
  (repeat' split) <;> simp
@[simp] theorem removeClaim_lnk_isolationTimer (k : LoadKind) (q : Byte) (s : State) : (removeClaim k q s).lnk.isolationTimer = s.lnk.isolationTimer := by
  unfold removeClaim; try dsimp only
  (repeat' split) <;> simp
@[simp] theorem removeClaim_lnk_change (k : LoadKind) (q : Byte) (s : State) : (removeClaim k q s).lnk.change = s.lnk.change := by
  unfold removeClaim; try dsimp only
  (repeat' split) <;> simp
@[simp] theorem removeClaim_lnk_periodTimer (k : LoadKind) (q : Byte) (s : State) : (removeClaim k q s).lnk.periodTimer = s.lnk.periodTimer := by
  unfold removeClaim; try dsimp only
  (repeat' split) <;> simp
@[simp] theorem removeClaim_lnk_silentTimer (k : LoadKind) (q : Byte) (s : State) : (removeClaim k q s).lnk.silentTimer = s.lnk.silentTimer := by
  unfold removeClaim; try dsimp only
  (repeat' split) <;> simp
@[simp] theorem removeClaim_lnk_failures (k : LoadKind) (q : Byte) (s : State) : (removeClaim k q s).lnk.failures = s.lnk.failures := by
  unfold removeClaim; try dsimp only
  (repeat' split) <;> simp
@[simp] theorem removeClaim_lnk_unknownFrames (k : LoadKind) (q : Byte) (s : State) : (removeClaim k q s).lnk.unknownFrames = s.lnk.unknownFrames := by
  unfold removeClaim; try dsimp only
  (repeat' split) <;> simp
@[simp] theorem removeClaim_lnk_droppedFrames (k : LoadKind) (q : Byte) (s : State) : (removeClaim k q s).lnk.droppedFrames = s.lnk.droppedFrames := by
  unfold removeClaim; try dsimp only
  (repeat' split) <;> simp
@[simp] theorem removeClaim_lnk_silentEntries (k : LoadKind) (q : Byte) (s : State) : (removeClaim k q s).lnk.silentEntries = s.lnk.silentEntries := by
  unfold removeClaim; try dsimp only
  (repeat' split) <;> simp
@[simp] theorem beginFrame_pending (s : State) : (beginFrame s).pending = s.pending := by
  unfold beginFrame; try dsimp only
  (repeat' split) <;> simp
@[simp] theorem beginFrame_due (s : State) : (beginFrame s).due = s.due := by
  unfold beginFrame; try dsimp only
  (repeat' split) <;> simp
@[simp] theorem beginFrame_phase (s : State) : (beginFrame s).phase = s.phase := by
  unfold beginFrame; try dsimp only
  (repeat' split) <;> simp
@[simp] theorem beginFrame_inputs (s : State) : (beginFrame s).inputs = s.inputs := by
  unfold beginFrame; try dsimp only
  (repeat' split) <;> simp
@[simp] theorem beginFrame_outputs (s : State) : (beginFrame s).outputs = s.outputs := by
  unfold beginFrame; try dsimp only
  (repeat' split) <;> simp
@[simp] theorem beginFrame_params (s : State) : (beginFrame s).params = s.params := by
  unfold beginFrame; try dsimp only
  (repeat' split) <;> simp
@[simp] theorem beginFrame_cnu (s : State) : (beginFrame s).cnu = s.cnu := by
  unfold beginFrame; try dsimp only
  (repeat' split) <;> simp
@[simp] theorem beginFrame_cru (s : State) : (beginFrame s).cru = s.cru := by
  unfold beginFrame; try dsimp only
  (repeat' split) <;> simp
@[simp] theorem beginFrame_cca (s : State) : (beginFrame s).cca = s.cca := by
  unfold beginFrame; try dsimp only
  (repeat' split) <;> simp
@[simp] theorem beginFrame_vsq (s : State) : (beginFrame s).vsq = s.vsq := by
  unfold beginFrame; try dsimp only
  (repeat' split) <;> simp
@[simp] theorem beginFrame_mxd (s : State) : (beginFrame s).mxd = s.mxd := by
  unfold beginFrame; try dsimp only
  (repeat' split) <;> simp
@[simp] theorem beginFrame_rfc (s : State) : (beginFrame s).rfc = s.rfc := by
  unfold beginFrame; try dsimp only
  (repeat' split) <;> simp
@[simp] theorem beginFrame_lbu (s : State) : (beginFrame s).lbu = s.lbu := by
  unfold beginFrame; try dsimp only
  (repeat' split) <;> simp
@[simp] theorem beginFrame_ssu (s : State) : (beginFrame s).ssu = s.ssu := by
  unfold beginFrame; try dsimp only
  (repeat' split) <;> simp
@[simp] theorem beginFrame_lnk_state (s : State) : (beginFrame s).lnk.state = s.lnk.state := by
  unfold beginFrame; try dsimp only
  (repeat' split) <;> simp
@[simp] theorem beginFrame_lnk_heard (s : State) : (beginFrame s).lnk.heard = s.lnk.heard := by
  unfold beginFrame; try dsimp only
  (repeat' split) <;> simp
@[simp] theorem beginFrame_lnk_acknowledged (s : State) : (beginFrame s).lnk.acknowledged = s.lnk.acknowledged := by
  unfold beginFrame; try dsimp only
  (repeat' split) <;> simp
@[simp] theorem beginFrame_lnk_isolationTimer (s : State) : (beginFrame s).lnk.isolationTimer = s.lnk.isolationTimer := by
  unfold beginFrame; try dsimp only
  (repeat' split) <;> simp
@[simp] theorem beginFrame_lnk_change (s : State) : (beginFrame s).lnk.change = s.lnk.change := by
  unfold beginFrame; try dsimp only
  (repeat' split) <;> simp
@[simp] theorem beginFrame_lnk_periodTimer (s : State) : (beginFrame s).lnk.periodTimer = s.lnk.periodTimer := by
  unfold beginFrame; try dsimp only
  (repeat' split) <;> simp
@[simp] theorem beginFrame_lnk_silentTimer (s : State) : (beginFrame s).lnk.silentTimer = s.lnk.silentTimer := by
  unfold beginFrame; try dsimp only
  (repeat' split) <;> simp
@[simp] theorem beginFrame_lnk_failures (s : State) : (beginFrame s).lnk.failures = s.lnk.failures := by
  unfold beginFrame; try dsimp only
  (repeat' split) <;> simp
@[simp] theorem beginFrame_lnk_unknownFrames (s : State) : (beginFrame s).lnk.unknownFrames = s.lnk.unknownFrames := by
  unfold beginFrame; try dsimp only
  (repeat' split) <;> simp
@[simp] theorem beginFrame_lnk_droppedFrames (s : State) : (beginFrame s).lnk.droppedFrames = s.lnk.droppedFrames := by
  unfold beginFrame; try dsimp only
  (repeat' split) <;> simp
@[simp] theorem beginFrame_lnk_silentEntries (s : State) : (beginFrame s).lnk.silentEntries = s.lnk.silentEntries := by
  unfold beginFrame; try dsimp only
  (repeat' split) <;> simp
@[simp] theorem standAgain_pending (s : State) : (standAgain s).pending = s.pending := by
  unfold standAgain; try dsimp only
  (repeat' split) <;> simp
@[simp] theorem standAgain_due (s : State) : (standAgain s).due = s.due := by
  unfold standAgain; try dsimp only
  (repeat' split) <;> simp
@[simp] theorem standAgain_phase (s : State) : (standAgain s).phase = s.phase := by
  unfold standAgain; try dsimp only
  (repeat' split) <;> simp
@[simp] theorem standAgain_inputs (s : State) : (standAgain s).inputs = s.inputs := by
  unfold standAgain; try dsimp only
  (repeat' split) <;> simp
@[simp] theorem standAgain_outputs (s : State) : (standAgain s).outputs = s.outputs := by
  unfold standAgain; try dsimp only
  (repeat' split) <;> simp
@[simp] theorem standAgain_params (s : State) : (standAgain s).params = s.params := by
  unfold standAgain; try dsimp only
  (repeat' split) <;> simp
@[simp] theorem standAgain_cnu (s : State) : (standAgain s).cnu = s.cnu := by
  unfold standAgain; try dsimp only
  (repeat' split) <;> simp
@[simp] theorem standAgain_cru (s : State) : (standAgain s).cru = s.cru := by
  unfold standAgain; try dsimp only
  (repeat' split) <;> simp
@[simp] theorem standAgain_cca (s : State) : (standAgain s).cca = s.cca := by
  unfold standAgain; try dsimp only
  (repeat' split) <;> simp
@[simp] theorem standAgain_vsq (s : State) : (standAgain s).vsq = s.vsq := by
  unfold standAgain; try dsimp only
  (repeat' split) <;> simp
@[simp] theorem standAgain_mxd (s : State) : (standAgain s).mxd = s.mxd := by
  unfold standAgain; try dsimp only
  (repeat' split) <;> simp
@[simp] theorem standAgain_rfc (s : State) : (standAgain s).rfc = s.rfc := by
  unfold standAgain; try dsimp only
  (repeat' split) <;> simp
@[simp] theorem standAgain_lbu (s : State) : (standAgain s).lbu = s.lbu := by
  unfold standAgain; try dsimp only
  (repeat' split) <;> simp
@[simp] theorem standAgain_ssu (s : State) : (standAgain s).ssu = s.ssu := by
  unfold standAgain; try dsimp only
  (repeat' split) <;> simp
@[simp] theorem standAgain_lnk_state (s : State) : (standAgain s).lnk.state = s.lnk.state := by
  unfold standAgain; try dsimp only
  (repeat' split) <;> simp
@[simp] theorem standAgain_lnk_heard (s : State) : (standAgain s).lnk.heard = s.lnk.heard := by
  unfold standAgain; try dsimp only
  (repeat' split) <;> simp
@[simp] theorem standAgain_lnk_acknowledged (s : State) : (standAgain s).lnk.acknowledged = s.lnk.acknowledged := by
  unfold standAgain; try dsimp only
  (repeat' split) <;> simp
@[simp] theorem standAgain_lnk_isolationTimer (s : State) : (standAgain s).lnk.isolationTimer = s.lnk.isolationTimer := by
  unfold standAgain; try dsimp only
  (repeat' split) <;> simp
@[simp] theorem standAgain_lnk_change (s : State) : (standAgain s).lnk.change = s.lnk.change := by
  unfold standAgain; try dsimp only
  (repeat' split) <;> simp
@[simp] theorem standAgain_lnk_periodTimer (s : State) : (standAgain s).lnk.periodTimer = s.lnk.periodTimer := by
  unfold standAgain; try dsimp only
  (repeat' split) <;> simp
@[simp] theorem standAgain_lnk_silentTimer (s : State) : (standAgain s).lnk.silentTimer = s.lnk.silentTimer := by
  unfold standAgain; try dsimp only
  (repeat' split) <;> simp
@[simp] theorem standAgain_lnk_failures (s : State) : (standAgain s).lnk.failures = s.lnk.failures := by
  unfold standAgain; try dsimp only
  (repeat' split) <;> simp
@[simp] theorem standAgain_lnk_unknownFrames (s : State) : (standAgain s).lnk.unknownFrames = s.lnk.unknownFrames := by
  unfold standAgain; try dsimp only
  (repeat' split) <;> simp
@[simp] theorem standAgain_lnk_droppedFrames (s : State) : (standAgain s).lnk.droppedFrames = s.lnk.droppedFrames := by
  unfold standAgain; try dsimp only
  (repeat' split) <;> simp
@[simp] theorem standAgain_lnk_silentEntries (s : State) : (standAgain s).lnk.silentEntries = s.lnk.silentEntries := by
  unfold standAgain; try dsimp only
  (repeat' split) <;> simp
@[simp] theorem leaveQueue_pending (s : State) : (leaveQueue s).pending = s.pending := by
  unfold leaveQueue; try dsimp only
  (repeat' split) <;> simp
@[simp] theorem leaveQueue_due (s : State) : (leaveQueue s).due = s.due := by
  unfold leaveQueue; try dsimp only
  (repeat' split) <;> simp
@[simp] theorem leaveQueue_phase (s : State) : (leaveQueue s).phase = s.phase := by
  unfold leaveQueue; try dsimp only
  (repeat' split) <;> simp
@[simp] theorem leaveQueue_inputs (s : State) : (leaveQueue s).inputs = s.inputs := by
  unfold leaveQueue; try dsimp only
  (repeat' split) <;> simp
@[simp] theorem leaveQueue_outputs (s : State) : (leaveQueue s).outputs = s.outputs := by
  unfold leaveQueue; try dsimp only
  (repeat' split) <;> simp
@[simp] theorem leaveQueue_params (s : State) : (leaveQueue s).params = s.params := by
  unfold leaveQueue; try dsimp only
  (repeat' split) <;> simp
@[simp] theorem leaveQueue_cnu (s : State) : (leaveQueue s).cnu = s.cnu := by
  unfold leaveQueue; try dsimp only
  (repeat' split) <;> simp
@[simp] theorem leaveQueue_cru (s : State) : (leaveQueue s).cru = s.cru := by
  unfold leaveQueue; try dsimp only
  (repeat' split) <;> simp
@[simp] theorem leaveQueue_cca (s : State) : (leaveQueue s).cca = s.cca := by
  unfold leaveQueue; try dsimp only
  (repeat' split) <;> simp
@[simp] theorem leaveQueue_vsq (s : State) : (leaveQueue s).vsq = s.vsq := by
  unfold leaveQueue; try dsimp only
  (repeat' split) <;> simp
@[simp] theorem leaveQueue_mxd (s : State) : (leaveQueue s).mxd = s.mxd := by
  unfold leaveQueue; try dsimp only
  (repeat' split) <;> simp
@[simp] theorem leaveQueue_rfc (s : State) : (leaveQueue s).rfc = s.rfc := by
  unfold leaveQueue; try dsimp only
  (repeat' split) <;> simp
@[simp] theorem leaveQueue_lbu (s : State) : (leaveQueue s).lbu = s.lbu := by
  unfold leaveQueue; try dsimp only
  (repeat' split) <;> simp
@[simp] theorem leaveQueue_ssu (s : State) : (leaveQueue s).ssu = s.ssu := by
  unfold leaveQueue; try dsimp only
  (repeat' split) <;> simp
@[simp] theorem leaveQueue_lnk_state (s : State) : (leaveQueue s).lnk.state = s.lnk.state := by
  unfold leaveQueue; try dsimp only
  (repeat' split) <;> simp
@[simp] theorem leaveQueue_lnk_heard (s : State) : (leaveQueue s).lnk.heard = s.lnk.heard := by
  unfold leaveQueue; try dsimp only
  (repeat' split) <;> simp
@[simp] theorem leaveQueue_lnk_acknowledged (s : State) : (leaveQueue s).lnk.acknowledged = s.lnk.acknowledged := by
  unfold leaveQueue; try dsimp only
  (repeat' split) <;> simp
@[simp] theorem leaveQueue_lnk_isolationTimer (s : State) : (leaveQueue s).lnk.isolationTimer = s.lnk.isolationTimer := by
  unfold leaveQueue; try dsimp only
  (repeat' split) <;> simp
@[simp] theorem leaveQueue_lnk_change (s : State) : (leaveQueue s).lnk.change = s.lnk.change := by
  unfold leaveQueue; try dsimp only
  (repeat' split) <;> simp
@[simp] theorem leaveQueue_lnk_periodTimer (s : State) : (leaveQueue s).lnk.periodTimer = s.lnk.periodTimer := by
  unfold leaveQueue; try dsimp only
  (repeat' split) <;> simp
@[simp] theorem leaveQueue_lnk_silentTimer (s : State) : (leaveQueue s).lnk.silentTimer = s.lnk.silentTimer := by
  unfold leaveQueue; try dsimp only
  (repeat' split) <;> simp
@[simp] theorem leaveQueue_lnk_failures (s : State) : (leaveQueue s).lnk.failures = s.lnk.failures := by
  unfold leaveQueue; try dsimp only
  (repeat' split) <;> simp
@[simp] theorem leaveQueue_lnk_unknownFrames (s : State) : (leaveQueue s).lnk.unknownFrames = s.lnk.unknownFrames := by
  unfold leaveQueue; try dsimp only
  (repeat' split) <;> simp
@[simp] theorem leaveQueue_lnk_droppedFrames (s : State) : (leaveQueue s).lnk.droppedFrames = s.lnk.droppedFrames := by
  unfold leaveQueue; try dsimp only
  (repeat' split) <;> simp
@[simp] theorem leaveQueue_lnk_silentEntries (s : State) : (leaveQueue s).lnk.silentEntries = s.lnk.silentEntries := by
  unfold leaveQueue; try dsimp only
  (repeat' split) <;> simp
@[simp] theorem countFailure_pending (s : State) : (countFailure s).pending = s.pending := by
  unfold countFailure; try dsimp only
  (repeat' split) <;> simp
@[simp] theorem countFailure_due (s : State) : (countFailure s).due = s.due := by
  unfold countFailure; try dsimp only
  (repeat' split) <;> simp
@[simp] theorem countFailure_phase (s : State) : (countFailure s).phase = s.phase := by
  unfold countFailure; try dsimp only
  (repeat' split) <;> simp
@[simp] theorem countFailure_inputs (s : State) : (countFailure s).inputs = s.inputs := by
  unfold countFailure; try dsimp only
  (repeat' split) <;> simp
@[simp] theorem countFailure_outputs (s : State) : (countFailure s).outputs = s.outputs := by
  unfold countFailure; try dsimp only
  (repeat' split) <;> simp
@[simp] theorem countFailure_params (s : State) : (countFailure s).params = s.params := by
  unfold countFailure; try dsimp only
  (repeat' split) <;> simp
@[simp] theorem countFailure_cnu (s : State) : (countFailure s).cnu = s.cnu := by
  unfold countFailure; try dsimp only
  (repeat' split) <;> simp
@[simp] theorem countFailure_cru (s : State) : (countFailure s).cru = s.cru := by
  unfold countFailure; try dsimp only
  (repeat' split) <;> simp
@[simp] theorem countFailure_cca (s : State) : (countFailure s).cca = s.cca := by
  unfold countFailure; try dsimp only
  (repeat' split) <;> simp
@[simp] theorem countFailure_vsq (s : State) : (countFailure s).vsq = s.vsq := by
  unfold countFailure; try dsimp only
  (repeat' split) <;> simp
@[simp] theorem countFailure_mxd (s : State) : (countFailure s).mxd = s.mxd := by
  unfold countFailure; try dsimp only
  (repeat' split) <;> simp
@[simp] theorem countFailure_rfc (s : State) : (countFailure s).rfc = s.rfc := by
  unfold countFailure; try dsimp only
  (repeat' split) <;> simp
@[simp] theorem countFailure_lbu (s : State) : (countFailure s).lbu = s.lbu := by
  unfold countFailure; try dsimp only
  (repeat' split) <;> simp
@[simp] theorem countFailure_ssu (s : State) : (countFailure s).ssu = s.ssu := by
  unfold countFailure; try dsimp only
  (repeat' split) <;> simp
@[simp] theorem countFailure_lnk_state (s : State) : (countFailure s).lnk.state = s.lnk.state := by
  unfold countFailure; try dsimp only
  (repeat' split) <;> simp
@[simp] theorem countFailure_lnk_heard (s : State) : (countFailure s).lnk.heard = s.lnk.heard := by
  unfold countFailure; try dsimp only
  (repeat' split) <;> simp
@[simp] theorem countFailure_lnk_acknowledged (s : State) : (countFailure s).lnk.acknowledged = s.lnk.acknowledged := by
  unfold countFailure; try dsimp only
  (repeat' split) <;> simp
@[simp] theorem countFailure_lnk_isolationTimer (s : State) : (countFailure s).lnk.isolationTimer = s.lnk.isolationTimer := by
  unfold countFailure; try dsimp only
  (repeat' split) <;> simp
@[simp] theorem countFailure_lnk_change (s : State) : (countFailure s).lnk.change = s.lnk.change := by
  unfold countFailure; try dsimp only
  (repeat' split) <;> simp
@[simp] theorem countFailure_lnk_periodTimer (s : State) : (countFailure s).lnk.periodTimer = s.lnk.periodTimer := by
  unfold countFailure; try dsimp only
  (repeat' split) <;> simp
@[simp] theorem countFailure_lnk_silentTimer (s : State) : (countFailure s).lnk.silentTimer = s.lnk.silentTimer := by
  unfold countFailure; try dsimp only
  (repeat' split) <;> simp
@[simp] theorem countFailure_lnk_unknownFrames (s : State) : (countFailure s).lnk.unknownFrames = s.lnk.unknownFrames := by
  unfold countFailure; try dsimp only
  (repeat' split) <;> simp
@[simp] theorem countFailure_lnk_droppedFrames (s : State) : (countFailure s).lnk.droppedFrames = s.lnk.droppedFrames := by
  unfold countFailure; try dsimp only
  (repeat' split) <;> simp
@[simp] theorem countFailure_lnk_silentEntries (s : State) : (countFailure s).lnk.silentEntries = s.lnk.silentEntries := by
  unfold countFailure; try dsimp only
  (repeat' split) <;> simp
@[simp] theorem dropFrame_pending (s : State) : (dropFrame s).pending = s.pending := by
  unfold dropFrame; try dsimp only
  (repeat' split) <;> simp
@[simp] theorem dropFrame_due (s : State) : (dropFrame s).due = s.due := by
  unfold dropFrame; try dsimp only
  (repeat' split) <;> simp
@[simp] theorem dropFrame_phase (s : State) : (dropFrame s).phase = s.phase := by
  unfold dropFrame; try dsimp only
  (repeat' split) <;> simp
@[simp] theorem dropFrame_inputs (s : State) : (dropFrame s).inputs = s.inputs := by
  unfold dropFrame; try dsimp only
  (repeat' split) <;> simp
@[simp] theorem dropFrame_outputs (s : State) : (dropFrame s).outputs = s.outputs := by
  unfold dropFrame; try dsimp only
  (repeat' split) <;> simp
@[simp] theorem dropFrame_params (s : State) : (dropFrame s).params = s.params := by
  unfold dropFrame; try dsimp only
  (repeat' split) <;> simp
@[simp] theorem dropFrame_cnu (s : State) : (dropFrame s).cnu = s.cnu := by
  unfold dropFrame; try dsimp only
  (repeat' split) <;> simp
@[simp] theorem dropFrame_cru (s : State) : (dropFrame s).cru = s.cru := by
  unfold dropFrame; try dsimp only
  (repeat' split) <;> simp
@[simp] theorem dropFrame_cca (s : State) : (dropFrame s).cca = s.cca := by
  unfold dropFrame; try dsimp only
  (repeat' split) <;> simp
@[simp] theorem dropFrame_vsq (s : State) : (dropFrame s).vsq = s.vsq := by
  unfold dropFrame; try dsimp only
  (repeat' split) <;> simp
@[simp] theorem dropFrame_mxd (s : State) : (dropFrame s).mxd = s.mxd := by
  unfold dropFrame; try dsimp only
  (repeat' split) <;> simp
@[simp] theorem dropFrame_rfc (s : State) : (dropFrame s).rfc = s.rfc := by
  unfold dropFrame; try dsimp only
  (repeat' split) <;> simp
@[simp] theorem dropFrame_lbu (s : State) : (dropFrame s).lbu = s.lbu := by
  unfold dropFrame; try dsimp only
  (repeat' split) <;> simp
@[simp] theorem dropFrame_ssu (s : State) : (dropFrame s).ssu = s.ssu := by
  unfold dropFrame; try dsimp only
  (repeat' split) <;> simp
@[simp] theorem dropFrame_lnk_state (s : State) : (dropFrame s).lnk.state = s.lnk.state := by
  unfold dropFrame; try dsimp only
  (repeat' split) <;> simp
@[simp] theorem dropFrame_lnk_heard (s : State) : (dropFrame s).lnk.heard = s.lnk.heard := by
  unfold dropFrame; try dsimp only
  (repeat' split) <;> simp
@[simp] theorem dropFrame_lnk_acknowledged (s : State) : (dropFrame s).lnk.acknowledged = s.lnk.acknowledged := by
  unfold dropFrame; try dsimp only
  (repeat' split) <;> simp
@[simp] theorem dropFrame_lnk_isolationTimer (s : State) : (dropFrame s).lnk.isolationTimer = s.lnk.isolationTimer := by
  unfold dropFrame; try dsimp only
  (repeat' split) <;> simp
@[simp] theorem dropFrame_lnk_change (s : State) : (dropFrame s).lnk.change = s.lnk.change := by
  unfold dropFrame; try dsimp only
  (repeat' split) <;> simp
@[simp] theorem dropFrame_lnk_periodTimer (s : State) : (dropFrame s).lnk.periodTimer = s.lnk.periodTimer := by
  unfold dropFrame; try dsimp only
  (repeat' split) <;> simp
@[simp] theorem dropFrame_lnk_silentTimer (s : State) : (dropFrame s).lnk.silentTimer = s.lnk.silentTimer := by
  unfold dropFrame; try dsimp only
  (repeat' split) <;> simp
@[simp] theorem dropFrame_lnk_failures (s : State) : (dropFrame s).lnk.failures = s.lnk.failures := by
  unfold dropFrame; try dsimp only
  (repeat' split) <;> simp
@[simp] theorem dropFrame_lnk_unknownFrames (s : State) : (dropFrame s).lnk.unknownFrames = s.lnk.unknownFrames := by
  unfold dropFrame; try dsimp only
  (repeat' split) <;> simp
@[simp] theorem dropFrame_lnk_silentEntries (s : State) : (dropFrame s).lnk.silentEntries = s.lnk.silentEntries := by
  unfold dropFrame; try dsimp only
  (repeat' split) <;> simp
@[simp] theorem countUnknown_pending (s : State) : (countUnknown s).pending = s.pending := by
  unfold countUnknown; try dsimp only
  (repeat' split) <;> simp
@[simp] theorem countUnknown_due (s : State) : (countUnknown s).due = s.due := by
  unfold countUnknown; try dsimp only
  (repeat' split) <;> simp
@[simp] theorem countUnknown_phase (s : State) : (countUnknown s).phase = s.phase := by
  unfold countUnknown; try dsimp only
  (repeat' split) <;> simp
@[simp] theorem countUnknown_inputs (s : State) : (countUnknown s).inputs = s.inputs := by
  unfold countUnknown; try dsimp only
  (repeat' split) <;> simp
@[simp] theorem countUnknown_outputs (s : State) : (countUnknown s).outputs = s.outputs := by
  unfold countUnknown; try dsimp only
  (repeat' split) <;> simp
@[simp] theorem countUnknown_params (s : State) : (countUnknown s).params = s.params := by
  unfold countUnknown; try dsimp only
  (repeat' split) <;> simp
@[simp] theorem countUnknown_cnu (s : State) : (countUnknown s).cnu = s.cnu := by
  unfold countUnknown; try dsimp only
  (repeat' split) <;> simp
@[simp] theorem countUnknown_cru (s : State) : (countUnknown s).cru = s.cru := by
  unfold countUnknown; try dsimp only
  (repeat' split) <;> simp
@[simp] theorem countUnknown_cca (s : State) : (countUnknown s).cca = s.cca := by
  unfold countUnknown; try dsimp only
  (repeat' split) <;> simp
@[simp] theorem countUnknown_vsq (s : State) : (countUnknown s).vsq = s.vsq := by
  unfold countUnknown; try dsimp only
  (repeat' split) <;> simp
@[simp] theorem countUnknown_mxd (s : State) : (countUnknown s).mxd = s.mxd := by
  unfold countUnknown; try dsimp only
  (repeat' split) <;> simp
@[simp] theorem countUnknown_rfc (s : State) : (countUnknown s).rfc = s.rfc := by
  unfold countUnknown; try dsimp only
  (repeat' split) <;> simp
@[simp] theorem countUnknown_lbu (s : State) : (countUnknown s).lbu = s.lbu := by
  unfold countUnknown; try dsimp only
  (repeat' split) <;> simp
@[simp] theorem countUnknown_ssu (s : State) : (countUnknown s).ssu = s.ssu := by
  unfold countUnknown; try dsimp only
  (repeat' split) <;> simp
@[simp] theorem countUnknown_lnk_state (s : State) : (countUnknown s).lnk.state = s.lnk.state := by
  unfold countUnknown; try dsimp only
  (repeat' split) <;> simp
@[simp] theorem countUnknown_lnk_queue (s : State) : (countUnknown s).lnk.queue = s.lnk.queue := by
  unfold countUnknown; try dsimp only
  (repeat' split) <;> simp
@[simp] theorem countUnknown_lnk_heard (s : State) : (countUnknown s).lnk.heard = s.lnk.heard := by
  unfold countUnknown; try dsimp only
  (repeat' split) <;> simp
@[simp] theorem countUnknown_lnk_acknowledged (s : State) : (countUnknown s).lnk.acknowledged = s.lnk.acknowledged := by
  unfold countUnknown; try dsimp only
  (repeat' split) <;> simp
@[simp] theorem countUnknown_lnk_isolationTimer (s : State) : (countUnknown s).lnk.isolationTimer = s.lnk.isolationTimer := by
  unfold countUnknown; try dsimp only
  (repeat' split) <;> simp
@[simp] theorem countUnknown_lnk_change (s : State) : (countUnknown s).lnk.change = s.lnk.change := by
  unfold countUnknown; try dsimp only
  (repeat' split) <;> simp
@[simp] theorem countUnknown_lnk_periodTimer (s : State) : (countUnknown s).lnk.periodTimer = s.lnk.periodTimer := by
  unfold countUnknown; try dsimp only
  (repeat' split) <;> simp
@[simp] theorem countUnknown_lnk_silentTimer (s : State) : (countUnknown s).lnk.silentTimer = s.lnk.silentTimer := by
  unfold countUnknown; try dsimp only
  (repeat' split) <;> simp
@[simp] theorem countUnknown_lnk_failures (s : State) : (countUnknown s).lnk.failures = s.lnk.failures := by
  unfold countUnknown; try dsimp only
  (repeat' split) <;> simp
@[simp] theorem countUnknown_lnk_droppedFrames (s : State) : (countUnknown s).lnk.droppedFrames = s.lnk.droppedFrames := by
  unfold countUnknown; try dsimp only
  (repeat' split) <;> simp
@[simp] theorem countUnknown_lnk_silentEntries (s : State) : (countUnknown s).lnk.silentEntries = s.lnk.silentEntries := by
  unfold countUnknown; try dsimp only
  (repeat' split) <;> simp

end Sys2Proof.Machine.Laws
end

