-- ==== Sys2Proof/Laws/FramesCredit.lean ====
section
/-! SUPPORT. Frames: what each shared operation of the Coin Unit and the Credit Unit leaves as it was, one lemma per operation and part. -/

set_option linter.unusedTactic false
set_option linter.unnecessarySeqFocus false
set_option linter.unreachableTactic false

namespace Sys2Proof.Machine.Laws

@[simp] theorem reevaluateExact_pending (s : State) : (reevaluateExact s).pending = s.pending := by
  unfold reevaluateExact; try dsimp only
  (repeat' split) <;> simp
@[simp] theorem reevaluateExact_due (s : State) : (reevaluateExact s).due = s.due := by
  unfold reevaluateExact; try dsimp only
  (repeat' split) <;> simp
@[simp] theorem reevaluateExact_phase (s : State) : (reevaluateExact s).phase = s.phase := by
  unfold reevaluateExact; try dsimp only
  (repeat' split) <;> simp
@[simp] theorem reevaluateExact_inputs (s : State) : (reevaluateExact s).inputs = s.inputs := by
  unfold reevaluateExact; try dsimp only
  (repeat' split) <;> simp
@[simp] theorem reevaluateExact_outputs (s : State) : (reevaluateExact s).outputs = s.outputs := by
  unfold reevaluateExact; try dsimp only
  (repeat' split) <;> simp
@[simp] theorem reevaluateExact_params (s : State) : (reevaluateExact s).params = s.params := by
  unfold reevaluateExact; try dsimp only
  (repeat' split) <;> simp
@[simp] theorem reevaluateExact_cnu (s : State) : (reevaluateExact s).cnu = s.cnu := by
  unfold reevaluateExact; try dsimp only
  (repeat' split) <;> simp
@[simp] theorem reevaluateExact_cca (s : State) : (reevaluateExact s).cca = s.cca := by
  unfold reevaluateExact; try dsimp only
  (repeat' split) <;> simp
@[simp] theorem reevaluateExact_vsq (s : State) : (reevaluateExact s).vsq = s.vsq := by
  unfold reevaluateExact; try dsimp only
  (repeat' split) <;> simp
@[simp] theorem reevaluateExact_mxd (s : State) : (reevaluateExact s).mxd = s.mxd := by
  unfold reevaluateExact; try dsimp only
  (repeat' split) <;> simp
@[simp] theorem reevaluateExact_rfc (s : State) : (reevaluateExact s).rfc = s.rfc := by
  unfold reevaluateExact; try dsimp only
  (repeat' split) <;> simp
@[simp] theorem reevaluateExact_lbu (s : State) : (reevaluateExact s).lbu = s.lbu := by
  unfold reevaluateExact; try dsimp only
  (repeat' split) <;> simp
@[simp] theorem reevaluateExact_ssu (s : State) : (reevaluateExact s).ssu = s.ssu := by
  unfold reevaluateExact; try dsimp only
  (repeat' split) <;> simp
@[simp] theorem reevaluateExact_cru_session (s : State) : (reevaluateExact s).cru.session = s.cru.session := by
  unfold reevaluateExact; try dsimp only
  (repeat' split) <;> simp
@[simp] theorem reevaluateExact_cru_payout (s : State) : (reevaluateExact s).cru.payout = s.cru.payout := by
  unfold reevaluateExact; try dsimp only
  (repeat' split) <;> simp
@[simp] theorem reevaluateExact_cru_solenoid (s : State) : (reevaluateExact s).cru.solenoid = s.cru.solenoid := by
  unfold reevaluateExact; try dsimp only
  (repeat' split) <;> simp
@[simp] theorem reevaluateExact_cru_books (s : State) : (reevaluateExact s).cru.books = s.cru.books := by
  unfold reevaluateExact; try dsimp only
  (repeat' split) <;> simp
@[simp] theorem reevaluateExact_cru_refresh (s : State) : (reevaluateExact s).cru.refresh = s.cru.refresh := by
  unfold reevaluateExact; try dsimp only
  (repeat' split) <;> simp
@[simp] theorem reevaluateExact_cru_owed (s : State) : (reevaluateExact s).cru.owed = s.cru.owed := by
  unfold reevaluateExact; try dsimp only
  (repeat' split) <;> simp
@[simp] theorem reevaluateExact_cru_probeShort (s : State) : (reevaluateExact s).cru.probeShort = s.cru.probeShort := by
  unfold reevaluateExact; try dsimp only
  (repeat' split) <;> simp
@[simp] theorem reevaluateExact_cru_strayExits (s : State) : (reevaluateExact s).cru.strayExits = s.cru.strayExits := by
  unfold reevaluateExact; try dsimp only
  (repeat' split) <;> simp
@[simp] theorem reevaluateExact_cru_versionRaised (s : State) : (reevaluateExact s).cru.versionRaised = s.cru.versionRaised := by
  unfold reevaluateExact; try dsimp only
  (repeat' split) <;> simp
@[simp] theorem reevaluateExact_lnk_state (s : State) : (reevaluateExact s).lnk.state = s.lnk.state := by
  unfold reevaluateExact; try dsimp only
  (repeat' split) <;> simp
@[simp] theorem reevaluateExact_lnk_heard (s : State) : (reevaluateExact s).lnk.heard = s.lnk.heard := by
  unfold reevaluateExact; try dsimp only
  (repeat' split) <;> simp
@[simp] theorem reevaluateExact_lnk_acknowledged (s : State) : (reevaluateExact s).lnk.acknowledged = s.lnk.acknowledged := by
  unfold reevaluateExact; try dsimp only
  (repeat' split) <;> simp
@[simp] theorem reevaluateExact_lnk_isolationTimer (s : State) : (reevaluateExact s).lnk.isolationTimer = s.lnk.isolationTimer := by
  unfold reevaluateExact; try dsimp only
  (repeat' split) <;> simp
@[simp] theorem reevaluateExact_lnk_change (s : State) : (reevaluateExact s).lnk.change = s.lnk.change := by
  unfold reevaluateExact; try dsimp only
  (repeat' split) <;> simp
@[simp] theorem reevaluateExact_lnk_silentTimer (s : State) : (reevaluateExact s).lnk.silentTimer = s.lnk.silentTimer := by
  unfold reevaluateExact; try dsimp only
  (repeat' split) <;> simp
@[simp] theorem reevaluateExact_lnk_failures (s : State) : (reevaluateExact s).lnk.failures = s.lnk.failures := by
  unfold reevaluateExact; try dsimp only
  (repeat' split) <;> simp
@[simp] theorem reevaluateExact_lnk_unknownFrames (s : State) : (reevaluateExact s).lnk.unknownFrames = s.lnk.unknownFrames := by
  unfold reevaluateExact; try dsimp only
  (repeat' split) <;> simp
@[simp] theorem reevaluateExact_lnk_droppedFrames (s : State) : (reevaluateExact s).lnk.droppedFrames = s.lnk.droppedFrames := by
  unfold reevaluateExact; try dsimp only
  (repeat' split) <;> simp
@[simp] theorem reevaluateExact_lnk_silentEntries (s : State) : (reevaluateExact s).lnk.silentEntries = s.lnk.silentEntries := by
  unfold reevaluateExact; try dsimp only
  (repeat' split) <;> simp
@[simp] theorem probe_pending (s : State) : (probe s).pending = s.pending := by
  unfold probe; try dsimp only
  (repeat' split) <;> simp
@[simp] theorem probe_due (s : State) : (probe s).due = s.due := by
  unfold probe; try dsimp only
  (repeat' split) <;> simp
@[simp] theorem probe_phase (s : State) : (probe s).phase = s.phase := by
  unfold probe; try dsimp only
  (repeat' split) <;> simp
@[simp] theorem probe_inputs (s : State) : (probe s).inputs = s.inputs := by
  unfold probe; try dsimp only
  (repeat' split) <;> simp
@[simp] theorem probe_outputs (s : State) : (probe s).outputs = s.outputs := by
  unfold probe; try dsimp only
  (repeat' split) <;> simp
@[simp] theorem probe_params (s : State) : (probe s).params = s.params := by
  unfold probe; try dsimp only
  (repeat' split) <;> simp
@[simp] theorem probe_cnu (s : State) : (probe s).cnu = s.cnu := by
  unfold probe; try dsimp only
  (repeat' split) <;> simp
@[simp] theorem probe_cca (s : State) : (probe s).cca = s.cca := by
  unfold probe; try dsimp only
  (repeat' split) <;> simp
@[simp] theorem probe_vsq (s : State) : (probe s).vsq = s.vsq := by
  unfold probe; try dsimp only
  (repeat' split) <;> simp
@[simp] theorem probe_mxd (s : State) : (probe s).mxd = s.mxd := by
  unfold probe; try dsimp only
  (repeat' split) <;> simp
@[simp] theorem probe_rfc (s : State) : (probe s).rfc = s.rfc := by
  unfold probe; try dsimp only
  (repeat' split) <;> simp
@[simp] theorem probe_lbu (s : State) : (probe s).lbu = s.lbu := by
  unfold probe; try dsimp only
  (repeat' split) <;> simp
@[simp] theorem probe_ssu (s : State) : (probe s).ssu = s.ssu := by
  unfold probe; try dsimp only
  (repeat' split) <;> simp
@[simp] theorem probe_cru_session (s : State) : (probe s).cru.session = s.cru.session := by
  unfold probe; try dsimp only
  (repeat' split) <;> simp
@[simp] theorem probe_cru_payout (s : State) : (probe s).cru.payout = s.cru.payout := by
  unfold probe; try dsimp only
  (repeat' split) <;> simp
@[simp] theorem probe_cru_solenoid (s : State) : (probe s).cru.solenoid = s.cru.solenoid := by
  unfold probe; try dsimp only
  (repeat' split) <;> simp
@[simp] theorem probe_cru_books (s : State) : (probe s).cru.books = s.cru.books := by
  unfold probe; try dsimp only
  (repeat' split) <;> simp
@[simp] theorem probe_cru_refresh (s : State) : (probe s).cru.refresh = s.cru.refresh := by
  unfold probe; try dsimp only
  (repeat' split) <;> simp
@[simp] theorem probe_cru_owed (s : State) : (probe s).cru.owed = s.cru.owed := by
  unfold probe; try dsimp only
  (repeat' split) <;> simp
@[simp] theorem probe_cru_strayExits (s : State) : (probe s).cru.strayExits = s.cru.strayExits := by
  unfold probe; try dsimp only
  (repeat' split) <;> simp
@[simp] theorem probe_cru_versionRaised (s : State) : (probe s).cru.versionRaised = s.cru.versionRaised := by
  unfold probe; try dsimp only
  (repeat' split) <;> simp
@[simp] theorem probe_lnk_state (s : State) : (probe s).lnk.state = s.lnk.state := by
  unfold probe; try dsimp only
  (repeat' split) <;> simp
@[simp] theorem probe_lnk_heard (s : State) : (probe s).lnk.heard = s.lnk.heard := by
  unfold probe; try dsimp only
  (repeat' split) <;> simp
@[simp] theorem probe_lnk_acknowledged (s : State) : (probe s).lnk.acknowledged = s.lnk.acknowledged := by
  unfold probe; try dsimp only
  (repeat' split) <;> simp
@[simp] theorem probe_lnk_isolationTimer (s : State) : (probe s).lnk.isolationTimer = s.lnk.isolationTimer := by
  unfold probe; try dsimp only
  (repeat' split) <;> simp
@[simp] theorem probe_lnk_change (s : State) : (probe s).lnk.change = s.lnk.change := by
  unfold probe; try dsimp only
  (repeat' split) <;> simp
@[simp] theorem probe_lnk_silentTimer (s : State) : (probe s).lnk.silentTimer = s.lnk.silentTimer := by
  unfold probe; try dsimp only
  (repeat' split) <;> simp
@[simp] theorem probe_lnk_failures (s : State) : (probe s).lnk.failures = s.lnk.failures := by
  unfold probe; try dsimp only
  (repeat' split) <;> simp
@[simp] theorem probe_lnk_unknownFrames (s : State) : (probe s).lnk.unknownFrames = s.lnk.unknownFrames := by
  unfold probe; try dsimp only
  (repeat' split) <;> simp
@[simp] theorem probe_lnk_droppedFrames (s : State) : (probe s).lnk.droppedFrames = s.lnk.droppedFrames := by
  unfold probe; try dsimp only
  (repeat' split) <;> simp
@[simp] theorem probe_lnk_silentEntries (s : State) : (probe s).lnk.silentEntries = s.lnk.silentEntries := by
  unfold probe; try dsimp only
  (repeat' split) <;> simp
@[simp] theorem probeAfter_pending (before : List (Option Tube)) (s : State) : (probeAfter before s).pending = s.pending := by
  unfold probeAfter; try dsimp only
  (repeat' split) <;> simp
@[simp] theorem probeAfter_due (before : List (Option Tube)) (s : State) : (probeAfter before s).due = s.due := by
  unfold probeAfter; try dsimp only
  (repeat' split) <;> simp
@[simp] theorem probeAfter_phase (before : List (Option Tube)) (s : State) : (probeAfter before s).phase = s.phase := by
  unfold probeAfter; try dsimp only
  (repeat' split) <;> simp
@[simp] theorem probeAfter_inputs (before : List (Option Tube)) (s : State) : (probeAfter before s).inputs = s.inputs := by
  unfold probeAfter; try dsimp only
  (repeat' split) <;> simp
@[simp] theorem probeAfter_outputs (before : List (Option Tube)) (s : State) : (probeAfter before s).outputs = s.outputs := by
  unfold probeAfter; try dsimp only
  (repeat' split) <;> simp
@[simp] theorem probeAfter_params (before : List (Option Tube)) (s : State) : (probeAfter before s).params = s.params := by
  unfold probeAfter; try dsimp only
  (repeat' split) <;> simp
@[simp] theorem probeAfter_cnu (before : List (Option Tube)) (s : State) : (probeAfter before s).cnu = s.cnu := by
  unfold probeAfter; try dsimp only
  (repeat' split) <;> simp
@[simp] theorem probeAfter_cca (before : List (Option Tube)) (s : State) : (probeAfter before s).cca = s.cca := by
  unfold probeAfter; try dsimp only
  (repeat' split) <;> simp
@[simp] theorem probeAfter_vsq (before : List (Option Tube)) (s : State) : (probeAfter before s).vsq = s.vsq := by
  unfold probeAfter; try dsimp only
  (repeat' split) <;> simp
@[simp] theorem probeAfter_mxd (before : List (Option Tube)) (s : State) : (probeAfter before s).mxd = s.mxd := by
  unfold probeAfter; try dsimp only
  (repeat' split) <;> simp
@[simp] theorem probeAfter_rfc (before : List (Option Tube)) (s : State) : (probeAfter before s).rfc = s.rfc := by
  unfold probeAfter; try dsimp only
  (repeat' split) <;> simp
@[simp] theorem probeAfter_lbu (before : List (Option Tube)) (s : State) : (probeAfter before s).lbu = s.lbu := by
  unfold probeAfter; try dsimp only
  (repeat' split) <;> simp
@[simp] theorem probeAfter_ssu (before : List (Option Tube)) (s : State) : (probeAfter before s).ssu = s.ssu := by
  unfold probeAfter; try dsimp only
  (repeat' split) <;> simp
@[simp] theorem probeAfter_cru_session (before : List (Option Tube)) (s : State) : (probeAfter before s).cru.session = s.cru.session := by
  unfold probeAfter; try dsimp only
  (repeat' split) <;> simp
@[simp] theorem probeAfter_cru_payout (before : List (Option Tube)) (s : State) : (probeAfter before s).cru.payout = s.cru.payout := by
  unfold probeAfter; try dsimp only
  (repeat' split) <;> simp
@[simp] theorem probeAfter_cru_solenoid (before : List (Option Tube)) (s : State) : (probeAfter before s).cru.solenoid = s.cru.solenoid := by
  unfold probeAfter; try dsimp only
  (repeat' split) <;> simp
@[simp] theorem probeAfter_cru_books (before : List (Option Tube)) (s : State) : (probeAfter before s).cru.books = s.cru.books := by
  unfold probeAfter; try dsimp only
  (repeat' split) <;> simp
@[simp] theorem probeAfter_cru_refresh (before : List (Option Tube)) (s : State) : (probeAfter before s).cru.refresh = s.cru.refresh := by
  unfold probeAfter; try dsimp only
  (repeat' split) <;> simp
@[simp] theorem probeAfter_cru_owed (before : List (Option Tube)) (s : State) : (probeAfter before s).cru.owed = s.cru.owed := by
  unfold probeAfter; try dsimp only
  (repeat' split) <;> simp
@[simp] theorem probeAfter_cru_strayExits (before : List (Option Tube)) (s : State) : (probeAfter before s).cru.strayExits = s.cru.strayExits := by
  unfold probeAfter; try dsimp only
  (repeat' split) <;> simp
@[simp] theorem probeAfter_cru_versionRaised (before : List (Option Tube)) (s : State) : (probeAfter before s).cru.versionRaised = s.cru.versionRaised := by
  unfold probeAfter; try dsimp only
  (repeat' split) <;> simp
@[simp] theorem probeAfter_lnk_state (before : List (Option Tube)) (s : State) : (probeAfter before s).lnk.state = s.lnk.state := by
  unfold probeAfter; try dsimp only
  (repeat' split) <;> simp
@[simp] theorem probeAfter_lnk_heard (before : List (Option Tube)) (s : State) : (probeAfter before s).lnk.heard = s.lnk.heard := by
  unfold probeAfter; try dsimp only
  (repeat' split) <;> simp
@[simp] theorem probeAfter_lnk_acknowledged (before : List (Option Tube)) (s : State) : (probeAfter before s).lnk.acknowledged = s.lnk.acknowledged := by
  unfold probeAfter; try dsimp only
  (repeat' split) <;> simp
@[simp] theorem probeAfter_lnk_isolationTimer (before : List (Option Tube)) (s : State) : (probeAfter before s).lnk.isolationTimer = s.lnk.isolationTimer := by
  unfold probeAfter; try dsimp only
  (repeat' split) <;> simp
@[simp] theorem probeAfter_lnk_change (before : List (Option Tube)) (s : State) : (probeAfter before s).lnk.change = s.lnk.change := by
  unfold probeAfter; try dsimp only
  (repeat' split) <;> simp
@[simp] theorem probeAfter_lnk_silentTimer (before : List (Option Tube)) (s : State) : (probeAfter before s).lnk.silentTimer = s.lnk.silentTimer := by
  unfold probeAfter; try dsimp only
  (repeat' split) <;> simp
@[simp] theorem probeAfter_lnk_failures (before : List (Option Tube)) (s : State) : (probeAfter before s).lnk.failures = s.lnk.failures := by
  unfold probeAfter; try dsimp only
  (repeat' split) <;> simp
@[simp] theorem probeAfter_lnk_unknownFrames (before : List (Option Tube)) (s : State) : (probeAfter before s).lnk.unknownFrames = s.lnk.unknownFrames := by
  unfold probeAfter; try dsimp only
  (repeat' split) <;> simp
@[simp] theorem probeAfter_lnk_droppedFrames (before : List (Option Tube)) (s : State) : (probeAfter before s).lnk.droppedFrames = s.lnk.droppedFrames := by
  unfold probeAfter; try dsimp only
  (repeat' split) <;> simp
@[simp] theorem probeAfter_lnk_silentEntries (before : List (Option Tube)) (s : State) : (probeAfter before s).lnk.silentEntries = s.lnk.silentEntries := by
  unfold probeAfter; try dsimp only
  (repeat' split) <;> simp
@[simp] theorem changeTube_pending (i : Nat) (f : Tube → Tube) (s : State) : (changeTube i f s).pending = s.pending := by
  unfold changeTube; try dsimp only
  (repeat' split) <;> simp
@[simp] theorem changeTube_due (i : Nat) (f : Tube → Tube) (s : State) : (changeTube i f s).due = s.due := by
  unfold changeTube; try dsimp only
  (repeat' split) <;> simp
@[simp] theorem changeTube_phase (i : Nat) (f : Tube → Tube) (s : State) : (changeTube i f s).phase = s.phase := by
  unfold changeTube; try dsimp only
  (repeat' split) <;> simp
@[simp] theorem changeTube_inputs (i : Nat) (f : Tube → Tube) (s : State) : (changeTube i f s).inputs = s.inputs := by
  unfold changeTube; try dsimp only
  (repeat' split) <;> simp
@[simp] theorem changeTube_outputs (i : Nat) (f : Tube → Tube) (s : State) : (changeTube i f s).outputs = s.outputs := by
  unfold changeTube; try dsimp only
  (repeat' split) <;> simp
@[simp] theorem changeTube_params (i : Nat) (f : Tube → Tube) (s : State) : (changeTube i f s).params = s.params := by
  unfold changeTube; try dsimp only
  (repeat' split) <;> simp
@[simp] theorem changeTube_cca (i : Nat) (f : Tube → Tube) (s : State) : (changeTube i f s).cca = s.cca := by
  unfold changeTube; try dsimp only
  (repeat' split) <;> simp
@[simp] theorem changeTube_vsq (i : Nat) (f : Tube → Tube) (s : State) : (changeTube i f s).vsq = s.vsq := by
  unfold changeTube; try dsimp only
  (repeat' split) <;> simp
@[simp] theorem changeTube_mxd (i : Nat) (f : Tube → Tube) (s : State) : (changeTube i f s).mxd = s.mxd := by
  unfold changeTube; try dsimp only
  (repeat' split) <;> simp
@[simp] theorem changeTube_rfc (i : Nat) (f : Tube → Tube) (s : State) : (changeTube i f s).rfc = s.rfc := by
  unfold changeTube; try dsimp only
  (repeat' split) <;> simp
@[simp] theorem changeTube_lbu (i : Nat) (f : Tube → Tube) (s : State) : (changeTube i f s).lbu = s.lbu := by
  unfold changeTube; try dsimp only
  (repeat' split) <;> simp
@[simp] theorem changeTube_ssu (i : Nat) (f : Tube → Tube) (s : State) : (changeTube i f s).ssu = s.ssu := by
  unfold changeTube; try dsimp only
  (repeat' split) <;> simp
@[simp] theorem changeTube_cnu_coinTypes (i : Nat) (f : Tube → Tube) (s : State) : (changeTube i f s).cnu.coinTypes = s.cnu.coinTypes := by
  unfold changeTube; try dsimp only
  (repeat' split) <;> simp
@[simp] theorem changeTube_cnu_routing (i : Nat) (f : Tube → Tube) (s : State) : (changeTube i f s).cnu.routing = s.cnu.routing := by
  unfold changeTube; try dsimp only
  (repeat' split) <;> simp
@[simp] theorem changeTube_cnu_cashboxPresent (i : Nat) (f : Tube → Tube) (s : State) : (changeTube i f s).cnu.cashboxPresent = s.cnu.cashboxPresent := by
  unfold changeTube; try dsimp only
  (repeat' split) <;> simp
@[simp] theorem changeTube_cnu_headRejects (i : Nat) (f : Tube → Tube) (s : State) : (changeTube i f s).cnu.headRejects = s.cnu.headRejects := by
  unfold changeTube; try dsimp only
  (repeat' split) <;> simp
@[simp] theorem changeTube_cru_session (i : Nat) (f : Tube → Tube) (s : State) : (changeTube i f s).cru.session = s.cru.session := by
  unfold changeTube; try dsimp only
  (repeat' split) <;> simp
@[simp] theorem changeTube_cru_payout (i : Nat) (f : Tube → Tube) (s : State) : (changeTube i f s).cru.payout = s.cru.payout := by
  unfold changeTube; try dsimp only
  (repeat' split) <;> simp
@[simp] theorem changeTube_cru_solenoid (i : Nat) (f : Tube → Tube) (s : State) : (changeTube i f s).cru.solenoid = s.cru.solenoid := by
  unfold changeTube; try dsimp only
  (repeat' split) <;> simp
@[simp] theorem changeTube_cru_books (i : Nat) (f : Tube → Tube) (s : State) : (changeTube i f s).cru.books = s.cru.books := by
  unfold changeTube; try dsimp only
  (repeat' split) <;> simp
@[simp] theorem changeTube_cru_refresh (i : Nat) (f : Tube → Tube) (s : State) : (changeTube i f s).cru.refresh = s.cru.refresh := by
  unfold changeTube; try dsimp only
  (repeat' split) <;> simp
@[simp] theorem changeTube_cru_owed (i : Nat) (f : Tube → Tube) (s : State) : (changeTube i f s).cru.owed = s.cru.owed := by
  unfold changeTube; try dsimp only
  (repeat' split) <;> simp
@[simp] theorem changeTube_cru_strayExits (i : Nat) (f : Tube → Tube) (s : State) : (changeTube i f s).cru.strayExits = s.cru.strayExits := by
  unfold changeTube; try dsimp only
  (repeat' split) <;> simp
@[simp] theorem changeTube_cru_versionRaised (i : Nat) (f : Tube → Tube) (s : State) : (changeTube i f s).cru.versionRaised = s.cru.versionRaised := by
  unfold changeTube; try dsimp only
  (repeat' split) <;> simp
@[simp] theorem changeTube_lnk_state (i : Nat) (f : Tube → Tube) (s : State) : (changeTube i f s).lnk.state = s.lnk.state := by
  unfold changeTube; try dsimp only
  (repeat' split) <;> simp
@[simp] theorem changeTube_lnk_heard (i : Nat) (f : Tube → Tube) (s : State) : (changeTube i f s).lnk.heard = s.lnk.heard := by
  unfold changeTube; try dsimp only
  (repeat' split) <;> simp
@[simp] theorem changeTube_lnk_acknowledged (i : Nat) (f : Tube → Tube) (s : State) : (changeTube i f s).lnk.acknowledged = s.lnk.acknowledged := by
  unfold changeTube; try dsimp only
  (repeat' split) <;> simp
@[simp] theorem changeTube_lnk_isolationTimer (i : Nat) (f : Tube → Tube) (s : State) : (changeTube i f s).lnk.isolationTimer = s.lnk.isolationTimer := by
  unfold changeTube; try dsimp only
  (repeat' split) <;> simp
@[simp] theorem changeTube_lnk_change (i : Nat) (f : Tube → Tube) (s : State) : (changeTube i f s).lnk.change = s.lnk.change := by
  unfold changeTube; try dsimp only
  (repeat' split) <;> simp
@[simp] theorem changeTube_lnk_silentTimer (i : Nat) (f : Tube → Tube) (s : State) : (changeTube i f s).lnk.silentTimer = s.lnk.silentTimer := by
  unfold changeTube; try dsimp only
  (repeat' split) <;> simp
@[simp] theorem changeTube_lnk_failures (i : Nat) (f : Tube → Tube) (s : State) : (changeTube i f s).lnk.failures = s.lnk.failures := by
  unfold changeTube; try dsimp only
  (repeat' split) <;> simp
@[simp] theorem changeTube_lnk_unknownFrames (i : Nat) (f : Tube → Tube) (s : State) : (changeTube i f s).lnk.unknownFrames = s.lnk.unknownFrames := by
  unfold changeTube; try dsimp only
  (repeat' split) <;> simp
@[simp] theorem changeTube_lnk_droppedFrames (i : Nat) (f : Tube → Tube) (s : State) : (changeTube i f s).lnk.droppedFrames = s.lnk.droppedFrames := by
  unfold changeTube; try dsimp only
  (repeat' split) <;> simp
@[simp] theorem changeTube_lnk_silentEntries (i : Nat) (f : Tube → Tube) (s : State) : (changeTube i f s).lnk.silentEntries = s.lnk.silentEntries := by
  unfold changeTube; try dsimp only
  (repeat' split) <;> simp
@[simp] theorem modBooks_pending (f : Books → Books) (s : State) : (modBooks f s).pending = s.pending := by
  unfold modBooks; try dsimp only
  (repeat' split) <;> simp
@[simp] theorem modBooks_due (f : Books → Books) (s : State) : (modBooks f s).due = s.due := by
  unfold modBooks; try dsimp only
  (repeat' split) <;> simp
@[simp] theorem modBooks_phase (f : Books → Books) (s : State) : (modBooks f s).phase = s.phase := by
  unfold modBooks; try dsimp only
  (repeat' split) <;> simp
@[simp] theorem modBooks_inputs (f : Books → Books) (s : State) : (modBooks f s).inputs = s.inputs := by
  unfold modBooks; try dsimp only
  (repeat' split) <;> simp
@[simp] theorem modBooks_outputs (f : Books → Books) (s : State) : (modBooks f s).outputs = s.outputs := by
  unfold modBooks; try dsimp only
  (repeat' split) <;> simp
@[simp] theorem modBooks_params (f : Books → Books) (s : State) : (modBooks f s).params = s.params := by
  unfold modBooks; try dsimp only
  (repeat' split) <;> simp
@[simp] theorem modBooks_cnu (f : Books → Books) (s : State) : (modBooks f s).cnu = s.cnu := by
  unfold modBooks; try dsimp only
  (repeat' split) <;> simp
@[simp] theorem modBooks_cca (f : Books → Books) (s : State) : (modBooks f s).cca = s.cca := by
  unfold modBooks; try dsimp only
  (repeat' split) <;> simp
@[simp] theorem modBooks_vsq (f : Books → Books) (s : State) : (modBooks f s).vsq = s.vsq := by
  unfold modBooks; try dsimp only
  (repeat' split) <;> simp
@[simp] theorem modBooks_mxd (f : Books → Books) (s : State) : (modBooks f s).mxd = s.mxd := by
  unfold modBooks; try dsimp only
  (repeat' split) <;> simp
@[simp] theorem modBooks_rfc (f : Books → Books) (s : State) : (modBooks f s).rfc = s.rfc := by
  unfold modBooks; try dsimp only
  (repeat' split) <;> simp
@[simp] theorem modBooks_lbu (f : Books → Books) (s : State) : (modBooks f s).lbu = s.lbu := by
  unfold modBooks; try dsimp only
  (repeat' split) <;> simp
@[simp] theorem modBooks_lnk (f : Books → Books) (s : State) : (modBooks f s).lnk = s.lnk := by
  unfold modBooks; try dsimp only
  (repeat' split) <;> simp
@[simp] theorem modBooks_ssu (f : Books → Books) (s : State) : (modBooks f s).ssu = s.ssu := by
  unfold modBooks; try dsimp only
  (repeat' split) <;> simp
@[simp] theorem modBooks_cru_session (f : Books → Books) (s : State) : (modBooks f s).cru.session = s.cru.session := by
  unfold modBooks; try dsimp only
  (repeat' split) <;> simp
@[simp] theorem modBooks_cru_payout (f : Books → Books) (s : State) : (modBooks f s).cru.payout = s.cru.payout := by
  unfold modBooks; try dsimp only
  (repeat' split) <;> simp
@[simp] theorem modBooks_cru_solenoid (f : Books → Books) (s : State) : (modBooks f s).cru.solenoid = s.cru.solenoid := by
  unfold modBooks; try dsimp only
  (repeat' split) <;> simp
@[simp] theorem modBooks_cru_refresh (f : Books → Books) (s : State) : (modBooks f s).cru.refresh = s.cru.refresh := by
  unfold modBooks; try dsimp only
  (repeat' split) <;> simp
@[simp] theorem modBooks_cru_owed (f : Books → Books) (s : State) : (modBooks f s).cru.owed = s.cru.owed := by
  unfold modBooks; try dsimp only
  (repeat' split) <;> simp
@[simp] theorem modBooks_cru_exactChangeOnly (f : Books → Books) (s : State) : (modBooks f s).cru.exactChangeOnly = s.cru.exactChangeOnly := by
  unfold modBooks; try dsimp only
  (repeat' split) <;> simp
@[simp] theorem modBooks_cru_probeShort (f : Books → Books) (s : State) : (modBooks f s).cru.probeShort = s.cru.probeShort := by
  unfold modBooks; try dsimp only
  (repeat' split) <;> simp
@[simp] theorem modBooks_cru_strayExits (f : Books → Books) (s : State) : (modBooks f s).cru.strayExits = s.cru.strayExits := by
  unfold modBooks; try dsimp only
  (repeat' split) <;> simp
@[simp] theorem modBooks_cru_versionRaised (f : Books → Books) (s : State) : (modBooks f s).cru.versionRaised = s.cru.versionRaised := by
  unfold modBooks; try dsimp only
  (repeat' split) <;> simp
@[simp] theorem raiseVersion_pending (s : State) : (raiseVersion s).pending = s.pending := by
  unfold raiseVersion; try dsimp only
  (repeat' split) <;> simp
@[simp] theorem raiseVersion_due (s : State) : (raiseVersion s).due = s.due := by
  unfold raiseVersion; try dsimp only
  (repeat' split) <;> simp
@[simp] theorem raiseVersion_phase (s : State) : (raiseVersion s).phase = s.phase := by
  unfold raiseVersion; try dsimp only
  (repeat' split) <;> simp
@[simp] theorem raiseVersion_inputs (s : State) : (raiseVersion s).inputs = s.inputs := by
  unfold raiseVersion; try dsimp only
  (repeat' split) <;> simp
@[simp] theorem raiseVersion_outputs (s : State) : (raiseVersion s).outputs = s.outputs := by
  unfold raiseVersion; try dsimp only
  (repeat' split) <;> simp
@[simp] theorem raiseVersion_params (s : State) : (raiseVersion s).params = s.params := by
  unfold raiseVersion; try dsimp only
  (repeat' split) <;> simp
@[simp] theorem raiseVersion_cnu (s : State) : (raiseVersion s).cnu = s.cnu := by
  unfold raiseVersion; try dsimp only
  (repeat' split) <;> simp
@[simp] theorem raiseVersion_cca (s : State) : (raiseVersion s).cca = s.cca := by
  unfold raiseVersion; try dsimp only
  (repeat' split) <;> simp
@[simp] theorem raiseVersion_vsq (s : State) : (raiseVersion s).vsq = s.vsq := by
  unfold raiseVersion; try dsimp only
  (repeat' split) <;> simp
@[simp] theorem raiseVersion_mxd (s : State) : (raiseVersion s).mxd = s.mxd := by
  unfold raiseVersion; try dsimp only
  (repeat' split) <;> simp
@[simp] theorem raiseVersion_rfc (s : State) : (raiseVersion s).rfc = s.rfc := by
  unfold raiseVersion; try dsimp only
  (repeat' split) <;> simp
@[simp] theorem raiseVersion_lbu (s : State) : (raiseVersion s).lbu = s.lbu := by
  unfold raiseVersion; try dsimp only
  (repeat' split) <;> simp
@[simp] theorem raiseVersion_ssu (s : State) : (raiseVersion s).ssu = s.ssu := by
  unfold raiseVersion; try dsimp only
  (repeat' split) <;> simp
@[simp] theorem raiseVersion_cru_payout (s : State) : (raiseVersion s).cru.payout = s.cru.payout := by
  unfold raiseVersion; try dsimp only
  (repeat' split) <;> simp
@[simp] theorem raiseVersion_cru_solenoid (s : State) : (raiseVersion s).cru.solenoid = s.cru.solenoid := by
  unfold raiseVersion; try dsimp only
  (repeat' split) <;> simp
@[simp] theorem raiseVersion_cru_books (s : State) : (raiseVersion s).cru.books = s.cru.books := by
  unfold raiseVersion; try dsimp only
  (repeat' split) <;> simp
@[simp] theorem raiseVersion_cru_exactChangeOnly (s : State) : (raiseVersion s).cru.exactChangeOnly = s.cru.exactChangeOnly := by
  unfold raiseVersion; try dsimp only
  (repeat' split) <;> simp
@[simp] theorem raiseVersion_cru_probeShort (s : State) : (raiseVersion s).cru.probeShort = s.cru.probeShort := by
  unfold raiseVersion; try dsimp only
  (repeat' split) <;> simp
@[simp] theorem raiseVersion_cru_strayExits (s : State) : (raiseVersion s).cru.strayExits = s.cru.strayExits := by
  unfold raiseVersion; try dsimp only
  (repeat' split) <;> simp
@[simp] theorem raiseVersion_lnk_state (s : State) : (raiseVersion s).lnk.state = s.lnk.state := by
  unfold raiseVersion; try dsimp only
  (repeat' split) <;> simp
@[simp] theorem raiseVersion_lnk_heard (s : State) : (raiseVersion s).lnk.heard = s.lnk.heard := by
  unfold raiseVersion; try dsimp only
  (repeat' split) <;> simp
@[simp] theorem raiseVersion_lnk_acknowledged (s : State) : (raiseVersion s).lnk.acknowledged = s.lnk.acknowledged := by
  unfold raiseVersion; try dsimp only
  (repeat' split) <;> simp
@[simp] theorem raiseVersion_lnk_isolationTimer (s : State) : (raiseVersion s).lnk.isolationTimer = s.lnk.isolationTimer := by
  unfold raiseVersion; try dsimp only
  (repeat' split) <;> simp
@[simp] theorem raiseVersion_lnk_change (s : State) : (raiseVersion s).lnk.change = s.lnk.change := by
  unfold raiseVersion; try dsimp only
  (repeat' split) <;> simp
@[simp] theorem raiseVersion_lnk_periodTimer (s : State) : (raiseVersion s).lnk.periodTimer = s.lnk.periodTimer := by
  unfold raiseVersion; try dsimp only
  (repeat' split) <;> simp
@[simp] theorem raiseVersion_lnk_silentTimer (s : State) : (raiseVersion s).lnk.silentTimer = s.lnk.silentTimer := by
  unfold raiseVersion; try dsimp only
  (repeat' split) <;> simp
@[simp] theorem raiseVersion_lnk_failures (s : State) : (raiseVersion s).lnk.failures = s.lnk.failures := by
  unfold raiseVersion; try dsimp only
  (repeat' split) <;> simp
@[simp] theorem raiseVersion_lnk_unknownFrames (s : State) : (raiseVersion s).lnk.unknownFrames = s.lnk.unknownFrames := by
  unfold raiseVersion; try dsimp only
  (repeat' split) <;> simp
@[simp] theorem raiseVersion_lnk_droppedFrames (s : State) : (raiseVersion s).lnk.droppedFrames = s.lnk.droppedFrames := by
  unfold raiseVersion; try dsimp only
  (repeat' split) <;> simp
@[simp] theorem raiseVersion_lnk_silentEntries (s : State) : (raiseVersion s).lnk.silentEntries = s.lnk.silentEntries := by
  unfold raiseVersion; try dsimp only
  (repeat' split) <;> simp
@[simp] theorem enterIdle_pending (s : State) : (enterIdle s).pending = s.pending := by
  unfold enterIdle; try dsimp only
  (repeat' split) <;> simp
@[simp] theorem enterIdle_due (s : State) : (enterIdle s).due = s.due := by
  unfold enterIdle; try dsimp only
  (repeat' split) <;> simp
@[simp] theorem enterIdle_phase (s : State) : (enterIdle s).phase = s.phase := by
  unfold enterIdle; try dsimp only
  (repeat' split) <;> simp
@[simp] theorem enterIdle_inputs (s : State) : (enterIdle s).inputs = s.inputs := by
  unfold enterIdle; try dsimp only
  (repeat' split) <;> simp
@[simp] theorem enterIdle_outputs (s : State) : (enterIdle s).outputs = s.outputs := by
  unfold enterIdle; try dsimp only
  (repeat' split) <;> simp
@[simp] theorem enterIdle_params (s : State) : (enterIdle s).params = s.params := by
  unfold enterIdle; try dsimp only
  (repeat' split) <;> simp
@[simp] theorem enterIdle_cnu (s : State) : (enterIdle s).cnu = s.cnu := by
  unfold enterIdle; try dsimp only
  (repeat' split) <;> simp
@[simp] theorem enterIdle_cca (s : State) : (enterIdle s).cca = s.cca := by
  unfold enterIdle; try dsimp only
  (repeat' split) <;> simp
@[simp] theorem enterIdle_vsq (s : State) : (enterIdle s).vsq = s.vsq := by
  unfold enterIdle; try dsimp only
  (repeat' split) <;> simp
@[simp] theorem enterIdle_mxd (s : State) : (enterIdle s).mxd = s.mxd := by
  unfold enterIdle; try dsimp only
  (repeat' split) <;> simp
@[simp] theorem enterIdle_rfc (s : State) : (enterIdle s).rfc = s.rfc := by
  unfold enterIdle; try dsimp only
  (repeat' split) <;> simp
@[simp] theorem enterIdle_lbu (s : State) : (enterIdle s).lbu = s.lbu := by
  unfold enterIdle; try dsimp only
  (repeat' split) <;> simp
@[simp] theorem enterIdle_ssu (s : State) : (enterIdle s).ssu = s.ssu := by
  unfold enterIdle; try dsimp only
  (repeat' split) <;> simp
@[simp] theorem enterIdle_cru_payout (s : State) : (enterIdle s).cru.payout = s.cru.payout := by
  unfold enterIdle; try dsimp only
  (repeat' split) <;> simp
@[simp] theorem enterIdle_cru_solenoid (s : State) : (enterIdle s).cru.solenoid = s.cru.solenoid := by
  unfold enterIdle; try dsimp only
  (repeat' split) <;> simp
@[simp] theorem enterIdle_cru_books (s : State) : (enterIdle s).cru.books = s.cru.books := by
  unfold enterIdle; try dsimp only
  (repeat' split) <;> simp
@[simp] theorem enterIdle_cru_probeShort (s : State) : (enterIdle s).cru.probeShort = s.cru.probeShort := by
  unfold enterIdle; try dsimp only
  (repeat' split) <;> simp
@[simp] theorem enterIdle_cru_strayExits (s : State) : (enterIdle s).cru.strayExits = s.cru.strayExits := by
  unfold enterIdle; try dsimp only
  (repeat' split) <;> simp
@[simp] theorem enterIdle_lnk_state (s : State) : (enterIdle s).lnk.state = s.lnk.state := by
  unfold enterIdle; try dsimp only
  (repeat' split) <;> simp
@[simp] theorem enterIdle_lnk_heard (s : State) : (enterIdle s).lnk.heard = s.lnk.heard := by
  unfold enterIdle; try dsimp only
  (repeat' split) <;> simp
@[simp] theorem enterIdle_lnk_acknowledged (s : State) : (enterIdle s).lnk.acknowledged = s.lnk.acknowledged := by
  unfold enterIdle; try dsimp only
  (repeat' split) <;> simp
@[simp] theorem enterIdle_lnk_isolationTimer (s : State) : (enterIdle s).lnk.isolationTimer = s.lnk.isolationTimer := by
  unfold enterIdle; try dsimp only
  (repeat' split) <;> simp
@[simp] theorem enterIdle_lnk_change (s : State) : (enterIdle s).lnk.change = s.lnk.change := by
  unfold enterIdle; try dsimp only
  (repeat' split) <;> simp
@[simp] theorem enterIdle_lnk_silentTimer (s : State) : (enterIdle s).lnk.silentTimer = s.lnk.silentTimer := by
  unfold enterIdle; try dsimp only
  (repeat' split) <;> simp
@[simp] theorem enterIdle_lnk_failures (s : State) : (enterIdle s).lnk.failures = s.lnk.failures := by
  unfold enterIdle; try dsimp only
  (repeat' split) <;> simp
@[simp] theorem enterIdle_lnk_unknownFrames (s : State) : (enterIdle s).lnk.unknownFrames = s.lnk.unknownFrames := by
  unfold enterIdle; try dsimp only
  (repeat' split) <;> simp
@[simp] theorem enterIdle_lnk_droppedFrames (s : State) : (enterIdle s).lnk.droppedFrames = s.lnk.droppedFrames := by
  unfold enterIdle; try dsimp only
  (repeat' split) <;> simp
@[simp] theorem enterIdle_lnk_silentEntries (s : State) : (enterIdle s).lnk.silentEntries = s.lnk.silentEntries := by
  unfold enterIdle; try dsimp only
  (repeat' split) <;> simp
@[simp] theorem enterOpen_pending (s : State) : (enterOpen s).pending = s.pending := by
  unfold enterOpen; try dsimp only
  (repeat' split) <;> simp
@[simp] theorem enterOpen_due (s : State) : (enterOpen s).due = s.due := by
  unfold enterOpen; try dsimp only
  (repeat' split) <;> simp
@[simp] theorem enterOpen_phase (s : State) : (enterOpen s).phase = s.phase := by
  unfold enterOpen; try dsimp only
  (repeat' split) <;> simp
@[simp] theorem enterOpen_inputs (s : State) : (enterOpen s).inputs = s.inputs := by
  unfold enterOpen; try dsimp only
  (repeat' split) <;> simp
@[simp] theorem enterOpen_outputs (s : State) : (enterOpen s).outputs = s.outputs := by
  unfold enterOpen; try dsimp only
  (repeat' split) <;> simp
@[simp] theorem enterOpen_params (s : State) : (enterOpen s).params = s.params := by
  unfold enterOpen; try dsimp only
  (repeat' split) <;> simp
@[simp] theorem enterOpen_cnu (s : State) : (enterOpen s).cnu = s.cnu := by
  unfold enterOpen; try dsimp only
  (repeat' split) <;> simp
@[simp] theorem enterOpen_cca (s : State) : (enterOpen s).cca = s.cca := by
  unfold enterOpen; try dsimp only
  (repeat' split) <;> simp
@[simp] theorem enterOpen_vsq (s : State) : (enterOpen s).vsq = s.vsq := by
  unfold enterOpen; try dsimp only
  (repeat' split) <;> simp
@[simp] theorem enterOpen_mxd (s : State) : (enterOpen s).mxd = s.mxd := by
  unfold enterOpen; try dsimp only
  (repeat' split) <;> simp
@[simp] theorem enterOpen_rfc (s : State) : (enterOpen s).rfc = s.rfc := by
  unfold enterOpen; try dsimp only
  (repeat' split) <;> simp
@[simp] theorem enterOpen_lbu (s : State) : (enterOpen s).lbu = s.lbu := by
  unfold enterOpen; try dsimp only
  (repeat' split) <;> simp
@[simp] theorem enterOpen_ssu (s : State) : (enterOpen s).ssu = s.ssu := by
  unfold enterOpen; try dsimp only
  (repeat' split) <;> simp
@[simp] theorem enterOpen_cru_payout (s : State) : (enterOpen s).cru.payout = s.cru.payout := by
  unfold enterOpen; try dsimp only
  (repeat' split) <;> simp
@[simp] theorem enterOpen_cru_solenoid (s : State) : (enterOpen s).cru.solenoid = s.cru.solenoid := by
  unfold enterOpen; try dsimp only
  (repeat' split) <;> simp
@[simp] theorem enterOpen_cru_books (s : State) : (enterOpen s).cru.books = s.cru.books := by
  unfold enterOpen; try dsimp only
  (repeat' split) <;> simp
@[simp] theorem enterOpen_cru_exactChangeOnly (s : State) : (enterOpen s).cru.exactChangeOnly = s.cru.exactChangeOnly := by
  unfold enterOpen; try dsimp only
  (repeat' split) <;> simp
@[simp] theorem enterOpen_cru_probeShort (s : State) : (enterOpen s).cru.probeShort = s.cru.probeShort := by
  unfold enterOpen; try dsimp only
  (repeat' split) <;> simp
@[simp] theorem enterOpen_cru_strayExits (s : State) : (enterOpen s).cru.strayExits = s.cru.strayExits := by
  unfold enterOpen; try dsimp only
  (repeat' split) <;> simp
@[simp] theorem enterOpen_lnk_state (s : State) : (enterOpen s).lnk.state = s.lnk.state := by
  unfold enterOpen; try dsimp only
  (repeat' split) <;> simp
@[simp] theorem enterOpen_lnk_heard (s : State) : (enterOpen s).lnk.heard = s.lnk.heard := by
  unfold enterOpen; try dsimp only
  (repeat' split) <;> simp
@[simp] theorem enterOpen_lnk_acknowledged (s : State) : (enterOpen s).lnk.acknowledged = s.lnk.acknowledged := by
  unfold enterOpen; try dsimp only
  (repeat' split) <;> simp
@[simp] theorem enterOpen_lnk_isolationTimer (s : State) : (enterOpen s).lnk.isolationTimer = s.lnk.isolationTimer := by
  unfold enterOpen; try dsimp only
  (repeat' split) <;> simp
@[simp] theorem enterOpen_lnk_change (s : State) : (enterOpen s).lnk.change = s.lnk.change := by
  unfold enterOpen; try dsimp only
  (repeat' split) <;> simp
@[simp] theorem enterOpen_lnk_periodTimer (s : State) : (enterOpen s).lnk.periodTimer = s.lnk.periodTimer := by
  unfold enterOpen; try dsimp only
  (repeat' split) <;> simp
@[simp] theorem enterOpen_lnk_silentTimer (s : State) : (enterOpen s).lnk.silentTimer = s.lnk.silentTimer := by
  unfold enterOpen; try dsimp only
  (repeat' split) <;> simp
@[simp] theorem enterOpen_lnk_failures (s : State) : (enterOpen s).lnk.failures = s.lnk.failures := by
  unfold enterOpen; try dsimp only
  (repeat' split) <;> simp
@[simp] theorem enterOpen_lnk_unknownFrames (s : State) : (enterOpen s).lnk.unknownFrames = s.lnk.unknownFrames := by
  unfold enterOpen; try dsimp only
  (repeat' split) <;> simp
@[simp] theorem enterOpen_lnk_droppedFrames (s : State) : (enterOpen s).lnk.droppedFrames = s.lnk.droppedFrames := by
  unfold enterOpen; try dsimp only
  (repeat' split) <;> simp
@[simp] theorem enterOpen_lnk_silentEntries (s : State) : (enterOpen s).lnk.silentEntries = s.lnk.silentEntries := by
  unfold enterOpen; try dsimp only
  (repeat' split) <;> simp
@[simp] theorem payoutComplete_pending (s : State) : (payoutComplete s).pending = s.pending := by
  unfold payoutComplete; try dsimp only
  (repeat' split) <;> simp
@[simp] theorem payoutComplete_due (s : State) : (payoutComplete s).due = s.due := by
  unfold payoutComplete; try dsimp only
  (repeat' split) <;> simp
@[simp] theorem payoutComplete_phase (s : State) : (payoutComplete s).phase = s.phase := by
  unfold payoutComplete; try dsimp only
  (repeat' split) <;> simp
@[simp] theorem payoutComplete_inputs (s : State) : (payoutComplete s).inputs = s.inputs := by
  unfold payoutComplete; try dsimp only
  (repeat' split) <;> simp
@[simp] theorem payoutComplete_outputs (s : State) : (payoutComplete s).outputs = s.outputs := by
  unfold payoutComplete; try dsimp only
  (repeat' split) <;> simp
@[simp] theorem payoutComplete_params (s : State) : (payoutComplete s).params = s.params := by
  unfold payoutComplete; try dsimp only
  (repeat' split) <;> simp
@[simp] theorem payoutComplete_cnu (s : State) : (payoutComplete s).cnu = s.cnu := by
  unfold payoutComplete; try dsimp only
  (repeat' split) <;> simp
@[simp] theorem payoutComplete_cca (s : State) : (payoutComplete s).cca = s.cca := by
  unfold payoutComplete; try dsimp only
  (repeat' split) <;> simp
@[simp] theorem payoutComplete_vsq (s : State) : (payoutComplete s).vsq = s.vsq := by
  unfold payoutComplete; try dsimp only
  (repeat' split) <;> simp
@[simp] theorem payoutComplete_mxd (s : State) : (payoutComplete s).mxd = s.mxd := by
  unfold payoutComplete; try dsimp only
  (repeat' split) <;> simp
@[simp] theorem payoutComplete_rfc (s : State) : (payoutComplete s).rfc = s.rfc := by
  unfold payoutComplete; try dsimp only
  (repeat' split) <;> simp
@[simp] theorem payoutComplete_lbu (s : State) : (payoutComplete s).lbu = s.lbu := by
  unfold payoutComplete; try dsimp only
  (repeat' split) <;> simp
@[simp] theorem payoutComplete_ssu (s : State) : (payoutComplete s).ssu = s.ssu := by
  unfold payoutComplete; try dsimp only
  (repeat' split) <;> simp
@[simp] theorem payoutComplete_cru_solenoid (s : State) : (payoutComplete s).cru.solenoid = s.cru.solenoid := by
  unfold payoutComplete; try dsimp only
  (repeat' split) <;> simp
@[simp] theorem payoutComplete_cru_books (s : State) : (payoutComplete s).cru.books = s.cru.books := by
  unfold payoutComplete; try dsimp only
  (repeat' split) <;> simp
@[simp] theorem payoutComplete_cru_probeShort (s : State) : (payoutComplete s).cru.probeShort = s.cru.probeShort := by
  unfold payoutComplete; try dsimp only
  (repeat' split) <;> simp
@[simp] theorem payoutComplete_cru_strayExits (s : State) : (payoutComplete s).cru.strayExits = s.cru.strayExits := by
  unfold payoutComplete; try dsimp only
  (repeat' split) <;> simp
@[simp] theorem payoutComplete_lnk_state (s : State) : (payoutComplete s).lnk.state = s.lnk.state := by
  unfold payoutComplete; try dsimp only
  (repeat' split) <;> simp
@[simp] theorem payoutComplete_lnk_heard (s : State) : (payoutComplete s).lnk.heard = s.lnk.heard := by
  unfold payoutComplete; try dsimp only
  (repeat' split) <;> simp
@[simp] theorem payoutComplete_lnk_acknowledged (s : State) : (payoutComplete s).lnk.acknowledged = s.lnk.acknowledged := by
  unfold payoutComplete; try dsimp only
  (repeat' split) <;> simp
@[simp] theorem payoutComplete_lnk_isolationTimer (s : State) : (payoutComplete s).lnk.isolationTimer = s.lnk.isolationTimer := by
  unfold payoutComplete; try dsimp only
  (repeat' split) <;> simp
@[simp] theorem payoutComplete_lnk_change (s : State) : (payoutComplete s).lnk.change = s.lnk.change := by
  unfold payoutComplete; try dsimp only
  (repeat' split) <;> simp
@[simp] theorem payoutComplete_lnk_silentTimer (s : State) : (payoutComplete s).lnk.silentTimer = s.lnk.silentTimer := by
  unfold payoutComplete; try dsimp only
  (repeat' split) <;> simp
@[simp] theorem payoutComplete_lnk_failures (s : State) : (payoutComplete s).lnk.failures = s.lnk.failures := by
  unfold payoutComplete; try dsimp only
  (repeat' split) <;> simp
@[simp] theorem payoutComplete_lnk_unknownFrames (s : State) : (payoutComplete s).lnk.unknownFrames = s.lnk.unknownFrames := by
  unfold payoutComplete; try dsimp only
  (repeat' split) <;> simp
@[simp] theorem payoutComplete_lnk_droppedFrames (s : State) : (payoutComplete s).lnk.droppedFrames = s.lnk.droppedFrames := by
  unfold payoutComplete; try dsimp only
  (repeat' split) <;> simp
@[simp] theorem payoutComplete_lnk_silentEntries (s : State) : (payoutComplete s).lnk.silentEntries = s.lnk.silentEntries := by
  unfold payoutComplete; try dsimp only
  (repeat' split) <;> simp
@[simp] theorem payoutShort_pending (s : State) : (payoutShort s).pending = s.pending := by
  unfold payoutShort; try dsimp only
  (repeat' split) <;> simp
@[simp] theorem payoutShort_due (s : State) : (payoutShort s).due = s.due := by
  unfold payoutShort; try dsimp only
  (repeat' split) <;> simp
@[simp] theorem payoutShort_phase (s : State) : (payoutShort s).phase = s.phase := by
  unfold payoutShort; try dsimp only
  (repeat' split) <;> simp
@[simp] theorem payoutShort_inputs (s : State) : (payoutShort s).inputs = s.inputs := by
  unfold payoutShort; try dsimp only
  (repeat' split) <;> simp
@[simp] theorem payoutShort_outputs (s : State) : (payoutShort s).outputs = s.outputs := by
  unfold payoutShort; try dsimp only
  (repeat' split) <;> simp
@[simp] theorem payoutShort_params (s : State) : (payoutShort s).params = s.params := by
  unfold payoutShort; try dsimp only
  (repeat' split) <;> simp
@[simp] theorem payoutShort_cnu (s : State) : (payoutShort s).cnu = s.cnu := by
  unfold payoutShort; try dsimp only
  (repeat' split) <;> simp
@[simp] theorem payoutShort_cca (s : State) : (payoutShort s).cca = s.cca := by
  unfold payoutShort; try dsimp only
  (repeat' split) <;> simp
@[simp] theorem payoutShort_vsq (s : State) : (payoutShort s).vsq = s.vsq := by
  unfold payoutShort; try dsimp only
  (repeat' split) <;> simp
@[simp] theorem payoutShort_mxd (s : State) : (payoutShort s).mxd = s.mxd := by
  unfold payoutShort; try dsimp only
  (repeat' split) <;> simp
@[simp] theorem payoutShort_rfc (s : State) : (payoutShort s).rfc = s.rfc := by
  unfold payoutShort; try dsimp only
  (repeat' split) <;> simp
@[simp] theorem payoutShort_lbu (s : State) : (payoutShort s).lbu = s.lbu := by
  unfold payoutShort; try dsimp only
  (repeat' split) <;> simp
@[simp] theorem payoutShort_cru_probeShort (s : State) : (payoutShort s).cru.probeShort = s.cru.probeShort := by
  unfold payoutShort; try dsimp only
  (repeat' split) <;> simp
@[simp] theorem payoutShort_cru_strayExits (s : State) : (payoutShort s).cru.strayExits = s.cru.strayExits := by
  unfold payoutShort; try dsimp only
  (repeat' split) <;> simp
@[simp] theorem payoutShort_lnk_state (s : State) : (payoutShort s).lnk.state = s.lnk.state := by
  unfold payoutShort; try dsimp only
  (repeat' split) <;> simp
@[simp] theorem payoutShort_lnk_heard (s : State) : (payoutShort s).lnk.heard = s.lnk.heard := by
  unfold payoutShort; try dsimp only
  (repeat' split) <;> simp
@[simp] theorem payoutShort_lnk_acknowledged (s : State) : (payoutShort s).lnk.acknowledged = s.lnk.acknowledged := by
  unfold payoutShort; try dsimp only
  (repeat' split) <;> simp
@[simp] theorem payoutShort_lnk_isolationTimer (s : State) : (payoutShort s).lnk.isolationTimer = s.lnk.isolationTimer := by
  unfold payoutShort; try dsimp only
  (repeat' split) <;> simp
@[simp] theorem payoutShort_lnk_change (s : State) : (payoutShort s).lnk.change = s.lnk.change := by
  unfold payoutShort; try dsimp only
  (repeat' split) <;> simp
@[simp] theorem payoutShort_lnk_silentTimer (s : State) : (payoutShort s).lnk.silentTimer = s.lnk.silentTimer := by
  unfold payoutShort; try dsimp only
  (repeat' split) <;> simp
@[simp] theorem payoutShort_lnk_failures (s : State) : (payoutShort s).lnk.failures = s.lnk.failures := by
  unfold payoutShort; try dsimp only
  (repeat' split) <;> simp
@[simp] theorem payoutShort_lnk_unknownFrames (s : State) : (payoutShort s).lnk.unknownFrames = s.lnk.unknownFrames := by
  unfold payoutShort; try dsimp only
  (repeat' split) <;> simp
@[simp] theorem payoutShort_lnk_droppedFrames (s : State) : (payoutShort s).lnk.droppedFrames = s.lnk.droppedFrames := by
  unfold payoutShort; try dsimp only
  (repeat' split) <;> simp
@[simp] theorem payoutShort_lnk_silentEntries (s : State) : (payoutShort s).lnk.silentEntries = s.lnk.silentEntries := by
  unfold payoutShort; try dsimp only
  (repeat' split) <;> simp
@[simp] theorem payoutShort_ssu_own (s : State) : (payoutShort s).ssu.own = s.ssu.own := by
  unfold payoutShort; try dsimp only
  (repeat' split) <;> simp
@[simp] theorem payoutShort_ssu_cause (s : State) : (payoutShort s).ssu.cause = s.ssu.cause := by
  unfold payoutShort; try dsimp only
  (repeat' split) <;> simp
@[simp] theorem payoutShort_ssu_imageStatus (s : State) : (payoutShort s).ssu.imageStatus = s.ssu.imageStatus := by
  unfold payoutShort; try dsimp only
  (repeat' split) <;> simp
@[simp] theorem payoutShort_ssu_auditGood (s : State) : (payoutShort s).ssu.auditGood = s.ssu.auditGood := by
  unfold payoutShort; try dsimp only
  (repeat' split) <;> simp
@[simp] theorem payoutShort_ssu_snapshot (s : State) : (payoutShort s).ssu.snapshot = s.ssu.snapshot := by
  unfold payoutShort; try dsimp only
  (repeat' split) <;> simp
@[simp] theorem payoutShort_ssu_saveOwed (s : State) : (payoutShort s).ssu.saveOwed = s.ssu.saveOwed := by
  unfold payoutShort; try dsimp only
  (repeat' split) <;> simp
@[simp] theorem payoutShort_ssu_lastSave (s : State) : (payoutShort s).ssu.lastSave = s.ssu.lastSave := by
  unfold payoutShort; try dsimp only
  (repeat' split) <;> simp
@[simp] theorem payoutShort_ssu_auditArea (s : State) : (payoutShort s).ssu.auditArea = s.ssu.auditArea := by
  unfold payoutShort; try dsimp only
  (repeat' split) <;> simp
@[simp] theorem pulse_pending (t a : Nat) (s : State) : (pulse t a s).pending = s.pending := by
  unfold pulse; try dsimp only
  (repeat' split) <;> simp
@[simp] theorem pulse_due (t a : Nat) (s : State) : (pulse t a s).due = s.due := by
  unfold pulse; try dsimp only
  (repeat' split) <;> simp
@[simp] theorem pulse_phase (t a : Nat) (s : State) : (pulse t a s).phase = s.phase := by
  unfold pulse; try dsimp only
  (repeat' split) <;> simp
@[simp] theorem pulse_inputs (t a : Nat) (s : State) : (pulse t a s).inputs = s.inputs := by
  unfold pulse; try dsimp only
  (repeat' split) <;> simp
@[simp] theorem pulse_outputs (t a : Nat) (s : State) : (pulse t a s).outputs = s.outputs := by
  unfold pulse; try dsimp only
  (repeat' split) <;> simp
@[simp] theorem pulse_params (t a : Nat) (s : State) : (pulse t a s).params = s.params := by
  unfold pulse; try dsimp only
  (repeat' split) <;> simp
@[simp] theorem pulse_cnu (t a : Nat) (s : State) : (pulse t a s).cnu = s.cnu := by
  unfold pulse; try dsimp only
  (repeat' split) <;> simp
@[simp] theorem pulse_cca (t a : Nat) (s : State) : (pulse t a s).cca = s.cca := by
  unfold pulse; try dsimp only
  (repeat' split) <;> simp
@[simp] theorem pulse_vsq (t a : Nat) (s : State) : (pulse t a s).vsq = s.vsq := by
  unfold pulse; try dsimp only
  (repeat' split) <;> simp
@[simp] theorem pulse_mxd (t a : Nat) (s : State) : (pulse t a s).mxd = s.mxd := by
  unfold pulse; try dsimp only
  (repeat' split) <;> simp
@[simp] theorem pulse_rfc (t a : Nat) (s : State) : (pulse t a s).rfc = s.rfc := by
  unfold pulse; try dsimp only
  (repeat' split) <;> simp
@[simp] theorem pulse_lbu (t a : Nat) (s : State) : (pulse t a s).lbu = s.lbu := by
  unfold pulse; try dsimp only
  (repeat' split) <;> simp
@[simp] theorem pulse_lnk (t a : Nat) (s : State) : (pulse t a s).lnk = s.lnk := by
  unfold pulse; try dsimp only
  (repeat' split) <;> simp
@[simp] theorem pulse_ssu (t a : Nat) (s : State) : (pulse t a s).ssu = s.ssu := by
  unfold pulse; try dsimp only
  (repeat' split) <;> simp
@[simp] theorem pulse_cru_session (t a : Nat) (s : State) : (pulse t a s).cru.session = s.cru.session := by
  unfold pulse; try dsimp only
  (repeat' split) <;> simp
@[simp] theorem pulse_cru_books (t a : Nat) (s : State) : (pulse t a s).cru.books = s.cru.books := by
  unfold pulse; try dsimp only
  (repeat' split) <;> simp
@[simp] theorem pulse_cru_refresh (t a : Nat) (s : State) : (pulse t a s).cru.refresh = s.cru.refresh := by
  unfold pulse; try dsimp only
  (repeat' split) <;> simp
@[simp] theorem pulse_cru_owed (t a : Nat) (s : State) : (pulse t a s).cru.owed = s.cru.owed := by
  unfold pulse; try dsimp only
  (repeat' split) <;> simp
@[simp] theorem pulse_cru_exactChangeOnly (t a : Nat) (s : State) : (pulse t a s).cru.exactChangeOnly = s.cru.exactChangeOnly := by
  unfold pulse; try dsimp only
  (repeat' split) <;> simp
@[simp] theorem pulse_cru_probeShort (t a : Nat) (s : State) : (pulse t a s).cru.probeShort = s.cru.probeShort := by
  unfold pulse; try dsimp only
  (repeat' split) <;> simp
@[simp] theorem pulse_cru_strayExits (t a : Nat) (s : State) : (pulse t a s).cru.strayExits = s.cru.strayExits := by
  unfold pulse; try dsimp only
  (repeat' split) <;> simp
@[simp] theorem pulse_cru_versionRaised (t a : Nat) (s : State) : (pulse t a s).cru.versionRaised = s.cru.versionRaised := by
  unfold pulse; try dsimp only
  (repeat' split) <;> simp
@[simp] theorem coinStep_pending (s : State) : (coinStep s).pending = s.pending := by
  unfold coinStep; try dsimp only
  (repeat' split) <;> simp
@[simp] theorem coinStep_due (s : State) : (coinStep s).due = s.due := by
  unfold coinStep; try dsimp only
  (repeat' split) <;> simp
@[simp] theorem coinStep_phase (s : State) : (coinStep s).phase = s.phase := by
  unfold coinStep; try dsimp only
  (repeat' split) <;> simp
@[simp] theorem coinStep_inputs (s : State) : (coinStep s).inputs = s.inputs := by
  unfold coinStep; try dsimp only
  (repeat' split) <;> simp
@[simp] theorem coinStep_outputs (s : State) : (coinStep s).outputs = s.outputs := by
  unfold coinStep; try dsimp only
  (repeat' split) <;> simp
@[simp] theorem coinStep_params (s : State) : (coinStep s).params = s.params := by
  unfold coinStep; try dsimp only
  (repeat' split) <;> simp
@[simp] theorem coinStep_cnu (s : State) : (coinStep s).cnu = s.cnu := by
  unfold coinStep; try dsimp only
  (repeat' split) <;> simp
@[simp] theorem coinStep_cca (s : State) : (coinStep s).cca = s.cca := by
  unfold coinStep; try dsimp only
  (repeat' split) <;> simp
@[simp] theorem coinStep_vsq (s : State) : (coinStep s).vsq = s.vsq := by
  unfold coinStep; try dsimp only
  (repeat' split) <;> simp
@[simp] theorem coinStep_mxd (s : State) : (coinStep s).mxd = s.mxd := by
  unfold coinStep; try dsimp only
  (repeat' split) <;> simp
@[simp] theorem coinStep_rfc (s : State) : (coinStep s).rfc = s.rfc := by
  unfold coinStep; try dsimp only
  (repeat' split) <;> simp
@[simp] theorem coinStep_lbu (s : State) : (coinStep s).lbu = s.lbu := by
  unfold coinStep; try dsimp only
  (repeat' split) <;> simp
@[simp] theorem coinStep_cru_probeShort (s : State) : (coinStep s).cru.probeShort = s.cru.probeShort := by
  unfold coinStep; try dsimp only
  (repeat' split) <;> simp
@[simp] theorem coinStep_cru_strayExits (s : State) : (coinStep s).cru.strayExits = s.cru.strayExits := by
  unfold coinStep; try dsimp only
  (repeat' split) <;> simp
@[simp] theorem coinStep_lnk_state (s : State) : (coinStep s).lnk.state = s.lnk.state := by
  unfold coinStep; try dsimp only
  (repeat' split) <;> simp
@[simp] theorem coinStep_lnk_heard (s : State) : (coinStep s).lnk.heard = s.lnk.heard := by
  unfold coinStep; try dsimp only
  (repeat' split) <;> simp
@[simp] theorem coinStep_lnk_acknowledged (s : State) : (coinStep s).lnk.acknowledged = s.lnk.acknowledged := by
  unfold coinStep; try dsimp only
  (repeat' split) <;> simp
@[simp] theorem coinStep_lnk_isolationTimer (s : State) : (coinStep s).lnk.isolationTimer = s.lnk.isolationTimer := by
  unfold coinStep; try dsimp only
  (repeat' split) <;> simp
@[simp] theorem coinStep_lnk_change (s : State) : (coinStep s).lnk.change = s.lnk.change := by
  unfold coinStep; try dsimp only
  (repeat' split) <;> simp
@[simp] theorem coinStep_lnk_silentTimer (s : State) : (coinStep s).lnk.silentTimer = s.lnk.silentTimer := by
  unfold coinStep; try dsimp only
  (repeat' split) <;> simp
@[simp] theorem coinStep_lnk_failures (s : State) : (coinStep s).lnk.failures = s.lnk.failures := by
  unfold coinStep; try dsimp only
  (repeat' split) <;> simp
@[simp] theorem coinStep_lnk_unknownFrames (s : State) : (coinStep s).lnk.unknownFrames = s.lnk.unknownFrames := by
  unfold coinStep; try dsimp only
  (repeat' split) <;> simp
@[simp] theorem coinStep_lnk_droppedFrames (s : State) : (coinStep s).lnk.droppedFrames = s.lnk.droppedFrames := by
  unfold coinStep; try dsimp only
  (repeat' split) <;> simp
@[simp] theorem coinStep_lnk_silentEntries (s : State) : (coinStep s).lnk.silentEntries = s.lnk.silentEntries := by
  unfold coinStep; try dsimp only
  (repeat' split) <;> simp
@[simp] theorem coinStep_ssu_own (s : State) : (coinStep s).ssu.own = s.ssu.own := by
  unfold coinStep; try dsimp only
  (repeat' split) <;> simp
@[simp] theorem coinStep_ssu_cause (s : State) : (coinStep s).ssu.cause = s.ssu.cause := by
  unfold coinStep; try dsimp only
  (repeat' split) <;> simp
@[simp] theorem coinStep_ssu_imageStatus (s : State) : (coinStep s).ssu.imageStatus = s.ssu.imageStatus := by
  unfold coinStep; try dsimp only
  (repeat' split) <;> simp
@[simp] theorem coinStep_ssu_auditGood (s : State) : (coinStep s).ssu.auditGood = s.ssu.auditGood := by
  unfold coinStep; try dsimp only
  (repeat' split) <;> simp
@[simp] theorem coinStep_ssu_snapshot (s : State) : (coinStep s).ssu.snapshot = s.ssu.snapshot := by
  unfold coinStep; try dsimp only
  (repeat' split) <;> simp
@[simp] theorem coinStep_ssu_saveOwed (s : State) : (coinStep s).ssu.saveOwed = s.ssu.saveOwed := by
  unfold coinStep; try dsimp only
  (repeat' split) <;> simp
@[simp] theorem coinStep_ssu_lastSave (s : State) : (coinStep s).ssu.lastSave = s.ssu.lastSave := by
  unfold coinStep; try dsimp only
  (repeat' split) <;> simp
@[simp] theorem coinStep_ssu_auditArea (s : State) : (coinStep s).ssu.auditArea = s.ssu.auditArea := by
  unfold coinStep; try dsimp only
  (repeat' split) <;> simp
@[simp] theorem awaitClear_pending (t : Option Nat) (a : Nat) (s : State) : (awaitClear t a s).pending = s.pending := by
  unfold awaitClear; try dsimp only
  (repeat' split) <;> simp
@[simp] theorem awaitClear_due (t : Option Nat) (a : Nat) (s : State) : (awaitClear t a s).due = s.due := by
  unfold awaitClear; try dsimp only
  (repeat' split) <;> simp
@[simp] theorem awaitClear_phase (t : Option Nat) (a : Nat) (s : State) : (awaitClear t a s).phase = s.phase := by
  unfold awaitClear; try dsimp only
  (repeat' split) <;> simp
@[simp] theorem awaitClear_inputs (t : Option Nat) (a : Nat) (s : State) : (awaitClear t a s).inputs = s.inputs := by
  unfold awaitClear; try dsimp only
  (repeat' split) <;> simp
@[simp] theorem awaitClear_outputs (t : Option Nat) (a : Nat) (s : State) : (awaitClear t a s).outputs = s.outputs := by
  unfold awaitClear; try dsimp only
  (repeat' split) <;> simp
@[simp] theorem awaitClear_params (t : Option Nat) (a : Nat) (s : State) : (awaitClear t a s).params = s.params := by
  unfold awaitClear; try dsimp only
  (repeat' split) <;> simp
@[simp] theorem awaitClear_cnu (t : Option Nat) (a : Nat) (s : State) : (awaitClear t a s).cnu = s.cnu := by
  unfold awaitClear; try dsimp only
  (repeat' split) <;> simp
@[simp] theorem awaitClear_cca (t : Option Nat) (a : Nat) (s : State) : (awaitClear t a s).cca = s.cca := by
  unfold awaitClear; try dsimp only
  (repeat' split) <;> simp
@[simp] theorem awaitClear_vsq (t : Option Nat) (a : Nat) (s : State) : (awaitClear t a s).vsq = s.vsq := by
  unfold awaitClear; try dsimp only
  (repeat' split) <;> simp
@[simp] theorem awaitClear_mxd (t : Option Nat) (a : Nat) (s : State) : (awaitClear t a s).mxd = s.mxd := by
  unfold awaitClear; try dsimp only
  (repeat' split) <;> simp
@[simp] theorem awaitClear_rfc (t : Option Nat) (a : Nat) (s : State) : (awaitClear t a s).rfc = s.rfc := by
  unfold awaitClear; try dsimp only
  (repeat' split) <;> simp
@[simp] theorem awaitClear_lbu (t : Option Nat) (a : Nat) (s : State) : (awaitClear t a s).lbu = s.lbu := by
  unfold awaitClear; try dsimp only
  (repeat' split) <;> simp
@[simp] theorem awaitClear_lnk (t : Option Nat) (a : Nat) (s : State) : (awaitClear t a s).lnk = s.lnk := by
  unfold awaitClear; try dsimp only
  (repeat' split) <;> simp
@[simp] theorem awaitClear_ssu (t : Option Nat) (a : Nat) (s : State) : (awaitClear t a s).ssu = s.ssu := by
  unfold awaitClear; try dsimp only
  (repeat' split) <;> simp
@[simp] theorem awaitClear_cru_session (t : Option Nat) (a : Nat) (s : State) : (awaitClear t a s).cru.session = s.cru.session := by
  unfold awaitClear; try dsimp only
  (repeat' split) <;> simp
@[simp] theorem awaitClear_cru_solenoid (t : Option Nat) (a : Nat) (s : State) : (awaitClear t a s).cru.solenoid = s.cru.solenoid := by
  unfold awaitClear; try dsimp only
  (repeat' split) <;> simp
@[simp] theorem awaitClear_cru_books (t : Option Nat) (a : Nat) (s : State) : (awaitClear t a s).cru.books = s.cru.books := by
  unfold awaitClear; try dsimp only
  (repeat' split) <;> simp
@[simp] theorem awaitClear_cru_refresh (t : Option Nat) (a : Nat) (s : State) : (awaitClear t a s).cru.refresh = s.cru.refresh := by
  unfold awaitClear; try dsimp only
  (repeat' split) <;> simp
@[simp] theorem awaitClear_cru_owed (t : Option Nat) (a : Nat) (s : State) : (awaitClear t a s).cru.owed = s.cru.owed := by
  unfold awaitClear; try dsimp only
  (repeat' split) <;> simp
@[simp] theorem awaitClear_cru_exactChangeOnly (t : Option Nat) (a : Nat) (s : State) : (awaitClear t a s).cru.exactChangeOnly = s.cru.exactChangeOnly := by
  unfold awaitClear; try dsimp only
  (repeat' split) <;> simp
@[simp] theorem awaitClear_cru_probeShort (t : Option Nat) (a : Nat) (s : State) : (awaitClear t a s).cru.probeShort = s.cru.probeShort := by
  unfold awaitClear; try dsimp only
  (repeat' split) <;> simp
@[simp] theorem awaitClear_cru_strayExits (t : Option Nat) (a : Nat) (s : State) : (awaitClear t a s).cru.strayExits = s.cru.strayExits := by
  unfold awaitClear; try dsimp only
  (repeat' split) <;> simp
@[simp] theorem awaitClear_cru_versionRaised (t : Option Nat) (a : Nat) (s : State) : (awaitClear t a s).cru.versionRaised = s.cru.versionRaised := by
  unfold awaitClear; try dsimp only
  (repeat' split) <;> simp
@[simp] theorem enterPaying_pending (s : State) : (enterPaying s).pending = s.pending := by
  unfold enterPaying; try dsimp only
  (repeat' split) <;> simp
@[simp] theorem enterPaying_due (s : State) : (enterPaying s).due = s.due := by
  unfold enterPaying; try dsimp only
  (repeat' split) <;> simp
@[simp] theorem enterPaying_phase (s : State) : (enterPaying s).phase = s.phase := by
  unfold enterPaying; try dsimp only
  (repeat' split) <;> simp
@[simp] theorem enterPaying_inputs (s : State) : (enterPaying s).inputs = s.inputs := by
  unfold enterPaying; try dsimp only
  (repeat' split) <;> simp
@[simp] theorem enterPaying_outputs (s : State) : (enterPaying s).outputs = s.outputs := by
  unfold enterPaying; try dsimp only
  (repeat' split) <;> simp
@[simp] theorem enterPaying_params (s : State) : (enterPaying s).params = s.params := by
  unfold enterPaying; try dsimp only
  (repeat' split) <;> simp
@[simp] theorem enterPaying_cnu (s : State) : (enterPaying s).cnu = s.cnu := by
  unfold enterPaying; try dsimp only
  (repeat' split) <;> simp
@[simp] theorem enterPaying_cca (s : State) : (enterPaying s).cca = s.cca := by
  unfold enterPaying; try dsimp only
  (repeat' split) <;> simp
@[simp] theorem enterPaying_vsq (s : State) : (enterPaying s).vsq = s.vsq := by
  unfold enterPaying; try dsimp only
  (repeat' split) <;> simp
@[simp] theorem enterPaying_mxd (s : State) : (enterPaying s).mxd = s.mxd := by
  unfold enterPaying; try dsimp only
  (repeat' split) <;> simp
@[simp] theorem enterPaying_rfc (s : State) : (enterPaying s).rfc = s.rfc := by
  unfold enterPaying; try dsimp only
  (repeat' split) <;> simp
@[simp] theorem enterPaying_lbu (s : State) : (enterPaying s).lbu = s.lbu := by
  unfold enterPaying; try dsimp only
  (repeat' split) <;> simp
@[simp] theorem enterPaying_cru_probeShort (s : State) : (enterPaying s).cru.probeShort = s.cru.probeShort := by
  unfold enterPaying; try dsimp only
  (repeat' split) <;> simp
@[simp] theorem enterPaying_cru_strayExits (s : State) : (enterPaying s).cru.strayExits = s.cru.strayExits := by
  unfold enterPaying; try dsimp only
  (repeat' split) <;> simp
@[simp] theorem enterPaying_lnk_state (s : State) : (enterPaying s).lnk.state = s.lnk.state := by
  unfold enterPaying; try dsimp only
  (repeat' split) <;> simp
@[simp] theorem enterPaying_lnk_heard (s : State) : (enterPaying s).lnk.heard = s.lnk.heard := by
  unfold enterPaying; try dsimp only
  (repeat' split) <;> simp
@[simp] theorem enterPaying_lnk_acknowledged (s : State) : (enterPaying s).lnk.acknowledged = s.lnk.acknowledged := by
  unfold enterPaying; try dsimp only
  (repeat' split) <;> simp
@[simp] theorem enterPaying_lnk_isolationTimer (s : State) : (enterPaying s).lnk.isolationTimer = s.lnk.isolationTimer := by
  unfold enterPaying; try dsimp only
  (repeat' split) <;> simp
@[simp] theorem enterPaying_lnk_change (s : State) : (enterPaying s).lnk.change = s.lnk.change := by
  unfold enterPaying; try dsimp only
  (repeat' split) <;> simp
@[simp] theorem enterPaying_lnk_silentTimer (s : State) : (enterPaying s).lnk.silentTimer = s.lnk.silentTimer := by
  unfold enterPaying; try dsimp only
  (repeat' split) <;> simp
@[simp] theorem enterPaying_lnk_failures (s : State) : (enterPaying s).lnk.failures = s.lnk.failures := by
  unfold enterPaying; try dsimp only
  (repeat' split) <;> simp
@[simp] theorem enterPaying_lnk_unknownFrames (s : State) : (enterPaying s).lnk.unknownFrames = s.lnk.unknownFrames := by
  unfold enterPaying; try dsimp only
  (repeat' split) <;> simp
@[simp] theorem enterPaying_lnk_droppedFrames (s : State) : (enterPaying s).lnk.droppedFrames = s.lnk.droppedFrames := by
  unfold enterPaying; try dsimp only
  (repeat' split) <;> simp
@[simp] theorem enterPaying_lnk_silentEntries (s : State) : (enterPaying s).lnk.silentEntries = s.lnk.silentEntries := by
  unfold enterPaying; try dsimp only
  (repeat' split) <;> simp
@[simp] theorem enterPaying_ssu_own (s : State) : (enterPaying s).ssu.own = s.ssu.own := by
  unfold enterPaying; try dsimp only
  (repeat' split) <;> simp
@[simp] theorem enterPaying_ssu_cause (s : State) : (enterPaying s).ssu.cause = s.ssu.cause := by
  unfold enterPaying; try dsimp only
  (repeat' split) <;> simp
@[simp] theorem enterPaying_ssu_imageStatus (s : State) : (enterPaying s).ssu.imageStatus = s.ssu.imageStatus := by
  unfold enterPaying; try dsimp only
  (repeat' split) <;> simp
@[simp] theorem enterPaying_ssu_auditGood (s : State) : (enterPaying s).ssu.auditGood = s.ssu.auditGood := by
  unfold enterPaying; try dsimp only
  (repeat' split) <;> simp
@[simp] theorem enterPaying_ssu_snapshot (s : State) : (enterPaying s).ssu.snapshot = s.ssu.snapshot := by
  unfold enterPaying; try dsimp only
  (repeat' split) <;> simp
@[simp] theorem enterPaying_ssu_saveOwed (s : State) : (enterPaying s).ssu.saveOwed = s.ssu.saveOwed := by
  unfold enterPaying; try dsimp only
  (repeat' split) <;> simp
@[simp] theorem enterPaying_ssu_lastSave (s : State) : (enterPaying s).ssu.lastSave = s.ssu.lastSave := by
  unfold enterPaying; try dsimp only
  (repeat' split) <;> simp
@[simp] theorem enterPaying_ssu_auditArea (s : State) : (enterPaying s).ssu.auditArea = s.ssu.auditArea := by
  unfold enterPaying; try dsimp only
  (repeat' split) <;> simp
@[simp] theorem openSession_pending (v : Nat) (s : State) : (openSession v s).pending = s.pending := by
  unfold openSession; try dsimp only
  (repeat' split) <;> simp
@[simp] theorem openSession_due (v : Nat) (s : State) : (openSession v s).due = s.due := by
  unfold openSession; try dsimp only
  (repeat' split) <;> simp
@[simp] theorem openSession_phase (v : Nat) (s : State) : (openSession v s).phase = s.phase := by
  unfold openSession; try dsimp only
  (repeat' split) <;> simp
@[simp] theorem openSession_inputs (v : Nat) (s : State) : (openSession v s).inputs = s.inputs := by
  unfold openSession; try dsimp only
  (repeat' split) <;> simp
@[simp] theorem openSession_outputs (v : Nat) (s : State) : (openSession v s).outputs = s.outputs := by
  unfold openSession; try dsimp only
  (repeat' split) <;> simp
@[simp] theorem openSession_params (v : Nat) (s : State) : (openSession v s).params = s.params := by
  unfold openSession; try dsimp only
  (repeat' split) <;> simp
@[simp] theorem openSession_cnu (v : Nat) (s : State) : (openSession v s).cnu = s.cnu := by
  unfold openSession; try dsimp only
  (repeat' split) <;> simp
@[simp] theorem openSession_cca (v : Nat) (s : State) : (openSession v s).cca = s.cca := by
  unfold openSession; try dsimp only
  (repeat' split) <;> simp
@[simp] theorem openSession_vsq (v : Nat) (s : State) : (openSession v s).vsq = s.vsq := by
  unfold openSession; try dsimp only
  (repeat' split) <;> simp
@[simp] theorem openSession_mxd (v : Nat) (s : State) : (openSession v s).mxd = s.mxd := by
  unfold openSession; try dsimp only
  (repeat' split) <;> simp
@[simp] theorem openSession_rfc (v : Nat) (s : State) : (openSession v s).rfc = s.rfc := by
  unfold openSession; try dsimp only
  (repeat' split) <;> simp
@[simp] theorem openSession_lbu (v : Nat) (s : State) : (openSession v s).lbu = s.lbu := by
  unfold openSession; try dsimp only
  (repeat' split) <;> simp
@[simp] theorem openSession_cru_payout (v : Nat) (s : State) : (openSession v s).cru.payout = s.cru.payout := by
  unfold openSession; try dsimp only
  (repeat' split) <;> simp
@[simp] theorem openSession_cru_solenoid (v : Nat) (s : State) : (openSession v s).cru.solenoid = s.cru.solenoid := by
  unfold openSession; try dsimp only
  (repeat' split) <;> simp
@[simp] theorem openSession_cru_exactChangeOnly (v : Nat) (s : State) : (openSession v s).cru.exactChangeOnly = s.cru.exactChangeOnly := by
  unfold openSession; try dsimp only
  (repeat' split) <;> simp
@[simp] theorem openSession_cru_probeShort (v : Nat) (s : State) : (openSession v s).cru.probeShort = s.cru.probeShort := by
  unfold openSession; try dsimp only
  (repeat' split) <;> simp
@[simp] theorem openSession_cru_strayExits (v : Nat) (s : State) : (openSession v s).cru.strayExits = s.cru.strayExits := by
  unfold openSession; try dsimp only
  (repeat' split) <;> simp
@[simp] theorem openSession_lnk_state (v : Nat) (s : State) : (openSession v s).lnk.state = s.lnk.state := by
  unfold openSession; try dsimp only
  (repeat' split) <;> simp
@[simp] theorem openSession_lnk_heard (v : Nat) (s : State) : (openSession v s).lnk.heard = s.lnk.heard := by
  unfold openSession; try dsimp only
  (repeat' split) <;> simp
@[simp] theorem openSession_lnk_acknowledged (v : Nat) (s : State) : (openSession v s).lnk.acknowledged = s.lnk.acknowledged := by
  unfold openSession; try dsimp only
  (repeat' split) <;> simp
@[simp] theorem openSession_lnk_isolationTimer (v : Nat) (s : State) : (openSession v s).lnk.isolationTimer = s.lnk.isolationTimer := by
  unfold openSession; try dsimp only
  (repeat' split) <;> simp
@[simp] theorem openSession_lnk_change (v : Nat) (s : State) : (openSession v s).lnk.change = s.lnk.change := by
  unfold openSession; try dsimp only
  (repeat' split) <;> simp
@[simp] theorem openSession_lnk_periodTimer (v : Nat) (s : State) : (openSession v s).lnk.periodTimer = s.lnk.periodTimer := by
  unfold openSession; try dsimp only
  (repeat' split) <;> simp
@[simp] theorem openSession_lnk_silentTimer (v : Nat) (s : State) : (openSession v s).lnk.silentTimer = s.lnk.silentTimer := by
  unfold openSession; try dsimp only
  (repeat' split) <;> simp
@[simp] theorem openSession_lnk_failures (v : Nat) (s : State) : (openSession v s).lnk.failures = s.lnk.failures := by
  unfold openSession; try dsimp only
  (repeat' split) <;> simp
@[simp] theorem openSession_lnk_unknownFrames (v : Nat) (s : State) : (openSession v s).lnk.unknownFrames = s.lnk.unknownFrames := by
  unfold openSession; try dsimp only
  (repeat' split) <;> simp
@[simp] theorem openSession_lnk_droppedFrames (v : Nat) (s : State) : (openSession v s).lnk.droppedFrames = s.lnk.droppedFrames := by
  unfold openSession; try dsimp only
  (repeat' split) <;> simp
@[simp] theorem openSession_lnk_silentEntries (v : Nat) (s : State) : (openSession v s).lnk.silentEntries = s.lnk.silentEntries := by
  unfold openSession; try dsimp only
  (repeat' split) <;> simp
@[simp] theorem openSession_ssu_own (v : Nat) (s : State) : (openSession v s).ssu.own = s.ssu.own := by
  unfold openSession; try dsimp only
  (repeat' split) <;> simp
@[simp] theorem openSession_ssu_cause (v : Nat) (s : State) : (openSession v s).ssu.cause = s.ssu.cause := by
  unfold openSession; try dsimp only
  (repeat' split) <;> simp
@[simp] theorem openSession_ssu_imageStatus (v : Nat) (s : State) : (openSession v s).ssu.imageStatus = s.ssu.imageStatus := by
  unfold openSession; try dsimp only
  (repeat' split) <;> simp
@[simp] theorem openSession_ssu_auditGood (v : Nat) (s : State) : (openSession v s).ssu.auditGood = s.ssu.auditGood := by
  unfold openSession; try dsimp only
  (repeat' split) <;> simp
@[simp] theorem openSession_ssu_snapshot (v : Nat) (s : State) : (openSession v s).ssu.snapshot = s.ssu.snapshot := by
  unfold openSession; try dsimp only
  (repeat' split) <;> simp
@[simp] theorem openSession_ssu_saveOwed (v : Nat) (s : State) : (openSession v s).ssu.saveOwed = s.ssu.saveOwed := by
  unfold openSession; try dsimp only
  (repeat' split) <;> simp
@[simp] theorem openSession_ssu_lastSave (v : Nat) (s : State) : (openSession v s).ssu.lastSave = s.ssu.lastSave := by
  unfold openSession; try dsimp only
  (repeat' split) <;> simp
@[simp] theorem openSession_ssu_auditArea (v : Nat) (s : State) : (openSession v s).ssu.auditArea = s.ssu.auditArea := by
  unfold openSession; try dsimp only
  (repeat' split) <;> simp
@[simp] theorem addCoin_pending (v : Nat) (s : State) : (addCoin v s).pending = s.pending := by
  unfold addCoin; try dsimp only
  (repeat' split) <;> simp
@[simp] theorem addCoin_due (v : Nat) (s : State) : (addCoin v s).due = s.due := by
  unfold addCoin; try dsimp only
  (repeat' split) <;> simp
@[simp] theorem addCoin_phase (v : Nat) (s : State) : (addCoin v s).phase = s.phase := by
  unfold addCoin; try dsimp only
  (repeat' split) <;> simp
@[simp] theorem addCoin_inputs (v : Nat) (s : State) : (addCoin v s).inputs = s.inputs := by
  unfold addCoin; try dsimp only
  (repeat' split) <;> simp
@[simp] theorem addCoin_outputs (v : Nat) (s : State) : (addCoin v s).outputs = s.outputs := by
  unfold addCoin; try dsimp only
  (repeat' split) <;> simp
@[simp] theorem addCoin_params (v : Nat) (s : State) : (addCoin v s).params = s.params := by
  unfold addCoin; try dsimp only
  (repeat' split) <;> simp
@[simp] theorem addCoin_cnu (v : Nat) (s : State) : (addCoin v s).cnu = s.cnu := by
  unfold addCoin; try dsimp only
  (repeat' split) <;> simp
@[simp] theorem addCoin_cca (v : Nat) (s : State) : (addCoin v s).cca = s.cca := by
  unfold addCoin; try dsimp only
  (repeat' split) <;> simp
@[simp] theorem addCoin_vsq (v : Nat) (s : State) : (addCoin v s).vsq = s.vsq := by
  unfold addCoin; try dsimp only
  (repeat' split) <;> simp
@[simp] theorem addCoin_mxd (v : Nat) (s : State) : (addCoin v s).mxd = s.mxd := by
  unfold addCoin; try dsimp only
  (repeat' split) <;> simp
@[simp] theorem addCoin_rfc (v : Nat) (s : State) : (addCoin v s).rfc = s.rfc := by
  unfold addCoin; try dsimp only
  (repeat' split) <;> simp
@[simp] theorem addCoin_lbu (v : Nat) (s : State) : (addCoin v s).lbu = s.lbu := by
  unfold addCoin; try dsimp only
  (repeat' split) <;> simp
@[simp] theorem addCoin_cru_payout (v : Nat) (s : State) : (addCoin v s).cru.payout = s.cru.payout := by
  unfold addCoin; try dsimp only
  (repeat' split) <;> simp
@[simp] theorem addCoin_cru_solenoid (v : Nat) (s : State) : (addCoin v s).cru.solenoid = s.cru.solenoid := by
  unfold addCoin; try dsimp only
  (repeat' split) <;> simp
@[simp] theorem addCoin_cru_exactChangeOnly (v : Nat) (s : State) : (addCoin v s).cru.exactChangeOnly = s.cru.exactChangeOnly := by
  unfold addCoin; try dsimp only
  (repeat' split) <;> simp
@[simp] theorem addCoin_cru_probeShort (v : Nat) (s : State) : (addCoin v s).cru.probeShort = s.cru.probeShort := by
  unfold addCoin; try dsimp only
  (repeat' split) <;> simp
@[simp] theorem addCoin_cru_strayExits (v : Nat) (s : State) : (addCoin v s).cru.strayExits = s.cru.strayExits := by
  unfold addCoin; try dsimp only
  (repeat' split) <;> simp
@[simp] theorem addCoin_lnk_state (v : Nat) (s : State) : (addCoin v s).lnk.state = s.lnk.state := by
  unfold addCoin; try dsimp only
  (repeat' split) <;> simp
@[simp] theorem addCoin_lnk_heard (v : Nat) (s : State) : (addCoin v s).lnk.heard = s.lnk.heard := by
  unfold addCoin; try dsimp only
  (repeat' split) <;> simp
@[simp] theorem addCoin_lnk_acknowledged (v : Nat) (s : State) : (addCoin v s).lnk.acknowledged = s.lnk.acknowledged := by
  unfold addCoin; try dsimp only
  (repeat' split) <;> simp
@[simp] theorem addCoin_lnk_isolationTimer (v : Nat) (s : State) : (addCoin v s).lnk.isolationTimer = s.lnk.isolationTimer := by
  unfold addCoin; try dsimp only
  (repeat' split) <;> simp
@[simp] theorem addCoin_lnk_change (v : Nat) (s : State) : (addCoin v s).lnk.change = s.lnk.change := by
  unfold addCoin; try dsimp only
  (repeat' split) <;> simp
@[simp] theorem addCoin_lnk_periodTimer (v : Nat) (s : State) : (addCoin v s).lnk.periodTimer = s.lnk.periodTimer := by
  unfold addCoin; try dsimp only
  (repeat' split) <;> simp
@[simp] theorem addCoin_lnk_silentTimer (v : Nat) (s : State) : (addCoin v s).lnk.silentTimer = s.lnk.silentTimer := by
  unfold addCoin; try dsimp only
  (repeat' split) <;> simp
@[simp] theorem addCoin_lnk_failures (v : Nat) (s : State) : (addCoin v s).lnk.failures = s.lnk.failures := by
  unfold addCoin; try dsimp only
  (repeat' split) <;> simp
@[simp] theorem addCoin_lnk_unknownFrames (v : Nat) (s : State) : (addCoin v s).lnk.unknownFrames = s.lnk.unknownFrames := by
  unfold addCoin; try dsimp only
  (repeat' split) <;> simp
@[simp] theorem addCoin_lnk_droppedFrames (v : Nat) (s : State) : (addCoin v s).lnk.droppedFrames = s.lnk.droppedFrames := by
  unfold addCoin; try dsimp only
  (repeat' split) <;> simp
@[simp] theorem addCoin_lnk_silentEntries (v : Nat) (s : State) : (addCoin v s).lnk.silentEntries = s.lnk.silentEntries := by
  unfold addCoin; try dsimp only
  (repeat' split) <;> simp
@[simp] theorem addCoin_ssu_own (v : Nat) (s : State) : (addCoin v s).ssu.own = s.ssu.own := by
  unfold addCoin; try dsimp only
  (repeat' split) <;> simp
@[simp] theorem addCoin_ssu_cause (v : Nat) (s : State) : (addCoin v s).ssu.cause = s.ssu.cause := by
  unfold addCoin; try dsimp only
  (repeat' split) <;> simp
@[simp] theorem addCoin_ssu_imageStatus (v : Nat) (s : State) : (addCoin v s).ssu.imageStatus = s.ssu.imageStatus := by
  unfold addCoin; try dsimp only
  (repeat' split) <;> simp
@[simp] theorem addCoin_ssu_auditGood (v : Nat) (s : State) : (addCoin v s).ssu.auditGood = s.ssu.auditGood := by
  unfold addCoin; try dsimp only
  (repeat' split) <;> simp
@[simp] theorem addCoin_ssu_snapshot (v : Nat) (s : State) : (addCoin v s).ssu.snapshot = s.ssu.snapshot := by
  unfold addCoin; try dsimp only
  (repeat' split) <;> simp
@[simp] theorem addCoin_ssu_saveOwed (v : Nat) (s : State) : (addCoin v s).ssu.saveOwed = s.ssu.saveOwed := by
  unfold addCoin; try dsimp only
  (repeat' split) <;> simp
@[simp] theorem addCoin_ssu_lastSave (v : Nat) (s : State) : (addCoin v s).ssu.lastSave = s.ssu.lastSave := by
  unfold addCoin; try dsimp only
  (repeat' split) <;> simp
@[simp] theorem addCoin_ssu_auditArea (v : Nat) (s : State) : (addCoin v s).ssu.auditArea = s.ssu.auditArea := by
  unfold addCoin; try dsimp only
  (repeat' split) <;> simp
@[simp] theorem creditCoin_pending (v : Nat) (s : State) : (creditCoin v s).pending = s.pending := by
  unfold creditCoin; try dsimp only
  (repeat' split) <;> simp
@[simp] theorem creditCoin_due (v : Nat) (s : State) : (creditCoin v s).due = s.due := by
  unfold creditCoin; try dsimp only
  (repeat' split) <;> simp
@[simp] theorem creditCoin_phase (v : Nat) (s : State) : (creditCoin v s).phase = s.phase := by
  unfold creditCoin; try dsimp only
  (repeat' split) <;> simp
@[simp] theorem creditCoin_inputs (v : Nat) (s : State) : (creditCoin v s).inputs = s.inputs := by
  unfold creditCoin; try dsimp only
  (repeat' split) <;> simp
@[simp] theorem creditCoin_outputs (v : Nat) (s : State) : (creditCoin v s).outputs = s.outputs := by
  unfold creditCoin; try dsimp only
  (repeat' split) <;> simp
@[simp] theorem creditCoin_params (v : Nat) (s : State) : (creditCoin v s).params = s.params := by
  unfold creditCoin; try dsimp only
  (repeat' split) <;> simp
@[simp] theorem creditCoin_cnu (v : Nat) (s : State) : (creditCoin v s).cnu = s.cnu := by
  unfold creditCoin; try dsimp only
  (repeat' split) <;> simp
@[simp] theorem creditCoin_cca (v : Nat) (s : State) : (creditCoin v s).cca = s.cca := by
  unfold creditCoin; try dsimp only
  (repeat' split) <;> simp
@[simp] theorem creditCoin_vsq (v : Nat) (s : State) : (creditCoin v s).vsq = s.vsq := by
  unfold creditCoin; try dsimp only
  (repeat' split) <;> simp
@[simp] theorem creditCoin_mxd (v : Nat) (s : State) : (creditCoin v s).mxd = s.mxd := by
  unfold creditCoin; try dsimp only
  (repeat' split) <;> simp
@[simp] theorem creditCoin_rfc (v : Nat) (s : State) : (creditCoin v s).rfc = s.rfc := by
  unfold creditCoin; try dsimp only
  (repeat' split) <;> simp
@[simp] theorem creditCoin_lbu (v : Nat) (s : State) : (creditCoin v s).lbu = s.lbu := by
  unfold creditCoin; try dsimp only
  (repeat' split) <;> simp
@[simp] theorem creditCoin_cru_payout (v : Nat) (s : State) : (creditCoin v s).cru.payout = s.cru.payout := by
  unfold creditCoin; try dsimp only
  (repeat' split) <;> simp
@[simp] theorem creditCoin_cru_solenoid (v : Nat) (s : State) : (creditCoin v s).cru.solenoid = s.cru.solenoid := by
  unfold creditCoin; try dsimp only
  (repeat' split) <;> simp
@[simp] theorem creditCoin_cru_exactChangeOnly (v : Nat) (s : State) : (creditCoin v s).cru.exactChangeOnly = s.cru.exactChangeOnly := by
  unfold creditCoin; try dsimp only
  (repeat' split) <;> simp
@[simp] theorem creditCoin_cru_probeShort (v : Nat) (s : State) : (creditCoin v s).cru.probeShort = s.cru.probeShort := by
  unfold creditCoin; try dsimp only
  (repeat' split) <;> simp
@[simp] theorem creditCoin_cru_strayExits (v : Nat) (s : State) : (creditCoin v s).cru.strayExits = s.cru.strayExits := by
  unfold creditCoin; try dsimp only
  (repeat' split) <;> simp
@[simp] theorem creditCoin_lnk_state (v : Nat) (s : State) : (creditCoin v s).lnk.state = s.lnk.state := by
  unfold creditCoin; try dsimp only
  (repeat' split) <;> simp
@[simp] theorem creditCoin_lnk_heard (v : Nat) (s : State) : (creditCoin v s).lnk.heard = s.lnk.heard := by
  unfold creditCoin; try dsimp only
  (repeat' split) <;> simp
@[simp] theorem creditCoin_lnk_acknowledged (v : Nat) (s : State) : (creditCoin v s).lnk.acknowledged = s.lnk.acknowledged := by
  unfold creditCoin; try dsimp only
  (repeat' split) <;> simp
@[simp] theorem creditCoin_lnk_isolationTimer (v : Nat) (s : State) : (creditCoin v s).lnk.isolationTimer = s.lnk.isolationTimer := by
  unfold creditCoin; try dsimp only
  (repeat' split) <;> simp
@[simp] theorem creditCoin_lnk_change (v : Nat) (s : State) : (creditCoin v s).lnk.change = s.lnk.change := by
  unfold creditCoin; try dsimp only
  (repeat' split) <;> simp
@[simp] theorem creditCoin_lnk_periodTimer (v : Nat) (s : State) : (creditCoin v s).lnk.periodTimer = s.lnk.periodTimer := by
  unfold creditCoin; try dsimp only
  (repeat' split) <;> simp
@[simp] theorem creditCoin_lnk_silentTimer (v : Nat) (s : State) : (creditCoin v s).lnk.silentTimer = s.lnk.silentTimer := by
  unfold creditCoin; try dsimp only
  (repeat' split) <;> simp
@[simp] theorem creditCoin_lnk_failures (v : Nat) (s : State) : (creditCoin v s).lnk.failures = s.lnk.failures := by
  unfold creditCoin; try dsimp only
  (repeat' split) <;> simp
@[simp] theorem creditCoin_lnk_unknownFrames (v : Nat) (s : State) : (creditCoin v s).lnk.unknownFrames = s.lnk.unknownFrames := by
  unfold creditCoin; try dsimp only
  (repeat' split) <;> simp
@[simp] theorem creditCoin_lnk_droppedFrames (v : Nat) (s : State) : (creditCoin v s).lnk.droppedFrames = s.lnk.droppedFrames := by
  unfold creditCoin; try dsimp only
  (repeat' split) <;> simp
@[simp] theorem creditCoin_lnk_silentEntries (v : Nat) (s : State) : (creditCoin v s).lnk.silentEntries = s.lnk.silentEntries := by
  unfold creditCoin; try dsimp only
  (repeat' split) <;> simp
@[simp] theorem creditCoin_ssu_own (v : Nat) (s : State) : (creditCoin v s).ssu.own = s.ssu.own := by
  unfold creditCoin; try dsimp only
  (repeat' split) <;> simp
@[simp] theorem creditCoin_ssu_cause (v : Nat) (s : State) : (creditCoin v s).ssu.cause = s.ssu.cause := by
  unfold creditCoin; try dsimp only
  (repeat' split) <;> simp
@[simp] theorem creditCoin_ssu_imageStatus (v : Nat) (s : State) : (creditCoin v s).ssu.imageStatus = s.ssu.imageStatus := by
  unfold creditCoin; try dsimp only
  (repeat' split) <;> simp
@[simp] theorem creditCoin_ssu_auditGood (v : Nat) (s : State) : (creditCoin v s).ssu.auditGood = s.ssu.auditGood := by
  unfold creditCoin; try dsimp only
  (repeat' split) <;> simp
@[simp] theorem creditCoin_ssu_snapshot (v : Nat) (s : State) : (creditCoin v s).ssu.snapshot = s.ssu.snapshot := by
  unfold creditCoin; try dsimp only
  (repeat' split) <;> simp
@[simp] theorem creditCoin_ssu_saveOwed (v : Nat) (s : State) : (creditCoin v s).ssu.saveOwed = s.ssu.saveOwed := by
  unfold creditCoin; try dsimp only
  (repeat' split) <;> simp
@[simp] theorem creditCoin_ssu_lastSave (v : Nat) (s : State) : (creditCoin v s).ssu.lastSave = s.ssu.lastSave := by
  unfold creditCoin; try dsimp only
  (repeat' split) <;> simp
@[simp] theorem creditCoin_ssu_auditArea (v : Nat) (s : State) : (creditCoin v s).ssu.auditArea = s.ssu.auditArea := by
  unfold creditCoin; try dsimp only
  (repeat' split) <;> simp
@[simp] theorem grantDebit_pending (r : Station) (a : Nat) (t : Byte) (s : State) : (grantDebit r a t s).pending = s.pending := by
  unfold grantDebit; try dsimp only
  (repeat' split) <;> simp
@[simp] theorem grantDebit_due (r : Station) (a : Nat) (t : Byte) (s : State) : (grantDebit r a t s).due = s.due := by
  unfold grantDebit; try dsimp only
  (repeat' split) <;> simp
@[simp] theorem grantDebit_phase (r : Station) (a : Nat) (t : Byte) (s : State) : (grantDebit r a t s).phase = s.phase := by
  unfold grantDebit; try dsimp only
  (repeat' split) <;> simp
@[simp] theorem grantDebit_inputs (r : Station) (a : Nat) (t : Byte) (s : State) : (grantDebit r a t s).inputs = s.inputs := by
  unfold grantDebit; try dsimp only
  (repeat' split) <;> simp
@[simp] theorem grantDebit_outputs (r : Station) (a : Nat) (t : Byte) (s : State) : (grantDebit r a t s).outputs = s.outputs := by
  unfold grantDebit; try dsimp only
  (repeat' split) <;> simp
@[simp] theorem grantDebit_params (r : Station) (a : Nat) (t : Byte) (s : State) : (grantDebit r a t s).params = s.params := by
  unfold grantDebit; try dsimp only
  (repeat' split) <;> simp
@[simp] theorem grantDebit_cnu (r : Station) (a : Nat) (t : Byte) (s : State) : (grantDebit r a t s).cnu = s.cnu := by
  unfold grantDebit; try dsimp only
  (repeat' split) <;> simp
@[simp] theorem grantDebit_cca (r : Station) (a : Nat) (t : Byte) (s : State) : (grantDebit r a t s).cca = s.cca := by
  unfold grantDebit; try dsimp only
  (repeat' split) <;> simp
@[simp] theorem grantDebit_vsq (r : Station) (a : Nat) (t : Byte) (s : State) : (grantDebit r a t s).vsq = s.vsq := by
  unfold grantDebit; try dsimp only
  (repeat' split) <;> simp
@[simp] theorem grantDebit_mxd (r : Station) (a : Nat) (t : Byte) (s : State) : (grantDebit r a t s).mxd = s.mxd := by
  unfold grantDebit; try dsimp only
  (repeat' split) <;> simp
@[simp] theorem grantDebit_rfc (r : Station) (a : Nat) (t : Byte) (s : State) : (grantDebit r a t s).rfc = s.rfc := by
  unfold grantDebit; try dsimp only
  (repeat' split) <;> simp
@[simp] theorem grantDebit_lbu (r : Station) (a : Nat) (t : Byte) (s : State) : (grantDebit r a t s).lbu = s.lbu := by
  unfold grantDebit; try dsimp only
  (repeat' split) <;> simp
@[simp] theorem grantDebit_ssu (r : Station) (a : Nat) (t : Byte) (s : State) : (grantDebit r a t s).ssu = s.ssu := by
  unfold grantDebit; try dsimp only
  (repeat' split) <;> simp
@[simp] theorem grantDebit_cru_payout (r : Station) (a : Nat) (t : Byte) (s : State) : (grantDebit r a t s).cru.payout = s.cru.payout := by
  unfold grantDebit; try dsimp only
  (repeat' split) <;> simp
@[simp] theorem grantDebit_cru_solenoid (r : Station) (a : Nat) (t : Byte) (s : State) : (grantDebit r a t s).cru.solenoid = s.cru.solenoid := by
  unfold grantDebit; try dsimp only
  (repeat' split) <;> simp
@[simp] theorem grantDebit_cru_books (r : Station) (a : Nat) (t : Byte) (s : State) : (grantDebit r a t s).cru.books = s.cru.books := by
  unfold grantDebit; try dsimp only
  (repeat' split) <;> simp
@[simp] theorem grantDebit_cru_exactChangeOnly (r : Station) (a : Nat) (t : Byte) (s : State) : (grantDebit r a t s).cru.exactChangeOnly = s.cru.exactChangeOnly := by
  unfold grantDebit; try dsimp only
  (repeat' split) <;> simp
@[simp] theorem grantDebit_cru_probeShort (r : Station) (a : Nat) (t : Byte) (s : State) : (grantDebit r a t s).cru.probeShort = s.cru.probeShort := by
  unfold grantDebit; try dsimp only
  (repeat' split) <;> simp
@[simp] theorem grantDebit_cru_strayExits (r : Station) (a : Nat) (t : Byte) (s : State) : (grantDebit r a t s).cru.strayExits = s.cru.strayExits := by
  unfold grantDebit; try dsimp only
  (repeat' split) <;> simp
@[simp] theorem grantDebit_lnk_state (r : Station) (a : Nat) (t : Byte) (s : State) : (grantDebit r a t s).lnk.state = s.lnk.state := by
  unfold grantDebit; try dsimp only
  (repeat' split) <;> simp
@[simp] theorem grantDebit_lnk_heard (r : Station) (a : Nat) (t : Byte) (s : State) : (grantDebit r a t s).lnk.heard = s.lnk.heard := by
  unfold grantDebit; try dsimp only
  (repeat' split) <;> simp
@[simp] theorem grantDebit_lnk_acknowledged (r : Station) (a : Nat) (t : Byte) (s : State) : (grantDebit r a t s).lnk.acknowledged = s.lnk.acknowledged := by
  unfold grantDebit; try dsimp only
  (repeat' split) <;> simp
@[simp] theorem grantDebit_lnk_isolationTimer (r : Station) (a : Nat) (t : Byte) (s : State) : (grantDebit r a t s).lnk.isolationTimer = s.lnk.isolationTimer := by
  unfold grantDebit; try dsimp only
  (repeat' split) <;> simp
@[simp] theorem grantDebit_lnk_change (r : Station) (a : Nat) (t : Byte) (s : State) : (grantDebit r a t s).lnk.change = s.lnk.change := by
  unfold grantDebit; try dsimp only
  (repeat' split) <;> simp
@[simp] theorem grantDebit_lnk_periodTimer (r : Station) (a : Nat) (t : Byte) (s : State) : (grantDebit r a t s).lnk.periodTimer = s.lnk.periodTimer := by
  unfold grantDebit; try dsimp only
  (repeat' split) <;> simp
@[simp] theorem grantDebit_lnk_silentTimer (r : Station) (a : Nat) (t : Byte) (s : State) : (grantDebit r a t s).lnk.silentTimer = s.lnk.silentTimer := by
  unfold grantDebit; try dsimp only
  (repeat' split) <;> simp
@[simp] theorem grantDebit_lnk_failures (r : Station) (a : Nat) (t : Byte) (s : State) : (grantDebit r a t s).lnk.failures = s.lnk.failures := by
  unfold grantDebit; try dsimp only
  (repeat' split) <;> simp
@[simp] theorem grantDebit_lnk_unknownFrames (r : Station) (a : Nat) (t : Byte) (s : State) : (grantDebit r a t s).lnk.unknownFrames = s.lnk.unknownFrames := by
  unfold grantDebit; try dsimp only
  (repeat' split) <;> simp
@[simp] theorem grantDebit_lnk_droppedFrames (r : Station) (a : Nat) (t : Byte) (s : State) : (grantDebit r a t s).lnk.droppedFrames = s.lnk.droppedFrames := by
  unfold grantDebit; try dsimp only
  (repeat' split) <;> simp
@[simp] theorem grantDebit_lnk_silentEntries (r : Station) (a : Nat) (t : Byte) (s : State) : (grantDebit r a t s).lnk.silentEntries = s.lnk.silentEntries := by
  unfold grantDebit; try dsimp only
  (repeat' split) <;> simp
@[simp] theorem takeDebit_pending (r : Station) (n : Byte) (a : Nat) (t : Byte) (x : Option Half) (s : State) : ((takeDebit r n a t x s).1).pending = s.pending := by
  unfold takeDebit; try dsimp only
  (repeat' split) <;> simp
@[simp] theorem takeDebit_due (r : Station) (n : Byte) (a : Nat) (t : Byte) (x : Option Half) (s : State) : ((takeDebit r n a t x s).1).due = s.due := by
  unfold takeDebit; try dsimp only
  (repeat' split) <;> simp
@[simp] theorem takeDebit_phase (r : Station) (n : Byte) (a : Nat) (t : Byte) (x : Option Half) (s : State) : ((takeDebit r n a t x s).1).phase = s.phase := by
  unfold takeDebit; try dsimp only
  (repeat' split) <;> simp
@[simp] theorem takeDebit_inputs (r : Station) (n : Byte) (a : Nat) (t : Byte) (x : Option Half) (s : State) : ((takeDebit r n a t x s).1).inputs = s.inputs := by
  unfold takeDebit; try dsimp only
  (repeat' split) <;> simp
@[simp] theorem takeDebit_outputs (r : Station) (n : Byte) (a : Nat) (t : Byte) (x : Option Half) (s : State) : ((takeDebit r n a t x s).1).outputs = s.outputs := by
  unfold takeDebit; try dsimp only
  (repeat' split) <;> simp
@[simp] theorem takeDebit_params (r : Station) (n : Byte) (a : Nat) (t : Byte) (x : Option Half) (s : State) : ((takeDebit r n a t x s).1).params = s.params := by
  unfold takeDebit; try dsimp only
  (repeat' split) <;> simp
@[simp] theorem takeDebit_cnu (r : Station) (n : Byte) (a : Nat) (t : Byte) (x : Option Half) (s : State) : ((takeDebit r n a t x s).1).cnu = s.cnu := by
  unfold takeDebit; try dsimp only
  (repeat' split) <;> simp
@[simp] theorem takeDebit_cca (r : Station) (n : Byte) (a : Nat) (t : Byte) (x : Option Half) (s : State) : ((takeDebit r n a t x s).1).cca = s.cca := by
  unfold takeDebit; try dsimp only
  (repeat' split) <;> simp
@[simp] theorem takeDebit_vsq (r : Station) (n : Byte) (a : Nat) (t : Byte) (x : Option Half) (s : State) : ((takeDebit r n a t x s).1).vsq = s.vsq := by
  unfold takeDebit; try dsimp only
  (repeat' split) <;> simp
@[simp] theorem takeDebit_mxd (r : Station) (n : Byte) (a : Nat) (t : Byte) (x : Option Half) (s : State) : ((takeDebit r n a t x s).1).mxd = s.mxd := by
  unfold takeDebit; try dsimp only
  (repeat' split) <;> simp
@[simp] theorem takeDebit_rfc (r : Station) (n : Byte) (a : Nat) (t : Byte) (x : Option Half) (s : State) : ((takeDebit r n a t x s).1).rfc = s.rfc := by
  unfold takeDebit; try dsimp only
  (repeat' split) <;> simp
@[simp] theorem takeDebit_lbu (r : Station) (n : Byte) (a : Nat) (t : Byte) (x : Option Half) (s : State) : ((takeDebit r n a t x s).1).lbu = s.lbu := by
  unfold takeDebit; try dsimp only
  (repeat' split) <;> simp
@[simp] theorem takeDebit_ssu (r : Station) (n : Byte) (a : Nat) (t : Byte) (x : Option Half) (s : State) : ((takeDebit r n a t x s).1).ssu = s.ssu := by
  unfold takeDebit; try dsimp only
  (repeat' split) <;> simp
@[simp] theorem takeDebit_cru_payout (r : Station) (n : Byte) (a : Nat) (t : Byte) (x : Option Half) (s : State) : ((takeDebit r n a t x s).1).cru.payout = s.cru.payout := by
  unfold takeDebit; try dsimp only
  (repeat' split) <;> simp
@[simp] theorem takeDebit_cru_solenoid (r : Station) (n : Byte) (a : Nat) (t : Byte) (x : Option Half) (s : State) : ((takeDebit r n a t x s).1).cru.solenoid = s.cru.solenoid := by
  unfold takeDebit; try dsimp only
  (repeat' split) <;> simp
@[simp] theorem takeDebit_cru_books (r : Station) (n : Byte) (a : Nat) (t : Byte) (x : Option Half) (s : State) : ((takeDebit r n a t x s).1).cru.books = s.cru.books := by
  unfold takeDebit; try dsimp only
  (repeat' split) <;> simp
@[simp] theorem takeDebit_cru_exactChangeOnly (r : Station) (n : Byte) (a : Nat) (t : Byte) (x : Option Half) (s : State) : ((takeDebit r n a t x s).1).cru.exactChangeOnly = s.cru.exactChangeOnly := by
  unfold takeDebit; try dsimp only
  (repeat' split) <;> simp
@[simp] theorem takeDebit_cru_probeShort (r : Station) (n : Byte) (a : Nat) (t : Byte) (x : Option Half) (s : State) : ((takeDebit r n a t x s).1).cru.probeShort = s.cru.probeShort := by
  unfold takeDebit; try dsimp only
  (repeat' split) <;> simp
@[simp] theorem takeDebit_cru_strayExits (r : Station) (n : Byte) (a : Nat) (t : Byte) (x : Option Half) (s : State) : ((takeDebit r n a t x s).1).cru.strayExits = s.cru.strayExits := by
  unfold takeDebit; try dsimp only
  (repeat' split) <;> simp
@[simp] theorem takeDebit_lnk_state (r : Station) (n : Byte) (a : Nat) (t : Byte) (x : Option Half) (s : State) : ((takeDebit r n a t x s).1).lnk.state = s.lnk.state := by
  unfold takeDebit; try dsimp only
  (repeat' split) <;> simp
@[simp] theorem takeDebit_lnk_heard (r : Station) (n : Byte) (a : Nat) (t : Byte) (x : Option Half) (s : State) : ((takeDebit r n a t x s).1).lnk.heard = s.lnk.heard := by
  unfold takeDebit; try dsimp only
  (repeat' split) <;> simp
@[simp] theorem takeDebit_lnk_acknowledged (r : Station) (n : Byte) (a : Nat) (t : Byte) (x : Option Half) (s : State) : ((takeDebit r n a t x s).1).lnk.acknowledged = s.lnk.acknowledged := by
  unfold takeDebit; try dsimp only
  (repeat' split) <;> simp
@[simp] theorem takeDebit_lnk_isolationTimer (r : Station) (n : Byte) (a : Nat) (t : Byte) (x : Option Half) (s : State) : ((takeDebit r n a t x s).1).lnk.isolationTimer = s.lnk.isolationTimer := by
  unfold takeDebit; try dsimp only
  (repeat' split) <;> simp
@[simp] theorem takeDebit_lnk_change (r : Station) (n : Byte) (a : Nat) (t : Byte) (x : Option Half) (s : State) : ((takeDebit r n a t x s).1).lnk.change = s.lnk.change := by
  unfold takeDebit; try dsimp only
  (repeat' split) <;> simp
@[simp] theorem takeDebit_lnk_periodTimer (r : Station) (n : Byte) (a : Nat) (t : Byte) (x : Option Half) (s : State) : ((takeDebit r n a t x s).1).lnk.periodTimer = s.lnk.periodTimer := by
  unfold takeDebit; try dsimp only
  (repeat' split) <;> simp
@[simp] theorem takeDebit_lnk_silentTimer (r : Station) (n : Byte) (a : Nat) (t : Byte) (x : Option Half) (s : State) : ((takeDebit r n a t x s).1).lnk.silentTimer = s.lnk.silentTimer := by
  unfold takeDebit; try dsimp only
  (repeat' split) <;> simp
@[simp] theorem takeDebit_lnk_failures (r : Station) (n : Byte) (a : Nat) (t : Byte) (x : Option Half) (s : State) : ((takeDebit r n a t x s).1).lnk.failures = s.lnk.failures := by
  unfold takeDebit; try dsimp only
  (repeat' split) <;> simp
@[simp] theorem takeDebit_lnk_unknownFrames (r : Station) (n : Byte) (a : Nat) (t : Byte) (x : Option Half) (s : State) : ((takeDebit r n a t x s).1).lnk.unknownFrames = s.lnk.unknownFrames := by
  unfold takeDebit; try dsimp only
  (repeat' split) <;> simp
@[simp] theorem takeDebit_lnk_droppedFrames (r : Station) (n : Byte) (a : Nat) (t : Byte) (x : Option Half) (s : State) : ((takeDebit r n a t x s).1).lnk.droppedFrames = s.lnk.droppedFrames := by
  unfold takeDebit; try dsimp only
  (repeat' split) <;> simp
@[simp] theorem takeDebit_lnk_silentEntries (r : Station) (n : Byte) (a : Nat) (t : Byte) (x : Option Half) (s : State) : ((takeDebit r n a t x s).1).lnk.silentEntries = s.lnk.silentEntries := by
  unfold takeDebit; try dsimp only
  (repeat' split) <;> simp
@[simp] theorem afterSettle_pending (r : SettleResult) (s : State) : (afterSettle r s).pending = s.pending := by
  unfold afterSettle; try dsimp only
  (repeat' split) <;> simp
@[simp] theorem afterSettle_due (r : SettleResult) (s : State) : (afterSettle r s).due = s.due := by
  unfold afterSettle; try dsimp only
  (repeat' split) <;> simp
@[simp] theorem afterSettle_phase (r : SettleResult) (s : State) : (afterSettle r s).phase = s.phase := by
  unfold afterSettle; try dsimp only
  (repeat' split) <;> simp
@[simp] theorem afterSettle_inputs (r : SettleResult) (s : State) : (afterSettle r s).inputs = s.inputs := by
  unfold afterSettle; try dsimp only
  (repeat' split) <;> simp
@[simp] theorem afterSettle_outputs (r : SettleResult) (s : State) : (afterSettle r s).outputs = s.outputs := by
  unfold afterSettle; try dsimp only
  (repeat' split) <;> simp
@[simp] theorem afterSettle_params (r : SettleResult) (s : State) : (afterSettle r s).params = s.params := by
  unfold afterSettle; try dsimp only
  (repeat' split) <;> simp
@[simp] theorem afterSettle_cnu (r : SettleResult) (s : State) : (afterSettle r s).cnu = s.cnu := by
  unfold afterSettle; try dsimp only
  (repeat' split) <;> simp
@[simp] theorem afterSettle_cca (r : SettleResult) (s : State) : (afterSettle r s).cca = s.cca := by
  unfold afterSettle; try dsimp only
  (repeat' split) <;> simp
@[simp] theorem afterSettle_vsq (r : SettleResult) (s : State) : (afterSettle r s).vsq = s.vsq := by
  unfold afterSettle; try dsimp only
  (repeat' split) <;> simp
@[simp] theorem afterSettle_mxd (r : SettleResult) (s : State) : (afterSettle r s).mxd = s.mxd := by
  unfold afterSettle; try dsimp only
  (repeat' split) <;> simp
@[simp] theorem afterSettle_rfc (r : SettleResult) (s : State) : (afterSettle r s).rfc = s.rfc := by
  unfold afterSettle; try dsimp only
  (repeat' split) <;> simp
@[simp] theorem afterSettle_lbu (r : SettleResult) (s : State) : (afterSettle r s).lbu = s.lbu := by
  unfold afterSettle; try dsimp only
  (repeat' split) <;> simp
@[simp] theorem afterSettle_cru_probeShort (r : SettleResult) (s : State) : (afterSettle r s).cru.probeShort = s.cru.probeShort := by
  unfold afterSettle; try dsimp only
  (repeat' split) <;> simp
@[simp] theorem afterSettle_cru_strayExits (r : SettleResult) (s : State) : (afterSettle r s).cru.strayExits = s.cru.strayExits := by
  unfold afterSettle; try dsimp only
  (repeat' split) <;> simp
@[simp] theorem afterSettle_lnk_state (r : SettleResult) (s : State) : (afterSettle r s).lnk.state = s.lnk.state := by
  unfold afterSettle; try dsimp only
  (repeat' split) <;> simp
@[simp] theorem afterSettle_lnk_heard (r : SettleResult) (s : State) : (afterSettle r s).lnk.heard = s.lnk.heard := by
  unfold afterSettle; try dsimp only
  (repeat' split) <;> simp
@[simp] theorem afterSettle_lnk_acknowledged (r : SettleResult) (s : State) : (afterSettle r s).lnk.acknowledged = s.lnk.acknowledged := by
  unfold afterSettle; try dsimp only
  (repeat' split) <;> simp
@[simp] theorem afterSettle_lnk_isolationTimer (r : SettleResult) (s : State) : (afterSettle r s).lnk.isolationTimer = s.lnk.isolationTimer := by
  unfold afterSettle; try dsimp only
  (repeat' split) <;> simp
@[simp] theorem afterSettle_lnk_change (r : SettleResult) (s : State) : (afterSettle r s).lnk.change = s.lnk.change := by
  unfold afterSettle; try dsimp only
  (repeat' split) <;> simp
@[simp] theorem afterSettle_lnk_silentTimer (r : SettleResult) (s : State) : (afterSettle r s).lnk.silentTimer = s.lnk.silentTimer := by
  unfold afterSettle; try dsimp only
  (repeat' split) <;> simp
@[simp] theorem afterSettle_lnk_failures (r : SettleResult) (s : State) : (afterSettle r s).lnk.failures = s.lnk.failures := by
  unfold afterSettle; try dsimp only
  (repeat' split) <;> simp
@[simp] theorem afterSettle_lnk_unknownFrames (r : SettleResult) (s : State) : (afterSettle r s).lnk.unknownFrames = s.lnk.unknownFrames := by
  unfold afterSettle; try dsimp only
  (repeat' split) <;> simp
@[simp] theorem afterSettle_lnk_droppedFrames (r : SettleResult) (s : State) : (afterSettle r s).lnk.droppedFrames = s.lnk.droppedFrames := by
  unfold afterSettle; try dsimp only
  (repeat' split) <;> simp
@[simp] theorem afterSettle_lnk_silentEntries (r : SettleResult) (s : State) : (afterSettle r s).lnk.silentEntries = s.lnk.silentEntries := by
  unfold afterSettle; try dsimp only
  (repeat' split) <;> simp
@[simp] theorem afterSettle_ssu_own (r : SettleResult) (s : State) : (afterSettle r s).ssu.own = s.ssu.own := by
  unfold afterSettle; try dsimp only
  (repeat' split) <;> simp
@[simp] theorem afterSettle_ssu_cause (r : SettleResult) (s : State) : (afterSettle r s).ssu.cause = s.ssu.cause := by
  unfold afterSettle; try dsimp only
  (repeat' split) <;> simp
@[simp] theorem afterSettle_ssu_imageStatus (r : SettleResult) (s : State) : (afterSettle r s).ssu.imageStatus = s.ssu.imageStatus := by
  unfold afterSettle; try dsimp only
  (repeat' split) <;> simp
@[simp] theorem afterSettle_ssu_auditGood (r : SettleResult) (s : State) : (afterSettle r s).ssu.auditGood = s.ssu.auditGood := by
  unfold afterSettle; try dsimp only
  (repeat' split) <;> simp
@[simp] theorem afterSettle_ssu_snapshot (r : SettleResult) (s : State) : (afterSettle r s).ssu.snapshot = s.ssu.snapshot := by
  unfold afterSettle; try dsimp only
  (repeat' split) <;> simp
@[simp] theorem afterSettle_ssu_saveOwed (r : SettleResult) (s : State) : (afterSettle r s).ssu.saveOwed = s.ssu.saveOwed := by
  unfold afterSettle; try dsimp only
  (repeat' split) <;> simp
@[simp] theorem afterSettle_ssu_lastSave (r : SettleResult) (s : State) : (afterSettle r s).ssu.lastSave = s.ssu.lastSave := by
  unfold afterSettle; try dsimp only
  (repeat' split) <;> simp
@[simp] theorem afterSettle_ssu_auditArea (r : SettleResult) (s : State) : (afterSettle r s).ssu.auditArea = s.ssu.auditArea := by
  unfold afterSettle; try dsimp only
  (repeat' split) <;> simp
@[simp] theorem endHold_pending (r : SettleResult) (s : State) : (endHold r s).pending = s.pending := by
  unfold endHold; try dsimp only
  (repeat' split) <;> simp
@[simp] theorem endHold_due (r : SettleResult) (s : State) : (endHold r s).due = s.due := by
  unfold endHold; try dsimp only
  (repeat' split) <;> simp
@[simp] theorem endHold_phase (r : SettleResult) (s : State) : (endHold r s).phase = s.phase := by
  unfold endHold; try dsimp only
  (repeat' split) <;> simp
@[simp] theorem endHold_inputs (r : SettleResult) (s : State) : (endHold r s).inputs = s.inputs := by
  unfold endHold; try dsimp only
  (repeat' split) <;> simp
@[simp] theorem endHold_outputs (r : SettleResult) (s : State) : (endHold r s).outputs = s.outputs := by
  unfold endHold; try dsimp only
  (repeat' split) <;> simp
@[simp] theorem endHold_params (r : SettleResult) (s : State) : (endHold r s).params = s.params := by
  unfold endHold; try dsimp only
  (repeat' split) <;> simp
@[simp] theorem endHold_cnu (r : SettleResult) (s : State) : (endHold r s).cnu = s.cnu := by
  unfold endHold; try dsimp only
  (repeat' split) <;> simp
@[simp] theorem endHold_cca (r : SettleResult) (s : State) : (endHold r s).cca = s.cca := by
  unfold endHold; try dsimp only
  (repeat' split) <;> simp
@[simp] theorem endHold_vsq (r : SettleResult) (s : State) : (endHold r s).vsq = s.vsq := by
  unfold endHold; try dsimp only
  (repeat' split) <;> simp
@[simp] theorem endHold_mxd (r : SettleResult) (s : State) : (endHold r s).mxd = s.mxd := by
  unfold endHold; try dsimp only
  (repeat' split) <;> simp
@[simp] theorem endHold_rfc (r : SettleResult) (s : State) : (endHold r s).rfc = s.rfc := by
  unfold endHold; try dsimp only
  (repeat' split) <;> simp
@[simp] theorem endHold_lbu (r : SettleResult) (s : State) : (endHold r s).lbu = s.lbu := by
  unfold endHold; try dsimp only
  (repeat' split) <;> simp
@[simp] theorem endHold_lnk (r : SettleResult) (s : State) : (endHold r s).lnk = s.lnk := by
  unfold endHold; try dsimp only
  (repeat' split) <;> simp
@[simp] theorem endHold_cru_payout (r : SettleResult) (s : State) : (endHold r s).cru.payout = s.cru.payout := by
  unfold endHold; try dsimp only
  (repeat' split) <;> simp
@[simp] theorem endHold_cru_solenoid (r : SettleResult) (s : State) : (endHold r s).cru.solenoid = s.cru.solenoid := by
  unfold endHold; try dsimp only
  (repeat' split) <;> simp
@[simp] theorem endHold_cru_refresh (r : SettleResult) (s : State) : (endHold r s).cru.refresh = s.cru.refresh := by
  unfold endHold; try dsimp only
  (repeat' split) <;> simp
@[simp] theorem endHold_cru_owed (r : SettleResult) (s : State) : (endHold r s).cru.owed = s.cru.owed := by
  unfold endHold; try dsimp only
  (repeat' split) <;> simp
@[simp] theorem endHold_cru_exactChangeOnly (r : SettleResult) (s : State) : (endHold r s).cru.exactChangeOnly = s.cru.exactChangeOnly := by
  unfold endHold; try dsimp only
  (repeat' split) <;> simp
@[simp] theorem endHold_cru_probeShort (r : SettleResult) (s : State) : (endHold r s).cru.probeShort = s.cru.probeShort := by
  unfold endHold; try dsimp only
  (repeat' split) <;> simp
@[simp] theorem endHold_cru_strayExits (r : SettleResult) (s : State) : (endHold r s).cru.strayExits = s.cru.strayExits := by
  unfold endHold; try dsimp only
  (repeat' split) <;> simp
@[simp] theorem endHold_cru_versionRaised (r : SettleResult) (s : State) : (endHold r s).cru.versionRaised = s.cru.versionRaised := by
  unfold endHold; try dsimp only
  (repeat' split) <;> simp
@[simp] theorem endHold_ssu_own (r : SettleResult) (s : State) : (endHold r s).ssu.own = s.ssu.own := by
  unfold endHold; try dsimp only
  (repeat' split) <;> simp
@[simp] theorem endHold_ssu_cause (r : SettleResult) (s : State) : (endHold r s).ssu.cause = s.ssu.cause := by
  unfold endHold; try dsimp only
  (repeat' split) <;> simp
@[simp] theorem endHold_ssu_imageStatus (r : SettleResult) (s : State) : (endHold r s).ssu.imageStatus = s.ssu.imageStatus := by
  unfold endHold; try dsimp only
  (repeat' split) <;> simp
@[simp] theorem endHold_ssu_auditGood (r : SettleResult) (s : State) : (endHold r s).ssu.auditGood = s.ssu.auditGood := by
  unfold endHold; try dsimp only
  (repeat' split) <;> simp
@[simp] theorem endHold_ssu_snapshot (r : SettleResult) (s : State) : (endHold r s).ssu.snapshot = s.ssu.snapshot := by
  unfold endHold; try dsimp only
  (repeat' split) <;> simp
@[simp] theorem endHold_ssu_saveOwed (r : SettleResult) (s : State) : (endHold r s).ssu.saveOwed = s.ssu.saveOwed := by
  unfold endHold; try dsimp only
  (repeat' split) <;> simp
@[simp] theorem endHold_ssu_lastSave (r : SettleResult) (s : State) : (endHold r s).ssu.lastSave = s.ssu.lastSave := by
  unfold endHold; try dsimp only
  (repeat' split) <;> simp
@[simp] theorem endHold_ssu_auditArea (r : SettleResult) (s : State) : (endHold r s).ssu.auditArea = s.ssu.auditArea := by
  unfold endHold; try dsimp only
  (repeat' split) <;> simp
@[simp] theorem takeSettle_pending (r : Station) (t n : Byte) (x : SettleResult) (s : State) : ((takeSettle r t n x s).1).pending = s.pending := by
  unfold takeSettle; try dsimp only
  (repeat' split) <;> simp
@[simp] theorem takeSettle_due (r : Station) (t n : Byte) (x : SettleResult) (s : State) : ((takeSettle r t n x s).1).due = s.due := by
  unfold takeSettle; try dsimp only
  (repeat' split) <;> simp
@[simp] theorem takeSettle_phase (r : Station) (t n : Byte) (x : SettleResult) (s : State) : ((takeSettle r t n x s).1).phase = s.phase := by
  unfold takeSettle; try dsimp only
  (repeat' split) <;> simp
@[simp] theorem takeSettle_inputs (r : Station) (t n : Byte) (x : SettleResult) (s : State) : ((takeSettle r t n x s).1).inputs = s.inputs := by
  unfold takeSettle; try dsimp only
  (repeat' split) <;> simp
@[simp] theorem takeSettle_outputs (r : Station) (t n : Byte) (x : SettleResult) (s : State) : ((takeSettle r t n x s).1).outputs = s.outputs := by
  unfold takeSettle; try dsimp only
  (repeat' split) <;> simp
@[simp] theorem takeSettle_params (r : Station) (t n : Byte) (x : SettleResult) (s : State) : ((takeSettle r t n x s).1).params = s.params := by
  unfold takeSettle; try dsimp only
  (repeat' split) <;> simp
@[simp] theorem takeSettle_cnu (r : Station) (t n : Byte) (x : SettleResult) (s : State) : ((takeSettle r t n x s).1).cnu = s.cnu := by
  unfold takeSettle; try dsimp only
  (repeat' split) <;> simp
@[simp] theorem takeSettle_cca (r : Station) (t n : Byte) (x : SettleResult) (s : State) : ((takeSettle r t n x s).1).cca = s.cca := by
  unfold takeSettle; try dsimp only
  (repeat' split) <;> simp
@[simp] theorem takeSettle_vsq (r : Station) (t n : Byte) (x : SettleResult) (s : State) : ((takeSettle r t n x s).1).vsq = s.vsq := by
  unfold takeSettle; try dsimp only
  (repeat' split) <;> simp
@[simp] theorem takeSettle_mxd (r : Station) (t n : Byte) (x : SettleResult) (s : State) : ((takeSettle r t n x s).1).mxd = s.mxd := by
  unfold takeSettle; try dsimp only
  (repeat' split) <;> simp
@[simp] theorem takeSettle_rfc (r : Station) (t n : Byte) (x : SettleResult) (s : State) : ((takeSettle r t n x s).1).rfc = s.rfc := by
  unfold takeSettle; try dsimp only
  (repeat' split) <;> simp
@[simp] theorem takeSettle_lbu (r : Station) (t n : Byte) (x : SettleResult) (s : State) : ((takeSettle r t n x s).1).lbu = s.lbu := by
  unfold takeSettle; try dsimp only
  (repeat' split) <;> simp
@[simp] theorem takeSettle_cru_probeShort (r : Station) (t n : Byte) (x : SettleResult) (s : State) : ((takeSettle r t n x s).1).cru.probeShort = s.cru.probeShort := by
  unfold takeSettle; try dsimp only
  (repeat' split) <;> simp
@[simp] theorem takeSettle_cru_strayExits (r : Station) (t n : Byte) (x : SettleResult) (s : State) : ((takeSettle r t n x s).1).cru.strayExits = s.cru.strayExits := by
  unfold takeSettle; try dsimp only
  (repeat' split) <;> simp
@[simp] theorem takeSettle_lnk_state (r : Station) (t n : Byte) (x : SettleResult) (s : State) : ((takeSettle r t n x s).1).lnk.state = s.lnk.state := by
  unfold takeSettle; try dsimp only
  (repeat' split) <;> simp
@[simp] theorem takeSettle_lnk_heard (r : Station) (t n : Byte) (x : SettleResult) (s : State) : ((takeSettle r t n x s).1).lnk.heard = s.lnk.heard := by
  unfold takeSettle; try dsimp only
  (repeat' split) <;> simp
@[simp] theorem takeSettle_lnk_acknowledged (r : Station) (t n : Byte) (x : SettleResult) (s : State) : ((takeSettle r t n x s).1).lnk.acknowledged = s.lnk.acknowledged := by
  unfold takeSettle; try dsimp only
  (repeat' split) <;> simp
@[simp] theorem takeSettle_lnk_isolationTimer (r : Station) (t n : Byte) (x : SettleResult) (s : State) : ((takeSettle r t n x s).1).lnk.isolationTimer = s.lnk.isolationTimer := by
  unfold takeSettle; try dsimp only
  (repeat' split) <;> simp
@[simp] theorem takeSettle_lnk_change (r : Station) (t n : Byte) (x : SettleResult) (s : State) : ((takeSettle r t n x s).1).lnk.change = s.lnk.change := by
  unfold takeSettle; try dsimp only
  (repeat' split) <;> simp
@[simp] theorem takeSettle_lnk_silentTimer (r : Station) (t n : Byte) (x : SettleResult) (s : State) : ((takeSettle r t n x s).1).lnk.silentTimer = s.lnk.silentTimer := by
  unfold takeSettle; try dsimp only
  (repeat' split) <;> simp
@[simp] theorem takeSettle_lnk_failures (r : Station) (t n : Byte) (x : SettleResult) (s : State) : ((takeSettle r t n x s).1).lnk.failures = s.lnk.failures := by
  unfold takeSettle; try dsimp only
  (repeat' split) <;> simp
@[simp] theorem takeSettle_lnk_unknownFrames (r : Station) (t n : Byte) (x : SettleResult) (s : State) : ((takeSettle r t n x s).1).lnk.unknownFrames = s.lnk.unknownFrames := by
  unfold takeSettle; try dsimp only
  (repeat' split) <;> simp
@[simp] theorem takeSettle_lnk_droppedFrames (r : Station) (t n : Byte) (x : SettleResult) (s : State) : ((takeSettle r t n x s).1).lnk.droppedFrames = s.lnk.droppedFrames := by
  unfold takeSettle; try dsimp only
  (repeat' split) <;> simp
@[simp] theorem takeSettle_lnk_silentEntries (r : Station) (t n : Byte) (x : SettleResult) (s : State) : ((takeSettle r t n x s).1).lnk.silentEntries = s.lnk.silentEntries := by
  unfold takeSettle; try dsimp only
  (repeat' split) <;> simp
@[simp] theorem takeSettle_ssu_own (r : Station) (t n : Byte) (x : SettleResult) (s : State) : ((takeSettle r t n x s).1).ssu.own = s.ssu.own := by
  unfold takeSettle; try dsimp only
  (repeat' split) <;> simp
@[simp] theorem takeSettle_ssu_cause (r : Station) (t n : Byte) (x : SettleResult) (s : State) : ((takeSettle r t n x s).1).ssu.cause = s.ssu.cause := by
  unfold takeSettle; try dsimp only
  (repeat' split) <;> simp
@[simp] theorem takeSettle_ssu_imageStatus (r : Station) (t n : Byte) (x : SettleResult) (s : State) : ((takeSettle r t n x s).1).ssu.imageStatus = s.ssu.imageStatus := by
  unfold takeSettle; try dsimp only
  (repeat' split) <;> simp
@[simp] theorem takeSettle_ssu_auditGood (r : Station) (t n : Byte) (x : SettleResult) (s : State) : ((takeSettle r t n x s).1).ssu.auditGood = s.ssu.auditGood := by
  unfold takeSettle; try dsimp only
  (repeat' split) <;> simp
@[simp] theorem takeSettle_ssu_snapshot (r : Station) (t n : Byte) (x : SettleResult) (s : State) : ((takeSettle r t n x s).1).ssu.snapshot = s.ssu.snapshot := by
  unfold takeSettle; try dsimp only
  (repeat' split) <;> simp
@[simp] theorem takeSettle_ssu_saveOwed (r : Station) (t n : Byte) (x : SettleResult) (s : State) : ((takeSettle r t n x s).1).ssu.saveOwed = s.ssu.saveOwed := by
  unfold takeSettle; try dsimp only
  (repeat' split) <;> simp
@[simp] theorem takeSettle_ssu_lastSave (r : Station) (t n : Byte) (x : SettleResult) (s : State) : ((takeSettle r t n x s).1).ssu.lastSave = s.ssu.lastSave := by
  unfold takeSettle; try dsimp only
  (repeat' split) <;> simp
@[simp] theorem takeSettle_ssu_auditArea (r : Station) (t n : Byte) (x : SettleResult) (s : State) : ((takeSettle r t n x s).1).ssu.auditArea = s.ssu.auditArea := by
  unfold takeSettle; try dsimp only
  (repeat' split) <;> simp
@[simp] theorem expireHold_pending (h : Hold) (s : State) : (expireHold h s).pending = s.pending := by
  unfold expireHold; try dsimp only
  (repeat' split) <;> simp
@[simp] theorem expireHold_due (h : Hold) (s : State) : (expireHold h s).due = s.due := by
  unfold expireHold; try dsimp only
  (repeat' split) <;> simp
@[simp] theorem expireHold_phase (h : Hold) (s : State) : (expireHold h s).phase = s.phase := by
  unfold expireHold; try dsimp only
  (repeat' split) <;> simp
@[simp] theorem expireHold_inputs (h : Hold) (s : State) : (expireHold h s).inputs = s.inputs := by
  unfold expireHold; try dsimp only
  (repeat' split) <;> simp
@[simp] theorem expireHold_outputs (h : Hold) (s : State) : (expireHold h s).outputs = s.outputs := by
  unfold expireHold; try dsimp only
  (repeat' split) <;> simp
@[simp] theorem expireHold_params (h : Hold) (s : State) : (expireHold h s).params = s.params := by
  unfold expireHold; try dsimp only
  (repeat' split) <;> simp
@[simp] theorem expireHold_cnu (h : Hold) (s : State) : (expireHold h s).cnu = s.cnu := by
  unfold expireHold; try dsimp only
  (repeat' split) <;> simp
@[simp] theorem expireHold_cca (h : Hold) (s : State) : (expireHold h s).cca = s.cca := by
  unfold expireHold; try dsimp only
  (repeat' split) <;> simp
@[simp] theorem expireHold_vsq (h : Hold) (s : State) : (expireHold h s).vsq = s.vsq := by
  unfold expireHold; try dsimp only
  (repeat' split) <;> simp
@[simp] theorem expireHold_mxd (h : Hold) (s : State) : (expireHold h s).mxd = s.mxd := by
  unfold expireHold; try dsimp only
  (repeat' split) <;> simp
@[simp] theorem expireHold_rfc (h : Hold) (s : State) : (expireHold h s).rfc = s.rfc := by
  unfold expireHold; try dsimp only
  (repeat' split) <;> simp
@[simp] theorem expireHold_lbu (h : Hold) (s : State) : (expireHold h s).lbu = s.lbu := by
  unfold expireHold; try dsimp only
  (repeat' split) <;> simp
@[simp] theorem expireHold_cru_probeShort (h : Hold) (s : State) : (expireHold h s).cru.probeShort = s.cru.probeShort := by
  unfold expireHold; try dsimp only
  (repeat' split) <;> simp
@[simp] theorem expireHold_cru_strayExits (h : Hold) (s : State) : (expireHold h s).cru.strayExits = s.cru.strayExits := by
  unfold expireHold; try dsimp only
  (repeat' split) <;> simp
@[simp] theorem expireHold_lnk_state (h : Hold) (s : State) : (expireHold h s).lnk.state = s.lnk.state := by
  unfold expireHold; try dsimp only
  (repeat' split) <;> simp
@[simp] theorem expireHold_lnk_heard (h : Hold) (s : State) : (expireHold h s).lnk.heard = s.lnk.heard := by
  unfold expireHold; try dsimp only
  (repeat' split) <;> simp
@[simp] theorem expireHold_lnk_acknowledged (h : Hold) (s : State) : (expireHold h s).lnk.acknowledged = s.lnk.acknowledged := by
  unfold expireHold; try dsimp only
  (repeat' split) <;> simp
@[simp] theorem expireHold_lnk_isolationTimer (h : Hold) (s : State) : (expireHold h s).lnk.isolationTimer = s.lnk.isolationTimer := by
  unfold expireHold; try dsimp only
  (repeat' split) <;> simp
@[simp] theorem expireHold_lnk_change (h : Hold) (s : State) : (expireHold h s).lnk.change = s.lnk.change := by
  unfold expireHold; try dsimp only
  (repeat' split) <;> simp
@[simp] theorem expireHold_lnk_silentTimer (h : Hold) (s : State) : (expireHold h s).lnk.silentTimer = s.lnk.silentTimer := by
  unfold expireHold; try dsimp only
  (repeat' split) <;> simp
@[simp] theorem expireHold_lnk_failures (h : Hold) (s : State) : (expireHold h s).lnk.failures = s.lnk.failures := by
  unfold expireHold; try dsimp only
  (repeat' split) <;> simp
@[simp] theorem expireHold_lnk_unknownFrames (h : Hold) (s : State) : (expireHold h s).lnk.unknownFrames = s.lnk.unknownFrames := by
  unfold expireHold; try dsimp only
  (repeat' split) <;> simp
@[simp] theorem expireHold_lnk_droppedFrames (h : Hold) (s : State) : (expireHold h s).lnk.droppedFrames = s.lnk.droppedFrames := by
  unfold expireHold; try dsimp only
  (repeat' split) <;> simp
@[simp] theorem expireHold_lnk_silentEntries (h : Hold) (s : State) : (expireHold h s).lnk.silentEntries = s.lnk.silentEntries := by
  unfold expireHold; try dsimp only
  (repeat' split) <;> simp
@[simp] theorem expireHold_ssu_own (h : Hold) (s : State) : (expireHold h s).ssu.own = s.ssu.own := by
  unfold expireHold; try dsimp only
  (repeat' split) <;> simp
@[simp] theorem expireHold_ssu_cause (h : Hold) (s : State) : (expireHold h s).ssu.cause = s.ssu.cause := by
  unfold expireHold; try dsimp only
  (repeat' split) <;> simp
@[simp] theorem expireHold_ssu_imageStatus (h : Hold) (s : State) : (expireHold h s).ssu.imageStatus = s.ssu.imageStatus := by
  unfold expireHold; try dsimp only
  (repeat' split) <;> simp
@[simp] theorem expireHold_ssu_auditGood (h : Hold) (s : State) : (expireHold h s).ssu.auditGood = s.ssu.auditGood := by
  unfold expireHold; try dsimp only
  (repeat' split) <;> simp
@[simp] theorem expireHold_ssu_snapshot (h : Hold) (s : State) : (expireHold h s).ssu.snapshot = s.ssu.snapshot := by
  unfold expireHold; try dsimp only
  (repeat' split) <;> simp
@[simp] theorem expireHold_ssu_saveOwed (h : Hold) (s : State) : (expireHold h s).ssu.saveOwed = s.ssu.saveOwed := by
  unfold expireHold; try dsimp only
  (repeat' split) <;> simp
@[simp] theorem expireHold_ssu_lastSave (h : Hold) (s : State) : (expireHold h s).ssu.lastSave = s.ssu.lastSave := by
  unfold expireHold; try dsimp only
  (repeat' split) <;> simp
@[simp] theorem expireHold_ssu_auditArea (h : Hold) (s : State) : (expireHold h s).ssu.auditArea = s.ssu.auditArea := by
  unfold expireHold; try dsimp only
  (repeat' split) <;> simp
@[simp] theorem forfeit_pending (s : State) : (forfeit s).pending = s.pending := by
  unfold forfeit; try dsimp only
  (repeat' split) <;> simp
@[simp] theorem forfeit_due (s : State) : (forfeit s).due = s.due := by
  unfold forfeit; try dsimp only
  (repeat' split) <;> simp
@[simp] theorem forfeit_phase (s : State) : (forfeit s).phase = s.phase := by
  unfold forfeit; try dsimp only
  (repeat' split) <;> simp
@[simp] theorem forfeit_inputs (s : State) : (forfeit s).inputs = s.inputs := by
  unfold forfeit; try dsimp only
  (repeat' split) <;> simp
@[simp] theorem forfeit_outputs (s : State) : (forfeit s).outputs = s.outputs := by
  unfold forfeit; try dsimp only
  (repeat' split) <;> simp
@[simp] theorem forfeit_params (s : State) : (forfeit s).params = s.params := by
  unfold forfeit; try dsimp only
  (repeat' split) <;> simp
@[simp] theorem forfeit_cnu (s : State) : (forfeit s).cnu = s.cnu := by
  unfold forfeit; try dsimp only
  (repeat' split) <;> simp
@[simp] theorem forfeit_cca (s : State) : (forfeit s).cca = s.cca := by
  unfold forfeit; try dsimp only
  (repeat' split) <;> simp
@[simp] theorem forfeit_vsq (s : State) : (forfeit s).vsq = s.vsq := by
  unfold forfeit; try dsimp only
  (repeat' split) <;> simp
@[simp] theorem forfeit_mxd (s : State) : (forfeit s).mxd = s.mxd := by
  unfold forfeit; try dsimp only
  (repeat' split) <;> simp
@[simp] theorem forfeit_rfc (s : State) : (forfeit s).rfc = s.rfc := by
  unfold forfeit; try dsimp only
  (repeat' split) <;> simp
@[simp] theorem forfeit_lbu (s : State) : (forfeit s).lbu = s.lbu := by
  unfold forfeit; try dsimp only
  (repeat' split) <;> simp
@[simp] theorem forfeit_cru_payout (s : State) : (forfeit s).cru.payout = s.cru.payout := by
  unfold forfeit; try dsimp only
  (repeat' split) <;> simp
@[simp] theorem forfeit_cru_solenoid (s : State) : (forfeit s).cru.solenoid = s.cru.solenoid := by
  unfold forfeit; try dsimp only
  (repeat' split) <;> simp
@[simp] theorem forfeit_cru_probeShort (s : State) : (forfeit s).cru.probeShort = s.cru.probeShort := by
  unfold forfeit; try dsimp only
  (repeat' split) <;> simp
@[simp] theorem forfeit_cru_strayExits (s : State) : (forfeit s).cru.strayExits = s.cru.strayExits := by
  unfold forfeit; try dsimp only
  (repeat' split) <;> simp
@[simp] theorem forfeit_lnk_state (s : State) : (forfeit s).lnk.state = s.lnk.state := by
  unfold forfeit; try dsimp only
  (repeat' split) <;> simp
@[simp] theorem forfeit_lnk_heard (s : State) : (forfeit s).lnk.heard = s.lnk.heard := by
  unfold forfeit; try dsimp only
  (repeat' split) <;> simp
@[simp] theorem forfeit_lnk_acknowledged (s : State) : (forfeit s).lnk.acknowledged = s.lnk.acknowledged := by
  unfold forfeit; try dsimp only
  (repeat' split) <;> simp
@[simp] theorem forfeit_lnk_isolationTimer (s : State) : (forfeit s).lnk.isolationTimer = s.lnk.isolationTimer := by
  unfold forfeit; try dsimp only
  (repeat' split) <;> simp
@[simp] theorem forfeit_lnk_change (s : State) : (forfeit s).lnk.change = s.lnk.change := by
  unfold forfeit; try dsimp only
  (repeat' split) <;> simp
@[simp] theorem forfeit_lnk_silentTimer (s : State) : (forfeit s).lnk.silentTimer = s.lnk.silentTimer := by
  unfold forfeit; try dsimp only
  (repeat' split) <;> simp
@[simp] theorem forfeit_lnk_failures (s : State) : (forfeit s).lnk.failures = s.lnk.failures := by
  unfold forfeit; try dsimp only
  (repeat' split) <;> simp
@[simp] theorem forfeit_lnk_unknownFrames (s : State) : (forfeit s).lnk.unknownFrames = s.lnk.unknownFrames := by
  unfold forfeit; try dsimp only
  (repeat' split) <;> simp
@[simp] theorem forfeit_lnk_droppedFrames (s : State) : (forfeit s).lnk.droppedFrames = s.lnk.droppedFrames := by
  unfold forfeit; try dsimp only
  (repeat' split) <;> simp
@[simp] theorem forfeit_lnk_silentEntries (s : State) : (forfeit s).lnk.silentEntries = s.lnk.silentEntries := by
  unfold forfeit; try dsimp only
  (repeat' split) <;> simp
@[simp] theorem forfeit_ssu_own (s : State) : (forfeit s).ssu.own = s.ssu.own := by
  unfold forfeit; try dsimp only
  (repeat' split) <;> simp
@[simp] theorem forfeit_ssu_cause (s : State) : (forfeit s).ssu.cause = s.ssu.cause := by
  unfold forfeit; try dsimp only
  (repeat' split) <;> simp
@[simp] theorem forfeit_ssu_imageStatus (s : State) : (forfeit s).ssu.imageStatus = s.ssu.imageStatus := by
  unfold forfeit; try dsimp only
  (repeat' split) <;> simp
@[simp] theorem forfeit_ssu_auditGood (s : State) : (forfeit s).ssu.auditGood = s.ssu.auditGood := by
  unfold forfeit; try dsimp only
  (repeat' split) <;> simp
@[simp] theorem forfeit_ssu_snapshot (s : State) : (forfeit s).ssu.snapshot = s.ssu.snapshot := by
  unfold forfeit; try dsimp only
  (repeat' split) <;> simp
@[simp] theorem forfeit_ssu_saveOwed (s : State) : (forfeit s).ssu.saveOwed = s.ssu.saveOwed := by
  unfold forfeit; try dsimp only
  (repeat' split) <;> simp
@[simp] theorem forfeit_ssu_lastSave (s : State) : (forfeit s).ssu.lastSave = s.ssu.lastSave := by
  unfold forfeit; try dsimp only
  (repeat' split) <;> simp
@[simp] theorem forfeit_ssu_auditArea (s : State) : (forfeit s).ssu.auditArea = s.ssu.auditArea := by
  unfold forfeit; try dsimp only
  (repeat' split) <;> simp
@[simp] theorem expireIdle_pending (s : State) : (expireIdle s).pending = s.pending := by
  unfold expireIdle; try dsimp only
  (repeat' split) <;> simp
@[simp] theorem expireIdle_due (s : State) : (expireIdle s).due = s.due := by
  unfold expireIdle; try dsimp only
  (repeat' split) <;> simp
@[simp] theorem expireIdle_phase (s : State) : (expireIdle s).phase = s.phase := by
  unfold expireIdle; try dsimp only
  (repeat' split) <;> simp
@[simp] theorem expireIdle_inputs (s : State) : (expireIdle s).inputs = s.inputs := by
  unfold expireIdle; try dsimp only
  (repeat' split) <;> simp
@[simp] theorem expireIdle_outputs (s : State) : (expireIdle s).outputs = s.outputs := by
  unfold expireIdle; try dsimp only
  (repeat' split) <;> simp
@[simp] theorem expireIdle_params (s : State) : (expireIdle s).params = s.params := by
  unfold expireIdle; try dsimp only
  (repeat' split) <;> simp
@[simp] theorem expireIdle_cnu (s : State) : (expireIdle s).cnu = s.cnu := by
  unfold expireIdle; try dsimp only
  (repeat' split) <;> simp
@[simp] theorem expireIdle_cca (s : State) : (expireIdle s).cca = s.cca := by
  unfold expireIdle; try dsimp only
  (repeat' split) <;> simp
@[simp] theorem expireIdle_vsq (s : State) : (expireIdle s).vsq = s.vsq := by
  unfold expireIdle; try dsimp only
  (repeat' split) <;> simp
@[simp] theorem expireIdle_mxd (s : State) : (expireIdle s).mxd = s.mxd := by
  unfold expireIdle; try dsimp only
  (repeat' split) <;> simp
@[simp] theorem expireIdle_rfc (s : State) : (expireIdle s).rfc = s.rfc := by
  unfold expireIdle; try dsimp only
  (repeat' split) <;> simp
@[simp] theorem expireIdle_lbu (s : State) : (expireIdle s).lbu = s.lbu := by
  unfold expireIdle; try dsimp only
  (repeat' split) <;> simp
@[simp] theorem expireIdle_cru_probeShort (s : State) : (expireIdle s).cru.probeShort = s.cru.probeShort := by
  unfold expireIdle; try dsimp only
  (repeat' split) <;> simp
@[simp] theorem expireIdle_cru_strayExits (s : State) : (expireIdle s).cru.strayExits = s.cru.strayExits := by
  unfold expireIdle; try dsimp only
  (repeat' split) <;> simp
@[simp] theorem expireIdle_lnk_state (s : State) : (expireIdle s).lnk.state = s.lnk.state := by
  unfold expireIdle; try dsimp only
  (repeat' split) <;> simp
@[simp] theorem expireIdle_lnk_heard (s : State) : (expireIdle s).lnk.heard = s.lnk.heard := by
  unfold expireIdle; try dsimp only
  (repeat' split) <;> simp
@[simp] theorem expireIdle_lnk_acknowledged (s : State) : (expireIdle s).lnk.acknowledged = s.lnk.acknowledged := by
  unfold expireIdle; try dsimp only
  (repeat' split) <;> simp
@[simp] theorem expireIdle_lnk_isolationTimer (s : State) : (expireIdle s).lnk.isolationTimer = s.lnk.isolationTimer := by
  unfold expireIdle; try dsimp only
  (repeat' split) <;> simp
@[simp] theorem expireIdle_lnk_change (s : State) : (expireIdle s).lnk.change = s.lnk.change := by
  unfold expireIdle; try dsimp only
  (repeat' split) <;> simp
@[simp] theorem expireIdle_lnk_silentTimer (s : State) : (expireIdle s).lnk.silentTimer = s.lnk.silentTimer := by
  unfold expireIdle; try dsimp only
  (repeat' split) <;> simp
@[simp] theorem expireIdle_lnk_failures (s : State) : (expireIdle s).lnk.failures = s.lnk.failures := by
  unfold expireIdle; try dsimp only
  (repeat' split) <;> simp
@[simp] theorem expireIdle_lnk_unknownFrames (s : State) : (expireIdle s).lnk.unknownFrames = s.lnk.unknownFrames := by
  unfold expireIdle; try dsimp only
  (repeat' split) <;> simp
@[simp] theorem expireIdle_lnk_droppedFrames (s : State) : (expireIdle s).lnk.droppedFrames = s.lnk.droppedFrames := by
  unfold expireIdle; try dsimp only
  (repeat' split) <;> simp
@[simp] theorem expireIdle_lnk_silentEntries (s : State) : (expireIdle s).lnk.silentEntries = s.lnk.silentEntries := by
  unfold expireIdle; try dsimp only
  (repeat' split) <;> simp
@[simp] theorem expireIdle_ssu_own (s : State) : (expireIdle s).ssu.own = s.ssu.own := by
  unfold expireIdle; try dsimp only
  (repeat' split) <;> simp
@[simp] theorem expireIdle_ssu_cause (s : State) : (expireIdle s).ssu.cause = s.ssu.cause := by
  unfold expireIdle; try dsimp only
  (repeat' split) <;> simp
@[simp] theorem expireIdle_ssu_imageStatus (s : State) : (expireIdle s).ssu.imageStatus = s.ssu.imageStatus := by
  unfold expireIdle; try dsimp only
  (repeat' split) <;> simp
@[simp] theorem expireIdle_ssu_auditGood (s : State) : (expireIdle s).ssu.auditGood = s.ssu.auditGood := by
  unfold expireIdle; try dsimp only
  (repeat' split) <;> simp
@[simp] theorem expireIdle_ssu_snapshot (s : State) : (expireIdle s).ssu.snapshot = s.ssu.snapshot := by
  unfold expireIdle; try dsimp only
  (repeat' split) <;> simp
@[simp] theorem expireIdle_ssu_saveOwed (s : State) : (expireIdle s).ssu.saveOwed = s.ssu.saveOwed := by
  unfold expireIdle; try dsimp only
  (repeat' split) <;> simp
@[simp] theorem expireIdle_ssu_lastSave (s : State) : (expireIdle s).ssu.lastSave = s.ssu.lastSave := by
  unfold expireIdle; try dsimp only
  (repeat' split) <;> simp
@[simp] theorem expireIdle_ssu_auditArea (s : State) : (expireIdle s).ssu.auditArea = s.ssu.auditArea := by
  unfold expireIdle; try dsimp only
  (repeat' split) <;> simp
@[simp] theorem pressLever_pending (s : State) : (pressLever s).pending = s.pending := by
  unfold pressLever; try dsimp only
  (repeat' split) <;> simp
@[simp] theorem pressLever_due (s : State) : (pressLever s).due = s.due := by
  unfold pressLever; try dsimp only
  (repeat' split) <;> simp
@[simp] theorem pressLever_phase (s : State) : (pressLever s).phase = s.phase := by
  unfold pressLever; try dsimp only
  (repeat' split) <;> simp
@[simp] theorem pressLever_inputs (s : State) : (pressLever s).inputs = s.inputs := by
  unfold pressLever; try dsimp only
  (repeat' split) <;> simp
@[simp] theorem pressLever_outputs (s : State) : (pressLever s).outputs = s.outputs := by
  unfold pressLever; try dsimp only
  (repeat' split) <;> simp
@[simp] theorem pressLever_params (s : State) : (pressLever s).params = s.params := by
  unfold pressLever; try dsimp only
  (repeat' split) <;> simp
@[simp] theorem pressLever_cnu (s : State) : (pressLever s).cnu = s.cnu := by
  unfold pressLever; try dsimp only
  (repeat' split) <;> simp
@[simp] theorem pressLever_cca (s : State) : (pressLever s).cca = s.cca := by
  unfold pressLever; try dsimp only
  (repeat' split) <;> simp
@[simp] theorem pressLever_vsq (s : State) : (pressLever s).vsq = s.vsq := by
  unfold pressLever; try dsimp only
  (repeat' split) <;> simp
@[simp] theorem pressLever_mxd (s : State) : (pressLever s).mxd = s.mxd := by
  unfold pressLever; try dsimp only
  (repeat' split) <;> simp
@[simp] theorem pressLever_rfc (s : State) : (pressLever s).rfc = s.rfc := by
  unfold pressLever; try dsimp only
  (repeat' split) <;> simp
@[simp] theorem pressLever_lbu (s : State) : (pressLever s).lbu = s.lbu := by
  unfold pressLever; try dsimp only
  (repeat' split) <;> simp
@[simp] theorem pressLever_cru_probeShort (s : State) : (pressLever s).cru.probeShort = s.cru.probeShort := by
  unfold pressLever; try dsimp only
  (repeat' split) <;> simp
@[simp] theorem pressLever_cru_strayExits (s : State) : (pressLever s).cru.strayExits = s.cru.strayExits := by
  unfold pressLever; try dsimp only
  (repeat' split) <;> simp
@[simp] theorem pressLever_lnk_state (s : State) : (pressLever s).lnk.state = s.lnk.state := by
  unfold pressLever; try dsimp only
  (repeat' split) <;> simp
@[simp] theorem pressLever_lnk_heard (s : State) : (pressLever s).lnk.heard = s.lnk.heard := by
  unfold pressLever; try dsimp only
  (repeat' split) <;> simp
@[simp] theorem pressLever_lnk_acknowledged (s : State) : (pressLever s).lnk.acknowledged = s.lnk.acknowledged := by
  unfold pressLever; try dsimp only
  (repeat' split) <;> simp
@[simp] theorem pressLever_lnk_isolationTimer (s : State) : (pressLever s).lnk.isolationTimer = s.lnk.isolationTimer := by
  unfold pressLever; try dsimp only
  (repeat' split) <;> simp
@[simp] theorem pressLever_lnk_change (s : State) : (pressLever s).lnk.change = s.lnk.change := by
  unfold pressLever; try dsimp only
  (repeat' split) <;> simp
@[simp] theorem pressLever_lnk_silentTimer (s : State) : (pressLever s).lnk.silentTimer = s.lnk.silentTimer := by
  unfold pressLever; try dsimp only
  (repeat' split) <;> simp
@[simp] theorem pressLever_lnk_failures (s : State) : (pressLever s).lnk.failures = s.lnk.failures := by
  unfold pressLever; try dsimp only
  (repeat' split) <;> simp
@[simp] theorem pressLever_lnk_unknownFrames (s : State) : (pressLever s).lnk.unknownFrames = s.lnk.unknownFrames := by
  unfold pressLever; try dsimp only
  (repeat' split) <;> simp
@[simp] theorem pressLever_lnk_droppedFrames (s : State) : (pressLever s).lnk.droppedFrames = s.lnk.droppedFrames := by
  unfold pressLever; try dsimp only
  (repeat' split) <;> simp
@[simp] theorem pressLever_lnk_silentEntries (s : State) : (pressLever s).lnk.silentEntries = s.lnk.silentEntries := by
  unfold pressLever; try dsimp only
  (repeat' split) <;> simp
@[simp] theorem pressLever_ssu_own (s : State) : (pressLever s).ssu.own = s.ssu.own := by
  unfold pressLever; try dsimp only
  (repeat' split) <;> simp
@[simp] theorem pressLever_ssu_cause (s : State) : (pressLever s).ssu.cause = s.ssu.cause := by
  unfold pressLever; try dsimp only
  (repeat' split) <;> simp
@[simp] theorem pressLever_ssu_imageStatus (s : State) : (pressLever s).ssu.imageStatus = s.ssu.imageStatus := by
  unfold pressLever; try dsimp only
  (repeat' split) <;> simp
@[simp] theorem pressLever_ssu_auditGood (s : State) : (pressLever s).ssu.auditGood = s.ssu.auditGood := by
  unfold pressLever; try dsimp only
  (repeat' split) <;> simp
@[simp] theorem pressLever_ssu_snapshot (s : State) : (pressLever s).ssu.snapshot = s.ssu.snapshot := by
  unfold pressLever; try dsimp only
  (repeat' split) <;> simp
@[simp] theorem pressLever_ssu_saveOwed (s : State) : (pressLever s).ssu.saveOwed = s.ssu.saveOwed := by
  unfold pressLever; try dsimp only
  (repeat' split) <;> simp
@[simp] theorem pressLever_ssu_lastSave (s : State) : (pressLever s).ssu.lastSave = s.ssu.lastSave := by
  unfold pressLever; try dsimp only
  (repeat' split) <;> simp
@[simp] theorem pressLever_ssu_auditArea (s : State) : (pressLever s).ssu.auditArea = s.ssu.auditArea := by
  unfold pressLever; try dsimp only
  (repeat' split) <;> simp
@[simp] theorem expireRefresh_pending (s : State) : (expireRefresh s).pending = s.pending := by
  unfold expireRefresh; try dsimp only
  (repeat' split) <;> simp
@[simp] theorem expireRefresh_due (s : State) : (expireRefresh s).due = s.due := by
  unfold expireRefresh; try dsimp only
  (repeat' split) <;> simp
@[simp] theorem expireRefresh_phase (s : State) : (expireRefresh s).phase = s.phase := by
  unfold expireRefresh; try dsimp only
  (repeat' split) <;> simp
@[simp] theorem expireRefresh_inputs (s : State) : (expireRefresh s).inputs = s.inputs := by
  unfold expireRefresh; try dsimp only
  (repeat' split) <;> simp
@[simp] theorem expireRefresh_outputs (s : State) : (expireRefresh s).outputs = s.outputs := by
  unfold expireRefresh; try dsimp only
  (repeat' split) <;> simp
@[simp] theorem expireRefresh_params (s : State) : (expireRefresh s).params = s.params := by
  unfold expireRefresh; try dsimp only
  (repeat' split) <;> simp
@[simp] theorem expireRefresh_cnu (s : State) : (expireRefresh s).cnu = s.cnu := by
  unfold expireRefresh; try dsimp only
  (repeat' split) <;> simp
@[simp] theorem expireRefresh_cca (s : State) : (expireRefresh s).cca = s.cca := by
  unfold expireRefresh; try dsimp only
  (repeat' split) <;> simp
@[simp] theorem expireRefresh_vsq (s : State) : (expireRefresh s).vsq = s.vsq := by
  unfold expireRefresh; try dsimp only
  (repeat' split) <;> simp
@[simp] theorem expireRefresh_mxd (s : State) : (expireRefresh s).mxd = s.mxd := by
  unfold expireRefresh; try dsimp only
  (repeat' split) <;> simp
@[simp] theorem expireRefresh_rfc (s : State) : (expireRefresh s).rfc = s.rfc := by
  unfold expireRefresh; try dsimp only
  (repeat' split) <;> simp
@[simp] theorem expireRefresh_lbu (s : State) : (expireRefresh s).lbu = s.lbu := by
  unfold expireRefresh; try dsimp only
  (repeat' split) <;> simp
@[simp] theorem expireRefresh_ssu (s : State) : (expireRefresh s).ssu = s.ssu := by
  unfold expireRefresh; try dsimp only
  (repeat' split) <;> simp
@[simp] theorem expireRefresh_cru_session (s : State) : (expireRefresh s).cru.session = s.cru.session := by
  unfold expireRefresh; try dsimp only
  (repeat' split) <;> simp
@[simp] theorem expireRefresh_cru_payout (s : State) : (expireRefresh s).cru.payout = s.cru.payout := by
  unfold expireRefresh; try dsimp only
  (repeat' split) <;> simp
@[simp] theorem expireRefresh_cru_solenoid (s : State) : (expireRefresh s).cru.solenoid = s.cru.solenoid := by
  unfold expireRefresh; try dsimp only
  (repeat' split) <;> simp
@[simp] theorem expireRefresh_cru_books (s : State) : (expireRefresh s).cru.books = s.cru.books := by
  unfold expireRefresh; try dsimp only
  (repeat' split) <;> simp
@[simp] theorem expireRefresh_cru_exactChangeOnly (s : State) : (expireRefresh s).cru.exactChangeOnly = s.cru.exactChangeOnly := by
  unfold expireRefresh; try dsimp only
  (repeat' split) <;> simp
@[simp] theorem expireRefresh_cru_probeShort (s : State) : (expireRefresh s).cru.probeShort = s.cru.probeShort := by
  unfold expireRefresh; try dsimp only
  (repeat' split) <;> simp
@[simp] theorem expireRefresh_cru_strayExits (s : State) : (expireRefresh s).cru.strayExits = s.cru.strayExits := by
  unfold expireRefresh; try dsimp only
  (repeat' split) <;> simp
@[simp] theorem expireRefresh_cru_versionRaised (s : State) : (expireRefresh s).cru.versionRaised = s.cru.versionRaised := by
  unfold expireRefresh; try dsimp only
  (repeat' split) <;> simp
@[simp] theorem expireRefresh_lnk_state (s : State) : (expireRefresh s).lnk.state = s.lnk.state := by
  unfold expireRefresh; try dsimp only
  (repeat' split) <;> simp
@[simp] theorem expireRefresh_lnk_heard (s : State) : (expireRefresh s).lnk.heard = s.lnk.heard := by
  unfold expireRefresh; try dsimp only
  (repeat' split) <;> simp
@[simp] theorem expireRefresh_lnk_acknowledged (s : State) : (expireRefresh s).lnk.acknowledged = s.lnk.acknowledged := by
  unfold expireRefresh; try dsimp only
  (repeat' split) <;> simp
@[simp] theorem expireRefresh_lnk_isolationTimer (s : State) : (expireRefresh s).lnk.isolationTimer = s.lnk.isolationTimer := by
  unfold expireRefresh; try dsimp only
  (repeat' split) <;> simp
@[simp] theorem expireRefresh_lnk_change (s : State) : (expireRefresh s).lnk.change = s.lnk.change := by
  unfold expireRefresh; try dsimp only
  (repeat' split) <;> simp
@[simp] theorem expireRefresh_lnk_periodTimer (s : State) : (expireRefresh s).lnk.periodTimer = s.lnk.periodTimer := by
  unfold expireRefresh; try dsimp only
  (repeat' split) <;> simp
@[simp] theorem expireRefresh_lnk_silentTimer (s : State) : (expireRefresh s).lnk.silentTimer = s.lnk.silentTimer := by
  unfold expireRefresh; try dsimp only
  (repeat' split) <;> simp
@[simp] theorem expireRefresh_lnk_failures (s : State) : (expireRefresh s).lnk.failures = s.lnk.failures := by
  unfold expireRefresh; try dsimp only
  (repeat' split) <;> simp
@[simp] theorem expireRefresh_lnk_unknownFrames (s : State) : (expireRefresh s).lnk.unknownFrames = s.lnk.unknownFrames := by
  unfold expireRefresh; try dsimp only
  (repeat' split) <;> simp
@[simp] theorem expireRefresh_lnk_droppedFrames (s : State) : (expireRefresh s).lnk.droppedFrames = s.lnk.droppedFrames := by
  unfold expireRefresh; try dsimp only
  (repeat' split) <;> simp
@[simp] theorem expireRefresh_lnk_silentEntries (s : State) : (expireRefresh s).lnk.silentEntries = s.lnk.silentEntries := by
  unfold expireRefresh; try dsimp only
  (repeat' split) <;> simp
@[simp] theorem payCoin_pending (i a : Nat) (s : State) : (payCoin i a s).pending = s.pending := by
  unfold payCoin; try dsimp only
  (repeat' split) <;> simp
@[simp] theorem payCoin_due (i a : Nat) (s : State) : (payCoin i a s).due = s.due := by
  unfold payCoin; try dsimp only
  (repeat' split) <;> simp
@[simp] theorem payCoin_phase (i a : Nat) (s : State) : (payCoin i a s).phase = s.phase := by
  unfold payCoin; try dsimp only
  (repeat' split) <;> simp
@[simp] theorem payCoin_inputs (i a : Nat) (s : State) : (payCoin i a s).inputs = s.inputs := by
  unfold payCoin; try dsimp only
  (repeat' split) <;> simp
@[simp] theorem payCoin_outputs (i a : Nat) (s : State) : (payCoin i a s).outputs = s.outputs := by
  unfold payCoin; try dsimp only
  (repeat' split) <;> simp
@[simp] theorem payCoin_params (i a : Nat) (s : State) : (payCoin i a s).params = s.params := by
  unfold payCoin; try dsimp only
  (repeat' split) <;> simp
@[simp] theorem payCoin_cca (i a : Nat) (s : State) : (payCoin i a s).cca = s.cca := by
  unfold payCoin; try dsimp only
  (repeat' split) <;> simp
@[simp] theorem payCoin_vsq (i a : Nat) (s : State) : (payCoin i a s).vsq = s.vsq := by
  unfold payCoin; try dsimp only
  (repeat' split) <;> simp
@[simp] theorem payCoin_mxd (i a : Nat) (s : State) : (payCoin i a s).mxd = s.mxd := by
  unfold payCoin; try dsimp only
  (repeat' split) <;> simp
@[simp] theorem payCoin_rfc (i a : Nat) (s : State) : (payCoin i a s).rfc = s.rfc := by
  unfold payCoin; try dsimp only
  (repeat' split) <;> simp
@[simp] theorem payCoin_lbu (i a : Nat) (s : State) : (payCoin i a s).lbu = s.lbu := by
  unfold payCoin; try dsimp only
  (repeat' split) <;> simp
@[simp] theorem payCoin_cnu_coinTypes (i a : Nat) (s : State) : (payCoin i a s).cnu.coinTypes = s.cnu.coinTypes := by
  unfold payCoin; try dsimp only
  (repeat' split) <;> simp
@[simp] theorem payCoin_cnu_routing (i a : Nat) (s : State) : (payCoin i a s).cnu.routing = s.cnu.routing := by
  unfold payCoin; try dsimp only
  (repeat' split) <;> simp
@[simp] theorem payCoin_cnu_cashboxPresent (i a : Nat) (s : State) : (payCoin i a s).cnu.cashboxPresent = s.cnu.cashboxPresent := by
  unfold payCoin; try dsimp only
  (repeat' split) <;> simp
@[simp] theorem payCoin_cnu_headRejects (i a : Nat) (s : State) : (payCoin i a s).cnu.headRejects = s.cnu.headRejects := by
  unfold payCoin; try dsimp only
  (repeat' split) <;> simp
@[simp] theorem payCoin_cru_solenoid (i a : Nat) (s : State) : (payCoin i a s).cru.solenoid = s.cru.solenoid := by
  unfold payCoin; try dsimp only
  (repeat' split) <;> simp
@[simp] theorem payCoin_cru_strayExits (i a : Nat) (s : State) : (payCoin i a s).cru.strayExits = s.cru.strayExits := by
  unfold payCoin; try dsimp only
  (repeat' split) <;> simp
@[simp] theorem payCoin_lnk_state (i a : Nat) (s : State) : (payCoin i a s).lnk.state = s.lnk.state := by
  unfold payCoin; try dsimp only
  (repeat' split) <;> simp
@[simp] theorem payCoin_lnk_heard (i a : Nat) (s : State) : (payCoin i a s).lnk.heard = s.lnk.heard := by
  unfold payCoin; try dsimp only
  (repeat' split) <;> simp
@[simp] theorem payCoin_lnk_acknowledged (i a : Nat) (s : State) : (payCoin i a s).lnk.acknowledged = s.lnk.acknowledged := by
  unfold payCoin; try dsimp only
  (repeat' split) <;> simp
@[simp] theorem payCoin_lnk_isolationTimer (i a : Nat) (s : State) : (payCoin i a s).lnk.isolationTimer = s.lnk.isolationTimer := by
  unfold payCoin; try dsimp only
  (repeat' split) <;> simp
@[simp] theorem payCoin_lnk_change (i a : Nat) (s : State) : (payCoin i a s).lnk.change = s.lnk.change := by
  unfold payCoin; try dsimp only
  (repeat' split) <;> simp
@[simp] theorem payCoin_lnk_silentTimer (i a : Nat) (s : State) : (payCoin i a s).lnk.silentTimer = s.lnk.silentTimer := by
  unfold payCoin; try dsimp only
  (repeat' split) <;> simp
@[simp] theorem payCoin_lnk_failures (i a : Nat) (s : State) : (payCoin i a s).lnk.failures = s.lnk.failures := by
  unfold payCoin; try dsimp only
  (repeat' split) <;> simp
@[simp] theorem payCoin_lnk_unknownFrames (i a : Nat) (s : State) : (payCoin i a s).lnk.unknownFrames = s.lnk.unknownFrames := by
  unfold payCoin; try dsimp only
  (repeat' split) <;> simp
@[simp] theorem payCoin_lnk_droppedFrames (i a : Nat) (s : State) : (payCoin i a s).lnk.droppedFrames = s.lnk.droppedFrames := by
  unfold payCoin; try dsimp only
  (repeat' split) <;> simp
@[simp] theorem payCoin_lnk_silentEntries (i a : Nat) (s : State) : (payCoin i a s).lnk.silentEntries = s.lnk.silentEntries := by
  unfold payCoin; try dsimp only
  (repeat' split) <;> simp
@[simp] theorem payCoin_ssu_own (i a : Nat) (s : State) : (payCoin i a s).ssu.own = s.ssu.own := by
  unfold payCoin; try dsimp only
  (repeat' split) <;> simp
@[simp] theorem payCoin_ssu_cause (i a : Nat) (s : State) : (payCoin i a s).ssu.cause = s.ssu.cause := by
  unfold payCoin; try dsimp only
  (repeat' split) <;> simp
@[simp] theorem payCoin_ssu_imageStatus (i a : Nat) (s : State) : (payCoin i a s).ssu.imageStatus = s.ssu.imageStatus := by
  unfold payCoin; try dsimp only
  (repeat' split) <;> simp
@[simp] theorem payCoin_ssu_auditGood (i a : Nat) (s : State) : (payCoin i a s).ssu.auditGood = s.ssu.auditGood := by
  unfold payCoin; try dsimp only
  (repeat' split) <;> simp
@[simp] theorem payCoin_ssu_snapshot (i a : Nat) (s : State) : (payCoin i a s).ssu.snapshot = s.ssu.snapshot := by
  unfold payCoin; try dsimp only
  (repeat' split) <;> simp
@[simp] theorem payCoin_ssu_saveOwed (i a : Nat) (s : State) : (payCoin i a s).ssu.saveOwed = s.ssu.saveOwed := by
  unfold payCoin; try dsimp only
  (repeat' split) <;> simp
@[simp] theorem payCoin_ssu_lastSave (i a : Nat) (s : State) : (payCoin i a s).ssu.lastSave = s.ssu.lastSave := by
  unfold payCoin; try dsimp only
  (repeat' split) <;> simp
@[simp] theorem payCoin_ssu_auditArea (i a : Nat) (s : State) : (payCoin i a s).ssu.auditArea = s.ssu.auditArea := by
  unfold payCoin; try dsimp only
  (repeat' split) <;> simp
@[simp] theorem seeCoin_pending (s : State) : (seeCoin s).pending = s.pending := by
  unfold seeCoin; try dsimp only
  (repeat' split) <;> simp
@[simp] theorem seeCoin_due (s : State) : (seeCoin s).due = s.due := by
  unfold seeCoin; try dsimp only
  (repeat' split) <;> simp
@[simp] theorem seeCoin_phase (s : State) : (seeCoin s).phase = s.phase := by
  unfold seeCoin; try dsimp only
  (repeat' split) <;> simp
@[simp] theorem seeCoin_inputs (s : State) : (seeCoin s).inputs = s.inputs := by
  unfold seeCoin; try dsimp only
  (repeat' split) <;> simp
@[simp] theorem seeCoin_outputs (s : State) : (seeCoin s).outputs = s.outputs := by
  unfold seeCoin; try dsimp only
  (repeat' split) <;> simp
@[simp] theorem seeCoin_params (s : State) : (seeCoin s).params = s.params := by
  unfold seeCoin; try dsimp only
  (repeat' split) <;> simp
@[simp] theorem seeCoin_cca (s : State) : (seeCoin s).cca = s.cca := by
  unfold seeCoin; try dsimp only
  (repeat' split) <;> simp
@[simp] theorem seeCoin_vsq (s : State) : (seeCoin s).vsq = s.vsq := by
  unfold seeCoin; try dsimp only
  (repeat' split) <;> simp
@[simp] theorem seeCoin_mxd (s : State) : (seeCoin s).mxd = s.mxd := by
  unfold seeCoin; try dsimp only
  (repeat' split) <;> simp
@[simp] theorem seeCoin_rfc (s : State) : (seeCoin s).rfc = s.rfc := by
  unfold seeCoin; try dsimp only
  (repeat' split) <;> simp
@[simp] theorem seeCoin_lbu (s : State) : (seeCoin s).lbu = s.lbu := by
  unfold seeCoin; try dsimp only
  (repeat' split) <;> simp
@[simp] theorem seeCoin_cnu_coinTypes (s : State) : (seeCoin s).cnu.coinTypes = s.cnu.coinTypes := by
  unfold seeCoin; try dsimp only
  (repeat' split) <;> simp
@[simp] theorem seeCoin_cnu_routing (s : State) : (seeCoin s).cnu.routing = s.cnu.routing := by
  unfold seeCoin; try dsimp only
  (repeat' split) <;> simp
@[simp] theorem seeCoin_cnu_cashboxPresent (s : State) : (seeCoin s).cnu.cashboxPresent = s.cnu.cashboxPresent := by
  unfold seeCoin; try dsimp only
  (repeat' split) <;> simp
@[simp] theorem seeCoin_cnu_headRejects (s : State) : (seeCoin s).cnu.headRejects = s.cnu.headRejects := by
  unfold seeCoin; try dsimp only
  (repeat' split) <;> simp
@[simp] theorem seeCoin_cru_solenoid (s : State) : (seeCoin s).cru.solenoid = s.cru.solenoid := by
  unfold seeCoin; try dsimp only
  (repeat' split) <;> simp
@[simp] theorem seeCoin_lnk_state (s : State) : (seeCoin s).lnk.state = s.lnk.state := by
  unfold seeCoin; try dsimp only
  (repeat' split) <;> simp
@[simp] theorem seeCoin_lnk_heard (s : State) : (seeCoin s).lnk.heard = s.lnk.heard := by
  unfold seeCoin; try dsimp only
  (repeat' split) <;> simp
@[simp] theorem seeCoin_lnk_acknowledged (s : State) : (seeCoin s).lnk.acknowledged = s.lnk.acknowledged := by
  unfold seeCoin; try dsimp only
  (repeat' split) <;> simp
@[simp] theorem seeCoin_lnk_isolationTimer (s : State) : (seeCoin s).lnk.isolationTimer = s.lnk.isolationTimer := by
  unfold seeCoin; try dsimp only
  (repeat' split) <;> simp
@[simp] theorem seeCoin_lnk_change (s : State) : (seeCoin s).lnk.change = s.lnk.change := by
  unfold seeCoin; try dsimp only
  (repeat' split) <;> simp
@[simp] theorem seeCoin_lnk_silentTimer (s : State) : (seeCoin s).lnk.silentTimer = s.lnk.silentTimer := by
  unfold seeCoin; try dsimp only
  (repeat' split) <;> simp
@[simp] theorem seeCoin_lnk_failures (s : State) : (seeCoin s).lnk.failures = s.lnk.failures := by
  unfold seeCoin; try dsimp only
  (repeat' split) <;> simp
@[simp] theorem seeCoin_lnk_unknownFrames (s : State) : (seeCoin s).lnk.unknownFrames = s.lnk.unknownFrames := by
  unfold seeCoin; try dsimp only
  (repeat' split) <;> simp
@[simp] theorem seeCoin_lnk_droppedFrames (s : State) : (seeCoin s).lnk.droppedFrames = s.lnk.droppedFrames := by
  unfold seeCoin; try dsimp only
  (repeat' split) <;> simp
@[simp] theorem seeCoin_lnk_silentEntries (s : State) : (seeCoin s).lnk.silentEntries = s.lnk.silentEntries := by
  unfold seeCoin; try dsimp only
  (repeat' split) <;> simp
@[simp] theorem seeCoin_ssu_own (s : State) : (seeCoin s).ssu.own = s.ssu.own := by
  unfold seeCoin; try dsimp only
  (repeat' split) <;> simp
@[simp] theorem seeCoin_ssu_cause (s : State) : (seeCoin s).ssu.cause = s.ssu.cause := by
  unfold seeCoin; try dsimp only
  (repeat' split) <;> simp
@[simp] theorem seeCoin_ssu_imageStatus (s : State) : (seeCoin s).ssu.imageStatus = s.ssu.imageStatus := by
  unfold seeCoin; try dsimp only
  (repeat' split) <;> simp
@[simp] theorem seeCoin_ssu_auditGood (s : State) : (seeCoin s).ssu.auditGood = s.ssu.auditGood := by
  unfold seeCoin; try dsimp only
  (repeat' split) <;> simp
@[simp] theorem seeCoin_ssu_snapshot (s : State) : (seeCoin s).ssu.snapshot = s.ssu.snapshot := by
  unfold seeCoin; try dsimp only
  (repeat' split) <;> simp
@[simp] theorem seeCoin_ssu_saveOwed (s : State) : (seeCoin s).ssu.saveOwed = s.ssu.saveOwed := by
  unfold seeCoin; try dsimp only
  (repeat' split) <;> simp
@[simp] theorem seeCoin_ssu_lastSave (s : State) : (seeCoin s).ssu.lastSave = s.ssu.lastSave := by
  unfold seeCoin; try dsimp only
  (repeat' split) <;> simp
@[simp] theorem seeCoin_ssu_auditArea (s : State) : (seeCoin s).ssu.auditArea = s.ssu.auditArea := by
  unfold seeCoin; try dsimp only
  (repeat' split) <;> simp
@[simp] theorem failAttempt_pending (i a : Nat) (s : State) : (failAttempt i a s).pending = s.pending := by
  unfold failAttempt; try dsimp only
  (repeat' split) <;> simp
@[simp] theorem failAttempt_due (i a : Nat) (s : State) : (failAttempt i a s).due = s.due := by
  unfold failAttempt; try dsimp only
  (repeat' split) <;> simp
@[simp] theorem failAttempt_phase (i a : Nat) (s : State) : (failAttempt i a s).phase = s.phase := by
  unfold failAttempt; try dsimp only
  (repeat' split) <;> simp
@[simp] theorem failAttempt_inputs (i a : Nat) (s : State) : (failAttempt i a s).inputs = s.inputs := by
  unfold failAttempt; try dsimp only
  (repeat' split) <;> simp
@[simp] theorem failAttempt_outputs (i a : Nat) (s : State) : (failAttempt i a s).outputs = s.outputs := by
  unfold failAttempt; try dsimp only
  (repeat' split) <;> simp
@[simp] theorem failAttempt_params (i a : Nat) (s : State) : (failAttempt i a s).params = s.params := by
  unfold failAttempt; try dsimp only
  (repeat' split) <;> simp
@[simp] theorem failAttempt_cca (i a : Nat) (s : State) : (failAttempt i a s).cca = s.cca := by
  unfold failAttempt; try dsimp only
  (repeat' split) <;> simp
@[simp] theorem failAttempt_vsq (i a : Nat) (s : State) : (failAttempt i a s).vsq = s.vsq := by
  unfold failAttempt; try dsimp only
  (repeat' split) <;> simp
@[simp] theorem failAttempt_mxd (i a : Nat) (s : State) : (failAttempt i a s).mxd = s.mxd := by
  unfold failAttempt; try dsimp only
  (repeat' split) <;> simp
@[simp] theorem failAttempt_rfc (i a : Nat) (s : State) : (failAttempt i a s).rfc = s.rfc := by
  unfold failAttempt; try dsimp only
  (repeat' split) <;> simp
@[simp] theorem failAttempt_lbu (i a : Nat) (s : State) : (failAttempt i a s).lbu = s.lbu := by
  unfold failAttempt; try dsimp only
  (repeat' split) <;> simp
@[simp] theorem failAttempt_cnu_coinTypes (i a : Nat) (s : State) : (failAttempt i a s).cnu.coinTypes = s.cnu.coinTypes := by
  unfold failAttempt; try dsimp only
  (repeat' split) <;> simp
@[simp] theorem failAttempt_cnu_routing (i a : Nat) (s : State) : (failAttempt i a s).cnu.routing = s.cnu.routing := by
  unfold failAttempt; try dsimp only
  (repeat' split) <;> simp
@[simp] theorem failAttempt_cnu_cashboxPresent (i a : Nat) (s : State) : (failAttempt i a s).cnu.cashboxPresent = s.cnu.cashboxPresent := by
  unfold failAttempt; try dsimp only
  (repeat' split) <;> simp
@[simp] theorem failAttempt_cnu_headRejects (i a : Nat) (s : State) : (failAttempt i a s).cnu.headRejects = s.cnu.headRejects := by
  unfold failAttempt; try dsimp only
  (repeat' split) <;> simp
@[simp] theorem failAttempt_cru_strayExits (i a : Nat) (s : State) : (failAttempt i a s).cru.strayExits = s.cru.strayExits := by
  unfold failAttempt; try dsimp only
  (repeat' split) <;> simp
@[simp] theorem failAttempt_lnk_state (i a : Nat) (s : State) : (failAttempt i a s).lnk.state = s.lnk.state := by
  unfold failAttempt; try dsimp only
  (repeat' split) <;> simp
@[simp] theorem failAttempt_lnk_heard (i a : Nat) (s : State) : (failAttempt i a s).lnk.heard = s.lnk.heard := by
  unfold failAttempt; try dsimp only
  (repeat' split) <;> simp
@[simp] theorem failAttempt_lnk_acknowledged (i a : Nat) (s : State) : (failAttempt i a s).lnk.acknowledged = s.lnk.acknowledged := by
  unfold failAttempt; try dsimp only
  (repeat' split) <;> simp
@[simp] theorem failAttempt_lnk_isolationTimer (i a : Nat) (s : State) : (failAttempt i a s).lnk.isolationTimer = s.lnk.isolationTimer := by
  unfold failAttempt; try dsimp only
  (repeat' split) <;> simp
@[simp] theorem failAttempt_lnk_change (i a : Nat) (s : State) : (failAttempt i a s).lnk.change = s.lnk.change := by
  unfold failAttempt; try dsimp only
  (repeat' split) <;> simp
@[simp] theorem failAttempt_lnk_silentTimer (i a : Nat) (s : State) : (failAttempt i a s).lnk.silentTimer = s.lnk.silentTimer := by
  unfold failAttempt; try dsimp only
  (repeat' split) <;> simp
@[simp] theorem failAttempt_lnk_failures (i a : Nat) (s : State) : (failAttempt i a s).lnk.failures = s.lnk.failures := by
  unfold failAttempt; try dsimp only
  (repeat' split) <;> simp
@[simp] theorem failAttempt_lnk_unknownFrames (i a : Nat) (s : State) : (failAttempt i a s).lnk.unknownFrames = s.lnk.unknownFrames := by
  unfold failAttempt; try dsimp only
  (repeat' split) <;> simp
@[simp] theorem failAttempt_lnk_droppedFrames (i a : Nat) (s : State) : (failAttempt i a s).lnk.droppedFrames = s.lnk.droppedFrames := by
  unfold failAttempt; try dsimp only
  (repeat' split) <;> simp
@[simp] theorem failAttempt_lnk_silentEntries (i a : Nat) (s : State) : (failAttempt i a s).lnk.silentEntries = s.lnk.silentEntries := by
  unfold failAttempt; try dsimp only
  (repeat' split) <;> simp
@[simp] theorem failAttempt_ssu_own (i a : Nat) (s : State) : (failAttempt i a s).ssu.own = s.ssu.own := by
  unfold failAttempt; try dsimp only
  (repeat' split) <;> simp
@[simp] theorem failAttempt_ssu_cause (i a : Nat) (s : State) : (failAttempt i a s).ssu.cause = s.ssu.cause := by
  unfold failAttempt; try dsimp only
  (repeat' split) <;> simp
@[simp] theorem failAttempt_ssu_imageStatus (i a : Nat) (s : State) : (failAttempt i a s).ssu.imageStatus = s.ssu.imageStatus := by
  unfold failAttempt; try dsimp only
  (repeat' split) <;> simp
@[simp] theorem failAttempt_ssu_auditGood (i a : Nat) (s : State) : (failAttempt i a s).ssu.auditGood = s.ssu.auditGood := by
  unfold failAttempt; try dsimp only
  (repeat' split) <;> simp
@[simp] theorem failAttempt_ssu_snapshot (i a : Nat) (s : State) : (failAttempt i a s).ssu.snapshot = s.ssu.snapshot := by
  unfold failAttempt; try dsimp only
  (repeat' split) <;> simp
@[simp] theorem failAttempt_ssu_saveOwed (i a : Nat) (s : State) : (failAttempt i a s).ssu.saveOwed = s.ssu.saveOwed := by
  unfold failAttempt; try dsimp only
  (repeat' split) <;> simp
@[simp] theorem failAttempt_ssu_lastSave (i a : Nat) (s : State) : (failAttempt i a s).ssu.lastSave = s.ssu.lastSave := by
  unfold failAttempt; try dsimp only
  (repeat' split) <;> simp
@[simp] theorem failAttempt_ssu_auditArea (i a : Nat) (s : State) : (failAttempt i a s).ssu.auditArea = s.ssu.auditArea := by
  unfold failAttempt; try dsimp only
  (repeat' split) <;> simp

end Sys2Proof.Machine.Laws
end

