-- ==== Sys2Proof/Laws/FramesLoad.lean ====
section
/-! SUPPORT. Frames: what each shared operation of the Load Budget Unit leaves as it was, one lemma per operation and part. -/

set_option linter.unusedTactic false
set_option linter.unnecessarySeqFocus false
set_option linter.unreachableTactic false

namespace Sys2Proof.Machine.Laws

-- One after the other: side by side, this many small lemmas take more memory than a check has.
set_option Elab.async false

@[simp] theorem grantLoad_pending (k : LoadKind) (s : State) : (grantLoad k s).pending = s.pending := by
  unfold grantLoad; try dsimp only
  (repeat' split) <;> simp
@[simp] theorem grantLoad_due (k : LoadKind) (s : State) : (grantLoad k s).due = s.due := by
  unfold grantLoad; try dsimp only
  (repeat' split) <;> simp
@[simp] theorem grantLoad_phase (k : LoadKind) (s : State) : (grantLoad k s).phase = s.phase := by
  unfold grantLoad; try dsimp only
  (repeat' split) <;> simp
@[simp] theorem grantLoad_inputs (k : LoadKind) (s : State) : (grantLoad k s).inputs = s.inputs := by
  unfold grantLoad; try dsimp only
  (repeat' split) <;> simp
@[simp] theorem grantLoad_outputs (k : LoadKind) (s : State) : (grantLoad k s).outputs = s.outputs := by
  unfold grantLoad; try dsimp only
  (repeat' split) <;> simp
@[simp] theorem grantLoad_params (k : LoadKind) (s : State) : (grantLoad k s).params = s.params := by
  unfold grantLoad; try dsimp only
  (repeat' split) <;> simp
@[simp] theorem grantLoad_cnu (k : LoadKind) (s : State) : (grantLoad k s).cnu = s.cnu := by
  unfold grantLoad; try dsimp only
  (repeat' split) <;> simp
@[simp] theorem grantLoad_cru (k : LoadKind) (s : State) : (grantLoad k s).cru = s.cru := by
  unfold grantLoad; try dsimp only
  (repeat' split) <;> simp
@[simp] theorem grantLoad_cca (k : LoadKind) (s : State) : (grantLoad k s).cca = s.cca := by
  unfold grantLoad; try dsimp only
  (repeat' split) <;> simp
@[simp] theorem grantLoad_vsq (k : LoadKind) (s : State) : (grantLoad k s).vsq = s.vsq := by
  unfold grantLoad; try dsimp only
  (repeat' split) <;> simp
@[simp] theorem grantLoad_mxd (k : LoadKind) (s : State) : (grantLoad k s).mxd = s.mxd := by
  unfold grantLoad; try dsimp only
  (repeat' split) <;> simp
@[simp] theorem grantLoad_rfc (k : LoadKind) (s : State) : (grantLoad k s).rfc = s.rfc := by
  unfold grantLoad; try dsimp only
  (repeat' split) <;> simp
@[simp] theorem grantLoad_ssu (k : LoadKind) (s : State) : (grantLoad k s).ssu = s.ssu := by
  unfold grantLoad; try dsimp only
  (repeat' split) <;> simp
@[simp] theorem grantLoad_lbu_peers (k : LoadKind) (s : State) : (grantLoad k s).lbu.peers = s.lbu.peers := by
  unfold grantLoad; try dsimp only
  (repeat' split) <;> simp
@[simp] theorem grantLoad_lbu_claimCounter (k : LoadKind) (s : State) : (grantLoad k s).lbu.claimCounter = s.lbu.claimCounter := by
  unfold grantLoad; try dsimp only
  (repeat' split) <;> simp
@[simp] theorem grantLoad_lbu_ignored (k : LoadKind) (s : State) : (grantLoad k s).lbu.ignored = s.lbu.ignored := by
  unfold grantLoad; try dsimp only
  (repeat' split) <;> simp
@[simp] theorem grantLoad_lbu_objectSum (k : LoadKind) (s : State) : (grantLoad k s).lbu.objectSum = s.lbu.objectSum := by
  unfold grantLoad; try dsimp only
  (repeat' split) <;> simp
@[simp] theorem grantLoad_lnk_state (k : LoadKind) (s : State) : (grantLoad k s).lnk.state = s.lnk.state := by
  unfold grantLoad; try dsimp only
  (repeat' split) <;> simp
@[simp] theorem grantLoad_lnk_heard (k : LoadKind) (s : State) : (grantLoad k s).lnk.heard = s.lnk.heard := by
  unfold grantLoad; try dsimp only
  (repeat' split) <;> simp
@[simp] theorem grantLoad_lnk_acknowledged (k : LoadKind) (s : State) : (grantLoad k s).lnk.acknowledged = s.lnk.acknowledged := by
  unfold grantLoad; try dsimp only
  (repeat' split) <;> simp
@[simp] theorem grantLoad_lnk_isolationTimer (k : LoadKind) (s : State) : (grantLoad k s).lnk.isolationTimer = s.lnk.isolationTimer := by
  unfold grantLoad; try dsimp only
  (repeat' split) <;> simp
@[simp] theorem grantLoad_lnk_silentTimer (k : LoadKind) (s : State) : (grantLoad k s).lnk.silentTimer = s.lnk.silentTimer := by
  unfold grantLoad; try dsimp only
  (repeat' split) <;> simp
@[simp] theorem grantLoad_lnk_failures (k : LoadKind) (s : State) : (grantLoad k s).lnk.failures = s.lnk.failures := by
  unfold grantLoad; try dsimp only
  (repeat' split) <;> simp
@[simp] theorem grantLoad_lnk_unknownFrames (k : LoadKind) (s : State) : (grantLoad k s).lnk.unknownFrames = s.lnk.unknownFrames := by
  unfold grantLoad; try dsimp only
  (repeat' split) <;> simp
@[simp] theorem grantLoad_lnk_droppedFrames (k : LoadKind) (s : State) : (grantLoad k s).lnk.droppedFrames = s.lnk.droppedFrames := by
  unfold grantLoad; try dsimp only
  (repeat' split) <;> simp
@[simp] theorem grantLoad_lnk_silentEntries (k : LoadKind) (s : State) : (grantLoad k s).lnk.silentEntries = s.lnk.silentEntries := by
  unfold grantLoad; try dsimp only
  (repeat' split) <;> simp
@[simp] theorem queueClaim_pending (k : LoadKind) (s : State) : (queueClaim k s).pending = s.pending := by
  unfold queueClaim; try dsimp only
  (repeat' split) <;> simp
@[simp] theorem queueClaim_due (k : LoadKind) (s : State) : (queueClaim k s).due = s.due := by
  unfold queueClaim; try dsimp only
  (repeat' split) <;> simp
@[simp] theorem queueClaim_phase (k : LoadKind) (s : State) : (queueClaim k s).phase = s.phase := by
  unfold queueClaim; try dsimp only
  (repeat' split) <;> simp
@[simp] theorem queueClaim_inputs (k : LoadKind) (s : State) : (queueClaim k s).inputs = s.inputs := by
  unfold queueClaim; try dsimp only
  (repeat' split) <;> simp
@[simp] theorem queueClaim_outputs (k : LoadKind) (s : State) : (queueClaim k s).outputs = s.outputs := by
  unfold queueClaim; try dsimp only
  (repeat' split) <;> simp
@[simp] theorem queueClaim_params (k : LoadKind) (s : State) : (queueClaim k s).params = s.params := by
  unfold queueClaim; try dsimp only
  (repeat' split) <;> simp
@[simp] theorem queueClaim_cnu (k : LoadKind) (s : State) : (queueClaim k s).cnu = s.cnu := by
  unfold queueClaim; try dsimp only
  (repeat' split) <;> simp
@[simp] theorem queueClaim_cru (k : LoadKind) (s : State) : (queueClaim k s).cru = s.cru := by
  unfold queueClaim; try dsimp only
  (repeat' split) <;> simp
@[simp] theorem queueClaim_cca (k : LoadKind) (s : State) : (queueClaim k s).cca = s.cca := by
  unfold queueClaim; try dsimp only
  (repeat' split) <;> simp
@[simp] theorem queueClaim_vsq (k : LoadKind) (s : State) : (queueClaim k s).vsq = s.vsq := by
  unfold queueClaim; try dsimp only
  (repeat' split) <;> simp
@[simp] theorem queueClaim_mxd (k : LoadKind) (s : State) : (queueClaim k s).mxd = s.mxd := by
  unfold queueClaim; try dsimp only
  (repeat' split) <;> simp
@[simp] theorem queueClaim_rfc (k : LoadKind) (s : State) : (queueClaim k s).rfc = s.rfc := by
  unfold queueClaim; try dsimp only
  (repeat' split) <;> simp
@[simp] theorem queueClaim_ssu (k : LoadKind) (s : State) : (queueClaim k s).ssu = s.ssu := by
  unfold queueClaim; try dsimp only
  (repeat' split) <;> simp
@[simp] theorem queueClaim_lbu_peers (k : LoadKind) (s : State) : (queueClaim k s).lbu.peers = s.lbu.peers := by
  unfold queueClaim; try dsimp only
  (repeat' split) <;> simp
@[simp] theorem queueClaim_lbu_ignored (k : LoadKind) (s : State) : (queueClaim k s).lbu.ignored = s.lbu.ignored := by
  unfold queueClaim; try dsimp only
  (repeat' split) <;> simp
@[simp] theorem queueClaim_lbu_objectSum (k : LoadKind) (s : State) : (queueClaim k s).lbu.objectSum = s.lbu.objectSum := by
  unfold queueClaim; try dsimp only
  (repeat' split) <;> simp
@[simp] theorem queueClaim_lbu_agenda (k : LoadKind) (s : State) : (queueClaim k s).lbu.agenda = s.lbu.agenda := by
  unfold queueClaim; try dsimp only
  (repeat' split) <;> simp
@[simp] theorem queueClaim_lnk_state (k : LoadKind) (s : State) : (queueClaim k s).lnk.state = s.lnk.state := by
  unfold queueClaim; try dsimp only
  (repeat' split) <;> simp
@[simp] theorem queueClaim_lnk_heard (k : LoadKind) (s : State) : (queueClaim k s).lnk.heard = s.lnk.heard := by
  unfold queueClaim; try dsimp only
  (repeat' split) <;> simp
@[simp] theorem queueClaim_lnk_acknowledged (k : LoadKind) (s : State) : (queueClaim k s).lnk.acknowledged = s.lnk.acknowledged := by
  unfold queueClaim; try dsimp only
  (repeat' split) <;> simp
@[simp] theorem queueClaim_lnk_isolationTimer (k : LoadKind) (s : State) : (queueClaim k s).lnk.isolationTimer = s.lnk.isolationTimer := by
  unfold queueClaim; try dsimp only
  (repeat' split) <;> simp
@[simp] theorem queueClaim_lnk_change (k : LoadKind) (s : State) : (queueClaim k s).lnk.change = s.lnk.change := by
  unfold queueClaim; try dsimp only
  (repeat' split) <;> simp
@[simp] theorem queueClaim_lnk_periodTimer (k : LoadKind) (s : State) : (queueClaim k s).lnk.periodTimer = s.lnk.periodTimer := by
  unfold queueClaim; try dsimp only
  (repeat' split) <;> simp
@[simp] theorem queueClaim_lnk_silentTimer (k : LoadKind) (s : State) : (queueClaim k s).lnk.silentTimer = s.lnk.silentTimer := by
  unfold queueClaim; try dsimp only
  (repeat' split) <;> simp
@[simp] theorem queueClaim_lnk_failures (k : LoadKind) (s : State) : (queueClaim k s).lnk.failures = s.lnk.failures := by
  unfold queueClaim; try dsimp only
  (repeat' split) <;> simp
@[simp] theorem queueClaim_lnk_unknownFrames (k : LoadKind) (s : State) : (queueClaim k s).lnk.unknownFrames = s.lnk.unknownFrames := by
  unfold queueClaim; try dsimp only
  (repeat' split) <;> simp
@[simp] theorem queueClaim_lnk_droppedFrames (k : LoadKind) (s : State) : (queueClaim k s).lnk.droppedFrames = s.lnk.droppedFrames := by
  unfold queueClaim; try dsimp only
  (repeat' split) <;> simp
@[simp] theorem queueClaim_lnk_silentEntries (k : LoadKind) (s : State) : (queueClaim k s).lnk.silentEntries = s.lnk.silentEntries := by
  unfold queueClaim; try dsimp only
  (repeat' split) <;> simp
@[simp] theorem testOne_pending (k : LoadKind) (s : State) : (testOne k s).pending = s.pending := by
  unfold testOne; try dsimp only
  (repeat' split) <;> simp
@[simp] theorem testOne_due (k : LoadKind) (s : State) : (testOne k s).due = s.due := by
  unfold testOne; try dsimp only
  (repeat' split) <;> simp
@[simp] theorem testOne_phase (k : LoadKind) (s : State) : (testOne k s).phase = s.phase := by
  unfold testOne; try dsimp only
  (repeat' split) <;> simp
@[simp] theorem testOne_inputs (k : LoadKind) (s : State) : (testOne k s).inputs = s.inputs := by
  unfold testOne; try dsimp only
  (repeat' split) <;> simp
@[simp] theorem testOne_outputs (k : LoadKind) (s : State) : (testOne k s).outputs = s.outputs := by
  unfold testOne; try dsimp only
  (repeat' split) <;> simp
@[simp] theorem testOne_params (k : LoadKind) (s : State) : (testOne k s).params = s.params := by
  unfold testOne; try dsimp only
  (repeat' split) <;> simp
@[simp] theorem testOne_cnu (k : LoadKind) (s : State) : (testOne k s).cnu = s.cnu := by
  unfold testOne; try dsimp only
  (repeat' split) <;> simp
@[simp] theorem testOne_cru (k : LoadKind) (s : State) : (testOne k s).cru = s.cru := by
  unfold testOne; try dsimp only
  (repeat' split) <;> simp
@[simp] theorem testOne_cca (k : LoadKind) (s : State) : (testOne k s).cca = s.cca := by
  unfold testOne; try dsimp only
  (repeat' split) <;> simp
@[simp] theorem testOne_vsq (k : LoadKind) (s : State) : (testOne k s).vsq = s.vsq := by
  unfold testOne; try dsimp only
  (repeat' split) <;> simp
@[simp] theorem testOne_mxd (k : LoadKind) (s : State) : (testOne k s).mxd = s.mxd := by
  unfold testOne; try dsimp only
  (repeat' split) <;> simp
@[simp] theorem testOne_rfc (k : LoadKind) (s : State) : (testOne k s).rfc = s.rfc := by
  unfold testOne; try dsimp only
  (repeat' split) <;> simp
@[simp] theorem testOne_ssu (k : LoadKind) (s : State) : (testOne k s).ssu = s.ssu := by
  unfold testOne; try dsimp only
  (repeat' split) <;> simp
@[simp] theorem testOne_lbu_peers (k : LoadKind) (s : State) : (testOne k s).lbu.peers = s.lbu.peers := by
  unfold testOne; try dsimp only
  (repeat' split) <;> simp
@[simp] theorem testOne_lbu_ignored (k : LoadKind) (s : State) : (testOne k s).lbu.ignored = s.lbu.ignored := by
  unfold testOne; try dsimp only
  (repeat' split) <;> simp
@[simp] theorem testOne_lbu_objectSum (k : LoadKind) (s : State) : (testOne k s).lbu.objectSum = s.lbu.objectSum := by
  unfold testOne; try dsimp only
  (repeat' split) <;> simp
@[simp] theorem testOne_lnk_state (k : LoadKind) (s : State) : (testOne k s).lnk.state = s.lnk.state := by
  unfold testOne; try dsimp only
  (repeat' split) <;> simp
@[simp] theorem testOne_lnk_heard (k : LoadKind) (s : State) : (testOne k s).lnk.heard = s.lnk.heard := by
  unfold testOne; try dsimp only
  (repeat' split) <;> simp
@[simp] theorem testOne_lnk_acknowledged (k : LoadKind) (s : State) : (testOne k s).lnk.acknowledged = s.lnk.acknowledged := by
  unfold testOne; try dsimp only
  (repeat' split) <;> simp
@[simp] theorem testOne_lnk_isolationTimer (k : LoadKind) (s : State) : (testOne k s).lnk.isolationTimer = s.lnk.isolationTimer := by
  unfold testOne; try dsimp only
  (repeat' split) <;> simp
@[simp] theorem testOne_lnk_silentTimer (k : LoadKind) (s : State) : (testOne k s).lnk.silentTimer = s.lnk.silentTimer := by
  unfold testOne; try dsimp only
  (repeat' split) <;> simp
@[simp] theorem testOne_lnk_failures (k : LoadKind) (s : State) : (testOne k s).lnk.failures = s.lnk.failures := by
  unfold testOne; try dsimp only
  (repeat' split) <;> simp
@[simp] theorem testOne_lnk_unknownFrames (k : LoadKind) (s : State) : (testOne k s).lnk.unknownFrames = s.lnk.unknownFrames := by
  unfold testOne; try dsimp only
  (repeat' split) <;> simp
@[simp] theorem testOne_lnk_droppedFrames (k : LoadKind) (s : State) : (testOne k s).lnk.droppedFrames = s.lnk.droppedFrames := by
  unfold testOne; try dsimp only
  (repeat' split) <;> simp
@[simp] theorem testOne_lnk_silentEntries (k : LoadKind) (s : State) : (testOne k s).lnk.silentEntries = s.lnk.silentEntries := by
  unfold testOne; try dsimp only
  (repeat' split) <;> simp
@[simp] theorem testWaiting_pending (s : State) : (testWaiting s).pending = s.pending := by
  unfold testWaiting; try dsimp only
  (repeat' split) <;> simp
@[simp] theorem testWaiting_due (s : State) : (testWaiting s).due = s.due := by
  unfold testWaiting; try dsimp only
  (repeat' split) <;> simp
@[simp] theorem testWaiting_phase (s : State) : (testWaiting s).phase = s.phase := by
  unfold testWaiting; try dsimp only
  (repeat' split) <;> simp
@[simp] theorem testWaiting_inputs (s : State) : (testWaiting s).inputs = s.inputs := by
  unfold testWaiting; try dsimp only
  (repeat' split) <;> simp
@[simp] theorem testWaiting_outputs (s : State) : (testWaiting s).outputs = s.outputs := by
  unfold testWaiting; try dsimp only
  (repeat' split) <;> simp
@[simp] theorem testWaiting_params (s : State) : (testWaiting s).params = s.params := by
  unfold testWaiting; try dsimp only
  (repeat' split) <;> simp
@[simp] theorem testWaiting_cnu (s : State) : (testWaiting s).cnu = s.cnu := by
  unfold testWaiting; try dsimp only
  (repeat' split) <;> simp
@[simp] theorem testWaiting_cru (s : State) : (testWaiting s).cru = s.cru := by
  unfold testWaiting; try dsimp only
  (repeat' split) <;> simp
@[simp] theorem testWaiting_cca (s : State) : (testWaiting s).cca = s.cca := by
  unfold testWaiting; try dsimp only
  (repeat' split) <;> simp
@[simp] theorem testWaiting_vsq (s : State) : (testWaiting s).vsq = s.vsq := by
  unfold testWaiting; try dsimp only
  (repeat' split) <;> simp
@[simp] theorem testWaiting_mxd (s : State) : (testWaiting s).mxd = s.mxd := by
  unfold testWaiting; try dsimp only
  (repeat' split) <;> simp
@[simp] theorem testWaiting_rfc (s : State) : (testWaiting s).rfc = s.rfc := by
  unfold testWaiting; try dsimp only
  (repeat' split) <;> simp
@[simp] theorem testWaiting_ssu (s : State) : (testWaiting s).ssu = s.ssu := by
  unfold testWaiting; try dsimp only
  (repeat' split) <;> simp
@[simp] theorem testWaiting_lbu_peers (s : State) : (testWaiting s).lbu.peers = s.lbu.peers := by
  unfold testWaiting; try dsimp only
  (repeat' split) <;> simp
@[simp] theorem testWaiting_lbu_ignored (s : State) : (testWaiting s).lbu.ignored = s.lbu.ignored := by
  unfold testWaiting; try dsimp only
  (repeat' split) <;> simp
@[simp] theorem testWaiting_lbu_objectSum (s : State) : (testWaiting s).lbu.objectSum = s.lbu.objectSum := by
  unfold testWaiting; try dsimp only
  (repeat' split) <;> simp
@[simp] theorem testWaiting_lnk_state (s : State) : (testWaiting s).lnk.state = s.lnk.state := by
  unfold testWaiting; try dsimp only
  (repeat' split) <;> simp
@[simp] theorem testWaiting_lnk_heard (s : State) : (testWaiting s).lnk.heard = s.lnk.heard := by
  unfold testWaiting; try dsimp only
  (repeat' split) <;> simp
@[simp] theorem testWaiting_lnk_acknowledged (s : State) : (testWaiting s).lnk.acknowledged = s.lnk.acknowledged := by
  unfold testWaiting; try dsimp only
  (repeat' split) <;> simp
@[simp] theorem testWaiting_lnk_isolationTimer (s : State) : (testWaiting s).lnk.isolationTimer = s.lnk.isolationTimer := by
  unfold testWaiting; try dsimp only
  (repeat' split) <;> simp
@[simp] theorem testWaiting_lnk_silentTimer (s : State) : (testWaiting s).lnk.silentTimer = s.lnk.silentTimer := by
  unfold testWaiting; try dsimp only
  (repeat' split) <;> simp
@[simp] theorem testWaiting_lnk_failures (s : State) : (testWaiting s).lnk.failures = s.lnk.failures := by
  unfold testWaiting; try dsimp only
  (repeat' split) <;> simp
@[simp] theorem testWaiting_lnk_unknownFrames (s : State) : (testWaiting s).lnk.unknownFrames = s.lnk.unknownFrames := by
  unfold testWaiting; try dsimp only
  (repeat' split) <;> simp
@[simp] theorem testWaiting_lnk_droppedFrames (s : State) : (testWaiting s).lnk.droppedFrames = s.lnk.droppedFrames := by
  unfold testWaiting; try dsimp only
  (repeat' split) <;> simp
@[simp] theorem testWaiting_lnk_silentEntries (s : State) : (testWaiting s).lnk.silentEntries = s.lnk.silentEntries := by
  unfold testWaiting; try dsimp only
  (repeat' split) <;> simp
@[simp] theorem testOthers_pending (k : LoadKind) (s : State) : (testOthers k s).pending = s.pending := by
  unfold testOthers; try dsimp only
  (repeat' split) <;> simp
@[simp] theorem testOthers_due (k : LoadKind) (s : State) : (testOthers k s).due = s.due := by
  unfold testOthers; try dsimp only
  (repeat' split) <;> simp
@[simp] theorem testOthers_phase (k : LoadKind) (s : State) : (testOthers k s).phase = s.phase := by
  unfold testOthers; try dsimp only
  (repeat' split) <;> simp
@[simp] theorem testOthers_inputs (k : LoadKind) (s : State) : (testOthers k s).inputs = s.inputs := by
  unfold testOthers; try dsimp only
  (repeat' split) <;> simp
@[simp] theorem testOthers_outputs (k : LoadKind) (s : State) : (testOthers k s).outputs = s.outputs := by
  unfold testOthers; try dsimp only
  (repeat' split) <;> simp
@[simp] theorem testOthers_params (k : LoadKind) (s : State) : (testOthers k s).params = s.params := by
  unfold testOthers; try dsimp only
  (repeat' split) <;> simp
@[simp] theorem testOthers_cnu (k : LoadKind) (s : State) : (testOthers k s).cnu = s.cnu := by
  unfold testOthers; try dsimp only
  (repeat' split) <;> simp
@[simp] theorem testOthers_cru (k : LoadKind) (s : State) : (testOthers k s).cru = s.cru := by
  unfold testOthers; try dsimp only
  (repeat' split) <;> simp
@[simp] theorem testOthers_cca (k : LoadKind) (s : State) : (testOthers k s).cca = s.cca := by
  unfold testOthers; try dsimp only
  (repeat' split) <;> simp
@[simp] theorem testOthers_vsq (k : LoadKind) (s : State) : (testOthers k s).vsq = s.vsq := by
  unfold testOthers; try dsimp only
  (repeat' split) <;> simp
@[simp] theorem testOthers_mxd (k : LoadKind) (s : State) : (testOthers k s).mxd = s.mxd := by
  unfold testOthers; try dsimp only
  (repeat' split) <;> simp
@[simp] theorem testOthers_rfc (k : LoadKind) (s : State) : (testOthers k s).rfc = s.rfc := by
  unfold testOthers; try dsimp only
  (repeat' split) <;> simp
@[simp] theorem testOthers_ssu (k : LoadKind) (s : State) : (testOthers k s).ssu = s.ssu := by
  unfold testOthers; try dsimp only
  (repeat' split) <;> simp
@[simp] theorem testOthers_lbu_peers (k : LoadKind) (s : State) : (testOthers k s).lbu.peers = s.lbu.peers := by
  unfold testOthers; try dsimp only
  (repeat' split) <;> simp
@[simp] theorem testOthers_lbu_ignored (k : LoadKind) (s : State) : (testOthers k s).lbu.ignored = s.lbu.ignored := by
  unfold testOthers; try dsimp only
  (repeat' split) <;> simp
@[simp] theorem testOthers_lbu_objectSum (k : LoadKind) (s : State) : (testOthers k s).lbu.objectSum = s.lbu.objectSum := by
  unfold testOthers; try dsimp only
  (repeat' split) <;> simp
@[simp] theorem testOthers_lnk_state (k : LoadKind) (s : State) : (testOthers k s).lnk.state = s.lnk.state := by
  unfold testOthers; try dsimp only
  (repeat' split) <;> simp
@[simp] theorem testOthers_lnk_heard (k : LoadKind) (s : State) : (testOthers k s).lnk.heard = s.lnk.heard := by
  unfold testOthers; try dsimp only
  (repeat' split) <;> simp
@[simp] theorem testOthers_lnk_acknowledged (k : LoadKind) (s : State) : (testOthers k s).lnk.acknowledged = s.lnk.acknowledged := by
  unfold testOthers; try dsimp only
  (repeat' split) <;> simp
@[simp] theorem testOthers_lnk_isolationTimer (k : LoadKind) (s : State) : (testOthers k s).lnk.isolationTimer = s.lnk.isolationTimer := by
  unfold testOthers; try dsimp only
  (repeat' split) <;> simp
@[simp] theorem testOthers_lnk_silentTimer (k : LoadKind) (s : State) : (testOthers k s).lnk.silentTimer = s.lnk.silentTimer := by
  unfold testOthers; try dsimp only
  (repeat' split) <;> simp
@[simp] theorem testOthers_lnk_failures (k : LoadKind) (s : State) : (testOthers k s).lnk.failures = s.lnk.failures := by
  unfold testOthers; try dsimp only
  (repeat' split) <;> simp
@[simp] theorem testOthers_lnk_unknownFrames (k : LoadKind) (s : State) : (testOthers k s).lnk.unknownFrames = s.lnk.unknownFrames := by
  unfold testOthers; try dsimp only
  (repeat' split) <;> simp
@[simp] theorem testOthers_lnk_droppedFrames (k : LoadKind) (s : State) : (testOthers k s).lnk.droppedFrames = s.lnk.droppedFrames := by
  unfold testOthers; try dsimp only
  (repeat' split) <;> simp
@[simp] theorem testOthers_lnk_silentEntries (k : LoadKind) (s : State) : (testOthers k s).lnk.silentEntries = s.lnk.silentEntries := by
  unfold testOthers; try dsimp only
  (repeat' split) <;> simp
@[simp] theorem waitAgain_pending (k : LoadKind) (s : State) : (waitAgain k s).pending = s.pending := by
  unfold waitAgain; try dsimp only
  (repeat' split) <;> simp
@[simp] theorem waitAgain_due (k : LoadKind) (s : State) : (waitAgain k s).due = s.due := by
  unfold waitAgain; try dsimp only
  (repeat' split) <;> simp
@[simp] theorem waitAgain_phase (k : LoadKind) (s : State) : (waitAgain k s).phase = s.phase := by
  unfold waitAgain; try dsimp only
  (repeat' split) <;> simp
@[simp] theorem waitAgain_inputs (k : LoadKind) (s : State) : (waitAgain k s).inputs = s.inputs := by
  unfold waitAgain; try dsimp only
  (repeat' split) <;> simp
@[simp] theorem waitAgain_outputs (k : LoadKind) (s : State) : (waitAgain k s).outputs = s.outputs := by
  unfold waitAgain; try dsimp only
  (repeat' split) <;> simp
@[simp] theorem waitAgain_params (k : LoadKind) (s : State) : (waitAgain k s).params = s.params := by
  unfold waitAgain; try dsimp only
  (repeat' split) <;> simp
@[simp] theorem waitAgain_cnu (k : LoadKind) (s : State) : (waitAgain k s).cnu = s.cnu := by
  unfold waitAgain; try dsimp only
  (repeat' split) <;> simp
@[simp] theorem waitAgain_cru (k : LoadKind) (s : State) : (waitAgain k s).cru = s.cru := by
  unfold waitAgain; try dsimp only
  (repeat' split) <;> simp
@[simp] theorem waitAgain_cca (k : LoadKind) (s : State) : (waitAgain k s).cca = s.cca := by
  unfold waitAgain; try dsimp only
  (repeat' split) <;> simp
@[simp] theorem waitAgain_vsq (k : LoadKind) (s : State) : (waitAgain k s).vsq = s.vsq := by
  unfold waitAgain; try dsimp only
  (repeat' split) <;> simp
@[simp] theorem waitAgain_mxd (k : LoadKind) (s : State) : (waitAgain k s).mxd = s.mxd := by
  unfold waitAgain; try dsimp only
  (repeat' split) <;> simp
@[simp] theorem waitAgain_rfc (k : LoadKind) (s : State) : (waitAgain k s).rfc = s.rfc := by
  unfold waitAgain; try dsimp only
  (repeat' split) <;> simp
@[simp] theorem waitAgain_lnk (k : LoadKind) (s : State) : (waitAgain k s).lnk = s.lnk := by
  unfold waitAgain; try dsimp only
  (repeat' split) <;> simp
@[simp] theorem waitAgain_ssu (k : LoadKind) (s : State) : (waitAgain k s).ssu = s.ssu := by
  unfold waitAgain; try dsimp only
  (repeat' split) <;> simp
@[simp] theorem waitAgain_lbu_peers (k : LoadKind) (s : State) : (waitAgain k s).lbu.peers = s.lbu.peers := by
  unfold waitAgain; try dsimp only
  (repeat' split) <;> simp
@[simp] theorem waitAgain_lbu_claimCounter (k : LoadKind) (s : State) : (waitAgain k s).lbu.claimCounter = s.lbu.claimCounter := by
  unfold waitAgain; try dsimp only
  (repeat' split) <;> simp
@[simp] theorem waitAgain_lbu_ignored (k : LoadKind) (s : State) : (waitAgain k s).lbu.ignored = s.lbu.ignored := by
  unfold waitAgain; try dsimp only
  (repeat' split) <;> simp
@[simp] theorem waitAgain_lbu_objectSum (k : LoadKind) (s : State) : (waitAgain k s).lbu.objectSum = s.lbu.objectSum := by
  unfold waitAgain; try dsimp only
  (repeat' split) <;> simp
@[simp] theorem waitAgain_lbu_agenda (k : LoadKind) (s : State) : (waitAgain k s).lbu.agenda = s.lbu.agenda := by
  unfold waitAgain; try dsimp only
  (repeat' split) <;> simp
@[simp] theorem retestQueued_pending (k : LoadKind) (s : State) : (retestQueued k s).pending = s.pending := by
  unfold retestQueued; try dsimp only
  (repeat' split) <;> simp
@[simp] theorem retestQueued_due (k : LoadKind) (s : State) : (retestQueued k s).due = s.due := by
  unfold retestQueued; try dsimp only
  (repeat' split) <;> simp
@[simp] theorem retestQueued_phase (k : LoadKind) (s : State) : (retestQueued k s).phase = s.phase := by
  unfold retestQueued; try dsimp only
  (repeat' split) <;> simp
@[simp] theorem retestQueued_inputs (k : LoadKind) (s : State) : (retestQueued k s).inputs = s.inputs := by
  unfold retestQueued; try dsimp only
  (repeat' split) <;> simp
@[simp] theorem retestQueued_outputs (k : LoadKind) (s : State) : (retestQueued k s).outputs = s.outputs := by
  unfold retestQueued; try dsimp only
  (repeat' split) <;> simp
@[simp] theorem retestQueued_params (k : LoadKind) (s : State) : (retestQueued k s).params = s.params := by
  unfold retestQueued; try dsimp only
  (repeat' split) <;> simp
@[simp] theorem retestQueued_cnu (k : LoadKind) (s : State) : (retestQueued k s).cnu = s.cnu := by
  unfold retestQueued; try dsimp only
  (repeat' split) <;> simp
@[simp] theorem retestQueued_cru (k : LoadKind) (s : State) : (retestQueued k s).cru = s.cru := by
  unfold retestQueued; try dsimp only
  (repeat' split) <;> simp
@[simp] theorem retestQueued_cca (k : LoadKind) (s : State) : (retestQueued k s).cca = s.cca := by
  unfold retestQueued; try dsimp only
  (repeat' split) <;> simp
@[simp] theorem retestQueued_vsq (k : LoadKind) (s : State) : (retestQueued k s).vsq = s.vsq := by
  unfold retestQueued; try dsimp only
  (repeat' split) <;> simp
@[simp] theorem retestQueued_mxd (k : LoadKind) (s : State) : (retestQueued k s).mxd = s.mxd := by
  unfold retestQueued; try dsimp only
  (repeat' split) <;> simp
@[simp] theorem retestQueued_rfc (k : LoadKind) (s : State) : (retestQueued k s).rfc = s.rfc := by
  unfold retestQueued; try dsimp only
  (repeat' split) <;> simp
@[simp] theorem retestQueued_ssu (k : LoadKind) (s : State) : (retestQueued k s).ssu = s.ssu := by
  unfold retestQueued; try dsimp only
  (repeat' split) <;> simp
@[simp] theorem retestQueued_lbu_peers (k : LoadKind) (s : State) : (retestQueued k s).lbu.peers = s.lbu.peers := by
  unfold retestQueued; try dsimp only
  (repeat' split) <;> simp
@[simp] theorem retestQueued_lbu_claimCounter (k : LoadKind) (s : State) : (retestQueued k s).lbu.claimCounter = s.lbu.claimCounter := by
  unfold retestQueued; try dsimp only
  (repeat' split) <;> simp
@[simp] theorem retestQueued_lbu_ignored (k : LoadKind) (s : State) : (retestQueued k s).lbu.ignored = s.lbu.ignored := by
  unfold retestQueued; try dsimp only
  (repeat' split) <;> simp
@[simp] theorem retestQueued_lbu_objectSum (k : LoadKind) (s : State) : (retestQueued k s).lbu.objectSum = s.lbu.objectSum := by
  unfold retestQueued; try dsimp only
  (repeat' split) <;> simp
@[simp] theorem retestQueued_lbu_agenda (k : LoadKind) (s : State) : (retestQueued k s).lbu.agenda = s.lbu.agenda := by
  unfold retestQueued; try dsimp only
  (repeat' split) <;> simp
@[simp] theorem retestQueued_lnk_state (k : LoadKind) (s : State) : (retestQueued k s).lnk.state = s.lnk.state := by
  unfold retestQueued; try dsimp only
  (repeat' split) <;> simp
@[simp] theorem retestQueued_lnk_heard (k : LoadKind) (s : State) : (retestQueued k s).lnk.heard = s.lnk.heard := by
  unfold retestQueued; try dsimp only
  (repeat' split) <;> simp
@[simp] theorem retestQueued_lnk_acknowledged (k : LoadKind) (s : State) : (retestQueued k s).lnk.acknowledged = s.lnk.acknowledged := by
  unfold retestQueued; try dsimp only
  (repeat' split) <;> simp
@[simp] theorem retestQueued_lnk_isolationTimer (k : LoadKind) (s : State) : (retestQueued k s).lnk.isolationTimer = s.lnk.isolationTimer := by
  unfold retestQueued; try dsimp only
  (repeat' split) <;> simp
@[simp] theorem retestQueued_lnk_change (k : LoadKind) (s : State) : (retestQueued k s).lnk.change = s.lnk.change := by
  unfold retestQueued; try dsimp only
  (repeat' split) <;> simp
@[simp] theorem retestQueued_lnk_periodTimer (k : LoadKind) (s : State) : (retestQueued k s).lnk.periodTimer = s.lnk.periodTimer := by
  unfold retestQueued; try dsimp only
  (repeat' split) <;> simp
@[simp] theorem retestQueued_lnk_silentTimer (k : LoadKind) (s : State) : (retestQueued k s).lnk.silentTimer = s.lnk.silentTimer := by
  unfold retestQueued; try dsimp only
  (repeat' split) <;> simp
@[simp] theorem retestQueued_lnk_failures (k : LoadKind) (s : State) : (retestQueued k s).lnk.failures = s.lnk.failures := by
  unfold retestQueued; try dsimp only
  (repeat' split) <;> simp
@[simp] theorem retestQueued_lnk_unknownFrames (k : LoadKind) (s : State) : (retestQueued k s).lnk.unknownFrames = s.lnk.unknownFrames := by
  unfold retestQueued; try dsimp only
  (repeat' split) <;> simp
@[simp] theorem retestQueued_lnk_droppedFrames (k : LoadKind) (s : State) : (retestQueued k s).lnk.droppedFrames = s.lnk.droppedFrames := by
  unfold retestQueued; try dsimp only
  (repeat' split) <;> simp
@[simp] theorem retestQueued_lnk_silentEntries (k : LoadKind) (s : State) : (retestQueued k s).lnk.silentEntries = s.lnk.silentEntries := by
  unfold retestQueued; try dsimp only
  (repeat' split) <;> simp
@[simp] theorem clearHeldOff_pending (s : State) : (clearHeldOff s).pending = s.pending := by
  unfold clearHeldOff; try dsimp only
  (repeat' split) <;> simp
@[simp] theorem clearHeldOff_due (s : State) : (clearHeldOff s).due = s.due := by
  unfold clearHeldOff; try dsimp only
  (repeat' split) <;> simp
@[simp] theorem clearHeldOff_phase (s : State) : (clearHeldOff s).phase = s.phase := by
  unfold clearHeldOff; try dsimp only
  (repeat' split) <;> simp
@[simp] theorem clearHeldOff_inputs (s : State) : (clearHeldOff s).inputs = s.inputs := by
  unfold clearHeldOff; try dsimp only
  (repeat' split) <;> simp
@[simp] theorem clearHeldOff_outputs (s : State) : (clearHeldOff s).outputs = s.outputs := by
  unfold clearHeldOff; try dsimp only
  (repeat' split) <;> simp
@[simp] theorem clearHeldOff_params (s : State) : (clearHeldOff s).params = s.params := by
  unfold clearHeldOff; try dsimp only
  (repeat' split) <;> simp
@[simp] theorem clearHeldOff_cnu (s : State) : (clearHeldOff s).cnu = s.cnu := by
  unfold clearHeldOff; try dsimp only
  (repeat' split) <;> simp
@[simp] theorem clearHeldOff_cru (s : State) : (clearHeldOff s).cru = s.cru := by
  unfold clearHeldOff; try dsimp only
  (repeat' split) <;> simp
@[simp] theorem clearHeldOff_cca (s : State) : (clearHeldOff s).cca = s.cca := by
  unfold clearHeldOff; try dsimp only
  (repeat' split) <;> simp
@[simp] theorem clearHeldOff_vsq (s : State) : (clearHeldOff s).vsq = s.vsq := by
  unfold clearHeldOff; try dsimp only
  (repeat' split) <;> simp
@[simp] theorem clearHeldOff_mxd (s : State) : (clearHeldOff s).mxd = s.mxd := by
  unfold clearHeldOff; try dsimp only
  (repeat' split) <;> simp
@[simp] theorem clearHeldOff_rfc (s : State) : (clearHeldOff s).rfc = s.rfc := by
  unfold clearHeldOff; try dsimp only
  (repeat' split) <;> simp
@[simp] theorem clearHeldOff_lnk (s : State) : (clearHeldOff s).lnk = s.lnk := by
  unfold clearHeldOff; try dsimp only
  (repeat' split) <;> simp
@[simp] theorem clearHeldOff_ssu (s : State) : (clearHeldOff s).ssu = s.ssu := by
  unfold clearHeldOff; try dsimp only
  (repeat' split) <;> simp
@[simp] theorem clearHeldOff_lbu_peers (s : State) : (clearHeldOff s).lbu.peers = s.lbu.peers := by
  unfold clearHeldOff; try dsimp only
  (repeat' split) <;> simp
@[simp] theorem clearHeldOff_lbu_claimCounter (s : State) : (clearHeldOff s).lbu.claimCounter = s.lbu.claimCounter := by
  unfold clearHeldOff; try dsimp only
  (repeat' split) <;> simp
@[simp] theorem clearHeldOff_lbu_ignored (s : State) : (clearHeldOff s).lbu.ignored = s.lbu.ignored := by
  unfold clearHeldOff; try dsimp only
  (repeat' split) <;> simp
@[simp] theorem clearHeldOff_lbu_objectSum (s : State) : (clearHeldOff s).lbu.objectSum = s.lbu.objectSum := by
  unfold clearHeldOff; try dsimp only
  (repeat' split) <;> simp
@[simp] theorem clearHeldOff_lbu_agenda (s : State) : (clearHeldOff s).lbu.agenda = s.lbu.agenda := by
  unfold clearHeldOff; try dsimp only
  (repeat' split) <;> simp
@[simp] theorem tableChanged_pending (s : State) : (tableChanged s).pending = s.pending := by
  unfold tableChanged; try dsimp only
  (repeat' split) <;> simp
@[simp] theorem tableChanged_due (s : State) : (tableChanged s).due = s.due := by
  unfold tableChanged; try dsimp only
  (repeat' split) <;> simp
@[simp] theorem tableChanged_phase (s : State) : (tableChanged s).phase = s.phase := by
  unfold tableChanged; try dsimp only
  (repeat' split) <;> simp
@[simp] theorem tableChanged_inputs (s : State) : (tableChanged s).inputs = s.inputs := by
  unfold tableChanged; try dsimp only
  (repeat' split) <;> simp
@[simp] theorem tableChanged_outputs (s : State) : (tableChanged s).outputs = s.outputs := by
  unfold tableChanged; try dsimp only
  (repeat' split) <;> simp
@[simp] theorem tableChanged_params (s : State) : (tableChanged s).params = s.params := by
  unfold tableChanged; try dsimp only
  (repeat' split) <;> simp
@[simp] theorem tableChanged_cnu (s : State) : (tableChanged s).cnu = s.cnu := by
  unfold tableChanged; try dsimp only
  (repeat' split) <;> simp
@[simp] theorem tableChanged_cru (s : State) : (tableChanged s).cru = s.cru := by
  unfold tableChanged; try dsimp only
  (repeat' split) <;> simp
@[simp] theorem tableChanged_cca (s : State) : (tableChanged s).cca = s.cca := by
  unfold tableChanged; try dsimp only
  (repeat' split) <;> simp
@[simp] theorem tableChanged_vsq (s : State) : (tableChanged s).vsq = s.vsq := by
  unfold tableChanged; try dsimp only
  (repeat' split) <;> simp
@[simp] theorem tableChanged_mxd (s : State) : (tableChanged s).mxd = s.mxd := by
  unfold tableChanged; try dsimp only
  (repeat' split) <;> simp
@[simp] theorem tableChanged_rfc (s : State) : (tableChanged s).rfc = s.rfc := by
  unfold tableChanged; try dsimp only
  (repeat' split) <;> simp
@[simp] theorem tableChanged_ssu (s : State) : (tableChanged s).ssu = s.ssu := by
  unfold tableChanged; try dsimp only
  (repeat' split) <;> simp
@[simp] theorem tableChanged_lbu_peers (s : State) : (tableChanged s).lbu.peers = s.lbu.peers := by
  unfold tableChanged; try dsimp only
  (repeat' split) <;> simp
@[simp] theorem tableChanged_lbu_ignored (s : State) : (tableChanged s).lbu.ignored = s.lbu.ignored := by
  unfold tableChanged; try dsimp only
  (repeat' split) <;> simp
@[simp] theorem tableChanged_lbu_objectSum (s : State) : (tableChanged s).lbu.objectSum = s.lbu.objectSum := by
  unfold tableChanged; try dsimp only
  (repeat' split) <;> simp
@[simp] theorem tableChanged_lnk_state (s : State) : (tableChanged s).lnk.state = s.lnk.state := by
  unfold tableChanged; try dsimp only
  (repeat' split) <;> simp
@[simp] theorem tableChanged_lnk_heard (s : State) : (tableChanged s).lnk.heard = s.lnk.heard := by
  unfold tableChanged; try dsimp only
  (repeat' split) <;> simp
@[simp] theorem tableChanged_lnk_acknowledged (s : State) : (tableChanged s).lnk.acknowledged = s.lnk.acknowledged := by
  unfold tableChanged; try dsimp only
  (repeat' split) <;> simp
@[simp] theorem tableChanged_lnk_isolationTimer (s : State) : (tableChanged s).lnk.isolationTimer = s.lnk.isolationTimer := by
  unfold tableChanged; try dsimp only
  (repeat' split) <;> simp
@[simp] theorem tableChanged_lnk_silentTimer (s : State) : (tableChanged s).lnk.silentTimer = s.lnk.silentTimer := by
  unfold tableChanged; try dsimp only
  (repeat' split) <;> simp
@[simp] theorem tableChanged_lnk_failures (s : State) : (tableChanged s).lnk.failures = s.lnk.failures := by
  unfold tableChanged; try dsimp only
  (repeat' split) <;> simp
@[simp] theorem tableChanged_lnk_unknownFrames (s : State) : (tableChanged s).lnk.unknownFrames = s.lnk.unknownFrames := by
  unfold tableChanged; try dsimp only
  (repeat' split) <;> simp
@[simp] theorem tableChanged_lnk_droppedFrames (s : State) : (tableChanged s).lnk.droppedFrames = s.lnk.droppedFrames := by
  unfold tableChanged; try dsimp only
  (repeat' split) <;> simp
@[simp] theorem tableChanged_lnk_silentEntries (s : State) : (tableChanged s).lnk.silentEntries = s.lnk.silentEntries := by
  unfold tableChanged; try dsimp only
  (repeat' split) <;> simp
@[simp] theorem sendRelease_pending (k : LoadKind) (q : Byte) (s : State) : (sendRelease k q s).pending = s.pending := by
  unfold sendRelease; try dsimp only
  (repeat' split) <;> simp
@[simp] theorem sendRelease_due (k : LoadKind) (q : Byte) (s : State) : (sendRelease k q s).due = s.due := by
  unfold sendRelease; try dsimp only
  (repeat' split) <;> simp
@[simp] theorem sendRelease_phase (k : LoadKind) (q : Byte) (s : State) : (sendRelease k q s).phase = s.phase := by
  unfold sendRelease; try dsimp only
  (repeat' split) <;> simp
@[simp] theorem sendRelease_inputs (k : LoadKind) (q : Byte) (s : State) : (sendRelease k q s).inputs = s.inputs := by
  unfold sendRelease; try dsimp only
  (repeat' split) <;> simp
@[simp] theorem sendRelease_outputs (k : LoadKind) (q : Byte) (s : State) : (sendRelease k q s).outputs = s.outputs := by
  unfold sendRelease; try dsimp only
  (repeat' split) <;> simp
@[simp] theorem sendRelease_params (k : LoadKind) (q : Byte) (s : State) : (sendRelease k q s).params = s.params := by
  unfold sendRelease; try dsimp only
  (repeat' split) <;> simp
@[simp] theorem sendRelease_cnu (k : LoadKind) (q : Byte) (s : State) : (sendRelease k q s).cnu = s.cnu := by
  unfold sendRelease; try dsimp only
  (repeat' split) <;> simp
@[simp] theorem sendRelease_cru (k : LoadKind) (q : Byte) (s : State) : (sendRelease k q s).cru = s.cru := by
  unfold sendRelease; try dsimp only
  (repeat' split) <;> simp
@[simp] theorem sendRelease_cca (k : LoadKind) (q : Byte) (s : State) : (sendRelease k q s).cca = s.cca := by
  unfold sendRelease; try dsimp only
  (repeat' split) <;> simp
@[simp] theorem sendRelease_vsq (k : LoadKind) (q : Byte) (s : State) : (sendRelease k q s).vsq = s.vsq := by
  unfold sendRelease; try dsimp only
  (repeat' split) <;> simp
@[simp] theorem sendRelease_mxd (k : LoadKind) (q : Byte) (s : State) : (sendRelease k q s).mxd = s.mxd := by
  unfold sendRelease; try dsimp only
  (repeat' split) <;> simp
@[simp] theorem sendRelease_rfc (k : LoadKind) (q : Byte) (s : State) : (sendRelease k q s).rfc = s.rfc := by
  unfold sendRelease; try dsimp only
  (repeat' split) <;> simp
@[simp] theorem sendRelease_lbu (k : LoadKind) (q : Byte) (s : State) : (sendRelease k q s).lbu = s.lbu := by
  unfold sendRelease; try dsimp only
  (repeat' split) <;> simp
@[simp] theorem sendRelease_ssu (k : LoadKind) (q : Byte) (s : State) : (sendRelease k q s).ssu = s.ssu := by
  unfold sendRelease; try dsimp only
  (repeat' split) <;> simp
@[simp] theorem sendRelease_lnk_state (k : LoadKind) (q : Byte) (s : State) : (sendRelease k q s).lnk.state = s.lnk.state := by
  unfold sendRelease; try dsimp only
  (repeat' split) <;> simp
@[simp] theorem sendRelease_lnk_heard (k : LoadKind) (q : Byte) (s : State) : (sendRelease k q s).lnk.heard = s.lnk.heard := by
  unfold sendRelease; try dsimp only
  (repeat' split) <;> simp
@[simp] theorem sendRelease_lnk_acknowledged (k : LoadKind) (q : Byte) (s : State) : (sendRelease k q s).lnk.acknowledged = s.lnk.acknowledged := by
  unfold sendRelease; try dsimp only
  (repeat' split) <;> simp
@[simp] theorem sendRelease_lnk_isolationTimer (k : LoadKind) (q : Byte) (s : State) : (sendRelease k q s).lnk.isolationTimer = s.lnk.isolationTimer := by
  unfold sendRelease; try dsimp only
  (repeat' split) <;> simp
@[simp] theorem sendRelease_lnk_silentTimer (k : LoadKind) (q : Byte) (s : State) : (sendRelease k q s).lnk.silentTimer = s.lnk.silentTimer := by
  unfold sendRelease; try dsimp only
  (repeat' split) <;> simp
@[simp] theorem sendRelease_lnk_failures (k : LoadKind) (q : Byte) (s : State) : (sendRelease k q s).lnk.failures = s.lnk.failures := by
  unfold sendRelease; try dsimp only
  (repeat' split) <;> simp
@[simp] theorem sendRelease_lnk_unknownFrames (k : LoadKind) (q : Byte) (s : State) : (sendRelease k q s).lnk.unknownFrames = s.lnk.unknownFrames := by
  unfold sendRelease; try dsimp only
  (repeat' split) <;> simp
@[simp] theorem sendRelease_lnk_droppedFrames (k : LoadKind) (q : Byte) (s : State) : (sendRelease k q s).lnk.droppedFrames = s.lnk.droppedFrames := by
  unfold sendRelease; try dsimp only
  (repeat' split) <;> simp
@[simp] theorem sendRelease_lnk_silentEntries (k : LoadKind) (q : Byte) (s : State) : (sendRelease k q s).lnk.silentEntries = s.lnk.silentEntries := by
  unfold sendRelease; try dsimp only
  (repeat' split) <;> simp
@[simp] theorem testRecord_pending (k : LoadKind) (s : State) : (testRecord k s).pending = s.pending := by
  unfold testRecord; try dsimp only
  (repeat' split) <;> simp
@[simp] theorem testRecord_due (k : LoadKind) (s : State) : (testRecord k s).due = s.due := by
  unfold testRecord; try dsimp only
  (repeat' split) <;> simp
@[simp] theorem testRecord_phase (k : LoadKind) (s : State) : (testRecord k s).phase = s.phase := by
  unfold testRecord; try dsimp only
  (repeat' split) <;> simp
@[simp] theorem testRecord_inputs (k : LoadKind) (s : State) : (testRecord k s).inputs = s.inputs := by
  unfold testRecord; try dsimp only
  (repeat' split) <;> simp
@[simp] theorem testRecord_outputs (k : LoadKind) (s : State) : (testRecord k s).outputs = s.outputs := by
  unfold testRecord; try dsimp only
  (repeat' split) <;> simp
@[simp] theorem testRecord_params (k : LoadKind) (s : State) : (testRecord k s).params = s.params := by
  unfold testRecord; try dsimp only
  (repeat' split) <;> simp
@[simp] theorem testRecord_cnu (k : LoadKind) (s : State) : (testRecord k s).cnu = s.cnu := by
  unfold testRecord; try dsimp only
  (repeat' split) <;> simp
@[simp] theorem testRecord_cru (k : LoadKind) (s : State) : (testRecord k s).cru = s.cru := by
  unfold testRecord; try dsimp only
  (repeat' split) <;> simp
@[simp] theorem testRecord_cca (k : LoadKind) (s : State) : (testRecord k s).cca = s.cca := by
  unfold testRecord; try dsimp only
  (repeat' split) <;> simp
@[simp] theorem testRecord_vsq (k : LoadKind) (s : State) : (testRecord k s).vsq = s.vsq := by
  unfold testRecord; try dsimp only
  (repeat' split) <;> simp
@[simp] theorem testRecord_mxd (k : LoadKind) (s : State) : (testRecord k s).mxd = s.mxd := by
  unfold testRecord; try dsimp only
  (repeat' split) <;> simp
@[simp] theorem testRecord_rfc (k : LoadKind) (s : State) : (testRecord k s).rfc = s.rfc := by
  unfold testRecord; try dsimp only
  (repeat' split) <;> simp
@[simp] theorem testRecord_ssu (k : LoadKind) (s : State) : (testRecord k s).ssu = s.ssu := by
  unfold testRecord; try dsimp only
  (repeat' split) <;> simp
@[simp] theorem testRecord_lbu_peers (k : LoadKind) (s : State) : (testRecord k s).lbu.peers = s.lbu.peers := by
  unfold testRecord; try dsimp only
  (repeat' split) <;> simp
@[simp] theorem testRecord_lbu_ignored (k : LoadKind) (s : State) : (testRecord k s).lbu.ignored = s.lbu.ignored := by
  unfold testRecord; try dsimp only
  (repeat' split) <;> simp
@[simp] theorem testRecord_lbu_objectSum (k : LoadKind) (s : State) : (testRecord k s).lbu.objectSum = s.lbu.objectSum := by
  unfold testRecord; try dsimp only
  (repeat' split) <;> simp
@[simp] theorem testRecord_lnk_state (k : LoadKind) (s : State) : (testRecord k s).lnk.state = s.lnk.state := by
  unfold testRecord; try dsimp only
  (repeat' split) <;> simp
@[simp] theorem testRecord_lnk_heard (k : LoadKind) (s : State) : (testRecord k s).lnk.heard = s.lnk.heard := by
  unfold testRecord; try dsimp only
  (repeat' split) <;> simp
@[simp] theorem testRecord_lnk_acknowledged (k : LoadKind) (s : State) : (testRecord k s).lnk.acknowledged = s.lnk.acknowledged := by
  unfold testRecord; try dsimp only
  (repeat' split) <;> simp
@[simp] theorem testRecord_lnk_isolationTimer (k : LoadKind) (s : State) : (testRecord k s).lnk.isolationTimer = s.lnk.isolationTimer := by
  unfold testRecord; try dsimp only
  (repeat' split) <;> simp
@[simp] theorem testRecord_lnk_silentTimer (k : LoadKind) (s : State) : (testRecord k s).lnk.silentTimer = s.lnk.silentTimer := by
  unfold testRecord; try dsimp only
  (repeat' split) <;> simp
@[simp] theorem testRecord_lnk_failures (k : LoadKind) (s : State) : (testRecord k s).lnk.failures = s.lnk.failures := by
  unfold testRecord; try dsimp only
  (repeat' split) <;> simp
@[simp] theorem testRecord_lnk_unknownFrames (k : LoadKind) (s : State) : (testRecord k s).lnk.unknownFrames = s.lnk.unknownFrames := by
  unfold testRecord; try dsimp only
  (repeat' split) <;> simp
@[simp] theorem testRecord_lnk_droppedFrames (k : LoadKind) (s : State) : (testRecord k s).lnk.droppedFrames = s.lnk.droppedFrames := by
  unfold testRecord; try dsimp only
  (repeat' split) <;> simp
@[simp] theorem testRecord_lnk_silentEntries (k : LoadKind) (s : State) : (testRecord k s).lnk.silentEntries = s.lnk.silentEntries := by
  unfold testRecord; try dsimp only
  (repeat' split) <;> simp
@[simp] theorem askLoad_pending (k : LoadKind) (c : ClaimClass) (a : Nat) (s : State) : (askLoad k c a s).pending = s.pending := by
  unfold askLoad; try dsimp only
  (repeat' split) <;> simp
@[simp] theorem askLoad_due (k : LoadKind) (c : ClaimClass) (a : Nat) (s : State) : (askLoad k c a s).due = s.due := by
  unfold askLoad; try dsimp only
  (repeat' split) <;> simp
@[simp] theorem askLoad_phase (k : LoadKind) (c : ClaimClass) (a : Nat) (s : State) : (askLoad k c a s).phase = s.phase := by
  unfold askLoad; try dsimp only
  (repeat' split) <;> simp
@[simp] theorem askLoad_inputs (k : LoadKind) (c : ClaimClass) (a : Nat) (s : State) : (askLoad k c a s).inputs = s.inputs := by
  unfold askLoad; try dsimp only
  (repeat' split) <;> simp
@[simp] theorem askLoad_outputs (k : LoadKind) (c : ClaimClass) (a : Nat) (s : State) : (askLoad k c a s).outputs = s.outputs := by
  unfold askLoad; try dsimp only
  (repeat' split) <;> simp
@[simp] theorem askLoad_params (k : LoadKind) (c : ClaimClass) (a : Nat) (s : State) : (askLoad k c a s).params = s.params := by
  unfold askLoad; try dsimp only
  (repeat' split) <;> simp
@[simp] theorem askLoad_cnu (k : LoadKind) (c : ClaimClass) (a : Nat) (s : State) : (askLoad k c a s).cnu = s.cnu := by
  unfold askLoad; try dsimp only
  (repeat' split) <;> simp
@[simp] theorem askLoad_cru (k : LoadKind) (c : ClaimClass) (a : Nat) (s : State) : (askLoad k c a s).cru = s.cru := by
  unfold askLoad; try dsimp only
  (repeat' split) <;> simp
@[simp] theorem askLoad_cca (k : LoadKind) (c : ClaimClass) (a : Nat) (s : State) : (askLoad k c a s).cca = s.cca := by
  unfold askLoad; try dsimp only
  (repeat' split) <;> simp
@[simp] theorem askLoad_vsq (k : LoadKind) (c : ClaimClass) (a : Nat) (s : State) : (askLoad k c a s).vsq = s.vsq := by
  unfold askLoad; try dsimp only
  (repeat' split) <;> simp
@[simp] theorem askLoad_mxd (k : LoadKind) (c : ClaimClass) (a : Nat) (s : State) : (askLoad k c a s).mxd = s.mxd := by
  unfold askLoad; try dsimp only
  (repeat' split) <;> simp
@[simp] theorem askLoad_rfc (k : LoadKind) (c : ClaimClass) (a : Nat) (s : State) : (askLoad k c a s).rfc = s.rfc := by
  unfold askLoad; try dsimp only
  (repeat' split) <;> simp
@[simp] theorem askLoad_ssu (k : LoadKind) (c : ClaimClass) (a : Nat) (s : State) : (askLoad k c a s).ssu = s.ssu := by
  unfold askLoad; try dsimp only
  (repeat' split) <;> simp
@[simp] theorem askLoad_lbu_peers (k : LoadKind) (c : ClaimClass) (a : Nat) (s : State) : (askLoad k c a s).lbu.peers = s.lbu.peers := by
  unfold askLoad; try dsimp only
  (repeat' split) <;> simp
@[simp] theorem askLoad_lbu_ignored (k : LoadKind) (c : ClaimClass) (a : Nat) (s : State) : (askLoad k c a s).lbu.ignored = s.lbu.ignored := by
  unfold askLoad; try dsimp only
  (repeat' split) <;> simp
@[simp] theorem askLoad_lbu_objectSum (k : LoadKind) (c : ClaimClass) (a : Nat) (s : State) : (askLoad k c a s).lbu.objectSum = s.lbu.objectSum := by
  unfold askLoad; try dsimp only
  (repeat' split) <;> simp
@[simp] theorem askLoad_lnk_state (k : LoadKind) (c : ClaimClass) (a : Nat) (s : State) : (askLoad k c a s).lnk.state = s.lnk.state := by
  unfold askLoad; try dsimp only
  (repeat' split) <;> simp
@[simp] theorem askLoad_lnk_heard (k : LoadKind) (c : ClaimClass) (a : Nat) (s : State) : (askLoad k c a s).lnk.heard = s.lnk.heard := by
  unfold askLoad; try dsimp only
  (repeat' split) <;> simp
@[simp] theorem askLoad_lnk_acknowledged (k : LoadKind) (c : ClaimClass) (a : Nat) (s : State) : (askLoad k c a s).lnk.acknowledged = s.lnk.acknowledged := by
  unfold askLoad; try dsimp only
  (repeat' split) <;> simp
@[simp] theorem askLoad_lnk_isolationTimer (k : LoadKind) (c : ClaimClass) (a : Nat) (s : State) : (askLoad k c a s).lnk.isolationTimer = s.lnk.isolationTimer := by
  unfold askLoad; try dsimp only
  (repeat' split) <;> simp
@[simp] theorem askLoad_lnk_silentTimer (k : LoadKind) (c : ClaimClass) (a : Nat) (s : State) : (askLoad k c a s).lnk.silentTimer = s.lnk.silentTimer := by
  unfold askLoad; try dsimp only
  (repeat' split) <;> simp
@[simp] theorem askLoad_lnk_failures (k : LoadKind) (c : ClaimClass) (a : Nat) (s : State) : (askLoad k c a s).lnk.failures = s.lnk.failures := by
  unfold askLoad; try dsimp only
  (repeat' split) <;> simp
@[simp] theorem askLoad_lnk_unknownFrames (k : LoadKind) (c : ClaimClass) (a : Nat) (s : State) : (askLoad k c a s).lnk.unknownFrames = s.lnk.unknownFrames := by
  unfold askLoad; try dsimp only
  (repeat' split) <;> simp
@[simp] theorem askLoad_lnk_droppedFrames (k : LoadKind) (c : ClaimClass) (a : Nat) (s : State) : (askLoad k c a s).lnk.droppedFrames = s.lnk.droppedFrames := by
  unfold askLoad; try dsimp only
  (repeat' split) <;> simp
@[simp] theorem askLoad_lnk_silentEntries (k : LoadKind) (c : ClaimClass) (a : Nat) (s : State) : (askLoad k c a s).lnk.silentEntries = s.lnk.silentEntries := by
  unfold askLoad; try dsimp only
  (repeat' split) <;> simp
@[simp] theorem clearLoad_pending (k : LoadKind) (s : State) : (clearLoad k s).pending = s.pending := by
  unfold clearLoad; try dsimp only
  (repeat' split) <;> simp
@[simp] theorem clearLoad_due (k : LoadKind) (s : State) : (clearLoad k s).due = s.due := by
  unfold clearLoad; try dsimp only
  (repeat' split) <;> simp
@[simp] theorem clearLoad_phase (k : LoadKind) (s : State) : (clearLoad k s).phase = s.phase := by
  unfold clearLoad; try dsimp only
  (repeat' split) <;> simp
@[simp] theorem clearLoad_inputs (k : LoadKind) (s : State) : (clearLoad k s).inputs = s.inputs := by
  unfold clearLoad; try dsimp only
  (repeat' split) <;> simp
@[simp] theorem clearLoad_outputs (k : LoadKind) (s : State) : (clearLoad k s).outputs = s.outputs := by
  unfold clearLoad; try dsimp only
  (repeat' split) <;> simp
@[simp] theorem clearLoad_params (k : LoadKind) (s : State) : (clearLoad k s).params = s.params := by
  unfold clearLoad; try dsimp only
  (repeat' split) <;> simp
@[simp] theorem clearLoad_cnu (k : LoadKind) (s : State) : (clearLoad k s).cnu = s.cnu := by
  unfold clearLoad; try dsimp only
  (repeat' split) <;> simp
@[simp] theorem clearLoad_cru (k : LoadKind) (s : State) : (clearLoad k s).cru = s.cru := by
  unfold clearLoad; try dsimp only
  (repeat' split) <;> simp
@[simp] theorem clearLoad_cca (k : LoadKind) (s : State) : (clearLoad k s).cca = s.cca := by
  unfold clearLoad; try dsimp only
  (repeat' split) <;> simp
@[simp] theorem clearLoad_vsq (k : LoadKind) (s : State) : (clearLoad k s).vsq = s.vsq := by
  unfold clearLoad; try dsimp only
  (repeat' split) <;> simp
@[simp] theorem clearLoad_mxd (k : LoadKind) (s : State) : (clearLoad k s).mxd = s.mxd := by
  unfold clearLoad; try dsimp only
  (repeat' split) <;> simp
@[simp] theorem clearLoad_rfc (k : LoadKind) (s : State) : (clearLoad k s).rfc = s.rfc := by
  unfold clearLoad; try dsimp only
  (repeat' split) <;> simp
@[simp] theorem clearLoad_lnk (k : LoadKind) (s : State) : (clearLoad k s).lnk = s.lnk := by
  unfold clearLoad; try dsimp only
  (repeat' split) <;> simp
@[simp] theorem clearLoad_ssu (k : LoadKind) (s : State) : (clearLoad k s).ssu = s.ssu := by
  unfold clearLoad; try dsimp only
  (repeat' split) <;> simp
@[simp] theorem clearLoad_lbu_peers (k : LoadKind) (s : State) : (clearLoad k s).lbu.peers = s.lbu.peers := by
  unfold clearLoad; try dsimp only
  (repeat' split) <;> simp
@[simp] theorem clearLoad_lbu_claimCounter (k : LoadKind) (s : State) : (clearLoad k s).lbu.claimCounter = s.lbu.claimCounter := by
  unfold clearLoad; try dsimp only
  (repeat' split) <;> simp
@[simp] theorem clearLoad_lbu_ignored (k : LoadKind) (s : State) : (clearLoad k s).lbu.ignored = s.lbu.ignored := by
  unfold clearLoad; try dsimp only
  (repeat' split) <;> simp
@[simp] theorem clearLoad_lbu_objectSum (k : LoadKind) (s : State) : (clearLoad k s).lbu.objectSum = s.lbu.objectSum := by
  unfold clearLoad; try dsimp only
  (repeat' split) <;> simp
@[simp] theorem clearLoad_lbu_agenda (k : LoadKind) (s : State) : (clearLoad k s).lbu.agenda = s.lbu.agenda := by
  unfold clearLoad; try dsimp only
  (repeat' split) <;> simp
@[simp] theorem withdrawLoad_pending (k : LoadKind) (s : State) : (withdrawLoad k s).pending = s.pending := by
  unfold withdrawLoad; try dsimp only
  (repeat' split) <;> simp
@[simp] theorem withdrawLoad_due (k : LoadKind) (s : State) : (withdrawLoad k s).due = s.due := by
  unfold withdrawLoad; try dsimp only
  (repeat' split) <;> simp
@[simp] theorem withdrawLoad_phase (k : LoadKind) (s : State) : (withdrawLoad k s).phase = s.phase := by
  unfold withdrawLoad; try dsimp only
  (repeat' split) <;> simp
@[simp] theorem withdrawLoad_inputs (k : LoadKind) (s : State) : (withdrawLoad k s).inputs = s.inputs := by
  unfold withdrawLoad; try dsimp only
  (repeat' split) <;> simp
@[simp] theorem withdrawLoad_outputs (k : LoadKind) (s : State) : (withdrawLoad k s).outputs = s.outputs := by
  unfold withdrawLoad; try dsimp only
  (repeat' split) <;> simp
@[simp] theorem withdrawLoad_params (k : LoadKind) (s : State) : (withdrawLoad k s).params = s.params := by
  unfold withdrawLoad; try dsimp only
  (repeat' split) <;> simp
@[simp] theorem withdrawLoad_cnu (k : LoadKind) (s : State) : (withdrawLoad k s).cnu = s.cnu := by
  unfold withdrawLoad; try dsimp only
  (repeat' split) <;> simp
@[simp] theorem withdrawLoad_cru (k : LoadKind) (s : State) : (withdrawLoad k s).cru = s.cru := by
  unfold withdrawLoad; try dsimp only
  (repeat' split) <;> simp
@[simp] theorem withdrawLoad_cca (k : LoadKind) (s : State) : (withdrawLoad k s).cca = s.cca := by
  unfold withdrawLoad; try dsimp only
  (repeat' split) <;> simp
@[simp] theorem withdrawLoad_vsq (k : LoadKind) (s : State) : (withdrawLoad k s).vsq = s.vsq := by
  unfold withdrawLoad; try dsimp only
  (repeat' split) <;> simp
@[simp] theorem withdrawLoad_mxd (k : LoadKind) (s : State) : (withdrawLoad k s).mxd = s.mxd := by
  unfold withdrawLoad; try dsimp only
  (repeat' split) <;> simp
@[simp] theorem withdrawLoad_rfc (k : LoadKind) (s : State) : (withdrawLoad k s).rfc = s.rfc := by
  unfold withdrawLoad; try dsimp only
  (repeat' split) <;> simp
@[simp] theorem withdrawLoad_ssu (k : LoadKind) (s : State) : (withdrawLoad k s).ssu = s.ssu := by
  unfold withdrawLoad; try dsimp only
  (repeat' split) <;> simp
@[simp] theorem withdrawLoad_lbu_peers (k : LoadKind) (s : State) : (withdrawLoad k s).lbu.peers = s.lbu.peers := by
  unfold withdrawLoad; try dsimp only
  (repeat' split) <;> simp
@[simp] theorem withdrawLoad_lbu_ignored (k : LoadKind) (s : State) : (withdrawLoad k s).lbu.ignored = s.lbu.ignored := by
  unfold withdrawLoad; try dsimp only
  (repeat' split) <;> simp
@[simp] theorem withdrawLoad_lbu_objectSum (k : LoadKind) (s : State) : (withdrawLoad k s).lbu.objectSum = s.lbu.objectSum := by
  unfold withdrawLoad; try dsimp only
  (repeat' split) <;> simp
@[simp] theorem withdrawLoad_lnk_state (k : LoadKind) (s : State) : (withdrawLoad k s).lnk.state = s.lnk.state := by
  unfold withdrawLoad; try dsimp only
  (repeat' split) <;> simp
@[simp] theorem withdrawLoad_lnk_heard (k : LoadKind) (s : State) : (withdrawLoad k s).lnk.heard = s.lnk.heard := by
  unfold withdrawLoad; try dsimp only
  (repeat' split) <;> simp
@[simp] theorem withdrawLoad_lnk_acknowledged (k : LoadKind) (s : State) : (withdrawLoad k s).lnk.acknowledged = s.lnk.acknowledged := by
  unfold withdrawLoad; try dsimp only
  (repeat' split) <;> simp
@[simp] theorem withdrawLoad_lnk_isolationTimer (k : LoadKind) (s : State) : (withdrawLoad k s).lnk.isolationTimer = s.lnk.isolationTimer := by
  unfold withdrawLoad; try dsimp only
  (repeat' split) <;> simp
@[simp] theorem withdrawLoad_lnk_silentTimer (k : LoadKind) (s : State) : (withdrawLoad k s).lnk.silentTimer = s.lnk.silentTimer := by
  unfold withdrawLoad; try dsimp only
  (repeat' split) <;> simp
@[simp] theorem withdrawLoad_lnk_failures (k : LoadKind) (s : State) : (withdrawLoad k s).lnk.failures = s.lnk.failures := by
  unfold withdrawLoad; try dsimp only
  (repeat' split) <;> simp
@[simp] theorem withdrawLoad_lnk_unknownFrames (k : LoadKind) (s : State) : (withdrawLoad k s).lnk.unknownFrames = s.lnk.unknownFrames := by
  unfold withdrawLoad; try dsimp only
  (repeat' split) <;> simp
@[simp] theorem withdrawLoad_lnk_droppedFrames (k : LoadKind) (s : State) : (withdrawLoad k s).lnk.droppedFrames = s.lnk.droppedFrames := by
  unfold withdrawLoad; try dsimp only
  (repeat' split) <;> simp
@[simp] theorem withdrawLoad_lnk_silentEntries (k : LoadKind) (s : State) : (withdrawLoad k s).lnk.silentEntries = s.lnk.silentEntries := by
  unfold withdrawLoad; try dsimp only
  (repeat' split) <;> simp
@[simp] theorem releaseLoad_pending (k : LoadKind) (s : State) : (releaseLoad k s).pending = s.pending := by
  unfold releaseLoad; try dsimp only
  (repeat' split) <;> simp
@[simp] theorem releaseLoad_due (k : LoadKind) (s : State) : (releaseLoad k s).due = s.due := by
  unfold releaseLoad; try dsimp only
  (repeat' split) <;> simp
@[simp] theorem releaseLoad_phase (k : LoadKind) (s : State) : (releaseLoad k s).phase = s.phase := by
  unfold releaseLoad; try dsimp only
  (repeat' split) <;> simp
@[simp] theorem releaseLoad_inputs (k : LoadKind) (s : State) : (releaseLoad k s).inputs = s.inputs := by
  unfold releaseLoad; try dsimp only
  (repeat' split) <;> simp
@[simp] theorem releaseLoad_outputs (k : LoadKind) (s : State) : (releaseLoad k s).outputs = s.outputs := by
  unfold releaseLoad; try dsimp only
  (repeat' split) <;> simp
@[simp] theorem releaseLoad_params (k : LoadKind) (s : State) : (releaseLoad k s).params = s.params := by
  unfold releaseLoad; try dsimp only
  (repeat' split) <;> simp
@[simp] theorem releaseLoad_cnu (k : LoadKind) (s : State) : (releaseLoad k s).cnu = s.cnu := by
  unfold releaseLoad; try dsimp only
  (repeat' split) <;> simp
@[simp] theorem releaseLoad_cru (k : LoadKind) (s : State) : (releaseLoad k s).cru = s.cru := by
  unfold releaseLoad; try dsimp only
  (repeat' split) <;> simp
@[simp] theorem releaseLoad_cca (k : LoadKind) (s : State) : (releaseLoad k s).cca = s.cca := by
  unfold releaseLoad; try dsimp only
  (repeat' split) <;> simp
@[simp] theorem releaseLoad_vsq (k : LoadKind) (s : State) : (releaseLoad k s).vsq = s.vsq := by
  unfold releaseLoad; try dsimp only
  (repeat' split) <;> simp
@[simp] theorem releaseLoad_mxd (k : LoadKind) (s : State) : (releaseLoad k s).mxd = s.mxd := by
  unfold releaseLoad; try dsimp only
  (repeat' split) <;> simp
@[simp] theorem releaseLoad_rfc (k : LoadKind) (s : State) : (releaseLoad k s).rfc = s.rfc := by
  unfold releaseLoad; try dsimp only
  (repeat' split) <;> simp
@[simp] theorem releaseLoad_ssu (k : LoadKind) (s : State) : (releaseLoad k s).ssu = s.ssu := by
  unfold releaseLoad; try dsimp only
  (repeat' split) <;> simp
@[simp] theorem releaseLoad_lbu_peers (k : LoadKind) (s : State) : (releaseLoad k s).lbu.peers = s.lbu.peers := by
  unfold releaseLoad; try dsimp only
  (repeat' split) <;> simp
@[simp] theorem releaseLoad_lbu_ignored (k : LoadKind) (s : State) : (releaseLoad k s).lbu.ignored = s.lbu.ignored := by
  unfold releaseLoad; try dsimp only
  (repeat' split) <;> simp
@[simp] theorem releaseLoad_lbu_objectSum (k : LoadKind) (s : State) : (releaseLoad k s).lbu.objectSum = s.lbu.objectSum := by
  unfold releaseLoad; try dsimp only
  (repeat' split) <;> simp
@[simp] theorem releaseLoad_lnk_state (k : LoadKind) (s : State) : (releaseLoad k s).lnk.state = s.lnk.state := by
  unfold releaseLoad; try dsimp only
  (repeat' split) <;> simp
@[simp] theorem releaseLoad_lnk_heard (k : LoadKind) (s : State) : (releaseLoad k s).lnk.heard = s.lnk.heard := by
  unfold releaseLoad; try dsimp only
  (repeat' split) <;> simp
@[simp] theorem releaseLoad_lnk_acknowledged (k : LoadKind) (s : State) : (releaseLoad k s).lnk.acknowledged = s.lnk.acknowledged := by
  unfold releaseLoad; try dsimp only
  (repeat' split) <;> simp
@[simp] theorem releaseLoad_lnk_isolationTimer (k : LoadKind) (s : State) : (releaseLoad k s).lnk.isolationTimer = s.lnk.isolationTimer := by
  unfold releaseLoad; try dsimp only
  (repeat' split) <;> simp
@[simp] theorem releaseLoad_lnk_silentTimer (k : LoadKind) (s : State) : (releaseLoad k s).lnk.silentTimer = s.lnk.silentTimer := by
  unfold releaseLoad; try dsimp only
  (repeat' split) <;> simp
@[simp] theorem releaseLoad_lnk_failures (k : LoadKind) (s : State) : (releaseLoad k s).lnk.failures = s.lnk.failures := by
  unfold releaseLoad; try dsimp only
  (repeat' split) <;> simp
@[simp] theorem releaseLoad_lnk_unknownFrames (k : LoadKind) (s : State) : (releaseLoad k s).lnk.unknownFrames = s.lnk.unknownFrames := by
  unfold releaseLoad; try dsimp only
  (repeat' split) <;> simp
@[simp] theorem releaseLoad_lnk_droppedFrames (k : LoadKind) (s : State) : (releaseLoad k s).lnk.droppedFrames = s.lnk.droppedFrames := by
  unfold releaseLoad; try dsimp only
  (repeat' split) <;> simp
@[simp] theorem releaseLoad_lnk_silentEntries (k : LoadKind) (s : State) : (releaseLoad k s).lnk.silentEntries = s.lnk.silentEntries := by
  unfold releaseLoad; try dsimp only
  (repeat' split) <;> simp
@[simp] theorem giveUp_pending (k : LoadKind) (s : State) : (giveUp k s).pending = s.pending := by
  unfold giveUp; try dsimp only
  (repeat' split) <;> simp
@[simp] theorem giveUp_due (k : LoadKind) (s : State) : (giveUp k s).due = s.due := by
  unfold giveUp; try dsimp only
  (repeat' split) <;> simp
@[simp] theorem giveUp_phase (k : LoadKind) (s : State) : (giveUp k s).phase = s.phase := by
  unfold giveUp; try dsimp only
  (repeat' split) <;> simp
@[simp] theorem giveUp_inputs (k : LoadKind) (s : State) : (giveUp k s).inputs = s.inputs := by
  unfold giveUp; try dsimp only
  (repeat' split) <;> simp
@[simp] theorem giveUp_outputs (k : LoadKind) (s : State) : (giveUp k s).outputs = s.outputs := by
  unfold giveUp; try dsimp only
  (repeat' split) <;> simp
@[simp] theorem giveUp_params (k : LoadKind) (s : State) : (giveUp k s).params = s.params := by
  unfold giveUp; try dsimp only
  (repeat' split) <;> simp
@[simp] theorem giveUp_cnu (k : LoadKind) (s : State) : (giveUp k s).cnu = s.cnu := by
  unfold giveUp; try dsimp only
  (repeat' split) <;> simp
@[simp] theorem giveUp_cru (k : LoadKind) (s : State) : (giveUp k s).cru = s.cru := by
  unfold giveUp; try dsimp only
  (repeat' split) <;> simp
@[simp] theorem giveUp_cca (k : LoadKind) (s : State) : (giveUp k s).cca = s.cca := by
  unfold giveUp; try dsimp only
  (repeat' split) <;> simp
@[simp] theorem giveUp_vsq (k : LoadKind) (s : State) : (giveUp k s).vsq = s.vsq := by
  unfold giveUp; try dsimp only
  (repeat' split) <;> simp
@[simp] theorem giveUp_mxd (k : LoadKind) (s : State) : (giveUp k s).mxd = s.mxd := by
  unfold giveUp; try dsimp only
  (repeat' split) <;> simp
@[simp] theorem giveUp_rfc (k : LoadKind) (s : State) : (giveUp k s).rfc = s.rfc := by
  unfold giveUp; try dsimp only
  (repeat' split) <;> simp
@[simp] theorem giveUp_ssu (k : LoadKind) (s : State) : (giveUp k s).ssu = s.ssu := by
  unfold giveUp; try dsimp only
  (repeat' split) <;> simp
@[simp] theorem giveUp_lbu_peers (k : LoadKind) (s : State) : (giveUp k s).lbu.peers = s.lbu.peers := by
  unfold giveUp; try dsimp only
  (repeat' split) <;> simp
@[simp] theorem giveUp_lbu_ignored (k : LoadKind) (s : State) : (giveUp k s).lbu.ignored = s.lbu.ignored := by
  unfold giveUp; try dsimp only
  (repeat' split) <;> simp
@[simp] theorem giveUp_lbu_objectSum (k : LoadKind) (s : State) : (giveUp k s).lbu.objectSum = s.lbu.objectSum := by
  unfold giveUp; try dsimp only
  (repeat' split) <;> simp
@[simp] theorem giveUp_lnk_state (k : LoadKind) (s : State) : (giveUp k s).lnk.state = s.lnk.state := by
  unfold giveUp; try dsimp only
  (repeat' split) <;> simp
@[simp] theorem giveUp_lnk_heard (k : LoadKind) (s : State) : (giveUp k s).lnk.heard = s.lnk.heard := by
  unfold giveUp; try dsimp only
  (repeat' split) <;> simp
@[simp] theorem giveUp_lnk_acknowledged (k : LoadKind) (s : State) : (giveUp k s).lnk.acknowledged = s.lnk.acknowledged := by
  unfold giveUp; try dsimp only
  (repeat' split) <;> simp
@[simp] theorem giveUp_lnk_isolationTimer (k : LoadKind) (s : State) : (giveUp k s).lnk.isolationTimer = s.lnk.isolationTimer := by
  unfold giveUp; try dsimp only
  (repeat' split) <;> simp
@[simp] theorem giveUp_lnk_silentTimer (k : LoadKind) (s : State) : (giveUp k s).lnk.silentTimer = s.lnk.silentTimer := by
  unfold giveUp; try dsimp only
  (repeat' split) <;> simp
@[simp] theorem giveUp_lnk_failures (k : LoadKind) (s : State) : (giveUp k s).lnk.failures = s.lnk.failures := by
  unfold giveUp; try dsimp only
  (repeat' split) <;> simp
@[simp] theorem giveUp_lnk_unknownFrames (k : LoadKind) (s : State) : (giveUp k s).lnk.unknownFrames = s.lnk.unknownFrames := by
  unfold giveUp; try dsimp only
  (repeat' split) <;> simp
@[simp] theorem giveUp_lnk_droppedFrames (k : LoadKind) (s : State) : (giveUp k s).lnk.droppedFrames = s.lnk.droppedFrames := by
  unfold giveUp; try dsimp only
  (repeat' split) <;> simp
@[simp] theorem giveUp_lnk_silentEntries (k : LoadKind) (s : State) : (giveUp k s).lnk.silentEntries = s.lnk.silentEntries := by
  unfold giveUp; try dsimp only
  (repeat' split) <;> simp
@[simp] theorem raiseClass_pending (k : LoadKind) (c : ClaimClass) (s : State) : (raiseClass k c s).pending = s.pending := by
  unfold raiseClass; try dsimp only
  (repeat' split) <;> simp
@[simp] theorem raiseClass_due (k : LoadKind) (c : ClaimClass) (s : State) : (raiseClass k c s).due = s.due := by
  unfold raiseClass; try dsimp only
  (repeat' split) <;> simp
@[simp] theorem raiseClass_phase (k : LoadKind) (c : ClaimClass) (s : State) : (raiseClass k c s).phase = s.phase := by
  unfold raiseClass; try dsimp only
  (repeat' split) <;> simp
@[simp] theorem raiseClass_inputs (k : LoadKind) (c : ClaimClass) (s : State) : (raiseClass k c s).inputs = s.inputs := by
  unfold raiseClass; try dsimp only
  (repeat' split) <;> simp
@[simp] theorem raiseClass_outputs (k : LoadKind) (c : ClaimClass) (s : State) : (raiseClass k c s).outputs = s.outputs := by
  unfold raiseClass; try dsimp only
  (repeat' split) <;> simp
@[simp] theorem raiseClass_params (k : LoadKind) (c : ClaimClass) (s : State) : (raiseClass k c s).params = s.params := by
  unfold raiseClass; try dsimp only
  (repeat' split) <;> simp
@[simp] theorem raiseClass_cnu (k : LoadKind) (c : ClaimClass) (s : State) : (raiseClass k c s).cnu = s.cnu := by
  unfold raiseClass; try dsimp only
  (repeat' split) <;> simp
@[simp] theorem raiseClass_cru (k : LoadKind) (c : ClaimClass) (s : State) : (raiseClass k c s).cru = s.cru := by
  unfold raiseClass; try dsimp only
  (repeat' split) <;> simp
@[simp] theorem raiseClass_cca (k : LoadKind) (c : ClaimClass) (s : State) : (raiseClass k c s).cca = s.cca := by
  unfold raiseClass; try dsimp only
  (repeat' split) <;> simp
@[simp] theorem raiseClass_vsq (k : LoadKind) (c : ClaimClass) (s : State) : (raiseClass k c s).vsq = s.vsq := by
  unfold raiseClass; try dsimp only
  (repeat' split) <;> simp
@[simp] theorem raiseClass_mxd (k : LoadKind) (c : ClaimClass) (s : State) : (raiseClass k c s).mxd = s.mxd := by
  unfold raiseClass; try dsimp only
  (repeat' split) <;> simp
@[simp] theorem raiseClass_rfc (k : LoadKind) (c : ClaimClass) (s : State) : (raiseClass k c s).rfc = s.rfc := by
  unfold raiseClass; try dsimp only
  (repeat' split) <;> simp
@[simp] theorem raiseClass_ssu (k : LoadKind) (c : ClaimClass) (s : State) : (raiseClass k c s).ssu = s.ssu := by
  unfold raiseClass; try dsimp only
  (repeat' split) <;> simp
@[simp] theorem raiseClass_lbu_peers (k : LoadKind) (c : ClaimClass) (s : State) : (raiseClass k c s).lbu.peers = s.lbu.peers := by
  unfold raiseClass; try dsimp only
  (repeat' split) <;> simp
@[simp] theorem raiseClass_lbu_claimCounter (k : LoadKind) (c : ClaimClass) (s : State) : (raiseClass k c s).lbu.claimCounter = s.lbu.claimCounter := by
  unfold raiseClass; try dsimp only
  (repeat' split) <;> simp
@[simp] theorem raiseClass_lbu_ignored (k : LoadKind) (c : ClaimClass) (s : State) : (raiseClass k c s).lbu.ignored = s.lbu.ignored := by
  unfold raiseClass; try dsimp only
  (repeat' split) <;> simp
@[simp] theorem raiseClass_lbu_objectSum (k : LoadKind) (c : ClaimClass) (s : State) : (raiseClass k c s).lbu.objectSum = s.lbu.objectSum := by
  unfold raiseClass; try dsimp only
  (repeat' split) <;> simp
@[simp] theorem raiseClass_lbu_agenda (k : LoadKind) (c : ClaimClass) (s : State) : (raiseClass k c s).lbu.agenda = s.lbu.agenda := by
  unfold raiseClass; try dsimp only
  (repeat' split) <;> simp
@[simp] theorem raiseClass_lnk_state (k : LoadKind) (c : ClaimClass) (s : State) : (raiseClass k c s).lnk.state = s.lnk.state := by
  unfold raiseClass; try dsimp only
  (repeat' split) <;> simp
@[simp] theorem raiseClass_lnk_heard (k : LoadKind) (c : ClaimClass) (s : State) : (raiseClass k c s).lnk.heard = s.lnk.heard := by
  unfold raiseClass; try dsimp only
  (repeat' split) <;> simp
@[simp] theorem raiseClass_lnk_acknowledged (k : LoadKind) (c : ClaimClass) (s : State) : (raiseClass k c s).lnk.acknowledged = s.lnk.acknowledged := by
  unfold raiseClass; try dsimp only
  (repeat' split) <;> simp
@[simp] theorem raiseClass_lnk_isolationTimer (k : LoadKind) (c : ClaimClass) (s : State) : (raiseClass k c s).lnk.isolationTimer = s.lnk.isolationTimer := by
  unfold raiseClass; try dsimp only
  (repeat' split) <;> simp
@[simp] theorem raiseClass_lnk_change (k : LoadKind) (c : ClaimClass) (s : State) : (raiseClass k c s).lnk.change = s.lnk.change := by
  unfold raiseClass; try dsimp only
  (repeat' split) <;> simp
@[simp] theorem raiseClass_lnk_periodTimer (k : LoadKind) (c : ClaimClass) (s : State) : (raiseClass k c s).lnk.periodTimer = s.lnk.periodTimer := by
  unfold raiseClass; try dsimp only
  (repeat' split) <;> simp
@[simp] theorem raiseClass_lnk_silentTimer (k : LoadKind) (c : ClaimClass) (s : State) : (raiseClass k c s).lnk.silentTimer = s.lnk.silentTimer := by
  unfold raiseClass; try dsimp only
  (repeat' split) <;> simp
@[simp] theorem raiseClass_lnk_failures (k : LoadKind) (c : ClaimClass) (s : State) : (raiseClass k c s).lnk.failures = s.lnk.failures := by
  unfold raiseClass; try dsimp only
  (repeat' split) <;> simp
@[simp] theorem raiseClass_lnk_unknownFrames (k : LoadKind) (c : ClaimClass) (s : State) : (raiseClass k c s).lnk.unknownFrames = s.lnk.unknownFrames := by
  unfold raiseClass; try dsimp only
  (repeat' split) <;> simp
@[simp] theorem raiseClass_lnk_droppedFrames (k : LoadKind) (c : ClaimClass) (s : State) : (raiseClass k c s).lnk.droppedFrames = s.lnk.droppedFrames := by
  unfold raiseClass; try dsimp only
  (repeat' split) <;> simp
@[simp] theorem raiseClass_lnk_silentEntries (k : LoadKind) (c : ClaimClass) (s : State) : (raiseClass k c s).lnk.silentEntries = s.lnk.silentEntries := by
  unfold raiseClass; try dsimp only
  (repeat' split) <;> simp
@[simp] theorem lowerAmount_pending (k : LoadKind) (a : Nat) (s : State) : (lowerAmount k a s).pending = s.pending := by
  unfold lowerAmount; try dsimp only
  (repeat' split) <;> simp
@[simp] theorem lowerAmount_due (k : LoadKind) (a : Nat) (s : State) : (lowerAmount k a s).due = s.due := by
  unfold lowerAmount; try dsimp only
  (repeat' split) <;> simp
@[simp] theorem lowerAmount_phase (k : LoadKind) (a : Nat) (s : State) : (lowerAmount k a s).phase = s.phase := by
  unfold lowerAmount; try dsimp only
  (repeat' split) <;> simp
@[simp] theorem lowerAmount_inputs (k : LoadKind) (a : Nat) (s : State) : (lowerAmount k a s).inputs = s.inputs := by
  unfold lowerAmount; try dsimp only
  (repeat' split) <;> simp
@[simp] theorem lowerAmount_outputs (k : LoadKind) (a : Nat) (s : State) : (lowerAmount k a s).outputs = s.outputs := by
  unfold lowerAmount; try dsimp only
  (repeat' split) <;> simp
@[simp] theorem lowerAmount_params (k : LoadKind) (a : Nat) (s : State) : (lowerAmount k a s).params = s.params := by
  unfold lowerAmount; try dsimp only
  (repeat' split) <;> simp
@[simp] theorem lowerAmount_cnu (k : LoadKind) (a : Nat) (s : State) : (lowerAmount k a s).cnu = s.cnu := by
  unfold lowerAmount; try dsimp only
  (repeat' split) <;> simp
@[simp] theorem lowerAmount_cru (k : LoadKind) (a : Nat) (s : State) : (lowerAmount k a s).cru = s.cru := by
  unfold lowerAmount; try dsimp only
  (repeat' split) <;> simp
@[simp] theorem lowerAmount_cca (k : LoadKind) (a : Nat) (s : State) : (lowerAmount k a s).cca = s.cca := by
  unfold lowerAmount; try dsimp only
  (repeat' split) <;> simp
@[simp] theorem lowerAmount_vsq (k : LoadKind) (a : Nat) (s : State) : (lowerAmount k a s).vsq = s.vsq := by
  unfold lowerAmount; try dsimp only
  (repeat' split) <;> simp
@[simp] theorem lowerAmount_mxd (k : LoadKind) (a : Nat) (s : State) : (lowerAmount k a s).mxd = s.mxd := by
  unfold lowerAmount; try dsimp only
  (repeat' split) <;> simp
@[simp] theorem lowerAmount_rfc (k : LoadKind) (a : Nat) (s : State) : (lowerAmount k a s).rfc = s.rfc := by
  unfold lowerAmount; try dsimp only
  (repeat' split) <;> simp
@[simp] theorem lowerAmount_ssu (k : LoadKind) (a : Nat) (s : State) : (lowerAmount k a s).ssu = s.ssu := by
  unfold lowerAmount; try dsimp only
  (repeat' split) <;> simp
@[simp] theorem lowerAmount_lbu_peers (k : LoadKind) (a : Nat) (s : State) : (lowerAmount k a s).lbu.peers = s.lbu.peers := by
  unfold lowerAmount; try dsimp only
  (repeat' split) <;> simp
@[simp] theorem lowerAmount_lbu_ignored (k : LoadKind) (a : Nat) (s : State) : (lowerAmount k a s).lbu.ignored = s.lbu.ignored := by
  unfold lowerAmount; try dsimp only
  (repeat' split) <;> simp
@[simp] theorem lowerAmount_lbu_objectSum (k : LoadKind) (a : Nat) (s : State) : (lowerAmount k a s).lbu.objectSum = s.lbu.objectSum := by
  unfold lowerAmount; try dsimp only
  (repeat' split) <;> simp
@[simp] theorem lowerAmount_lnk_state (k : LoadKind) (a : Nat) (s : State) : (lowerAmount k a s).lnk.state = s.lnk.state := by
  unfold lowerAmount; try dsimp only
  (repeat' split) <;> simp
@[simp] theorem lowerAmount_lnk_heard (k : LoadKind) (a : Nat) (s : State) : (lowerAmount k a s).lnk.heard = s.lnk.heard := by
  unfold lowerAmount; try dsimp only
  (repeat' split) <;> simp
@[simp] theorem lowerAmount_lnk_acknowledged (k : LoadKind) (a : Nat) (s : State) : (lowerAmount k a s).lnk.acknowledged = s.lnk.acknowledged := by
  unfold lowerAmount; try dsimp only
  (repeat' split) <;> simp
@[simp] theorem lowerAmount_lnk_isolationTimer (k : LoadKind) (a : Nat) (s : State) : (lowerAmount k a s).lnk.isolationTimer = s.lnk.isolationTimer := by
  unfold lowerAmount; try dsimp only
  (repeat' split) <;> simp
@[simp] theorem lowerAmount_lnk_silentTimer (k : LoadKind) (a : Nat) (s : State) : (lowerAmount k a s).lnk.silentTimer = s.lnk.silentTimer := by
  unfold lowerAmount; try dsimp only
  (repeat' split) <;> simp
@[simp] theorem lowerAmount_lnk_failures (k : LoadKind) (a : Nat) (s : State) : (lowerAmount k a s).lnk.failures = s.lnk.failures := by
  unfold lowerAmount; try dsimp only
  (repeat' split) <;> simp
@[simp] theorem lowerAmount_lnk_unknownFrames (k : LoadKind) (a : Nat) (s : State) : (lowerAmount k a s).lnk.unknownFrames = s.lnk.unknownFrames := by
  unfold lowerAmount; try dsimp only
  (repeat' split) <;> simp
@[simp] theorem lowerAmount_lnk_droppedFrames (k : LoadKind) (a : Nat) (s : State) : (lowerAmount k a s).lnk.droppedFrames = s.lnk.droppedFrames := by
  unfold lowerAmount; try dsimp only
  (repeat' split) <;> simp
@[simp] theorem lowerAmount_lnk_silentEntries (k : LoadKind) (a : Nat) (s : State) : (lowerAmount k a s).lnk.silentEntries = s.lnk.silentEntries := by
  unfold lowerAmount; try dsimp only
  (repeat' split) <;> simp
@[simp] theorem claimEnded_pending (k : LoadKind) (q : Byte) (b : Bool) (s : State) : (claimEnded k q b s).pending = s.pending := by
  unfold claimEnded; try dsimp only
  (repeat' split) <;> simp
@[simp] theorem claimEnded_due (k : LoadKind) (q : Byte) (b : Bool) (s : State) : (claimEnded k q b s).due = s.due := by
  unfold claimEnded; try dsimp only
  (repeat' split) <;> simp
@[simp] theorem claimEnded_phase (k : LoadKind) (q : Byte) (b : Bool) (s : State) : (claimEnded k q b s).phase = s.phase := by
  unfold claimEnded; try dsimp only
  (repeat' split) <;> simp
@[simp] theorem claimEnded_inputs (k : LoadKind) (q : Byte) (b : Bool) (s : State) : (claimEnded k q b s).inputs = s.inputs := by
  unfold claimEnded; try dsimp only
  (repeat' split) <;> simp
@[simp] theorem claimEnded_outputs (k : LoadKind) (q : Byte) (b : Bool) (s : State) : (claimEnded k q b s).outputs = s.outputs := by
  unfold claimEnded; try dsimp only
  (repeat' split) <;> simp
@[simp] theorem claimEnded_params (k : LoadKind) (q : Byte) (b : Bool) (s : State) : (claimEnded k q b s).params = s.params := by
  unfold claimEnded; try dsimp only
  (repeat' split) <;> simp
@[simp] theorem claimEnded_cnu (k : LoadKind) (q : Byte) (b : Bool) (s : State) : (claimEnded k q b s).cnu = s.cnu := by
  unfold claimEnded; try dsimp only
  (repeat' split) <;> simp
@[simp] theorem claimEnded_cru (k : LoadKind) (q : Byte) (b : Bool) (s : State) : (claimEnded k q b s).cru = s.cru := by
  unfold claimEnded; try dsimp only
  (repeat' split) <;> simp
@[simp] theorem claimEnded_cca (k : LoadKind) (q : Byte) (b : Bool) (s : State) : (claimEnded k q b s).cca = s.cca := by
  unfold claimEnded; try dsimp only
  (repeat' split) <;> simp
@[simp] theorem claimEnded_vsq (k : LoadKind) (q : Byte) (b : Bool) (s : State) : (claimEnded k q b s).vsq = s.vsq := by
  unfold claimEnded; try dsimp only
  (repeat' split) <;> simp
@[simp] theorem claimEnded_mxd (k : LoadKind) (q : Byte) (b : Bool) (s : State) : (claimEnded k q b s).mxd = s.mxd := by
  unfold claimEnded; try dsimp only
  (repeat' split) <;> simp
@[simp] theorem claimEnded_rfc (k : LoadKind) (q : Byte) (b : Bool) (s : State) : (claimEnded k q b s).rfc = s.rfc := by
  unfold claimEnded; try dsimp only
  (repeat' split) <;> simp
@[simp] theorem claimEnded_ssu (k : LoadKind) (q : Byte) (b : Bool) (s : State) : (claimEnded k q b s).ssu = s.ssu := by
  unfold claimEnded; try dsimp only
  (repeat' split) <;> simp
@[simp] theorem claimEnded_lbu_peers (k : LoadKind) (q : Byte) (b : Bool) (s : State) : (claimEnded k q b s).lbu.peers = s.lbu.peers := by
  unfold claimEnded; try dsimp only
  (repeat' split) <;> simp
@[simp] theorem claimEnded_lbu_ignored (k : LoadKind) (q : Byte) (b : Bool) (s : State) : (claimEnded k q b s).lbu.ignored = s.lbu.ignored := by
  unfold claimEnded; try dsimp only
  (repeat' split) <;> simp
@[simp] theorem claimEnded_lbu_objectSum (k : LoadKind) (q : Byte) (b : Bool) (s : State) : (claimEnded k q b s).lbu.objectSum = s.lbu.objectSum := by
  unfold claimEnded; try dsimp only
  (repeat' split) <;> simp
@[simp] theorem claimEnded_lnk_state (k : LoadKind) (q : Byte) (b : Bool) (s : State) : (claimEnded k q b s).lnk.state = s.lnk.state := by
  unfold claimEnded; try dsimp only
  (repeat' split) <;> simp
@[simp] theorem claimEnded_lnk_heard (k : LoadKind) (q : Byte) (b : Bool) (s : State) : (claimEnded k q b s).lnk.heard = s.lnk.heard := by
  unfold claimEnded; try dsimp only
  (repeat' split) <;> simp
@[simp] theorem claimEnded_lnk_acknowledged (k : LoadKind) (q : Byte) (b : Bool) (s : State) : (claimEnded k q b s).lnk.acknowledged = s.lnk.acknowledged := by
  unfold claimEnded; try dsimp only
  (repeat' split) <;> simp
@[simp] theorem claimEnded_lnk_isolationTimer (k : LoadKind) (q : Byte) (b : Bool) (s : State) : (claimEnded k q b s).lnk.isolationTimer = s.lnk.isolationTimer := by
  unfold claimEnded; try dsimp only
  (repeat' split) <;> simp
@[simp] theorem claimEnded_lnk_silentTimer (k : LoadKind) (q : Byte) (b : Bool) (s : State) : (claimEnded k q b s).lnk.silentTimer = s.lnk.silentTimer := by
  unfold claimEnded; try dsimp only
  (repeat' split) <;> simp
@[simp] theorem claimEnded_lnk_failures (k : LoadKind) (q : Byte) (b : Bool) (s : State) : (claimEnded k q b s).lnk.failures = s.lnk.failures := by
  unfold claimEnded; try dsimp only
  (repeat' split) <;> simp
@[simp] theorem claimEnded_lnk_unknownFrames (k : LoadKind) (q : Byte) (b : Bool) (s : State) : (claimEnded k q b s).lnk.unknownFrames = s.lnk.unknownFrames := by
  unfold claimEnded; try dsimp only
  (repeat' split) <;> simp
@[simp] theorem claimEnded_lnk_droppedFrames (k : LoadKind) (q : Byte) (b : Bool) (s : State) : (claimEnded k q b s).lnk.droppedFrames = s.lnk.droppedFrames := by
  unfold claimEnded; try dsimp only
  (repeat' split) <;> simp
@[simp] theorem claimEnded_lnk_silentEntries (k : LoadKind) (q : Byte) (b : Bool) (s : State) : (claimEnded k q b s).lnk.silentEntries = s.lnk.silentEntries := by
  unfold claimEnded; try dsimp only
  (repeat' split) <;> simp
@[simp] theorem decideProposed_pending (k : LoadKind) (s : State) : (decideProposed k s).pending = s.pending := by
  unfold decideProposed; try dsimp only
  (repeat' split) <;> simp
@[simp] theorem decideProposed_due (k : LoadKind) (s : State) : (decideProposed k s).due = s.due := by
  unfold decideProposed; try dsimp only
  (repeat' split) <;> simp
@[simp] theorem decideProposed_phase (k : LoadKind) (s : State) : (decideProposed k s).phase = s.phase := by
  unfold decideProposed; try dsimp only
  (repeat' split) <;> simp
@[simp] theorem decideProposed_inputs (k : LoadKind) (s : State) : (decideProposed k s).inputs = s.inputs := by
  unfold decideProposed; try dsimp only
  (repeat' split) <;> simp
@[simp] theorem decideProposed_outputs (k : LoadKind) (s : State) : (decideProposed k s).outputs = s.outputs := by
  unfold decideProposed; try dsimp only
  (repeat' split) <;> simp
@[simp] theorem decideProposed_params (k : LoadKind) (s : State) : (decideProposed k s).params = s.params := by
  unfold decideProposed; try dsimp only
  (repeat' split) <;> simp
@[simp] theorem decideProposed_cnu (k : LoadKind) (s : State) : (decideProposed k s).cnu = s.cnu := by
  unfold decideProposed; try dsimp only
  (repeat' split) <;> simp
@[simp] theorem decideProposed_cru (k : LoadKind) (s : State) : (decideProposed k s).cru = s.cru := by
  unfold decideProposed; try dsimp only
  (repeat' split) <;> simp
@[simp] theorem decideProposed_cca (k : LoadKind) (s : State) : (decideProposed k s).cca = s.cca := by
  unfold decideProposed; try dsimp only
  (repeat' split) <;> simp
@[simp] theorem decideProposed_vsq (k : LoadKind) (s : State) : (decideProposed k s).vsq = s.vsq := by
  unfold decideProposed; try dsimp only
  (repeat' split) <;> simp
@[simp] theorem decideProposed_mxd (k : LoadKind) (s : State) : (decideProposed k s).mxd = s.mxd := by
  unfold decideProposed; try dsimp only
  (repeat' split) <;> simp
@[simp] theorem decideProposed_rfc (k : LoadKind) (s : State) : (decideProposed k s).rfc = s.rfc := by
  unfold decideProposed; try dsimp only
  (repeat' split) <;> simp
@[simp] theorem decideProposed_ssu (k : LoadKind) (s : State) : (decideProposed k s).ssu = s.ssu := by
  unfold decideProposed; try dsimp only
  (repeat' split) <;> simp
@[simp] theorem decideProposed_lbu_peers (k : LoadKind) (s : State) : (decideProposed k s).lbu.peers = s.lbu.peers := by
  unfold decideProposed; try dsimp only
  (repeat' split) <;> simp
@[simp] theorem decideProposed_lbu_ignored (k : LoadKind) (s : State) : (decideProposed k s).lbu.ignored = s.lbu.ignored := by
  unfold decideProposed; try dsimp only
  (repeat' split) <;> simp
@[simp] theorem decideProposed_lbu_objectSum (k : LoadKind) (s : State) : (decideProposed k s).lbu.objectSum = s.lbu.objectSum := by
  unfold decideProposed; try dsimp only
  (repeat' split) <;> simp
@[simp] theorem decideProposed_lnk_state (k : LoadKind) (s : State) : (decideProposed k s).lnk.state = s.lnk.state := by
  unfold decideProposed; try dsimp only
  (repeat' split) <;> simp
@[simp] theorem decideProposed_lnk_heard (k : LoadKind) (s : State) : (decideProposed k s).lnk.heard = s.lnk.heard := by
  unfold decideProposed; try dsimp only
  (repeat' split) <;> simp
@[simp] theorem decideProposed_lnk_acknowledged (k : LoadKind) (s : State) : (decideProposed k s).lnk.acknowledged = s.lnk.acknowledged := by
  unfold decideProposed; try dsimp only
  (repeat' split) <;> simp
@[simp] theorem decideProposed_lnk_isolationTimer (k : LoadKind) (s : State) : (decideProposed k s).lnk.isolationTimer = s.lnk.isolationTimer := by
  unfold decideProposed; try dsimp only
  (repeat' split) <;> simp
@[simp] theorem decideProposed_lnk_silentTimer (k : LoadKind) (s : State) : (decideProposed k s).lnk.silentTimer = s.lnk.silentTimer := by
  unfold decideProposed; try dsimp only
  (repeat' split) <;> simp
@[simp] theorem decideProposed_lnk_failures (k : LoadKind) (s : State) : (decideProposed k s).lnk.failures = s.lnk.failures := by
  unfold decideProposed; try dsimp only
  (repeat' split) <;> simp
@[simp] theorem decideProposed_lnk_unknownFrames (k : LoadKind) (s : State) : (decideProposed k s).lnk.unknownFrames = s.lnk.unknownFrames := by
  unfold decideProposed; try dsimp only
  (repeat' split) <;> simp
@[simp] theorem decideProposed_lnk_droppedFrames (k : LoadKind) (s : State) : (decideProposed k s).lnk.droppedFrames = s.lnk.droppedFrames := by
  unfold decideProposed; try dsimp only
  (repeat' split) <;> simp
@[simp] theorem decideProposed_lnk_silentEntries (k : LoadKind) (s : State) : (decideProposed k s).lnk.silentEntries = s.lnk.silentEntries := by
  unfold decideProposed; try dsimp only
  (repeat' split) <;> simp
@[simp] theorem defeatClaim_pending (k : LoadKind) (s : State) : (defeatClaim k s).pending = s.pending := by
  unfold defeatClaim; try dsimp only
  (repeat' split) <;> simp
@[simp] theorem defeatClaim_due (k : LoadKind) (s : State) : (defeatClaim k s).due = s.due := by
  unfold defeatClaim; try dsimp only
  (repeat' split) <;> simp
@[simp] theorem defeatClaim_phase (k : LoadKind) (s : State) : (defeatClaim k s).phase = s.phase := by
  unfold defeatClaim; try dsimp only
  (repeat' split) <;> simp
@[simp] theorem defeatClaim_inputs (k : LoadKind) (s : State) : (defeatClaim k s).inputs = s.inputs := by
  unfold defeatClaim; try dsimp only
  (repeat' split) <;> simp
@[simp] theorem defeatClaim_outputs (k : LoadKind) (s : State) : (defeatClaim k s).outputs = s.outputs := by
  unfold defeatClaim; try dsimp only
  (repeat' split) <;> simp
@[simp] theorem defeatClaim_params (k : LoadKind) (s : State) : (defeatClaim k s).params = s.params := by
  unfold defeatClaim; try dsimp only
  (repeat' split) <;> simp
@[simp] theorem defeatClaim_cnu (k : LoadKind) (s : State) : (defeatClaim k s).cnu = s.cnu := by
  unfold defeatClaim; try dsimp only
  (repeat' split) <;> simp
@[simp] theorem defeatClaim_cru (k : LoadKind) (s : State) : (defeatClaim k s).cru = s.cru := by
  unfold defeatClaim; try dsimp only
  (repeat' split) <;> simp
@[simp] theorem defeatClaim_cca (k : LoadKind) (s : State) : (defeatClaim k s).cca = s.cca := by
  unfold defeatClaim; try dsimp only
  (repeat' split) <;> simp
@[simp] theorem defeatClaim_vsq (k : LoadKind) (s : State) : (defeatClaim k s).vsq = s.vsq := by
  unfold defeatClaim; try dsimp only
  (repeat' split) <;> simp
@[simp] theorem defeatClaim_mxd (k : LoadKind) (s : State) : (defeatClaim k s).mxd = s.mxd := by
  unfold defeatClaim; try dsimp only
  (repeat' split) <;> simp
@[simp] theorem defeatClaim_rfc (k : LoadKind) (s : State) : (defeatClaim k s).rfc = s.rfc := by
  unfold defeatClaim; try dsimp only
  (repeat' split) <;> simp
@[simp] theorem defeatClaim_ssu (k : LoadKind) (s : State) : (defeatClaim k s).ssu = s.ssu := by
  unfold defeatClaim; try dsimp only
  (repeat' split) <;> simp
@[simp] theorem defeatClaim_lbu_peers (k : LoadKind) (s : State) : (defeatClaim k s).lbu.peers = s.lbu.peers := by
  unfold defeatClaim; try dsimp only
  (repeat' split) <;> simp
@[simp] theorem defeatClaim_lbu_ignored (k : LoadKind) (s : State) : (defeatClaim k s).lbu.ignored = s.lbu.ignored := by
  unfold defeatClaim; try dsimp only
  (repeat' split) <;> simp
@[simp] theorem defeatClaim_lbu_objectSum (k : LoadKind) (s : State) : (defeatClaim k s).lbu.objectSum = s.lbu.objectSum := by
  unfold defeatClaim; try dsimp only
  (repeat' split) <;> simp
@[simp] theorem defeatClaim_lnk_state (k : LoadKind) (s : State) : (defeatClaim k s).lnk.state = s.lnk.state := by
  unfold defeatClaim; try dsimp only
  (repeat' split) <;> simp
@[simp] theorem defeatClaim_lnk_heard (k : LoadKind) (s : State) : (defeatClaim k s).lnk.heard = s.lnk.heard := by
  unfold defeatClaim; try dsimp only
  (repeat' split) <;> simp
@[simp] theorem defeatClaim_lnk_acknowledged (k : LoadKind) (s : State) : (defeatClaim k s).lnk.acknowledged = s.lnk.acknowledged := by
  unfold defeatClaim; try dsimp only
  (repeat' split) <;> simp
@[simp] theorem defeatClaim_lnk_isolationTimer (k : LoadKind) (s : State) : (defeatClaim k s).lnk.isolationTimer = s.lnk.isolationTimer := by
  unfold defeatClaim; try dsimp only
  (repeat' split) <;> simp
@[simp] theorem defeatClaim_lnk_silentTimer (k : LoadKind) (s : State) : (defeatClaim k s).lnk.silentTimer = s.lnk.silentTimer := by
  unfold defeatClaim; try dsimp only
  (repeat' split) <;> simp
@[simp] theorem defeatClaim_lnk_failures (k : LoadKind) (s : State) : (defeatClaim k s).lnk.failures = s.lnk.failures := by
  unfold defeatClaim; try dsimp only
  (repeat' split) <;> simp
@[simp] theorem defeatClaim_lnk_unknownFrames (k : LoadKind) (s : State) : (defeatClaim k s).lnk.unknownFrames = s.lnk.unknownFrames := by
  unfold defeatClaim; try dsimp only
  (repeat' split) <;> simp
@[simp] theorem defeatClaim_lnk_droppedFrames (k : LoadKind) (s : State) : (defeatClaim k s).lnk.droppedFrames = s.lnk.droppedFrames := by
  unfold defeatClaim; try dsimp only
  (repeat' split) <;> simp
@[simp] theorem defeatClaim_lnk_silentEntries (k : LoadKind) (s : State) : (defeatClaim k s).lnk.silentEntries = s.lnk.silentEntries := by
  unfold defeatClaim; try dsimp only
  (repeat' split) <;> simp
@[simp] theorem takeObject_pending (x q : Byte) (m : Half) (s : State) : (takeObject x q m s).pending = s.pending := by
  unfold takeObject; try dsimp only
  (repeat' split) <;> simp
@[simp] theorem takeObject_due (x q : Byte) (m : Half) (s : State) : (takeObject x q m s).due = s.due := by
  unfold takeObject; try dsimp only
  (repeat' split) <;> simp
@[simp] theorem takeObject_phase (x q : Byte) (m : Half) (s : State) : (takeObject x q m s).phase = s.phase := by
  unfold takeObject; try dsimp only
  (repeat' split) <;> simp
@[simp] theorem takeObject_inputs (x q : Byte) (m : Half) (s : State) : (takeObject x q m s).inputs = s.inputs := by
  unfold takeObject; try dsimp only
  (repeat' split) <;> simp
@[simp] theorem takeObject_outputs (x q : Byte) (m : Half) (s : State) : (takeObject x q m s).outputs = s.outputs := by
  unfold takeObject; try dsimp only
  (repeat' split) <;> simp
@[simp] theorem takeObject_params (x q : Byte) (m : Half) (s : State) : (takeObject x q m s).params = s.params := by
  unfold takeObject; try dsimp only
  (repeat' split) <;> simp
@[simp] theorem takeObject_cnu (x q : Byte) (m : Half) (s : State) : (takeObject x q m s).cnu = s.cnu := by
  unfold takeObject; try dsimp only
  (repeat' split) <;> simp
@[simp] theorem takeObject_cru (x q : Byte) (m : Half) (s : State) : (takeObject x q m s).cru = s.cru := by
  unfold takeObject; try dsimp only
  (repeat' split) <;> simp
@[simp] theorem takeObject_cca (x q : Byte) (m : Half) (s : State) : (takeObject x q m s).cca = s.cca := by
  unfold takeObject; try dsimp only
  (repeat' split) <;> simp
@[simp] theorem takeObject_vsq (x q : Byte) (m : Half) (s : State) : (takeObject x q m s).vsq = s.vsq := by
  unfold takeObject; try dsimp only
  (repeat' split) <;> simp
@[simp] theorem takeObject_mxd (x q : Byte) (m : Half) (s : State) : (takeObject x q m s).mxd = s.mxd := by
  unfold takeObject; try dsimp only
  (repeat' split) <;> simp
@[simp] theorem takeObject_rfc (x q : Byte) (m : Half) (s : State) : (takeObject x q m s).rfc = s.rfc := by
  unfold takeObject; try dsimp only
  (repeat' split) <;> simp
@[simp] theorem takeObject_ssu (x q : Byte) (m : Half) (s : State) : (takeObject x q m s).ssu = s.ssu := by
  unfold takeObject; try dsimp only
  (repeat' split) <;> simp
@[simp] theorem takeObject_lbu_peers (x q : Byte) (m : Half) (s : State) : (takeObject x q m s).lbu.peers = s.lbu.peers := by
  unfold takeObject; try dsimp only
  (repeat' split) <;> simp
@[simp] theorem takeObject_lnk_state (x q : Byte) (m : Half) (s : State) : (takeObject x q m s).lnk.state = s.lnk.state := by
  unfold takeObject; try dsimp only
  (repeat' split) <;> simp
@[simp] theorem takeObject_lnk_heard (x q : Byte) (m : Half) (s : State) : (takeObject x q m s).lnk.heard = s.lnk.heard := by
  unfold takeObject; try dsimp only
  (repeat' split) <;> simp
@[simp] theorem takeObject_lnk_acknowledged (x q : Byte) (m : Half) (s : State) : (takeObject x q m s).lnk.acknowledged = s.lnk.acknowledged := by
  unfold takeObject; try dsimp only
  (repeat' split) <;> simp
@[simp] theorem takeObject_lnk_isolationTimer (x q : Byte) (m : Half) (s : State) : (takeObject x q m s).lnk.isolationTimer = s.lnk.isolationTimer := by
  unfold takeObject; try dsimp only
  (repeat' split) <;> simp
@[simp] theorem takeObject_lnk_silentTimer (x q : Byte) (m : Half) (s : State) : (takeObject x q m s).lnk.silentTimer = s.lnk.silentTimer := by
  unfold takeObject; try dsimp only
  (repeat' split) <;> simp
@[simp] theorem takeObject_lnk_failures (x q : Byte) (m : Half) (s : State) : (takeObject x q m s).lnk.failures = s.lnk.failures := by
  unfold takeObject; try dsimp only
  (repeat' split) <;> simp
@[simp] theorem takeObject_lnk_unknownFrames (x q : Byte) (m : Half) (s : State) : (takeObject x q m s).lnk.unknownFrames = s.lnk.unknownFrames := by
  unfold takeObject; try dsimp only
  (repeat' split) <;> simp
@[simp] theorem takeObject_lnk_droppedFrames (x q : Byte) (m : Half) (s : State) : (takeObject x q m s).lnk.droppedFrames = s.lnk.droppedFrames := by
  unfold takeObject; try dsimp only
  (repeat' split) <;> simp
@[simp] theorem takeObject_lnk_silentEntries (x q : Byte) (m : Half) (s : State) : (takeObject x q m s).lnk.silentEntries = s.lnk.silentEntries := by
  unfold takeObject; try dsimp only
  (repeat' split) <;> simp
@[simp] theorem decideSolo_pending (k : LoadKind) (s : State) : (decideSolo k s).pending = s.pending := by
  unfold decideSolo; try dsimp only
  (repeat' split) <;> simp
@[simp] theorem decideSolo_due (k : LoadKind) (s : State) : (decideSolo k s).due = s.due := by
  unfold decideSolo; try dsimp only
  (repeat' split) <;> simp
@[simp] theorem decideSolo_phase (k : LoadKind) (s : State) : (decideSolo k s).phase = s.phase := by
  unfold decideSolo; try dsimp only
  (repeat' split) <;> simp
@[simp] theorem decideSolo_inputs (k : LoadKind) (s : State) : (decideSolo k s).inputs = s.inputs := by
  unfold decideSolo; try dsimp only
  (repeat' split) <;> simp
@[simp] theorem decideSolo_outputs (k : LoadKind) (s : State) : (decideSolo k s).outputs = s.outputs := by
  unfold decideSolo; try dsimp only
  (repeat' split) <;> simp
@[simp] theorem decideSolo_params (k : LoadKind) (s : State) : (decideSolo k s).params = s.params := by
  unfold decideSolo; try dsimp only
  (repeat' split) <;> simp
@[simp] theorem decideSolo_cnu (k : LoadKind) (s : State) : (decideSolo k s).cnu = s.cnu := by
  unfold decideSolo; try dsimp only
  (repeat' split) <;> simp
@[simp] theorem decideSolo_cru (k : LoadKind) (s : State) : (decideSolo k s).cru = s.cru := by
  unfold decideSolo; try dsimp only
  (repeat' split) <;> simp
@[simp] theorem decideSolo_cca (k : LoadKind) (s : State) : (decideSolo k s).cca = s.cca := by
  unfold decideSolo; try dsimp only
  (repeat' split) <;> simp
@[simp] theorem decideSolo_vsq (k : LoadKind) (s : State) : (decideSolo k s).vsq = s.vsq := by
  unfold decideSolo; try dsimp only
  (repeat' split) <;> simp
@[simp] theorem decideSolo_mxd (k : LoadKind) (s : State) : (decideSolo k s).mxd = s.mxd := by
  unfold decideSolo; try dsimp only
  (repeat' split) <;> simp
@[simp] theorem decideSolo_rfc (k : LoadKind) (s : State) : (decideSolo k s).rfc = s.rfc := by
  unfold decideSolo; try dsimp only
  (repeat' split) <;> simp
@[simp] theorem decideSolo_ssu (k : LoadKind) (s : State) : (decideSolo k s).ssu = s.ssu := by
  unfold decideSolo; try dsimp only
  (repeat' split) <;> simp
@[simp] theorem decideSolo_lbu_peers (k : LoadKind) (s : State) : (decideSolo k s).lbu.peers = s.lbu.peers := by
  unfold decideSolo; try dsimp only
  (repeat' split) <;> simp
@[simp] theorem decideSolo_lbu_claimCounter (k : LoadKind) (s : State) : (decideSolo k s).lbu.claimCounter = s.lbu.claimCounter := by
  unfold decideSolo; try dsimp only
  (repeat' split) <;> simp
@[simp] theorem decideSolo_lbu_ignored (k : LoadKind) (s : State) : (decideSolo k s).lbu.ignored = s.lbu.ignored := by
  unfold decideSolo; try dsimp only
  (repeat' split) <;> simp
@[simp] theorem decideSolo_lbu_objectSum (k : LoadKind) (s : State) : (decideSolo k s).lbu.objectSum = s.lbu.objectSum := by
  unfold decideSolo; try dsimp only
  (repeat' split) <;> simp
@[simp] theorem decideSolo_lnk_state (k : LoadKind) (s : State) : (decideSolo k s).lnk.state = s.lnk.state := by
  unfold decideSolo; try dsimp only
  (repeat' split) <;> simp
@[simp] theorem decideSolo_lnk_heard (k : LoadKind) (s : State) : (decideSolo k s).lnk.heard = s.lnk.heard := by
  unfold decideSolo; try dsimp only
  (repeat' split) <;> simp
@[simp] theorem decideSolo_lnk_acknowledged (k : LoadKind) (s : State) : (decideSolo k s).lnk.acknowledged = s.lnk.acknowledged := by
  unfold decideSolo; try dsimp only
  (repeat' split) <;> simp
@[simp] theorem decideSolo_lnk_isolationTimer (k : LoadKind) (s : State) : (decideSolo k s).lnk.isolationTimer = s.lnk.isolationTimer := by
  unfold decideSolo; try dsimp only
  (repeat' split) <;> simp
@[simp] theorem decideSolo_lnk_silentTimer (k : LoadKind) (s : State) : (decideSolo k s).lnk.silentTimer = s.lnk.silentTimer := by
  unfold decideSolo; try dsimp only
  (repeat' split) <;> simp
@[simp] theorem decideSolo_lnk_failures (k : LoadKind) (s : State) : (decideSolo k s).lnk.failures = s.lnk.failures := by
  unfold decideSolo; try dsimp only
  (repeat' split) <;> simp
@[simp] theorem decideSolo_lnk_unknownFrames (k : LoadKind) (s : State) : (decideSolo k s).lnk.unknownFrames = s.lnk.unknownFrames := by
  unfold decideSolo; try dsimp only
  (repeat' split) <;> simp
@[simp] theorem decideSolo_lnk_droppedFrames (k : LoadKind) (s : State) : (decideSolo k s).lnk.droppedFrames = s.lnk.droppedFrames := by
  unfold decideSolo; try dsimp only
  (repeat' split) <;> simp
@[simp] theorem decideSolo_lnk_silentEntries (k : LoadKind) (s : State) : (decideSolo k s).lnk.silentEntries = s.lnk.silentEntries := by
  unfold decideSolo; try dsimp only
  (repeat' split) <;> simp
@[simp] theorem becomeIsolated_pending (s : State) : (becomeIsolated s).pending = s.pending := by
  unfold becomeIsolated; try dsimp only
  (repeat' split) <;> simp
@[simp] theorem becomeIsolated_due (s : State) : (becomeIsolated s).due = s.due := by
  unfold becomeIsolated; try dsimp only
  (repeat' split) <;> simp
@[simp] theorem becomeIsolated_phase (s : State) : (becomeIsolated s).phase = s.phase := by
  unfold becomeIsolated; try dsimp only
  (repeat' split) <;> simp
@[simp] theorem becomeIsolated_inputs (s : State) : (becomeIsolated s).inputs = s.inputs := by
  unfold becomeIsolated; try dsimp only
  (repeat' split) <;> simp
@[simp] theorem becomeIsolated_outputs (s : State) : (becomeIsolated s).outputs = s.outputs := by
  unfold becomeIsolated; try dsimp only
  (repeat' split) <;> simp
@[simp] theorem becomeIsolated_params (s : State) : (becomeIsolated s).params = s.params := by
  unfold becomeIsolated; try dsimp only
  (repeat' split) <;> simp
@[simp] theorem becomeIsolated_cnu (s : State) : (becomeIsolated s).cnu = s.cnu := by
  unfold becomeIsolated; try dsimp only
  (repeat' split) <;> simp
@[simp] theorem becomeIsolated_cru (s : State) : (becomeIsolated s).cru = s.cru := by
  unfold becomeIsolated; try dsimp only
  (repeat' split) <;> simp
@[simp] theorem becomeIsolated_cca (s : State) : (becomeIsolated s).cca = s.cca := by
  unfold becomeIsolated; try dsimp only
  (repeat' split) <;> simp
@[simp] theorem becomeIsolated_vsq (s : State) : (becomeIsolated s).vsq = s.vsq := by
  unfold becomeIsolated; try dsimp only
  (repeat' split) <;> simp
@[simp] theorem becomeIsolated_mxd (s : State) : (becomeIsolated s).mxd = s.mxd := by
  unfold becomeIsolated; try dsimp only
  (repeat' split) <;> simp
@[simp] theorem becomeIsolated_rfc (s : State) : (becomeIsolated s).rfc = s.rfc := by
  unfold becomeIsolated; try dsimp only
  (repeat' split) <;> simp
@[simp] theorem becomeIsolated_ssu (s : State) : (becomeIsolated s).ssu = s.ssu := by
  unfold becomeIsolated; try dsimp only
  (repeat' split) <;> simp
@[simp] theorem becomeIsolated_lbu_peers (s : State) : (becomeIsolated s).lbu.peers = s.lbu.peers := by
  unfold becomeIsolated; try dsimp only
  (repeat' split) <;> simp
@[simp] theorem becomeIsolated_lbu_ignored (s : State) : (becomeIsolated s).lbu.ignored = s.lbu.ignored := by
  unfold becomeIsolated; try dsimp only
  (repeat' split) <;> simp
@[simp] theorem becomeIsolated_lbu_objectSum (s : State) : (becomeIsolated s).lbu.objectSum = s.lbu.objectSum := by
  unfold becomeIsolated; try dsimp only
  (repeat' split) <;> simp
@[simp] theorem becomeIsolated_lnk_state (s : State) : (becomeIsolated s).lnk.state = s.lnk.state := by
  unfold becomeIsolated; try dsimp only
  (repeat' split) <;> simp
@[simp] theorem becomeIsolated_lnk_heard (s : State) : (becomeIsolated s).lnk.heard = s.lnk.heard := by
  unfold becomeIsolated; try dsimp only
  (repeat' split) <;> simp
@[simp] theorem becomeIsolated_lnk_acknowledged (s : State) : (becomeIsolated s).lnk.acknowledged = s.lnk.acknowledged := by
  unfold becomeIsolated; try dsimp only
  (repeat' split) <;> simp
@[simp] theorem becomeIsolated_lnk_isolationTimer (s : State) : (becomeIsolated s).lnk.isolationTimer = s.lnk.isolationTimer := by
  unfold becomeIsolated; try dsimp only
  (repeat' split) <;> simp
@[simp] theorem becomeIsolated_lnk_silentTimer (s : State) : (becomeIsolated s).lnk.silentTimer = s.lnk.silentTimer := by
  unfold becomeIsolated; try dsimp only
  (repeat' split) <;> simp
@[simp] theorem becomeIsolated_lnk_failures (s : State) : (becomeIsolated s).lnk.failures = s.lnk.failures := by
  unfold becomeIsolated; try dsimp only
  (repeat' split) <;> simp
@[simp] theorem becomeIsolated_lnk_unknownFrames (s : State) : (becomeIsolated s).lnk.unknownFrames = s.lnk.unknownFrames := by
  unfold becomeIsolated; try dsimp only
  (repeat' split) <;> simp
@[simp] theorem becomeIsolated_lnk_droppedFrames (s : State) : (becomeIsolated s).lnk.droppedFrames = s.lnk.droppedFrames := by
  unfold becomeIsolated; try dsimp only
  (repeat' split) <;> simp
@[simp] theorem becomeIsolated_lnk_silentEntries (s : State) : (becomeIsolated s).lnk.silentEntries = s.lnk.silentEntries := by
  unfold becomeIsolated; try dsimp only
  (repeat' split) <;> simp
@[simp] theorem leaveIsolated_pending (s : State) : (leaveIsolated s).pending = s.pending := by
  unfold leaveIsolated; try dsimp only
  (repeat' split) <;> simp
@[simp] theorem leaveIsolated_due (s : State) : (leaveIsolated s).due = s.due := by
  unfold leaveIsolated; try dsimp only
  (repeat' split) <;> simp
@[simp] theorem leaveIsolated_phase (s : State) : (leaveIsolated s).phase = s.phase := by
  unfold leaveIsolated; try dsimp only
  (repeat' split) <;> simp
@[simp] theorem leaveIsolated_inputs (s : State) : (leaveIsolated s).inputs = s.inputs := by
  unfold leaveIsolated; try dsimp only
  (repeat' split) <;> simp
@[simp] theorem leaveIsolated_outputs (s : State) : (leaveIsolated s).outputs = s.outputs := by
  unfold leaveIsolated; try dsimp only
  (repeat' split) <;> simp
@[simp] theorem leaveIsolated_params (s : State) : (leaveIsolated s).params = s.params := by
  unfold leaveIsolated; try dsimp only
  (repeat' split) <;> simp
@[simp] theorem leaveIsolated_cnu (s : State) : (leaveIsolated s).cnu = s.cnu := by
  unfold leaveIsolated; try dsimp only
  (repeat' split) <;> simp
@[simp] theorem leaveIsolated_cru (s : State) : (leaveIsolated s).cru = s.cru := by
  unfold leaveIsolated; try dsimp only
  (repeat' split) <;> simp
@[simp] theorem leaveIsolated_cca (s : State) : (leaveIsolated s).cca = s.cca := by
  unfold leaveIsolated; try dsimp only
  (repeat' split) <;> simp
@[simp] theorem leaveIsolated_vsq (s : State) : (leaveIsolated s).vsq = s.vsq := by
  unfold leaveIsolated; try dsimp only
  (repeat' split) <;> simp
@[simp] theorem leaveIsolated_mxd (s : State) : (leaveIsolated s).mxd = s.mxd := by
  unfold leaveIsolated; try dsimp only
  (repeat' split) <;> simp
@[simp] theorem leaveIsolated_rfc (s : State) : (leaveIsolated s).rfc = s.rfc := by
  unfold leaveIsolated; try dsimp only
  (repeat' split) <;> simp
@[simp] theorem leaveIsolated_ssu (s : State) : (leaveIsolated s).ssu = s.ssu := by
  unfold leaveIsolated; try dsimp only
  (repeat' split) <;> simp
@[simp] theorem leaveIsolated_lbu_peers (s : State) : (leaveIsolated s).lbu.peers = s.lbu.peers := by
  unfold leaveIsolated; try dsimp only
  (repeat' split) <;> simp
@[simp] theorem leaveIsolated_lbu_ignored (s : State) : (leaveIsolated s).lbu.ignored = s.lbu.ignored := by
  unfold leaveIsolated; try dsimp only
  (repeat' split) <;> simp
@[simp] theorem leaveIsolated_lbu_objectSum (s : State) : (leaveIsolated s).lbu.objectSum = s.lbu.objectSum := by
  unfold leaveIsolated; try dsimp only
  (repeat' split) <;> simp
@[simp] theorem leaveIsolated_lnk_state (s : State) : (leaveIsolated s).lnk.state = s.lnk.state := by
  unfold leaveIsolated; try dsimp only
  (repeat' split) <;> simp
@[simp] theorem leaveIsolated_lnk_heard (s : State) : (leaveIsolated s).lnk.heard = s.lnk.heard := by
  unfold leaveIsolated; try dsimp only
  (repeat' split) <;> simp
@[simp] theorem leaveIsolated_lnk_acknowledged (s : State) : (leaveIsolated s).lnk.acknowledged = s.lnk.acknowledged := by
  unfold leaveIsolated; try dsimp only
  (repeat' split) <;> simp
@[simp] theorem leaveIsolated_lnk_isolationTimer (s : State) : (leaveIsolated s).lnk.isolationTimer = s.lnk.isolationTimer := by
  unfold leaveIsolated; try dsimp only
  (repeat' split) <;> simp
@[simp] theorem leaveIsolated_lnk_silentTimer (s : State) : (leaveIsolated s).lnk.silentTimer = s.lnk.silentTimer := by
  unfold leaveIsolated; try dsimp only
  (repeat' split) <;> simp
@[simp] theorem leaveIsolated_lnk_failures (s : State) : (leaveIsolated s).lnk.failures = s.lnk.failures := by
  unfold leaveIsolated; try dsimp only
  (repeat' split) <;> simp
@[simp] theorem leaveIsolated_lnk_unknownFrames (s : State) : (leaveIsolated s).lnk.unknownFrames = s.lnk.unknownFrames := by
  unfold leaveIsolated; try dsimp only
  (repeat' split) <;> simp
@[simp] theorem leaveIsolated_lnk_droppedFrames (s : State) : (leaveIsolated s).lnk.droppedFrames = s.lnk.droppedFrames := by
  unfold leaveIsolated; try dsimp only
  (repeat' split) <;> simp
@[simp] theorem leaveIsolated_lnk_silentEntries (s : State) : (leaveIsolated s).lnk.silentEntries = s.lnk.silentEntries := by
  unfold leaveIsolated; try dsimp only
  (repeat' split) <;> simp
@[simp] theorem noteIsolation_pending (w : Bool) (s : State) : (noteIsolation w s).pending = s.pending := by
  unfold noteIsolation; try dsimp only
  (repeat' split) <;> simp
@[simp] theorem noteIsolation_due (w : Bool) (s : State) : (noteIsolation w s).due = s.due := by
  unfold noteIsolation; try dsimp only
  (repeat' split) <;> simp
@[simp] theorem noteIsolation_phase (w : Bool) (s : State) : (noteIsolation w s).phase = s.phase := by
  unfold noteIsolation; try dsimp only
  (repeat' split) <;> simp
@[simp] theorem noteIsolation_inputs (w : Bool) (s : State) : (noteIsolation w s).inputs = s.inputs := by
  unfold noteIsolation; try dsimp only
  (repeat' split) <;> simp
@[simp] theorem noteIsolation_outputs (w : Bool) (s : State) : (noteIsolation w s).outputs = s.outputs := by
  unfold noteIsolation; try dsimp only
  (repeat' split) <;> simp
@[simp] theorem noteIsolation_params (w : Bool) (s : State) : (noteIsolation w s).params = s.params := by
  unfold noteIsolation; try dsimp only
  (repeat' split) <;> simp
@[simp] theorem noteIsolation_cnu (w : Bool) (s : State) : (noteIsolation w s).cnu = s.cnu := by
  unfold noteIsolation; try dsimp only
  (repeat' split) <;> simp
@[simp] theorem noteIsolation_cru (w : Bool) (s : State) : (noteIsolation w s).cru = s.cru := by
  unfold noteIsolation; try dsimp only
  (repeat' split) <;> simp
@[simp] theorem noteIsolation_cca (w : Bool) (s : State) : (noteIsolation w s).cca = s.cca := by
  unfold noteIsolation; try dsimp only
  (repeat' split) <;> simp
@[simp] theorem noteIsolation_vsq (w : Bool) (s : State) : (noteIsolation w s).vsq = s.vsq := by
  unfold noteIsolation; try dsimp only
  (repeat' split) <;> simp
@[simp] theorem noteIsolation_mxd (w : Bool) (s : State) : (noteIsolation w s).mxd = s.mxd := by
  unfold noteIsolation; try dsimp only
  (repeat' split) <;> simp
@[simp] theorem noteIsolation_rfc (w : Bool) (s : State) : (noteIsolation w s).rfc = s.rfc := by
  unfold noteIsolation; try dsimp only
  (repeat' split) <;> simp
@[simp] theorem noteIsolation_ssu (w : Bool) (s : State) : (noteIsolation w s).ssu = s.ssu := by
  unfold noteIsolation; try dsimp only
  (repeat' split) <;> simp
@[simp] theorem noteIsolation_lbu_peers (w : Bool) (s : State) : (noteIsolation w s).lbu.peers = s.lbu.peers := by
  unfold noteIsolation; try dsimp only
  (repeat' split) <;> simp
@[simp] theorem noteIsolation_lbu_ignored (w : Bool) (s : State) : (noteIsolation w s).lbu.ignored = s.lbu.ignored := by
  unfold noteIsolation; try dsimp only
  (repeat' split) <;> simp
@[simp] theorem noteIsolation_lbu_objectSum (w : Bool) (s : State) : (noteIsolation w s).lbu.objectSum = s.lbu.objectSum := by
  unfold noteIsolation; try dsimp only
  (repeat' split) <;> simp
@[simp] theorem noteIsolation_lnk_state (w : Bool) (s : State) : (noteIsolation w s).lnk.state = s.lnk.state := by
  unfold noteIsolation; try dsimp only
  (repeat' split) <;> simp
@[simp] theorem noteIsolation_lnk_heard (w : Bool) (s : State) : (noteIsolation w s).lnk.heard = s.lnk.heard := by
  unfold noteIsolation; try dsimp only
  (repeat' split) <;> simp
@[simp] theorem noteIsolation_lnk_acknowledged (w : Bool) (s : State) : (noteIsolation w s).lnk.acknowledged = s.lnk.acknowledged := by
  unfold noteIsolation; try dsimp only
  (repeat' split) <;> simp
@[simp] theorem noteIsolation_lnk_isolationTimer (w : Bool) (s : State) : (noteIsolation w s).lnk.isolationTimer = s.lnk.isolationTimer := by
  unfold noteIsolation; try dsimp only
  (repeat' split) <;> simp
@[simp] theorem noteIsolation_lnk_silentTimer (w : Bool) (s : State) : (noteIsolation w s).lnk.silentTimer = s.lnk.silentTimer := by
  unfold noteIsolation; try dsimp only
  (repeat' split) <;> simp
@[simp] theorem noteIsolation_lnk_failures (w : Bool) (s : State) : (noteIsolation w s).lnk.failures = s.lnk.failures := by
  unfold noteIsolation; try dsimp only
  (repeat' split) <;> simp
@[simp] theorem noteIsolation_lnk_unknownFrames (w : Bool) (s : State) : (noteIsolation w s).lnk.unknownFrames = s.lnk.unknownFrames := by
  unfold noteIsolation; try dsimp only
  (repeat' split) <;> simp
@[simp] theorem noteIsolation_lnk_droppedFrames (w : Bool) (s : State) : (noteIsolation w s).lnk.droppedFrames = s.lnk.droppedFrames := by
  unfold noteIsolation; try dsimp only
  (repeat' split) <;> simp
@[simp] theorem noteIsolation_lnk_silentEntries (w : Bool) (s : State) : (noteIsolation w s).lnk.silentEntries = s.lnk.silentEntries := by
  unfold noteIsolation; try dsimp only
  (repeat' split) <;> simp
@[simp] theorem modPeer_pending (st : Station) (f : Peer → Peer) (s : State) : (modPeer st f s).pending = s.pending := by
  unfold modPeer; try dsimp only
  (repeat' split) <;> simp
@[simp] theorem modPeer_due (st : Station) (f : Peer → Peer) (s : State) : (modPeer st f s).due = s.due := by
  unfold modPeer; try dsimp only
  (repeat' split) <;> simp
@[simp] theorem modPeer_phase (st : Station) (f : Peer → Peer) (s : State) : (modPeer st f s).phase = s.phase := by
  unfold modPeer; try dsimp only
  (repeat' split) <;> simp
@[simp] theorem modPeer_inputs (st : Station) (f : Peer → Peer) (s : State) : (modPeer st f s).inputs = s.inputs := by
  unfold modPeer; try dsimp only
  (repeat' split) <;> simp
@[simp] theorem modPeer_outputs (st : Station) (f : Peer → Peer) (s : State) : (modPeer st f s).outputs = s.outputs := by
  unfold modPeer; try dsimp only
  (repeat' split) <;> simp
@[simp] theorem modPeer_params (st : Station) (f : Peer → Peer) (s : State) : (modPeer st f s).params = s.params := by
  unfold modPeer; try dsimp only
  (repeat' split) <;> simp
@[simp] theorem modPeer_cnu (st : Station) (f : Peer → Peer) (s : State) : (modPeer st f s).cnu = s.cnu := by
  unfold modPeer; try dsimp only
  (repeat' split) <;> simp
@[simp] theorem modPeer_cru (st : Station) (f : Peer → Peer) (s : State) : (modPeer st f s).cru = s.cru := by
  unfold modPeer; try dsimp only
  (repeat' split) <;> simp
@[simp] theorem modPeer_cca (st : Station) (f : Peer → Peer) (s : State) : (modPeer st f s).cca = s.cca := by
  unfold modPeer; try dsimp only
  (repeat' split) <;> simp
@[simp] theorem modPeer_vsq (st : Station) (f : Peer → Peer) (s : State) : (modPeer st f s).vsq = s.vsq := by
  unfold modPeer; try dsimp only
  (repeat' split) <;> simp
@[simp] theorem modPeer_mxd (st : Station) (f : Peer → Peer) (s : State) : (modPeer st f s).mxd = s.mxd := by
  unfold modPeer; try dsimp only
  (repeat' split) <;> simp
@[simp] theorem modPeer_rfc (st : Station) (f : Peer → Peer) (s : State) : (modPeer st f s).rfc = s.rfc := by
  unfold modPeer; try dsimp only
  (repeat' split) <;> simp
@[simp] theorem modPeer_lnk (st : Station) (f : Peer → Peer) (s : State) : (modPeer st f s).lnk = s.lnk := by
  unfold modPeer; try dsimp only
  (repeat' split) <;> simp
@[simp] theorem modPeer_ssu (st : Station) (f : Peer → Peer) (s : State) : (modPeer st f s).ssu = s.ssu := by
  unfold modPeer; try dsimp only
  (repeat' split) <;> simp
@[simp] theorem modPeer_lbu_motor (st : Station) (f : Peer → Peer) (s : State) : (modPeer st f s).lbu.motor = s.lbu.motor := by
  unfold modPeer; try dsimp only
  (repeat' split) <;> simp
@[simp] theorem modPeer_lbu_compressor (st : Station) (f : Peer → Peer) (s : State) : (modPeer st f s).lbu.compressor = s.lbu.compressor := by
  unfold modPeer; try dsimp only
  (repeat' split) <;> simp
@[simp] theorem modPeer_lbu_heater (st : Station) (f : Peer → Peer) (s : State) : (modPeer st f s).lbu.heater = s.lbu.heater := by
  unfold modPeer; try dsimp only
  (repeat' split) <;> simp
@[simp] theorem modPeer_lbu_claimCounter (st : Station) (f : Peer → Peer) (s : State) : (modPeer st f s).lbu.claimCounter = s.lbu.claimCounter := by
  unfold modPeer; try dsimp only
  (repeat' split) <;> simp
@[simp] theorem modPeer_lbu_ignored (st : Station) (f : Peer → Peer) (s : State) : (modPeer st f s).lbu.ignored = s.lbu.ignored := by
  unfold modPeer; try dsimp only
  (repeat' split) <;> simp
@[simp] theorem modPeer_lbu_objectSum (st : Station) (f : Peer → Peer) (s : State) : (modPeer st f s).lbu.objectSum = s.lbu.objectSum := by
  unfold modPeer; try dsimp only
  (repeat' split) <;> simp
@[simp] theorem modPeer_lbu_agenda (st : Station) (f : Peer → Peer) (s : State) : (modPeer st f s).lbu.agenda = s.lbu.agenda := by
  unfold modPeer; try dsimp only
  (repeat' split) <;> simp
@[simp] theorem removePeer_pending (st : Station) (s : State) : (removePeer st s).pending = s.pending := by
  unfold removePeer; try dsimp only
  (repeat' split) <;> simp
@[simp] theorem removePeer_due (st : Station) (s : State) : (removePeer st s).due = s.due := by
  unfold removePeer; try dsimp only
  (repeat' split) <;> simp
@[simp] theorem removePeer_phase (st : Station) (s : State) : (removePeer st s).phase = s.phase := by
  unfold removePeer; try dsimp only
  (repeat' split) <;> simp
@[simp] theorem removePeer_inputs (st : Station) (s : State) : (removePeer st s).inputs = s.inputs := by
  unfold removePeer; try dsimp only
  (repeat' split) <;> simp
@[simp] theorem removePeer_outputs (st : Station) (s : State) : (removePeer st s).outputs = s.outputs := by
  unfold removePeer; try dsimp only
  (repeat' split) <;> simp
@[simp] theorem removePeer_params (st : Station) (s : State) : (removePeer st s).params = s.params := by
  unfold removePeer; try dsimp only
  (repeat' split) <;> simp
@[simp] theorem removePeer_cnu (st : Station) (s : State) : (removePeer st s).cnu = s.cnu := by
  unfold removePeer; try dsimp only
  (repeat' split) <;> simp
@[simp] theorem removePeer_cru (st : Station) (s : State) : (removePeer st s).cru = s.cru := by
  unfold removePeer; try dsimp only
  (repeat' split) <;> simp
@[simp] theorem removePeer_cca (st : Station) (s : State) : (removePeer st s).cca = s.cca := by
  unfold removePeer; try dsimp only
  (repeat' split) <;> simp
@[simp] theorem removePeer_vsq (st : Station) (s : State) : (removePeer st s).vsq = s.vsq := by
  unfold removePeer; try dsimp only
  (repeat' split) <;> simp
@[simp] theorem removePeer_mxd (st : Station) (s : State) : (removePeer st s).mxd = s.mxd := by
  unfold removePeer; try dsimp only
  (repeat' split) <;> simp
@[simp] theorem removePeer_rfc (st : Station) (s : State) : (removePeer st s).rfc = s.rfc := by
  unfold removePeer; try dsimp only
  (repeat' split) <;> simp
@[simp] theorem removePeer_lnk (st : Station) (s : State) : (removePeer st s).lnk = s.lnk := by
  unfold removePeer; try dsimp only
  (repeat' split) <;> simp
@[simp] theorem removePeer_ssu (st : Station) (s : State) : (removePeer st s).ssu = s.ssu := by
  unfold removePeer; try dsimp only
  (repeat' split) <;> simp
@[simp] theorem removePeer_lbu_motor (st : Station) (s : State) : (removePeer st s).lbu.motor = s.lbu.motor := by
  unfold removePeer; try dsimp only
  (repeat' split) <;> simp
@[simp] theorem removePeer_lbu_compressor (st : Station) (s : State) : (removePeer st s).lbu.compressor = s.lbu.compressor := by
  unfold removePeer; try dsimp only
  (repeat' split) <;> simp
@[simp] theorem removePeer_lbu_heater (st : Station) (s : State) : (removePeer st s).lbu.heater = s.lbu.heater := by
  unfold removePeer; try dsimp only
  (repeat' split) <;> simp
@[simp] theorem removePeer_lbu_claimCounter (st : Station) (s : State) : (removePeer st s).lbu.claimCounter = s.lbu.claimCounter := by
  unfold removePeer; try dsimp only
  (repeat' split) <;> simp
@[simp] theorem removePeer_lbu_ignored (st : Station) (s : State) : (removePeer st s).lbu.ignored = s.lbu.ignored := by
  unfold removePeer; try dsimp only
  (repeat' split) <;> simp
@[simp] theorem removePeer_lbu_objectSum (st : Station) (s : State) : (removePeer st s).lbu.objectSum = s.lbu.objectSum := by
  unfold removePeer; try dsimp only
  (repeat' split) <;> simp
@[simp] theorem removePeer_lbu_agenda (st : Station) (s : State) : (removePeer st s).lbu.agenda = s.lbu.agenda := by
  unfold removePeer; try dsimp only
  (repeat' split) <;> simp
@[simp] theorem notePeer_pending (st : Station) (s : State) : (notePeer st s).pending = s.pending := by
  unfold notePeer; try dsimp only
  (repeat' split) <;> simp
@[simp] theorem notePeer_due (st : Station) (s : State) : (notePeer st s).due = s.due := by
  unfold notePeer; try dsimp only
  (repeat' split) <;> simp
@[simp] theorem notePeer_phase (st : Station) (s : State) : (notePeer st s).phase = s.phase := by
  unfold notePeer; try dsimp only
  (repeat' split) <;> simp
@[simp] theorem notePeer_inputs (st : Station) (s : State) : (notePeer st s).inputs = s.inputs := by
  unfold notePeer; try dsimp only
  (repeat' split) <;> simp
@[simp] theorem notePeer_outputs (st : Station) (s : State) : (notePeer st s).outputs = s.outputs := by
  unfold notePeer; try dsimp only
  (repeat' split) <;> simp
@[simp] theorem notePeer_params (st : Station) (s : State) : (notePeer st s).params = s.params := by
  unfold notePeer; try dsimp only
  (repeat' split) <;> simp
@[simp] theorem notePeer_cnu (st : Station) (s : State) : (notePeer st s).cnu = s.cnu := by
  unfold notePeer; try dsimp only
  (repeat' split) <;> simp
@[simp] theorem notePeer_cru (st : Station) (s : State) : (notePeer st s).cru = s.cru := by
  unfold notePeer; try dsimp only
  (repeat' split) <;> simp
@[simp] theorem notePeer_cca (st : Station) (s : State) : (notePeer st s).cca = s.cca := by
  unfold notePeer; try dsimp only
  (repeat' split) <;> simp
@[simp] theorem notePeer_vsq (st : Station) (s : State) : (notePeer st s).vsq = s.vsq := by
  unfold notePeer; try dsimp only
  (repeat' split) <;> simp
@[simp] theorem notePeer_mxd (st : Station) (s : State) : (notePeer st s).mxd = s.mxd := by
  unfold notePeer; try dsimp only
  (repeat' split) <;> simp
@[simp] theorem notePeer_rfc (st : Station) (s : State) : (notePeer st s).rfc = s.rfc := by
  unfold notePeer; try dsimp only
  (repeat' split) <;> simp
@[simp] theorem notePeer_lnk (st : Station) (s : State) : (notePeer st s).lnk = s.lnk := by
  unfold notePeer; try dsimp only
  (repeat' split) <;> simp
@[simp] theorem notePeer_ssu (st : Station) (s : State) : (notePeer st s).ssu = s.ssu := by
  unfold notePeer; try dsimp only
  (repeat' split) <;> simp
@[simp] theorem notePeer_lbu_motor (st : Station) (s : State) : (notePeer st s).lbu.motor = s.lbu.motor := by
  unfold notePeer; try dsimp only
  (repeat' split) <;> simp
@[simp] theorem notePeer_lbu_compressor (st : Station) (s : State) : (notePeer st s).lbu.compressor = s.lbu.compressor := by
  unfold notePeer; try dsimp only
  (repeat' split) <;> simp
@[simp] theorem notePeer_lbu_heater (st : Station) (s : State) : (notePeer st s).lbu.heater = s.lbu.heater := by
  unfold notePeer; try dsimp only
  (repeat' split) <;> simp
@[simp] theorem notePeer_lbu_claimCounter (st : Station) (s : State) : (notePeer st s).lbu.claimCounter = s.lbu.claimCounter := by
  unfold notePeer; try dsimp only
  (repeat' split) <;> simp
@[simp] theorem notePeer_lbu_ignored (st : Station) (s : State) : (notePeer st s).lbu.ignored = s.lbu.ignored := by
  unfold notePeer; try dsimp only
  (repeat' split) <;> simp
@[simp] theorem notePeer_lbu_objectSum (st : Station) (s : State) : (notePeer st s).lbu.objectSum = s.lbu.objectSum := by
  unfold notePeer; try dsimp only
  (repeat' split) <;> simp
@[simp] theorem notePeer_lbu_agenda (st : Station) (s : State) : (notePeer st s).lbu.agenda = s.lbu.agenda := by
  unfold notePeer; try dsimp only
  (repeat' split) <;> simp
@[simp] theorem afterTable_pending (before : State) (s : State) : (afterTable before s).pending = s.pending := by
  unfold afterTable; try dsimp only
  (repeat' split) <;> simp
@[simp] theorem afterTable_due (before : State) (s : State) : (afterTable before s).due = s.due := by
  unfold afterTable; try dsimp only
  (repeat' split) <;> simp
@[simp] theorem afterTable_phase (before : State) (s : State) : (afterTable before s).phase = s.phase := by
  unfold afterTable; try dsimp only
  (repeat' split) <;> simp
@[simp] theorem afterTable_inputs (before : State) (s : State) : (afterTable before s).inputs = s.inputs := by
  unfold afterTable; try dsimp only
  (repeat' split) <;> simp
@[simp] theorem afterTable_outputs (before : State) (s : State) : (afterTable before s).outputs = s.outputs := by
  unfold afterTable; try dsimp only
  (repeat' split) <;> simp
@[simp] theorem afterTable_params (before : State) (s : State) : (afterTable before s).params = s.params := by
  unfold afterTable; try dsimp only
  (repeat' split) <;> simp
@[simp] theorem afterTable_cnu (before : State) (s : State) : (afterTable before s).cnu = s.cnu := by
  unfold afterTable; try dsimp only
  (repeat' split) <;> simp
@[simp] theorem afterTable_cru (before : State) (s : State) : (afterTable before s).cru = s.cru := by
  unfold afterTable; try dsimp only
  (repeat' split) <;> simp
@[simp] theorem afterTable_cca (before : State) (s : State) : (afterTable before s).cca = s.cca := by
  unfold afterTable; try dsimp only
  (repeat' split) <;> simp
@[simp] theorem afterTable_vsq (before : State) (s : State) : (afterTable before s).vsq = s.vsq := by
  unfold afterTable; try dsimp only
  (repeat' split) <;> simp
@[simp] theorem afterTable_mxd (before : State) (s : State) : (afterTable before s).mxd = s.mxd := by
  unfold afterTable; try dsimp only
  (repeat' split) <;> simp
@[simp] theorem afterTable_rfc (before : State) (s : State) : (afterTable before s).rfc = s.rfc := by
  unfold afterTable; try dsimp only
  (repeat' split) <;> simp
@[simp] theorem afterTable_ssu (before : State) (s : State) : (afterTable before s).ssu = s.ssu := by
  unfold afterTable; try dsimp only
  (repeat' split) <;> simp
@[simp] theorem afterTable_lbu_peers (before : State) (s : State) : (afterTable before s).lbu.peers = s.lbu.peers := by
  unfold afterTable; try dsimp only
  (repeat' split) <;> simp
@[simp] theorem afterTable_lbu_ignored (before : State) (s : State) : (afterTable before s).lbu.ignored = s.lbu.ignored := by
  unfold afterTable; try dsimp only
  (repeat' split) <;> simp
@[simp] theorem afterTable_lbu_objectSum (before : State) (s : State) : (afterTable before s).lbu.objectSum = s.lbu.objectSum := by
  unfold afterTable; try dsimp only
  (repeat' split) <;> simp
@[simp] theorem afterTable_lnk_state (before : State) (s : State) : (afterTable before s).lnk.state = s.lnk.state := by
  unfold afterTable; try dsimp only
  (repeat' split) <;> simp
@[simp] theorem afterTable_lnk_heard (before : State) (s : State) : (afterTable before s).lnk.heard = s.lnk.heard := by
  unfold afterTable; try dsimp only
  (repeat' split) <;> simp
@[simp] theorem afterTable_lnk_acknowledged (before : State) (s : State) : (afterTable before s).lnk.acknowledged = s.lnk.acknowledged := by
  unfold afterTable; try dsimp only
  (repeat' split) <;> simp
@[simp] theorem afterTable_lnk_isolationTimer (before : State) (s : State) : (afterTable before s).lnk.isolationTimer = s.lnk.isolationTimer := by
  unfold afterTable; try dsimp only
  (repeat' split) <;> simp
@[simp] theorem afterTable_lnk_silentTimer (before : State) (s : State) : (afterTable before s).lnk.silentTimer = s.lnk.silentTimer := by
  unfold afterTable; try dsimp only
  (repeat' split) <;> simp
@[simp] theorem afterTable_lnk_failures (before : State) (s : State) : (afterTable before s).lnk.failures = s.lnk.failures := by
  unfold afterTable; try dsimp only
  (repeat' split) <;> simp
@[simp] theorem afterTable_lnk_unknownFrames (before : State) (s : State) : (afterTable before s).lnk.unknownFrames = s.lnk.unknownFrames := by
  unfold afterTable; try dsimp only
  (repeat' split) <;> simp
@[simp] theorem afterTable_lnk_droppedFrames (before : State) (s : State) : (afterTable before s).lnk.droppedFrames = s.lnk.droppedFrames := by
  unfold afterTable; try dsimp only
  (repeat' split) <;> simp
@[simp] theorem afterTable_lnk_silentEntries (before : State) (s : State) : (afterTable before s).lnk.silentEntries = s.lnk.silentEntries := by
  unfold afterTable; try dsimp only
  (repeat' split) <;> simp

end Sys2Proof.Machine.Laws
end

