-- ==== Sys2Proof/Laws/FramesDevices.lean ====
section
/-! SUPPORT. Frames: what each shared operation of the Matrix Driver and the Refrigeration Controller leaves as it was, one lemma per operation and part. -/

set_option linter.unusedTactic false
set_option linter.unnecessarySeqFocus false
set_option linter.unreachableTactic false

namespace Sys2Proof.Machine.Laws

-- One after the other: side by side, this many small lemmas take more memory than a check has.
set_option Elab.async false

@[simp] theorem writeStaging_pending (p : Option Pair) (s : State) : (writeStaging p s).pending = s.pending := by
  unfold writeStaging; try dsimp only
  (repeat' split) <;> simp
@[simp] theorem writeStaging_due (p : Option Pair) (s : State) : (writeStaging p s).due = s.due := by
  unfold writeStaging; try dsimp only
  (repeat' split) <;> simp
@[simp] theorem writeStaging_phase (p : Option Pair) (s : State) : (writeStaging p s).phase = s.phase := by
  unfold writeStaging; try dsimp only
  (repeat' split) <;> simp
@[simp] theorem writeStaging_inputs (p : Option Pair) (s : State) : (writeStaging p s).inputs = s.inputs := by
  unfold writeStaging; try dsimp only
  (repeat' split) <;> simp
@[simp] theorem writeStaging_outputs (p : Option Pair) (s : State) : (writeStaging p s).outputs = s.outputs := by
  unfold writeStaging; try dsimp only
  (repeat' split) <;> simp
@[simp] theorem writeStaging_params (p : Option Pair) (s : State) : (writeStaging p s).params = s.params := by
  unfold writeStaging; try dsimp only
  (repeat' split) <;> simp
@[simp] theorem writeStaging_cnu (p : Option Pair) (s : State) : (writeStaging p s).cnu = s.cnu := by
  unfold writeStaging; try dsimp only
  (repeat' split) <;> simp
@[simp] theorem writeStaging_cru (p : Option Pair) (s : State) : (writeStaging p s).cru = s.cru := by
  unfold writeStaging; try dsimp only
  (repeat' split) <;> simp
@[simp] theorem writeStaging_cca (p : Option Pair) (s : State) : (writeStaging p s).cca = s.cca := by
  unfold writeStaging; try dsimp only
  (repeat' split) <;> simp
@[simp] theorem writeStaging_vsq (p : Option Pair) (s : State) : (writeStaging p s).vsq = s.vsq := by
  unfold writeStaging; try dsimp only
  (repeat' split) <;> simp
@[simp] theorem writeStaging_rfc (p : Option Pair) (s : State) : (writeStaging p s).rfc = s.rfc := by
  unfold writeStaging; try dsimp only
  (repeat' split) <;> simp
@[simp] theorem writeStaging_lbu (p : Option Pair) (s : State) : (writeStaging p s).lbu = s.lbu := by
  unfold writeStaging; try dsimp only
  (repeat' split) <;> simp
@[simp] theorem writeStaging_lnk (p : Option Pair) (s : State) : (writeStaging p s).lnk = s.lnk := by
  unfold writeStaging; try dsimp only
  (repeat' split) <;> simp
@[simp] theorem writeStaging_ssu (p : Option Pair) (s : State) : (writeStaging p s).ssu = s.ssu := by
  unfold writeStaging; try dsimp only
  (repeat' split) <;> simp
@[simp] theorem writeStaging_mxd_state (p : Option Pair) (s : State) : (writeStaging p s).mxd.state = s.mxd.state := by
  unfold writeStaging; try dsimp only
  (repeat' split) <;> simp
@[simp] theorem writeStaging_mxd_latch (p : Option Pair) (s : State) : (writeStaging p s).mxd.latch = s.mxd.latch := by
  unfold writeStaging; try dsimp only
  (repeat' split) <;> simp
@[simp] theorem writeStaging_mxd_hold (p : Option Pair) (s : State) : (writeStaging p s).mxd.hold = s.mxd.hold := by
  unfold writeStaging; try dsimp only
  (repeat' split) <;> simp
@[simp] theorem writeStaging_mxd_mismatch (p : Option Pair) (s : State) : (writeStaging p s).mxd.mismatch = s.mxd.mismatch := by
  unfold writeStaging; try dsimp only
  (repeat' split) <;> simp
@[simp] theorem writeStaging_mxd_fault (p : Option Pair) (s : State) : (writeStaging p s).mxd.fault = s.mxd.fault := by
  unfold writeStaging; try dsimp only
  (repeat' split) <;> simp
@[simp] theorem writeStaging_mxd_energised (p : Option Pair) (s : State) : (writeStaging p s).mxd.energised = s.mxd.energised := by
  unfold writeStaging; try dsimp only
  (repeat' split) <;> simp
@[simp] theorem writeStaging_mxd_samples (p : Option Pair) (s : State) : (writeStaging p s).mxd.samples = s.mxd.samples := by
  unfold writeStaging; try dsimp only
  (repeat' split) <;> simp
@[simp] theorem writeStaging_mxd_stallRun (p : Option Pair) (s : State) : (writeStaging p s).mxd.stallRun = s.mxd.stallRun := by
  unfold writeStaging; try dsimp only
  (repeat' split) <;> simp
@[simp] theorem writeStaging_mxd_supervision (p : Option Pair) (s : State) : (writeStaging p s).mxd.supervision = s.mxd.supervision := by
  unfold writeStaging; try dsimp only
  (repeat' split) <;> simp
@[simp] theorem writeStaging_mxd_lastSample (p : Option Pair) (s : State) : (writeStaging p s).mxd.lastSample = s.mxd.lastSample := by
  unfold writeStaging; try dsimp only
  (repeat' split) <;> simp
@[simp] theorem writeStaging_mxd_tick (p : Option Pair) (s : State) : (writeStaging p s).mxd.tick = s.mxd.tick := by
  unfold writeStaging; try dsimp only
  (repeat' split) <;> simp
@[simp] theorem seedCam_pending (b : Bool) (s : State) : (seedCam b s).pending = s.pending := by
  unfold seedCam; try dsimp only
  (repeat' split) <;> simp
@[simp] theorem seedCam_due (b : Bool) (s : State) : (seedCam b s).due = s.due := by
  unfold seedCam; try dsimp only
  (repeat' split) <;> simp
@[simp] theorem seedCam_phase (b : Bool) (s : State) : (seedCam b s).phase = s.phase := by
  unfold seedCam; try dsimp only
  (repeat' split) <;> simp
@[simp] theorem seedCam_outputs (b : Bool) (s : State) : (seedCam b s).outputs = s.outputs := by
  unfold seedCam; try dsimp only
  (repeat' split) <;> simp
@[simp] theorem seedCam_params (b : Bool) (s : State) : (seedCam b s).params = s.params := by
  unfold seedCam; try dsimp only
  (repeat' split) <;> simp
@[simp] theorem seedCam_cnu (b : Bool) (s : State) : (seedCam b s).cnu = s.cnu := by
  unfold seedCam; try dsimp only
  (repeat' split) <;> simp
@[simp] theorem seedCam_cru (b : Bool) (s : State) : (seedCam b s).cru = s.cru := by
  unfold seedCam; try dsimp only
  (repeat' split) <;> simp
@[simp] theorem seedCam_cca (b : Bool) (s : State) : (seedCam b s).cca = s.cca := by
  unfold seedCam; try dsimp only
  (repeat' split) <;> simp
@[simp] theorem seedCam_vsq (b : Bool) (s : State) : (seedCam b s).vsq = s.vsq := by
  unfold seedCam; try dsimp only
  (repeat' split) <;> simp
@[simp] theorem seedCam_mxd (b : Bool) (s : State) : (seedCam b s).mxd = s.mxd := by
  unfold seedCam; try dsimp only
  (repeat' split) <;> simp
@[simp] theorem seedCam_rfc (b : Bool) (s : State) : (seedCam b s).rfc = s.rfc := by
  unfold seedCam; try dsimp only
  (repeat' split) <;> simp
@[simp] theorem seedCam_lbu (b : Bool) (s : State) : (seedCam b s).lbu = s.lbu := by
  unfold seedCam; try dsimp only
  (repeat' split) <;> simp
@[simp] theorem seedCam_lnk (b : Bool) (s : State) : (seedCam b s).lnk = s.lnk := by
  unfold seedCam; try dsimp only
  (repeat' split) <;> simp
@[simp] theorem seedCam_ssu (b : Bool) (s : State) : (seedCam b s).ssu = s.ssu := by
  unfold seedCam; try dsimp only
  (repeat' split) <;> simp
@[simp] theorem seedCam_inputs_strobe (b : Bool) (s : State) : (seedCam b s).inputs.strobe = s.inputs.strobe := by
  unfold seedCam; try dsimp only
  (repeat' split) <;> simp
@[simp] theorem seedCam_inputs_curtain (b : Bool) (s : State) : (seedCam b s).inputs.curtain = s.inputs.curtain := by
  unfold seedCam; try dsimp only
  (repeat' split) <;> simp
@[simp] theorem seedCam_inputs_door (b : Bool) (s : State) : (seedCam b s).inputs.door = s.inputs.door := by
  unfold seedCam; try dsimp only
  (repeat' split) <;> simp
@[simp] theorem seedCam_inputs_lever (b : Bool) (s : State) : (seedCam b s).inputs.lever = s.inputs.lever := by
  unfold seedCam; try dsimp only
  (repeat' split) <;> simp
@[simp] theorem seedCam_inputs_cashbox (b : Bool) (s : State) : (seedCam b s).inputs.cashbox = s.inputs.cashbox := by
  unfold seedCam; try dsimp only
  (repeat' split) <;> simp
@[simp] theorem seedCam_inputs_exit (b : Bool) (s : State) : (seedCam b s).inputs.exit = s.inputs.exit := by
  unfold seedCam; try dsimp only
  (repeat' split) <;> simp
@[simp] theorem seedCam_inputs_empties (b : Bool) (s : State) : (seedCam b s).inputs.empties = s.inputs.empties := by
  unfold seedCam; try dsimp only
  (repeat' split) <;> simp
@[simp] theorem seedCam_inputs_fulls (b : Bool) (s : State) : (seedCam b s).inputs.fulls = s.inputs.fulls := by
  unfold seedCam; try dsimp only
  (repeat' split) <;> simp
@[simp] theorem seedCam_inputs_codes (b : Bool) (s : State) : (seedCam b s).inputs.codes = s.inputs.codes := by
  unfold seedCam; try dsimp only
  (repeat' split) <;> simp
@[simp] theorem seedCam_inputs_lastCodes (b : Bool) (s : State) : (seedCam b s).inputs.lastCodes = s.inputs.lastCodes := by
  unfold seedCam; try dsimp only
  (repeat' split) <;> simp
@[simp] theorem seedCam_inputs_camLines (b : Bool) (s : State) : (seedCam b s).inputs.camLines = s.inputs.camLines := by
  unfold seedCam; try dsimp only
  (repeat' split) <;> simp
@[simp] theorem seedCam_inputs_half (b : Bool) (s : State) : (seedCam b s).inputs.half = s.inputs.half := by
  unfold seedCam; try dsimp only
  (repeat' split) <;> simp
@[simp] theorem latchPair_pending (p : Pair) (s : State) : (latchPair p s).pending = s.pending := by
  unfold latchPair; try dsimp only
  (repeat' split) <;> simp
@[simp] theorem latchPair_due (p : Pair) (s : State) : (latchPair p s).due = s.due := by
  unfold latchPair; try dsimp only
  (repeat' split) <;> simp
@[simp] theorem latchPair_phase (p : Pair) (s : State) : (latchPair p s).phase = s.phase := by
  unfold latchPair; try dsimp only
  (repeat' split) <;> simp
@[simp] theorem latchPair_outputs (p : Pair) (s : State) : (latchPair p s).outputs = s.outputs := by
  unfold latchPair; try dsimp only
  (repeat' split) <;> simp
@[simp] theorem latchPair_params (p : Pair) (s : State) : (latchPair p s).params = s.params := by
  unfold latchPair; try dsimp only
  (repeat' split) <;> simp
@[simp] theorem latchPair_cnu (p : Pair) (s : State) : (latchPair p s).cnu = s.cnu := by
  unfold latchPair; try dsimp only
  (repeat' split) <;> simp
@[simp] theorem latchPair_cru (p : Pair) (s : State) : (latchPair p s).cru = s.cru := by
  unfold latchPair; try dsimp only
  (repeat' split) <;> simp
@[simp] theorem latchPair_cca (p : Pair) (s : State) : (latchPair p s).cca = s.cca := by
  unfold latchPair; try dsimp only
  (repeat' split) <;> simp
@[simp] theorem latchPair_vsq (p : Pair) (s : State) : (latchPair p s).vsq = s.vsq := by
  unfold latchPair; try dsimp only
  (repeat' split) <;> simp
@[simp] theorem latchPair_rfc (p : Pair) (s : State) : (latchPair p s).rfc = s.rfc := by
  unfold latchPair; try dsimp only
  (repeat' split) <;> simp
@[simp] theorem latchPair_lbu (p : Pair) (s : State) : (latchPair p s).lbu = s.lbu := by
  unfold latchPair; try dsimp only
  (repeat' split) <;> simp
@[simp] theorem latchPair_lnk (p : Pair) (s : State) : (latchPair p s).lnk = s.lnk := by
  unfold latchPair; try dsimp only
  (repeat' split) <;> simp
@[simp] theorem latchPair_ssu (p : Pair) (s : State) : (latchPair p s).ssu = s.ssu := by
  unfold latchPair; try dsimp only
  (repeat' split) <;> simp
@[simp] theorem latchPair_inputs_strobe (p : Pair) (s : State) : (latchPair p s).inputs.strobe = s.inputs.strobe := by
  unfold latchPair; try dsimp only
  (repeat' split) <;> simp
@[simp] theorem latchPair_inputs_curtain (p : Pair) (s : State) : (latchPair p s).inputs.curtain = s.inputs.curtain := by
  unfold latchPair; try dsimp only
  (repeat' split) <;> simp
@[simp] theorem latchPair_inputs_door (p : Pair) (s : State) : (latchPair p s).inputs.door = s.inputs.door := by
  unfold latchPair; try dsimp only
  (repeat' split) <;> simp
@[simp] theorem latchPair_inputs_lever (p : Pair) (s : State) : (latchPair p s).inputs.lever = s.inputs.lever := by
  unfold latchPair; try dsimp only
  (repeat' split) <;> simp
@[simp] theorem latchPair_inputs_cashbox (p : Pair) (s : State) : (latchPair p s).inputs.cashbox = s.inputs.cashbox := by
  unfold latchPair; try dsimp only
  (repeat' split) <;> simp
@[simp] theorem latchPair_inputs_exit (p : Pair) (s : State) : (latchPair p s).inputs.exit = s.inputs.exit := by
  unfold latchPair; try dsimp only
  (repeat' split) <;> simp
@[simp] theorem latchPair_inputs_empties (p : Pair) (s : State) : (latchPair p s).inputs.empties = s.inputs.empties := by
  unfold latchPair; try dsimp only
  (repeat' split) <;> simp
@[simp] theorem latchPair_inputs_fulls (p : Pair) (s : State) : (latchPair p s).inputs.fulls = s.inputs.fulls := by
  unfold latchPair; try dsimp only
  (repeat' split) <;> simp
@[simp] theorem latchPair_inputs_codes (p : Pair) (s : State) : (latchPair p s).inputs.codes = s.inputs.codes := by
  unfold latchPair; try dsimp only
  (repeat' split) <;> simp
@[simp] theorem latchPair_inputs_lastCodes (p : Pair) (s : State) : (latchPair p s).inputs.lastCodes = s.inputs.lastCodes := by
  unfold latchPair; try dsimp only
  (repeat' split) <;> simp
@[simp] theorem latchPair_inputs_camLines (p : Pair) (s : State) : (latchPair p s).inputs.camLines = s.inputs.camLines := by
  unfold latchPair; try dsimp only
  (repeat' split) <;> simp
@[simp] theorem latchPair_inputs_half (p : Pair) (s : State) : (latchPair p s).inputs.half = s.inputs.half := by
  unfold latchPair; try dsimp only
  (repeat' split) <;> simp
@[simp] theorem latchPair_mxd_state (p : Pair) (s : State) : (latchPair p s).mxd.state = s.mxd.state := by
  unfold latchPair; try dsimp only
  (repeat' split) <;> simp
@[simp] theorem latchPair_mxd_staging (p : Pair) (s : State) : (latchPair p s).mxd.staging = s.mxd.staging := by
  unfold latchPair; try dsimp only
  (repeat' split) <;> simp
@[simp] theorem latchPair_mxd_fault (p : Pair) (s : State) : (latchPair p s).mxd.fault = s.mxd.fault := by
  unfold latchPair; try dsimp only
  (repeat' split) <;> simp
@[simp] theorem latchPair_mxd_lastSample (p : Pair) (s : State) : (latchPair p s).mxd.lastSample = s.mxd.lastSample := by
  unfold latchPair; try dsimp only
  (repeat' split) <;> simp
@[simp] theorem latchPair_mxd_tick (p : Pair) (s : State) : (latchPair p s).mxd.tick = s.mxd.tick := by
  unfold latchPair; try dsimp only
  (repeat' split) <;> simp
@[simp] theorem latchAllOff_pending (s : State) : (latchAllOff s).pending = s.pending := by
  unfold latchAllOff; try dsimp only
  (repeat' split) <;> simp
@[simp] theorem latchAllOff_due (s : State) : (latchAllOff s).due = s.due := by
  unfold latchAllOff; try dsimp only
  (repeat' split) <;> simp
@[simp] theorem latchAllOff_phase (s : State) : (latchAllOff s).phase = s.phase := by
  unfold latchAllOff; try dsimp only
  (repeat' split) <;> simp
@[simp] theorem latchAllOff_outputs (s : State) : (latchAllOff s).outputs = s.outputs := by
  unfold latchAllOff; try dsimp only
  (repeat' split) <;> simp
@[simp] theorem latchAllOff_params (s : State) : (latchAllOff s).params = s.params := by
  unfold latchAllOff; try dsimp only
  (repeat' split) <;> simp
@[simp] theorem latchAllOff_cnu (s : State) : (latchAllOff s).cnu = s.cnu := by
  unfold latchAllOff; try dsimp only
  (repeat' split) <;> simp
@[simp] theorem latchAllOff_cru (s : State) : (latchAllOff s).cru = s.cru := by
  unfold latchAllOff; try dsimp only
  (repeat' split) <;> simp
@[simp] theorem latchAllOff_cca (s : State) : (latchAllOff s).cca = s.cca := by
  unfold latchAllOff; try dsimp only
  (repeat' split) <;> simp
@[simp] theorem latchAllOff_vsq (s : State) : (latchAllOff s).vsq = s.vsq := by
  unfold latchAllOff; try dsimp only
  (repeat' split) <;> simp
@[simp] theorem latchAllOff_rfc (s : State) : (latchAllOff s).rfc = s.rfc := by
  unfold latchAllOff; try dsimp only
  (repeat' split) <;> simp
@[simp] theorem latchAllOff_lbu (s : State) : (latchAllOff s).lbu = s.lbu := by
  unfold latchAllOff; try dsimp only
  (repeat' split) <;> simp
@[simp] theorem latchAllOff_lnk (s : State) : (latchAllOff s).lnk = s.lnk := by
  unfold latchAllOff; try dsimp only
  (repeat' split) <;> simp
@[simp] theorem latchAllOff_ssu (s : State) : (latchAllOff s).ssu = s.ssu := by
  unfold latchAllOff; try dsimp only
  (repeat' split) <;> simp
@[simp] theorem latchAllOff_inputs_strobe (s : State) : (latchAllOff s).inputs.strobe = s.inputs.strobe := by
  unfold latchAllOff; try dsimp only
  (repeat' split) <;> simp
@[simp] theorem latchAllOff_inputs_curtain (s : State) : (latchAllOff s).inputs.curtain = s.inputs.curtain := by
  unfold latchAllOff; try dsimp only
  (repeat' split) <;> simp
@[simp] theorem latchAllOff_inputs_door (s : State) : (latchAllOff s).inputs.door = s.inputs.door := by
  unfold latchAllOff; try dsimp only
  (repeat' split) <;> simp
@[simp] theorem latchAllOff_inputs_lever (s : State) : (latchAllOff s).inputs.lever = s.inputs.lever := by
  unfold latchAllOff; try dsimp only
  (repeat' split) <;> simp
@[simp] theorem latchAllOff_inputs_cashbox (s : State) : (latchAllOff s).inputs.cashbox = s.inputs.cashbox := by
  unfold latchAllOff; try dsimp only
  (repeat' split) <;> simp
@[simp] theorem latchAllOff_inputs_exit (s : State) : (latchAllOff s).inputs.exit = s.inputs.exit := by
  unfold latchAllOff; try dsimp only
  (repeat' split) <;> simp
@[simp] theorem latchAllOff_inputs_empties (s : State) : (latchAllOff s).inputs.empties = s.inputs.empties := by
  unfold latchAllOff; try dsimp only
  (repeat' split) <;> simp
@[simp] theorem latchAllOff_inputs_fulls (s : State) : (latchAllOff s).inputs.fulls = s.inputs.fulls := by
  unfold latchAllOff; try dsimp only
  (repeat' split) <;> simp
@[simp] theorem latchAllOff_inputs_codes (s : State) : (latchAllOff s).inputs.codes = s.inputs.codes := by
  unfold latchAllOff; try dsimp only
  (repeat' split) <;> simp
@[simp] theorem latchAllOff_inputs_lastCodes (s : State) : (latchAllOff s).inputs.lastCodes = s.inputs.lastCodes := by
  unfold latchAllOff; try dsimp only
  (repeat' split) <;> simp
@[simp] theorem latchAllOff_inputs_camLines (s : State) : (latchAllOff s).inputs.camLines = s.inputs.camLines := by
  unfold latchAllOff; try dsimp only
  (repeat' split) <;> simp
@[simp] theorem latchAllOff_inputs_half (s : State) : (latchAllOff s).inputs.half = s.inputs.half := by
  unfold latchAllOff; try dsimp only
  (repeat' split) <;> simp
@[simp] theorem latchAllOff_mxd_state (s : State) : (latchAllOff s).mxd.state = s.mxd.state := by
  unfold latchAllOff; try dsimp only
  (repeat' split) <;> simp
@[simp] theorem latchAllOff_mxd_staging (s : State) : (latchAllOff s).mxd.staging = s.mxd.staging := by
  unfold latchAllOff; try dsimp only
  (repeat' split) <;> simp
@[simp] theorem latchAllOff_mxd_fault (s : State) : (latchAllOff s).mxd.fault = s.mxd.fault := by
  unfold latchAllOff; try dsimp only
  (repeat' split) <;> simp
@[simp] theorem latchAllOff_mxd_samples (s : State) : (latchAllOff s).mxd.samples = s.mxd.samples := by
  unfold latchAllOff; try dsimp only
  (repeat' split) <;> simp
@[simp] theorem latchAllOff_mxd_stallRun (s : State) : (latchAllOff s).mxd.stallRun = s.mxd.stallRun := by
  unfold latchAllOff; try dsimp only
  (repeat' split) <;> simp
@[simp] theorem latchAllOff_mxd_lastSample (s : State) : (latchAllOff s).mxd.lastSample = s.mxd.lastSample := by
  unfold latchAllOff; try dsimp only
  (repeat' split) <;> simp
@[simp] theorem latchAllOff_mxd_tick (s : State) : (latchAllOff s).mxd.tick = s.mxd.tick := by
  unfold latchAllOff; try dsimp only
  (repeat' split) <;> simp
@[simp] theorem enterFault_pending (f : FaultRecord) (s : State) : (enterFault f s).pending = s.pending := by
  unfold enterFault; try dsimp only
  (repeat' split) <;> simp
@[simp] theorem enterFault_due (f : FaultRecord) (s : State) : (enterFault f s).due = s.due := by
  unfold enterFault; try dsimp only
  (repeat' split) <;> simp
@[simp] theorem enterFault_phase (f : FaultRecord) (s : State) : (enterFault f s).phase = s.phase := by
  unfold enterFault; try dsimp only
  (repeat' split) <;> simp
@[simp] theorem enterFault_outputs (f : FaultRecord) (s : State) : (enterFault f s).outputs = s.outputs := by
  unfold enterFault; try dsimp only
  (repeat' split) <;> simp
@[simp] theorem enterFault_params (f : FaultRecord) (s : State) : (enterFault f s).params = s.params := by
  unfold enterFault; try dsimp only
  (repeat' split) <;> simp
@[simp] theorem enterFault_cnu (f : FaultRecord) (s : State) : (enterFault f s).cnu = s.cnu := by
  unfold enterFault; try dsimp only
  (repeat' split) <;> simp
@[simp] theorem enterFault_cru (f : FaultRecord) (s : State) : (enterFault f s).cru = s.cru := by
  unfold enterFault; try dsimp only
  (repeat' split) <;> simp
@[simp] theorem enterFault_cca (f : FaultRecord) (s : State) : (enterFault f s).cca = s.cca := by
  unfold enterFault; try dsimp only
  (repeat' split) <;> simp
@[simp] theorem enterFault_vsq (f : FaultRecord) (s : State) : (enterFault f s).vsq = s.vsq := by
  unfold enterFault; try dsimp only
  (repeat' split) <;> simp
@[simp] theorem enterFault_rfc (f : FaultRecord) (s : State) : (enterFault f s).rfc = s.rfc := by
  unfold enterFault; try dsimp only
  (repeat' split) <;> simp
@[simp] theorem enterFault_lbu (f : FaultRecord) (s : State) : (enterFault f s).lbu = s.lbu := by
  unfold enterFault; try dsimp only
  (repeat' split) <;> simp
@[simp] theorem enterFault_ssu (f : FaultRecord) (s : State) : (enterFault f s).ssu = s.ssu := by
  unfold enterFault; try dsimp only
  (repeat' split) <;> simp
@[simp] theorem enterFault_inputs_strobe (f : FaultRecord) (s : State) : (enterFault f s).inputs.strobe = s.inputs.strobe := by
  unfold enterFault; try dsimp only
  (repeat' split) <;> simp
@[simp] theorem enterFault_inputs_curtain (f : FaultRecord) (s : State) : (enterFault f s).inputs.curtain = s.inputs.curtain := by
  unfold enterFault; try dsimp only
  (repeat' split) <;> simp
@[simp] theorem enterFault_inputs_door (f : FaultRecord) (s : State) : (enterFault f s).inputs.door = s.inputs.door := by
  unfold enterFault; try dsimp only
  (repeat' split) <;> simp
@[simp] theorem enterFault_inputs_lever (f : FaultRecord) (s : State) : (enterFault f s).inputs.lever = s.inputs.lever := by
  unfold enterFault; try dsimp only
  (repeat' split) <;> simp
@[simp] theorem enterFault_inputs_cashbox (f : FaultRecord) (s : State) : (enterFault f s).inputs.cashbox = s.inputs.cashbox := by
  unfold enterFault; try dsimp only
  (repeat' split) <;> simp
@[simp] theorem enterFault_inputs_exit (f : FaultRecord) (s : State) : (enterFault f s).inputs.exit = s.inputs.exit := by
  unfold enterFault; try dsimp only
  (repeat' split) <;> simp
@[simp] theorem enterFault_inputs_empties (f : FaultRecord) (s : State) : (enterFault f s).inputs.empties = s.inputs.empties := by
  unfold enterFault; try dsimp only
  (repeat' split) <;> simp
@[simp] theorem enterFault_inputs_fulls (f : FaultRecord) (s : State) : (enterFault f s).inputs.fulls = s.inputs.fulls := by
  unfold enterFault; try dsimp only
  (repeat' split) <;> simp
@[simp] theorem enterFault_inputs_codes (f : FaultRecord) (s : State) : (enterFault f s).inputs.codes = s.inputs.codes := by
  unfold enterFault; try dsimp only
  (repeat' split) <;> simp
@[simp] theorem enterFault_inputs_lastCodes (f : FaultRecord) (s : State) : (enterFault f s).inputs.lastCodes = s.inputs.lastCodes := by
  unfold enterFault; try dsimp only
  (repeat' split) <;> simp
@[simp] theorem enterFault_inputs_camLines (f : FaultRecord) (s : State) : (enterFault f s).inputs.camLines = s.inputs.camLines := by
  unfold enterFault; try dsimp only
  (repeat' split) <;> simp
@[simp] theorem enterFault_inputs_half (f : FaultRecord) (s : State) : (enterFault f s).inputs.half = s.inputs.half := by
  unfold enterFault; try dsimp only
  (repeat' split) <;> simp
@[simp] theorem enterFault_mxd_hold (f : FaultRecord) (s : State) : (enterFault f s).mxd.hold = s.mxd.hold := by
  unfold enterFault; try dsimp only
  (repeat' split) <;> simp
@[simp] theorem enterFault_mxd_samples (f : FaultRecord) (s : State) : (enterFault f s).mxd.samples = s.mxd.samples := by
  unfold enterFault; try dsimp only
  (repeat' split) <;> simp
@[simp] theorem enterFault_mxd_stallRun (f : FaultRecord) (s : State) : (enterFault f s).mxd.stallRun = s.mxd.stallRun := by
  unfold enterFault; try dsimp only
  (repeat' split) <;> simp
@[simp] theorem enterFault_mxd_lastSample (f : FaultRecord) (s : State) : (enterFault f s).mxd.lastSample = s.mxd.lastSample := by
  unfold enterFault; try dsimp only
  (repeat' split) <;> simp
@[simp] theorem enterFault_mxd_tick (f : FaultRecord) (s : State) : (enterFault f s).mxd.tick = s.mxd.tick := by
  unfold enterFault; try dsimp only
  (repeat' split) <;> simp
@[simp] theorem enterFault_lnk_state (f : FaultRecord) (s : State) : (enterFault f s).lnk.state = s.lnk.state := by
  unfold enterFault; try dsimp only
  (repeat' split) <;> simp
@[simp] theorem enterFault_lnk_heard (f : FaultRecord) (s : State) : (enterFault f s).lnk.heard = s.lnk.heard := by
  unfold enterFault; try dsimp only
  (repeat' split) <;> simp
@[simp] theorem enterFault_lnk_acknowledged (f : FaultRecord) (s : State) : (enterFault f s).lnk.acknowledged = s.lnk.acknowledged := by
  unfold enterFault; try dsimp only
  (repeat' split) <;> simp
@[simp] theorem enterFault_lnk_isolationTimer (f : FaultRecord) (s : State) : (enterFault f s).lnk.isolationTimer = s.lnk.isolationTimer := by
  unfold enterFault; try dsimp only
  (repeat' split) <;> simp
@[simp] theorem enterFault_lnk_change (f : FaultRecord) (s : State) : (enterFault f s).lnk.change = s.lnk.change := by
  unfold enterFault; try dsimp only
  (repeat' split) <;> simp
@[simp] theorem enterFault_lnk_silentTimer (f : FaultRecord) (s : State) : (enterFault f s).lnk.silentTimer = s.lnk.silentTimer := by
  unfold enterFault; try dsimp only
  (repeat' split) <;> simp
@[simp] theorem enterFault_lnk_failures (f : FaultRecord) (s : State) : (enterFault f s).lnk.failures = s.lnk.failures := by
  unfold enterFault; try dsimp only
  (repeat' split) <;> simp
@[simp] theorem enterFault_lnk_unknownFrames (f : FaultRecord) (s : State) : (enterFault f s).lnk.unknownFrames = s.lnk.unknownFrames := by
  unfold enterFault; try dsimp only
  (repeat' split) <;> simp
@[simp] theorem enterFault_lnk_droppedFrames (f : FaultRecord) (s : State) : (enterFault f s).lnk.droppedFrames = s.lnk.droppedFrames := by
  unfold enterFault; try dsimp only
  (repeat' split) <;> simp
@[simp] theorem enterFault_lnk_silentEntries (f : FaultRecord) (s : State) : (enterFault f s).lnk.silentEntries = s.lnk.silentEntries := by
  unfold enterFault; try dsimp only
  (repeat' split) <;> simp
@[simp] theorem readback_pending (r : BitVec 8) (c : BitVec 10) (s : State) : ((readback r c s).1).pending = s.pending := by
  unfold readback; try dsimp only
  (repeat' split) <;> simp
@[simp] theorem readback_due (r : BitVec 8) (c : BitVec 10) (s : State) : ((readback r c s).1).due = s.due := by
  unfold readback; try dsimp only
  (repeat' split) <;> simp
@[simp] theorem readback_phase (r : BitVec 8) (c : BitVec 10) (s : State) : ((readback r c s).1).phase = s.phase := by
  unfold readback; try dsimp only
  (repeat' split) <;> simp
@[simp] theorem readback_inputs (r : BitVec 8) (c : BitVec 10) (s : State) : ((readback r c s).1).inputs = s.inputs := by
  unfold readback; try dsimp only
  (repeat' split) <;> simp
@[simp] theorem readback_outputs (r : BitVec 8) (c : BitVec 10) (s : State) : ((readback r c s).1).outputs = s.outputs := by
  unfold readback; try dsimp only
  (repeat' split) <;> simp
@[simp] theorem readback_params (r : BitVec 8) (c : BitVec 10) (s : State) : ((readback r c s).1).params = s.params := by
  unfold readback; try dsimp only
  (repeat' split) <;> simp
@[simp] theorem readback_cnu (r : BitVec 8) (c : BitVec 10) (s : State) : ((readback r c s).1).cnu = s.cnu := by
  unfold readback; try dsimp only
  (repeat' split) <;> simp
@[simp] theorem readback_cru (r : BitVec 8) (c : BitVec 10) (s : State) : ((readback r c s).1).cru = s.cru := by
  unfold readback; try dsimp only
  (repeat' split) <;> simp
@[simp] theorem readback_cca (r : BitVec 8) (c : BitVec 10) (s : State) : ((readback r c s).1).cca = s.cca := by
  unfold readback; try dsimp only
  (repeat' split) <;> simp
@[simp] theorem readback_vsq (r : BitVec 8) (c : BitVec 10) (s : State) : ((readback r c s).1).vsq = s.vsq := by
  unfold readback; try dsimp only
  (repeat' split) <;> simp
@[simp] theorem readback_rfc (r : BitVec 8) (c : BitVec 10) (s : State) : ((readback r c s).1).rfc = s.rfc := by
  unfold readback; try dsimp only
  (repeat' split) <;> simp
@[simp] theorem readback_lbu (r : BitVec 8) (c : BitVec 10) (s : State) : ((readback r c s).1).lbu = s.lbu := by
  unfold readback; try dsimp only
  (repeat' split) <;> simp
@[simp] theorem readback_lnk (r : BitVec 8) (c : BitVec 10) (s : State) : ((readback r c s).1).lnk = s.lnk := by
  unfold readback; try dsimp only
  (repeat' split) <;> simp
@[simp] theorem readback_ssu (r : BitVec 8) (c : BitVec 10) (s : State) : ((readback r c s).1).ssu = s.ssu := by
  unfold readback; try dsimp only
  (repeat' split) <;> simp
@[simp] theorem readback_mxd_state (r : BitVec 8) (c : BitVec 10) (s : State) : ((readback r c s).1).mxd.state = s.mxd.state := by
  unfold readback; try dsimp only
  (repeat' split) <;> simp
@[simp] theorem readback_mxd_staging (r : BitVec 8) (c : BitVec 10) (s : State) : ((readback r c s).1).mxd.staging = s.mxd.staging := by
  unfold readback; try dsimp only
  (repeat' split) <;> simp
@[simp] theorem readback_mxd_latch (r : BitVec 8) (c : BitVec 10) (s : State) : ((readback r c s).1).mxd.latch = s.mxd.latch := by
  unfold readback; try dsimp only
  (repeat' split) <;> simp
@[simp] theorem readback_mxd_fault (r : BitVec 8) (c : BitVec 10) (s : State) : ((readback r c s).1).mxd.fault = s.mxd.fault := by
  unfold readback; try dsimp only
  (repeat' split) <;> simp
@[simp] theorem readback_mxd_energised (r : BitVec 8) (c : BitVec 10) (s : State) : ((readback r c s).1).mxd.energised = s.mxd.energised := by
  unfold readback; try dsimp only
  (repeat' split) <;> simp
@[simp] theorem readback_mxd_samples (r : BitVec 8) (c : BitVec 10) (s : State) : ((readback r c s).1).mxd.samples = s.mxd.samples := by
  unfold readback; try dsimp only
  (repeat' split) <;> simp
@[simp] theorem readback_mxd_stallRun (r : BitVec 8) (c : BitVec 10) (s : State) : ((readback r c s).1).mxd.stallRun = s.mxd.stallRun := by
  unfold readback; try dsimp only
  (repeat' split) <;> simp
@[simp] theorem readback_mxd_supervision (r : BitVec 8) (c : BitVec 10) (s : State) : ((readback r c s).1).mxd.supervision = s.mxd.supervision := by
  unfold readback; try dsimp only
  (repeat' split) <;> simp
@[simp] theorem readback_mxd_lastSample (r : BitVec 8) (c : BitVec 10) (s : State) : ((readback r c s).1).mxd.lastSample = s.mxd.lastSample := by
  unfold readback; try dsimp only
  (repeat' split) <;> simp
@[simp] theorem readback_mxd_tick (r : BitVec 8) (c : BitVec 10) (s : State) : ((readback r c s).1).mxd.tick = s.mxd.tick := by
  unfold readback; try dsimp only
  (repeat' split) <;> simp
@[simp] theorem clearFaultState_pending (d : DriveState) (s : State) : (clearFaultState d s).pending = s.pending := by
  unfold clearFaultState; try dsimp only
  (repeat' split) <;> simp
@[simp] theorem clearFaultState_due (d : DriveState) (s : State) : (clearFaultState d s).due = s.due := by
  unfold clearFaultState; try dsimp only
  (repeat' split) <;> simp
@[simp] theorem clearFaultState_phase (d : DriveState) (s : State) : (clearFaultState d s).phase = s.phase := by
  unfold clearFaultState; try dsimp only
  (repeat' split) <;> simp
@[simp] theorem clearFaultState_inputs (d : DriveState) (s : State) : (clearFaultState d s).inputs = s.inputs := by
  unfold clearFaultState; try dsimp only
  (repeat' split) <;> simp
@[simp] theorem clearFaultState_outputs (d : DriveState) (s : State) : (clearFaultState d s).outputs = s.outputs := by
  unfold clearFaultState; try dsimp only
  (repeat' split) <;> simp
@[simp] theorem clearFaultState_params (d : DriveState) (s : State) : (clearFaultState d s).params = s.params := by
  unfold clearFaultState; try dsimp only
  (repeat' split) <;> simp
@[simp] theorem clearFaultState_cnu (d : DriveState) (s : State) : (clearFaultState d s).cnu = s.cnu := by
  unfold clearFaultState; try dsimp only
  (repeat' split) <;> simp
@[simp] theorem clearFaultState_cru (d : DriveState) (s : State) : (clearFaultState d s).cru = s.cru := by
  unfold clearFaultState; try dsimp only
  (repeat' split) <;> simp
@[simp] theorem clearFaultState_cca (d : DriveState) (s : State) : (clearFaultState d s).cca = s.cca := by
  unfold clearFaultState; try dsimp only
  (repeat' split) <;> simp
@[simp] theorem clearFaultState_vsq (d : DriveState) (s : State) : (clearFaultState d s).vsq = s.vsq := by
  unfold clearFaultState; try dsimp only
  (repeat' split) <;> simp
@[simp] theorem clearFaultState_rfc (d : DriveState) (s : State) : (clearFaultState d s).rfc = s.rfc := by
  unfold clearFaultState; try dsimp only
  (repeat' split) <;> simp
@[simp] theorem clearFaultState_lbu (d : DriveState) (s : State) : (clearFaultState d s).lbu = s.lbu := by
  unfold clearFaultState; try dsimp only
  (repeat' split) <;> simp
@[simp] theorem clearFaultState_ssu (d : DriveState) (s : State) : (clearFaultState d s).ssu = s.ssu := by
  unfold clearFaultState; try dsimp only
  (repeat' split) <;> simp
@[simp] theorem clearFaultState_mxd_latch (d : DriveState) (s : State) : (clearFaultState d s).mxd.latch = s.mxd.latch := by
  unfold clearFaultState; try dsimp only
  (repeat' split) <;> simp
@[simp] theorem clearFaultState_mxd_energised (d : DriveState) (s : State) : (clearFaultState d s).mxd.energised = s.mxd.energised := by
  unfold clearFaultState; try dsimp only
  (repeat' split) <;> simp
@[simp] theorem clearFaultState_mxd_samples (d : DriveState) (s : State) : (clearFaultState d s).mxd.samples = s.mxd.samples := by
  unfold clearFaultState; try dsimp only
  (repeat' split) <;> simp
@[simp] theorem clearFaultState_mxd_stallRun (d : DriveState) (s : State) : (clearFaultState d s).mxd.stallRun = s.mxd.stallRun := by
  unfold clearFaultState; try dsimp only
  (repeat' split) <;> simp
@[simp] theorem clearFaultState_mxd_supervision (d : DriveState) (s : State) : (clearFaultState d s).mxd.supervision = s.mxd.supervision := by
  unfold clearFaultState; try dsimp only
  (repeat' split) <;> simp
@[simp] theorem clearFaultState_mxd_lastSample (d : DriveState) (s : State) : (clearFaultState d s).mxd.lastSample = s.mxd.lastSample := by
  unfold clearFaultState; try dsimp only
  (repeat' split) <;> simp
@[simp] theorem clearFaultState_mxd_tick (d : DriveState) (s : State) : (clearFaultState d s).mxd.tick = s.mxd.tick := by
  unfold clearFaultState; try dsimp only
  (repeat' split) <;> simp
@[simp] theorem clearFaultState_lnk_state (d : DriveState) (s : State) : (clearFaultState d s).lnk.state = s.lnk.state := by
  unfold clearFaultState; try dsimp only
  (repeat' split) <;> simp
@[simp] theorem clearFaultState_lnk_heard (d : DriveState) (s : State) : (clearFaultState d s).lnk.heard = s.lnk.heard := by
  unfold clearFaultState; try dsimp only
  (repeat' split) <;> simp
@[simp] theorem clearFaultState_lnk_acknowledged (d : DriveState) (s : State) : (clearFaultState d s).lnk.acknowledged = s.lnk.acknowledged := by
  unfold clearFaultState; try dsimp only
  (repeat' split) <;> simp
@[simp] theorem clearFaultState_lnk_isolationTimer (d : DriveState) (s : State) : (clearFaultState d s).lnk.isolationTimer = s.lnk.isolationTimer := by
  unfold clearFaultState; try dsimp only
  (repeat' split) <;> simp
@[simp] theorem clearFaultState_lnk_change (d : DriveState) (s : State) : (clearFaultState d s).lnk.change = s.lnk.change := by
  unfold clearFaultState; try dsimp only
  (repeat' split) <;> simp
@[simp] theorem clearFaultState_lnk_silentTimer (d : DriveState) (s : State) : (clearFaultState d s).lnk.silentTimer = s.lnk.silentTimer := by
  unfold clearFaultState; try dsimp only
  (repeat' split) <;> simp
@[simp] theorem clearFaultState_lnk_failures (d : DriveState) (s : State) : (clearFaultState d s).lnk.failures = s.lnk.failures := by
  unfold clearFaultState; try dsimp only
  (repeat' split) <;> simp
@[simp] theorem clearFaultState_lnk_unknownFrames (d : DriveState) (s : State) : (clearFaultState d s).lnk.unknownFrames = s.lnk.unknownFrames := by
  unfold clearFaultState; try dsimp only
  (repeat' split) <;> simp
@[simp] theorem clearFaultState_lnk_droppedFrames (d : DriveState) (s : State) : (clearFaultState d s).lnk.droppedFrames = s.lnk.droppedFrames := by
  unfold clearFaultState; try dsimp only
  (repeat' split) <;> simp
@[simp] theorem clearFaultState_lnk_silentEntries (d : DriveState) (s : State) : (clearFaultState d s).lnk.silentEntries = s.lnk.silentEntries := by
  unfold clearFaultState; try dsimp only
  (repeat' split) <;> simp
@[simp] theorem enterWant_pending (s : State) : (enterWant s).pending = s.pending := by
  unfold enterWant; try dsimp only
  (repeat' split) <;> simp
@[simp] theorem enterWant_due (s : State) : (enterWant s).due = s.due := by
  unfold enterWant; try dsimp only
  (repeat' split) <;> simp
@[simp] theorem enterWant_phase (s : State) : (enterWant s).phase = s.phase := by
  unfold enterWant; try dsimp only
  (repeat' split) <;> simp
@[simp] theorem enterWant_inputs (s : State) : (enterWant s).inputs = s.inputs := by
  unfold enterWant; try dsimp only
  (repeat' split) <;> simp
@[simp] theorem enterWant_outputs (s : State) : (enterWant s).outputs = s.outputs := by
  unfold enterWant; try dsimp only
  (repeat' split) <;> simp
@[simp] theorem enterWant_params (s : State) : (enterWant s).params = s.params := by
  unfold enterWant; try dsimp only
  (repeat' split) <;> simp
@[simp] theorem enterWant_cnu (s : State) : (enterWant s).cnu = s.cnu := by
  unfold enterWant; try dsimp only
  (repeat' split) <;> simp
@[simp] theorem enterWant_cru (s : State) : (enterWant s).cru = s.cru := by
  unfold enterWant; try dsimp only
  (repeat' split) <;> simp
@[simp] theorem enterWant_cca (s : State) : (enterWant s).cca = s.cca := by
  unfold enterWant; try dsimp only
  (repeat' split) <;> simp
@[simp] theorem enterWant_vsq (s : State) : (enterWant s).vsq = s.vsq := by
  unfold enterWant; try dsimp only
  (repeat' split) <;> simp
@[simp] theorem enterWant_mxd (s : State) : (enterWant s).mxd = s.mxd := by
  unfold enterWant; try dsimp only
  (repeat' split) <;> simp
@[simp] theorem enterWant_ssu (s : State) : (enterWant s).ssu = s.ssu := by
  unfold enterWant; try dsimp only
  (repeat' split) <;> simp
@[simp] theorem enterWant_rfc_cabinet (s : State) : (enterWant s).rfc.cabinet = s.rfc.cabinet := by
  unfold enterWant; try dsimp only
  (repeat' split) <;> simp
@[simp] theorem enterWant_rfc_evaporator (s : State) : (enterWant s).rfc.evaporator = s.rfc.evaporator := by
  unfold enterWant; try dsimp only
  (repeat' split) <;> simp
@[simp] theorem enterWant_rfc_lockoutTimer (s : State) : (enterWant s).rfc.lockoutTimer = s.rfc.lockoutTimer := by
  unfold enterWant; try dsimp only
  (repeat' split) <;> simp
@[simp] theorem enterWant_rfc_startTimer (s : State) : (enterWant s).rfc.startTimer = s.rfc.startTimer := by
  unfold enterWant; try dsimp only
  (repeat' split) <;> simp
@[simp] theorem enterWant_rfc_onTimer (s : State) : (enterWant s).rfc.onTimer = s.rfc.onTimer := by
  unfold enterWant; try dsimp only
  (repeat' split) <;> simp
@[simp] theorem enterWant_rfc_offTimer (s : State) : (enterWant s).rfc.offTimer = s.rfc.offTimer := by
  unfold enterWant; try dsimp only
  (repeat' split) <;> simp
@[simp] theorem enterWant_rfc_accumulator (s : State) : (enterWant s).rfc.accumulator = s.rfc.accumulator := by
  unfold enterWant; try dsimp only
  (repeat' split) <;> simp
@[simp] theorem enterWant_rfc_second (s : State) : (enterWant s).rfc.second = s.rfc.second := by
  unfold enterWant; try dsimp only
  (repeat' split) <;> simp
@[simp] theorem enterWant_rfc_defrostDue (s : State) : (enterWant s).rfc.defrostDue = s.rfc.defrostDue := by
  unfold enterWant; try dsimp only
  (repeat' split) <;> simp
@[simp] theorem enterWant_rfc_defrostTimer (s : State) : (enterWant s).rfc.defrostTimer = s.rfc.defrostTimer := by
  unfold enterWant; try dsimp only
  (repeat' split) <;> simp
@[simp] theorem enterWant_rfc_heaterMode (s : State) : (enterWant s).rfc.heaterMode = s.rfc.heaterMode := by
  unfold enterWant; try dsimp only
  (repeat' split) <;> simp
@[simp] theorem enterWant_rfc_dripTimer (s : State) : (enterWant s).rfc.dripTimer = s.rfc.dripTimer := by
  unfold enterWant; try dsimp only
  (repeat' split) <;> simp
@[simp] theorem enterWant_rfc_sellableCold (s : State) : (enterWant s).rfc.sellableCold = s.rfc.sellableCold := by
  unfold enterWant; try dsimp only
  (repeat' split) <;> simp
@[simp] theorem enterWant_rfc_warmTimer (s : State) : (enterWant s).rfc.warmTimer = s.rfc.warmTimer := by
  unfold enterWant; try dsimp only
  (repeat' split) <;> simp
@[simp] theorem enterWant_rfc_hotHold (s : State) : (enterWant s).rfc.hotHold = s.rfc.hotHold := by
  unfold enterWant; try dsimp only
  (repeat' split) <;> simp
@[simp] theorem enterWant_lbu_peers (s : State) : (enterWant s).lbu.peers = s.lbu.peers := by
  unfold enterWant; try dsimp only
  (repeat' split) <;> simp
@[simp] theorem enterWant_lbu_ignored (s : State) : (enterWant s).lbu.ignored = s.lbu.ignored := by
  unfold enterWant; try dsimp only
  (repeat' split) <;> simp
@[simp] theorem enterWant_lbu_objectSum (s : State) : (enterWant s).lbu.objectSum = s.lbu.objectSum := by
  unfold enterWant; try dsimp only
  (repeat' split) <;> simp
@[simp] theorem enterWant_lnk_state (s : State) : (enterWant s).lnk.state = s.lnk.state := by
  unfold enterWant; try dsimp only
  (repeat' split) <;> simp
@[simp] theorem enterWant_lnk_heard (s : State) : (enterWant s).lnk.heard = s.lnk.heard := by
  unfold enterWant; try dsimp only
  (repeat' split) <;> simp
@[simp] theorem enterWant_lnk_acknowledged (s : State) : (enterWant s).lnk.acknowledged = s.lnk.acknowledged := by
  unfold enterWant; try dsimp only
  (repeat' split) <;> simp
@[simp] theorem enterWant_lnk_isolationTimer (s : State) : (enterWant s).lnk.isolationTimer = s.lnk.isolationTimer := by
  unfold enterWant; try dsimp only
  (repeat' split) <;> simp
@[simp] theorem enterWant_lnk_silentTimer (s : State) : (enterWant s).lnk.silentTimer = s.lnk.silentTimer := by
  unfold enterWant; try dsimp only
  (repeat' split) <;> simp
@[simp] theorem enterWant_lnk_failures (s : State) : (enterWant s).lnk.failures = s.lnk.failures := by
  unfold enterWant; try dsimp only
  (repeat' split) <;> simp
@[simp] theorem enterWant_lnk_unknownFrames (s : State) : (enterWant s).lnk.unknownFrames = s.lnk.unknownFrames := by
  unfold enterWant; try dsimp only
  (repeat' split) <;> simp
@[simp] theorem enterWant_lnk_droppedFrames (s : State) : (enterWant s).lnk.droppedFrames = s.lnk.droppedFrames := by
  unfold enterWant; try dsimp only
  (repeat' split) <;> simp
@[simp] theorem enterWant_lnk_silentEntries (s : State) : (enterWant s).lnk.silentEntries = s.lnk.silentEntries := by
  unfold enterWant; try dsimp only
  (repeat' split) <;> simp
@[simp] theorem testOff_pending (s : State) : (testOff s).pending = s.pending := by
  unfold testOff; try dsimp only
  (repeat' split) <;> simp
@[simp] theorem testOff_due (s : State) : (testOff s).due = s.due := by
  unfold testOff; try dsimp only
  (repeat' split) <;> simp
@[simp] theorem testOff_phase (s : State) : (testOff s).phase = s.phase := by
  unfold testOff; try dsimp only
  (repeat' split) <;> simp
@[simp] theorem testOff_inputs (s : State) : (testOff s).inputs = s.inputs := by
  unfold testOff; try dsimp only
  (repeat' split) <;> simp
@[simp] theorem testOff_outputs (s : State) : (testOff s).outputs = s.outputs := by
  unfold testOff; try dsimp only
  (repeat' split) <;> simp
@[simp] theorem testOff_params (s : State) : (testOff s).params = s.params := by
  unfold testOff; try dsimp only
  (repeat' split) <;> simp
@[simp] theorem testOff_cnu (s : State) : (testOff s).cnu = s.cnu := by
  unfold testOff; try dsimp only
  (repeat' split) <;> simp
@[simp] theorem testOff_cru (s : State) : (testOff s).cru = s.cru := by
  unfold testOff; try dsimp only
  (repeat' split) <;> simp
@[simp] theorem testOff_cca (s : State) : (testOff s).cca = s.cca := by
  unfold testOff; try dsimp only
  (repeat' split) <;> simp
@[simp] theorem testOff_vsq (s : State) : (testOff s).vsq = s.vsq := by
  unfold testOff; try dsimp only
  (repeat' split) <;> simp
@[simp] theorem testOff_mxd (s : State) : (testOff s).mxd = s.mxd := by
  unfold testOff; try dsimp only
  (repeat' split) <;> simp
@[simp] theorem testOff_ssu (s : State) : (testOff s).ssu = s.ssu := by
  unfold testOff; try dsimp only
  (repeat' split) <;> simp
@[simp] theorem testOff_rfc_cabinet (s : State) : (testOff s).rfc.cabinet = s.rfc.cabinet := by
  unfold testOff; try dsimp only
  (repeat' split) <;> simp
@[simp] theorem testOff_rfc_evaporator (s : State) : (testOff s).rfc.evaporator = s.rfc.evaporator := by
  unfold testOff; try dsimp only
  (repeat' split) <;> simp
@[simp] theorem testOff_rfc_lockoutTimer (s : State) : (testOff s).rfc.lockoutTimer = s.rfc.lockoutTimer := by
  unfold testOff; try dsimp only
  (repeat' split) <;> simp
@[simp] theorem testOff_rfc_startTimer (s : State) : (testOff s).rfc.startTimer = s.rfc.startTimer := by
  unfold testOff; try dsimp only
  (repeat' split) <;> simp
@[simp] theorem testOff_rfc_onTimer (s : State) : (testOff s).rfc.onTimer = s.rfc.onTimer := by
  unfold testOff; try dsimp only
  (repeat' split) <;> simp
@[simp] theorem testOff_rfc_offTimer (s : State) : (testOff s).rfc.offTimer = s.rfc.offTimer := by
  unfold testOff; try dsimp only
  (repeat' split) <;> simp
@[simp] theorem testOff_rfc_accumulator (s : State) : (testOff s).rfc.accumulator = s.rfc.accumulator := by
  unfold testOff; try dsimp only
  (repeat' split) <;> simp
@[simp] theorem testOff_rfc_second (s : State) : (testOff s).rfc.second = s.rfc.second := by
  unfold testOff; try dsimp only
  (repeat' split) <;> simp
@[simp] theorem testOff_rfc_defrostDue (s : State) : (testOff s).rfc.defrostDue = s.rfc.defrostDue := by
  unfold testOff; try dsimp only
  (repeat' split) <;> simp
@[simp] theorem testOff_rfc_defrostTimer (s : State) : (testOff s).rfc.defrostTimer = s.rfc.defrostTimer := by
  unfold testOff; try dsimp only
  (repeat' split) <;> simp
@[simp] theorem testOff_rfc_heaterMode (s : State) : (testOff s).rfc.heaterMode = s.rfc.heaterMode := by
  unfold testOff; try dsimp only
  (repeat' split) <;> simp
@[simp] theorem testOff_rfc_dripTimer (s : State) : (testOff s).rfc.dripTimer = s.rfc.dripTimer := by
  unfold testOff; try dsimp only
  (repeat' split) <;> simp
@[simp] theorem testOff_rfc_sellableCold (s : State) : (testOff s).rfc.sellableCold = s.rfc.sellableCold := by
  unfold testOff; try dsimp only
  (repeat' split) <;> simp
@[simp] theorem testOff_rfc_warmTimer (s : State) : (testOff s).rfc.warmTimer = s.rfc.warmTimer := by
  unfold testOff; try dsimp only
  (repeat' split) <;> simp
@[simp] theorem testOff_rfc_hotHold (s : State) : (testOff s).rfc.hotHold = s.rfc.hotHold := by
  unfold testOff; try dsimp only
  (repeat' split) <;> simp
@[simp] theorem testOff_lbu_peers (s : State) : (testOff s).lbu.peers = s.lbu.peers := by
  unfold testOff; try dsimp only
  (repeat' split) <;> simp
@[simp] theorem testOff_lbu_ignored (s : State) : (testOff s).lbu.ignored = s.lbu.ignored := by
  unfold testOff; try dsimp only
  (repeat' split) <;> simp
@[simp] theorem testOff_lbu_objectSum (s : State) : (testOff s).lbu.objectSum = s.lbu.objectSum := by
  unfold testOff; try dsimp only
  (repeat' split) <;> simp
@[simp] theorem testOff_lnk_state (s : State) : (testOff s).lnk.state = s.lnk.state := by
  unfold testOff; try dsimp only
  (repeat' split) <;> simp
@[simp] theorem testOff_lnk_heard (s : State) : (testOff s).lnk.heard = s.lnk.heard := by
  unfold testOff; try dsimp only
  (repeat' split) <;> simp
@[simp] theorem testOff_lnk_acknowledged (s : State) : (testOff s).lnk.acknowledged = s.lnk.acknowledged := by
  unfold testOff; try dsimp only
  (repeat' split) <;> simp
@[simp] theorem testOff_lnk_isolationTimer (s : State) : (testOff s).lnk.isolationTimer = s.lnk.isolationTimer := by
  unfold testOff; try dsimp only
  (repeat' split) <;> simp
@[simp] theorem testOff_lnk_silentTimer (s : State) : (testOff s).lnk.silentTimer = s.lnk.silentTimer := by
  unfold testOff; try dsimp only
  (repeat' split) <;> simp
@[simp] theorem testOff_lnk_failures (s : State) : (testOff s).lnk.failures = s.lnk.failures := by
  unfold testOff; try dsimp only
  (repeat' split) <;> simp
@[simp] theorem testOff_lnk_unknownFrames (s : State) : (testOff s).lnk.unknownFrames = s.lnk.unknownFrames := by
  unfold testOff; try dsimp only
  (repeat' split) <;> simp
@[simp] theorem testOff_lnk_droppedFrames (s : State) : (testOff s).lnk.droppedFrames = s.lnk.droppedFrames := by
  unfold testOff; try dsimp only
  (repeat' split) <;> simp
@[simp] theorem testOff_lnk_silentEntries (s : State) : (testOff s).lnk.silentEntries = s.lnk.silentEntries := by
  unfold testOff; try dsimp only
  (repeat' split) <;> simp
@[simp] theorem enterLockout_pending (s : State) : (enterLockout s).pending = s.pending := by
  unfold enterLockout; try dsimp only
  (repeat' split) <;> simp
@[simp] theorem enterLockout_due (s : State) : (enterLockout s).due = s.due := by
  unfold enterLockout; try dsimp only
  (repeat' split) <;> simp
@[simp] theorem enterLockout_phase (s : State) : (enterLockout s).phase = s.phase := by
  unfold enterLockout; try dsimp only
  (repeat' split) <;> simp
@[simp] theorem enterLockout_inputs (s : State) : (enterLockout s).inputs = s.inputs := by
  unfold enterLockout; try dsimp only
  (repeat' split) <;> simp
@[simp] theorem enterLockout_outputs (s : State) : (enterLockout s).outputs = s.outputs := by
  unfold enterLockout; try dsimp only
  (repeat' split) <;> simp
@[simp] theorem enterLockout_params (s : State) : (enterLockout s).params = s.params := by
  unfold enterLockout; try dsimp only
  (repeat' split) <;> simp
@[simp] theorem enterLockout_cnu (s : State) : (enterLockout s).cnu = s.cnu := by
  unfold enterLockout; try dsimp only
  (repeat' split) <;> simp
@[simp] theorem enterLockout_cru (s : State) : (enterLockout s).cru = s.cru := by
  unfold enterLockout; try dsimp only
  (repeat' split) <;> simp
@[simp] theorem enterLockout_cca (s : State) : (enterLockout s).cca = s.cca := by
  unfold enterLockout; try dsimp only
  (repeat' split) <;> simp
@[simp] theorem enterLockout_vsq (s : State) : (enterLockout s).vsq = s.vsq := by
  unfold enterLockout; try dsimp only
  (repeat' split) <;> simp
@[simp] theorem enterLockout_mxd (s : State) : (enterLockout s).mxd = s.mxd := by
  unfold enterLockout; try dsimp only
  (repeat' split) <;> simp
@[simp] theorem enterLockout_lbu (s : State) : (enterLockout s).lbu = s.lbu := by
  unfold enterLockout; try dsimp only
  (repeat' split) <;> simp
@[simp] theorem enterLockout_lnk (s : State) : (enterLockout s).lnk = s.lnk := by
  unfold enterLockout; try dsimp only
  (repeat' split) <;> simp
@[simp] theorem enterLockout_ssu (s : State) : (enterLockout s).ssu = s.ssu := by
  unfold enterLockout; try dsimp only
  (repeat' split) <;> simp
@[simp] theorem enterLockout_rfc_cabinet (s : State) : (enterLockout s).rfc.cabinet = s.rfc.cabinet := by
  unfold enterLockout; try dsimp only
  (repeat' split) <;> simp
@[simp] theorem enterLockout_rfc_evaporator (s : State) : (enterLockout s).rfc.evaporator = s.rfc.evaporator := by
  unfold enterLockout; try dsimp only
  (repeat' split) <;> simp
@[simp] theorem enterLockout_rfc_cycleTimer (s : State) : (enterLockout s).rfc.cycleTimer = s.rfc.cycleTimer := by
  unfold enterLockout; try dsimp only
  (repeat' split) <;> simp
@[simp] theorem enterLockout_rfc_classAsked (s : State) : (enterLockout s).rfc.classAsked = s.rfc.classAsked := by
  unfold enterLockout; try dsimp only
  (repeat' split) <;> simp
@[simp] theorem enterLockout_rfc_startTimer (s : State) : (enterLockout s).rfc.startTimer = s.rfc.startTimer := by
  unfold enterLockout; try dsimp only
  (repeat' split) <;> simp
@[simp] theorem enterLockout_rfc_onTimer (s : State) : (enterLockout s).rfc.onTimer = s.rfc.onTimer := by
  unfold enterLockout; try dsimp only
  (repeat' split) <;> simp
@[simp] theorem enterLockout_rfc_offTimer (s : State) : (enterLockout s).rfc.offTimer = s.rfc.offTimer := by
  unfold enterLockout; try dsimp only
  (repeat' split) <;> simp
@[simp] theorem enterLockout_rfc_accumulator (s : State) : (enterLockout s).rfc.accumulator = s.rfc.accumulator := by
  unfold enterLockout; try dsimp only
  (repeat' split) <;> simp
@[simp] theorem enterLockout_rfc_second (s : State) : (enterLockout s).rfc.second = s.rfc.second := by
  unfold enterLockout; try dsimp only
  (repeat' split) <;> simp
@[simp] theorem enterLockout_rfc_defrostDue (s : State) : (enterLockout s).rfc.defrostDue = s.rfc.defrostDue := by
  unfold enterLockout; try dsimp only
  (repeat' split) <;> simp
@[simp] theorem enterLockout_rfc_defrostTimer (s : State) : (enterLockout s).rfc.defrostTimer = s.rfc.defrostTimer := by
  unfold enterLockout; try dsimp only
  (repeat' split) <;> simp
@[simp] theorem enterLockout_rfc_heaterMode (s : State) : (enterLockout s).rfc.heaterMode = s.rfc.heaterMode := by
  unfold enterLockout; try dsimp only
  (repeat' split) <;> simp
@[simp] theorem enterLockout_rfc_dripTimer (s : State) : (enterLockout s).rfc.dripTimer = s.rfc.dripTimer := by
  unfold enterLockout; try dsimp only
  (repeat' split) <;> simp
@[simp] theorem enterLockout_rfc_sellableCold (s : State) : (enterLockout s).rfc.sellableCold = s.rfc.sellableCold := by
  unfold enterLockout; try dsimp only
  (repeat' split) <;> simp
@[simp] theorem enterLockout_rfc_warmTimer (s : State) : (enterLockout s).rfc.warmTimer = s.rfc.warmTimer := by
  unfold enterLockout; try dsimp only
  (repeat' split) <;> simp
@[simp] theorem enterLockout_rfc_hotHold (s : State) : (enterLockout s).rfc.hotHold = s.rfc.hotHold := by
  unfold enterLockout; try dsimp only
  (repeat' split) <;> simp
@[simp] theorem endLockout_pending (s : State) : (endLockout s).pending = s.pending := by
  unfold endLockout; try dsimp only
  (repeat' split) <;> simp
@[simp] theorem endLockout_due (s : State) : (endLockout s).due = s.due := by
  unfold endLockout; try dsimp only
  (repeat' split) <;> simp
@[simp] theorem endLockout_phase (s : State) : (endLockout s).phase = s.phase := by
  unfold endLockout; try dsimp only
  (repeat' split) <;> simp
@[simp] theorem endLockout_inputs (s : State) : (endLockout s).inputs = s.inputs := by
  unfold endLockout; try dsimp only
  (repeat' split) <;> simp
@[simp] theorem endLockout_outputs (s : State) : (endLockout s).outputs = s.outputs := by
  unfold endLockout; try dsimp only
  (repeat' split) <;> simp
@[simp] theorem endLockout_params (s : State) : (endLockout s).params = s.params := by
  unfold endLockout; try dsimp only
  (repeat' split) <;> simp
@[simp] theorem endLockout_cnu (s : State) : (endLockout s).cnu = s.cnu := by
  unfold endLockout; try dsimp only
  (repeat' split) <;> simp
@[simp] theorem endLockout_cru (s : State) : (endLockout s).cru = s.cru := by
  unfold endLockout; try dsimp only
  (repeat' split) <;> simp
@[simp] theorem endLockout_cca (s : State) : (endLockout s).cca = s.cca := by
  unfold endLockout; try dsimp only
  (repeat' split) <;> simp
@[simp] theorem endLockout_vsq (s : State) : (endLockout s).vsq = s.vsq := by
  unfold endLockout; try dsimp only
  (repeat' split) <;> simp
@[simp] theorem endLockout_mxd (s : State) : (endLockout s).mxd = s.mxd := by
  unfold endLockout; try dsimp only
  (repeat' split) <;> simp
@[simp] theorem endLockout_ssu (s : State) : (endLockout s).ssu = s.ssu := by
  unfold endLockout; try dsimp only
  (repeat' split) <;> simp
@[simp] theorem endLockout_rfc_cabinet (s : State) : (endLockout s).rfc.cabinet = s.rfc.cabinet := by
  unfold endLockout; try dsimp only
  (repeat' split) <;> simp
@[simp] theorem endLockout_rfc_evaporator (s : State) : (endLockout s).rfc.evaporator = s.rfc.evaporator := by
  unfold endLockout; try dsimp only
  (repeat' split) <;> simp
@[simp] theorem endLockout_rfc_startTimer (s : State) : (endLockout s).rfc.startTimer = s.rfc.startTimer := by
  unfold endLockout; try dsimp only
  (repeat' split) <;> simp
@[simp] theorem endLockout_rfc_onTimer (s : State) : (endLockout s).rfc.onTimer = s.rfc.onTimer := by
  unfold endLockout; try dsimp only
  (repeat' split) <;> simp
@[simp] theorem endLockout_rfc_offTimer (s : State) : (endLockout s).rfc.offTimer = s.rfc.offTimer := by
  unfold endLockout; try dsimp only
  (repeat' split) <;> simp
@[simp] theorem endLockout_rfc_accumulator (s : State) : (endLockout s).rfc.accumulator = s.rfc.accumulator := by
  unfold endLockout; try dsimp only
  (repeat' split) <;> simp
@[simp] theorem endLockout_rfc_second (s : State) : (endLockout s).rfc.second = s.rfc.second := by
  unfold endLockout; try dsimp only
  (repeat' split) <;> simp
@[simp] theorem endLockout_rfc_defrostDue (s : State) : (endLockout s).rfc.defrostDue = s.rfc.defrostDue := by
  unfold endLockout; try dsimp only
  (repeat' split) <;> simp
@[simp] theorem endLockout_rfc_defrostTimer (s : State) : (endLockout s).rfc.defrostTimer = s.rfc.defrostTimer := by
  unfold endLockout; try dsimp only
  (repeat' split) <;> simp
@[simp] theorem endLockout_rfc_heaterMode (s : State) : (endLockout s).rfc.heaterMode = s.rfc.heaterMode := by
  unfold endLockout; try dsimp only
  (repeat' split) <;> simp
@[simp] theorem endLockout_rfc_dripTimer (s : State) : (endLockout s).rfc.dripTimer = s.rfc.dripTimer := by
  unfold endLockout; try dsimp only
  (repeat' split) <;> simp
@[simp] theorem endLockout_rfc_sellableCold (s : State) : (endLockout s).rfc.sellableCold = s.rfc.sellableCold := by
  unfold endLockout; try dsimp only
  (repeat' split) <;> simp
@[simp] theorem endLockout_rfc_warmTimer (s : State) : (endLockout s).rfc.warmTimer = s.rfc.warmTimer := by
  unfold endLockout; try dsimp only
  (repeat' split) <;> simp
@[simp] theorem endLockout_rfc_hotHold (s : State) : (endLockout s).rfc.hotHold = s.rfc.hotHold := by
  unfold endLockout; try dsimp only
  (repeat' split) <;> simp
@[simp] theorem endLockout_lbu_peers (s : State) : (endLockout s).lbu.peers = s.lbu.peers := by
  unfold endLockout; try dsimp only
  (repeat' split) <;> simp
@[simp] theorem endLockout_lbu_ignored (s : State) : (endLockout s).lbu.ignored = s.lbu.ignored := by
  unfold endLockout; try dsimp only
  (repeat' split) <;> simp
@[simp] theorem endLockout_lbu_objectSum (s : State) : (endLockout s).lbu.objectSum = s.lbu.objectSum := by
  unfold endLockout; try dsimp only
  (repeat' split) <;> simp
@[simp] theorem endLockout_lnk_state (s : State) : (endLockout s).lnk.state = s.lnk.state := by
  unfold endLockout; try dsimp only
  (repeat' split) <;> simp
@[simp] theorem endLockout_lnk_heard (s : State) : (endLockout s).lnk.heard = s.lnk.heard := by
  unfold endLockout; try dsimp only
  (repeat' split) <;> simp
@[simp] theorem endLockout_lnk_acknowledged (s : State) : (endLockout s).lnk.acknowledged = s.lnk.acknowledged := by
  unfold endLockout; try dsimp only
  (repeat' split) <;> simp
@[simp] theorem endLockout_lnk_isolationTimer (s : State) : (endLockout s).lnk.isolationTimer = s.lnk.isolationTimer := by
  unfold endLockout; try dsimp only
  (repeat' split) <;> simp
@[simp] theorem endLockout_lnk_silentTimer (s : State) : (endLockout s).lnk.silentTimer = s.lnk.silentTimer := by
  unfold endLockout; try dsimp only
  (repeat' split) <;> simp
@[simp] theorem endLockout_lnk_failures (s : State) : (endLockout s).lnk.failures = s.lnk.failures := by
  unfold endLockout; try dsimp only
  (repeat' split) <;> simp
@[simp] theorem endLockout_lnk_unknownFrames (s : State) : (endLockout s).lnk.unknownFrames = s.lnk.unknownFrames := by
  unfold endLockout; try dsimp only
  (repeat' split) <;> simp
@[simp] theorem endLockout_lnk_droppedFrames (s : State) : (endLockout s).lnk.droppedFrames = s.lnk.droppedFrames := by
  unfold endLockout; try dsimp only
  (repeat' split) <;> simp
@[simp] theorem endLockout_lnk_silentEntries (s : State) : (endLockout s).lnk.silentEntries = s.lnk.silentEntries := by
  unfold endLockout; try dsimp only
  (repeat' split) <;> simp
@[simp] theorem withdrawWant_pending (s : State) : (withdrawWant s).pending = s.pending := by
  unfold withdrawWant; try dsimp only
  (repeat' split) <;> simp
@[simp] theorem withdrawWant_due (s : State) : (withdrawWant s).due = s.due := by
  unfold withdrawWant; try dsimp only
  (repeat' split) <;> simp
@[simp] theorem withdrawWant_phase (s : State) : (withdrawWant s).phase = s.phase := by
  unfold withdrawWant; try dsimp only
  (repeat' split) <;> simp
@[simp] theorem withdrawWant_inputs (s : State) : (withdrawWant s).inputs = s.inputs := by
  unfold withdrawWant; try dsimp only
  (repeat' split) <;> simp
@[simp] theorem withdrawWant_outputs (s : State) : (withdrawWant s).outputs = s.outputs := by
  unfold withdrawWant; try dsimp only
  (repeat' split) <;> simp
@[simp] theorem withdrawWant_params (s : State) : (withdrawWant s).params = s.params := by
  unfold withdrawWant; try dsimp only
  (repeat' split) <;> simp
@[simp] theorem withdrawWant_cnu (s : State) : (withdrawWant s).cnu = s.cnu := by
  unfold withdrawWant; try dsimp only
  (repeat' split) <;> simp
@[simp] theorem withdrawWant_cru (s : State) : (withdrawWant s).cru = s.cru := by
  unfold withdrawWant; try dsimp only
  (repeat' split) <;> simp
@[simp] theorem withdrawWant_cca (s : State) : (withdrawWant s).cca = s.cca := by
  unfold withdrawWant; try dsimp only
  (repeat' split) <;> simp
@[simp] theorem withdrawWant_vsq (s : State) : (withdrawWant s).vsq = s.vsq := by
  unfold withdrawWant; try dsimp only
  (repeat' split) <;> simp
@[simp] theorem withdrawWant_mxd (s : State) : (withdrawWant s).mxd = s.mxd := by
  unfold withdrawWant; try dsimp only
  (repeat' split) <;> simp
@[simp] theorem withdrawWant_ssu (s : State) : (withdrawWant s).ssu = s.ssu := by
  unfold withdrawWant; try dsimp only
  (repeat' split) <;> simp
@[simp] theorem withdrawWant_rfc_cabinet (s : State) : (withdrawWant s).rfc.cabinet = s.rfc.cabinet := by
  unfold withdrawWant; try dsimp only
  (repeat' split) <;> simp
@[simp] theorem withdrawWant_rfc_evaporator (s : State) : (withdrawWant s).rfc.evaporator = s.rfc.evaporator := by
  unfold withdrawWant; try dsimp only
  (repeat' split) <;> simp
@[simp] theorem withdrawWant_rfc_lockoutTimer (s : State) : (withdrawWant s).rfc.lockoutTimer = s.rfc.lockoutTimer := by
  unfold withdrawWant; try dsimp only
  (repeat' split) <;> simp
@[simp] theorem withdrawWant_rfc_classAsked (s : State) : (withdrawWant s).rfc.classAsked = s.rfc.classAsked := by
  unfold withdrawWant; try dsimp only
  (repeat' split) <;> simp
@[simp] theorem withdrawWant_rfc_startTimer (s : State) : (withdrawWant s).rfc.startTimer = s.rfc.startTimer := by
  unfold withdrawWant; try dsimp only
  (repeat' split) <;> simp
@[simp] theorem withdrawWant_rfc_onTimer (s : State) : (withdrawWant s).rfc.onTimer = s.rfc.onTimer := by
  unfold withdrawWant; try dsimp only
  (repeat' split) <;> simp
@[simp] theorem withdrawWant_rfc_offTimer (s : State) : (withdrawWant s).rfc.offTimer = s.rfc.offTimer := by
  unfold withdrawWant; try dsimp only
  (repeat' split) <;> simp
@[simp] theorem withdrawWant_rfc_accumulator (s : State) : (withdrawWant s).rfc.accumulator = s.rfc.accumulator := by
  unfold withdrawWant; try dsimp only
  (repeat' split) <;> simp
@[simp] theorem withdrawWant_rfc_second (s : State) : (withdrawWant s).rfc.second = s.rfc.second := by
  unfold withdrawWant; try dsimp only
  (repeat' split) <;> simp
@[simp] theorem withdrawWant_rfc_defrostDue (s : State) : (withdrawWant s).rfc.defrostDue = s.rfc.defrostDue := by
  unfold withdrawWant; try dsimp only
  (repeat' split) <;> simp
@[simp] theorem withdrawWant_rfc_defrostTimer (s : State) : (withdrawWant s).rfc.defrostTimer = s.rfc.defrostTimer := by
  unfold withdrawWant; try dsimp only
  (repeat' split) <;> simp
@[simp] theorem withdrawWant_rfc_heaterMode (s : State) : (withdrawWant s).rfc.heaterMode = s.rfc.heaterMode := by
  unfold withdrawWant; try dsimp only
  (repeat' split) <;> simp
@[simp] theorem withdrawWant_rfc_dripTimer (s : State) : (withdrawWant s).rfc.dripTimer = s.rfc.dripTimer := by
  unfold withdrawWant; try dsimp only
  (repeat' split) <;> simp
@[simp] theorem withdrawWant_rfc_sellableCold (s : State) : (withdrawWant s).rfc.sellableCold = s.rfc.sellableCold := by
  unfold withdrawWant; try dsimp only
  (repeat' split) <;> simp
@[simp] theorem withdrawWant_rfc_warmTimer (s : State) : (withdrawWant s).rfc.warmTimer = s.rfc.warmTimer := by
  unfold withdrawWant; try dsimp only
  (repeat' split) <;> simp
@[simp] theorem withdrawWant_rfc_hotHold (s : State) : (withdrawWant s).rfc.hotHold = s.rfc.hotHold := by
  unfold withdrawWant; try dsimp only
  (repeat' split) <;> simp
@[simp] theorem withdrawWant_lbu_peers (s : State) : (withdrawWant s).lbu.peers = s.lbu.peers := by
  unfold withdrawWant; try dsimp only
  (repeat' split) <;> simp
@[simp] theorem withdrawWant_lbu_ignored (s : State) : (withdrawWant s).lbu.ignored = s.lbu.ignored := by
  unfold withdrawWant; try dsimp only
  (repeat' split) <;> simp
@[simp] theorem withdrawWant_lbu_objectSum (s : State) : (withdrawWant s).lbu.objectSum = s.lbu.objectSum := by
  unfold withdrawWant; try dsimp only
  (repeat' split) <;> simp
@[simp] theorem withdrawWant_lnk_state (s : State) : (withdrawWant s).lnk.state = s.lnk.state := by
  unfold withdrawWant; try dsimp only
  (repeat' split) <;> simp
@[simp] theorem withdrawWant_lnk_heard (s : State) : (withdrawWant s).lnk.heard = s.lnk.heard := by
  unfold withdrawWant; try dsimp only
  (repeat' split) <;> simp
@[simp] theorem withdrawWant_lnk_acknowledged (s : State) : (withdrawWant s).lnk.acknowledged = s.lnk.acknowledged := by
  unfold withdrawWant; try dsimp only
  (repeat' split) <;> simp
@[simp] theorem withdrawWant_lnk_isolationTimer (s : State) : (withdrawWant s).lnk.isolationTimer = s.lnk.isolationTimer := by
  unfold withdrawWant; try dsimp only
  (repeat' split) <;> simp
@[simp] theorem withdrawWant_lnk_silentTimer (s : State) : (withdrawWant s).lnk.silentTimer = s.lnk.silentTimer := by
  unfold withdrawWant; try dsimp only
  (repeat' split) <;> simp
@[simp] theorem withdrawWant_lnk_failures (s : State) : (withdrawWant s).lnk.failures = s.lnk.failures := by
  unfold withdrawWant; try dsimp only
  (repeat' split) <;> simp
@[simp] theorem withdrawWant_lnk_unknownFrames (s : State) : (withdrawWant s).lnk.unknownFrames = s.lnk.unknownFrames := by
  unfold withdrawWant; try dsimp only
  (repeat' split) <;> simp
@[simp] theorem withdrawWant_lnk_droppedFrames (s : State) : (withdrawWant s).lnk.droppedFrames = s.lnk.droppedFrames := by
  unfold withdrawWant; try dsimp only
  (repeat' split) <;> simp
@[simp] theorem withdrawWant_lnk_silentEntries (s : State) : (withdrawWant s).lnk.silentEntries = s.lnk.silentEntries := by
  unfold withdrawWant; try dsimp only
  (repeat' split) <;> simp
@[simp] theorem endDutyWait_pending (s : State) : (endDutyWait s).pending = s.pending := by
  unfold endDutyWait; try dsimp only
  (repeat' split) <;> simp
@[simp] theorem endDutyWait_due (s : State) : (endDutyWait s).due = s.due := by
  unfold endDutyWait; try dsimp only
  (repeat' split) <;> simp
@[simp] theorem endDutyWait_phase (s : State) : (endDutyWait s).phase = s.phase := by
  unfold endDutyWait; try dsimp only
  (repeat' split) <;> simp
@[simp] theorem endDutyWait_inputs (s : State) : (endDutyWait s).inputs = s.inputs := by
  unfold endDutyWait; try dsimp only
  (repeat' split) <;> simp
@[simp] theorem endDutyWait_outputs (s : State) : (endDutyWait s).outputs = s.outputs := by
  unfold endDutyWait; try dsimp only
  (repeat' split) <;> simp
@[simp] theorem endDutyWait_params (s : State) : (endDutyWait s).params = s.params := by
  unfold endDutyWait; try dsimp only
  (repeat' split) <;> simp
@[simp] theorem endDutyWait_cnu (s : State) : (endDutyWait s).cnu = s.cnu := by
  unfold endDutyWait; try dsimp only
  (repeat' split) <;> simp
@[simp] theorem endDutyWait_cru (s : State) : (endDutyWait s).cru = s.cru := by
  unfold endDutyWait; try dsimp only
  (repeat' split) <;> simp
@[simp] theorem endDutyWait_cca (s : State) : (endDutyWait s).cca = s.cca := by
  unfold endDutyWait; try dsimp only
  (repeat' split) <;> simp
@[simp] theorem endDutyWait_vsq (s : State) : (endDutyWait s).vsq = s.vsq := by
  unfold endDutyWait; try dsimp only
  (repeat' split) <;> simp
@[simp] theorem endDutyWait_mxd (s : State) : (endDutyWait s).mxd = s.mxd := by
  unfold endDutyWait; try dsimp only
  (repeat' split) <;> simp
@[simp] theorem endDutyWait_ssu (s : State) : (endDutyWait s).ssu = s.ssu := by
  unfold endDutyWait; try dsimp only
  (repeat' split) <;> simp
@[simp] theorem endDutyWait_rfc_cabinet (s : State) : (endDutyWait s).rfc.cabinet = s.rfc.cabinet := by
  unfold endDutyWait; try dsimp only
  (repeat' split) <;> simp
@[simp] theorem endDutyWait_rfc_evaporator (s : State) : (endDutyWait s).rfc.evaporator = s.rfc.evaporator := by
  unfold endDutyWait; try dsimp only
  (repeat' split) <;> simp
@[simp] theorem endDutyWait_rfc_lockoutTimer (s : State) : (endDutyWait s).rfc.lockoutTimer = s.rfc.lockoutTimer := by
  unfold endDutyWait; try dsimp only
  (repeat' split) <;> simp
@[simp] theorem endDutyWait_rfc_classAsked (s : State) : (endDutyWait s).rfc.classAsked = s.rfc.classAsked := by
  unfold endDutyWait; try dsimp only
  (repeat' split) <;> simp
@[simp] theorem endDutyWait_rfc_startTimer (s : State) : (endDutyWait s).rfc.startTimer = s.rfc.startTimer := by
  unfold endDutyWait; try dsimp only
  (repeat' split) <;> simp
@[simp] theorem endDutyWait_rfc_onTimer (s : State) : (endDutyWait s).rfc.onTimer = s.rfc.onTimer := by
  unfold endDutyWait; try dsimp only
  (repeat' split) <;> simp
@[simp] theorem endDutyWait_rfc_accumulator (s : State) : (endDutyWait s).rfc.accumulator = s.rfc.accumulator := by
  unfold endDutyWait; try dsimp only
  (repeat' split) <;> simp
@[simp] theorem endDutyWait_rfc_second (s : State) : (endDutyWait s).rfc.second = s.rfc.second := by
  unfold endDutyWait; try dsimp only
  (repeat' split) <;> simp
@[simp] theorem endDutyWait_rfc_defrostDue (s : State) : (endDutyWait s).rfc.defrostDue = s.rfc.defrostDue := by
  unfold endDutyWait; try dsimp only
  (repeat' split) <;> simp
@[simp] theorem endDutyWait_rfc_defrostTimer (s : State) : (endDutyWait s).rfc.defrostTimer = s.rfc.defrostTimer := by
  unfold endDutyWait; try dsimp only
  (repeat' split) <;> simp
@[simp] theorem endDutyWait_rfc_heaterMode (s : State) : (endDutyWait s).rfc.heaterMode = s.rfc.heaterMode := by
  unfold endDutyWait; try dsimp only
  (repeat' split) <;> simp
@[simp] theorem endDutyWait_rfc_dripTimer (s : State) : (endDutyWait s).rfc.dripTimer = s.rfc.dripTimer := by
  unfold endDutyWait; try dsimp only
  (repeat' split) <;> simp
@[simp] theorem endDutyWait_rfc_sellableCold (s : State) : (endDutyWait s).rfc.sellableCold = s.rfc.sellableCold := by
  unfold endDutyWait; try dsimp only
  (repeat' split) <;> simp
@[simp] theorem endDutyWait_rfc_warmTimer (s : State) : (endDutyWait s).rfc.warmTimer = s.rfc.warmTimer := by
  unfold endDutyWait; try dsimp only
  (repeat' split) <;> simp
@[simp] theorem endDutyWait_rfc_hotHold (s : State) : (endDutyWait s).rfc.hotHold = s.rfc.hotHold := by
  unfold endDutyWait; try dsimp only
  (repeat' split) <;> simp
@[simp] theorem endDutyWait_lbu_peers (s : State) : (endDutyWait s).lbu.peers = s.lbu.peers := by
  unfold endDutyWait; try dsimp only
  (repeat' split) <;> simp
@[simp] theorem endDutyWait_lbu_ignored (s : State) : (endDutyWait s).lbu.ignored = s.lbu.ignored := by
  unfold endDutyWait; try dsimp only
  (repeat' split) <;> simp
@[simp] theorem endDutyWait_lbu_objectSum (s : State) : (endDutyWait s).lbu.objectSum = s.lbu.objectSum := by
  unfold endDutyWait; try dsimp only
  (repeat' split) <;> simp
@[simp] theorem endDutyWait_lnk_state (s : State) : (endDutyWait s).lnk.state = s.lnk.state := by
  unfold endDutyWait; try dsimp only
  (repeat' split) <;> simp
@[simp] theorem endDutyWait_lnk_heard (s : State) : (endDutyWait s).lnk.heard = s.lnk.heard := by
  unfold endDutyWait; try dsimp only
  (repeat' split) <;> simp
@[simp] theorem endDutyWait_lnk_acknowledged (s : State) : (endDutyWait s).lnk.acknowledged = s.lnk.acknowledged := by
  unfold endDutyWait; try dsimp only
  (repeat' split) <;> simp
@[simp] theorem endDutyWait_lnk_isolationTimer (s : State) : (endDutyWait s).lnk.isolationTimer = s.lnk.isolationTimer := by
  unfold endDutyWait; try dsimp only
  (repeat' split) <;> simp
@[simp] theorem endDutyWait_lnk_silentTimer (s : State) : (endDutyWait s).lnk.silentTimer = s.lnk.silentTimer := by
  unfold endDutyWait; try dsimp only
  (repeat' split) <;> simp
@[simp] theorem endDutyWait_lnk_failures (s : State) : (endDutyWait s).lnk.failures = s.lnk.failures := by
  unfold endDutyWait; try dsimp only
  (repeat' split) <;> simp
@[simp] theorem endDutyWait_lnk_unknownFrames (s : State) : (endDutyWait s).lnk.unknownFrames = s.lnk.unknownFrames := by
  unfold endDutyWait; try dsimp only
  (repeat' split) <;> simp
@[simp] theorem endDutyWait_lnk_droppedFrames (s : State) : (endDutyWait s).lnk.droppedFrames = s.lnk.droppedFrames := by
  unfold endDutyWait; try dsimp only
  (repeat' split) <;> simp
@[simp] theorem endDutyWait_lnk_silentEntries (s : State) : (endDutyWait s).lnk.silentEntries = s.lnk.silentEntries := by
  unfold endDutyWait; try dsimp only
  (repeat' split) <;> simp
@[simp] theorem raiseWant_pending (s : State) : (raiseWant s).pending = s.pending := by
  unfold raiseWant; try dsimp only
  (repeat' split) <;> simp
@[simp] theorem raiseWant_due (s : State) : (raiseWant s).due = s.due := by
  unfold raiseWant; try dsimp only
  (repeat' split) <;> simp
@[simp] theorem raiseWant_phase (s : State) : (raiseWant s).phase = s.phase := by
  unfold raiseWant; try dsimp only
  (repeat' split) <;> simp
@[simp] theorem raiseWant_inputs (s : State) : (raiseWant s).inputs = s.inputs := by
  unfold raiseWant; try dsimp only
  (repeat' split) <;> simp
@[simp] theorem raiseWant_outputs (s : State) : (raiseWant s).outputs = s.outputs := by
  unfold raiseWant; try dsimp only
  (repeat' split) <;> simp
@[simp] theorem raiseWant_params (s : State) : (raiseWant s).params = s.params := by
  unfold raiseWant; try dsimp only
  (repeat' split) <;> simp
@[simp] theorem raiseWant_cnu (s : State) : (raiseWant s).cnu = s.cnu := by
  unfold raiseWant; try dsimp only
  (repeat' split) <;> simp
@[simp] theorem raiseWant_cru (s : State) : (raiseWant s).cru = s.cru := by
  unfold raiseWant; try dsimp only
  (repeat' split) <;> simp
@[simp] theorem raiseWant_cca (s : State) : (raiseWant s).cca = s.cca := by
  unfold raiseWant; try dsimp only
  (repeat' split) <;> simp
@[simp] theorem raiseWant_vsq (s : State) : (raiseWant s).vsq = s.vsq := by
  unfold raiseWant; try dsimp only
  (repeat' split) <;> simp
@[simp] theorem raiseWant_mxd (s : State) : (raiseWant s).mxd = s.mxd := by
  unfold raiseWant; try dsimp only
  (repeat' split) <;> simp
@[simp] theorem raiseWant_ssu (s : State) : (raiseWant s).ssu = s.ssu := by
  unfold raiseWant; try dsimp only
  (repeat' split) <;> simp
@[simp] theorem raiseWant_rfc_cabinet (s : State) : (raiseWant s).rfc.cabinet = s.rfc.cabinet := by
  unfold raiseWant; try dsimp only
  (repeat' split) <;> simp
@[simp] theorem raiseWant_rfc_evaporator (s : State) : (raiseWant s).rfc.evaporator = s.rfc.evaporator := by
  unfold raiseWant; try dsimp only
  (repeat' split) <;> simp
@[simp] theorem raiseWant_rfc_state (s : State) : (raiseWant s).rfc.state = s.rfc.state := by
  unfold raiseWant; try dsimp only
  (repeat' split) <;> simp
@[simp] theorem raiseWant_rfc_lockoutTimer (s : State) : (raiseWant s).rfc.lockoutTimer = s.rfc.lockoutTimer := by
  unfold raiseWant; try dsimp only
  (repeat' split) <;> simp
@[simp] theorem raiseWant_rfc_cycleTimer (s : State) : (raiseWant s).rfc.cycleTimer = s.rfc.cycleTimer := by
  unfold raiseWant; try dsimp only
  (repeat' split) <;> simp
@[simp] theorem raiseWant_rfc_startTimer (s : State) : (raiseWant s).rfc.startTimer = s.rfc.startTimer := by
  unfold raiseWant; try dsimp only
  (repeat' split) <;> simp
@[simp] theorem raiseWant_rfc_onTimer (s : State) : (raiseWant s).rfc.onTimer = s.rfc.onTimer := by
  unfold raiseWant; try dsimp only
  (repeat' split) <;> simp
@[simp] theorem raiseWant_rfc_offTimer (s : State) : (raiseWant s).rfc.offTimer = s.rfc.offTimer := by
  unfold raiseWant; try dsimp only
  (repeat' split) <;> simp
@[simp] theorem raiseWant_rfc_accumulator (s : State) : (raiseWant s).rfc.accumulator = s.rfc.accumulator := by
  unfold raiseWant; try dsimp only
  (repeat' split) <;> simp
@[simp] theorem raiseWant_rfc_second (s : State) : (raiseWant s).rfc.second = s.rfc.second := by
  unfold raiseWant; try dsimp only
  (repeat' split) <;> simp
@[simp] theorem raiseWant_rfc_defrostDue (s : State) : (raiseWant s).rfc.defrostDue = s.rfc.defrostDue := by
  unfold raiseWant; try dsimp only
  (repeat' split) <;> simp
@[simp] theorem raiseWant_rfc_defrostTimer (s : State) : (raiseWant s).rfc.defrostTimer = s.rfc.defrostTimer := by
  unfold raiseWant; try dsimp only
  (repeat' split) <;> simp
@[simp] theorem raiseWant_rfc_heaterMode (s : State) : (raiseWant s).rfc.heaterMode = s.rfc.heaterMode := by
  unfold raiseWant; try dsimp only
  (repeat' split) <;> simp
@[simp] theorem raiseWant_rfc_dripTimer (s : State) : (raiseWant s).rfc.dripTimer = s.rfc.dripTimer := by
  unfold raiseWant; try dsimp only
  (repeat' split) <;> simp
@[simp] theorem raiseWant_rfc_sellableCold (s : State) : (raiseWant s).rfc.sellableCold = s.rfc.sellableCold := by
  unfold raiseWant; try dsimp only
  (repeat' split) <;> simp
@[simp] theorem raiseWant_rfc_warmTimer (s : State) : (raiseWant s).rfc.warmTimer = s.rfc.warmTimer := by
  unfold raiseWant; try dsimp only
  (repeat' split) <;> simp
@[simp] theorem raiseWant_rfc_hotHold (s : State) : (raiseWant s).rfc.hotHold = s.rfc.hotHold := by
  unfold raiseWant; try dsimp only
  (repeat' split) <;> simp
@[simp] theorem raiseWant_lbu_peers (s : State) : (raiseWant s).lbu.peers = s.lbu.peers := by
  unfold raiseWant; try dsimp only
  (repeat' split) <;> simp
@[simp] theorem raiseWant_lbu_claimCounter (s : State) : (raiseWant s).lbu.claimCounter = s.lbu.claimCounter := by
  unfold raiseWant; try dsimp only
  (repeat' split) <;> simp
@[simp] theorem raiseWant_lbu_ignored (s : State) : (raiseWant s).lbu.ignored = s.lbu.ignored := by
  unfold raiseWant; try dsimp only
  (repeat' split) <;> simp
@[simp] theorem raiseWant_lbu_objectSum (s : State) : (raiseWant s).lbu.objectSum = s.lbu.objectSum := by
  unfold raiseWant; try dsimp only
  (repeat' split) <;> simp
@[simp] theorem raiseWant_lbu_agenda (s : State) : (raiseWant s).lbu.agenda = s.lbu.agenda := by
  unfold raiseWant; try dsimp only
  (repeat' split) <;> simp
@[simp] theorem raiseWant_lnk_state (s : State) : (raiseWant s).lnk.state = s.lnk.state := by
  unfold raiseWant; try dsimp only
  (repeat' split) <;> simp
@[simp] theorem raiseWant_lnk_heard (s : State) : (raiseWant s).lnk.heard = s.lnk.heard := by
  unfold raiseWant; try dsimp only
  (repeat' split) <;> simp
@[simp] theorem raiseWant_lnk_acknowledged (s : State) : (raiseWant s).lnk.acknowledged = s.lnk.acknowledged := by
  unfold raiseWant; try dsimp only
  (repeat' split) <;> simp
@[simp] theorem raiseWant_lnk_isolationTimer (s : State) : (raiseWant s).lnk.isolationTimer = s.lnk.isolationTimer := by
  unfold raiseWant; try dsimp only
  (repeat' split) <;> simp
@[simp] theorem raiseWant_lnk_change (s : State) : (raiseWant s).lnk.change = s.lnk.change := by
  unfold raiseWant; try dsimp only
  (repeat' split) <;> simp
@[simp] theorem raiseWant_lnk_periodTimer (s : State) : (raiseWant s).lnk.periodTimer = s.lnk.periodTimer := by
  unfold raiseWant; try dsimp only
  (repeat' split) <;> simp
@[simp] theorem raiseWant_lnk_silentTimer (s : State) : (raiseWant s).lnk.silentTimer = s.lnk.silentTimer := by
  unfold raiseWant; try dsimp only
  (repeat' split) <;> simp
@[simp] theorem raiseWant_lnk_failures (s : State) : (raiseWant s).lnk.failures = s.lnk.failures := by
  unfold raiseWant; try dsimp only
  (repeat' split) <;> simp
@[simp] theorem raiseWant_lnk_unknownFrames (s : State) : (raiseWant s).lnk.unknownFrames = s.lnk.unknownFrames := by
  unfold raiseWant; try dsimp only
  (repeat' split) <;> simp
@[simp] theorem raiseWant_lnk_droppedFrames (s : State) : (raiseWant s).lnk.droppedFrames = s.lnk.droppedFrames := by
  unfold raiseWant; try dsimp only
  (repeat' split) <;> simp
@[simp] theorem raiseWant_lnk_silentEntries (s : State) : (raiseWant s).lnk.silentEntries = s.lnk.silentEntries := by
  unfold raiseWant; try dsimp only
  (repeat' split) <;> simp
@[simp] theorem startCompressor_pending (s : State) : (startCompressor s).pending = s.pending := by
  unfold startCompressor; try dsimp only
  (repeat' split) <;> simp
@[simp] theorem startCompressor_due (s : State) : (startCompressor s).due = s.due := by
  unfold startCompressor; try dsimp only
  (repeat' split) <;> simp
@[simp] theorem startCompressor_phase (s : State) : (startCompressor s).phase = s.phase := by
  unfold startCompressor; try dsimp only
  (repeat' split) <;> simp
@[simp] theorem startCompressor_inputs (s : State) : (startCompressor s).inputs = s.inputs := by
  unfold startCompressor; try dsimp only
  (repeat' split) <;> simp
@[simp] theorem startCompressor_outputs (s : State) : (startCompressor s).outputs = s.outputs := by
  unfold startCompressor; try dsimp only
  (repeat' split) <;> simp
@[simp] theorem startCompressor_params (s : State) : (startCompressor s).params = s.params := by
  unfold startCompressor; try dsimp only
  (repeat' split) <;> simp
@[simp] theorem startCompressor_cnu (s : State) : (startCompressor s).cnu = s.cnu := by
  unfold startCompressor; try dsimp only
  (repeat' split) <;> simp
@[simp] theorem startCompressor_cru (s : State) : (startCompressor s).cru = s.cru := by
  unfold startCompressor; try dsimp only
  (repeat' split) <;> simp
@[simp] theorem startCompressor_cca (s : State) : (startCompressor s).cca = s.cca := by
  unfold startCompressor; try dsimp only
  (repeat' split) <;> simp
@[simp] theorem startCompressor_vsq (s : State) : (startCompressor s).vsq = s.vsq := by
  unfold startCompressor; try dsimp only
  (repeat' split) <;> simp
@[simp] theorem startCompressor_mxd (s : State) : (startCompressor s).mxd = s.mxd := by
  unfold startCompressor; try dsimp only
  (repeat' split) <;> simp
@[simp] theorem startCompressor_lbu (s : State) : (startCompressor s).lbu = s.lbu := by
  unfold startCompressor; try dsimp only
  (repeat' split) <;> simp
@[simp] theorem startCompressor_lnk (s : State) : (startCompressor s).lnk = s.lnk := by
  unfold startCompressor; try dsimp only
  (repeat' split) <;> simp
@[simp] theorem startCompressor_ssu (s : State) : (startCompressor s).ssu = s.ssu := by
  unfold startCompressor; try dsimp only
  (repeat' split) <;> simp
@[simp] theorem startCompressor_rfc_cabinet (s : State) : (startCompressor s).rfc.cabinet = s.rfc.cabinet := by
  unfold startCompressor; try dsimp only
  (repeat' split) <;> simp
@[simp] theorem startCompressor_rfc_evaporator (s : State) : (startCompressor s).rfc.evaporator = s.rfc.evaporator := by
  unfold startCompressor; try dsimp only
  (repeat' split) <;> simp
@[simp] theorem startCompressor_rfc_lockoutTimer (s : State) : (startCompressor s).rfc.lockoutTimer = s.rfc.lockoutTimer := by
  unfold startCompressor; try dsimp only
  (repeat' split) <;> simp
@[simp] theorem startCompressor_rfc_cycleTimer (s : State) : (startCompressor s).rfc.cycleTimer = s.rfc.cycleTimer := by
  unfold startCompressor; try dsimp only
  (repeat' split) <;> simp
@[simp] theorem startCompressor_rfc_classAsked (s : State) : (startCompressor s).rfc.classAsked = s.rfc.classAsked := by
  unfold startCompressor; try dsimp only
  (repeat' split) <;> simp
@[simp] theorem startCompressor_rfc_offTimer (s : State) : (startCompressor s).rfc.offTimer = s.rfc.offTimer := by
  unfold startCompressor; try dsimp only
  (repeat' split) <;> simp
@[simp] theorem startCompressor_rfc_accumulator (s : State) : (startCompressor s).rfc.accumulator = s.rfc.accumulator := by
  unfold startCompressor; try dsimp only
  (repeat' split) <;> simp
@[simp] theorem startCompressor_rfc_defrostDue (s : State) : (startCompressor s).rfc.defrostDue = s.rfc.defrostDue := by
  unfold startCompressor; try dsimp only
  (repeat' split) <;> simp
@[simp] theorem startCompressor_rfc_defrostTimer (s : State) : (startCompressor s).rfc.defrostTimer = s.rfc.defrostTimer := by
  unfold startCompressor; try dsimp only
  (repeat' split) <;> simp
@[simp] theorem startCompressor_rfc_heaterMode (s : State) : (startCompressor s).rfc.heaterMode = s.rfc.heaterMode := by
  unfold startCompressor; try dsimp only
  (repeat' split) <;> simp
@[simp] theorem startCompressor_rfc_dripTimer (s : State) : (startCompressor s).rfc.dripTimer = s.rfc.dripTimer := by
  unfold startCompressor; try dsimp only
  (repeat' split) <;> simp
@[simp] theorem startCompressor_rfc_sellableCold (s : State) : (startCompressor s).rfc.sellableCold = s.rfc.sellableCold := by
  unfold startCompressor; try dsimp only
  (repeat' split) <;> simp
@[simp] theorem startCompressor_rfc_warmTimer (s : State) : (startCompressor s).rfc.warmTimer = s.rfc.warmTimer := by
  unfold startCompressor; try dsimp only
  (repeat' split) <;> simp
@[simp] theorem startCompressor_rfc_hotHold (s : State) : (startCompressor s).rfc.hotHold = s.rfc.hotHold := by
  unfold startCompressor; try dsimp only
  (repeat' split) <;> simp
@[simp] theorem endStart_pending (s : State) : (endStart s).pending = s.pending := by
  unfold endStart; try dsimp only
  (repeat' split) <;> simp
@[simp] theorem endStart_due (s : State) : (endStart s).due = s.due := by
  unfold endStart; try dsimp only
  (repeat' split) <;> simp
@[simp] theorem endStart_phase (s : State) : (endStart s).phase = s.phase := by
  unfold endStart; try dsimp only
  (repeat' split) <;> simp
@[simp] theorem endStart_inputs (s : State) : (endStart s).inputs = s.inputs := by
  unfold endStart; try dsimp only
  (repeat' split) <;> simp
@[simp] theorem endStart_outputs (s : State) : (endStart s).outputs = s.outputs := by
  unfold endStart; try dsimp only
  (repeat' split) <;> simp
@[simp] theorem endStart_params (s : State) : (endStart s).params = s.params := by
  unfold endStart; try dsimp only
  (repeat' split) <;> simp
@[simp] theorem endStart_cnu (s : State) : (endStart s).cnu = s.cnu := by
  unfold endStart; try dsimp only
  (repeat' split) <;> simp
@[simp] theorem endStart_cru (s : State) : (endStart s).cru = s.cru := by
  unfold endStart; try dsimp only
  (repeat' split) <;> simp
@[simp] theorem endStart_cca (s : State) : (endStart s).cca = s.cca := by
  unfold endStart; try dsimp only
  (repeat' split) <;> simp
@[simp] theorem endStart_vsq (s : State) : (endStart s).vsq = s.vsq := by
  unfold endStart; try dsimp only
  (repeat' split) <;> simp
@[simp] theorem endStart_mxd (s : State) : (endStart s).mxd = s.mxd := by
  unfold endStart; try dsimp only
  (repeat' split) <;> simp
@[simp] theorem endStart_ssu (s : State) : (endStart s).ssu = s.ssu := by
  unfold endStart; try dsimp only
  (repeat' split) <;> simp
@[simp] theorem endStart_rfc_cabinet (s : State) : (endStart s).rfc.cabinet = s.rfc.cabinet := by
  unfold endStart; try dsimp only
  (repeat' split) <;> simp
@[simp] theorem endStart_rfc_evaporator (s : State) : (endStart s).rfc.evaporator = s.rfc.evaporator := by
  unfold endStart; try dsimp only
  (repeat' split) <;> simp
@[simp] theorem endStart_rfc_lockoutTimer (s : State) : (endStart s).rfc.lockoutTimer = s.rfc.lockoutTimer := by
  unfold endStart; try dsimp only
  (repeat' split) <;> simp
@[simp] theorem endStart_rfc_cycleTimer (s : State) : (endStart s).rfc.cycleTimer = s.rfc.cycleTimer := by
  unfold endStart; try dsimp only
  (repeat' split) <;> simp
@[simp] theorem endStart_rfc_classAsked (s : State) : (endStart s).rfc.classAsked = s.rfc.classAsked := by
  unfold endStart; try dsimp only
  (repeat' split) <;> simp
@[simp] theorem endStart_rfc_onTimer (s : State) : (endStart s).rfc.onTimer = s.rfc.onTimer := by
  unfold endStart; try dsimp only
  (repeat' split) <;> simp
@[simp] theorem endStart_rfc_offTimer (s : State) : (endStart s).rfc.offTimer = s.rfc.offTimer := by
  unfold endStart; try dsimp only
  (repeat' split) <;> simp
@[simp] theorem endStart_rfc_accumulator (s : State) : (endStart s).rfc.accumulator = s.rfc.accumulator := by
  unfold endStart; try dsimp only
  (repeat' split) <;> simp
@[simp] theorem endStart_rfc_second (s : State) : (endStart s).rfc.second = s.rfc.second := by
  unfold endStart; try dsimp only
  (repeat' split) <;> simp
@[simp] theorem endStart_rfc_defrostDue (s : State) : (endStart s).rfc.defrostDue = s.rfc.defrostDue := by
  unfold endStart; try dsimp only
  (repeat' split) <;> simp
@[simp] theorem endStart_rfc_defrostTimer (s : State) : (endStart s).rfc.defrostTimer = s.rfc.defrostTimer := by
  unfold endStart; try dsimp only
  (repeat' split) <;> simp
@[simp] theorem endStart_rfc_heaterMode (s : State) : (endStart s).rfc.heaterMode = s.rfc.heaterMode := by
  unfold endStart; try dsimp only
  (repeat' split) <;> simp
@[simp] theorem endStart_rfc_dripTimer (s : State) : (endStart s).rfc.dripTimer = s.rfc.dripTimer := by
  unfold endStart; try dsimp only
  (repeat' split) <;> simp
@[simp] theorem endStart_rfc_sellableCold (s : State) : (endStart s).rfc.sellableCold = s.rfc.sellableCold := by
  unfold endStart; try dsimp only
  (repeat' split) <;> simp
@[simp] theorem endStart_rfc_warmTimer (s : State) : (endStart s).rfc.warmTimer = s.rfc.warmTimer := by
  unfold endStart; try dsimp only
  (repeat' split) <;> simp
@[simp] theorem endStart_rfc_hotHold (s : State) : (endStart s).rfc.hotHold = s.rfc.hotHold := by
  unfold endStart; try dsimp only
  (repeat' split) <;> simp
@[simp] theorem endStart_lbu_peers (s : State) : (endStart s).lbu.peers = s.lbu.peers := by
  unfold endStart; try dsimp only
  (repeat' split) <;> simp
@[simp] theorem endStart_lbu_ignored (s : State) : (endStart s).lbu.ignored = s.lbu.ignored := by
  unfold endStart; try dsimp only
  (repeat' split) <;> simp
@[simp] theorem endStart_lbu_objectSum (s : State) : (endStart s).lbu.objectSum = s.lbu.objectSum := by
  unfold endStart; try dsimp only
  (repeat' split) <;> simp
@[simp] theorem endStart_lnk_state (s : State) : (endStart s).lnk.state = s.lnk.state := by
  unfold endStart; try dsimp only
  (repeat' split) <;> simp
@[simp] theorem endStart_lnk_heard (s : State) : (endStart s).lnk.heard = s.lnk.heard := by
  unfold endStart; try dsimp only
  (repeat' split) <;> simp
@[simp] theorem endStart_lnk_acknowledged (s : State) : (endStart s).lnk.acknowledged = s.lnk.acknowledged := by
  unfold endStart; try dsimp only
  (repeat' split) <;> simp
@[simp] theorem endStart_lnk_isolationTimer (s : State) : (endStart s).lnk.isolationTimer = s.lnk.isolationTimer := by
  unfold endStart; try dsimp only
  (repeat' split) <;> simp
@[simp] theorem endStart_lnk_silentTimer (s : State) : (endStart s).lnk.silentTimer = s.lnk.silentTimer := by
  unfold endStart; try dsimp only
  (repeat' split) <;> simp
@[simp] theorem endStart_lnk_failures (s : State) : (endStart s).lnk.failures = s.lnk.failures := by
  unfold endStart; try dsimp only
  (repeat' split) <;> simp
@[simp] theorem endStart_lnk_unknownFrames (s : State) : (endStart s).lnk.unknownFrames = s.lnk.unknownFrames := by
  unfold endStart; try dsimp only
  (repeat' split) <;> simp
@[simp] theorem endStart_lnk_droppedFrames (s : State) : (endStart s).lnk.droppedFrames = s.lnk.droppedFrames := by
  unfold endStart; try dsimp only
  (repeat' split) <;> simp
@[simp] theorem endStart_lnk_silentEntries (s : State) : (endStart s).lnk.silentEntries = s.lnk.silentEntries := by
  unfold endStart; try dsimp only
  (repeat' split) <;> simp
@[simp] theorem startDefrost_pending (s : State) : (startDefrost s).pending = s.pending := by
  unfold startDefrost; try dsimp only
  (repeat' split) <;> simp
@[simp] theorem startDefrost_due (s : State) : (startDefrost s).due = s.due := by
  unfold startDefrost; try dsimp only
  (repeat' split) <;> simp
@[simp] theorem startDefrost_phase (s : State) : (startDefrost s).phase = s.phase := by
  unfold startDefrost; try dsimp only
  (repeat' split) <;> simp
@[simp] theorem startDefrost_inputs (s : State) : (startDefrost s).inputs = s.inputs := by
  unfold startDefrost; try dsimp only
  (repeat' split) <;> simp
@[simp] theorem startDefrost_outputs (s : State) : (startDefrost s).outputs = s.outputs := by
  unfold startDefrost; try dsimp only
  (repeat' split) <;> simp
@[simp] theorem startDefrost_params (s : State) : (startDefrost s).params = s.params := by
  unfold startDefrost; try dsimp only
  (repeat' split) <;> simp
@[simp] theorem startDefrost_cnu (s : State) : (startDefrost s).cnu = s.cnu := by
  unfold startDefrost; try dsimp only
  (repeat' split) <;> simp
@[simp] theorem startDefrost_cru (s : State) : (startDefrost s).cru = s.cru := by
  unfold startDefrost; try dsimp only
  (repeat' split) <;> simp
@[simp] theorem startDefrost_cca (s : State) : (startDefrost s).cca = s.cca := by
  unfold startDefrost; try dsimp only
  (repeat' split) <;> simp
@[simp] theorem startDefrost_vsq (s : State) : (startDefrost s).vsq = s.vsq := by
  unfold startDefrost; try dsimp only
  (repeat' split) <;> simp
@[simp] theorem startDefrost_mxd (s : State) : (startDefrost s).mxd = s.mxd := by
  unfold startDefrost; try dsimp only
  (repeat' split) <;> simp
@[simp] theorem startDefrost_ssu (s : State) : (startDefrost s).ssu = s.ssu := by
  unfold startDefrost; try dsimp only
  (repeat' split) <;> simp
@[simp] theorem startDefrost_rfc_cabinet (s : State) : (startDefrost s).rfc.cabinet = s.rfc.cabinet := by
  unfold startDefrost; try dsimp only
  (repeat' split) <;> simp
@[simp] theorem startDefrost_rfc_evaporator (s : State) : (startDefrost s).rfc.evaporator = s.rfc.evaporator := by
  unfold startDefrost; try dsimp only
  (repeat' split) <;> simp
@[simp] theorem startDefrost_rfc_lockoutTimer (s : State) : (startDefrost s).rfc.lockoutTimer = s.rfc.lockoutTimer := by
  unfold startDefrost; try dsimp only
  (repeat' split) <;> simp
@[simp] theorem startDefrost_rfc_cycleTimer (s : State) : (startDefrost s).rfc.cycleTimer = s.rfc.cycleTimer := by
  unfold startDefrost; try dsimp only
  (repeat' split) <;> simp
@[simp] theorem startDefrost_rfc_classAsked (s : State) : (startDefrost s).rfc.classAsked = s.rfc.classAsked := by
  unfold startDefrost; try dsimp only
  (repeat' split) <;> simp
@[simp] theorem startDefrost_rfc_startTimer (s : State) : (startDefrost s).rfc.startTimer = s.rfc.startTimer := by
  unfold startDefrost; try dsimp only
  (repeat' split) <;> simp
@[simp] theorem startDefrost_rfc_onTimer (s : State) : (startDefrost s).rfc.onTimer = s.rfc.onTimer := by
  unfold startDefrost; try dsimp only
  (repeat' split) <;> simp
@[simp] theorem startDefrost_rfc_offTimer (s : State) : (startDefrost s).rfc.offTimer = s.rfc.offTimer := by
  unfold startDefrost; try dsimp only
  (repeat' split) <;> simp
@[simp] theorem startDefrost_rfc_accumulator (s : State) : (startDefrost s).rfc.accumulator = s.rfc.accumulator := by
  unfold startDefrost; try dsimp only
  (repeat' split) <;> simp
@[simp] theorem startDefrost_rfc_second (s : State) : (startDefrost s).rfc.second = s.rfc.second := by
  unfold startDefrost; try dsimp only
  (repeat' split) <;> simp
@[simp] theorem startDefrost_rfc_defrostDue (s : State) : (startDefrost s).rfc.defrostDue = s.rfc.defrostDue := by
  unfold startDefrost; try dsimp only
  (repeat' split) <;> simp
@[simp] theorem startDefrost_rfc_dripTimer (s : State) : (startDefrost s).rfc.dripTimer = s.rfc.dripTimer := by
  unfold startDefrost; try dsimp only
  (repeat' split) <;> simp
@[simp] theorem startDefrost_rfc_sellableCold (s : State) : (startDefrost s).rfc.sellableCold = s.rfc.sellableCold := by
  unfold startDefrost; try dsimp only
  (repeat' split) <;> simp
@[simp] theorem startDefrost_rfc_warmTimer (s : State) : (startDefrost s).rfc.warmTimer = s.rfc.warmTimer := by
  unfold startDefrost; try dsimp only
  (repeat' split) <;> simp
@[simp] theorem startDefrost_rfc_hotHold (s : State) : (startDefrost s).rfc.hotHold = s.rfc.hotHold := by
  unfold startDefrost; try dsimp only
  (repeat' split) <;> simp
@[simp] theorem startDefrost_lbu_peers (s : State) : (startDefrost s).lbu.peers = s.lbu.peers := by
  unfold startDefrost; try dsimp only
  (repeat' split) <;> simp
@[simp] theorem startDefrost_lbu_ignored (s : State) : (startDefrost s).lbu.ignored = s.lbu.ignored := by
  unfold startDefrost; try dsimp only
  (repeat' split) <;> simp
@[simp] theorem startDefrost_lbu_objectSum (s : State) : (startDefrost s).lbu.objectSum = s.lbu.objectSum := by
  unfold startDefrost; try dsimp only
  (repeat' split) <;> simp
@[simp] theorem startDefrost_lnk_state (s : State) : (startDefrost s).lnk.state = s.lnk.state := by
  unfold startDefrost; try dsimp only
  (repeat' split) <;> simp
@[simp] theorem startDefrost_lnk_heard (s : State) : (startDefrost s).lnk.heard = s.lnk.heard := by
  unfold startDefrost; try dsimp only
  (repeat' split) <;> simp
@[simp] theorem startDefrost_lnk_acknowledged (s : State) : (startDefrost s).lnk.acknowledged = s.lnk.acknowledged := by
  unfold startDefrost; try dsimp only
  (repeat' split) <;> simp
@[simp] theorem startDefrost_lnk_isolationTimer (s : State) : (startDefrost s).lnk.isolationTimer = s.lnk.isolationTimer := by
  unfold startDefrost; try dsimp only
  (repeat' split) <;> simp
@[simp] theorem startDefrost_lnk_silentTimer (s : State) : (startDefrost s).lnk.silentTimer = s.lnk.silentTimer := by
  unfold startDefrost; try dsimp only
  (repeat' split) <;> simp
@[simp] theorem startDefrost_lnk_failures (s : State) : (startDefrost s).lnk.failures = s.lnk.failures := by
  unfold startDefrost; try dsimp only
  (repeat' split) <;> simp
@[simp] theorem startDefrost_lnk_unknownFrames (s : State) : (startDefrost s).lnk.unknownFrames = s.lnk.unknownFrames := by
  unfold startDefrost; try dsimp only
  (repeat' split) <;> simp
@[simp] theorem startDefrost_lnk_droppedFrames (s : State) : (startDefrost s).lnk.droppedFrames = s.lnk.droppedFrames := by
  unfold startDefrost; try dsimp only
  (repeat' split) <;> simp
@[simp] theorem startDefrost_lnk_silentEntries (s : State) : (startDefrost s).lnk.silentEntries = s.lnk.silentEntries := by
  unfold startDefrost; try dsimp only
  (repeat' split) <;> simp
@[simp] theorem addSecond_pending (s : State) : (addSecond s).pending = s.pending := by
  unfold addSecond; try dsimp only
  (repeat' split) <;> simp
@[simp] theorem addSecond_due (s : State) : (addSecond s).due = s.due := by
  unfold addSecond; try dsimp only
  (repeat' split) <;> simp
@[simp] theorem addSecond_phase (s : State) : (addSecond s).phase = s.phase := by
  unfold addSecond; try dsimp only
  (repeat' split) <;> simp
@[simp] theorem addSecond_inputs (s : State) : (addSecond s).inputs = s.inputs := by
  unfold addSecond; try dsimp only
  (repeat' split) <;> simp
@[simp] theorem addSecond_outputs (s : State) : (addSecond s).outputs = s.outputs := by
  unfold addSecond; try dsimp only
  (repeat' split) <;> simp
@[simp] theorem addSecond_params (s : State) : (addSecond s).params = s.params := by
  unfold addSecond; try dsimp only
  (repeat' split) <;> simp
@[simp] theorem addSecond_cnu (s : State) : (addSecond s).cnu = s.cnu := by
  unfold addSecond; try dsimp only
  (repeat' split) <;> simp
@[simp] theorem addSecond_cru (s : State) : (addSecond s).cru = s.cru := by
  unfold addSecond; try dsimp only
  (repeat' split) <;> simp
@[simp] theorem addSecond_cca (s : State) : (addSecond s).cca = s.cca := by
  unfold addSecond; try dsimp only
  (repeat' split) <;> simp
@[simp] theorem addSecond_vsq (s : State) : (addSecond s).vsq = s.vsq := by
  unfold addSecond; try dsimp only
  (repeat' split) <;> simp
@[simp] theorem addSecond_mxd (s : State) : (addSecond s).mxd = s.mxd := by
  unfold addSecond; try dsimp only
  (repeat' split) <;> simp
@[simp] theorem addSecond_lbu (s : State) : (addSecond s).lbu = s.lbu := by
  unfold addSecond; try dsimp only
  (repeat' split) <;> simp
@[simp] theorem addSecond_lnk (s : State) : (addSecond s).lnk = s.lnk := by
  unfold addSecond; try dsimp only
  (repeat' split) <;> simp
@[simp] theorem addSecond_ssu (s : State) : (addSecond s).ssu = s.ssu := by
  unfold addSecond; try dsimp only
  (repeat' split) <;> simp
@[simp] theorem addSecond_rfc_cabinet (s : State) : (addSecond s).rfc.cabinet = s.rfc.cabinet := by
  unfold addSecond; try dsimp only
  (repeat' split) <;> simp
@[simp] theorem addSecond_rfc_evaporator (s : State) : (addSecond s).rfc.evaporator = s.rfc.evaporator := by
  unfold addSecond; try dsimp only
  (repeat' split) <;> simp
@[simp] theorem addSecond_rfc_cycleTimer (s : State) : (addSecond s).rfc.cycleTimer = s.rfc.cycleTimer := by
  unfold addSecond; try dsimp only
  (repeat' split) <;> simp
@[simp] theorem addSecond_rfc_classAsked (s : State) : (addSecond s).rfc.classAsked = s.rfc.classAsked := by
  unfold addSecond; try dsimp only
  (repeat' split) <;> simp
@[simp] theorem addSecond_rfc_startTimer (s : State) : (addSecond s).rfc.startTimer = s.rfc.startTimer := by
  unfold addSecond; try dsimp only
  (repeat' split) <;> simp
@[simp] theorem addSecond_rfc_onTimer (s : State) : (addSecond s).rfc.onTimer = s.rfc.onTimer := by
  unfold addSecond; try dsimp only
  (repeat' split) <;> simp
@[simp] theorem addSecond_rfc_offTimer (s : State) : (addSecond s).rfc.offTimer = s.rfc.offTimer := by
  unfold addSecond; try dsimp only
  (repeat' split) <;> simp
@[simp] theorem addSecond_rfc_defrostTimer (s : State) : (addSecond s).rfc.defrostTimer = s.rfc.defrostTimer := by
  unfold addSecond; try dsimp only
  (repeat' split) <;> simp
@[simp] theorem addSecond_rfc_heaterMode (s : State) : (addSecond s).rfc.heaterMode = s.rfc.heaterMode := by
  unfold addSecond; try dsimp only
  (repeat' split) <;> simp
@[simp] theorem addSecond_rfc_dripTimer (s : State) : (addSecond s).rfc.dripTimer = s.rfc.dripTimer := by
  unfold addSecond; try dsimp only
  (repeat' split) <;> simp
@[simp] theorem addSecond_rfc_sellableCold (s : State) : (addSecond s).rfc.sellableCold = s.rfc.sellableCold := by
  unfold addSecond; try dsimp only
  (repeat' split) <;> simp
@[simp] theorem addSecond_rfc_warmTimer (s : State) : (addSecond s).rfc.warmTimer = s.rfc.warmTimer := by
  unfold addSecond; try dsimp only
  (repeat' split) <;> simp
@[simp] theorem addSecond_rfc_hotHold (s : State) : (addSecond s).rfc.hotHold = s.rfc.hotHold := by
  unfold addSecond; try dsimp only
  (repeat' split) <;> simp
@[simp] theorem wholeSecond_pending (s : State) : (wholeSecond s).pending = s.pending := by
  unfold wholeSecond; try dsimp only
  (repeat' split) <;> simp
@[simp] theorem wholeSecond_due (s : State) : (wholeSecond s).due = s.due := by
  unfold wholeSecond; try dsimp only
  (repeat' split) <;> simp
@[simp] theorem wholeSecond_phase (s : State) : (wholeSecond s).phase = s.phase := by
  unfold wholeSecond; try dsimp only
  (repeat' split) <;> simp
@[simp] theorem wholeSecond_inputs (s : State) : (wholeSecond s).inputs = s.inputs := by
  unfold wholeSecond; try dsimp only
  (repeat' split) <;> simp
@[simp] theorem wholeSecond_outputs (s : State) : (wholeSecond s).outputs = s.outputs := by
  unfold wholeSecond; try dsimp only
  (repeat' split) <;> simp
@[simp] theorem wholeSecond_params (s : State) : (wholeSecond s).params = s.params := by
  unfold wholeSecond; try dsimp only
  (repeat' split) <;> simp
@[simp] theorem wholeSecond_cnu (s : State) : (wholeSecond s).cnu = s.cnu := by
  unfold wholeSecond; try dsimp only
  (repeat' split) <;> simp
@[simp] theorem wholeSecond_cru (s : State) : (wholeSecond s).cru = s.cru := by
  unfold wholeSecond; try dsimp only
  (repeat' split) <;> simp
@[simp] theorem wholeSecond_cca (s : State) : (wholeSecond s).cca = s.cca := by
  unfold wholeSecond; try dsimp only
  (repeat' split) <;> simp
@[simp] theorem wholeSecond_vsq (s : State) : (wholeSecond s).vsq = s.vsq := by
  unfold wholeSecond; try dsimp only
  (repeat' split) <;> simp
@[simp] theorem wholeSecond_mxd (s : State) : (wholeSecond s).mxd = s.mxd := by
  unfold wholeSecond; try dsimp only
  (repeat' split) <;> simp
@[simp] theorem wholeSecond_lbu (s : State) : (wholeSecond s).lbu = s.lbu := by
  unfold wholeSecond; try dsimp only
  (repeat' split) <;> simp
@[simp] theorem wholeSecond_lnk (s : State) : (wholeSecond s).lnk = s.lnk := by
  unfold wholeSecond; try dsimp only
  (repeat' split) <;> simp
@[simp] theorem wholeSecond_ssu (s : State) : (wholeSecond s).ssu = s.ssu := by
  unfold wholeSecond; try dsimp only
  (repeat' split) <;> simp
@[simp] theorem wholeSecond_rfc_cabinet (s : State) : (wholeSecond s).rfc.cabinet = s.rfc.cabinet := by
  unfold wholeSecond; try dsimp only
  (repeat' split) <;> simp
@[simp] theorem wholeSecond_rfc_evaporator (s : State) : (wholeSecond s).rfc.evaporator = s.rfc.evaporator := by
  unfold wholeSecond; try dsimp only
  (repeat' split) <;> simp
@[simp] theorem wholeSecond_rfc_cycleTimer (s : State) : (wholeSecond s).rfc.cycleTimer = s.rfc.cycleTimer := by
  unfold wholeSecond; try dsimp only
  (repeat' split) <;> simp
@[simp] theorem wholeSecond_rfc_classAsked (s : State) : (wholeSecond s).rfc.classAsked = s.rfc.classAsked := by
  unfold wholeSecond; try dsimp only
  (repeat' split) <;> simp
@[simp] theorem wholeSecond_rfc_startTimer (s : State) : (wholeSecond s).rfc.startTimer = s.rfc.startTimer := by
  unfold wholeSecond; try dsimp only
  (repeat' split) <;> simp
@[simp] theorem wholeSecond_rfc_onTimer (s : State) : (wholeSecond s).rfc.onTimer = s.rfc.onTimer := by
  unfold wholeSecond; try dsimp only
  (repeat' split) <;> simp
@[simp] theorem wholeSecond_rfc_offTimer (s : State) : (wholeSecond s).rfc.offTimer = s.rfc.offTimer := by
  unfold wholeSecond; try dsimp only
  (repeat' split) <;> simp
@[simp] theorem wholeSecond_rfc_defrostTimer (s : State) : (wholeSecond s).rfc.defrostTimer = s.rfc.defrostTimer := by
  unfold wholeSecond; try dsimp only
  (repeat' split) <;> simp
@[simp] theorem wholeSecond_rfc_heaterMode (s : State) : (wholeSecond s).rfc.heaterMode = s.rfc.heaterMode := by
  unfold wholeSecond; try dsimp only
  (repeat' split) <;> simp
@[simp] theorem wholeSecond_rfc_dripTimer (s : State) : (wholeSecond s).rfc.dripTimer = s.rfc.dripTimer := by
  unfold wholeSecond; try dsimp only
  (repeat' split) <;> simp
@[simp] theorem wholeSecond_rfc_sellableCold (s : State) : (wholeSecond s).rfc.sellableCold = s.rfc.sellableCold := by
  unfold wholeSecond; try dsimp only
  (repeat' split) <;> simp
@[simp] theorem wholeSecond_rfc_warmTimer (s : State) : (wholeSecond s).rfc.warmTimer = s.rfc.warmTimer := by
  unfold wholeSecond; try dsimp only
  (repeat' split) <;> simp
@[simp] theorem wholeSecond_rfc_hotHold (s : State) : (wholeSecond s).rfc.hotHold = s.rfc.hotHold := by
  unfold wholeSecond; try dsimp only
  (repeat' split) <;> simp
@[simp] theorem openRelay_pending (s : State) : (openRelay s).pending = s.pending := by
  unfold openRelay; try dsimp only
  (repeat' split) <;> simp
@[simp] theorem openRelay_due (s : State) : (openRelay s).due = s.due := by
  unfold openRelay; try dsimp only
  (repeat' split) <;> simp
@[simp] theorem openRelay_phase (s : State) : (openRelay s).phase = s.phase := by
  unfold openRelay; try dsimp only
  (repeat' split) <;> simp
@[simp] theorem openRelay_inputs (s : State) : (openRelay s).inputs = s.inputs := by
  unfold openRelay; try dsimp only
  (repeat' split) <;> simp
@[simp] theorem openRelay_outputs (s : State) : (openRelay s).outputs = s.outputs := by
  unfold openRelay; try dsimp only
  (repeat' split) <;> simp
@[simp] theorem openRelay_params (s : State) : (openRelay s).params = s.params := by
  unfold openRelay; try dsimp only
  (repeat' split) <;> simp
@[simp] theorem openRelay_cnu (s : State) : (openRelay s).cnu = s.cnu := by
  unfold openRelay; try dsimp only
  (repeat' split) <;> simp
@[simp] theorem openRelay_cru (s : State) : (openRelay s).cru = s.cru := by
  unfold openRelay; try dsimp only
  (repeat' split) <;> simp
@[simp] theorem openRelay_cca (s : State) : (openRelay s).cca = s.cca := by
  unfold openRelay; try dsimp only
  (repeat' split) <;> simp
@[simp] theorem openRelay_vsq (s : State) : (openRelay s).vsq = s.vsq := by
  unfold openRelay; try dsimp only
  (repeat' split) <;> simp
@[simp] theorem openRelay_mxd (s : State) : (openRelay s).mxd = s.mxd := by
  unfold openRelay; try dsimp only
  (repeat' split) <;> simp
@[simp] theorem openRelay_ssu (s : State) : (openRelay s).ssu = s.ssu := by
  unfold openRelay; try dsimp only
  (repeat' split) <;> simp
@[simp] theorem openRelay_rfc_cabinet (s : State) : (openRelay s).rfc.cabinet = s.rfc.cabinet := by
  unfold openRelay; try dsimp only
  (repeat' split) <;> simp
@[simp] theorem openRelay_rfc_evaporator (s : State) : (openRelay s).rfc.evaporator = s.rfc.evaporator := by
  unfold openRelay; try dsimp only
  (repeat' split) <;> simp
@[simp] theorem openRelay_rfc_classAsked (s : State) : (openRelay s).rfc.classAsked = s.rfc.classAsked := by
  unfold openRelay; try dsimp only
  (repeat' split) <;> simp
@[simp] theorem openRelay_rfc_startTimer (s : State) : (openRelay s).rfc.startTimer = s.rfc.startTimer := by
  unfold openRelay; try dsimp only
  (repeat' split) <;> simp
@[simp] theorem openRelay_rfc_accumulator (s : State) : (openRelay s).rfc.accumulator = s.rfc.accumulator := by
  unfold openRelay; try dsimp only
  (repeat' split) <;> simp
@[simp] theorem openRelay_rfc_defrostDue (s : State) : (openRelay s).rfc.defrostDue = s.rfc.defrostDue := by
  unfold openRelay; try dsimp only
  (repeat' split) <;> simp
@[simp] theorem openRelay_rfc_dripTimer (s : State) : (openRelay s).rfc.dripTimer = s.rfc.dripTimer := by
  unfold openRelay; try dsimp only
  (repeat' split) <;> simp
@[simp] theorem openRelay_rfc_sellableCold (s : State) : (openRelay s).rfc.sellableCold = s.rfc.sellableCold := by
  unfold openRelay; try dsimp only
  (repeat' split) <;> simp
@[simp] theorem openRelay_rfc_warmTimer (s : State) : (openRelay s).rfc.warmTimer = s.rfc.warmTimer := by
  unfold openRelay; try dsimp only
  (repeat' split) <;> simp
@[simp] theorem openRelay_rfc_hotHold (s : State) : (openRelay s).rfc.hotHold = s.rfc.hotHold := by
  unfold openRelay; try dsimp only
  (repeat' split) <;> simp
@[simp] theorem openRelay_lbu_peers (s : State) : (openRelay s).lbu.peers = s.lbu.peers := by
  unfold openRelay; try dsimp only
  (repeat' split) <;> simp
@[simp] theorem openRelay_lbu_ignored (s : State) : (openRelay s).lbu.ignored = s.lbu.ignored := by
  unfold openRelay; try dsimp only
  (repeat' split) <;> simp
@[simp] theorem openRelay_lbu_objectSum (s : State) : (openRelay s).lbu.objectSum = s.lbu.objectSum := by
  unfold openRelay; try dsimp only
  (repeat' split) <;> simp
@[simp] theorem openRelay_lnk_state (s : State) : (openRelay s).lnk.state = s.lnk.state := by
  unfold openRelay; try dsimp only
  (repeat' split) <;> simp
@[simp] theorem openRelay_lnk_heard (s : State) : (openRelay s).lnk.heard = s.lnk.heard := by
  unfold openRelay; try dsimp only
  (repeat' split) <;> simp
@[simp] theorem openRelay_lnk_acknowledged (s : State) : (openRelay s).lnk.acknowledged = s.lnk.acknowledged := by
  unfold openRelay; try dsimp only
  (repeat' split) <;> simp
@[simp] theorem openRelay_lnk_isolationTimer (s : State) : (openRelay s).lnk.isolationTimer = s.lnk.isolationTimer := by
  unfold openRelay; try dsimp only
  (repeat' split) <;> simp
@[simp] theorem openRelay_lnk_silentTimer (s : State) : (openRelay s).lnk.silentTimer = s.lnk.silentTimer := by
  unfold openRelay; try dsimp only
  (repeat' split) <;> simp
@[simp] theorem openRelay_lnk_failures (s : State) : (openRelay s).lnk.failures = s.lnk.failures := by
  unfold openRelay; try dsimp only
  (repeat' split) <;> simp
@[simp] theorem openRelay_lnk_unknownFrames (s : State) : (openRelay s).lnk.unknownFrames = s.lnk.unknownFrames := by
  unfold openRelay; try dsimp only
  (repeat' split) <;> simp
@[simp] theorem openRelay_lnk_droppedFrames (s : State) : (openRelay s).lnk.droppedFrames = s.lnk.droppedFrames := by
  unfold openRelay; try dsimp only
  (repeat' split) <;> simp
@[simp] theorem openRelay_lnk_silentEntries (s : State) : (openRelay s).lnk.silentEntries = s.lnk.silentEntries := by
  unfold openRelay; try dsimp only
  (repeat' split) <;> simp
@[simp] theorem stopCompressor_pending (s : State) : (stopCompressor s).pending = s.pending := by
  unfold stopCompressor; try dsimp only
  (repeat' split) <;> simp
@[simp] theorem stopCompressor_due (s : State) : (stopCompressor s).due = s.due := by
  unfold stopCompressor; try dsimp only
  (repeat' split) <;> simp
@[simp] theorem stopCompressor_phase (s : State) : (stopCompressor s).phase = s.phase := by
  unfold stopCompressor; try dsimp only
  (repeat' split) <;> simp
@[simp] theorem stopCompressor_inputs (s : State) : (stopCompressor s).inputs = s.inputs := by
  unfold stopCompressor; try dsimp only
  (repeat' split) <;> simp
@[simp] theorem stopCompressor_outputs (s : State) : (stopCompressor s).outputs = s.outputs := by
  unfold stopCompressor; try dsimp only
  (repeat' split) <;> simp
@[simp] theorem stopCompressor_params (s : State) : (stopCompressor s).params = s.params := by
  unfold stopCompressor; try dsimp only
  (repeat' split) <;> simp
@[simp] theorem stopCompressor_cnu (s : State) : (stopCompressor s).cnu = s.cnu := by
  unfold stopCompressor; try dsimp only
  (repeat' split) <;> simp
@[simp] theorem stopCompressor_cru (s : State) : (stopCompressor s).cru = s.cru := by
  unfold stopCompressor; try dsimp only
  (repeat' split) <;> simp
@[simp] theorem stopCompressor_cca (s : State) : (stopCompressor s).cca = s.cca := by
  unfold stopCompressor; try dsimp only
  (repeat' split) <;> simp
@[simp] theorem stopCompressor_vsq (s : State) : (stopCompressor s).vsq = s.vsq := by
  unfold stopCompressor; try dsimp only
  (repeat' split) <;> simp
@[simp] theorem stopCompressor_mxd (s : State) : (stopCompressor s).mxd = s.mxd := by
  unfold stopCompressor; try dsimp only
  (repeat' split) <;> simp
@[simp] theorem stopCompressor_ssu (s : State) : (stopCompressor s).ssu = s.ssu := by
  unfold stopCompressor; try dsimp only
  (repeat' split) <;> simp
@[simp] theorem stopCompressor_rfc_cabinet (s : State) : (stopCompressor s).rfc.cabinet = s.rfc.cabinet := by
  unfold stopCompressor; try dsimp only
  (repeat' split) <;> simp
@[simp] theorem stopCompressor_rfc_evaporator (s : State) : (stopCompressor s).rfc.evaporator = s.rfc.evaporator := by
  unfold stopCompressor; try dsimp only
  (repeat' split) <;> simp
@[simp] theorem stopCompressor_rfc_classAsked (s : State) : (stopCompressor s).rfc.classAsked = s.rfc.classAsked := by
  unfold stopCompressor; try dsimp only
  (repeat' split) <;> simp
@[simp] theorem stopCompressor_rfc_startTimer (s : State) : (stopCompressor s).rfc.startTimer = s.rfc.startTimer := by
  unfold stopCompressor; try dsimp only
  (repeat' split) <;> simp
@[simp] theorem stopCompressor_rfc_dripTimer (s : State) : (stopCompressor s).rfc.dripTimer = s.rfc.dripTimer := by
  unfold stopCompressor; try dsimp only
  (repeat' split) <;> simp
@[simp] theorem stopCompressor_rfc_sellableCold (s : State) : (stopCompressor s).rfc.sellableCold = s.rfc.sellableCold := by
  unfold stopCompressor; try dsimp only
  (repeat' split) <;> simp
@[simp] theorem stopCompressor_rfc_warmTimer (s : State) : (stopCompressor s).rfc.warmTimer = s.rfc.warmTimer := by
  unfold stopCompressor; try dsimp only
  (repeat' split) <;> simp
@[simp] theorem stopCompressor_rfc_hotHold (s : State) : (stopCompressor s).rfc.hotHold = s.rfc.hotHold := by
  unfold stopCompressor; try dsimp only
  (repeat' split) <;> simp
@[simp] theorem stopCompressor_lbu_peers (s : State) : (stopCompressor s).lbu.peers = s.lbu.peers := by
  unfold stopCompressor; try dsimp only
  (repeat' split) <;> simp
@[simp] theorem stopCompressor_lbu_ignored (s : State) : (stopCompressor s).lbu.ignored = s.lbu.ignored := by
  unfold stopCompressor; try dsimp only
  (repeat' split) <;> simp
@[simp] theorem stopCompressor_lbu_objectSum (s : State) : (stopCompressor s).lbu.objectSum = s.lbu.objectSum := by
  unfold stopCompressor; try dsimp only
  (repeat' split) <;> simp
@[simp] theorem stopCompressor_lnk_state (s : State) : (stopCompressor s).lnk.state = s.lnk.state := by
  unfold stopCompressor; try dsimp only
  (repeat' split) <;> simp
@[simp] theorem stopCompressor_lnk_heard (s : State) : (stopCompressor s).lnk.heard = s.lnk.heard := by
  unfold stopCompressor; try dsimp only
  (repeat' split) <;> simp
@[simp] theorem stopCompressor_lnk_acknowledged (s : State) : (stopCompressor s).lnk.acknowledged = s.lnk.acknowledged := by
  unfold stopCompressor; try dsimp only
  (repeat' split) <;> simp
@[simp] theorem stopCompressor_lnk_isolationTimer (s : State) : (stopCompressor s).lnk.isolationTimer = s.lnk.isolationTimer := by
  unfold stopCompressor; try dsimp only
  (repeat' split) <;> simp
@[simp] theorem stopCompressor_lnk_silentTimer (s : State) : (stopCompressor s).lnk.silentTimer = s.lnk.silentTimer := by
  unfold stopCompressor; try dsimp only
  (repeat' split) <;> simp
@[simp] theorem stopCompressor_lnk_failures (s : State) : (stopCompressor s).lnk.failures = s.lnk.failures := by
  unfold stopCompressor; try dsimp only
  (repeat' split) <;> simp
@[simp] theorem stopCompressor_lnk_unknownFrames (s : State) : (stopCompressor s).lnk.unknownFrames = s.lnk.unknownFrames := by
  unfold stopCompressor; try dsimp only
  (repeat' split) <;> simp
@[simp] theorem stopCompressor_lnk_droppedFrames (s : State) : (stopCompressor s).lnk.droppedFrames = s.lnk.droppedFrames := by
  unfold stopCompressor; try dsimp only
  (repeat' split) <;> simp
@[simp] theorem stopCompressor_lnk_silentEntries (s : State) : (stopCompressor s).lnk.silentEntries = s.lnk.silentEntries := by
  unfold stopCompressor; try dsimp only
  (repeat' split) <;> simp
@[simp] theorem testStop_pending (s : State) : (testStop s).pending = s.pending := by
  unfold testStop; try dsimp only
  (repeat' split) <;> simp
@[simp] theorem testStop_due (s : State) : (testStop s).due = s.due := by
  unfold testStop; try dsimp only
  (repeat' split) <;> simp
@[simp] theorem testStop_phase (s : State) : (testStop s).phase = s.phase := by
  unfold testStop; try dsimp only
  (repeat' split) <;> simp
@[simp] theorem testStop_inputs (s : State) : (testStop s).inputs = s.inputs := by
  unfold testStop; try dsimp only
  (repeat' split) <;> simp
@[simp] theorem testStop_outputs (s : State) : (testStop s).outputs = s.outputs := by
  unfold testStop; try dsimp only
  (repeat' split) <;> simp
@[simp] theorem testStop_params (s : State) : (testStop s).params = s.params := by
  unfold testStop; try dsimp only
  (repeat' split) <;> simp
@[simp] theorem testStop_cnu (s : State) : (testStop s).cnu = s.cnu := by
  unfold testStop; try dsimp only
  (repeat' split) <;> simp
@[simp] theorem testStop_cru (s : State) : (testStop s).cru = s.cru := by
  unfold testStop; try dsimp only
  (repeat' split) <;> simp
@[simp] theorem testStop_cca (s : State) : (testStop s).cca = s.cca := by
  unfold testStop; try dsimp only
  (repeat' split) <;> simp
@[simp] theorem testStop_vsq (s : State) : (testStop s).vsq = s.vsq := by
  unfold testStop; try dsimp only
  (repeat' split) <;> simp
@[simp] theorem testStop_mxd (s : State) : (testStop s).mxd = s.mxd := by
  unfold testStop; try dsimp only
  (repeat' split) <;> simp
@[simp] theorem testStop_ssu (s : State) : (testStop s).ssu = s.ssu := by
  unfold testStop; try dsimp only
  (repeat' split) <;> simp
@[simp] theorem testStop_rfc_cabinet (s : State) : (testStop s).rfc.cabinet = s.rfc.cabinet := by
  unfold testStop; try dsimp only
  (repeat' split) <;> simp
@[simp] theorem testStop_rfc_evaporator (s : State) : (testStop s).rfc.evaporator = s.rfc.evaporator := by
  unfold testStop; try dsimp only
  (repeat' split) <;> simp
@[simp] theorem testStop_rfc_classAsked (s : State) : (testStop s).rfc.classAsked = s.rfc.classAsked := by
  unfold testStop; try dsimp only
  (repeat' split) <;> simp
@[simp] theorem testStop_rfc_startTimer (s : State) : (testStop s).rfc.startTimer = s.rfc.startTimer := by
  unfold testStop; try dsimp only
  (repeat' split) <;> simp
@[simp] theorem testStop_rfc_dripTimer (s : State) : (testStop s).rfc.dripTimer = s.rfc.dripTimer := by
  unfold testStop; try dsimp only
  (repeat' split) <;> simp
@[simp] theorem testStop_rfc_sellableCold (s : State) : (testStop s).rfc.sellableCold = s.rfc.sellableCold := by
  unfold testStop; try dsimp only
  (repeat' split) <;> simp
@[simp] theorem testStop_rfc_warmTimer (s : State) : (testStop s).rfc.warmTimer = s.rfc.warmTimer := by
  unfold testStop; try dsimp only
  (repeat' split) <;> simp
@[simp] theorem testStop_rfc_hotHold (s : State) : (testStop s).rfc.hotHold = s.rfc.hotHold := by
  unfold testStop; try dsimp only
  (repeat' split) <;> simp
@[simp] theorem testStop_lbu_peers (s : State) : (testStop s).lbu.peers = s.lbu.peers := by
  unfold testStop; try dsimp only
  (repeat' split) <;> simp
@[simp] theorem testStop_lbu_ignored (s : State) : (testStop s).lbu.ignored = s.lbu.ignored := by
  unfold testStop; try dsimp only
  (repeat' split) <;> simp
@[simp] theorem testStop_lbu_objectSum (s : State) : (testStop s).lbu.objectSum = s.lbu.objectSum := by
  unfold testStop; try dsimp only
  (repeat' split) <;> simp
@[simp] theorem testStop_lnk_state (s : State) : (testStop s).lnk.state = s.lnk.state := by
  unfold testStop; try dsimp only
  (repeat' split) <;> simp
@[simp] theorem testStop_lnk_heard (s : State) : (testStop s).lnk.heard = s.lnk.heard := by
  unfold testStop; try dsimp only
  (repeat' split) <;> simp
@[simp] theorem testStop_lnk_acknowledged (s : State) : (testStop s).lnk.acknowledged = s.lnk.acknowledged := by
  unfold testStop; try dsimp only
  (repeat' split) <;> simp
@[simp] theorem testStop_lnk_isolationTimer (s : State) : (testStop s).lnk.isolationTimer = s.lnk.isolationTimer := by
  unfold testStop; try dsimp only
  (repeat' split) <;> simp
@[simp] theorem testStop_lnk_silentTimer (s : State) : (testStop s).lnk.silentTimer = s.lnk.silentTimer := by
  unfold testStop; try dsimp only
  (repeat' split) <;> simp
@[simp] theorem testStop_lnk_failures (s : State) : (testStop s).lnk.failures = s.lnk.failures := by
  unfold testStop; try dsimp only
  (repeat' split) <;> simp
@[simp] theorem testStop_lnk_unknownFrames (s : State) : (testStop s).lnk.unknownFrames = s.lnk.unknownFrames := by
  unfold testStop; try dsimp only
  (repeat' split) <;> simp
@[simp] theorem testStop_lnk_droppedFrames (s : State) : (testStop s).lnk.droppedFrames = s.lnk.droppedFrames := by
  unfold testStop; try dsimp only
  (repeat' split) <;> simp
@[simp] theorem testStop_lnk_silentEntries (s : State) : (testStop s).lnk.silentEntries = s.lnk.silentEntries := by
  unfold testStop; try dsimp only
  (repeat' split) <;> simp
@[simp] theorem testWant_pending (s : State) : (testWant s).pending = s.pending := by
  unfold testWant; try dsimp only
  (repeat' split) <;> simp
@[simp] theorem testWant_due (s : State) : (testWant s).due = s.due := by
  unfold testWant; try dsimp only
  (repeat' split) <;> simp
@[simp] theorem testWant_phase (s : State) : (testWant s).phase = s.phase := by
  unfold testWant; try dsimp only
  (repeat' split) <;> simp
@[simp] theorem testWant_inputs (s : State) : (testWant s).inputs = s.inputs := by
  unfold testWant; try dsimp only
  (repeat' split) <;> simp
@[simp] theorem testWant_outputs (s : State) : (testWant s).outputs = s.outputs := by
  unfold testWant; try dsimp only
  (repeat' split) <;> simp
@[simp] theorem testWant_params (s : State) : (testWant s).params = s.params := by
  unfold testWant; try dsimp only
  (repeat' split) <;> simp
@[simp] theorem testWant_cnu (s : State) : (testWant s).cnu = s.cnu := by
  unfold testWant; try dsimp only
  (repeat' split) <;> simp
@[simp] theorem testWant_cru (s : State) : (testWant s).cru = s.cru := by
  unfold testWant; try dsimp only
  (repeat' split) <;> simp
@[simp] theorem testWant_cca (s : State) : (testWant s).cca = s.cca := by
  unfold testWant; try dsimp only
  (repeat' split) <;> simp
@[simp] theorem testWant_vsq (s : State) : (testWant s).vsq = s.vsq := by
  unfold testWant; try dsimp only
  (repeat' split) <;> simp
@[simp] theorem testWant_mxd (s : State) : (testWant s).mxd = s.mxd := by
  unfold testWant; try dsimp only
  (repeat' split) <;> simp
@[simp] theorem testWant_ssu (s : State) : (testWant s).ssu = s.ssu := by
  unfold testWant; try dsimp only
  (repeat' split) <;> simp
@[simp] theorem testWant_rfc_cabinet (s : State) : (testWant s).rfc.cabinet = s.rfc.cabinet := by
  unfold testWant; try dsimp only
  (repeat' split) <;> simp
@[simp] theorem testWant_rfc_evaporator (s : State) : (testWant s).rfc.evaporator = s.rfc.evaporator := by
  unfold testWant; try dsimp only
  (repeat' split) <;> simp
@[simp] theorem testWant_rfc_lockoutTimer (s : State) : (testWant s).rfc.lockoutTimer = s.rfc.lockoutTimer := by
  unfold testWant; try dsimp only
  (repeat' split) <;> simp
@[simp] theorem testWant_rfc_startTimer (s : State) : (testWant s).rfc.startTimer = s.rfc.startTimer := by
  unfold testWant; try dsimp only
  (repeat' split) <;> simp
@[simp] theorem testWant_rfc_onTimer (s : State) : (testWant s).rfc.onTimer = s.rfc.onTimer := by
  unfold testWant; try dsimp only
  (repeat' split) <;> simp
@[simp] theorem testWant_rfc_accumulator (s : State) : (testWant s).rfc.accumulator = s.rfc.accumulator := by
  unfold testWant; try dsimp only
  (repeat' split) <;> simp
@[simp] theorem testWant_rfc_second (s : State) : (testWant s).rfc.second = s.rfc.second := by
  unfold testWant; try dsimp only
  (repeat' split) <;> simp
@[simp] theorem testWant_rfc_defrostDue (s : State) : (testWant s).rfc.defrostDue = s.rfc.defrostDue := by
  unfold testWant; try dsimp only
  (repeat' split) <;> simp
@[simp] theorem testWant_rfc_defrostTimer (s : State) : (testWant s).rfc.defrostTimer = s.rfc.defrostTimer := by
  unfold testWant; try dsimp only
  (repeat' split) <;> simp
@[simp] theorem testWant_rfc_heaterMode (s : State) : (testWant s).rfc.heaterMode = s.rfc.heaterMode := by
  unfold testWant; try dsimp only
  (repeat' split) <;> simp
@[simp] theorem testWant_rfc_dripTimer (s : State) : (testWant s).rfc.dripTimer = s.rfc.dripTimer := by
  unfold testWant; try dsimp only
  (repeat' split) <;> simp
@[simp] theorem testWant_rfc_sellableCold (s : State) : (testWant s).rfc.sellableCold = s.rfc.sellableCold := by
  unfold testWant; try dsimp only
  (repeat' split) <;> simp
@[simp] theorem testWant_rfc_warmTimer (s : State) : (testWant s).rfc.warmTimer = s.rfc.warmTimer := by
  unfold testWant; try dsimp only
  (repeat' split) <;> simp
@[simp] theorem testWant_rfc_hotHold (s : State) : (testWant s).rfc.hotHold = s.rfc.hotHold := by
  unfold testWant; try dsimp only
  (repeat' split) <;> simp
@[simp] theorem testWant_lbu_peers (s : State) : (testWant s).lbu.peers = s.lbu.peers := by
  unfold testWant; try dsimp only
  (repeat' split) <;> simp
@[simp] theorem testWant_lbu_ignored (s : State) : (testWant s).lbu.ignored = s.lbu.ignored := by
  unfold testWant; try dsimp only
  (repeat' split) <;> simp
@[simp] theorem testWant_lbu_objectSum (s : State) : (testWant s).lbu.objectSum = s.lbu.objectSum := by
  unfold testWant; try dsimp only
  (repeat' split) <;> simp
@[simp] theorem testWant_lnk_state (s : State) : (testWant s).lnk.state = s.lnk.state := by
  unfold testWant; try dsimp only
  (repeat' split) <;> simp
@[simp] theorem testWant_lnk_heard (s : State) : (testWant s).lnk.heard = s.lnk.heard := by
  unfold testWant; try dsimp only
  (repeat' split) <;> simp
@[simp] theorem testWant_lnk_acknowledged (s : State) : (testWant s).lnk.acknowledged = s.lnk.acknowledged := by
  unfold testWant; try dsimp only
  (repeat' split) <;> simp
@[simp] theorem testWant_lnk_isolationTimer (s : State) : (testWant s).lnk.isolationTimer = s.lnk.isolationTimer := by
  unfold testWant; try dsimp only
  (repeat' split) <;> simp
@[simp] theorem testWant_lnk_silentTimer (s : State) : (testWant s).lnk.silentTimer = s.lnk.silentTimer := by
  unfold testWant; try dsimp only
  (repeat' split) <;> simp
@[simp] theorem testWant_lnk_failures (s : State) : (testWant s).lnk.failures = s.lnk.failures := by
  unfold testWant; try dsimp only
  (repeat' split) <;> simp
@[simp] theorem testWant_lnk_unknownFrames (s : State) : (testWant s).lnk.unknownFrames = s.lnk.unknownFrames := by
  unfold testWant; try dsimp only
  (repeat' split) <;> simp
@[simp] theorem testWant_lnk_droppedFrames (s : State) : (testWant s).lnk.droppedFrames = s.lnk.droppedFrames := by
  unfold testWant; try dsimp only
  (repeat' split) <;> simp
@[simp] theorem testWant_lnk_silentEntries (s : State) : (testWant s).lnk.silentEntries = s.lnk.silentEntries := by
  unfold testWant; try dsimp only
  (repeat' split) <;> simp
@[simp] theorem cabinetEvent_pending (s : State) : (cabinetEvent s).pending = s.pending := by
  unfold cabinetEvent; try dsimp only
  (repeat' split) <;> simp
@[simp] theorem cabinetEvent_due (s : State) : (cabinetEvent s).due = s.due := by
  unfold cabinetEvent; try dsimp only
  (repeat' split) <;> simp
@[simp] theorem cabinetEvent_phase (s : State) : (cabinetEvent s).phase = s.phase := by
  unfold cabinetEvent; try dsimp only
  (repeat' split) <;> simp
@[simp] theorem cabinetEvent_inputs (s : State) : (cabinetEvent s).inputs = s.inputs := by
  unfold cabinetEvent; try dsimp only
  (repeat' split) <;> simp
@[simp] theorem cabinetEvent_outputs (s : State) : (cabinetEvent s).outputs = s.outputs := by
  unfold cabinetEvent; try dsimp only
  (repeat' split) <;> simp
@[simp] theorem cabinetEvent_params (s : State) : (cabinetEvent s).params = s.params := by
  unfold cabinetEvent; try dsimp only
  (repeat' split) <;> simp
@[simp] theorem cabinetEvent_cnu (s : State) : (cabinetEvent s).cnu = s.cnu := by
  unfold cabinetEvent; try dsimp only
  (repeat' split) <;> simp
@[simp] theorem cabinetEvent_cru (s : State) : (cabinetEvent s).cru = s.cru := by
  unfold cabinetEvent; try dsimp only
  (repeat' split) <;> simp
@[simp] theorem cabinetEvent_cca (s : State) : (cabinetEvent s).cca = s.cca := by
  unfold cabinetEvent; try dsimp only
  (repeat' split) <;> simp
@[simp] theorem cabinetEvent_vsq (s : State) : (cabinetEvent s).vsq = s.vsq := by
  unfold cabinetEvent; try dsimp only
  (repeat' split) <;> simp
@[simp] theorem cabinetEvent_mxd (s : State) : (cabinetEvent s).mxd = s.mxd := by
  unfold cabinetEvent; try dsimp only
  (repeat' split) <;> simp
@[simp] theorem cabinetEvent_ssu (s : State) : (cabinetEvent s).ssu = s.ssu := by
  unfold cabinetEvent; try dsimp only
  (repeat' split) <;> simp
@[simp] theorem cabinetEvent_rfc_cabinet (s : State) : (cabinetEvent s).rfc.cabinet = s.rfc.cabinet := by
  unfold cabinetEvent; try dsimp only
  (repeat' split) <;> simp
@[simp] theorem cabinetEvent_rfc_evaporator (s : State) : (cabinetEvent s).rfc.evaporator = s.rfc.evaporator := by
  unfold cabinetEvent; try dsimp only
  (repeat' split) <;> simp
@[simp] theorem cabinetEvent_rfc_startTimer (s : State) : (cabinetEvent s).rfc.startTimer = s.rfc.startTimer := by
  unfold cabinetEvent; try dsimp only
  (repeat' split) <;> simp
@[simp] theorem cabinetEvent_rfc_dripTimer (s : State) : (cabinetEvent s).rfc.dripTimer = s.rfc.dripTimer := by
  unfold cabinetEvent; try dsimp only
  (repeat' split) <;> simp
@[simp] theorem cabinetEvent_rfc_sellableCold (s : State) : (cabinetEvent s).rfc.sellableCold = s.rfc.sellableCold := by
  unfold cabinetEvent; try dsimp only
  (repeat' split) <;> simp
@[simp] theorem cabinetEvent_rfc_warmTimer (s : State) : (cabinetEvent s).rfc.warmTimer = s.rfc.warmTimer := by
  unfold cabinetEvent; try dsimp only
  (repeat' split) <;> simp
@[simp] theorem cabinetEvent_rfc_hotHold (s : State) : (cabinetEvent s).rfc.hotHold = s.rfc.hotHold := by
  unfold cabinetEvent; try dsimp only
  (repeat' split) <;> simp
@[simp] theorem cabinetEvent_lbu_peers (s : State) : (cabinetEvent s).lbu.peers = s.lbu.peers := by
  unfold cabinetEvent; try dsimp only
  (repeat' split) <;> simp
@[simp] theorem cabinetEvent_lbu_ignored (s : State) : (cabinetEvent s).lbu.ignored = s.lbu.ignored := by
  unfold cabinetEvent; try dsimp only
  (repeat' split) <;> simp
@[simp] theorem cabinetEvent_lbu_objectSum (s : State) : (cabinetEvent s).lbu.objectSum = s.lbu.objectSum := by
  unfold cabinetEvent; try dsimp only
  (repeat' split) <;> simp
@[simp] theorem cabinetEvent_lnk_state (s : State) : (cabinetEvent s).lnk.state = s.lnk.state := by
  unfold cabinetEvent; try dsimp only
  (repeat' split) <;> simp
@[simp] theorem cabinetEvent_lnk_heard (s : State) : (cabinetEvent s).lnk.heard = s.lnk.heard := by
  unfold cabinetEvent; try dsimp only
  (repeat' split) <;> simp
@[simp] theorem cabinetEvent_lnk_acknowledged (s : State) : (cabinetEvent s).lnk.acknowledged = s.lnk.acknowledged := by
  unfold cabinetEvent; try dsimp only
  (repeat' split) <;> simp
@[simp] theorem cabinetEvent_lnk_isolationTimer (s : State) : (cabinetEvent s).lnk.isolationTimer = s.lnk.isolationTimer := by
  unfold cabinetEvent; try dsimp only
  (repeat' split) <;> simp
@[simp] theorem cabinetEvent_lnk_silentTimer (s : State) : (cabinetEvent s).lnk.silentTimer = s.lnk.silentTimer := by
  unfold cabinetEvent; try dsimp only
  (repeat' split) <;> simp
@[simp] theorem cabinetEvent_lnk_failures (s : State) : (cabinetEvent s).lnk.failures = s.lnk.failures := by
  unfold cabinetEvent; try dsimp only
  (repeat' split) <;> simp
@[simp] theorem cabinetEvent_lnk_unknownFrames (s : State) : (cabinetEvent s).lnk.unknownFrames = s.lnk.unknownFrames := by
  unfold cabinetEvent; try dsimp only
  (repeat' split) <;> simp
@[simp] theorem cabinetEvent_lnk_droppedFrames (s : State) : (cabinetEvent s).lnk.droppedFrames = s.lnk.droppedFrames := by
  unfold cabinetEvent; try dsimp only
  (repeat' split) <;> simp
@[simp] theorem cabinetEvent_lnk_silentEntries (s : State) : (cabinetEvent s).lnk.silentEntries = s.lnk.silentEntries := by
  unfold cabinetEvent; try dsimp only
  (repeat' split) <;> simp
@[simp] theorem startHeating_pending (s : State) : (startHeating s).pending = s.pending := by
  unfold startHeating; try dsimp only
  (repeat' split) <;> simp
@[simp] theorem startHeating_due (s : State) : (startHeating s).due = s.due := by
  unfold startHeating; try dsimp only
  (repeat' split) <;> simp
@[simp] theorem startHeating_phase (s : State) : (startHeating s).phase = s.phase := by
  unfold startHeating; try dsimp only
  (repeat' split) <;> simp
@[simp] theorem startHeating_inputs (s : State) : (startHeating s).inputs = s.inputs := by
  unfold startHeating; try dsimp only
  (repeat' split) <;> simp
@[simp] theorem startHeating_outputs (s : State) : (startHeating s).outputs = s.outputs := by
  unfold startHeating; try dsimp only
  (repeat' split) <;> simp
@[simp] theorem startHeating_params (s : State) : (startHeating s).params = s.params := by
  unfold startHeating; try dsimp only
  (repeat' split) <;> simp
@[simp] theorem startHeating_cnu (s : State) : (startHeating s).cnu = s.cnu := by
  unfold startHeating; try dsimp only
  (repeat' split) <;> simp
@[simp] theorem startHeating_cru (s : State) : (startHeating s).cru = s.cru := by
  unfold startHeating; try dsimp only
  (repeat' split) <;> simp
@[simp] theorem startHeating_cca (s : State) : (startHeating s).cca = s.cca := by
  unfold startHeating; try dsimp only
  (repeat' split) <;> simp
@[simp] theorem startHeating_vsq (s : State) : (startHeating s).vsq = s.vsq := by
  unfold startHeating; try dsimp only
  (repeat' split) <;> simp
@[simp] theorem startHeating_mxd (s : State) : (startHeating s).mxd = s.mxd := by
  unfold startHeating; try dsimp only
  (repeat' split) <;> simp
@[simp] theorem startHeating_lbu (s : State) : (startHeating s).lbu = s.lbu := by
  unfold startHeating; try dsimp only
  (repeat' split) <;> simp
@[simp] theorem startHeating_lnk (s : State) : (startHeating s).lnk = s.lnk := by
  unfold startHeating; try dsimp only
  (repeat' split) <;> simp
@[simp] theorem startHeating_ssu (s : State) : (startHeating s).ssu = s.ssu := by
  unfold startHeating; try dsimp only
  (repeat' split) <;> simp
@[simp] theorem startHeating_rfc_cabinet (s : State) : (startHeating s).rfc.cabinet = s.rfc.cabinet := by
  unfold startHeating; try dsimp only
  (repeat' split) <;> simp
@[simp] theorem startHeating_rfc_evaporator (s : State) : (startHeating s).rfc.evaporator = s.rfc.evaporator := by
  unfold startHeating; try dsimp only
  (repeat' split) <;> simp
@[simp] theorem startHeating_rfc_state (s : State) : (startHeating s).rfc.state = s.rfc.state := by
  unfold startHeating; try dsimp only
  (repeat' split) <;> simp
@[simp] theorem startHeating_rfc_lockoutTimer (s : State) : (startHeating s).rfc.lockoutTimer = s.rfc.lockoutTimer := by
  unfold startHeating; try dsimp only
  (repeat' split) <;> simp
@[simp] theorem startHeating_rfc_cycleTimer (s : State) : (startHeating s).rfc.cycleTimer = s.rfc.cycleTimer := by
  unfold startHeating; try dsimp only
  (repeat' split) <;> simp
@[simp] theorem startHeating_rfc_classAsked (s : State) : (startHeating s).rfc.classAsked = s.rfc.classAsked := by
  unfold startHeating; try dsimp only
  (repeat' split) <;> simp
@[simp] theorem startHeating_rfc_startTimer (s : State) : (startHeating s).rfc.startTimer = s.rfc.startTimer := by
  unfold startHeating; try dsimp only
  (repeat' split) <;> simp
@[simp] theorem startHeating_rfc_onTimer (s : State) : (startHeating s).rfc.onTimer = s.rfc.onTimer := by
  unfold startHeating; try dsimp only
  (repeat' split) <;> simp
@[simp] theorem startHeating_rfc_offTimer (s : State) : (startHeating s).rfc.offTimer = s.rfc.offTimer := by
  unfold startHeating; try dsimp only
  (repeat' split) <;> simp
@[simp] theorem startHeating_rfc_accumulator (s : State) : (startHeating s).rfc.accumulator = s.rfc.accumulator := by
  unfold startHeating; try dsimp only
  (repeat' split) <;> simp
@[simp] theorem startHeating_rfc_second (s : State) : (startHeating s).rfc.second = s.rfc.second := by
  unfold startHeating; try dsimp only
  (repeat' split) <;> simp
@[simp] theorem startHeating_rfc_defrostDue (s : State) : (startHeating s).rfc.defrostDue = s.rfc.defrostDue := by
  unfold startHeating; try dsimp only
  (repeat' split) <;> simp
@[simp] theorem startHeating_rfc_defrostTimer (s : State) : (startHeating s).rfc.defrostTimer = s.rfc.defrostTimer := by
  unfold startHeating; try dsimp only
  (repeat' split) <;> simp
@[simp] theorem startHeating_rfc_dripTimer (s : State) : (startHeating s).rfc.dripTimer = s.rfc.dripTimer := by
  unfold startHeating; try dsimp only
  (repeat' split) <;> simp
@[simp] theorem startHeating_rfc_sellableCold (s : State) : (startHeating s).rfc.sellableCold = s.rfc.sellableCold := by
  unfold startHeating; try dsimp only
  (repeat' split) <;> simp
@[simp] theorem startHeating_rfc_warmTimer (s : State) : (startHeating s).rfc.warmTimer = s.rfc.warmTimer := by
  unfold startHeating; try dsimp only
  (repeat' split) <;> simp
@[simp] theorem startHeating_rfc_hotHold (s : State) : (startHeating s).rfc.hotHold = s.rfc.hotHold := by
  unfold startHeating; try dsimp only
  (repeat' split) <;> simp
@[simp] theorem endHeaterWait_pending (s : State) : (endHeaterWait s).pending = s.pending := by
  unfold endHeaterWait; try dsimp only
  (repeat' split) <;> simp
@[simp] theorem endHeaterWait_due (s : State) : (endHeaterWait s).due = s.due := by
  unfold endHeaterWait; try dsimp only
  (repeat' split) <;> simp
@[simp] theorem endHeaterWait_phase (s : State) : (endHeaterWait s).phase = s.phase := by
  unfold endHeaterWait; try dsimp only
  (repeat' split) <;> simp
@[simp] theorem endHeaterWait_inputs (s : State) : (endHeaterWait s).inputs = s.inputs := by
  unfold endHeaterWait; try dsimp only
  (repeat' split) <;> simp
@[simp] theorem endHeaterWait_outputs (s : State) : (endHeaterWait s).outputs = s.outputs := by
  unfold endHeaterWait; try dsimp only
  (repeat' split) <;> simp
@[simp] theorem endHeaterWait_params (s : State) : (endHeaterWait s).params = s.params := by
  unfold endHeaterWait; try dsimp only
  (repeat' split) <;> simp
@[simp] theorem endHeaterWait_cnu (s : State) : (endHeaterWait s).cnu = s.cnu := by
  unfold endHeaterWait; try dsimp only
  (repeat' split) <;> simp
@[simp] theorem endHeaterWait_cru (s : State) : (endHeaterWait s).cru = s.cru := by
  unfold endHeaterWait; try dsimp only
  (repeat' split) <;> simp
@[simp] theorem endHeaterWait_cca (s : State) : (endHeaterWait s).cca = s.cca := by
  unfold endHeaterWait; try dsimp only
  (repeat' split) <;> simp
@[simp] theorem endHeaterWait_vsq (s : State) : (endHeaterWait s).vsq = s.vsq := by
  unfold endHeaterWait; try dsimp only
  (repeat' split) <;> simp
@[simp] theorem endHeaterWait_mxd (s : State) : (endHeaterWait s).mxd = s.mxd := by
  unfold endHeaterWait; try dsimp only
  (repeat' split) <;> simp
@[simp] theorem endHeaterWait_ssu (s : State) : (endHeaterWait s).ssu = s.ssu := by
  unfold endHeaterWait; try dsimp only
  (repeat' split) <;> simp
@[simp] theorem endHeaterWait_rfc_cabinet (s : State) : (endHeaterWait s).rfc.cabinet = s.rfc.cabinet := by
  unfold endHeaterWait; try dsimp only
  (repeat' split) <;> simp
@[simp] theorem endHeaterWait_rfc_evaporator (s : State) : (endHeaterWait s).rfc.evaporator = s.rfc.evaporator := by
  unfold endHeaterWait; try dsimp only
  (repeat' split) <;> simp
@[simp] theorem endHeaterWait_rfc_state (s : State) : (endHeaterWait s).rfc.state = s.rfc.state := by
  unfold endHeaterWait; try dsimp only
  (repeat' split) <;> simp
@[simp] theorem endHeaterWait_rfc_lockoutTimer (s : State) : (endHeaterWait s).rfc.lockoutTimer = s.rfc.lockoutTimer := by
  unfold endHeaterWait; try dsimp only
  (repeat' split) <;> simp
@[simp] theorem endHeaterWait_rfc_cycleTimer (s : State) : (endHeaterWait s).rfc.cycleTimer = s.rfc.cycleTimer := by
  unfold endHeaterWait; try dsimp only
  (repeat' split) <;> simp
@[simp] theorem endHeaterWait_rfc_classAsked (s : State) : (endHeaterWait s).rfc.classAsked = s.rfc.classAsked := by
  unfold endHeaterWait; try dsimp only
  (repeat' split) <;> simp
@[simp] theorem endHeaterWait_rfc_startTimer (s : State) : (endHeaterWait s).rfc.startTimer = s.rfc.startTimer := by
  unfold endHeaterWait; try dsimp only
  (repeat' split) <;> simp
@[simp] theorem endHeaterWait_rfc_onTimer (s : State) : (endHeaterWait s).rfc.onTimer = s.rfc.onTimer := by
  unfold endHeaterWait; try dsimp only
  (repeat' split) <;> simp
@[simp] theorem endHeaterWait_rfc_offTimer (s : State) : (endHeaterWait s).rfc.offTimer = s.rfc.offTimer := by
  unfold endHeaterWait; try dsimp only
  (repeat' split) <;> simp
@[simp] theorem endHeaterWait_rfc_accumulator (s : State) : (endHeaterWait s).rfc.accumulator = s.rfc.accumulator := by
  unfold endHeaterWait; try dsimp only
  (repeat' split) <;> simp
@[simp] theorem endHeaterWait_rfc_second (s : State) : (endHeaterWait s).rfc.second = s.rfc.second := by
  unfold endHeaterWait; try dsimp only
  (repeat' split) <;> simp
@[simp] theorem endHeaterWait_rfc_defrostDue (s : State) : (endHeaterWait s).rfc.defrostDue = s.rfc.defrostDue := by
  unfold endHeaterWait; try dsimp only
  (repeat' split) <;> simp
@[simp] theorem endHeaterWait_rfc_defrostTimer (s : State) : (endHeaterWait s).rfc.defrostTimer = s.rfc.defrostTimer := by
  unfold endHeaterWait; try dsimp only
  (repeat' split) <;> simp
@[simp] theorem endHeaterWait_rfc_dripTimer (s : State) : (endHeaterWait s).rfc.dripTimer = s.rfc.dripTimer := by
  unfold endHeaterWait; try dsimp only
  (repeat' split) <;> simp
@[simp] theorem endHeaterWait_rfc_sellableCold (s : State) : (endHeaterWait s).rfc.sellableCold = s.rfc.sellableCold := by
  unfold endHeaterWait; try dsimp only
  (repeat' split) <;> simp
@[simp] theorem endHeaterWait_rfc_warmTimer (s : State) : (endHeaterWait s).rfc.warmTimer = s.rfc.warmTimer := by
  unfold endHeaterWait; try dsimp only
  (repeat' split) <;> simp
@[simp] theorem endHeaterWait_rfc_hotHold (s : State) : (endHeaterWait s).rfc.hotHold = s.rfc.hotHold := by
  unfold endHeaterWait; try dsimp only
  (repeat' split) <;> simp
@[simp] theorem endHeaterWait_lbu_peers (s : State) : (endHeaterWait s).lbu.peers = s.lbu.peers := by
  unfold endHeaterWait; try dsimp only
  (repeat' split) <;> simp
@[simp] theorem endHeaterWait_lbu_ignored (s : State) : (endHeaterWait s).lbu.ignored = s.lbu.ignored := by
  unfold endHeaterWait; try dsimp only
  (repeat' split) <;> simp
@[simp] theorem endHeaterWait_lbu_objectSum (s : State) : (endHeaterWait s).lbu.objectSum = s.lbu.objectSum := by
  unfold endHeaterWait; try dsimp only
  (repeat' split) <;> simp
@[simp] theorem endHeaterWait_lnk_state (s : State) : (endHeaterWait s).lnk.state = s.lnk.state := by
  unfold endHeaterWait; try dsimp only
  (repeat' split) <;> simp
@[simp] theorem endHeaterWait_lnk_heard (s : State) : (endHeaterWait s).lnk.heard = s.lnk.heard := by
  unfold endHeaterWait; try dsimp only
  (repeat' split) <;> simp
@[simp] theorem endHeaterWait_lnk_acknowledged (s : State) : (endHeaterWait s).lnk.acknowledged = s.lnk.acknowledged := by
  unfold endHeaterWait; try dsimp only
  (repeat' split) <;> simp
@[simp] theorem endHeaterWait_lnk_isolationTimer (s : State) : (endHeaterWait s).lnk.isolationTimer = s.lnk.isolationTimer := by
  unfold endHeaterWait; try dsimp only
  (repeat' split) <;> simp
@[simp] theorem endHeaterWait_lnk_silentTimer (s : State) : (endHeaterWait s).lnk.silentTimer = s.lnk.silentTimer := by
  unfold endHeaterWait; try dsimp only
  (repeat' split) <;> simp
@[simp] theorem endHeaterWait_lnk_failures (s : State) : (endHeaterWait s).lnk.failures = s.lnk.failures := by
  unfold endHeaterWait; try dsimp only
  (repeat' split) <;> simp
@[simp] theorem endHeaterWait_lnk_unknownFrames (s : State) : (endHeaterWait s).lnk.unknownFrames = s.lnk.unknownFrames := by
  unfold endHeaterWait; try dsimp only
  (repeat' split) <;> simp
@[simp] theorem endHeaterWait_lnk_droppedFrames (s : State) : (endHeaterWait s).lnk.droppedFrames = s.lnk.droppedFrames := by
  unfold endHeaterWait; try dsimp only
  (repeat' split) <;> simp
@[simp] theorem endHeaterWait_lnk_silentEntries (s : State) : (endHeaterWait s).lnk.silentEntries = s.lnk.silentEntries := by
  unfold endHeaterWait; try dsimp only
  (repeat' split) <;> simp
@[simp] theorem endDefrost_pending (s : State) : (endDefrost s).pending = s.pending := by
  unfold endDefrost; try dsimp only
  (repeat' split) <;> simp
@[simp] theorem endDefrost_due (s : State) : (endDefrost s).due = s.due := by
  unfold endDefrost; try dsimp only
  (repeat' split) <;> simp
@[simp] theorem endDefrost_phase (s : State) : (endDefrost s).phase = s.phase := by
  unfold endDefrost; try dsimp only
  (repeat' split) <;> simp
@[simp] theorem endDefrost_inputs (s : State) : (endDefrost s).inputs = s.inputs := by
  unfold endDefrost; try dsimp only
  (repeat' split) <;> simp
@[simp] theorem endDefrost_outputs (s : State) : (endDefrost s).outputs = s.outputs := by
  unfold endDefrost; try dsimp only
  (repeat' split) <;> simp
@[simp] theorem endDefrost_params (s : State) : (endDefrost s).params = s.params := by
  unfold endDefrost; try dsimp only
  (repeat' split) <;> simp
@[simp] theorem endDefrost_cnu (s : State) : (endDefrost s).cnu = s.cnu := by
  unfold endDefrost; try dsimp only
  (repeat' split) <;> simp
@[simp] theorem endDefrost_cru (s : State) : (endDefrost s).cru = s.cru := by
  unfold endDefrost; try dsimp only
  (repeat' split) <;> simp
@[simp] theorem endDefrost_cca (s : State) : (endDefrost s).cca = s.cca := by
  unfold endDefrost; try dsimp only
  (repeat' split) <;> simp
@[simp] theorem endDefrost_vsq (s : State) : (endDefrost s).vsq = s.vsq := by
  unfold endDefrost; try dsimp only
  (repeat' split) <;> simp
@[simp] theorem endDefrost_mxd (s : State) : (endDefrost s).mxd = s.mxd := by
  unfold endDefrost; try dsimp only
  (repeat' split) <;> simp
@[simp] theorem endDefrost_ssu (s : State) : (endDefrost s).ssu = s.ssu := by
  unfold endDefrost; try dsimp only
  (repeat' split) <;> simp
@[simp] theorem endDefrost_rfc_cabinet (s : State) : (endDefrost s).rfc.cabinet = s.rfc.cabinet := by
  unfold endDefrost; try dsimp only
  (repeat' split) <;> simp
@[simp] theorem endDefrost_rfc_evaporator (s : State) : (endDefrost s).rfc.evaporator = s.rfc.evaporator := by
  unfold endDefrost; try dsimp only
  (repeat' split) <;> simp
@[simp] theorem endDefrost_rfc_lockoutTimer (s : State) : (endDefrost s).rfc.lockoutTimer = s.rfc.lockoutTimer := by
  unfold endDefrost; try dsimp only
  (repeat' split) <;> simp
@[simp] theorem endDefrost_rfc_cycleTimer (s : State) : (endDefrost s).rfc.cycleTimer = s.rfc.cycleTimer := by
  unfold endDefrost; try dsimp only
  (repeat' split) <;> simp
@[simp] theorem endDefrost_rfc_classAsked (s : State) : (endDefrost s).rfc.classAsked = s.rfc.classAsked := by
  unfold endDefrost; try dsimp only
  (repeat' split) <;> simp
@[simp] theorem endDefrost_rfc_startTimer (s : State) : (endDefrost s).rfc.startTimer = s.rfc.startTimer := by
  unfold endDefrost; try dsimp only
  (repeat' split) <;> simp
@[simp] theorem endDefrost_rfc_onTimer (s : State) : (endDefrost s).rfc.onTimer = s.rfc.onTimer := by
  unfold endDefrost; try dsimp only
  (repeat' split) <;> simp
@[simp] theorem endDefrost_rfc_offTimer (s : State) : (endDefrost s).rfc.offTimer = s.rfc.offTimer := by
  unfold endDefrost; try dsimp only
  (repeat' split) <;> simp
@[simp] theorem endDefrost_rfc_accumulator (s : State) : (endDefrost s).rfc.accumulator = s.rfc.accumulator := by
  unfold endDefrost; try dsimp only
  (repeat' split) <;> simp
@[simp] theorem endDefrost_rfc_second (s : State) : (endDefrost s).rfc.second = s.rfc.second := by
  unfold endDefrost; try dsimp only
  (repeat' split) <;> simp
@[simp] theorem endDefrost_rfc_defrostDue (s : State) : (endDefrost s).rfc.defrostDue = s.rfc.defrostDue := by
  unfold endDefrost; try dsimp only
  (repeat' split) <;> simp
@[simp] theorem endDefrost_rfc_sellableCold (s : State) : (endDefrost s).rfc.sellableCold = s.rfc.sellableCold := by
  unfold endDefrost; try dsimp only
  (repeat' split) <;> simp
@[simp] theorem endDefrost_rfc_warmTimer (s : State) : (endDefrost s).rfc.warmTimer = s.rfc.warmTimer := by
  unfold endDefrost; try dsimp only
  (repeat' split) <;> simp
@[simp] theorem endDefrost_rfc_hotHold (s : State) : (endDefrost s).rfc.hotHold = s.rfc.hotHold := by
  unfold endDefrost; try dsimp only
  (repeat' split) <;> simp
@[simp] theorem endDefrost_lbu_peers (s : State) : (endDefrost s).lbu.peers = s.lbu.peers := by
  unfold endDefrost; try dsimp only
  (repeat' split) <;> simp
@[simp] theorem endDefrost_lbu_ignored (s : State) : (endDefrost s).lbu.ignored = s.lbu.ignored := by
  unfold endDefrost; try dsimp only
  (repeat' split) <;> simp
@[simp] theorem endDefrost_lbu_objectSum (s : State) : (endDefrost s).lbu.objectSum = s.lbu.objectSum := by
  unfold endDefrost; try dsimp only
  (repeat' split) <;> simp
@[simp] theorem endDefrost_lnk_state (s : State) : (endDefrost s).lnk.state = s.lnk.state := by
  unfold endDefrost; try dsimp only
  (repeat' split) <;> simp
@[simp] theorem endDefrost_lnk_heard (s : State) : (endDefrost s).lnk.heard = s.lnk.heard := by
  unfold endDefrost; try dsimp only
  (repeat' split) <;> simp
@[simp] theorem endDefrost_lnk_acknowledged (s : State) : (endDefrost s).lnk.acknowledged = s.lnk.acknowledged := by
  unfold endDefrost; try dsimp only
  (repeat' split) <;> simp
@[simp] theorem endDefrost_lnk_isolationTimer (s : State) : (endDefrost s).lnk.isolationTimer = s.lnk.isolationTimer := by
  unfold endDefrost; try dsimp only
  (repeat' split) <;> simp
@[simp] theorem endDefrost_lnk_silentTimer (s : State) : (endDefrost s).lnk.silentTimer = s.lnk.silentTimer := by
  unfold endDefrost; try dsimp only
  (repeat' split) <;> simp
@[simp] theorem endDefrost_lnk_failures (s : State) : (endDefrost s).lnk.failures = s.lnk.failures := by
  unfold endDefrost; try dsimp only
  (repeat' split) <;> simp
@[simp] theorem endDefrost_lnk_unknownFrames (s : State) : (endDefrost s).lnk.unknownFrames = s.lnk.unknownFrames := by
  unfold endDefrost; try dsimp only
  (repeat' split) <;> simp
@[simp] theorem endDefrost_lnk_droppedFrames (s : State) : (endDefrost s).lnk.droppedFrames = s.lnk.droppedFrames := by
  unfold endDefrost; try dsimp only
  (repeat' split) <;> simp
@[simp] theorem endDefrost_lnk_silentEntries (s : State) : (endDefrost s).lnk.silentEntries = s.lnk.silentEntries := by
  unfold endDefrost; try dsimp only
  (repeat' split) <;> simp
@[simp] theorem evaporatorEvent_pending (s : State) : (evaporatorEvent s).pending = s.pending := by
  unfold evaporatorEvent; try dsimp only
  (repeat' split) <;> simp
@[simp] theorem evaporatorEvent_due (s : State) : (evaporatorEvent s).due = s.due := by
  unfold evaporatorEvent; try dsimp only
  (repeat' split) <;> simp
@[simp] theorem evaporatorEvent_phase (s : State) : (evaporatorEvent s).phase = s.phase := by
  unfold evaporatorEvent; try dsimp only
  (repeat' split) <;> simp
@[simp] theorem evaporatorEvent_inputs (s : State) : (evaporatorEvent s).inputs = s.inputs := by
  unfold evaporatorEvent; try dsimp only
  (repeat' split) <;> simp
@[simp] theorem evaporatorEvent_outputs (s : State) : (evaporatorEvent s).outputs = s.outputs := by
  unfold evaporatorEvent; try dsimp only
  (repeat' split) <;> simp
@[simp] theorem evaporatorEvent_params (s : State) : (evaporatorEvent s).params = s.params := by
  unfold evaporatorEvent; try dsimp only
  (repeat' split) <;> simp
@[simp] theorem evaporatorEvent_cnu (s : State) : (evaporatorEvent s).cnu = s.cnu := by
  unfold evaporatorEvent; try dsimp only
  (repeat' split) <;> simp
@[simp] theorem evaporatorEvent_cru (s : State) : (evaporatorEvent s).cru = s.cru := by
  unfold evaporatorEvent; try dsimp only
  (repeat' split) <;> simp
@[simp] theorem evaporatorEvent_cca (s : State) : (evaporatorEvent s).cca = s.cca := by
  unfold evaporatorEvent; try dsimp only
  (repeat' split) <;> simp
@[simp] theorem evaporatorEvent_vsq (s : State) : (evaporatorEvent s).vsq = s.vsq := by
  unfold evaporatorEvent; try dsimp only
  (repeat' split) <;> simp
@[simp] theorem evaporatorEvent_mxd (s : State) : (evaporatorEvent s).mxd = s.mxd := by
  unfold evaporatorEvent; try dsimp only
  (repeat' split) <;> simp
@[simp] theorem evaporatorEvent_ssu (s : State) : (evaporatorEvent s).ssu = s.ssu := by
  unfold evaporatorEvent; try dsimp only
  (repeat' split) <;> simp
@[simp] theorem evaporatorEvent_rfc_cabinet (s : State) : (evaporatorEvent s).rfc.cabinet = s.rfc.cabinet := by
  unfold evaporatorEvent; try dsimp only
  (repeat' split) <;> simp
@[simp] theorem evaporatorEvent_rfc_evaporator (s : State) : (evaporatorEvent s).rfc.evaporator = s.rfc.evaporator := by
  unfold evaporatorEvent; try dsimp only
  (repeat' split) <;> simp
@[simp] theorem evaporatorEvent_rfc_lockoutTimer (s : State) : (evaporatorEvent s).rfc.lockoutTimer = s.rfc.lockoutTimer := by
  unfold evaporatorEvent; try dsimp only
  (repeat' split) <;> simp
@[simp] theorem evaporatorEvent_rfc_cycleTimer (s : State) : (evaporatorEvent s).rfc.cycleTimer = s.rfc.cycleTimer := by
  unfold evaporatorEvent; try dsimp only
  (repeat' split) <;> simp
@[simp] theorem evaporatorEvent_rfc_classAsked (s : State) : (evaporatorEvent s).rfc.classAsked = s.rfc.classAsked := by
  unfold evaporatorEvent; try dsimp only
  (repeat' split) <;> simp
@[simp] theorem evaporatorEvent_rfc_startTimer (s : State) : (evaporatorEvent s).rfc.startTimer = s.rfc.startTimer := by
  unfold evaporatorEvent; try dsimp only
  (repeat' split) <;> simp
@[simp] theorem evaporatorEvent_rfc_onTimer (s : State) : (evaporatorEvent s).rfc.onTimer = s.rfc.onTimer := by
  unfold evaporatorEvent; try dsimp only
  (repeat' split) <;> simp
@[simp] theorem evaporatorEvent_rfc_offTimer (s : State) : (evaporatorEvent s).rfc.offTimer = s.rfc.offTimer := by
  unfold evaporatorEvent; try dsimp only
  (repeat' split) <;> simp
@[simp] theorem evaporatorEvent_rfc_accumulator (s : State) : (evaporatorEvent s).rfc.accumulator = s.rfc.accumulator := by
  unfold evaporatorEvent; try dsimp only
  (repeat' split) <;> simp
@[simp] theorem evaporatorEvent_rfc_second (s : State) : (evaporatorEvent s).rfc.second = s.rfc.second := by
  unfold evaporatorEvent; try dsimp only
  (repeat' split) <;> simp
@[simp] theorem evaporatorEvent_rfc_defrostDue (s : State) : (evaporatorEvent s).rfc.defrostDue = s.rfc.defrostDue := by
  unfold evaporatorEvent; try dsimp only
  (repeat' split) <;> simp
@[simp] theorem evaporatorEvent_rfc_sellableCold (s : State) : (evaporatorEvent s).rfc.sellableCold = s.rfc.sellableCold := by
  unfold evaporatorEvent; try dsimp only
  (repeat' split) <;> simp
@[simp] theorem evaporatorEvent_rfc_warmTimer (s : State) : (evaporatorEvent s).rfc.warmTimer = s.rfc.warmTimer := by
  unfold evaporatorEvent; try dsimp only
  (repeat' split) <;> simp
@[simp] theorem evaporatorEvent_rfc_hotHold (s : State) : (evaporatorEvent s).rfc.hotHold = s.rfc.hotHold := by
  unfold evaporatorEvent; try dsimp only
  (repeat' split) <;> simp
@[simp] theorem evaporatorEvent_lbu_peers (s : State) : (evaporatorEvent s).lbu.peers = s.lbu.peers := by
  unfold evaporatorEvent; try dsimp only
  (repeat' split) <;> simp
@[simp] theorem evaporatorEvent_lbu_ignored (s : State) : (evaporatorEvent s).lbu.ignored = s.lbu.ignored := by
  unfold evaporatorEvent; try dsimp only
  (repeat' split) <;> simp
@[simp] theorem evaporatorEvent_lbu_objectSum (s : State) : (evaporatorEvent s).lbu.objectSum = s.lbu.objectSum := by
  unfold evaporatorEvent; try dsimp only
  (repeat' split) <;> simp
@[simp] theorem evaporatorEvent_lnk_state (s : State) : (evaporatorEvent s).lnk.state = s.lnk.state := by
  unfold evaporatorEvent; try dsimp only
  (repeat' split) <;> simp
@[simp] theorem evaporatorEvent_lnk_heard (s : State) : (evaporatorEvent s).lnk.heard = s.lnk.heard := by
  unfold evaporatorEvent; try dsimp only
  (repeat' split) <;> simp
@[simp] theorem evaporatorEvent_lnk_acknowledged (s : State) : (evaporatorEvent s).lnk.acknowledged = s.lnk.acknowledged := by
  unfold evaporatorEvent; try dsimp only
  (repeat' split) <;> simp
@[simp] theorem evaporatorEvent_lnk_isolationTimer (s : State) : (evaporatorEvent s).lnk.isolationTimer = s.lnk.isolationTimer := by
  unfold evaporatorEvent; try dsimp only
  (repeat' split) <;> simp
@[simp] theorem evaporatorEvent_lnk_silentTimer (s : State) : (evaporatorEvent s).lnk.silentTimer = s.lnk.silentTimer := by
  unfold evaporatorEvent; try dsimp only
  (repeat' split) <;> simp
@[simp] theorem evaporatorEvent_lnk_failures (s : State) : (evaporatorEvent s).lnk.failures = s.lnk.failures := by
  unfold evaporatorEvent; try dsimp only
  (repeat' split) <;> simp
@[simp] theorem evaporatorEvent_lnk_unknownFrames (s : State) : (evaporatorEvent s).lnk.unknownFrames = s.lnk.unknownFrames := by
  unfold evaporatorEvent; try dsimp only
  (repeat' split) <;> simp
@[simp] theorem evaporatorEvent_lnk_droppedFrames (s : State) : (evaporatorEvent s).lnk.droppedFrames = s.lnk.droppedFrames := by
  unfold evaporatorEvent; try dsimp only
  (repeat' split) <;> simp
@[simp] theorem evaporatorEvent_lnk_silentEntries (s : State) : (evaporatorEvent s).lnk.silentEntries = s.lnk.silentEntries := by
  unfold evaporatorEvent; try dsimp only
  (repeat' split) <;> simp
@[simp] theorem endDrip_pending (s : State) : (endDrip s).pending = s.pending := by
  unfold endDrip; try dsimp only
  (repeat' split) <;> simp
@[simp] theorem endDrip_due (s : State) : (endDrip s).due = s.due := by
  unfold endDrip; try dsimp only
  (repeat' split) <;> simp
@[simp] theorem endDrip_phase (s : State) : (endDrip s).phase = s.phase := by
  unfold endDrip; try dsimp only
  (repeat' split) <;> simp
@[simp] theorem endDrip_inputs (s : State) : (endDrip s).inputs = s.inputs := by
  unfold endDrip; try dsimp only
  (repeat' split) <;> simp
@[simp] theorem endDrip_outputs (s : State) : (endDrip s).outputs = s.outputs := by
  unfold endDrip; try dsimp only
  (repeat' split) <;> simp
@[simp] theorem endDrip_params (s : State) : (endDrip s).params = s.params := by
  unfold endDrip; try dsimp only
  (repeat' split) <;> simp
@[simp] theorem endDrip_cnu (s : State) : (endDrip s).cnu = s.cnu := by
  unfold endDrip; try dsimp only
  (repeat' split) <;> simp
@[simp] theorem endDrip_cru (s : State) : (endDrip s).cru = s.cru := by
  unfold endDrip; try dsimp only
  (repeat' split) <;> simp
@[simp] theorem endDrip_cca (s : State) : (endDrip s).cca = s.cca := by
  unfold endDrip; try dsimp only
  (repeat' split) <;> simp
@[simp] theorem endDrip_vsq (s : State) : (endDrip s).vsq = s.vsq := by
  unfold endDrip; try dsimp only
  (repeat' split) <;> simp
@[simp] theorem endDrip_mxd (s : State) : (endDrip s).mxd = s.mxd := by
  unfold endDrip; try dsimp only
  (repeat' split) <;> simp
@[simp] theorem endDrip_lbu (s : State) : (endDrip s).lbu = s.lbu := by
  unfold endDrip; try dsimp only
  (repeat' split) <;> simp
@[simp] theorem endDrip_lnk (s : State) : (endDrip s).lnk = s.lnk := by
  unfold endDrip; try dsimp only
  (repeat' split) <;> simp
@[simp] theorem endDrip_ssu (s : State) : (endDrip s).ssu = s.ssu := by
  unfold endDrip; try dsimp only
  (repeat' split) <;> simp
@[simp] theorem endDrip_rfc_cabinet (s : State) : (endDrip s).rfc.cabinet = s.rfc.cabinet := by
  unfold endDrip; try dsimp only
  (repeat' split) <;> simp
@[simp] theorem endDrip_rfc_evaporator (s : State) : (endDrip s).rfc.evaporator = s.rfc.evaporator := by
  unfold endDrip; try dsimp only
  (repeat' split) <;> simp
@[simp] theorem endDrip_rfc_cycleTimer (s : State) : (endDrip s).rfc.cycleTimer = s.rfc.cycleTimer := by
  unfold endDrip; try dsimp only
  (repeat' split) <;> simp
@[simp] theorem endDrip_rfc_classAsked (s : State) : (endDrip s).rfc.classAsked = s.rfc.classAsked := by
  unfold endDrip; try dsimp only
  (repeat' split) <;> simp
@[simp] theorem endDrip_rfc_startTimer (s : State) : (endDrip s).rfc.startTimer = s.rfc.startTimer := by
  unfold endDrip; try dsimp only
  (repeat' split) <;> simp
@[simp] theorem endDrip_rfc_onTimer (s : State) : (endDrip s).rfc.onTimer = s.rfc.onTimer := by
  unfold endDrip; try dsimp only
  (repeat' split) <;> simp
@[simp] theorem endDrip_rfc_offTimer (s : State) : (endDrip s).rfc.offTimer = s.rfc.offTimer := by
  unfold endDrip; try dsimp only
  (repeat' split) <;> simp
@[simp] theorem endDrip_rfc_second (s : State) : (endDrip s).rfc.second = s.rfc.second := by
  unfold endDrip; try dsimp only
  (repeat' split) <;> simp
@[simp] theorem endDrip_rfc_defrostTimer (s : State) : (endDrip s).rfc.defrostTimer = s.rfc.defrostTimer := by
  unfold endDrip; try dsimp only
  (repeat' split) <;> simp
@[simp] theorem endDrip_rfc_heaterMode (s : State) : (endDrip s).rfc.heaterMode = s.rfc.heaterMode := by
  unfold endDrip; try dsimp only
  (repeat' split) <;> simp
@[simp] theorem endDrip_rfc_sellableCold (s : State) : (endDrip s).rfc.sellableCold = s.rfc.sellableCold := by
  unfold endDrip; try dsimp only
  (repeat' split) <;> simp
@[simp] theorem endDrip_rfc_warmTimer (s : State) : (endDrip s).rfc.warmTimer = s.rfc.warmTimer := by
  unfold endDrip; try dsimp only
  (repeat' split) <;> simp
@[simp] theorem endDrip_rfc_hotHold (s : State) : (endDrip s).rfc.hotHold = s.rfc.hotHold := by
  unfold endDrip; try dsimp only
  (repeat' split) <;> simp
@[simp] theorem evaluateSale_pending (s : State) : (evaluateSale s).pending = s.pending := by
  unfold evaluateSale; try dsimp only
  (repeat' split) <;> simp
@[simp] theorem evaluateSale_due (s : State) : (evaluateSale s).due = s.due := by
  unfold evaluateSale; try dsimp only
  (repeat' split) <;> simp
@[simp] theorem evaluateSale_phase (s : State) : (evaluateSale s).phase = s.phase := by
  unfold evaluateSale; try dsimp only
  (repeat' split) <;> simp
@[simp] theorem evaluateSale_inputs (s : State) : (evaluateSale s).inputs = s.inputs := by
  unfold evaluateSale; try dsimp only
  (repeat' split) <;> simp
@[simp] theorem evaluateSale_outputs (s : State) : (evaluateSale s).outputs = s.outputs := by
  unfold evaluateSale; try dsimp only
  (repeat' split) <;> simp
@[simp] theorem evaluateSale_params (s : State) : (evaluateSale s).params = s.params := by
  unfold evaluateSale; try dsimp only
  (repeat' split) <;> simp
@[simp] theorem evaluateSale_cnu (s : State) : (evaluateSale s).cnu = s.cnu := by
  unfold evaluateSale; try dsimp only
  (repeat' split) <;> simp
@[simp] theorem evaluateSale_cru (s : State) : (evaluateSale s).cru = s.cru := by
  unfold evaluateSale; try dsimp only
  (repeat' split) <;> simp
@[simp] theorem evaluateSale_cca (s : State) : (evaluateSale s).cca = s.cca := by
  unfold evaluateSale; try dsimp only
  (repeat' split) <;> simp
@[simp] theorem evaluateSale_vsq (s : State) : (evaluateSale s).vsq = s.vsq := by
  unfold evaluateSale; try dsimp only
  (repeat' split) <;> simp
@[simp] theorem evaluateSale_mxd (s : State) : (evaluateSale s).mxd = s.mxd := by
  unfold evaluateSale; try dsimp only
  (repeat' split) <;> simp
@[simp] theorem evaluateSale_lbu (s : State) : (evaluateSale s).lbu = s.lbu := by
  unfold evaluateSale; try dsimp only
  (repeat' split) <;> simp
@[simp] theorem evaluateSale_lnk (s : State) : (evaluateSale s).lnk = s.lnk := by
  unfold evaluateSale; try dsimp only
  (repeat' split) <;> simp
@[simp] theorem evaluateSale_ssu (s : State) : (evaluateSale s).ssu = s.ssu := by
  unfold evaluateSale; try dsimp only
  (repeat' split) <;> simp
@[simp] theorem evaluateSale_rfc_cabinet (s : State) : (evaluateSale s).rfc.cabinet = s.rfc.cabinet := by
  unfold evaluateSale; try dsimp only
  (repeat' split) <;> simp
@[simp] theorem evaluateSale_rfc_evaporator (s : State) : (evaluateSale s).rfc.evaporator = s.rfc.evaporator := by
  unfold evaluateSale; try dsimp only
  (repeat' split) <;> simp
@[simp] theorem evaluateSale_rfc_state (s : State) : (evaluateSale s).rfc.state = s.rfc.state := by
  unfold evaluateSale; try dsimp only
  (repeat' split) <;> simp
@[simp] theorem evaluateSale_rfc_lockoutTimer (s : State) : (evaluateSale s).rfc.lockoutTimer = s.rfc.lockoutTimer := by
  unfold evaluateSale; try dsimp only
  (repeat' split) <;> simp
@[simp] theorem evaluateSale_rfc_cycleTimer (s : State) : (evaluateSale s).rfc.cycleTimer = s.rfc.cycleTimer := by
  unfold evaluateSale; try dsimp only
  (repeat' split) <;> simp
@[simp] theorem evaluateSale_rfc_classAsked (s : State) : (evaluateSale s).rfc.classAsked = s.rfc.classAsked := by
  unfold evaluateSale; try dsimp only
  (repeat' split) <;> simp
@[simp] theorem evaluateSale_rfc_startTimer (s : State) : (evaluateSale s).rfc.startTimer = s.rfc.startTimer := by
  unfold evaluateSale; try dsimp only
  (repeat' split) <;> simp
@[simp] theorem evaluateSale_rfc_onTimer (s : State) : (evaluateSale s).rfc.onTimer = s.rfc.onTimer := by
  unfold evaluateSale; try dsimp only
  (repeat' split) <;> simp
@[simp] theorem evaluateSale_rfc_offTimer (s : State) : (evaluateSale s).rfc.offTimer = s.rfc.offTimer := by
  unfold evaluateSale; try dsimp only
  (repeat' split) <;> simp
@[simp] theorem evaluateSale_rfc_accumulator (s : State) : (evaluateSale s).rfc.accumulator = s.rfc.accumulator := by
  unfold evaluateSale; try dsimp only
  (repeat' split) <;> simp
@[simp] theorem evaluateSale_rfc_second (s : State) : (evaluateSale s).rfc.second = s.rfc.second := by
  unfold evaluateSale; try dsimp only
  (repeat' split) <;> simp
@[simp] theorem evaluateSale_rfc_defrostDue (s : State) : (evaluateSale s).rfc.defrostDue = s.rfc.defrostDue := by
  unfold evaluateSale; try dsimp only
  (repeat' split) <;> simp
@[simp] theorem evaluateSale_rfc_defrostTimer (s : State) : (evaluateSale s).rfc.defrostTimer = s.rfc.defrostTimer := by
  unfold evaluateSale; try dsimp only
  (repeat' split) <;> simp
@[simp] theorem evaluateSale_rfc_heaterMode (s : State) : (evaluateSale s).rfc.heaterMode = s.rfc.heaterMode := by
  unfold evaluateSale; try dsimp only
  (repeat' split) <;> simp
@[simp] theorem evaluateSale_rfc_dripTimer (s : State) : (evaluateSale s).rfc.dripTimer = s.rfc.dripTimer := by
  unfold evaluateSale; try dsimp only
  (repeat' split) <;> simp
@[simp] theorem evaluateSale_rfc_hotHold (s : State) : (evaluateSale s).rfc.hotHold = s.rfc.hotHold := by
  unfold evaluateSale; try dsimp only
  (repeat' split) <;> simp
@[simp] theorem latchHotHold_pending (s : State) : (latchHotHold s).pending = s.pending := by
  unfold latchHotHold; try dsimp only
  (repeat' split) <;> simp
@[simp] theorem latchHotHold_due (s : State) : (latchHotHold s).due = s.due := by
  unfold latchHotHold; try dsimp only
  (repeat' split) <;> simp
@[simp] theorem latchHotHold_phase (s : State) : (latchHotHold s).phase = s.phase := by
  unfold latchHotHold; try dsimp only
  (repeat' split) <;> simp
@[simp] theorem latchHotHold_inputs (s : State) : (latchHotHold s).inputs = s.inputs := by
  unfold latchHotHold; try dsimp only
  (repeat' split) <;> simp
@[simp] theorem latchHotHold_outputs (s : State) : (latchHotHold s).outputs = s.outputs := by
  unfold latchHotHold; try dsimp only
  (repeat' split) <;> simp
@[simp] theorem latchHotHold_params (s : State) : (latchHotHold s).params = s.params := by
  unfold latchHotHold; try dsimp only
  (repeat' split) <;> simp
@[simp] theorem latchHotHold_cnu (s : State) : (latchHotHold s).cnu = s.cnu := by
  unfold latchHotHold; try dsimp only
  (repeat' split) <;> simp
@[simp] theorem latchHotHold_cru (s : State) : (latchHotHold s).cru = s.cru := by
  unfold latchHotHold; try dsimp only
  (repeat' split) <;> simp
@[simp] theorem latchHotHold_cca (s : State) : (latchHotHold s).cca = s.cca := by
  unfold latchHotHold; try dsimp only
  (repeat' split) <;> simp
@[simp] theorem latchHotHold_vsq (s : State) : (latchHotHold s).vsq = s.vsq := by
  unfold latchHotHold; try dsimp only
  (repeat' split) <;> simp
@[simp] theorem latchHotHold_mxd (s : State) : (latchHotHold s).mxd = s.mxd := by
  unfold latchHotHold; try dsimp only
  (repeat' split) <;> simp
@[simp] theorem latchHotHold_lbu (s : State) : (latchHotHold s).lbu = s.lbu := by
  unfold latchHotHold; try dsimp only
  (repeat' split) <;> simp
@[simp] theorem latchHotHold_ssu (s : State) : (latchHotHold s).ssu = s.ssu := by
  unfold latchHotHold; try dsimp only
  (repeat' split) <;> simp
@[simp] theorem latchHotHold_rfc_cabinet (s : State) : (latchHotHold s).rfc.cabinet = s.rfc.cabinet := by
  unfold latchHotHold; try dsimp only
  (repeat' split) <;> simp
@[simp] theorem latchHotHold_rfc_evaporator (s : State) : (latchHotHold s).rfc.evaporator = s.rfc.evaporator := by
  unfold latchHotHold; try dsimp only
  (repeat' split) <;> simp
@[simp] theorem latchHotHold_rfc_state (s : State) : (latchHotHold s).rfc.state = s.rfc.state := by
  unfold latchHotHold; try dsimp only
  (repeat' split) <;> simp
@[simp] theorem latchHotHold_rfc_lockoutTimer (s : State) : (latchHotHold s).rfc.lockoutTimer = s.rfc.lockoutTimer := by
  unfold latchHotHold; try dsimp only
  (repeat' split) <;> simp
@[simp] theorem latchHotHold_rfc_cycleTimer (s : State) : (latchHotHold s).rfc.cycleTimer = s.rfc.cycleTimer := by
  unfold latchHotHold; try dsimp only
  (repeat' split) <;> simp
@[simp] theorem latchHotHold_rfc_classAsked (s : State) : (latchHotHold s).rfc.classAsked = s.rfc.classAsked := by
  unfold latchHotHold; try dsimp only
  (repeat' split) <;> simp
@[simp] theorem latchHotHold_rfc_startTimer (s : State) : (latchHotHold s).rfc.startTimer = s.rfc.startTimer := by
  unfold latchHotHold; try dsimp only
  (repeat' split) <;> simp
@[simp] theorem latchHotHold_rfc_onTimer (s : State) : (latchHotHold s).rfc.onTimer = s.rfc.onTimer := by
  unfold latchHotHold; try dsimp only
  (repeat' split) <;> simp
@[simp] theorem latchHotHold_rfc_offTimer (s : State) : (latchHotHold s).rfc.offTimer = s.rfc.offTimer := by
  unfold latchHotHold; try dsimp only
  (repeat' split) <;> simp
@[simp] theorem latchHotHold_rfc_accumulator (s : State) : (latchHotHold s).rfc.accumulator = s.rfc.accumulator := by
  unfold latchHotHold; try dsimp only
  (repeat' split) <;> simp
@[simp] theorem latchHotHold_rfc_second (s : State) : (latchHotHold s).rfc.second = s.rfc.second := by
  unfold latchHotHold; try dsimp only
  (repeat' split) <;> simp
@[simp] theorem latchHotHold_rfc_defrostDue (s : State) : (latchHotHold s).rfc.defrostDue = s.rfc.defrostDue := by
  unfold latchHotHold; try dsimp only
  (repeat' split) <;> simp
@[simp] theorem latchHotHold_rfc_defrostTimer (s : State) : (latchHotHold s).rfc.defrostTimer = s.rfc.defrostTimer := by
  unfold latchHotHold; try dsimp only
  (repeat' split) <;> simp
@[simp] theorem latchHotHold_rfc_heaterMode (s : State) : (latchHotHold s).rfc.heaterMode = s.rfc.heaterMode := by
  unfold latchHotHold; try dsimp only
  (repeat' split) <;> simp
@[simp] theorem latchHotHold_rfc_dripTimer (s : State) : (latchHotHold s).rfc.dripTimer = s.rfc.dripTimer := by
  unfold latchHotHold; try dsimp only
  (repeat' split) <;> simp
@[simp] theorem latchHotHold_lnk_state (s : State) : (latchHotHold s).lnk.state = s.lnk.state := by
  unfold latchHotHold; try dsimp only
  (repeat' split) <;> simp
@[simp] theorem latchHotHold_lnk_heard (s : State) : (latchHotHold s).lnk.heard = s.lnk.heard := by
  unfold latchHotHold; try dsimp only
  (repeat' split) <;> simp
@[simp] theorem latchHotHold_lnk_acknowledged (s : State) : (latchHotHold s).lnk.acknowledged = s.lnk.acknowledged := by
  unfold latchHotHold; try dsimp only
  (repeat' split) <;> simp
@[simp] theorem latchHotHold_lnk_isolationTimer (s : State) : (latchHotHold s).lnk.isolationTimer = s.lnk.isolationTimer := by
  unfold latchHotHold; try dsimp only
  (repeat' split) <;> simp
@[simp] theorem latchHotHold_lnk_change (s : State) : (latchHotHold s).lnk.change = s.lnk.change := by
  unfold latchHotHold; try dsimp only
  (repeat' split) <;> simp
@[simp] theorem latchHotHold_lnk_silentTimer (s : State) : (latchHotHold s).lnk.silentTimer = s.lnk.silentTimer := by
  unfold latchHotHold; try dsimp only
  (repeat' split) <;> simp
@[simp] theorem latchHotHold_lnk_failures (s : State) : (latchHotHold s).lnk.failures = s.lnk.failures := by
  unfold latchHotHold; try dsimp only
  (repeat' split) <;> simp
@[simp] theorem latchHotHold_lnk_unknownFrames (s : State) : (latchHotHold s).lnk.unknownFrames = s.lnk.unknownFrames := by
  unfold latchHotHold; try dsimp only
  (repeat' split) <;> simp
@[simp] theorem latchHotHold_lnk_droppedFrames (s : State) : (latchHotHold s).lnk.droppedFrames = s.lnk.droppedFrames := by
  unfold latchHotHold; try dsimp only
  (repeat' split) <;> simp
@[simp] theorem latchHotHold_lnk_silentEntries (s : State) : (latchHotHold s).lnk.silentEntries = s.lnk.silentEntries := by
  unfold latchHotHold; try dsimp only
  (repeat' split) <;> simp
@[simp] theorem clearHotHold_pending (s : State) : (clearHotHold s).pending = s.pending := by
  unfold clearHotHold; try dsimp only
  (repeat' split) <;> simp
@[simp] theorem clearHotHold_due (s : State) : (clearHotHold s).due = s.due := by
  unfold clearHotHold; try dsimp only
  (repeat' split) <;> simp
@[simp] theorem clearHotHold_phase (s : State) : (clearHotHold s).phase = s.phase := by
  unfold clearHotHold; try dsimp only
  (repeat' split) <;> simp
@[simp] theorem clearHotHold_inputs (s : State) : (clearHotHold s).inputs = s.inputs := by
  unfold clearHotHold; try dsimp only
  (repeat' split) <;> simp
@[simp] theorem clearHotHold_outputs (s : State) : (clearHotHold s).outputs = s.outputs := by
  unfold clearHotHold; try dsimp only
  (repeat' split) <;> simp
@[simp] theorem clearHotHold_params (s : State) : (clearHotHold s).params = s.params := by
  unfold clearHotHold; try dsimp only
  (repeat' split) <;> simp
@[simp] theorem clearHotHold_cnu (s : State) : (clearHotHold s).cnu = s.cnu := by
  unfold clearHotHold; try dsimp only
  (repeat' split) <;> simp
@[simp] theorem clearHotHold_cru (s : State) : (clearHotHold s).cru = s.cru := by
  unfold clearHotHold; try dsimp only
  (repeat' split) <;> simp
@[simp] theorem clearHotHold_cca (s : State) : (clearHotHold s).cca = s.cca := by
  unfold clearHotHold; try dsimp only
  (repeat' split) <;> simp
@[simp] theorem clearHotHold_vsq (s : State) : (clearHotHold s).vsq = s.vsq := by
  unfold clearHotHold; try dsimp only
  (repeat' split) <;> simp
@[simp] theorem clearHotHold_mxd (s : State) : (clearHotHold s).mxd = s.mxd := by
  unfold clearHotHold; try dsimp only
  (repeat' split) <;> simp
@[simp] theorem clearHotHold_lbu (s : State) : (clearHotHold s).lbu = s.lbu := by
  unfold clearHotHold; try dsimp only
  (repeat' split) <;> simp
@[simp] theorem clearHotHold_ssu (s : State) : (clearHotHold s).ssu = s.ssu := by
  unfold clearHotHold; try dsimp only
  (repeat' split) <;> simp
@[simp] theorem clearHotHold_rfc_cabinet (s : State) : (clearHotHold s).rfc.cabinet = s.rfc.cabinet := by
  unfold clearHotHold; try dsimp only
  (repeat' split) <;> simp
@[simp] theorem clearHotHold_rfc_evaporator (s : State) : (clearHotHold s).rfc.evaporator = s.rfc.evaporator := by
  unfold clearHotHold; try dsimp only
  (repeat' split) <;> simp
@[simp] theorem clearHotHold_rfc_state (s : State) : (clearHotHold s).rfc.state = s.rfc.state := by
  unfold clearHotHold; try dsimp only
  (repeat' split) <;> simp
@[simp] theorem clearHotHold_rfc_lockoutTimer (s : State) : (clearHotHold s).rfc.lockoutTimer = s.rfc.lockoutTimer := by
  unfold clearHotHold; try dsimp only
  (repeat' split) <;> simp
@[simp] theorem clearHotHold_rfc_cycleTimer (s : State) : (clearHotHold s).rfc.cycleTimer = s.rfc.cycleTimer := by
  unfold clearHotHold; try dsimp only
  (repeat' split) <;> simp
@[simp] theorem clearHotHold_rfc_classAsked (s : State) : (clearHotHold s).rfc.classAsked = s.rfc.classAsked := by
  unfold clearHotHold; try dsimp only
  (repeat' split) <;> simp
@[simp] theorem clearHotHold_rfc_startTimer (s : State) : (clearHotHold s).rfc.startTimer = s.rfc.startTimer := by
  unfold clearHotHold; try dsimp only
  (repeat' split) <;> simp
@[simp] theorem clearHotHold_rfc_onTimer (s : State) : (clearHotHold s).rfc.onTimer = s.rfc.onTimer := by
  unfold clearHotHold; try dsimp only
  (repeat' split) <;> simp
@[simp] theorem clearHotHold_rfc_offTimer (s : State) : (clearHotHold s).rfc.offTimer = s.rfc.offTimer := by
  unfold clearHotHold; try dsimp only
  (repeat' split) <;> simp
@[simp] theorem clearHotHold_rfc_accumulator (s : State) : (clearHotHold s).rfc.accumulator = s.rfc.accumulator := by
  unfold clearHotHold; try dsimp only
  (repeat' split) <;> simp
@[simp] theorem clearHotHold_rfc_second (s : State) : (clearHotHold s).rfc.second = s.rfc.second := by
  unfold clearHotHold; try dsimp only
  (repeat' split) <;> simp
@[simp] theorem clearHotHold_rfc_defrostDue (s : State) : (clearHotHold s).rfc.defrostDue = s.rfc.defrostDue := by
  unfold clearHotHold; try dsimp only
  (repeat' split) <;> simp
@[simp] theorem clearHotHold_rfc_defrostTimer (s : State) : (clearHotHold s).rfc.defrostTimer = s.rfc.defrostTimer := by
  unfold clearHotHold; try dsimp only
  (repeat' split) <;> simp
@[simp] theorem clearHotHold_rfc_heaterMode (s : State) : (clearHotHold s).rfc.heaterMode = s.rfc.heaterMode := by
  unfold clearHotHold; try dsimp only
  (repeat' split) <;> simp
@[simp] theorem clearHotHold_rfc_dripTimer (s : State) : (clearHotHold s).rfc.dripTimer = s.rfc.dripTimer := by
  unfold clearHotHold; try dsimp only
  (repeat' split) <;> simp
@[simp] theorem clearHotHold_lnk_state (s : State) : (clearHotHold s).lnk.state = s.lnk.state := by
  unfold clearHotHold; try dsimp only
  (repeat' split) <;> simp
@[simp] theorem clearHotHold_lnk_heard (s : State) : (clearHotHold s).lnk.heard = s.lnk.heard := by
  unfold clearHotHold; try dsimp only
  (repeat' split) <;> simp
@[simp] theorem clearHotHold_lnk_acknowledged (s : State) : (clearHotHold s).lnk.acknowledged = s.lnk.acknowledged := by
  unfold clearHotHold; try dsimp only
  (repeat' split) <;> simp
@[simp] theorem clearHotHold_lnk_isolationTimer (s : State) : (clearHotHold s).lnk.isolationTimer = s.lnk.isolationTimer := by
  unfold clearHotHold; try dsimp only
  (repeat' split) <;> simp
@[simp] theorem clearHotHold_lnk_change (s : State) : (clearHotHold s).lnk.change = s.lnk.change := by
  unfold clearHotHold; try dsimp only
  (repeat' split) <;> simp
@[simp] theorem clearHotHold_lnk_silentTimer (s : State) : (clearHotHold s).lnk.silentTimer = s.lnk.silentTimer := by
  unfold clearHotHold; try dsimp only
  (repeat' split) <;> simp
@[simp] theorem clearHotHold_lnk_failures (s : State) : (clearHotHold s).lnk.failures = s.lnk.failures := by
  unfold clearHotHold; try dsimp only
  (repeat' split) <;> simp
@[simp] theorem clearHotHold_lnk_unknownFrames (s : State) : (clearHotHold s).lnk.unknownFrames = s.lnk.unknownFrames := by
  unfold clearHotHold; try dsimp only
  (repeat' split) <;> simp
@[simp] theorem clearHotHold_lnk_droppedFrames (s : State) : (clearHotHold s).lnk.droppedFrames = s.lnk.droppedFrames := by
  unfold clearHotHold; try dsimp only
  (repeat' split) <;> simp
@[simp] theorem clearHotHold_lnk_silentEntries (s : State) : (clearHotHold s).lnk.silentEntries = s.lnk.silentEntries := by
  unfold clearHotHold; try dsimp only
  (repeat' split) <;> simp

end Sys2Proof.Machine.Laws
end

