-- ==== Sys2Proof/Laws/FramesVend.lean ====
section
/-! SUPPORT. Frames: what each shared operation of the Vend Sequencer and of one event leaves as it was, one lemma per operation and part. -/

set_option linter.unusedTactic false
set_option linter.unnecessarySeqFocus false
set_option linter.unreachableTactic false

namespace Sys2Proof.Machine.Laws

-- One after the other: side by side, this many small lemmas take more memory than a check has.
set_option Elab.async false

@[simp] theorem setVsq_pending (v : VsqState) (s : State) : (setVsq v s).pending = s.pending := by
  unfold setVsq; try dsimp only
  (repeat' split) <;> simp
@[simp] theorem setVsq_due (v : VsqState) (s : State) : (setVsq v s).due = s.due := by
  unfold setVsq; try dsimp only
  (repeat' split) <;> simp
@[simp] theorem setVsq_phase (v : VsqState) (s : State) : (setVsq v s).phase = s.phase := by
  unfold setVsq; try dsimp only
  (repeat' split) <;> simp
@[simp] theorem setVsq_inputs (v : VsqState) (s : State) : (setVsq v s).inputs = s.inputs := by
  unfold setVsq; try dsimp only
  (repeat' split) <;> simp
@[simp] theorem setVsq_outputs (v : VsqState) (s : State) : (setVsq v s).outputs = s.outputs := by
  unfold setVsq; try dsimp only
  (repeat' split) <;> simp
@[simp] theorem setVsq_params (v : VsqState) (s : State) : (setVsq v s).params = s.params := by
  unfold setVsq; try dsimp only
  (repeat' split) <;> simp
@[simp] theorem setVsq_cnu (v : VsqState) (s : State) : (setVsq v s).cnu = s.cnu := by
  unfold setVsq; try dsimp only
  (repeat' split) <;> simp
@[simp] theorem setVsq_cru (v : VsqState) (s : State) : (setVsq v s).cru = s.cru := by
  unfold setVsq; try dsimp only
  (repeat' split) <;> simp
@[simp] theorem setVsq_cca (v : VsqState) (s : State) : (setVsq v s).cca = s.cca := by
  unfold setVsq; try dsimp only
  (repeat' split) <;> simp
@[simp] theorem setVsq_mxd (v : VsqState) (s : State) : (setVsq v s).mxd = s.mxd := by
  unfold setVsq; try dsimp only
  (repeat' split) <;> simp
@[simp] theorem setVsq_rfc (v : VsqState) (s : State) : (setVsq v s).rfc = s.rfc := by
  unfold setVsq; try dsimp only
  (repeat' split) <;> simp
@[simp] theorem setVsq_lbu (v : VsqState) (s : State) : (setVsq v s).lbu = s.lbu := by
  unfold setVsq; try dsimp only
  (repeat' split) <;> simp
@[simp] theorem setVsq_lnk (v : VsqState) (s : State) : (setVsq v s).lnk = s.lnk := by
  unfold setVsq; try dsimp only
  (repeat' split) <;> simp
@[simp] theorem setVsq_ssu (v : VsqState) (s : State) : (setVsq v s).ssu = s.ssu := by
  unfold setVsq; try dsimp only
  (repeat' split) <;> simp
@[simp] theorem setVsq_vsq_vend (v : VsqState) (s : State) : (setVsq v s).vsq.vend = s.vsq.vend := by
  unfold setVsq; try dsimp only
  (repeat' split) <;> simp
@[simp] theorem setVsq_vsq_test (v : VsqState) (s : State) : (setVsq v s).vsq.test = s.vsq.test := by
  unfold setVsq; try dsimp only
  (repeat' split) <;> simp
@[simp] theorem setVsq_vsq_queue (v : VsqState) (s : State) : (setVsq v s).vsq.queue = s.vsq.queue := by
  unfold setVsq; try dsimp only
  (repeat' split) <;> simp
@[simp] theorem setVsq_vsq_tagCounter (v : VsqState) (s : State) : (setVsq v s).vsq.tagCounter = s.vsq.tagCounter := by
  unfold setVsq; try dsimp only
  (repeat' split) <;> simp
@[simp] theorem setVsq_vsq_slots (v : VsqState) (s : State) : (setVsq v s).vsq.slots = s.vsq.slots := by
  unfold setVsq; try dsimp only
  (repeat' split) <;> simp
@[simp] theorem answerPanel_pending (r : Selection) (o : VendOutcome) (p : Nat) (s : State) : (answerPanel r o p s).pending = s.pending := by
  unfold answerPanel; try dsimp only
  (repeat' split) <;> simp
@[simp] theorem answerPanel_due (r : Selection) (o : VendOutcome) (p : Nat) (s : State) : (answerPanel r o p s).due = s.due := by
  unfold answerPanel; try dsimp only
  (repeat' split) <;> simp
@[simp] theorem answerPanel_phase (r : Selection) (o : VendOutcome) (p : Nat) (s : State) : (answerPanel r o p s).phase = s.phase := by
  unfold answerPanel; try dsimp only
  (repeat' split) <;> simp
@[simp] theorem answerPanel_inputs (r : Selection) (o : VendOutcome) (p : Nat) (s : State) : (answerPanel r o p s).inputs = s.inputs := by
  unfold answerPanel; try dsimp only
  (repeat' split) <;> simp
@[simp] theorem answerPanel_outputs (r : Selection) (o : VendOutcome) (p : Nat) (s : State) : (answerPanel r o p s).outputs = s.outputs := by
  unfold answerPanel; try dsimp only
  (repeat' split) <;> simp
@[simp] theorem answerPanel_params (r : Selection) (o : VendOutcome) (p : Nat) (s : State) : (answerPanel r o p s).params = s.params := by
  unfold answerPanel; try dsimp only
  (repeat' split) <;> simp
@[simp] theorem answerPanel_cnu (r : Selection) (o : VendOutcome) (p : Nat) (s : State) : (answerPanel r o p s).cnu = s.cnu := by
  unfold answerPanel; try dsimp only
  (repeat' split) <;> simp
@[simp] theorem answerPanel_cru (r : Selection) (o : VendOutcome) (p : Nat) (s : State) : (answerPanel r o p s).cru = s.cru := by
  unfold answerPanel; try dsimp only
  (repeat' split) <;> simp
@[simp] theorem answerPanel_cca (r : Selection) (o : VendOutcome) (p : Nat) (s : State) : (answerPanel r o p s).cca = s.cca := by
  unfold answerPanel; try dsimp only
  (repeat' split) <;> simp
@[simp] theorem answerPanel_vsq (r : Selection) (o : VendOutcome) (p : Nat) (s : State) : (answerPanel r o p s).vsq = s.vsq := by
  unfold answerPanel; try dsimp only
  (repeat' split) <;> simp
@[simp] theorem answerPanel_mxd (r : Selection) (o : VendOutcome) (p : Nat) (s : State) : (answerPanel r o p s).mxd = s.mxd := by
  unfold answerPanel; try dsimp only
  (repeat' split) <;> simp
@[simp] theorem answerPanel_rfc (r : Selection) (o : VendOutcome) (p : Nat) (s : State) : (answerPanel r o p s).rfc = s.rfc := by
  unfold answerPanel; try dsimp only
  (repeat' split) <;> simp
@[simp] theorem answerPanel_lbu (r : Selection) (o : VendOutcome) (p : Nat) (s : State) : (answerPanel r o p s).lbu = s.lbu := by
  unfold answerPanel; try dsimp only
  (repeat' split) <;> simp
@[simp] theorem answerPanel_ssu (r : Selection) (o : VendOutcome) (p : Nat) (s : State) : (answerPanel r o p s).ssu = s.ssu := by
  unfold answerPanel; try dsimp only
  (repeat' split) <;> simp
@[simp] theorem answerPanel_lnk_state (r : Selection) (o : VendOutcome) (p : Nat) (s : State) : (answerPanel r o p s).lnk.state = s.lnk.state := by
  unfold answerPanel; try dsimp only
  (repeat' split) <;> simp
@[simp] theorem answerPanel_lnk_heard (r : Selection) (o : VendOutcome) (p : Nat) (s : State) : (answerPanel r o p s).lnk.heard = s.lnk.heard := by
  unfold answerPanel; try dsimp only
  (repeat' split) <;> simp
@[simp] theorem answerPanel_lnk_acknowledged (r : Selection) (o : VendOutcome) (p : Nat) (s : State) : (answerPanel r o p s).lnk.acknowledged = s.lnk.acknowledged := by
  unfold answerPanel; try dsimp only
  (repeat' split) <;> simp
@[simp] theorem answerPanel_lnk_isolationTimer (r : Selection) (o : VendOutcome) (p : Nat) (s : State) : (answerPanel r o p s).lnk.isolationTimer = s.lnk.isolationTimer := by
  unfold answerPanel; try dsimp only
  (repeat' split) <;> simp
@[simp] theorem answerPanel_lnk_change (r : Selection) (o : VendOutcome) (p : Nat) (s : State) : (answerPanel r o p s).lnk.change = s.lnk.change := by
  unfold answerPanel; try dsimp only
  (repeat' split) <;> simp
@[simp] theorem answerPanel_lnk_periodTimer (r : Selection) (o : VendOutcome) (p : Nat) (s : State) : (answerPanel r o p s).lnk.periodTimer = s.lnk.periodTimer := by
  unfold answerPanel; try dsimp only
  (repeat' split) <;> simp
@[simp] theorem answerPanel_lnk_silentTimer (r : Selection) (o : VendOutcome) (p : Nat) (s : State) : (answerPanel r o p s).lnk.silentTimer = s.lnk.silentTimer := by
  unfold answerPanel; try dsimp only
  (repeat' split) <;> simp
@[simp] theorem answerPanel_lnk_failures (r : Selection) (o : VendOutcome) (p : Nat) (s : State) : (answerPanel r o p s).lnk.failures = s.lnk.failures := by
  unfold answerPanel; try dsimp only
  (repeat' split) <;> simp
@[simp] theorem answerPanel_lnk_unknownFrames (r : Selection) (o : VendOutcome) (p : Nat) (s : State) : (answerPanel r o p s).lnk.unknownFrames = s.lnk.unknownFrames := by
  unfold answerPanel; try dsimp only
  (repeat' split) <;> simp
@[simp] theorem answerPanel_lnk_droppedFrames (r : Selection) (o : VendOutcome) (p : Nat) (s : State) : (answerPanel r o p s).lnk.droppedFrames = s.lnk.droppedFrames := by
  unfold answerPanel; try dsimp only
  (repeat' split) <;> simp
@[simp] theorem answerPanel_lnk_silentEntries (r : Selection) (o : VendOutcome) (p : Nat) (s : State) : (answerPanel r o p s).lnk.silentEntries = s.lnk.silentEntries := by
  unfold answerPanel; try dsimp only
  (repeat' split) <;> simp
theorem foldl_answer_pending (o : VendOutcome) (l : List Selection) : ∀ s : State,
    (l.foldl (fun t r => answerPanel r o 0 t) s).pending = s.pending := by
  induction l with
  | nil => intro s; rfl
  | cons r l ih => intro s; rw [List.foldl_cons, ih]; simp
theorem foldl_answer_due (o : VendOutcome) (l : List Selection) : ∀ s : State,
    (l.foldl (fun t r => answerPanel r o 0 t) s).due = s.due := by
  induction l with
  | nil => intro s; rfl
  | cons r l ih => intro s; rw [List.foldl_cons, ih]; simp
@[simp] theorem emptyQueue_pending (o : VendOutcome) (s : State) : (emptyQueue o s).pending = s.pending := by
  unfold emptyQueue; simp [foldl_answer_pending]
@[simp] theorem emptyQueue_due (o : VendOutcome) (s : State) : (emptyQueue o s).due = s.due := by
  unfold emptyQueue; simp [foldl_answer_due]
theorem foldl_answer_phase (o : VendOutcome) (l : List Selection) : ∀ s : State,
    (l.foldl (fun t r => answerPanel r o 0 t) s).phase = s.phase := by
  induction l with
  | nil => intro s; rfl
  | cons r l ih => intro s; rw [List.foldl_cons, ih]; simp
@[simp] theorem emptyQueue_phase (o : VendOutcome) (s : State) : (emptyQueue o s).phase = s.phase := by
  unfold emptyQueue; simp [foldl_answer_phase]
theorem foldl_answer_inputs (o : VendOutcome) (l : List Selection) : ∀ s : State,
    (l.foldl (fun t r => answerPanel r o 0 t) s).inputs = s.inputs := by
  induction l with
  | nil => intro s; rfl
  | cons r l ih => intro s; rw [List.foldl_cons, ih]; simp
@[simp] theorem emptyQueue_inputs (o : VendOutcome) (s : State) : (emptyQueue o s).inputs = s.inputs := by
  unfold emptyQueue; simp [foldl_answer_inputs]
theorem foldl_answer_outputs (o : VendOutcome) (l : List Selection) : ∀ s : State,
    (l.foldl (fun t r => answerPanel r o 0 t) s).outputs = s.outputs := by
  induction l with
  | nil => intro s; rfl
  | cons r l ih => intro s; rw [List.foldl_cons, ih]; simp
@[simp] theorem emptyQueue_outputs (o : VendOutcome) (s : State) : (emptyQueue o s).outputs = s.outputs := by
  unfold emptyQueue; simp [foldl_answer_outputs]
theorem foldl_answer_params (o : VendOutcome) (l : List Selection) : ∀ s : State,
    (l.foldl (fun t r => answerPanel r o 0 t) s).params = s.params := by
  induction l with
  | nil => intro s; rfl
  | cons r l ih => intro s; rw [List.foldl_cons, ih]; simp
@[simp] theorem emptyQueue_params (o : VendOutcome) (s : State) : (emptyQueue o s).params = s.params := by
  unfold emptyQueue; simp [foldl_answer_params]
theorem foldl_answer_cnu (o : VendOutcome) (l : List Selection) : ∀ s : State,
    (l.foldl (fun t r => answerPanel r o 0 t) s).cnu = s.cnu := by
  induction l with
  | nil => intro s; rfl
  | cons r l ih => intro s; rw [List.foldl_cons, ih]; simp
@[simp] theorem emptyQueue_cnu (o : VendOutcome) (s : State) : (emptyQueue o s).cnu = s.cnu := by
  unfold emptyQueue; simp [foldl_answer_cnu]
theorem foldl_answer_cru (o : VendOutcome) (l : List Selection) : ∀ s : State,
    (l.foldl (fun t r => answerPanel r o 0 t) s).cru = s.cru := by
  induction l with
  | nil => intro s; rfl
  | cons r l ih => intro s; rw [List.foldl_cons, ih]; simp
@[simp] theorem emptyQueue_cru (o : VendOutcome) (s : State) : (emptyQueue o s).cru = s.cru := by
  unfold emptyQueue; simp [foldl_answer_cru]
theorem foldl_answer_cca (o : VendOutcome) (l : List Selection) : ∀ s : State,
    (l.foldl (fun t r => answerPanel r o 0 t) s).cca = s.cca := by
  induction l with
  | nil => intro s; rfl
  | cons r l ih => intro s; rw [List.foldl_cons, ih]; simp
@[simp] theorem emptyQueue_cca (o : VendOutcome) (s : State) : (emptyQueue o s).cca = s.cca := by
  unfold emptyQueue; simp [foldl_answer_cca]
theorem foldl_answer_mxd (o : VendOutcome) (l : List Selection) : ∀ s : State,
    (l.foldl (fun t r => answerPanel r o 0 t) s).mxd = s.mxd := by
  induction l with
  | nil => intro s; rfl
  | cons r l ih => intro s; rw [List.foldl_cons, ih]; simp
@[simp] theorem emptyQueue_mxd (o : VendOutcome) (s : State) : (emptyQueue o s).mxd = s.mxd := by
  unfold emptyQueue; simp [foldl_answer_mxd]
theorem foldl_answer_rfc (o : VendOutcome) (l : List Selection) : ∀ s : State,
    (l.foldl (fun t r => answerPanel r o 0 t) s).rfc = s.rfc := by
  induction l with
  | nil => intro s; rfl
  | cons r l ih => intro s; rw [List.foldl_cons, ih]; simp
@[simp] theorem emptyQueue_rfc (o : VendOutcome) (s : State) : (emptyQueue o s).rfc = s.rfc := by
  unfold emptyQueue; simp [foldl_answer_rfc]
theorem foldl_answer_lbu (o : VendOutcome) (l : List Selection) : ∀ s : State,
    (l.foldl (fun t r => answerPanel r o 0 t) s).lbu = s.lbu := by
  induction l with
  | nil => intro s; rfl
  | cons r l ih => intro s; rw [List.foldl_cons, ih]; simp
@[simp] theorem emptyQueue_lbu (o : VendOutcome) (s : State) : (emptyQueue o s).lbu = s.lbu := by
  unfold emptyQueue; simp [foldl_answer_lbu]
theorem foldl_answer_ssu (o : VendOutcome) (l : List Selection) : ∀ s : State,
    (l.foldl (fun t r => answerPanel r o 0 t) s).ssu = s.ssu := by
  induction l with
  | nil => intro s; rfl
  | cons r l ih => intro s; rw [List.foldl_cons, ih]; simp
@[simp] theorem emptyQueue_ssu (o : VendOutcome) (s : State) : (emptyQueue o s).ssu = s.ssu := by
  unfold emptyQueue; simp [foldl_answer_ssu]
theorem foldl_answer_vsq_state (o : VendOutcome) (l : List Selection) : ∀ s : State,
    (l.foldl (fun t r => answerPanel r o 0 t) s).vsq.state = s.vsq.state := by
  induction l with
  | nil => intro s; rfl
  | cons r l ih => intro s; rw [List.foldl_cons, ih]; simp
@[simp] theorem emptyQueue_vsq_state (o : VendOutcome) (s : State) : (emptyQueue o s).vsq.state = s.vsq.state := by
  unfold emptyQueue; simp [foldl_answer_vsq_state]
theorem foldl_answer_vsq_vend (o : VendOutcome) (l : List Selection) : ∀ s : State,
    (l.foldl (fun t r => answerPanel r o 0 t) s).vsq.vend = s.vsq.vend := by
  induction l with
  | nil => intro s; rfl
  | cons r l ih => intro s; rw [List.foldl_cons, ih]; simp
@[simp] theorem emptyQueue_vsq_vend (o : VendOutcome) (s : State) : (emptyQueue o s).vsq.vend = s.vsq.vend := by
  unfold emptyQueue; simp [foldl_answer_vsq_vend]
theorem foldl_answer_vsq_test (o : VendOutcome) (l : List Selection) : ∀ s : State,
    (l.foldl (fun t r => answerPanel r o 0 t) s).vsq.test = s.vsq.test := by
  induction l with
  | nil => intro s; rfl
  | cons r l ih => intro s; rw [List.foldl_cons, ih]; simp
@[simp] theorem emptyQueue_vsq_test (o : VendOutcome) (s : State) : (emptyQueue o s).vsq.test = s.vsq.test := by
  unfold emptyQueue; simp [foldl_answer_vsq_test]
theorem foldl_answer_vsq_tagCounter (o : VendOutcome) (l : List Selection) : ∀ s : State,
    (l.foldl (fun t r => answerPanel r o 0 t) s).vsq.tagCounter = s.vsq.tagCounter := by
  induction l with
  | nil => intro s; rfl
  | cons r l ih => intro s; rw [List.foldl_cons, ih]; simp
@[simp] theorem emptyQueue_vsq_tagCounter (o : VendOutcome) (s : State) : (emptyQueue o s).vsq.tagCounter = s.vsq.tagCounter := by
  unfold emptyQueue; simp [foldl_answer_vsq_tagCounter]
theorem foldl_answer_vsq_slots (o : VendOutcome) (l : List Selection) : ∀ s : State,
    (l.foldl (fun t r => answerPanel r o 0 t) s).vsq.slots = s.vsq.slots := by
  induction l with
  | nil => intro s; rfl
  | cons r l ih => intro s; rw [List.foldl_cons, ih]; simp
@[simp] theorem emptyQueue_vsq_slots (o : VendOutcome) (s : State) : (emptyQueue o s).vsq.slots = s.vsq.slots := by
  unfold emptyQueue; simp [foldl_answer_vsq_slots]
theorem foldl_answer_lnk_state (o : VendOutcome) (l : List Selection) : ∀ s : State,
    (l.foldl (fun t r => answerPanel r o 0 t) s).lnk.state = s.lnk.state := by
  induction l with
  | nil => intro s; rfl
  | cons r l ih => intro s; rw [List.foldl_cons, ih]; simp
@[simp] theorem emptyQueue_lnk_state (o : VendOutcome) (s : State) : (emptyQueue o s).lnk.state = s.lnk.state := by
  unfold emptyQueue; simp [foldl_answer_lnk_state]
theorem foldl_answer_lnk_heard (o : VendOutcome) (l : List Selection) : ∀ s : State,
    (l.foldl (fun t r => answerPanel r o 0 t) s).lnk.heard = s.lnk.heard := by
  induction l with
  | nil => intro s; rfl
  | cons r l ih => intro s; rw [List.foldl_cons, ih]; simp
@[simp] theorem emptyQueue_lnk_heard (o : VendOutcome) (s : State) : (emptyQueue o s).lnk.heard = s.lnk.heard := by
  unfold emptyQueue; simp [foldl_answer_lnk_heard]
theorem foldl_answer_lnk_acknowledged (o : VendOutcome) (l : List Selection) : ∀ s : State,
    (l.foldl (fun t r => answerPanel r o 0 t) s).lnk.acknowledged = s.lnk.acknowledged := by
  induction l with
  | nil => intro s; rfl
  | cons r l ih => intro s; rw [List.foldl_cons, ih]; simp
theorem foldl_answer_lnk_isolationTimer (o : VendOutcome) (l : List Selection) : ∀ s : State,
    (l.foldl (fun t r => answerPanel r o 0 t) s).lnk.isolationTimer = s.lnk.isolationTimer := by
  induction l with
  | nil => intro s; rfl
  | cons r l ih => intro s; rw [List.foldl_cons, ih]; simp
@[simp] theorem emptyQueue_lnk_acknowledged (o : VendOutcome) (s : State) : (emptyQueue o s).lnk.acknowledged = s.lnk.acknowledged := by
  unfold emptyQueue; simp [foldl_answer_lnk_acknowledged]
@[simp] theorem emptyQueue_lnk_isolationTimer (o : VendOutcome) (s : State) : (emptyQueue o s).lnk.isolationTimer = s.lnk.isolationTimer := by
  unfold emptyQueue; simp [foldl_answer_lnk_isolationTimer]
theorem foldl_answer_lnk_change (o : VendOutcome) (l : List Selection) : ∀ s : State,
    (l.foldl (fun t r => answerPanel r o 0 t) s).lnk.change = s.lnk.change := by
  induction l with
  | nil => intro s; rfl
  | cons r l ih => intro s; rw [List.foldl_cons, ih]; simp
@[simp] theorem emptyQueue_lnk_change (o : VendOutcome) (s : State) : (emptyQueue o s).lnk.change = s.lnk.change := by
  unfold emptyQueue; simp [foldl_answer_lnk_change]
theorem foldl_answer_lnk_periodTimer (o : VendOutcome) (l : List Selection) : ∀ s : State,
    (l.foldl (fun t r => answerPanel r o 0 t) s).lnk.periodTimer = s.lnk.periodTimer := by
  induction l with
  | nil => intro s; rfl
  | cons r l ih => intro s; rw [List.foldl_cons, ih]; simp
@[simp] theorem emptyQueue_lnk_periodTimer (o : VendOutcome) (s : State) : (emptyQueue o s).lnk.periodTimer = s.lnk.periodTimer := by
  unfold emptyQueue; simp [foldl_answer_lnk_periodTimer]
theorem foldl_answer_lnk_silentTimer (o : VendOutcome) (l : List Selection) : ∀ s : State,
    (l.foldl (fun t r => answerPanel r o 0 t) s).lnk.silentTimer = s.lnk.silentTimer := by
  induction l with
  | nil => intro s; rfl
  | cons r l ih => intro s; rw [List.foldl_cons, ih]; simp
@[simp] theorem emptyQueue_lnk_silentTimer (o : VendOutcome) (s : State) : (emptyQueue o s).lnk.silentTimer = s.lnk.silentTimer := by
  unfold emptyQueue; simp [foldl_answer_lnk_silentTimer]
theorem foldl_answer_lnk_failures (o : VendOutcome) (l : List Selection) : ∀ s : State,
    (l.foldl (fun t r => answerPanel r o 0 t) s).lnk.failures = s.lnk.failures := by
  induction l with
  | nil => intro s; rfl
  | cons r l ih => intro s; rw [List.foldl_cons, ih]; simp
@[simp] theorem emptyQueue_lnk_failures (o : VendOutcome) (s : State) : (emptyQueue o s).lnk.failures = s.lnk.failures := by
  unfold emptyQueue; simp [foldl_answer_lnk_failures]
theorem foldl_answer_lnk_unknownFrames (o : VendOutcome) (l : List Selection) : ∀ s : State,
    (l.foldl (fun t r => answerPanel r o 0 t) s).lnk.unknownFrames = s.lnk.unknownFrames := by
  induction l with
  | nil => intro s; rfl
  | cons r l ih => intro s; rw [List.foldl_cons, ih]; simp
@[simp] theorem emptyQueue_lnk_unknownFrames (o : VendOutcome) (s : State) : (emptyQueue o s).lnk.unknownFrames = s.lnk.unknownFrames := by
  unfold emptyQueue; simp [foldl_answer_lnk_unknownFrames]
theorem foldl_answer_lnk_droppedFrames (o : VendOutcome) (l : List Selection) : ∀ s : State,
    (l.foldl (fun t r => answerPanel r o 0 t) s).lnk.droppedFrames = s.lnk.droppedFrames := by
  induction l with
  | nil => intro s; rfl
  | cons r l ih => intro s; rw [List.foldl_cons, ih]; simp
@[simp] theorem emptyQueue_lnk_droppedFrames (o : VendOutcome) (s : State) : (emptyQueue o s).lnk.droppedFrames = s.lnk.droppedFrames := by
  unfold emptyQueue; simp [foldl_answer_lnk_droppedFrames]
theorem foldl_answer_lnk_silentEntries (o : VendOutcome) (l : List Selection) : ∀ s : State,
    (l.foldl (fun t r => answerPanel r o 0 t) s).lnk.silentEntries = s.lnk.silentEntries := by
  induction l with
  | nil => intro s; rfl
  | cons r l ih => intro s; rw [List.foldl_cons, ih]; simp
@[simp] theorem emptyQueue_lnk_silentEntries (o : VendOutcome) (s : State) : (emptyQueue o s).lnk.silentEntries = s.lnk.silentEntries := by
  unfold emptyQueue; simp [foldl_answer_lnk_silentEntries]
@[simp] theorem dropQueue_pending (s : State) : (dropQueue s).pending = s.pending := by
  unfold dropQueue; try dsimp only
  (repeat' split) <;> simp
@[simp] theorem dropQueue_due (s : State) : (dropQueue s).due = s.due := by
  unfold dropQueue; try dsimp only
  (repeat' split) <;> simp
@[simp] theorem dropQueue_phase (s : State) : (dropQueue s).phase = s.phase := by
  unfold dropQueue; try dsimp only
  (repeat' split) <;> simp
@[simp] theorem dropQueue_inputs (s : State) : (dropQueue s).inputs = s.inputs := by
  unfold dropQueue; try dsimp only
  (repeat' split) <;> simp
@[simp] theorem dropQueue_outputs (s : State) : (dropQueue s).outputs = s.outputs := by
  unfold dropQueue; try dsimp only
  (repeat' split) <;> simp
@[simp] theorem dropQueue_params (s : State) : (dropQueue s).params = s.params := by
  unfold dropQueue; try dsimp only
  (repeat' split) <;> simp
@[simp] theorem dropQueue_cnu (s : State) : (dropQueue s).cnu = s.cnu := by
  unfold dropQueue; try dsimp only
  (repeat' split) <;> simp
@[simp] theorem dropQueue_cru (s : State) : (dropQueue s).cru = s.cru := by
  unfold dropQueue; try dsimp only
  (repeat' split) <;> simp
@[simp] theorem dropQueue_cca (s : State) : (dropQueue s).cca = s.cca := by
  unfold dropQueue; try dsimp only
  (repeat' split) <;> simp
@[simp] theorem dropQueue_mxd (s : State) : (dropQueue s).mxd = s.mxd := by
  unfold dropQueue; try dsimp only
  (repeat' split) <;> simp
@[simp] theorem dropQueue_rfc (s : State) : (dropQueue s).rfc = s.rfc := by
  unfold dropQueue; try dsimp only
  (repeat' split) <;> simp
@[simp] theorem dropQueue_lbu (s : State) : (dropQueue s).lbu = s.lbu := by
  unfold dropQueue; try dsimp only
  (repeat' split) <;> simp
@[simp] theorem dropQueue_lnk (s : State) : (dropQueue s).lnk = s.lnk := by
  unfold dropQueue; try dsimp only
  (repeat' split) <;> simp
@[simp] theorem dropQueue_ssu (s : State) : (dropQueue s).ssu = s.ssu := by
  unfold dropQueue; try dsimp only
  (repeat' split) <;> simp
@[simp] theorem dropQueue_vsq_state (s : State) : (dropQueue s).vsq.state = s.vsq.state := by
  unfold dropQueue; try dsimp only
  (repeat' split) <;> simp
@[simp] theorem dropQueue_vsq_vend (s : State) : (dropQueue s).vsq.vend = s.vsq.vend := by
  unfold dropQueue; try dsimp only
  (repeat' split) <;> simp
@[simp] theorem dropQueue_vsq_test (s : State) : (dropQueue s).vsq.test = s.vsq.test := by
  unfold dropQueue; try dsimp only
  (repeat' split) <;> simp
@[simp] theorem dropQueue_vsq_tagCounter (s : State) : (dropQueue s).vsq.tagCounter = s.vsq.tagCounter := by
  unfold dropQueue; try dsimp only
  (repeat' split) <;> simp
@[simp] theorem dropQueue_vsq_slots (s : State) : (dropQueue s).vsq.slots = s.vsq.slots := by
  unfold dropQueue; try dsimp only
  (repeat' split) <;> simp
@[simp] theorem takeTag_pending (s : State) : (takeTag s).pending = s.pending := by
  unfold takeTag; try dsimp only
  (repeat' split) <;> simp
@[simp] theorem takeTag_due (s : State) : (takeTag s).due = s.due := by
  unfold takeTag; try dsimp only
  (repeat' split) <;> simp
@[simp] theorem takeTag_phase (s : State) : (takeTag s).phase = s.phase := by
  unfold takeTag; try dsimp only
  (repeat' split) <;> simp
@[simp] theorem takeTag_inputs (s : State) : (takeTag s).inputs = s.inputs := by
  unfold takeTag; try dsimp only
  (repeat' split) <;> simp
@[simp] theorem takeTag_outputs (s : State) : (takeTag s).outputs = s.outputs := by
  unfold takeTag; try dsimp only
  (repeat' split) <;> simp
@[simp] theorem takeTag_params (s : State) : (takeTag s).params = s.params := by
  unfold takeTag; try dsimp only
  (repeat' split) <;> simp
@[simp] theorem takeTag_cnu (s : State) : (takeTag s).cnu = s.cnu := by
  unfold takeTag; try dsimp only
  (repeat' split) <;> simp
@[simp] theorem takeTag_cru (s : State) : (takeTag s).cru = s.cru := by
  unfold takeTag; try dsimp only
  (repeat' split) <;> simp
@[simp] theorem takeTag_cca (s : State) : (takeTag s).cca = s.cca := by
  unfold takeTag; try dsimp only
  (repeat' split) <;> simp
@[simp] theorem takeTag_mxd (s : State) : (takeTag s).mxd = s.mxd := by
  unfold takeTag; try dsimp only
  (repeat' split) <;> simp
@[simp] theorem takeTag_rfc (s : State) : (takeTag s).rfc = s.rfc := by
  unfold takeTag; try dsimp only
  (repeat' split) <;> simp
@[simp] theorem takeTag_lbu (s : State) : (takeTag s).lbu = s.lbu := by
  unfold takeTag; try dsimp only
  (repeat' split) <;> simp
@[simp] theorem takeTag_lnk (s : State) : (takeTag s).lnk = s.lnk := by
  unfold takeTag; try dsimp only
  (repeat' split) <;> simp
@[simp] theorem takeTag_ssu (s : State) : (takeTag s).ssu = s.ssu := by
  unfold takeTag; try dsimp only
  (repeat' split) <;> simp
@[simp] theorem takeTag_vsq_state (s : State) : (takeTag s).vsq.state = s.vsq.state := by
  unfold takeTag; try dsimp only
  (repeat' split) <;> simp
@[simp] theorem takeTag_vsq_vend (s : State) : (takeTag s).vsq.vend = s.vsq.vend := by
  unfold takeTag; try dsimp only
  (repeat' split) <;> simp
@[simp] theorem takeTag_vsq_test (s : State) : (takeTag s).vsq.test = s.vsq.test := by
  unfold takeTag; try dsimp only
  (repeat' split) <;> simp
@[simp] theorem takeTag_vsq_queue (s : State) : (takeTag s).vsq.queue = s.vsq.queue := by
  unfold takeTag; try dsimp only
  (repeat' split) <;> simp
@[simp] theorem takeTag_vsq_slots (s : State) : (takeTag s).vsq.slots = s.vsq.slots := by
  unfold takeTag; try dsimp only
  (repeat' split) <;> simp
@[simp] theorem countVend_pending (n : Nat) (s : State) : (countVend n s).pending = s.pending := by
  unfold countVend; try dsimp only
  (repeat' split) <;> simp
@[simp] theorem countVend_due (n : Nat) (s : State) : (countVend n s).due = s.due := by
  unfold countVend; try dsimp only
  (repeat' split) <;> simp
@[simp] theorem countVend_phase (n : Nat) (s : State) : (countVend n s).phase = s.phase := by
  unfold countVend; try dsimp only
  (repeat' split) <;> simp
@[simp] theorem countVend_inputs (n : Nat) (s : State) : (countVend n s).inputs = s.inputs := by
  unfold countVend; try dsimp only
  (repeat' split) <;> simp
@[simp] theorem countVend_outputs (n : Nat) (s : State) : (countVend n s).outputs = s.outputs := by
  unfold countVend; try dsimp only
  (repeat' split) <;> simp
@[simp] theorem countVend_params (n : Nat) (s : State) : (countVend n s).params = s.params := by
  unfold countVend; try dsimp only
  (repeat' split) <;> simp
@[simp] theorem countVend_cnu (n : Nat) (s : State) : (countVend n s).cnu = s.cnu := by
  unfold countVend; try dsimp only
  (repeat' split) <;> simp
@[simp] theorem countVend_cru (n : Nat) (s : State) : (countVend n s).cru = s.cru := by
  unfold countVend; try dsimp only
  (repeat' split) <;> simp
@[simp] theorem countVend_cca (n : Nat) (s : State) : (countVend n s).cca = s.cca := by
  unfold countVend; try dsimp only
  (repeat' split) <;> simp
@[simp] theorem countVend_vsq (n : Nat) (s : State) : (countVend n s).vsq = s.vsq := by
  unfold countVend; try dsimp only
  (repeat' split) <;> simp
@[simp] theorem countVend_mxd (n : Nat) (s : State) : (countVend n s).mxd = s.mxd := by
  unfold countVend; try dsimp only
  (repeat' split) <;> simp
@[simp] theorem countVend_rfc (n : Nat) (s : State) : (countVend n s).rfc = s.rfc := by
  unfold countVend; try dsimp only
  (repeat' split) <;> simp
@[simp] theorem countVend_lbu (n : Nat) (s : State) : (countVend n s).lbu = s.lbu := by
  unfold countVend; try dsimp only
  (repeat' split) <;> simp
@[simp] theorem countVend_lnk (n : Nat) (s : State) : (countVend n s).lnk = s.lnk := by
  unfold countVend; try dsimp only
  (repeat' split) <;> simp
@[simp] theorem countVend_ssu_own (n : Nat) (s : State) : (countVend n s).ssu.own = s.ssu.own := by
  unfold countVend; try dsimp only
  (repeat' split) <;> simp
@[simp] theorem countVend_ssu_cause (n : Nat) (s : State) : (countVend n s).ssu.cause = s.ssu.cause := by
  unfold countVend; try dsimp only
  (repeat' split) <;> simp
@[simp] theorem countVend_ssu_imageStatus (n : Nat) (s : State) : (countVend n s).ssu.imageStatus = s.ssu.imageStatus := by
  unfold countVend; try dsimp only
  (repeat' split) <;> simp
@[simp] theorem countVend_ssu_auditGood (n : Nat) (s : State) : (countVend n s).ssu.auditGood = s.ssu.auditGood := by
  unfold countVend; try dsimp only
  (repeat' split) <;> simp
@[simp] theorem countVend_ssu_snapshot (n : Nat) (s : State) : (countVend n s).ssu.snapshot = s.ssu.snapshot := by
  unfold countVend; try dsimp only
  (repeat' split) <;> simp
@[simp] theorem countVend_ssu_saveOwed (n : Nat) (s : State) : (countVend n s).ssu.saveOwed = s.ssu.saveOwed := by
  unfold countVend; try dsimp only
  (repeat' split) <;> simp
@[simp] theorem countVend_ssu_lastSave (n : Nat) (s : State) : (countVend n s).ssu.lastSave = s.ssu.lastSave := by
  unfold countVend; try dsimp only
  (repeat' split) <;> simp
@[simp] theorem countVend_ssu_auditArea (n : Nat) (s : State) : (countVend n s).ssu.auditArea = s.ssu.auditArea := by
  unfold countVend; try dsimp only
  (repeat' split) <;> simp
@[simp] theorem slotOutcome_pending (n : Nat) (o : VendOutcome) (s : State) : (slotOutcome n o s).pending = s.pending := by
  unfold slotOutcome; try dsimp only
  (repeat' split) <;> simp
@[simp] theorem slotOutcome_due (n : Nat) (o : VendOutcome) (s : State) : (slotOutcome n o s).due = s.due := by
  unfold slotOutcome; try dsimp only
  (repeat' split) <;> simp
@[simp] theorem slotOutcome_phase (n : Nat) (o : VendOutcome) (s : State) : (slotOutcome n o s).phase = s.phase := by
  unfold slotOutcome; try dsimp only
  (repeat' split) <;> simp
@[simp] theorem slotOutcome_inputs (n : Nat) (o : VendOutcome) (s : State) : (slotOutcome n o s).inputs = s.inputs := by
  unfold slotOutcome; try dsimp only
  (repeat' split) <;> simp
@[simp] theorem slotOutcome_outputs (n : Nat) (o : VendOutcome) (s : State) : (slotOutcome n o s).outputs = s.outputs := by
  unfold slotOutcome; try dsimp only
  (repeat' split) <;> simp
@[simp] theorem slotOutcome_params (n : Nat) (o : VendOutcome) (s : State) : (slotOutcome n o s).params = s.params := by
  unfold slotOutcome; try dsimp only
  (repeat' split) <;> simp
@[simp] theorem slotOutcome_cnu (n : Nat) (o : VendOutcome) (s : State) : (slotOutcome n o s).cnu = s.cnu := by
  unfold slotOutcome; try dsimp only
  (repeat' split) <;> simp
@[simp] theorem slotOutcome_cru (n : Nat) (o : VendOutcome) (s : State) : (slotOutcome n o s).cru = s.cru := by
  unfold slotOutcome; try dsimp only
  (repeat' split) <;> simp
@[simp] theorem slotOutcome_cca (n : Nat) (o : VendOutcome) (s : State) : (slotOutcome n o s).cca = s.cca := by
  unfold slotOutcome; try dsimp only
  (repeat' split) <;> simp
@[simp] theorem slotOutcome_mxd (n : Nat) (o : VendOutcome) (s : State) : (slotOutcome n o s).mxd = s.mxd := by
  unfold slotOutcome; try dsimp only
  (repeat' split) <;> simp
@[simp] theorem slotOutcome_rfc (n : Nat) (o : VendOutcome) (s : State) : (slotOutcome n o s).rfc = s.rfc := by
  unfold slotOutcome; try dsimp only
  (repeat' split) <;> simp
@[simp] theorem slotOutcome_lbu (n : Nat) (o : VendOutcome) (s : State) : (slotOutcome n o s).lbu = s.lbu := by
  unfold slotOutcome; try dsimp only
  (repeat' split) <;> simp
@[simp] theorem slotOutcome_lnk (n : Nat) (o : VendOutcome) (s : State) : (slotOutcome n o s).lnk = s.lnk := by
  unfold slotOutcome; try dsimp only
  (repeat' split) <;> simp
@[simp] theorem slotOutcome_vsq_state (n : Nat) (o : VendOutcome) (s : State) : (slotOutcome n o s).vsq.state = s.vsq.state := by
  unfold slotOutcome; try dsimp only
  (repeat' split) <;> simp
@[simp] theorem slotOutcome_vsq_vend (n : Nat) (o : VendOutcome) (s : State) : (slotOutcome n o s).vsq.vend = s.vsq.vend := by
  unfold slotOutcome; try dsimp only
  (repeat' split) <;> simp
@[simp] theorem slotOutcome_vsq_test (n : Nat) (o : VendOutcome) (s : State) : (slotOutcome n o s).vsq.test = s.vsq.test := by
  unfold slotOutcome; try dsimp only
  (repeat' split) <;> simp
@[simp] theorem slotOutcome_vsq_queue (n : Nat) (o : VendOutcome) (s : State) : (slotOutcome n o s).vsq.queue = s.vsq.queue := by
  unfold slotOutcome; try dsimp only
  (repeat' split) <;> simp
@[simp] theorem slotOutcome_vsq_tagCounter (n : Nat) (o : VendOutcome) (s : State) : (slotOutcome n o s).vsq.tagCounter = s.vsq.tagCounter := by
  unfold slotOutcome; try dsimp only
  (repeat' split) <;> simp
@[simp] theorem slotOutcome_ssu_own (n : Nat) (o : VendOutcome) (s : State) : (slotOutcome n o s).ssu.own = s.ssu.own := by
  unfold slotOutcome; try dsimp only
  (repeat' split) <;> simp
@[simp] theorem slotOutcome_ssu_cause (n : Nat) (o : VendOutcome) (s : State) : (slotOutcome n o s).ssu.cause = s.ssu.cause := by
  unfold slotOutcome; try dsimp only
  (repeat' split) <;> simp
@[simp] theorem slotOutcome_ssu_imageStatus (n : Nat) (o : VendOutcome) (s : State) : (slotOutcome n o s).ssu.imageStatus = s.ssu.imageStatus := by
  unfold slotOutcome; try dsimp only
  (repeat' split) <;> simp
@[simp] theorem slotOutcome_ssu_auditGood (n : Nat) (o : VendOutcome) (s : State) : (slotOutcome n o s).ssu.auditGood = s.ssu.auditGood := by
  unfold slotOutcome; try dsimp only
  (repeat' split) <;> simp
@[simp] theorem slotOutcome_ssu_snapshot (n : Nat) (o : VendOutcome) (s : State) : (slotOutcome n o s).ssu.snapshot = s.ssu.snapshot := by
  unfold slotOutcome; try dsimp only
  (repeat' split) <;> simp
@[simp] theorem slotOutcome_ssu_saveOwed (n : Nat) (o : VendOutcome) (s : State) : (slotOutcome n o s).ssu.saveOwed = s.ssu.saveOwed := by
  unfold slotOutcome; try dsimp only
  (repeat' split) <;> simp
@[simp] theorem slotOutcome_ssu_lastSave (n : Nat) (o : VendOutcome) (s : State) : (slotOutcome n o s).ssu.lastSave = s.ssu.lastSave := by
  unfold slotOutcome; try dsimp only
  (repeat' split) <;> simp
@[simp] theorem slotOutcome_ssu_auditArea (n : Nat) (o : VendOutcome) (s : State) : (slotOutcome n o s).ssu.auditArea = s.ssu.auditArea := by
  unfold slotOutcome; try dsimp only
  (repeat' split) <;> simp
@[simp] theorem countUnpaid_pending (r : SettleResult) (a : Option SettleOutcome) (s : State) : (countUnpaid r a s).pending = s.pending := by
  unfold countUnpaid; try dsimp only
  (repeat' split) <;> simp
@[simp] theorem countUnpaid_due (r : SettleResult) (a : Option SettleOutcome) (s : State) : (countUnpaid r a s).due = s.due := by
  unfold countUnpaid; try dsimp only
  (repeat' split) <;> simp
@[simp] theorem countUnpaid_phase (r : SettleResult) (a : Option SettleOutcome) (s : State) : (countUnpaid r a s).phase = s.phase := by
  unfold countUnpaid; try dsimp only
  (repeat' split) <;> simp
@[simp] theorem countUnpaid_inputs (r : SettleResult) (a : Option SettleOutcome) (s : State) : (countUnpaid r a s).inputs = s.inputs := by
  unfold countUnpaid; try dsimp only
  (repeat' split) <;> simp
@[simp] theorem countUnpaid_outputs (r : SettleResult) (a : Option SettleOutcome) (s : State) : (countUnpaid r a s).outputs = s.outputs := by
  unfold countUnpaid; try dsimp only
  (repeat' split) <;> simp
@[simp] theorem countUnpaid_params (r : SettleResult) (a : Option SettleOutcome) (s : State) : (countUnpaid r a s).params = s.params := by
  unfold countUnpaid; try dsimp only
  (repeat' split) <;> simp
@[simp] theorem countUnpaid_cnu (r : SettleResult) (a : Option SettleOutcome) (s : State) : (countUnpaid r a s).cnu = s.cnu := by
  unfold countUnpaid; try dsimp only
  (repeat' split) <;> simp
@[simp] theorem countUnpaid_cru (r : SettleResult) (a : Option SettleOutcome) (s : State) : (countUnpaid r a s).cru = s.cru := by
  unfold countUnpaid; try dsimp only
  (repeat' split) <;> simp
@[simp] theorem countUnpaid_cca (r : SettleResult) (a : Option SettleOutcome) (s : State) : (countUnpaid r a s).cca = s.cca := by
  unfold countUnpaid; try dsimp only
  (repeat' split) <;> simp
@[simp] theorem countUnpaid_vsq (r : SettleResult) (a : Option SettleOutcome) (s : State) : (countUnpaid r a s).vsq = s.vsq := by
  unfold countUnpaid; try dsimp only
  (repeat' split) <;> simp
@[simp] theorem countUnpaid_mxd (r : SettleResult) (a : Option SettleOutcome) (s : State) : (countUnpaid r a s).mxd = s.mxd := by
  unfold countUnpaid; try dsimp only
  (repeat' split) <;> simp
@[simp] theorem countUnpaid_rfc (r : SettleResult) (a : Option SettleOutcome) (s : State) : (countUnpaid r a s).rfc = s.rfc := by
  unfold countUnpaid; try dsimp only
  (repeat' split) <;> simp
@[simp] theorem countUnpaid_lbu (r : SettleResult) (a : Option SettleOutcome) (s : State) : (countUnpaid r a s).lbu = s.lbu := by
  unfold countUnpaid; try dsimp only
  (repeat' split) <;> simp
@[simp] theorem countUnpaid_lnk (r : SettleResult) (a : Option SettleOutcome) (s : State) : (countUnpaid r a s).lnk = s.lnk := by
  unfold countUnpaid; try dsimp only
  (repeat' split) <;> simp
@[simp] theorem countUnpaid_ssu_own (r : SettleResult) (a : Option SettleOutcome) (s : State) : (countUnpaid r a s).ssu.own = s.ssu.own := by
  unfold countUnpaid; try dsimp only
  (repeat' split) <;> simp
@[simp] theorem countUnpaid_ssu_cause (r : SettleResult) (a : Option SettleOutcome) (s : State) : (countUnpaid r a s).ssu.cause = s.ssu.cause := by
  unfold countUnpaid; try dsimp only
  (repeat' split) <;> simp
@[simp] theorem countUnpaid_ssu_imageStatus (r : SettleResult) (a : Option SettleOutcome) (s : State) : (countUnpaid r a s).ssu.imageStatus = s.ssu.imageStatus := by
  unfold countUnpaid; try dsimp only
  (repeat' split) <;> simp
@[simp] theorem countUnpaid_ssu_auditGood (r : SettleResult) (a : Option SettleOutcome) (s : State) : (countUnpaid r a s).ssu.auditGood = s.ssu.auditGood := by
  unfold countUnpaid; try dsimp only
  (repeat' split) <;> simp
@[simp] theorem countUnpaid_ssu_snapshot (r : SettleResult) (a : Option SettleOutcome) (s : State) : (countUnpaid r a s).ssu.snapshot = s.ssu.snapshot := by
  unfold countUnpaid; try dsimp only
  (repeat' split) <;> simp
@[simp] theorem countUnpaid_ssu_saveOwed (r : SettleResult) (a : Option SettleOutcome) (s : State) : (countUnpaid r a s).ssu.saveOwed = s.ssu.saveOwed := by
  unfold countUnpaid; try dsimp only
  (repeat' split) <;> simp
@[simp] theorem countUnpaid_ssu_lastSave (r : SettleResult) (a : Option SettleOutcome) (s : State) : (countUnpaid r a s).ssu.lastSave = s.ssu.lastSave := by
  unfold countUnpaid; try dsimp only
  (repeat' split) <;> simp
@[simp] theorem countUnpaid_ssu_auditArea (r : SettleResult) (a : Option SettleOutcome) (s : State) : (countUnpaid r a s).ssu.auditArea = s.ssu.auditArea := by
  unfold countUnpaid; try dsimp only
  (repeat' split) <;> simp
@[simp] theorem settlementOver_pending (s : State) : (settlementOver s).pending = s.pending := by
  unfold settlementOver; try dsimp only
  (repeat' split) <;> simp
@[simp] theorem settlementOver_due (s : State) : (settlementOver s).due = s.due := by
  unfold settlementOver; try dsimp only
  (repeat' split) <;> simp
@[simp] theorem settlementOver_phase (s : State) : (settlementOver s).phase = s.phase := by
  unfold settlementOver; try dsimp only
  (repeat' split) <;> simp
@[simp] theorem settlementOver_inputs (s : State) : (settlementOver s).inputs = s.inputs := by
  unfold settlementOver; try dsimp only
  (repeat' split) <;> simp
@[simp] theorem settlementOver_outputs (s : State) : (settlementOver s).outputs = s.outputs := by
  unfold settlementOver; try dsimp only
  (repeat' split) <;> simp
@[simp] theorem settlementOver_params (s : State) : (settlementOver s).params = s.params := by
  unfold settlementOver; try dsimp only
  (repeat' split) <;> simp
@[simp] theorem settlementOver_cnu (s : State) : (settlementOver s).cnu = s.cnu := by
  unfold settlementOver; try dsimp only
  (repeat' split) <;> simp
@[simp] theorem settlementOver_cru (s : State) : (settlementOver s).cru = s.cru := by
  unfold settlementOver; try dsimp only
  (repeat' split) <;> simp
@[simp] theorem settlementOver_cca (s : State) : (settlementOver s).cca = s.cca := by
  unfold settlementOver; try dsimp only
  (repeat' split) <;> simp
@[simp] theorem settlementOver_mxd (s : State) : (settlementOver s).mxd = s.mxd := by
  unfold settlementOver; try dsimp only
  (repeat' split) <;> simp
@[simp] theorem settlementOver_rfc (s : State) : (settlementOver s).rfc = s.rfc := by
  unfold settlementOver; try dsimp only
  (repeat' split) <;> simp
@[simp] theorem settlementOver_lbu (s : State) : (settlementOver s).lbu = s.lbu := by
  unfold settlementOver; try dsimp only
  (repeat' split) <;> simp
@[simp] theorem settlementOver_lnk (s : State) : (settlementOver s).lnk = s.lnk := by
  unfold settlementOver; try dsimp only
  (repeat' split) <;> simp
@[simp] theorem settlementOver_ssu (s : State) : (settlementOver s).ssu = s.ssu := by
  unfold settlementOver; try dsimp only
  (repeat' split) <;> simp
@[simp] theorem settlementOver_vsq_state (s : State) : (settlementOver s).vsq.state = s.vsq.state := by
  unfold settlementOver; try dsimp only
  (repeat' split) <;> simp
@[simp] theorem settlementOver_vsq_test (s : State) : (settlementOver s).vsq.test = s.vsq.test := by
  unfold settlementOver; try dsimp only
  (repeat' split) <;> simp
@[simp] theorem settlementOver_vsq_queue (s : State) : (settlementOver s).vsq.queue = s.vsq.queue := by
  unfold settlementOver; try dsimp only
  (repeat' split) <;> simp
@[simp] theorem settlementOver_vsq_tagCounter (s : State) : (settlementOver s).vsq.tagCounter = s.vsq.tagCounter := by
  unfold settlementOver; try dsimp only
  (repeat' split) <;> simp
@[simp] theorem settlementOver_vsq_slots (s : State) : (settlementOver s).vsq.slots = s.vsq.slots := by
  unfold settlementOver; try dsimp only
  (repeat' split) <;> simp
@[simp] theorem sendSettle_pending (v : Vend) (t n : Byte) (r : SettleResult) (k : Nat) (s : State) : (sendSettle v t n r k s).pending = s.pending := by
  unfold sendSettle; try dsimp only
  (repeat' split) <;> simp
@[simp] theorem sendSettle_due (v : Vend) (t n : Byte) (r : SettleResult) (k : Nat) (s : State) : (sendSettle v t n r k s).due = s.due := by
  unfold sendSettle; try dsimp only
  (repeat' split) <;> simp
@[simp] theorem sendSettle_phase (v : Vend) (t n : Byte) (r : SettleResult) (k : Nat) (s : State) : (sendSettle v t n r k s).phase = s.phase := by
  unfold sendSettle; try dsimp only
  (repeat' split) <;> simp
@[simp] theorem sendSettle_inputs (v : Vend) (t n : Byte) (r : SettleResult) (k : Nat) (s : State) : (sendSettle v t n r k s).inputs = s.inputs := by
  unfold sendSettle; try dsimp only
  (repeat' split) <;> simp
@[simp] theorem sendSettle_outputs (v : Vend) (t n : Byte) (r : SettleResult) (k : Nat) (s : State) : (sendSettle v t n r k s).outputs = s.outputs := by
  unfold sendSettle; try dsimp only
  (repeat' split) <;> simp
@[simp] theorem sendSettle_params (v : Vend) (t n : Byte) (r : SettleResult) (k : Nat) (s : State) : (sendSettle v t n r k s).params = s.params := by
  unfold sendSettle; try dsimp only
  (repeat' split) <;> simp
@[simp] theorem sendSettle_cnu (v : Vend) (t n : Byte) (r : SettleResult) (k : Nat) (s : State) : (sendSettle v t n r k s).cnu = s.cnu := by
  unfold sendSettle; try dsimp only
  (repeat' split) <;> simp
@[simp] theorem sendSettle_cru (v : Vend) (t n : Byte) (r : SettleResult) (k : Nat) (s : State) : (sendSettle v t n r k s).cru = s.cru := by
  unfold sendSettle; try dsimp only
  (repeat' split) <;> simp
@[simp] theorem sendSettle_cca (v : Vend) (t n : Byte) (r : SettleResult) (k : Nat) (s : State) : (sendSettle v t n r k s).cca = s.cca := by
  unfold sendSettle; try dsimp only
  (repeat' split) <;> simp
@[simp] theorem sendSettle_mxd (v : Vend) (t n : Byte) (r : SettleResult) (k : Nat) (s : State) : (sendSettle v t n r k s).mxd = s.mxd := by
  unfold sendSettle; try dsimp only
  (repeat' split) <;> simp
@[simp] theorem sendSettle_rfc (v : Vend) (t n : Byte) (r : SettleResult) (k : Nat) (s : State) : (sendSettle v t n r k s).rfc = s.rfc := by
  unfold sendSettle; try dsimp only
  (repeat' split) <;> simp
@[simp] theorem sendSettle_lbu (v : Vend) (t n : Byte) (r : SettleResult) (k : Nat) (s : State) : (sendSettle v t n r k s).lbu = s.lbu := by
  unfold sendSettle; try dsimp only
  (repeat' split) <;> simp
@[simp] theorem sendSettle_ssu (v : Vend) (t n : Byte) (r : SettleResult) (k : Nat) (s : State) : (sendSettle v t n r k s).ssu = s.ssu := by
  unfold sendSettle; try dsimp only
  (repeat' split) <;> simp
@[simp] theorem sendSettle_vsq_state (v : Vend) (t n : Byte) (r : SettleResult) (k : Nat) (s : State) : (sendSettle v t n r k s).vsq.state = s.vsq.state := by
  unfold sendSettle; try dsimp only
  (repeat' split) <;> simp
@[simp] theorem sendSettle_vsq_test (v : Vend) (t n : Byte) (r : SettleResult) (k : Nat) (s : State) : (sendSettle v t n r k s).vsq.test = s.vsq.test := by
  unfold sendSettle; try dsimp only
  (repeat' split) <;> simp
@[simp] theorem sendSettle_vsq_queue (v : Vend) (t n : Byte) (r : SettleResult) (k : Nat) (s : State) : (sendSettle v t n r k s).vsq.queue = s.vsq.queue := by
  unfold sendSettle; try dsimp only
  (repeat' split) <;> simp
@[simp] theorem sendSettle_vsq_tagCounter (v : Vend) (t n : Byte) (r : SettleResult) (k : Nat) (s : State) : (sendSettle v t n r k s).vsq.tagCounter = s.vsq.tagCounter := by
  unfold sendSettle; try dsimp only
  (repeat' split) <;> simp
@[simp] theorem sendSettle_vsq_slots (v : Vend) (t n : Byte) (r : SettleResult) (k : Nat) (s : State) : (sendSettle v t n r k s).vsq.slots = s.vsq.slots := by
  unfold sendSettle; try dsimp only
  (repeat' split) <;> simp
@[simp] theorem sendSettle_lnk_state (v : Vend) (t n : Byte) (r : SettleResult) (k : Nat) (s : State) : (sendSettle v t n r k s).lnk.state = s.lnk.state := by
  unfold sendSettle; try dsimp only
  (repeat' split) <;> simp
@[simp] theorem sendSettle_lnk_heard (v : Vend) (t n : Byte) (r : SettleResult) (k : Nat) (s : State) : (sendSettle v t n r k s).lnk.heard = s.lnk.heard := by
  unfold sendSettle; try dsimp only
  (repeat' split) <;> simp
@[simp] theorem sendSettle_lnk_acknowledged (v : Vend) (t n : Byte) (r : SettleResult) (k : Nat) (s : State) : (sendSettle v t n r k s).lnk.acknowledged = s.lnk.acknowledged := by
  unfold sendSettle; try dsimp only
  (repeat' split) <;> simp
@[simp] theorem sendSettle_lnk_isolationTimer (v : Vend) (t n : Byte) (r : SettleResult) (k : Nat) (s : State) : (sendSettle v t n r k s).lnk.isolationTimer = s.lnk.isolationTimer := by
  unfold sendSettle; try dsimp only
  (repeat' split) <;> simp
@[simp] theorem sendSettle_lnk_change (v : Vend) (t n : Byte) (r : SettleResult) (k : Nat) (s : State) : (sendSettle v t n r k s).lnk.change = s.lnk.change := by
  unfold sendSettle; try dsimp only
  (repeat' split) <;> simp
@[simp] theorem sendSettle_lnk_periodTimer (v : Vend) (t n : Byte) (r : SettleResult) (k : Nat) (s : State) : (sendSettle v t n r k s).lnk.periodTimer = s.lnk.periodTimer := by
  unfold sendSettle; try dsimp only
  (repeat' split) <;> simp
@[simp] theorem sendSettle_lnk_silentTimer (v : Vend) (t n : Byte) (r : SettleResult) (k : Nat) (s : State) : (sendSettle v t n r k s).lnk.silentTimer = s.lnk.silentTimer := by
  unfold sendSettle; try dsimp only
  (repeat' split) <;> simp
@[simp] theorem sendSettle_lnk_failures (v : Vend) (t n : Byte) (r : SettleResult) (k : Nat) (s : State) : (sendSettle v t n r k s).lnk.failures = s.lnk.failures := by
  unfold sendSettle; try dsimp only
  (repeat' split) <;> simp
@[simp] theorem sendSettle_lnk_unknownFrames (v : Vend) (t n : Byte) (r : SettleResult) (k : Nat) (s : State) : (sendSettle v t n r k s).lnk.unknownFrames = s.lnk.unknownFrames := by
  unfold sendSettle; try dsimp only
  (repeat' split) <;> simp
@[simp] theorem sendSettle_lnk_droppedFrames (v : Vend) (t n : Byte) (r : SettleResult) (k : Nat) (s : State) : (sendSettle v t n r k s).lnk.droppedFrames = s.lnk.droppedFrames := by
  unfold sendSettle; try dsimp only
  (repeat' split) <;> simp
@[simp] theorem sendSettle_lnk_silentEntries (v : Vend) (t n : Byte) (r : SettleResult) (k : Nat) (s : State) : (sendSettle v t n r k s).lnk.silentEntries = s.lnk.silentEntries := by
  unfold sendSettle; try dsimp only
  (repeat' split) <;> simp
@[simp] theorem settleAtHome_pending (g : Grant) (r : SettleResult) (s : State) : (settleAtHome g r s).pending = s.pending := by
  unfold settleAtHome; try dsimp only
  (repeat' split) <;> simp
@[simp] theorem settleAtHome_due (g : Grant) (r : SettleResult) (s : State) : (settleAtHome g r s).due = s.due := by
  unfold settleAtHome; try dsimp only
  (repeat' split) <;> simp
@[simp] theorem settleAtHome_phase (g : Grant) (r : SettleResult) (s : State) : (settleAtHome g r s).phase = s.phase := by
  unfold settleAtHome; try dsimp only
  (repeat' split) <;> simp
@[simp] theorem settleAtHome_inputs (g : Grant) (r : SettleResult) (s : State) : (settleAtHome g r s).inputs = s.inputs := by
  unfold settleAtHome; try dsimp only
  (repeat' split) <;> simp
@[simp] theorem settleAtHome_outputs (g : Grant) (r : SettleResult) (s : State) : (settleAtHome g r s).outputs = s.outputs := by
  unfold settleAtHome; try dsimp only
  (repeat' split) <;> simp
@[simp] theorem settleAtHome_params (g : Grant) (r : SettleResult) (s : State) : (settleAtHome g r s).params = s.params := by
  unfold settleAtHome; try dsimp only
  (repeat' split) <;> simp
@[simp] theorem settleAtHome_cnu (g : Grant) (r : SettleResult) (s : State) : (settleAtHome g r s).cnu = s.cnu := by
  unfold settleAtHome; try dsimp only
  (repeat' split) <;> simp
@[simp] theorem settleAtHome_cca (g : Grant) (r : SettleResult) (s : State) : (settleAtHome g r s).cca = s.cca := by
  unfold settleAtHome; try dsimp only
  (repeat' split) <;> simp
@[simp] theorem settleAtHome_mxd (g : Grant) (r : SettleResult) (s : State) : (settleAtHome g r s).mxd = s.mxd := by
  unfold settleAtHome; try dsimp only
  (repeat' split) <;> simp
@[simp] theorem settleAtHome_rfc (g : Grant) (r : SettleResult) (s : State) : (settleAtHome g r s).rfc = s.rfc := by
  unfold settleAtHome; try dsimp only
  (repeat' split) <;> simp
@[simp] theorem settleAtHome_lbu (g : Grant) (r : SettleResult) (s : State) : (settleAtHome g r s).lbu = s.lbu := by
  unfold settleAtHome; try dsimp only
  (repeat' split) <;> simp
@[simp] theorem settleAtHome_cru_probeShort (g : Grant) (r : SettleResult) (s : State) : (settleAtHome g r s).cru.probeShort = s.cru.probeShort := by
  unfold settleAtHome; try dsimp only
  (repeat' split) <;> simp
@[simp] theorem settleAtHome_cru_strayExits (g : Grant) (r : SettleResult) (s : State) : (settleAtHome g r s).cru.strayExits = s.cru.strayExits := by
  unfold settleAtHome; try dsimp only
  (repeat' split) <;> simp
@[simp] theorem settleAtHome_vsq_state (g : Grant) (r : SettleResult) (s : State) : (settleAtHome g r s).vsq.state = s.vsq.state := by
  unfold settleAtHome; try dsimp only
  (repeat' split) <;> simp
@[simp] theorem settleAtHome_vsq_test (g : Grant) (r : SettleResult) (s : State) : (settleAtHome g r s).vsq.test = s.vsq.test := by
  unfold settleAtHome; try dsimp only
  (repeat' split) <;> simp
@[simp] theorem settleAtHome_vsq_queue (g : Grant) (r : SettleResult) (s : State) : (settleAtHome g r s).vsq.queue = s.vsq.queue := by
  unfold settleAtHome; try dsimp only
  (repeat' split) <;> simp
@[simp] theorem settleAtHome_vsq_tagCounter (g : Grant) (r : SettleResult) (s : State) : (settleAtHome g r s).vsq.tagCounter = s.vsq.tagCounter := by
  unfold settleAtHome; try dsimp only
  (repeat' split) <;> simp
@[simp] theorem settleAtHome_vsq_slots (g : Grant) (r : SettleResult) (s : State) : (settleAtHome g r s).vsq.slots = s.vsq.slots := by
  unfold settleAtHome; try dsimp only
  (repeat' split) <;> simp
@[simp] theorem settleAtHome_lnk_state (g : Grant) (r : SettleResult) (s : State) : (settleAtHome g r s).lnk.state = s.lnk.state := by
  unfold settleAtHome; try dsimp only
  (repeat' split) <;> simp
@[simp] theorem settleAtHome_lnk_heard (g : Grant) (r : SettleResult) (s : State) : (settleAtHome g r s).lnk.heard = s.lnk.heard := by
  unfold settleAtHome; try dsimp only
  (repeat' split) <;> simp
@[simp] theorem settleAtHome_lnk_acknowledged (g : Grant) (r : SettleResult) (s : State) : (settleAtHome g r s).lnk.acknowledged = s.lnk.acknowledged := by
  unfold settleAtHome; try dsimp only
  (repeat' split) <;> simp
@[simp] theorem settleAtHome_lnk_isolationTimer (g : Grant) (r : SettleResult) (s : State) : (settleAtHome g r s).lnk.isolationTimer = s.lnk.isolationTimer := by
  unfold settleAtHome; try dsimp only
  (repeat' split) <;> simp
@[simp] theorem settleAtHome_lnk_change (g : Grant) (r : SettleResult) (s : State) : (settleAtHome g r s).lnk.change = s.lnk.change := by
  unfold settleAtHome; try dsimp only
  (repeat' split) <;> simp
@[simp] theorem settleAtHome_lnk_silentTimer (g : Grant) (r : SettleResult) (s : State) : (settleAtHome g r s).lnk.silentTimer = s.lnk.silentTimer := by
  unfold settleAtHome; try dsimp only
  (repeat' split) <;> simp
@[simp] theorem settleAtHome_lnk_failures (g : Grant) (r : SettleResult) (s : State) : (settleAtHome g r s).lnk.failures = s.lnk.failures := by
  unfold settleAtHome; try dsimp only
  (repeat' split) <;> simp
@[simp] theorem settleAtHome_lnk_unknownFrames (g : Grant) (r : SettleResult) (s : State) : (settleAtHome g r s).lnk.unknownFrames = s.lnk.unknownFrames := by
  unfold settleAtHome; try dsimp only
  (repeat' split) <;> simp
@[simp] theorem settleAtHome_lnk_droppedFrames (g : Grant) (r : SettleResult) (s : State) : (settleAtHome g r s).lnk.droppedFrames = s.lnk.droppedFrames := by
  unfold settleAtHome; try dsimp only
  (repeat' split) <;> simp
@[simp] theorem settleAtHome_lnk_silentEntries (g : Grant) (r : SettleResult) (s : State) : (settleAtHome g r s).lnk.silentEntries = s.lnk.silentEntries := by
  unfold settleAtHome; try dsimp only
  (repeat' split) <;> simp
@[simp] theorem settleAtHome_ssu_own (g : Grant) (r : SettleResult) (s : State) : (settleAtHome g r s).ssu.own = s.ssu.own := by
  unfold settleAtHome; try dsimp only
  (repeat' split) <;> simp
@[simp] theorem settleAtHome_ssu_cause (g : Grant) (r : SettleResult) (s : State) : (settleAtHome g r s).ssu.cause = s.ssu.cause := by
  unfold settleAtHome; try dsimp only
  (repeat' split) <;> simp
@[simp] theorem settleAtHome_ssu_imageStatus (g : Grant) (r : SettleResult) (s : State) : (settleAtHome g r s).ssu.imageStatus = s.ssu.imageStatus := by
  unfold settleAtHome; try dsimp only
  (repeat' split) <;> simp
@[simp] theorem settleAtHome_ssu_auditGood (g : Grant) (r : SettleResult) (s : State) : (settleAtHome g r s).ssu.auditGood = s.ssu.auditGood := by
  unfold settleAtHome; try dsimp only
  (repeat' split) <;> simp
@[simp] theorem settleAtHome_ssu_snapshot (g : Grant) (r : SettleResult) (s : State) : (settleAtHome g r s).ssu.snapshot = s.ssu.snapshot := by
  unfold settleAtHome; try dsimp only
  (repeat' split) <;> simp
@[simp] theorem settleAtHome_ssu_saveOwed (g : Grant) (r : SettleResult) (s : State) : (settleAtHome g r s).ssu.saveOwed = s.ssu.saveOwed := by
  unfold settleAtHome; try dsimp only
  (repeat' split) <;> simp
@[simp] theorem settleAtHome_ssu_lastSave (g : Grant) (r : SettleResult) (s : State) : (settleAtHome g r s).ssu.lastSave = s.ssu.lastSave := by
  unfold settleAtHome; try dsimp only
  (repeat' split) <;> simp
@[simp] theorem settleAtHome_ssu_auditArea (g : Grant) (r : SettleResult) (s : State) : (settleAtHome g r s).ssu.auditArea = s.ssu.auditArea := by
  unfold settleAtHome; try dsimp only
  (repeat' split) <;> simp
@[simp] theorem settleVend_pending (v : Vend) (o : VendOutcome) (s : State) : (settleVend v o s).pending = s.pending := by
  unfold settleVend; try dsimp only
  (repeat' split) <;> simp
@[simp] theorem settleVend_due (v : Vend) (o : VendOutcome) (s : State) : (settleVend v o s).due = s.due := by
  unfold settleVend; try dsimp only
  (repeat' split) <;> simp
@[simp] theorem settleVend_phase (v : Vend) (o : VendOutcome) (s : State) : (settleVend v o s).phase = s.phase := by
  unfold settleVend; try dsimp only
  (repeat' split) <;> simp
@[simp] theorem settleVend_inputs (v : Vend) (o : VendOutcome) (s : State) : (settleVend v o s).inputs = s.inputs := by
  unfold settleVend; try dsimp only
  (repeat' split) <;> simp
@[simp] theorem settleVend_outputs (v : Vend) (o : VendOutcome) (s : State) : (settleVend v o s).outputs = s.outputs := by
  unfold settleVend; try dsimp only
  (repeat' split) <;> simp
@[simp] theorem settleVend_params (v : Vend) (o : VendOutcome) (s : State) : (settleVend v o s).params = s.params := by
  unfold settleVend; try dsimp only
  (repeat' split) <;> simp
@[simp] theorem settleVend_cnu (v : Vend) (o : VendOutcome) (s : State) : (settleVend v o s).cnu = s.cnu := by
  unfold settleVend; try dsimp only
  (repeat' split) <;> simp
@[simp] theorem settleVend_cca (v : Vend) (o : VendOutcome) (s : State) : (settleVend v o s).cca = s.cca := by
  unfold settleVend; try dsimp only
  (repeat' split) <;> simp
@[simp] theorem settleVend_mxd (v : Vend) (o : VendOutcome) (s : State) : (settleVend v o s).mxd = s.mxd := by
  unfold settleVend; try dsimp only
  (repeat' split) <;> simp
@[simp] theorem settleVend_rfc (v : Vend) (o : VendOutcome) (s : State) : (settleVend v o s).rfc = s.rfc := by
  unfold settleVend; try dsimp only
  (repeat' split) <;> simp
@[simp] theorem settleVend_lbu (v : Vend) (o : VendOutcome) (s : State) : (settleVend v o s).lbu = s.lbu := by
  unfold settleVend; try dsimp only
  (repeat' split) <;> simp
@[simp] theorem settleVend_cru_probeShort (v : Vend) (o : VendOutcome) (s : State) : (settleVend v o s).cru.probeShort = s.cru.probeShort := by
  unfold settleVend; try dsimp only
  (repeat' split) <;> simp
@[simp] theorem settleVend_cru_strayExits (v : Vend) (o : VendOutcome) (s : State) : (settleVend v o s).cru.strayExits = s.cru.strayExits := by
  unfold settleVend; try dsimp only
  (repeat' split) <;> simp
@[simp] theorem settleVend_vsq_state (v : Vend) (o : VendOutcome) (s : State) : (settleVend v o s).vsq.state = s.vsq.state := by
  unfold settleVend; try dsimp only
  (repeat' split) <;> simp
@[simp] theorem settleVend_vsq_test (v : Vend) (o : VendOutcome) (s : State) : (settleVend v o s).vsq.test = s.vsq.test := by
  unfold settleVend; try dsimp only
  (repeat' split) <;> simp
@[simp] theorem settleVend_vsq_queue (v : Vend) (o : VendOutcome) (s : State) : (settleVend v o s).vsq.queue = s.vsq.queue := by
  unfold settleVend; try dsimp only
  (repeat' split) <;> simp
@[simp] theorem settleVend_vsq_tagCounter (v : Vend) (o : VendOutcome) (s : State) : (settleVend v o s).vsq.tagCounter = s.vsq.tagCounter := by
  unfold settleVend; try dsimp only
  (repeat' split) <;> simp
@[simp] theorem settleVend_vsq_slots (v : Vend) (o : VendOutcome) (s : State) : (settleVend v o s).vsq.slots = s.vsq.slots := by
  unfold settleVend; try dsimp only
  (repeat' split) <;> simp
@[simp] theorem settleVend_lnk_state (v : Vend) (o : VendOutcome) (s : State) : (settleVend v o s).lnk.state = s.lnk.state := by
  unfold settleVend; try dsimp only
  (repeat' split) <;> simp
@[simp] theorem settleVend_lnk_heard (v : Vend) (o : VendOutcome) (s : State) : (settleVend v o s).lnk.heard = s.lnk.heard := by
  unfold settleVend; try dsimp only
  (repeat' split) <;> simp
@[simp] theorem settleVend_lnk_acknowledged (v : Vend) (o : VendOutcome) (s : State) : (settleVend v o s).lnk.acknowledged = s.lnk.acknowledged := by
  unfold settleVend; try dsimp only
  (repeat' split) <;> simp
@[simp] theorem settleVend_lnk_isolationTimer (v : Vend) (o : VendOutcome) (s : State) : (settleVend v o s).lnk.isolationTimer = s.lnk.isolationTimer := by
  unfold settleVend; try dsimp only
  (repeat' split) <;> simp
@[simp] theorem settleVend_lnk_change (v : Vend) (o : VendOutcome) (s : State) : (settleVend v o s).lnk.change = s.lnk.change := by
  unfold settleVend; try dsimp only
  (repeat' split) <;> simp
@[simp] theorem settleVend_lnk_silentTimer (v : Vend) (o : VendOutcome) (s : State) : (settleVend v o s).lnk.silentTimer = s.lnk.silentTimer := by
  unfold settleVend; try dsimp only
  (repeat' split) <;> simp
@[simp] theorem settleVend_lnk_failures (v : Vend) (o : VendOutcome) (s : State) : (settleVend v o s).lnk.failures = s.lnk.failures := by
  unfold settleVend; try dsimp only
  (repeat' split) <;> simp
@[simp] theorem settleVend_lnk_unknownFrames (v : Vend) (o : VendOutcome) (s : State) : (settleVend v o s).lnk.unknownFrames = s.lnk.unknownFrames := by
  unfold settleVend; try dsimp only
  (repeat' split) <;> simp
@[simp] theorem settleVend_lnk_droppedFrames (v : Vend) (o : VendOutcome) (s : State) : (settleVend v o s).lnk.droppedFrames = s.lnk.droppedFrames := by
  unfold settleVend; try dsimp only
  (repeat' split) <;> simp
@[simp] theorem settleVend_lnk_silentEntries (v : Vend) (o : VendOutcome) (s : State) : (settleVend v o s).lnk.silentEntries = s.lnk.silentEntries := by
  unfold settleVend; try dsimp only
  (repeat' split) <;> simp
@[simp] theorem settleVend_ssu_own (v : Vend) (o : VendOutcome) (s : State) : (settleVend v o s).ssu.own = s.ssu.own := by
  unfold settleVend; try dsimp only
  (repeat' split) <;> simp
@[simp] theorem settleVend_ssu_cause (v : Vend) (o : VendOutcome) (s : State) : (settleVend v o s).ssu.cause = s.ssu.cause := by
  unfold settleVend; try dsimp only
  (repeat' split) <;> simp
@[simp] theorem settleVend_ssu_imageStatus (v : Vend) (o : VendOutcome) (s : State) : (settleVend v o s).ssu.imageStatus = s.ssu.imageStatus := by
  unfold settleVend; try dsimp only
  (repeat' split) <;> simp
@[simp] theorem settleVend_ssu_auditGood (v : Vend) (o : VendOutcome) (s : State) : (settleVend v o s).ssu.auditGood = s.ssu.auditGood := by
  unfold settleVend; try dsimp only
  (repeat' split) <;> simp
@[simp] theorem settleVend_ssu_snapshot (v : Vend) (o : VendOutcome) (s : State) : (settleVend v o s).ssu.snapshot = s.ssu.snapshot := by
  unfold settleVend; try dsimp only
  (repeat' split) <;> simp
@[simp] theorem settleVend_ssu_saveOwed (v : Vend) (o : VendOutcome) (s : State) : (settleVend v o s).ssu.saveOwed = s.ssu.saveOwed := by
  unfold settleVend; try dsimp only
  (repeat' split) <;> simp
@[simp] theorem settleVend_ssu_lastSave (v : Vend) (o : VendOutcome) (s : State) : (settleVend v o s).ssu.lastSave = s.ssu.lastSave := by
  unfold settleVend; try dsimp only
  (repeat' split) <;> simp
@[simp] theorem settleVend_ssu_auditArea (v : Vend) (o : VendOutcome) (s : State) : (settleVend v o s).ssu.auditArea = s.ssu.auditArea := by
  unfold settleVend; try dsimp only
  (repeat' split) <;> simp
@[simp] theorem giveUpMotor_pending (s : State) : (giveUpMotor s).pending = s.pending := by
  unfold giveUpMotor; try dsimp only
  (repeat' split) <;> simp
@[simp] theorem giveUpMotor_due (s : State) : (giveUpMotor s).due = s.due := by
  unfold giveUpMotor; try dsimp only
  (repeat' split) <;> simp
@[simp] theorem giveUpMotor_phase (s : State) : (giveUpMotor s).phase = s.phase := by
  unfold giveUpMotor; try dsimp only
  (repeat' split) <;> simp
@[simp] theorem giveUpMotor_inputs (s : State) : (giveUpMotor s).inputs = s.inputs := by
  unfold giveUpMotor; try dsimp only
  (repeat' split) <;> simp
@[simp] theorem giveUpMotor_outputs (s : State) : (giveUpMotor s).outputs = s.outputs := by
  unfold giveUpMotor; try dsimp only
  (repeat' split) <;> simp
@[simp] theorem giveUpMotor_params (s : State) : (giveUpMotor s).params = s.params := by
  unfold giveUpMotor; try dsimp only
  (repeat' split) <;> simp
@[simp] theorem giveUpMotor_cnu (s : State) : (giveUpMotor s).cnu = s.cnu := by
  unfold giveUpMotor; try dsimp only
  (repeat' split) <;> simp
@[simp] theorem giveUpMotor_cru (s : State) : (giveUpMotor s).cru = s.cru := by
  unfold giveUpMotor; try dsimp only
  (repeat' split) <;> simp
@[simp] theorem giveUpMotor_cca (s : State) : (giveUpMotor s).cca = s.cca := by
  unfold giveUpMotor; try dsimp only
  (repeat' split) <;> simp
@[simp] theorem giveUpMotor_vsq (s : State) : (giveUpMotor s).vsq = s.vsq := by
  unfold giveUpMotor; try dsimp only
  (repeat' split) <;> simp
@[simp] theorem giveUpMotor_mxd (s : State) : (giveUpMotor s).mxd = s.mxd := by
  unfold giveUpMotor; try dsimp only
  (repeat' split) <;> simp
@[simp] theorem giveUpMotor_rfc (s : State) : (giveUpMotor s).rfc = s.rfc := by
  unfold giveUpMotor; try dsimp only
  (repeat' split) <;> simp
@[simp] theorem giveUpMotor_ssu (s : State) : (giveUpMotor s).ssu = s.ssu := by
  unfold giveUpMotor; try dsimp only
  (repeat' split) <;> simp
@[simp] theorem giveUpMotor_lbu_peers (s : State) : (giveUpMotor s).lbu.peers = s.lbu.peers := by
  unfold giveUpMotor; try dsimp only
  (repeat' split) <;> simp
@[simp] theorem giveUpMotor_lbu_ignored (s : State) : (giveUpMotor s).lbu.ignored = s.lbu.ignored := by
  unfold giveUpMotor; try dsimp only
  (repeat' split) <;> simp
@[simp] theorem giveUpMotor_lbu_objectSum (s : State) : (giveUpMotor s).lbu.objectSum = s.lbu.objectSum := by
  unfold giveUpMotor; try dsimp only
  (repeat' split) <;> simp
@[simp] theorem giveUpMotor_lnk_state (s : State) : (giveUpMotor s).lnk.state = s.lnk.state := by
  unfold giveUpMotor; try dsimp only
  (repeat' split) <;> simp
@[simp] theorem giveUpMotor_lnk_heard (s : State) : (giveUpMotor s).lnk.heard = s.lnk.heard := by
  unfold giveUpMotor; try dsimp only
  (repeat' split) <;> simp
@[simp] theorem giveUpMotor_lnk_acknowledged (s : State) : (giveUpMotor s).lnk.acknowledged = s.lnk.acknowledged := by
  unfold giveUpMotor; try dsimp only
  (repeat' split) <;> simp
@[simp] theorem giveUpMotor_lnk_isolationTimer (s : State) : (giveUpMotor s).lnk.isolationTimer = s.lnk.isolationTimer := by
  unfold giveUpMotor; try dsimp only
  (repeat' split) <;> simp
@[simp] theorem giveUpMotor_lnk_silentTimer (s : State) : (giveUpMotor s).lnk.silentTimer = s.lnk.silentTimer := by
  unfold giveUpMotor; try dsimp only
  (repeat' split) <;> simp
@[simp] theorem giveUpMotor_lnk_failures (s : State) : (giveUpMotor s).lnk.failures = s.lnk.failures := by
  unfold giveUpMotor; try dsimp only
  (repeat' split) <;> simp
@[simp] theorem giveUpMotor_lnk_unknownFrames (s : State) : (giveUpMotor s).lnk.unknownFrames = s.lnk.unknownFrames := by
  unfold giveUpMotor; try dsimp only
  (repeat' split) <;> simp
@[simp] theorem giveUpMotor_lnk_droppedFrames (s : State) : (giveUpMotor s).lnk.droppedFrames = s.lnk.droppedFrames := by
  unfold giveUpMotor; try dsimp only
  (repeat' split) <;> simp
@[simp] theorem giveUpMotor_lnk_silentEntries (s : State) : (giveUpMotor s).lnk.silentEntries = s.lnk.silentEntries := by
  unfold giveUpMotor; try dsimp only
  (repeat' split) <;> simp
@[simp] theorem tryLeave_pending (s : State) : (tryLeave s).pending = s.pending := by
  unfold tryLeave; try dsimp only
  (repeat' split) <;> simp
@[simp] theorem tryLeave_due (s : State) : (tryLeave s).due = s.due := by
  unfold tryLeave; try dsimp only
  (repeat' split) <;> simp
@[simp] theorem tryLeave_phase (s : State) : (tryLeave s).phase = s.phase := by
  unfold tryLeave; try dsimp only
  (repeat' split) <;> simp
@[simp] theorem tryLeave_inputs (s : State) : (tryLeave s).inputs = s.inputs := by
  unfold tryLeave; try dsimp only
  (repeat' split) <;> simp
@[simp] theorem tryLeave_outputs (s : State) : (tryLeave s).outputs = s.outputs := by
  unfold tryLeave; try dsimp only
  (repeat' split) <;> simp
@[simp] theorem tryLeave_params (s : State) : (tryLeave s).params = s.params := by
  unfold tryLeave; try dsimp only
  (repeat' split) <;> simp
@[simp] theorem tryLeave_cnu (s : State) : (tryLeave s).cnu = s.cnu := by
  unfold tryLeave; try dsimp only
  (repeat' split) <;> simp
@[simp] theorem tryLeave_cru (s : State) : (tryLeave s).cru = s.cru := by
  unfold tryLeave; try dsimp only
  (repeat' split) <;> simp
@[simp] theorem tryLeave_cca (s : State) : (tryLeave s).cca = s.cca := by
  unfold tryLeave; try dsimp only
  (repeat' split) <;> simp
@[simp] theorem tryLeave_mxd (s : State) : (tryLeave s).mxd = s.mxd := by
  unfold tryLeave; try dsimp only
  (repeat' split) <;> simp
@[simp] theorem tryLeave_rfc (s : State) : (tryLeave s).rfc = s.rfc := by
  unfold tryLeave; try dsimp only
  (repeat' split) <;> simp
@[simp] theorem tryLeave_ssu (s : State) : (tryLeave s).ssu = s.ssu := by
  unfold tryLeave; try dsimp only
  (repeat' split) <;> simp
@[simp] theorem tryLeave_vsq_test (s : State) : (tryLeave s).vsq.test = s.vsq.test := by
  unfold tryLeave; try dsimp only
  (repeat' split) <;> simp
@[simp] theorem tryLeave_vsq_queue (s : State) : (tryLeave s).vsq.queue = s.vsq.queue := by
  unfold tryLeave; try dsimp only
  (repeat' split) <;> simp
@[simp] theorem tryLeave_vsq_tagCounter (s : State) : (tryLeave s).vsq.tagCounter = s.vsq.tagCounter := by
  unfold tryLeave; try dsimp only
  (repeat' split) <;> simp
@[simp] theorem tryLeave_vsq_slots (s : State) : (tryLeave s).vsq.slots = s.vsq.slots := by
  unfold tryLeave; try dsimp only
  (repeat' split) <;> simp
@[simp] theorem tryLeave_lbu_peers (s : State) : (tryLeave s).lbu.peers = s.lbu.peers := by
  unfold tryLeave; try dsimp only
  (repeat' split) <;> simp
@[simp] theorem tryLeave_lbu_motor (s : State) : (tryLeave s).lbu.motor = s.lbu.motor := by
  unfold tryLeave; try dsimp only
  (repeat' split) <;> simp
@[simp] theorem tryLeave_lbu_compressor (s : State) : (tryLeave s).lbu.compressor = s.lbu.compressor := by
  unfold tryLeave; try dsimp only
  (repeat' split) <;> simp
@[simp] theorem tryLeave_lbu_heater (s : State) : (tryLeave s).lbu.heater = s.lbu.heater := by
  unfold tryLeave; try dsimp only
  (repeat' split) <;> simp
@[simp] theorem tryLeave_lbu_claimCounter (s : State) : (tryLeave s).lbu.claimCounter = s.lbu.claimCounter := by
  unfold tryLeave; try dsimp only
  (repeat' split) <;> simp
@[simp] theorem tryLeave_lbu_ignored (s : State) : (tryLeave s).lbu.ignored = s.lbu.ignored := by
  unfold tryLeave; try dsimp only
  (repeat' split) <;> simp
@[simp] theorem tryLeave_lbu_objectSum (s : State) : (tryLeave s).lbu.objectSum = s.lbu.objectSum := by
  unfold tryLeave; try dsimp only
  (repeat' split) <;> simp
@[simp] theorem tryLeave_lnk_state (s : State) : (tryLeave s).lnk.state = s.lnk.state := by
  unfold tryLeave; try dsimp only
  (repeat' split) <;> simp
@[simp] theorem tryLeave_lnk_heard (s : State) : (tryLeave s).lnk.heard = s.lnk.heard := by
  unfold tryLeave; try dsimp only
  (repeat' split) <;> simp
@[simp] theorem tryLeave_lnk_acknowledged (s : State) : (tryLeave s).lnk.acknowledged = s.lnk.acknowledged := by
  unfold tryLeave; try dsimp only
  (repeat' split) <;> simp
@[simp] theorem tryLeave_lnk_isolationTimer (s : State) : (tryLeave s).lnk.isolationTimer = s.lnk.isolationTimer := by
  unfold tryLeave; try dsimp only
  (repeat' split) <;> simp
@[simp] theorem tryLeave_lnk_change (s : State) : (tryLeave s).lnk.change = s.lnk.change := by
  unfold tryLeave; try dsimp only
  (repeat' split) <;> simp
@[simp] theorem tryLeave_lnk_periodTimer (s : State) : (tryLeave s).lnk.periodTimer = s.lnk.periodTimer := by
  unfold tryLeave; try dsimp only
  (repeat' split) <;> simp
@[simp] theorem tryLeave_lnk_silentTimer (s : State) : (tryLeave s).lnk.silentTimer = s.lnk.silentTimer := by
  unfold tryLeave; try dsimp only
  (repeat' split) <;> simp
@[simp] theorem tryLeave_lnk_failures (s : State) : (tryLeave s).lnk.failures = s.lnk.failures := by
  unfold tryLeave; try dsimp only
  (repeat' split) <;> simp
@[simp] theorem tryLeave_lnk_unknownFrames (s : State) : (tryLeave s).lnk.unknownFrames = s.lnk.unknownFrames := by
  unfold tryLeave; try dsimp only
  (repeat' split) <;> simp
@[simp] theorem tryLeave_lnk_droppedFrames (s : State) : (tryLeave s).lnk.droppedFrames = s.lnk.droppedFrames := by
  unfold tryLeave; try dsimp only
  (repeat' split) <;> simp
@[simp] theorem tryLeave_lnk_silentEntries (s : State) : (tryLeave s).lnk.silentEntries = s.lnk.silentEntries := by
  unfold tryLeave; try dsimp only
  (repeat' split) <;> simp
@[simp] theorem decideOutcome_pending (o : VendOutcome) (c : EndCause) (s : State) : (decideOutcome o c s).pending = s.pending := by
  unfold decideOutcome; try dsimp only
  (repeat' split) <;> simp
@[simp] theorem decideOutcome_due (o : VendOutcome) (c : EndCause) (s : State) : (decideOutcome o c s).due = s.due := by
  unfold decideOutcome; try dsimp only
  (repeat' split) <;> simp
@[simp] theorem decideOutcome_phase (o : VendOutcome) (c : EndCause) (s : State) : (decideOutcome o c s).phase = s.phase := by
  unfold decideOutcome; try dsimp only
  (repeat' split) <;> simp
@[simp] theorem decideOutcome_inputs (o : VendOutcome) (c : EndCause) (s : State) : (decideOutcome o c s).inputs = s.inputs := by
  unfold decideOutcome; try dsimp only
  (repeat' split) <;> simp
@[simp] theorem decideOutcome_outputs (o : VendOutcome) (c : EndCause) (s : State) : (decideOutcome o c s).outputs = s.outputs := by
  unfold decideOutcome; try dsimp only
  (repeat' split) <;> simp
@[simp] theorem decideOutcome_params (o : VendOutcome) (c : EndCause) (s : State) : (decideOutcome o c s).params = s.params := by
  unfold decideOutcome; try dsimp only
  (repeat' split) <;> simp
@[simp] theorem decideOutcome_cnu (o : VendOutcome) (c : EndCause) (s : State) : (decideOutcome o c s).cnu = s.cnu := by
  unfold decideOutcome; try dsimp only
  (repeat' split) <;> simp
@[simp] theorem decideOutcome_cca (o : VendOutcome) (c : EndCause) (s : State) : (decideOutcome o c s).cca = s.cca := by
  unfold decideOutcome; try dsimp only
  (repeat' split) <;> simp
@[simp] theorem decideOutcome_rfc (o : VendOutcome) (c : EndCause) (s : State) : (decideOutcome o c s).rfc = s.rfc := by
  unfold decideOutcome; try dsimp only
  (repeat' split) <;> simp
@[simp] theorem decideOutcome_cru_probeShort (o : VendOutcome) (c : EndCause) (s : State) : (decideOutcome o c s).cru.probeShort = s.cru.probeShort := by
  unfold decideOutcome; try dsimp only
  (repeat' split) <;> simp
@[simp] theorem decideOutcome_cru_strayExits (o : VendOutcome) (c : EndCause) (s : State) : (decideOutcome o c s).cru.strayExits = s.cru.strayExits := by
  unfold decideOutcome; try dsimp only
  (repeat' split) <;> simp
@[simp] theorem decideOutcome_vsq_test (o : VendOutcome) (c : EndCause) (s : State) : (decideOutcome o c s).vsq.test = s.vsq.test := by
  unfold decideOutcome; try dsimp only
  (repeat' split) <;> simp
@[simp] theorem decideOutcome_vsq_queue (o : VendOutcome) (c : EndCause) (s : State) : (decideOutcome o c s).vsq.queue = s.vsq.queue := by
  unfold decideOutcome; try dsimp only
  (repeat' split) <;> simp
@[simp] theorem decideOutcome_vsq_tagCounter (o : VendOutcome) (c : EndCause) (s : State) : (decideOutcome o c s).vsq.tagCounter = s.vsq.tagCounter := by
  unfold decideOutcome; try dsimp only
  (repeat' split) <;> simp
@[simp] theorem decideOutcome_mxd_state (o : VendOutcome) (c : EndCause) (s : State) : (decideOutcome o c s).mxd.state = s.mxd.state := by
  unfold decideOutcome; try dsimp only
  (repeat' split) <;> simp
@[simp] theorem decideOutcome_mxd_latch (o : VendOutcome) (c : EndCause) (s : State) : (decideOutcome o c s).mxd.latch = s.mxd.latch := by
  unfold decideOutcome; try dsimp only
  (repeat' split) <;> simp
@[simp] theorem decideOutcome_mxd_hold (o : VendOutcome) (c : EndCause) (s : State) : (decideOutcome o c s).mxd.hold = s.mxd.hold := by
  unfold decideOutcome; try dsimp only
  (repeat' split) <;> simp
@[simp] theorem decideOutcome_mxd_mismatch (o : VendOutcome) (c : EndCause) (s : State) : (decideOutcome o c s).mxd.mismatch = s.mxd.mismatch := by
  unfold decideOutcome; try dsimp only
  (repeat' split) <;> simp
@[simp] theorem decideOutcome_mxd_fault (o : VendOutcome) (c : EndCause) (s : State) : (decideOutcome o c s).mxd.fault = s.mxd.fault := by
  unfold decideOutcome; try dsimp only
  (repeat' split) <;> simp
@[simp] theorem decideOutcome_mxd_energised (o : VendOutcome) (c : EndCause) (s : State) : (decideOutcome o c s).mxd.energised = s.mxd.energised := by
  unfold decideOutcome; try dsimp only
  (repeat' split) <;> simp
@[simp] theorem decideOutcome_mxd_samples (o : VendOutcome) (c : EndCause) (s : State) : (decideOutcome o c s).mxd.samples = s.mxd.samples := by
  unfold decideOutcome; try dsimp only
  (repeat' split) <;> simp
@[simp] theorem decideOutcome_mxd_stallRun (o : VendOutcome) (c : EndCause) (s : State) : (decideOutcome o c s).mxd.stallRun = s.mxd.stallRun := by
  unfold decideOutcome; try dsimp only
  (repeat' split) <;> simp
@[simp] theorem decideOutcome_mxd_supervision (o : VendOutcome) (c : EndCause) (s : State) : (decideOutcome o c s).mxd.supervision = s.mxd.supervision := by
  unfold decideOutcome; try dsimp only
  (repeat' split) <;> simp
@[simp] theorem decideOutcome_mxd_lastSample (o : VendOutcome) (c : EndCause) (s : State) : (decideOutcome o c s).mxd.lastSample = s.mxd.lastSample := by
  unfold decideOutcome; try dsimp only
  (repeat' split) <;> simp
@[simp] theorem decideOutcome_mxd_tick (o : VendOutcome) (c : EndCause) (s : State) : (decideOutcome o c s).mxd.tick = s.mxd.tick := by
  unfold decideOutcome; try dsimp only
  (repeat' split) <;> simp
@[simp] theorem decideOutcome_lbu_peers (o : VendOutcome) (c : EndCause) (s : State) : (decideOutcome o c s).lbu.peers = s.lbu.peers := by
  unfold decideOutcome; try dsimp only
  (repeat' split) <;> simp
@[simp] theorem decideOutcome_lbu_ignored (o : VendOutcome) (c : EndCause) (s : State) : (decideOutcome o c s).lbu.ignored = s.lbu.ignored := by
  unfold decideOutcome; try dsimp only
  (repeat' split) <;> simp
@[simp] theorem decideOutcome_lbu_objectSum (o : VendOutcome) (c : EndCause) (s : State) : (decideOutcome o c s).lbu.objectSum = s.lbu.objectSum := by
  unfold decideOutcome; try dsimp only
  (repeat' split) <;> simp
@[simp] theorem decideOutcome_lnk_state (o : VendOutcome) (c : EndCause) (s : State) : (decideOutcome o c s).lnk.state = s.lnk.state := by
  unfold decideOutcome; try dsimp only
  (repeat' split) <;> simp
@[simp] theorem decideOutcome_lnk_heard (o : VendOutcome) (c : EndCause) (s : State) : (decideOutcome o c s).lnk.heard = s.lnk.heard := by
  unfold decideOutcome; try dsimp only
  (repeat' split) <;> simp
@[simp] theorem decideOutcome_lnk_acknowledged (o : VendOutcome) (c : EndCause) (s : State) : (decideOutcome o c s).lnk.acknowledged = s.lnk.acknowledged := by
  unfold decideOutcome; try dsimp only
  (repeat' split) <;> simp
@[simp] theorem decideOutcome_lnk_isolationTimer (o : VendOutcome) (c : EndCause) (s : State) : (decideOutcome o c s).lnk.isolationTimer = s.lnk.isolationTimer := by
  unfold decideOutcome; try dsimp only
  (repeat' split) <;> simp
@[simp] theorem decideOutcome_lnk_silentTimer (o : VendOutcome) (c : EndCause) (s : State) : (decideOutcome o c s).lnk.silentTimer = s.lnk.silentTimer := by
  unfold decideOutcome; try dsimp only
  (repeat' split) <;> simp
@[simp] theorem decideOutcome_lnk_failures (o : VendOutcome) (c : EndCause) (s : State) : (decideOutcome o c s).lnk.failures = s.lnk.failures := by
  unfold decideOutcome; try dsimp only
  (repeat' split) <;> simp
@[simp] theorem decideOutcome_lnk_unknownFrames (o : VendOutcome) (c : EndCause) (s : State) : (decideOutcome o c s).lnk.unknownFrames = s.lnk.unknownFrames := by
  unfold decideOutcome; try dsimp only
  (repeat' split) <;> simp
@[simp] theorem decideOutcome_lnk_droppedFrames (o : VendOutcome) (c : EndCause) (s : State) : (decideOutcome o c s).lnk.droppedFrames = s.lnk.droppedFrames := by
  unfold decideOutcome; try dsimp only
  (repeat' split) <;> simp
@[simp] theorem decideOutcome_lnk_silentEntries (o : VendOutcome) (c : EndCause) (s : State) : (decideOutcome o c s).lnk.silentEntries = s.lnk.silentEntries := by
  unfold decideOutcome; try dsimp only
  (repeat' split) <;> simp
@[simp] theorem decideOutcome_ssu_own (o : VendOutcome) (c : EndCause) (s : State) : (decideOutcome o c s).ssu.own = s.ssu.own := by
  unfold decideOutcome; try dsimp only
  (repeat' split) <;> simp
@[simp] theorem decideOutcome_ssu_cause (o : VendOutcome) (c : EndCause) (s : State) : (decideOutcome o c s).ssu.cause = s.ssu.cause := by
  unfold decideOutcome; try dsimp only
  (repeat' split) <;> simp
@[simp] theorem decideOutcome_ssu_imageStatus (o : VendOutcome) (c : EndCause) (s : State) : (decideOutcome o c s).ssu.imageStatus = s.ssu.imageStatus := by
  unfold decideOutcome; try dsimp only
  (repeat' split) <;> simp
@[simp] theorem decideOutcome_ssu_auditGood (o : VendOutcome) (c : EndCause) (s : State) : (decideOutcome o c s).ssu.auditGood = s.ssu.auditGood := by
  unfold decideOutcome; try dsimp only
  (repeat' split) <;> simp
@[simp] theorem decideOutcome_ssu_snapshot (o : VendOutcome) (c : EndCause) (s : State) : (decideOutcome o c s).ssu.snapshot = s.ssu.snapshot := by
  unfold decideOutcome; try dsimp only
  (repeat' split) <;> simp
@[simp] theorem decideOutcome_ssu_saveOwed (o : VendOutcome) (c : EndCause) (s : State) : (decideOutcome o c s).ssu.saveOwed = s.ssu.saveOwed := by
  unfold decideOutcome; try dsimp only
  (repeat' split) <;> simp
@[simp] theorem decideOutcome_ssu_lastSave (o : VendOutcome) (c : EndCause) (s : State) : (decideOutcome o c s).ssu.lastSave = s.ssu.lastSave := by
  unfold decideOutcome; try dsimp only
  (repeat' split) <;> simp
@[simp] theorem decideOutcome_ssu_auditArea (o : VendOutcome) (c : EndCause) (s : State) : (decideOutcome o c s).ssu.auditArea = s.ssu.auditArea := by
  unfold decideOutcome; try dsimp only
  (repeat' split) <;> simp
@[simp] theorem enterClaiming_pending (s : State) : (enterClaiming s).pending = s.pending := by
  unfold enterClaiming; try dsimp only
  (repeat' split) <;> simp
@[simp] theorem enterClaiming_due (s : State) : (enterClaiming s).due = s.due := by
  unfold enterClaiming; try dsimp only
  (repeat' split) <;> simp
@[simp] theorem enterClaiming_phase (s : State) : (enterClaiming s).phase = s.phase := by
  unfold enterClaiming; try dsimp only
  (repeat' split) <;> simp
@[simp] theorem enterClaiming_inputs (s : State) : (enterClaiming s).inputs = s.inputs := by
  unfold enterClaiming; try dsimp only
  (repeat' split) <;> simp
@[simp] theorem enterClaiming_outputs (s : State) : (enterClaiming s).outputs = s.outputs := by
  unfold enterClaiming; try dsimp only
  (repeat' split) <;> simp
@[simp] theorem enterClaiming_params (s : State) : (enterClaiming s).params = s.params := by
  unfold enterClaiming; try dsimp only
  (repeat' split) <;> simp
@[simp] theorem enterClaiming_cnu (s : State) : (enterClaiming s).cnu = s.cnu := by
  unfold enterClaiming; try dsimp only
  (repeat' split) <;> simp
@[simp] theorem enterClaiming_cru (s : State) : (enterClaiming s).cru = s.cru := by
  unfold enterClaiming; try dsimp only
  (repeat' split) <;> simp
@[simp] theorem enterClaiming_cca (s : State) : (enterClaiming s).cca = s.cca := by
  unfold enterClaiming; try dsimp only
  (repeat' split) <;> simp
@[simp] theorem enterClaiming_mxd (s : State) : (enterClaiming s).mxd = s.mxd := by
  unfold enterClaiming; try dsimp only
  (repeat' split) <;> simp
@[simp] theorem enterClaiming_rfc (s : State) : (enterClaiming s).rfc = s.rfc := by
  unfold enterClaiming; try dsimp only
  (repeat' split) <;> simp
@[simp] theorem enterClaiming_ssu (s : State) : (enterClaiming s).ssu = s.ssu := by
  unfold enterClaiming; try dsimp only
  (repeat' split) <;> simp
@[simp] theorem enterClaiming_vsq_test (s : State) : (enterClaiming s).vsq.test = s.vsq.test := by
  unfold enterClaiming; try dsimp only
  (repeat' split) <;> simp
@[simp] theorem enterClaiming_vsq_queue (s : State) : (enterClaiming s).vsq.queue = s.vsq.queue := by
  unfold enterClaiming; try dsimp only
  (repeat' split) <;> simp
@[simp] theorem enterClaiming_vsq_tagCounter (s : State) : (enterClaiming s).vsq.tagCounter = s.vsq.tagCounter := by
  unfold enterClaiming; try dsimp only
  (repeat' split) <;> simp
@[simp] theorem enterClaiming_vsq_slots (s : State) : (enterClaiming s).vsq.slots = s.vsq.slots := by
  unfold enterClaiming; try dsimp only
  (repeat' split) <;> simp
@[simp] theorem enterClaiming_lbu_peers (s : State) : (enterClaiming s).lbu.peers = s.lbu.peers := by
  unfold enterClaiming; try dsimp only
  (repeat' split) <;> simp
@[simp] theorem enterClaiming_lbu_ignored (s : State) : (enterClaiming s).lbu.ignored = s.lbu.ignored := by
  unfold enterClaiming; try dsimp only
  (repeat' split) <;> simp
@[simp] theorem enterClaiming_lbu_objectSum (s : State) : (enterClaiming s).lbu.objectSum = s.lbu.objectSum := by
  unfold enterClaiming; try dsimp only
  (repeat' split) <;> simp
@[simp] theorem enterClaiming_lnk_state (s : State) : (enterClaiming s).lnk.state = s.lnk.state := by
  unfold enterClaiming; try dsimp only
  (repeat' split) <;> simp
@[simp] theorem enterClaiming_lnk_heard (s : State) : (enterClaiming s).lnk.heard = s.lnk.heard := by
  unfold enterClaiming; try dsimp only
  (repeat' split) <;> simp
@[simp] theorem enterClaiming_lnk_acknowledged (s : State) : (enterClaiming s).lnk.acknowledged = s.lnk.acknowledged := by
  unfold enterClaiming; try dsimp only
  (repeat' split) <;> simp
@[simp] theorem enterClaiming_lnk_isolationTimer (s : State) : (enterClaiming s).lnk.isolationTimer = s.lnk.isolationTimer := by
  unfold enterClaiming; try dsimp only
  (repeat' split) <;> simp
@[simp] theorem enterClaiming_lnk_silentTimer (s : State) : (enterClaiming s).lnk.silentTimer = s.lnk.silentTimer := by
  unfold enterClaiming; try dsimp only
  (repeat' split) <;> simp
@[simp] theorem enterClaiming_lnk_failures (s : State) : (enterClaiming s).lnk.failures = s.lnk.failures := by
  unfold enterClaiming; try dsimp only
  (repeat' split) <;> simp
@[simp] theorem enterClaiming_lnk_unknownFrames (s : State) : (enterClaiming s).lnk.unknownFrames = s.lnk.unknownFrames := by
  unfold enterClaiming; try dsimp only
  (repeat' split) <;> simp
@[simp] theorem enterClaiming_lnk_droppedFrames (s : State) : (enterClaiming s).lnk.droppedFrames = s.lnk.droppedFrames := by
  unfold enterClaiming; try dsimp only
  (repeat' split) <;> simp
@[simp] theorem enterClaiming_lnk_silentEntries (s : State) : (enterClaiming s).lnk.silentEntries = s.lnk.silentEntries := by
  unfold enterClaiming; try dsimp only
  (repeat' split) <;> simp
@[simp] theorem startMotor_pending (n : Nat) (t : Slot) (s : State) : (startMotor n t s).pending = s.pending := by
  unfold startMotor; try dsimp only
  (repeat' split) <;> simp
@[simp] theorem startMotor_due (n : Nat) (t : Slot) (s : State) : (startMotor n t s).due = s.due := by
  unfold startMotor; try dsimp only
  (repeat' split) <;> simp
@[simp] theorem startMotor_phase (n : Nat) (t : Slot) (s : State) : (startMotor n t s).phase = s.phase := by
  unfold startMotor; try dsimp only
  (repeat' split) <;> simp
@[simp] theorem startMotor_inputs (n : Nat) (t : Slot) (s : State) : (startMotor n t s).inputs = s.inputs := by
  unfold startMotor; try dsimp only
  (repeat' split) <;> simp
@[simp] theorem startMotor_outputs (n : Nat) (t : Slot) (s : State) : (startMotor n t s).outputs = s.outputs := by
  unfold startMotor; try dsimp only
  (repeat' split) <;> simp
@[simp] theorem startMotor_params (n : Nat) (t : Slot) (s : State) : (startMotor n t s).params = s.params := by
  unfold startMotor; try dsimp only
  (repeat' split) <;> simp
@[simp] theorem startMotor_cnu (n : Nat) (t : Slot) (s : State) : (startMotor n t s).cnu = s.cnu := by
  unfold startMotor; try dsimp only
  (repeat' split) <;> simp
@[simp] theorem startMotor_cru (n : Nat) (t : Slot) (s : State) : (startMotor n t s).cru = s.cru := by
  unfold startMotor; try dsimp only
  (repeat' split) <;> simp
@[simp] theorem startMotor_cca (n : Nat) (t : Slot) (s : State) : (startMotor n t s).cca = s.cca := by
  unfold startMotor; try dsimp only
  (repeat' split) <;> simp
@[simp] theorem startMotor_rfc (n : Nat) (t : Slot) (s : State) : (startMotor n t s).rfc = s.rfc := by
  unfold startMotor; try dsimp only
  (repeat' split) <;> simp
@[simp] theorem startMotor_lbu (n : Nat) (t : Slot) (s : State) : (startMotor n t s).lbu = s.lbu := by
  unfold startMotor; try dsimp only
  (repeat' split) <;> simp
@[simp] theorem startMotor_lnk (n : Nat) (t : Slot) (s : State) : (startMotor n t s).lnk = s.lnk := by
  unfold startMotor; try dsimp only
  (repeat' split) <;> simp
@[simp] theorem startMotor_ssu (n : Nat) (t : Slot) (s : State) : (startMotor n t s).ssu = s.ssu := by
  unfold startMotor; try dsimp only
  (repeat' split) <;> simp
@[simp] theorem startMotor_vsq_test (n : Nat) (t : Slot) (s : State) : (startMotor n t s).vsq.test = s.vsq.test := by
  unfold startMotor; try dsimp only
  (repeat' split) <;> simp
@[simp] theorem startMotor_vsq_queue (n : Nat) (t : Slot) (s : State) : (startMotor n t s).vsq.queue = s.vsq.queue := by
  unfold startMotor; try dsimp only
  (repeat' split) <;> simp
@[simp] theorem startMotor_vsq_tagCounter (n : Nat) (t : Slot) (s : State) : (startMotor n t s).vsq.tagCounter = s.vsq.tagCounter := by
  unfold startMotor; try dsimp only
  (repeat' split) <;> simp
@[simp] theorem startMotor_mxd_state (n : Nat) (t : Slot) (s : State) : (startMotor n t s).mxd.state = s.mxd.state := by
  unfold startMotor; try dsimp only
  (repeat' split) <;> simp
@[simp] theorem startMotor_mxd_latch (n : Nat) (t : Slot) (s : State) : (startMotor n t s).mxd.latch = s.mxd.latch := by
  unfold startMotor; try dsimp only
  (repeat' split) <;> simp
@[simp] theorem startMotor_mxd_hold (n : Nat) (t : Slot) (s : State) : (startMotor n t s).mxd.hold = s.mxd.hold := by
  unfold startMotor; try dsimp only
  (repeat' split) <;> simp
@[simp] theorem startMotor_mxd_mismatch (n : Nat) (t : Slot) (s : State) : (startMotor n t s).mxd.mismatch = s.mxd.mismatch := by
  unfold startMotor; try dsimp only
  (repeat' split) <;> simp
@[simp] theorem startMotor_mxd_fault (n : Nat) (t : Slot) (s : State) : (startMotor n t s).mxd.fault = s.mxd.fault := by
  unfold startMotor; try dsimp only
  (repeat' split) <;> simp
@[simp] theorem startMotor_mxd_energised (n : Nat) (t : Slot) (s : State) : (startMotor n t s).mxd.energised = s.mxd.energised := by
  unfold startMotor; try dsimp only
  (repeat' split) <;> simp
@[simp] theorem startMotor_mxd_samples (n : Nat) (t : Slot) (s : State) : (startMotor n t s).mxd.samples = s.mxd.samples := by
  unfold startMotor; try dsimp only
  (repeat' split) <;> simp
@[simp] theorem startMotor_mxd_stallRun (n : Nat) (t : Slot) (s : State) : (startMotor n t s).mxd.stallRun = s.mxd.stallRun := by
  unfold startMotor; try dsimp only
  (repeat' split) <;> simp
@[simp] theorem startMotor_mxd_supervision (n : Nat) (t : Slot) (s : State) : (startMotor n t s).mxd.supervision = s.mxd.supervision := by
  unfold startMotor; try dsimp only
  (repeat' split) <;> simp
@[simp] theorem startMotor_mxd_lastSample (n : Nat) (t : Slot) (s : State) : (startMotor n t s).mxd.lastSample = s.mxd.lastSample := by
  unfold startMotor; try dsimp only
  (repeat' split) <;> simp
@[simp] theorem startMotor_mxd_tick (n : Nat) (t : Slot) (s : State) : (startMotor n t s).mxd.tick = s.mxd.tick := by
  unfold startMotor; try dsimp only
  (repeat' split) <;> simp
@[simp] theorem extraTurn_pending (n : Nat) (s : State) : (extraTurn n s).pending = s.pending := by
  unfold extraTurn; try dsimp only
  (repeat' split) <;> simp
@[simp] theorem extraTurn_due (n : Nat) (s : State) : (extraTurn n s).due = s.due := by
  unfold extraTurn; try dsimp only
  (repeat' split) <;> simp
@[simp] theorem extraTurn_phase (n : Nat) (s : State) : (extraTurn n s).phase = s.phase := by
  unfold extraTurn; try dsimp only
  (repeat' split) <;> simp
@[simp] theorem extraTurn_inputs (n : Nat) (s : State) : (extraTurn n s).inputs = s.inputs := by
  unfold extraTurn; try dsimp only
  (repeat' split) <;> simp
@[simp] theorem extraTurn_outputs (n : Nat) (s : State) : (extraTurn n s).outputs = s.outputs := by
  unfold extraTurn; try dsimp only
  (repeat' split) <;> simp
@[simp] theorem extraTurn_params (n : Nat) (s : State) : (extraTurn n s).params = s.params := by
  unfold extraTurn; try dsimp only
  (repeat' split) <;> simp
@[simp] theorem extraTurn_cnu (n : Nat) (s : State) : (extraTurn n s).cnu = s.cnu := by
  unfold extraTurn; try dsimp only
  (repeat' split) <;> simp
@[simp] theorem extraTurn_cru (n : Nat) (s : State) : (extraTurn n s).cru = s.cru := by
  unfold extraTurn; try dsimp only
  (repeat' split) <;> simp
@[simp] theorem extraTurn_cca (n : Nat) (s : State) : (extraTurn n s).cca = s.cca := by
  unfold extraTurn; try dsimp only
  (repeat' split) <;> simp
@[simp] theorem extraTurn_rfc (n : Nat) (s : State) : (extraTurn n s).rfc = s.rfc := by
  unfold extraTurn; try dsimp only
  (repeat' split) <;> simp
@[simp] theorem extraTurn_lbu (n : Nat) (s : State) : (extraTurn n s).lbu = s.lbu := by
  unfold extraTurn; try dsimp only
  (repeat' split) <;> simp
@[simp] theorem extraTurn_lnk (n : Nat) (s : State) : (extraTurn n s).lnk = s.lnk := by
  unfold extraTurn; try dsimp only
  (repeat' split) <;> simp
@[simp] theorem extraTurn_ssu (n : Nat) (s : State) : (extraTurn n s).ssu = s.ssu := by
  unfold extraTurn; try dsimp only
  (repeat' split) <;> simp
@[simp] theorem extraTurn_vsq_test (n : Nat) (s : State) : (extraTurn n s).vsq.test = s.vsq.test := by
  unfold extraTurn; try dsimp only
  (repeat' split) <;> simp
@[simp] theorem extraTurn_vsq_queue (n : Nat) (s : State) : (extraTurn n s).vsq.queue = s.vsq.queue := by
  unfold extraTurn; try dsimp only
  (repeat' split) <;> simp
@[simp] theorem extraTurn_vsq_tagCounter (n : Nat) (s : State) : (extraTurn n s).vsq.tagCounter = s.vsq.tagCounter := by
  unfold extraTurn; try dsimp only
  (repeat' split) <;> simp
@[simp] theorem extraTurn_vsq_slots (n : Nat) (s : State) : (extraTurn n s).vsq.slots = s.vsq.slots := by
  unfold extraTurn; try dsimp only
  (repeat' split) <;> simp
@[simp] theorem extraTurn_mxd_state (n : Nat) (s : State) : (extraTurn n s).mxd.state = s.mxd.state := by
  unfold extraTurn; try dsimp only
  (repeat' split) <;> simp
@[simp] theorem extraTurn_mxd_latch (n : Nat) (s : State) : (extraTurn n s).mxd.latch = s.mxd.latch := by
  unfold extraTurn; try dsimp only
  (repeat' split) <;> simp
@[simp] theorem extraTurn_mxd_hold (n : Nat) (s : State) : (extraTurn n s).mxd.hold = s.mxd.hold := by
  unfold extraTurn; try dsimp only
  (repeat' split) <;> simp
@[simp] theorem extraTurn_mxd_mismatch (n : Nat) (s : State) : (extraTurn n s).mxd.mismatch = s.mxd.mismatch := by
  unfold extraTurn; try dsimp only
  (repeat' split) <;> simp
@[simp] theorem extraTurn_mxd_fault (n : Nat) (s : State) : (extraTurn n s).mxd.fault = s.mxd.fault := by
  unfold extraTurn; try dsimp only
  (repeat' split) <;> simp
@[simp] theorem extraTurn_mxd_energised (n : Nat) (s : State) : (extraTurn n s).mxd.energised = s.mxd.energised := by
  unfold extraTurn; try dsimp only
  (repeat' split) <;> simp
@[simp] theorem extraTurn_mxd_samples (n : Nat) (s : State) : (extraTurn n s).mxd.samples = s.mxd.samples := by
  unfold extraTurn; try dsimp only
  (repeat' split) <;> simp
@[simp] theorem extraTurn_mxd_stallRun (n : Nat) (s : State) : (extraTurn n s).mxd.stallRun = s.mxd.stallRun := by
  unfold extraTurn; try dsimp only
  (repeat' split) <;> simp
@[simp] theorem extraTurn_mxd_supervision (n : Nat) (s : State) : (extraTurn n s).mxd.supervision = s.mxd.supervision := by
  unfold extraTurn; try dsimp only
  (repeat' split) <;> simp
@[simp] theorem extraTurn_mxd_lastSample (n : Nat) (s : State) : (extraTurn n s).mxd.lastSample = s.mxd.lastSample := by
  unfold extraTurn; try dsimp only
  (repeat' split) <;> simp
@[simp] theorem extraTurn_mxd_tick (n : Nat) (s : State) : (extraTurn n s).mxd.tick = s.mxd.tick := by
  unfold extraTurn; try dsimp only
  (repeat' split) <;> simp
@[simp] theorem stopMotor_pending (s : State) : (stopMotor s).pending = s.pending := by
  unfold stopMotor; try dsimp only
  (repeat' split) <;> simp
@[simp] theorem stopMotor_due (s : State) : (stopMotor s).due = s.due := by
  unfold stopMotor; try dsimp only
  (repeat' split) <;> simp
@[simp] theorem stopMotor_phase (s : State) : (stopMotor s).phase = s.phase := by
  unfold stopMotor; try dsimp only
  (repeat' split) <;> simp
@[simp] theorem stopMotor_inputs (s : State) : (stopMotor s).inputs = s.inputs := by
  unfold stopMotor; try dsimp only
  (repeat' split) <;> simp
@[simp] theorem stopMotor_outputs (s : State) : (stopMotor s).outputs = s.outputs := by
  unfold stopMotor; try dsimp only
  (repeat' split) <;> simp
@[simp] theorem stopMotor_params (s : State) : (stopMotor s).params = s.params := by
  unfold stopMotor; try dsimp only
  (repeat' split) <;> simp
@[simp] theorem stopMotor_cnu (s : State) : (stopMotor s).cnu = s.cnu := by
  unfold stopMotor; try dsimp only
  (repeat' split) <;> simp
@[simp] theorem stopMotor_cru (s : State) : (stopMotor s).cru = s.cru := by
  unfold stopMotor; try dsimp only
  (repeat' split) <;> simp
@[simp] theorem stopMotor_cca (s : State) : (stopMotor s).cca = s.cca := by
  unfold stopMotor; try dsimp only
  (repeat' split) <;> simp
@[simp] theorem stopMotor_rfc (s : State) : (stopMotor s).rfc = s.rfc := by
  unfold stopMotor; try dsimp only
  (repeat' split) <;> simp
@[simp] theorem stopMotor_lbu (s : State) : (stopMotor s).lbu = s.lbu := by
  unfold stopMotor; try dsimp only
  (repeat' split) <;> simp
@[simp] theorem stopMotor_lnk (s : State) : (stopMotor s).lnk = s.lnk := by
  unfold stopMotor; try dsimp only
  (repeat' split) <;> simp
@[simp] theorem stopMotor_ssu (s : State) : (stopMotor s).ssu = s.ssu := by
  unfold stopMotor; try dsimp only
  (repeat' split) <;> simp
@[simp] theorem stopMotor_vsq_state (s : State) : (stopMotor s).vsq.state = s.vsq.state := by
  unfold stopMotor; try dsimp only
  (repeat' split) <;> simp
@[simp] theorem stopMotor_vsq_test (s : State) : (stopMotor s).vsq.test = s.vsq.test := by
  unfold stopMotor; try dsimp only
  (repeat' split) <;> simp
@[simp] theorem stopMotor_vsq_queue (s : State) : (stopMotor s).vsq.queue = s.vsq.queue := by
  unfold stopMotor; try dsimp only
  (repeat' split) <;> simp
@[simp] theorem stopMotor_vsq_tagCounter (s : State) : (stopMotor s).vsq.tagCounter = s.vsq.tagCounter := by
  unfold stopMotor; try dsimp only
  (repeat' split) <;> simp
@[simp] theorem stopMotor_vsq_slots (s : State) : (stopMotor s).vsq.slots = s.vsq.slots := by
  unfold stopMotor; try dsimp only
  (repeat' split) <;> simp
@[simp] theorem stopMotor_mxd_state (s : State) : (stopMotor s).mxd.state = s.mxd.state := by
  unfold stopMotor; try dsimp only
  (repeat' split) <;> simp
@[simp] theorem stopMotor_mxd_latch (s : State) : (stopMotor s).mxd.latch = s.mxd.latch := by
  unfold stopMotor; try dsimp only
  (repeat' split) <;> simp
@[simp] theorem stopMotor_mxd_hold (s : State) : (stopMotor s).mxd.hold = s.mxd.hold := by
  unfold stopMotor; try dsimp only
  (repeat' split) <;> simp
@[simp] theorem stopMotor_mxd_mismatch (s : State) : (stopMotor s).mxd.mismatch = s.mxd.mismatch := by
  unfold stopMotor; try dsimp only
  (repeat' split) <;> simp
@[simp] theorem stopMotor_mxd_fault (s : State) : (stopMotor s).mxd.fault = s.mxd.fault := by
  unfold stopMotor; try dsimp only
  (repeat' split) <;> simp
@[simp] theorem stopMotor_mxd_energised (s : State) : (stopMotor s).mxd.energised = s.mxd.energised := by
  unfold stopMotor; try dsimp only
  (repeat' split) <;> simp
@[simp] theorem stopMotor_mxd_samples (s : State) : (stopMotor s).mxd.samples = s.mxd.samples := by
  unfold stopMotor; try dsimp only
  (repeat' split) <;> simp
@[simp] theorem stopMotor_mxd_stallRun (s : State) : (stopMotor s).mxd.stallRun = s.mxd.stallRun := by
  unfold stopMotor; try dsimp only
  (repeat' split) <;> simp
@[simp] theorem stopMotor_mxd_supervision (s : State) : (stopMotor s).mxd.supervision = s.mxd.supervision := by
  unfold stopMotor; try dsimp only
  (repeat' split) <;> simp
@[simp] theorem stopMotor_mxd_lastSample (s : State) : (stopMotor s).mxd.lastSample = s.mxd.lastSample := by
  unfold stopMotor; try dsimp only
  (repeat' split) <;> simp
@[simp] theorem stopMotor_mxd_tick (s : State) : (stopMotor s).mxd.tick = s.mxd.tick := by
  unfold stopMotor; try dsimp only
  (repeat' split) <;> simp
@[simp] theorem enterDropWait_pending (s : State) : (enterDropWait s).pending = s.pending := by
  unfold enterDropWait; try dsimp only
  (repeat' split) <;> simp
@[simp] theorem enterDropWait_due (s : State) : (enterDropWait s).due = s.due := by
  unfold enterDropWait; try dsimp only
  (repeat' split) <;> simp
@[simp] theorem enterDropWait_phase (s : State) : (enterDropWait s).phase = s.phase := by
  unfold enterDropWait; try dsimp only
  (repeat' split) <;> simp
@[simp] theorem enterDropWait_inputs (s : State) : (enterDropWait s).inputs = s.inputs := by
  unfold enterDropWait; try dsimp only
  (repeat' split) <;> simp
@[simp] theorem enterDropWait_outputs (s : State) : (enterDropWait s).outputs = s.outputs := by
  unfold enterDropWait; try dsimp only
  (repeat' split) <;> simp
@[simp] theorem enterDropWait_params (s : State) : (enterDropWait s).params = s.params := by
  unfold enterDropWait; try dsimp only
  (repeat' split) <;> simp
@[simp] theorem enterDropWait_cnu (s : State) : (enterDropWait s).cnu = s.cnu := by
  unfold enterDropWait; try dsimp only
  (repeat' split) <;> simp
@[simp] theorem enterDropWait_cru (s : State) : (enterDropWait s).cru = s.cru := by
  unfold enterDropWait; try dsimp only
  (repeat' split) <;> simp
@[simp] theorem enterDropWait_cca (s : State) : (enterDropWait s).cca = s.cca := by
  unfold enterDropWait; try dsimp only
  (repeat' split) <;> simp
@[simp] theorem enterDropWait_mxd (s : State) : (enterDropWait s).mxd = s.mxd := by
  unfold enterDropWait; try dsimp only
  (repeat' split) <;> simp
@[simp] theorem enterDropWait_rfc (s : State) : (enterDropWait s).rfc = s.rfc := by
  unfold enterDropWait; try dsimp only
  (repeat' split) <;> simp
@[simp] theorem enterDropWait_lbu (s : State) : (enterDropWait s).lbu = s.lbu := by
  unfold enterDropWait; try dsimp only
  (repeat' split) <;> simp
@[simp] theorem enterDropWait_lnk (s : State) : (enterDropWait s).lnk = s.lnk := by
  unfold enterDropWait; try dsimp only
  (repeat' split) <;> simp
@[simp] theorem enterDropWait_ssu (s : State) : (enterDropWait s).ssu = s.ssu := by
  unfold enterDropWait; try dsimp only
  (repeat' split) <;> simp
@[simp] theorem enterDropWait_vsq_test (s : State) : (enterDropWait s).vsq.test = s.vsq.test := by
  unfold enterDropWait; try dsimp only
  (repeat' split) <;> simp
@[simp] theorem enterDropWait_vsq_queue (s : State) : (enterDropWait s).vsq.queue = s.vsq.queue := by
  unfold enterDropWait; try dsimp only
  (repeat' split) <;> simp
@[simp] theorem enterDropWait_vsq_tagCounter (s : State) : (enterDropWait s).vsq.tagCounter = s.vsq.tagCounter := by
  unfold enterDropWait; try dsimp only
  (repeat' split) <;> simp
@[simp] theorem enterDropWait_vsq_slots (s : State) : (enterDropWait s).vsq.slots = s.vsq.slots := by
  unfold enterDropWait; try dsimp only
  (repeat' split) <;> simp
@[simp] theorem leaveHome_pending (n : Nat) (s : State) : (leaveHome n s).pending = s.pending := by
  unfold leaveHome; try dsimp only
  (repeat' split) <;> simp
@[simp] theorem leaveHome_due (n : Nat) (s : State) : (leaveHome n s).due = s.due := by
  unfold leaveHome; try dsimp only
  (repeat' split) <;> simp
@[simp] theorem leaveHome_phase (n : Nat) (s : State) : (leaveHome n s).phase = s.phase := by
  unfold leaveHome; try dsimp only
  (repeat' split) <;> simp
@[simp] theorem leaveHome_inputs (n : Nat) (s : State) : (leaveHome n s).inputs = s.inputs := by
  unfold leaveHome; try dsimp only
  (repeat' split) <;> simp
@[simp] theorem leaveHome_outputs (n : Nat) (s : State) : (leaveHome n s).outputs = s.outputs := by
  unfold leaveHome; try dsimp only
  (repeat' split) <;> simp
@[simp] theorem leaveHome_params (n : Nat) (s : State) : (leaveHome n s).params = s.params := by
  unfold leaveHome; try dsimp only
  (repeat' split) <;> simp
@[simp] theorem leaveHome_cnu (n : Nat) (s : State) : (leaveHome n s).cnu = s.cnu := by
  unfold leaveHome; try dsimp only
  (repeat' split) <;> simp
@[simp] theorem leaveHome_cru (n : Nat) (s : State) : (leaveHome n s).cru = s.cru := by
  unfold leaveHome; try dsimp only
  (repeat' split) <;> simp
@[simp] theorem leaveHome_cca (n : Nat) (s : State) : (leaveHome n s).cca = s.cca := by
  unfold leaveHome; try dsimp only
  (repeat' split) <;> simp
@[simp] theorem leaveHome_mxd (n : Nat) (s : State) : (leaveHome n s).mxd = s.mxd := by
  unfold leaveHome; try dsimp only
  (repeat' split) <;> simp
@[simp] theorem leaveHome_rfc (n : Nat) (s : State) : (leaveHome n s).rfc = s.rfc := by
  unfold leaveHome; try dsimp only
  (repeat' split) <;> simp
@[simp] theorem leaveHome_lbu (n : Nat) (s : State) : (leaveHome n s).lbu = s.lbu := by
  unfold leaveHome; try dsimp only
  (repeat' split) <;> simp
@[simp] theorem leaveHome_lnk (n : Nat) (s : State) : (leaveHome n s).lnk = s.lnk := by
  unfold leaveHome; try dsimp only
  (repeat' split) <;> simp
@[simp] theorem leaveHome_ssu (n : Nat) (s : State) : (leaveHome n s).ssu = s.ssu := by
  unfold leaveHome; try dsimp only
  (repeat' split) <;> simp
@[simp] theorem leaveHome_vsq_state (n : Nat) (s : State) : (leaveHome n s).vsq.state = s.vsq.state := by
  unfold leaveHome; try dsimp only
  (repeat' split) <;> simp
@[simp] theorem leaveHome_vsq_vend (n : Nat) (s : State) : (leaveHome n s).vsq.vend = s.vsq.vend := by
  unfold leaveHome; try dsimp only
  (repeat' split) <;> simp
@[simp] theorem leaveHome_vsq_test (n : Nat) (s : State) : (leaveHome n s).vsq.test = s.vsq.test := by
  unfold leaveHome; try dsimp only
  (repeat' split) <;> simp
@[simp] theorem leaveHome_vsq_queue (n : Nat) (s : State) : (leaveHome n s).vsq.queue = s.vsq.queue := by
  unfold leaveHome; try dsimp only
  (repeat' split) <;> simp
@[simp] theorem leaveHome_vsq_tagCounter (n : Nat) (s : State) : (leaveHome n s).vsq.tagCounter = s.vsq.tagCounter := by
  unfold leaveHome; try dsimp only
  (repeat' split) <;> simp
@[simp] theorem finishTest_pending (s : State) : (finishTest s).pending = s.pending := by
  unfold finishTest; try dsimp only
  (repeat' split) <;> simp
@[simp] theorem finishTest_due (s : State) : (finishTest s).due = s.due := by
  unfold finishTest; try dsimp only
  (repeat' split) <;> simp
@[simp] theorem finishTest_phase (s : State) : (finishTest s).phase = s.phase := by
  unfold finishTest; try dsimp only
  (repeat' split) <;> simp
@[simp] theorem finishTest_inputs (s : State) : (finishTest s).inputs = s.inputs := by
  unfold finishTest; try dsimp only
  (repeat' split) <;> simp
@[simp] theorem finishTest_outputs (s : State) : (finishTest s).outputs = s.outputs := by
  unfold finishTest; try dsimp only
  (repeat' split) <;> simp
@[simp] theorem finishTest_params (s : State) : (finishTest s).params = s.params := by
  unfold finishTest; try dsimp only
  (repeat' split) <;> simp
@[simp] theorem finishTest_cnu (s : State) : (finishTest s).cnu = s.cnu := by
  unfold finishTest; try dsimp only
  (repeat' split) <;> simp
@[simp] theorem finishTest_cru (s : State) : (finishTest s).cru = s.cru := by
  unfold finishTest; try dsimp only
  (repeat' split) <;> simp
@[simp] theorem finishTest_cca (s : State) : (finishTest s).cca = s.cca := by
  unfold finishTest; try dsimp only
  (repeat' split) <;> simp
@[simp] theorem finishTest_mxd (s : State) : (finishTest s).mxd = s.mxd := by
  unfold finishTest; try dsimp only
  (repeat' split) <;> simp
@[simp] theorem finishTest_rfc (s : State) : (finishTest s).rfc = s.rfc := by
  unfold finishTest; try dsimp only
  (repeat' split) <;> simp
@[simp] theorem finishTest_ssu (s : State) : (finishTest s).ssu = s.ssu := by
  unfold finishTest; try dsimp only
  (repeat' split) <;> simp
@[simp] theorem finishTest_vsq_vend (s : State) : (finishTest s).vsq.vend = s.vsq.vend := by
  unfold finishTest; try dsimp only
  (repeat' split) <;> simp
@[simp] theorem finishTest_vsq_queue (s : State) : (finishTest s).vsq.queue = s.vsq.queue := by
  unfold finishTest; try dsimp only
  (repeat' split) <;> simp
@[simp] theorem finishTest_vsq_tagCounter (s : State) : (finishTest s).vsq.tagCounter = s.vsq.tagCounter := by
  unfold finishTest; try dsimp only
  (repeat' split) <;> simp
@[simp] theorem finishTest_vsq_slots (s : State) : (finishTest s).vsq.slots = s.vsq.slots := by
  unfold finishTest; try dsimp only
  (repeat' split) <;> simp
@[simp] theorem finishTest_lbu_peers (s : State) : (finishTest s).lbu.peers = s.lbu.peers := by
  unfold finishTest; try dsimp only
  (repeat' split) <;> simp
@[simp] theorem finishTest_lbu_motor (s : State) : (finishTest s).lbu.motor = s.lbu.motor := by
  unfold finishTest; try dsimp only
  (repeat' split) <;> simp
@[simp] theorem finishTest_lbu_compressor (s : State) : (finishTest s).lbu.compressor = s.lbu.compressor := by
  unfold finishTest; try dsimp only
  (repeat' split) <;> simp
@[simp] theorem finishTest_lbu_heater (s : State) : (finishTest s).lbu.heater = s.lbu.heater := by
  unfold finishTest; try dsimp only
  (repeat' split) <;> simp
@[simp] theorem finishTest_lbu_claimCounter (s : State) : (finishTest s).lbu.claimCounter = s.lbu.claimCounter := by
  unfold finishTest; try dsimp only
  (repeat' split) <;> simp
@[simp] theorem finishTest_lbu_ignored (s : State) : (finishTest s).lbu.ignored = s.lbu.ignored := by
  unfold finishTest; try dsimp only
  (repeat' split) <;> simp
@[simp] theorem finishTest_lbu_objectSum (s : State) : (finishTest s).lbu.objectSum = s.lbu.objectSum := by
  unfold finishTest; try dsimp only
  (repeat' split) <;> simp
@[simp] theorem finishTest_lnk_state (s : State) : (finishTest s).lnk.state = s.lnk.state := by
  unfold finishTest; try dsimp only
  (repeat' split) <;> simp
@[simp] theorem finishTest_lnk_heard (s : State) : (finishTest s).lnk.heard = s.lnk.heard := by
  unfold finishTest; try dsimp only
  (repeat' split) <;> simp
@[simp] theorem finishTest_lnk_acknowledged (s : State) : (finishTest s).lnk.acknowledged = s.lnk.acknowledged := by
  unfold finishTest; try dsimp only
  (repeat' split) <;> simp
@[simp] theorem finishTest_lnk_isolationTimer (s : State) : (finishTest s).lnk.isolationTimer = s.lnk.isolationTimer := by
  unfold finishTest; try dsimp only
  (repeat' split) <;> simp
@[simp] theorem finishTest_lnk_change (s : State) : (finishTest s).lnk.change = s.lnk.change := by
  unfold finishTest; try dsimp only
  (repeat' split) <;> simp
@[simp] theorem finishTest_lnk_periodTimer (s : State) : (finishTest s).lnk.periodTimer = s.lnk.periodTimer := by
  unfold finishTest; try dsimp only
  (repeat' split) <;> simp
@[simp] theorem finishTest_lnk_silentTimer (s : State) : (finishTest s).lnk.silentTimer = s.lnk.silentTimer := by
  unfold finishTest; try dsimp only
  (repeat' split) <;> simp
@[simp] theorem finishTest_lnk_failures (s : State) : (finishTest s).lnk.failures = s.lnk.failures := by
  unfold finishTest; try dsimp only
  (repeat' split) <;> simp
@[simp] theorem finishTest_lnk_unknownFrames (s : State) : (finishTest s).lnk.unknownFrames = s.lnk.unknownFrames := by
  unfold finishTest; try dsimp only
  (repeat' split) <;> simp
@[simp] theorem finishTest_lnk_droppedFrames (s : State) : (finishTest s).lnk.droppedFrames = s.lnk.droppedFrames := by
  unfold finishTest; try dsimp only
  (repeat' split) <;> simp
@[simp] theorem finishTest_lnk_silentEntries (s : State) : (finishTest s).lnk.silentEntries = s.lnk.silentEntries := by
  unfold finishTest; try dsimp only
  (repeat' split) <;> simp
@[simp] theorem endTest_pending (r : TestResult) (s : State) : (endTest r s).pending = s.pending := by
  unfold endTest; try dsimp only
  (repeat' split) <;> simp
@[simp] theorem endTest_due (r : TestResult) (s : State) : (endTest r s).due = s.due := by
  unfold endTest; try dsimp only
  (repeat' split) <;> simp
@[simp] theorem endTest_phase (r : TestResult) (s : State) : (endTest r s).phase = s.phase := by
  unfold endTest; try dsimp only
  (repeat' split) <;> simp
@[simp] theorem endTest_inputs (r : TestResult) (s : State) : (endTest r s).inputs = s.inputs := by
  unfold endTest; try dsimp only
  (repeat' split) <;> simp
@[simp] theorem endTest_outputs (r : TestResult) (s : State) : (endTest r s).outputs = s.outputs := by
  unfold endTest; try dsimp only
  (repeat' split) <;> simp
@[simp] theorem endTest_params (r : TestResult) (s : State) : (endTest r s).params = s.params := by
  unfold endTest; try dsimp only
  (repeat' split) <;> simp
@[simp] theorem endTest_cnu (r : TestResult) (s : State) : (endTest r s).cnu = s.cnu := by
  unfold endTest; try dsimp only
  (repeat' split) <;> simp
@[simp] theorem endTest_cru (r : TestResult) (s : State) : (endTest r s).cru = s.cru := by
  unfold endTest; try dsimp only
  (repeat' split) <;> simp
@[simp] theorem endTest_cca (r : TestResult) (s : State) : (endTest r s).cca = s.cca := by
  unfold endTest; try dsimp only
  (repeat' split) <;> simp
@[simp] theorem endTest_rfc (r : TestResult) (s : State) : (endTest r s).rfc = s.rfc := by
  unfold endTest; try dsimp only
  (repeat' split) <;> simp
@[simp] theorem endTest_ssu (r : TestResult) (s : State) : (endTest r s).ssu = s.ssu := by
  unfold endTest; try dsimp only
  (repeat' split) <;> simp
@[simp] theorem endTest_vsq_vend (r : TestResult) (s : State) : (endTest r s).vsq.vend = s.vsq.vend := by
  unfold endTest; try dsimp only
  (repeat' split) <;> simp
@[simp] theorem endTest_vsq_queue (r : TestResult) (s : State) : (endTest r s).vsq.queue = s.vsq.queue := by
  unfold endTest; try dsimp only
  (repeat' split) <;> simp
@[simp] theorem endTest_vsq_tagCounter (r : TestResult) (s : State) : (endTest r s).vsq.tagCounter = s.vsq.tagCounter := by
  unfold endTest; try dsimp only
  (repeat' split) <;> simp
@[simp] theorem endTest_vsq_slots (r : TestResult) (s : State) : (endTest r s).vsq.slots = s.vsq.slots := by
  unfold endTest; try dsimp only
  (repeat' split) <;> simp
@[simp] theorem endTest_mxd_state (r : TestResult) (s : State) : (endTest r s).mxd.state = s.mxd.state := by
  unfold endTest; try dsimp only
  (repeat' split) <;> simp
@[simp] theorem endTest_mxd_latch (r : TestResult) (s : State) : (endTest r s).mxd.latch = s.mxd.latch := by
  unfold endTest; try dsimp only
  (repeat' split) <;> simp
@[simp] theorem endTest_mxd_hold (r : TestResult) (s : State) : (endTest r s).mxd.hold = s.mxd.hold := by
  unfold endTest; try dsimp only
  (repeat' split) <;> simp
@[simp] theorem endTest_mxd_mismatch (r : TestResult) (s : State) : (endTest r s).mxd.mismatch = s.mxd.mismatch := by
  unfold endTest; try dsimp only
  (repeat' split) <;> simp
@[simp] theorem endTest_mxd_fault (r : TestResult) (s : State) : (endTest r s).mxd.fault = s.mxd.fault := by
  unfold endTest; try dsimp only
  (repeat' split) <;> simp
@[simp] theorem endTest_mxd_energised (r : TestResult) (s : State) : (endTest r s).mxd.energised = s.mxd.energised := by
  unfold endTest; try dsimp only
  (repeat' split) <;> simp
@[simp] theorem endTest_mxd_samples (r : TestResult) (s : State) : (endTest r s).mxd.samples = s.mxd.samples := by
  unfold endTest; try dsimp only
  (repeat' split) <;> simp
@[simp] theorem endTest_mxd_stallRun (r : TestResult) (s : State) : (endTest r s).mxd.stallRun = s.mxd.stallRun := by
  unfold endTest; try dsimp only
  (repeat' split) <;> simp
@[simp] theorem endTest_mxd_supervision (r : TestResult) (s : State) : (endTest r s).mxd.supervision = s.mxd.supervision := by
  unfold endTest; try dsimp only
  (repeat' split) <;> simp
@[simp] theorem endTest_mxd_lastSample (r : TestResult) (s : State) : (endTest r s).mxd.lastSample = s.mxd.lastSample := by
  unfold endTest; try dsimp only
  (repeat' split) <;> simp
@[simp] theorem endTest_mxd_tick (r : TestResult) (s : State) : (endTest r s).mxd.tick = s.mxd.tick := by
  unfold endTest; try dsimp only
  (repeat' split) <;> simp
@[simp] theorem endTest_lbu_peers (r : TestResult) (s : State) : (endTest r s).lbu.peers = s.lbu.peers := by
  unfold endTest; try dsimp only
  (repeat' split) <;> simp
@[simp] theorem endTest_lbu_ignored (r : TestResult) (s : State) : (endTest r s).lbu.ignored = s.lbu.ignored := by
  unfold endTest; try dsimp only
  (repeat' split) <;> simp
@[simp] theorem endTest_lbu_objectSum (r : TestResult) (s : State) : (endTest r s).lbu.objectSum = s.lbu.objectSum := by
  unfold endTest; try dsimp only
  (repeat' split) <;> simp
@[simp] theorem endTest_lnk_state (r : TestResult) (s : State) : (endTest r s).lnk.state = s.lnk.state := by
  unfold endTest; try dsimp only
  (repeat' split) <;> simp
@[simp] theorem endTest_lnk_heard (r : TestResult) (s : State) : (endTest r s).lnk.heard = s.lnk.heard := by
  unfold endTest; try dsimp only
  (repeat' split) <;> simp
@[simp] theorem endTest_lnk_acknowledged (r : TestResult) (s : State) : (endTest r s).lnk.acknowledged = s.lnk.acknowledged := by
  unfold endTest; try dsimp only
  (repeat' split) <;> simp
@[simp] theorem endTest_lnk_isolationTimer (r : TestResult) (s : State) : (endTest r s).lnk.isolationTimer = s.lnk.isolationTimer := by
  unfold endTest; try dsimp only
  (repeat' split) <;> simp
@[simp] theorem endTest_lnk_silentTimer (r : TestResult) (s : State) : (endTest r s).lnk.silentTimer = s.lnk.silentTimer := by
  unfold endTest; try dsimp only
  (repeat' split) <;> simp
@[simp] theorem endTest_lnk_failures (r : TestResult) (s : State) : (endTest r s).lnk.failures = s.lnk.failures := by
  unfold endTest; try dsimp only
  (repeat' split) <;> simp
@[simp] theorem endTest_lnk_unknownFrames (r : TestResult) (s : State) : (endTest r s).lnk.unknownFrames = s.lnk.unknownFrames := by
  unfold endTest; try dsimp only
  (repeat' split) <;> simp
@[simp] theorem endTest_lnk_droppedFrames (r : TestResult) (s : State) : (endTest r s).lnk.droppedFrames = s.lnk.droppedFrames := by
  unfold endTest; try dsimp only
  (repeat' split) <;> simp
@[simp] theorem endTest_lnk_silentEntries (r : TestResult) (s : State) : (endTest r s).lnk.silentEntries = s.lnk.silentEntries := by
  unfold endTest; try dsimp only
  (repeat' split) <;> simp
@[simp] theorem startTestMotor_pending (n : Nat) (b : Bool) (s : State) : (startTestMotor n b s).pending = s.pending := by
  unfold startTestMotor; try dsimp only
  (repeat' split) <;> simp
@[simp] theorem startTestMotor_due (n : Nat) (b : Bool) (s : State) : (startTestMotor n b s).due = s.due := by
  unfold startTestMotor; try dsimp only
  (repeat' split) <;> simp
@[simp] theorem startTestMotor_phase (n : Nat) (b : Bool) (s : State) : (startTestMotor n b s).phase = s.phase := by
  unfold startTestMotor; try dsimp only
  (repeat' split) <;> simp
@[simp] theorem startTestMotor_inputs (n : Nat) (b : Bool) (s : State) : (startTestMotor n b s).inputs = s.inputs := by
  unfold startTestMotor; try dsimp only
  (repeat' split) <;> simp
@[simp] theorem startTestMotor_outputs (n : Nat) (b : Bool) (s : State) : (startTestMotor n b s).outputs = s.outputs := by
  unfold startTestMotor; try dsimp only
  (repeat' split) <;> simp
@[simp] theorem startTestMotor_params (n : Nat) (b : Bool) (s : State) : (startTestMotor n b s).params = s.params := by
  unfold startTestMotor; try dsimp only
  (repeat' split) <;> simp
@[simp] theorem startTestMotor_cnu (n : Nat) (b : Bool) (s : State) : (startTestMotor n b s).cnu = s.cnu := by
  unfold startTestMotor; try dsimp only
  (repeat' split) <;> simp
@[simp] theorem startTestMotor_cru (n : Nat) (b : Bool) (s : State) : (startTestMotor n b s).cru = s.cru := by
  unfold startTestMotor; try dsimp only
  (repeat' split) <;> simp
@[simp] theorem startTestMotor_cca (n : Nat) (b : Bool) (s : State) : (startTestMotor n b s).cca = s.cca := by
  unfold startTestMotor; try dsimp only
  (repeat' split) <;> simp
@[simp] theorem startTestMotor_rfc (n : Nat) (b : Bool) (s : State) : (startTestMotor n b s).rfc = s.rfc := by
  unfold startTestMotor; try dsimp only
  (repeat' split) <;> simp
@[simp] theorem startTestMotor_lbu (n : Nat) (b : Bool) (s : State) : (startTestMotor n b s).lbu = s.lbu := by
  unfold startTestMotor; try dsimp only
  (repeat' split) <;> simp
@[simp] theorem startTestMotor_lnk (n : Nat) (b : Bool) (s : State) : (startTestMotor n b s).lnk = s.lnk := by
  unfold startTestMotor; try dsimp only
  (repeat' split) <;> simp
@[simp] theorem startTestMotor_ssu (n : Nat) (b : Bool) (s : State) : (startTestMotor n b s).ssu = s.ssu := by
  unfold startTestMotor; try dsimp only
  (repeat' split) <;> simp
@[simp] theorem startTestMotor_vsq_state (n : Nat) (b : Bool) (s : State) : (startTestMotor n b s).vsq.state = s.vsq.state := by
  unfold startTestMotor; try dsimp only
  (repeat' split) <;> simp
@[simp] theorem startTestMotor_vsq_vend (n : Nat) (b : Bool) (s : State) : (startTestMotor n b s).vsq.vend = s.vsq.vend := by
  unfold startTestMotor; try dsimp only
  (repeat' split) <;> simp
@[simp] theorem startTestMotor_vsq_queue (n : Nat) (b : Bool) (s : State) : (startTestMotor n b s).vsq.queue = s.vsq.queue := by
  unfold startTestMotor; try dsimp only
  (repeat' split) <;> simp
@[simp] theorem startTestMotor_vsq_tagCounter (n : Nat) (b : Bool) (s : State) : (startTestMotor n b s).vsq.tagCounter = s.vsq.tagCounter := by
  unfold startTestMotor; try dsimp only
  (repeat' split) <;> simp
@[simp] theorem startTestMotor_mxd_state (n : Nat) (b : Bool) (s : State) : (startTestMotor n b s).mxd.state = s.mxd.state := by
  unfold startTestMotor; try dsimp only
  (repeat' split) <;> simp
@[simp] theorem startTestMotor_mxd_latch (n : Nat) (b : Bool) (s : State) : (startTestMotor n b s).mxd.latch = s.mxd.latch := by
  unfold startTestMotor; try dsimp only
  (repeat' split) <;> simp
@[simp] theorem startTestMotor_mxd_hold (n : Nat) (b : Bool) (s : State) : (startTestMotor n b s).mxd.hold = s.mxd.hold := by
  unfold startTestMotor; try dsimp only
  (repeat' split) <;> simp
@[simp] theorem startTestMotor_mxd_mismatch (n : Nat) (b : Bool) (s : State) : (startTestMotor n b s).mxd.mismatch = s.mxd.mismatch := by
  unfold startTestMotor; try dsimp only
  (repeat' split) <;> simp
@[simp] theorem startTestMotor_mxd_fault (n : Nat) (b : Bool) (s : State) : (startTestMotor n b s).mxd.fault = s.mxd.fault := by
  unfold startTestMotor; try dsimp only
  (repeat' split) <;> simp
@[simp] theorem startTestMotor_mxd_energised (n : Nat) (b : Bool) (s : State) : (startTestMotor n b s).mxd.energised = s.mxd.energised := by
  unfold startTestMotor; try dsimp only
  (repeat' split) <;> simp
@[simp] theorem startTestMotor_mxd_samples (n : Nat) (b : Bool) (s : State) : (startTestMotor n b s).mxd.samples = s.mxd.samples := by
  unfold startTestMotor; try dsimp only
  (repeat' split) <;> simp
@[simp] theorem startTestMotor_mxd_stallRun (n : Nat) (b : Bool) (s : State) : (startTestMotor n b s).mxd.stallRun = s.mxd.stallRun := by
  unfold startTestMotor; try dsimp only
  (repeat' split) <;> simp
@[simp] theorem startTestMotor_mxd_supervision (n : Nat) (b : Bool) (s : State) : (startTestMotor n b s).mxd.supervision = s.mxd.supervision := by
  unfold startTestMotor; try dsimp only
  (repeat' split) <;> simp
@[simp] theorem startTestMotor_mxd_lastSample (n : Nat) (b : Bool) (s : State) : (startTestMotor n b s).mxd.lastSample = s.mxd.lastSample := by
  unfold startTestMotor; try dsimp only
  (repeat' split) <;> simp
@[simp] theorem startTestMotor_mxd_tick (n : Nat) (b : Bool) (s : State) : (startTestMotor n b s).mxd.tick = s.mxd.tick := by
  unfold startTestMotor; try dsimp only
  (repeat' split) <;> simp
@[simp] theorem beginTest_pending (n : Nat) (t : Slot) (g : Byte) (st : Station) (s : State) : (beginTest n t g st s).pending = s.pending := by
  unfold beginTest; try dsimp only
  (repeat' split) <;> simp
@[simp] theorem beginTest_due (n : Nat) (t : Slot) (g : Byte) (st : Station) (s : State) : (beginTest n t g st s).due = s.due := by
  unfold beginTest; try dsimp only
  (repeat' split) <;> simp
@[simp] theorem beginTest_phase (n : Nat) (t : Slot) (g : Byte) (st : Station) (s : State) : (beginTest n t g st s).phase = s.phase := by
  unfold beginTest; try dsimp only
  (repeat' split) <;> simp
@[simp] theorem beginTest_inputs (n : Nat) (t : Slot) (g : Byte) (st : Station) (s : State) : (beginTest n t g st s).inputs = s.inputs := by
  unfold beginTest; try dsimp only
  (repeat' split) <;> simp
@[simp] theorem beginTest_outputs (n : Nat) (t : Slot) (g : Byte) (st : Station) (s : State) : (beginTest n t g st s).outputs = s.outputs := by
  unfold beginTest; try dsimp only
  (repeat' split) <;> simp
@[simp] theorem beginTest_params (n : Nat) (t : Slot) (g : Byte) (st : Station) (s : State) : (beginTest n t g st s).params = s.params := by
  unfold beginTest; try dsimp only
  (repeat' split) <;> simp
@[simp] theorem beginTest_cnu (n : Nat) (t : Slot) (g : Byte) (st : Station) (s : State) : (beginTest n t g st s).cnu = s.cnu := by
  unfold beginTest; try dsimp only
  (repeat' split) <;> simp
@[simp] theorem beginTest_cru (n : Nat) (t : Slot) (g : Byte) (st : Station) (s : State) : (beginTest n t g st s).cru = s.cru := by
  unfold beginTest; try dsimp only
  (repeat' split) <;> simp
@[simp] theorem beginTest_cca (n : Nat) (t : Slot) (g : Byte) (st : Station) (s : State) : (beginTest n t g st s).cca = s.cca := by
  unfold beginTest; try dsimp only
  (repeat' split) <;> simp
@[simp] theorem beginTest_rfc (n : Nat) (t : Slot) (g : Byte) (st : Station) (s : State) : (beginTest n t g st s).rfc = s.rfc := by
  unfold beginTest; try dsimp only
  (repeat' split) <;> simp
@[simp] theorem beginTest_ssu (n : Nat) (t : Slot) (g : Byte) (st : Station) (s : State) : (beginTest n t g st s).ssu = s.ssu := by
  unfold beginTest; try dsimp only
  (repeat' split) <;> simp
@[simp] theorem beginTest_vsq_vend (n : Nat) (t : Slot) (g : Byte) (st : Station) (s : State) : (beginTest n t g st s).vsq.vend = s.vsq.vend := by
  unfold beginTest; try dsimp only
  (repeat' split) <;> simp
@[simp] theorem beginTest_vsq_queue (n : Nat) (t : Slot) (g : Byte) (st : Station) (s : State) : (beginTest n t g st s).vsq.queue = s.vsq.queue := by
  unfold beginTest; try dsimp only
  (repeat' split) <;> simp
@[simp] theorem beginTest_vsq_tagCounter (n : Nat) (t : Slot) (g : Byte) (st : Station) (s : State) : (beginTest n t g st s).vsq.tagCounter = s.vsq.tagCounter := by
  unfold beginTest; try dsimp only
  (repeat' split) <;> simp
@[simp] theorem beginTest_vsq_slots (n : Nat) (t : Slot) (g : Byte) (st : Station) (s : State) : (beginTest n t g st s).vsq.slots = s.vsq.slots := by
  unfold beginTest; try dsimp only
  (repeat' split) <;> simp
@[simp] theorem beginTest_mxd_state (n : Nat) (t : Slot) (g : Byte) (st : Station) (s : State) : (beginTest n t g st s).mxd.state = s.mxd.state := by
  unfold beginTest; try dsimp only
  (repeat' split) <;> simp
@[simp] theorem beginTest_mxd_latch (n : Nat) (t : Slot) (g : Byte) (st : Station) (s : State) : (beginTest n t g st s).mxd.latch = s.mxd.latch := by
  unfold beginTest; try dsimp only
  (repeat' split) <;> simp
@[simp] theorem beginTest_mxd_hold (n : Nat) (t : Slot) (g : Byte) (st : Station) (s : State) : (beginTest n t g st s).mxd.hold = s.mxd.hold := by
  unfold beginTest; try dsimp only
  (repeat' split) <;> simp
@[simp] theorem beginTest_mxd_mismatch (n : Nat) (t : Slot) (g : Byte) (st : Station) (s : State) : (beginTest n t g st s).mxd.mismatch = s.mxd.mismatch := by
  unfold beginTest; try dsimp only
  (repeat' split) <;> simp
@[simp] theorem beginTest_mxd_fault (n : Nat) (t : Slot) (g : Byte) (st : Station) (s : State) : (beginTest n t g st s).mxd.fault = s.mxd.fault := by
  unfold beginTest; try dsimp only
  (repeat' split) <;> simp
@[simp] theorem beginTest_mxd_energised (n : Nat) (t : Slot) (g : Byte) (st : Station) (s : State) : (beginTest n t g st s).mxd.energised = s.mxd.energised := by
  unfold beginTest; try dsimp only
  (repeat' split) <;> simp
@[simp] theorem beginTest_mxd_samples (n : Nat) (t : Slot) (g : Byte) (st : Station) (s : State) : (beginTest n t g st s).mxd.samples = s.mxd.samples := by
  unfold beginTest; try dsimp only
  (repeat' split) <;> simp
@[simp] theorem beginTest_mxd_stallRun (n : Nat) (t : Slot) (g : Byte) (st : Station) (s : State) : (beginTest n t g st s).mxd.stallRun = s.mxd.stallRun := by
  unfold beginTest; try dsimp only
  (repeat' split) <;> simp
@[simp] theorem beginTest_mxd_supervision (n : Nat) (t : Slot) (g : Byte) (st : Station) (s : State) : (beginTest n t g st s).mxd.supervision = s.mxd.supervision := by
  unfold beginTest; try dsimp only
  (repeat' split) <;> simp
@[simp] theorem beginTest_mxd_lastSample (n : Nat) (t : Slot) (g : Byte) (st : Station) (s : State) : (beginTest n t g st s).mxd.lastSample = s.mxd.lastSample := by
  unfold beginTest; try dsimp only
  (repeat' split) <;> simp
@[simp] theorem beginTest_mxd_tick (n : Nat) (t : Slot) (g : Byte) (st : Station) (s : State) : (beginTest n t g st s).mxd.tick = s.mxd.tick := by
  unfold beginTest; try dsimp only
  (repeat' split) <;> simp
@[simp] theorem beginTest_lbu_peers (n : Nat) (t : Slot) (g : Byte) (st : Station) (s : State) : (beginTest n t g st s).lbu.peers = s.lbu.peers := by
  unfold beginTest; try dsimp only
  (repeat' split) <;> simp
@[simp] theorem beginTest_lbu_ignored (n : Nat) (t : Slot) (g : Byte) (st : Station) (s : State) : (beginTest n t g st s).lbu.ignored = s.lbu.ignored := by
  unfold beginTest; try dsimp only
  (repeat' split) <;> simp
@[simp] theorem beginTest_lbu_objectSum (n : Nat) (t : Slot) (g : Byte) (st : Station) (s : State) : (beginTest n t g st s).lbu.objectSum = s.lbu.objectSum := by
  unfold beginTest; try dsimp only
  (repeat' split) <;> simp
@[simp] theorem beginTest_lnk_state (n : Nat) (t : Slot) (g : Byte) (st : Station) (s : State) : (beginTest n t g st s).lnk.state = s.lnk.state := by
  unfold beginTest; try dsimp only
  (repeat' split) <;> simp
@[simp] theorem beginTest_lnk_heard (n : Nat) (t : Slot) (g : Byte) (st : Station) (s : State) : (beginTest n t g st s).lnk.heard = s.lnk.heard := by
  unfold beginTest; try dsimp only
  (repeat' split) <;> simp
@[simp] theorem beginTest_lnk_acknowledged (n : Nat) (t : Slot) (g : Byte) (st : Station) (s : State) : (beginTest n t g st s).lnk.acknowledged = s.lnk.acknowledged := by
  unfold beginTest; try dsimp only
  (repeat' split) <;> simp
@[simp] theorem beginTest_lnk_isolationTimer (n : Nat) (t : Slot) (g : Byte) (st : Station) (s : State) : (beginTest n t g st s).lnk.isolationTimer = s.lnk.isolationTimer := by
  unfold beginTest; try dsimp only
  (repeat' split) <;> simp
@[simp] theorem beginTest_lnk_silentTimer (n : Nat) (t : Slot) (g : Byte) (st : Station) (s : State) : (beginTest n t g st s).lnk.silentTimer = s.lnk.silentTimer := by
  unfold beginTest; try dsimp only
  (repeat' split) <;> simp
@[simp] theorem beginTest_lnk_failures (n : Nat) (t : Slot) (g : Byte) (st : Station) (s : State) : (beginTest n t g st s).lnk.failures = s.lnk.failures := by
  unfold beginTest; try dsimp only
  (repeat' split) <;> simp
@[simp] theorem beginTest_lnk_unknownFrames (n : Nat) (t : Slot) (g : Byte) (st : Station) (s : State) : (beginTest n t g st s).lnk.unknownFrames = s.lnk.unknownFrames := by
  unfold beginTest; try dsimp only
  (repeat' split) <;> simp
@[simp] theorem beginTest_lnk_droppedFrames (n : Nat) (t : Slot) (g : Byte) (st : Station) (s : State) : (beginTest n t g st s).lnk.droppedFrames = s.lnk.droppedFrames := by
  unfold beginTest; try dsimp only
  (repeat' split) <;> simp
@[simp] theorem beginTest_lnk_silentEntries (n : Nat) (t : Slot) (g : Byte) (st : Station) (s : State) : (beginTest n t g st s).lnk.silentEntries = s.lnk.silentEntries := by
  unfold beginTest; try dsimp only
  (repeat' split) <;> simp
@[simp] theorem askDebit_pending (v : Vend) (n : Byte) (e : Option Half) (b : Bool) (s : State) : (askDebit v n e b s).pending = s.pending := by
  unfold askDebit; try dsimp only
  (repeat' split) <;> simp
@[simp] theorem askDebit_due (v : Vend) (n : Byte) (e : Option Half) (b : Bool) (s : State) : (askDebit v n e b s).due = s.due := by
  unfold askDebit; try dsimp only
  (repeat' split) <;> simp
@[simp] theorem askDebit_phase (v : Vend) (n : Byte) (e : Option Half) (b : Bool) (s : State) : (askDebit v n e b s).phase = s.phase := by
  unfold askDebit; try dsimp only
  (repeat' split) <;> simp
@[simp] theorem askDebit_inputs (v : Vend) (n : Byte) (e : Option Half) (b : Bool) (s : State) : (askDebit v n e b s).inputs = s.inputs := by
  unfold askDebit; try dsimp only
  (repeat' split) <;> simp
@[simp] theorem askDebit_outputs (v : Vend) (n : Byte) (e : Option Half) (b : Bool) (s : State) : (askDebit v n e b s).outputs = s.outputs := by
  unfold askDebit; try dsimp only
  (repeat' split) <;> simp
@[simp] theorem askDebit_params (v : Vend) (n : Byte) (e : Option Half) (b : Bool) (s : State) : (askDebit v n e b s).params = s.params := by
  unfold askDebit; try dsimp only
  (repeat' split) <;> simp
@[simp] theorem askDebit_cnu (v : Vend) (n : Byte) (e : Option Half) (b : Bool) (s : State) : (askDebit v n e b s).cnu = s.cnu := by
  unfold askDebit; try dsimp only
  (repeat' split) <;> simp
@[simp] theorem askDebit_cca (v : Vend) (n : Byte) (e : Option Half) (b : Bool) (s : State) : (askDebit v n e b s).cca = s.cca := by
  unfold askDebit; try dsimp only
  (repeat' split) <;> simp
@[simp] theorem askDebit_rfc (v : Vend) (n : Byte) (e : Option Half) (b : Bool) (s : State) : (askDebit v n e b s).rfc = s.rfc := by
  unfold askDebit; try dsimp only
  (repeat' split) <;> simp
@[simp] theorem askDebit_cru_probeShort (v : Vend) (n : Byte) (e : Option Half) (b : Bool) (s : State) : (askDebit v n e b s).cru.probeShort = s.cru.probeShort := by
  unfold askDebit; try dsimp only
  (repeat' split) <;> simp
@[simp] theorem askDebit_cru_strayExits (v : Vend) (n : Byte) (e : Option Half) (b : Bool) (s : State) : (askDebit v n e b s).cru.strayExits = s.cru.strayExits := by
  unfold askDebit; try dsimp only
  (repeat' split) <;> simp
@[simp] theorem askDebit_vsq_test (v : Vend) (n : Byte) (e : Option Half) (b : Bool) (s : State) : (askDebit v n e b s).vsq.test = s.vsq.test := by
  unfold askDebit; try dsimp only
  (repeat' split) <;> simp
@[simp] theorem askDebit_vsq_queue (v : Vend) (n : Byte) (e : Option Half) (b : Bool) (s : State) : (askDebit v n e b s).vsq.queue = s.vsq.queue := by
  unfold askDebit; try dsimp only
  (repeat' split) <;> simp
@[simp] theorem askDebit_mxd_state (v : Vend) (n : Byte) (e : Option Half) (b : Bool) (s : State) : (askDebit v n e b s).mxd.state = s.mxd.state := by
  unfold askDebit; try dsimp only
  (repeat' split) <;> simp
@[simp] theorem askDebit_mxd_latch (v : Vend) (n : Byte) (e : Option Half) (b : Bool) (s : State) : (askDebit v n e b s).mxd.latch = s.mxd.latch := by
  unfold askDebit; try dsimp only
  (repeat' split) <;> simp
@[simp] theorem askDebit_mxd_hold (v : Vend) (n : Byte) (e : Option Half) (b : Bool) (s : State) : (askDebit v n e b s).mxd.hold = s.mxd.hold := by
  unfold askDebit; try dsimp only
  (repeat' split) <;> simp
@[simp] theorem askDebit_mxd_mismatch (v : Vend) (n : Byte) (e : Option Half) (b : Bool) (s : State) : (askDebit v n e b s).mxd.mismatch = s.mxd.mismatch := by
  unfold askDebit; try dsimp only
  (repeat' split) <;> simp
@[simp] theorem askDebit_mxd_fault (v : Vend) (n : Byte) (e : Option Half) (b : Bool) (s : State) : (askDebit v n e b s).mxd.fault = s.mxd.fault := by
  unfold askDebit; try dsimp only
  (repeat' split) <;> simp
@[simp] theorem askDebit_mxd_energised (v : Vend) (n : Byte) (e : Option Half) (b : Bool) (s : State) : (askDebit v n e b s).mxd.energised = s.mxd.energised := by
  unfold askDebit; try dsimp only
  (repeat' split) <;> simp
@[simp] theorem askDebit_mxd_samples (v : Vend) (n : Byte) (e : Option Half) (b : Bool) (s : State) : (askDebit v n e b s).mxd.samples = s.mxd.samples := by
  unfold askDebit; try dsimp only
  (repeat' split) <;> simp
@[simp] theorem askDebit_mxd_stallRun (v : Vend) (n : Byte) (e : Option Half) (b : Bool) (s : State) : (askDebit v n e b s).mxd.stallRun = s.mxd.stallRun := by
  unfold askDebit; try dsimp only
  (repeat' split) <;> simp
@[simp] theorem askDebit_mxd_supervision (v : Vend) (n : Byte) (e : Option Half) (b : Bool) (s : State) : (askDebit v n e b s).mxd.supervision = s.mxd.supervision := by
  unfold askDebit; try dsimp only
  (repeat' split) <;> simp
@[simp] theorem askDebit_mxd_lastSample (v : Vend) (n : Byte) (e : Option Half) (b : Bool) (s : State) : (askDebit v n e b s).mxd.lastSample = s.mxd.lastSample := by
  unfold askDebit; try dsimp only
  (repeat' split) <;> simp
@[simp] theorem askDebit_mxd_tick (v : Vend) (n : Byte) (e : Option Half) (b : Bool) (s : State) : (askDebit v n e b s).mxd.tick = s.mxd.tick := by
  unfold askDebit; try dsimp only
  (repeat' split) <;> simp
@[simp] theorem askDebit_lbu_peers (v : Vend) (n : Byte) (e : Option Half) (b : Bool) (s : State) : (askDebit v n e b s).lbu.peers = s.lbu.peers := by
  unfold askDebit; try dsimp only
  (repeat' split) <;> simp
@[simp] theorem askDebit_lbu_ignored (v : Vend) (n : Byte) (e : Option Half) (b : Bool) (s : State) : (askDebit v n e b s).lbu.ignored = s.lbu.ignored := by
  unfold askDebit; try dsimp only
  (repeat' split) <;> simp
@[simp] theorem askDebit_lbu_objectSum (v : Vend) (n : Byte) (e : Option Half) (b : Bool) (s : State) : (askDebit v n e b s).lbu.objectSum = s.lbu.objectSum := by
  unfold askDebit; try dsimp only
  (repeat' split) <;> simp
@[simp] theorem askDebit_lnk_state (v : Vend) (n : Byte) (e : Option Half) (b : Bool) (s : State) : (askDebit v n e b s).lnk.state = s.lnk.state := by
  unfold askDebit; try dsimp only
  (repeat' split) <;> simp
@[simp] theorem askDebit_lnk_heard (v : Vend) (n : Byte) (e : Option Half) (b : Bool) (s : State) : (askDebit v n e b s).lnk.heard = s.lnk.heard := by
  unfold askDebit; try dsimp only
  (repeat' split) <;> simp
@[simp] theorem askDebit_lnk_acknowledged (v : Vend) (n : Byte) (e : Option Half) (b : Bool) (s : State) : (askDebit v n e b s).lnk.acknowledged = s.lnk.acknowledged := by
  unfold askDebit; try dsimp only
  (repeat' split) <;> simp
@[simp] theorem askDebit_lnk_isolationTimer (v : Vend) (n : Byte) (e : Option Half) (b : Bool) (s : State) : (askDebit v n e b s).lnk.isolationTimer = s.lnk.isolationTimer := by
  unfold askDebit; try dsimp only
  (repeat' split) <;> simp
@[simp] theorem askDebit_lnk_silentTimer (v : Vend) (n : Byte) (e : Option Half) (b : Bool) (s : State) : (askDebit v n e b s).lnk.silentTimer = s.lnk.silentTimer := by
  unfold askDebit; try dsimp only
  (repeat' split) <;> simp
@[simp] theorem askDebit_lnk_failures (v : Vend) (n : Byte) (e : Option Half) (b : Bool) (s : State) : (askDebit v n e b s).lnk.failures = s.lnk.failures := by
  unfold askDebit; try dsimp only
  (repeat' split) <;> simp
@[simp] theorem askDebit_lnk_unknownFrames (v : Vend) (n : Byte) (e : Option Half) (b : Bool) (s : State) : (askDebit v n e b s).lnk.unknownFrames = s.lnk.unknownFrames := by
  unfold askDebit; try dsimp only
  (repeat' split) <;> simp
@[simp] theorem askDebit_lnk_droppedFrames (v : Vend) (n : Byte) (e : Option Half) (b : Bool) (s : State) : (askDebit v n e b s).lnk.droppedFrames = s.lnk.droppedFrames := by
  unfold askDebit; try dsimp only
  (repeat' split) <;> simp
@[simp] theorem askDebit_lnk_silentEntries (v : Vend) (n : Byte) (e : Option Half) (b : Bool) (s : State) : (askDebit v n e b s).lnk.silentEntries = s.lnk.silentEntries := by
  unfold askDebit; try dsimp only
  (repeat' split) <;> simp
@[simp] theorem askDebit_ssu_own (v : Vend) (n : Byte) (e : Option Half) (b : Bool) (s : State) : (askDebit v n e b s).ssu.own = s.ssu.own := by
  unfold askDebit; try dsimp only
  (repeat' split) <;> simp
@[simp] theorem askDebit_ssu_cause (v : Vend) (n : Byte) (e : Option Half) (b : Bool) (s : State) : (askDebit v n e b s).ssu.cause = s.ssu.cause := by
  unfold askDebit; try dsimp only
  (repeat' split) <;> simp
@[simp] theorem askDebit_ssu_imageStatus (v : Vend) (n : Byte) (e : Option Half) (b : Bool) (s : State) : (askDebit v n e b s).ssu.imageStatus = s.ssu.imageStatus := by
  unfold askDebit; try dsimp only
  (repeat' split) <;> simp
@[simp] theorem askDebit_ssu_auditGood (v : Vend) (n : Byte) (e : Option Half) (b : Bool) (s : State) : (askDebit v n e b s).ssu.auditGood = s.ssu.auditGood := by
  unfold askDebit; try dsimp only
  (repeat' split) <;> simp
@[simp] theorem askDebit_ssu_snapshot (v : Vend) (n : Byte) (e : Option Half) (b : Bool) (s : State) : (askDebit v n e b s).ssu.snapshot = s.ssu.snapshot := by
  unfold askDebit; try dsimp only
  (repeat' split) <;> simp
@[simp] theorem askDebit_ssu_saveOwed (v : Vend) (n : Byte) (e : Option Half) (b : Bool) (s : State) : (askDebit v n e b s).ssu.saveOwed = s.ssu.saveOwed := by
  unfold askDebit; try dsimp only
  (repeat' split) <;> simp
@[simp] theorem askDebit_ssu_lastSave (v : Vend) (n : Byte) (e : Option Half) (b : Bool) (s : State) : (askDebit v n e b s).ssu.lastSave = s.ssu.lastSave := by
  unfold askDebit; try dsimp only
  (repeat' split) <;> simp
@[simp] theorem askDebit_ssu_auditArea (v : Vend) (n : Byte) (e : Option Half) (b : Bool) (s : State) : (askDebit v n e b s).ssu.auditArea = s.ssu.auditArea := by
  unfold askDebit; try dsimp only
  (repeat' split) <;> simp
@[simp] theorem endUnpaid_pending (o : VendOutcome) (s : State) : (endUnpaid o s).pending = s.pending := by
  unfold endUnpaid; try dsimp only
  (repeat' split) <;> simp
@[simp] theorem endUnpaid_due (o : VendOutcome) (s : State) : (endUnpaid o s).due = s.due := by
  unfold endUnpaid; try dsimp only
  (repeat' split) <;> simp
@[simp] theorem endUnpaid_phase (o : VendOutcome) (s : State) : (endUnpaid o s).phase = s.phase := by
  unfold endUnpaid; try dsimp only
  (repeat' split) <;> simp
@[simp] theorem endUnpaid_inputs (o : VendOutcome) (s : State) : (endUnpaid o s).inputs = s.inputs := by
  unfold endUnpaid; try dsimp only
  (repeat' split) <;> simp
@[simp] theorem endUnpaid_outputs (o : VendOutcome) (s : State) : (endUnpaid o s).outputs = s.outputs := by
  unfold endUnpaid; try dsimp only
  (repeat' split) <;> simp
@[simp] theorem endUnpaid_params (o : VendOutcome) (s : State) : (endUnpaid o s).params = s.params := by
  unfold endUnpaid; try dsimp only
  (repeat' split) <;> simp
@[simp] theorem endUnpaid_cnu (o : VendOutcome) (s : State) : (endUnpaid o s).cnu = s.cnu := by
  unfold endUnpaid; try dsimp only
  (repeat' split) <;> simp
@[simp] theorem endUnpaid_cca (o : VendOutcome) (s : State) : (endUnpaid o s).cca = s.cca := by
  unfold endUnpaid; try dsimp only
  (repeat' split) <;> simp
@[simp] theorem endUnpaid_rfc (o : VendOutcome) (s : State) : (endUnpaid o s).rfc = s.rfc := by
  unfold endUnpaid; try dsimp only
  (repeat' split) <;> simp
@[simp] theorem endUnpaid_cru_probeShort (o : VendOutcome) (s : State) : (endUnpaid o s).cru.probeShort = s.cru.probeShort := by
  unfold endUnpaid; try dsimp only
  (repeat' split) <;> simp
@[simp] theorem endUnpaid_cru_strayExits (o : VendOutcome) (s : State) : (endUnpaid o s).cru.strayExits = s.cru.strayExits := by
  unfold endUnpaid; try dsimp only
  (repeat' split) <;> simp
@[simp] theorem endUnpaid_vsq_test (o : VendOutcome) (s : State) : (endUnpaid o s).vsq.test = s.vsq.test := by
  unfold endUnpaid; try dsimp only
  (repeat' split) <;> simp
@[simp] theorem endUnpaid_vsq_queue (o : VendOutcome) (s : State) : (endUnpaid o s).vsq.queue = s.vsq.queue := by
  unfold endUnpaid; try dsimp only
  (repeat' split) <;> simp
@[simp] theorem endUnpaid_vsq_tagCounter (o : VendOutcome) (s : State) : (endUnpaid o s).vsq.tagCounter = s.vsq.tagCounter := by
  unfold endUnpaid; try dsimp only
  (repeat' split) <;> simp
@[simp] theorem endUnpaid_mxd_state (o : VendOutcome) (s : State) : (endUnpaid o s).mxd.state = s.mxd.state := by
  unfold endUnpaid; try dsimp only
  (repeat' split) <;> simp
@[simp] theorem endUnpaid_mxd_latch (o : VendOutcome) (s : State) : (endUnpaid o s).mxd.latch = s.mxd.latch := by
  unfold endUnpaid; try dsimp only
  (repeat' split) <;> simp
@[simp] theorem endUnpaid_mxd_hold (o : VendOutcome) (s : State) : (endUnpaid o s).mxd.hold = s.mxd.hold := by
  unfold endUnpaid; try dsimp only
  (repeat' split) <;> simp
@[simp] theorem endUnpaid_mxd_mismatch (o : VendOutcome) (s : State) : (endUnpaid o s).mxd.mismatch = s.mxd.mismatch := by
  unfold endUnpaid; try dsimp only
  (repeat' split) <;> simp
@[simp] theorem endUnpaid_mxd_fault (o : VendOutcome) (s : State) : (endUnpaid o s).mxd.fault = s.mxd.fault := by
  unfold endUnpaid; try dsimp only
  (repeat' split) <;> simp
@[simp] theorem endUnpaid_mxd_energised (o : VendOutcome) (s : State) : (endUnpaid o s).mxd.energised = s.mxd.energised := by
  unfold endUnpaid; try dsimp only
  (repeat' split) <;> simp
@[simp] theorem endUnpaid_mxd_samples (o : VendOutcome) (s : State) : (endUnpaid o s).mxd.samples = s.mxd.samples := by
  unfold endUnpaid; try dsimp only
  (repeat' split) <;> simp
@[simp] theorem endUnpaid_mxd_stallRun (o : VendOutcome) (s : State) : (endUnpaid o s).mxd.stallRun = s.mxd.stallRun := by
  unfold endUnpaid; try dsimp only
  (repeat' split) <;> simp
@[simp] theorem endUnpaid_mxd_supervision (o : VendOutcome) (s : State) : (endUnpaid o s).mxd.supervision = s.mxd.supervision := by
  unfold endUnpaid; try dsimp only
  (repeat' split) <;> simp
@[simp] theorem endUnpaid_mxd_lastSample (o : VendOutcome) (s : State) : (endUnpaid o s).mxd.lastSample = s.mxd.lastSample := by
  unfold endUnpaid; try dsimp only
  (repeat' split) <;> simp
@[simp] theorem endUnpaid_mxd_tick (o : VendOutcome) (s : State) : (endUnpaid o s).mxd.tick = s.mxd.tick := by
  unfold endUnpaid; try dsimp only
  (repeat' split) <;> simp
@[simp] theorem endUnpaid_lbu_peers (o : VendOutcome) (s : State) : (endUnpaid o s).lbu.peers = s.lbu.peers := by
  unfold endUnpaid; try dsimp only
  (repeat' split) <;> simp
@[simp] theorem endUnpaid_lbu_ignored (o : VendOutcome) (s : State) : (endUnpaid o s).lbu.ignored = s.lbu.ignored := by
  unfold endUnpaid; try dsimp only
  (repeat' split) <;> simp
@[simp] theorem endUnpaid_lbu_objectSum (o : VendOutcome) (s : State) : (endUnpaid o s).lbu.objectSum = s.lbu.objectSum := by
  unfold endUnpaid; try dsimp only
  (repeat' split) <;> simp
@[simp] theorem endUnpaid_lnk_state (o : VendOutcome) (s : State) : (endUnpaid o s).lnk.state = s.lnk.state := by
  unfold endUnpaid; try dsimp only
  (repeat' split) <;> simp
@[simp] theorem endUnpaid_lnk_heard (o : VendOutcome) (s : State) : (endUnpaid o s).lnk.heard = s.lnk.heard := by
  unfold endUnpaid; try dsimp only
  (repeat' split) <;> simp
@[simp] theorem endUnpaid_lnk_acknowledged (o : VendOutcome) (s : State) : (endUnpaid o s).lnk.acknowledged = s.lnk.acknowledged := by
  unfold endUnpaid; try dsimp only
  (repeat' split) <;> simp
@[simp] theorem endUnpaid_lnk_isolationTimer (o : VendOutcome) (s : State) : (endUnpaid o s).lnk.isolationTimer = s.lnk.isolationTimer := by
  unfold endUnpaid; try dsimp only
  (repeat' split) <;> simp
@[simp] theorem endUnpaid_lnk_silentTimer (o : VendOutcome) (s : State) : (endUnpaid o s).lnk.silentTimer = s.lnk.silentTimer := by
  unfold endUnpaid; try dsimp only
  (repeat' split) <;> simp
@[simp] theorem endUnpaid_lnk_failures (o : VendOutcome) (s : State) : (endUnpaid o s).lnk.failures = s.lnk.failures := by
  unfold endUnpaid; try dsimp only
  (repeat' split) <;> simp
@[simp] theorem endUnpaid_lnk_unknownFrames (o : VendOutcome) (s : State) : (endUnpaid o s).lnk.unknownFrames = s.lnk.unknownFrames := by
  unfold endUnpaid; try dsimp only
  (repeat' split) <;> simp
@[simp] theorem endUnpaid_lnk_droppedFrames (o : VendOutcome) (s : State) : (endUnpaid o s).lnk.droppedFrames = s.lnk.droppedFrames := by
  unfold endUnpaid; try dsimp only
  (repeat' split) <;> simp
@[simp] theorem endUnpaid_lnk_silentEntries (o : VendOutcome) (s : State) : (endUnpaid o s).lnk.silentEntries = s.lnk.silentEntries := by
  unfold endUnpaid; try dsimp only
  (repeat' split) <;> simp
@[simp] theorem endUnpaid_ssu_own (o : VendOutcome) (s : State) : (endUnpaid o s).ssu.own = s.ssu.own := by
  unfold endUnpaid; try dsimp only
  (repeat' split) <;> simp
@[simp] theorem endUnpaid_ssu_cause (o : VendOutcome) (s : State) : (endUnpaid o s).ssu.cause = s.ssu.cause := by
  unfold endUnpaid; try dsimp only
  (repeat' split) <;> simp
@[simp] theorem endUnpaid_ssu_imageStatus (o : VendOutcome) (s : State) : (endUnpaid o s).ssu.imageStatus = s.ssu.imageStatus := by
  unfold endUnpaid; try dsimp only
  (repeat' split) <;> simp
@[simp] theorem endUnpaid_ssu_auditGood (o : VendOutcome) (s : State) : (endUnpaid o s).ssu.auditGood = s.ssu.auditGood := by
  unfold endUnpaid; try dsimp only
  (repeat' split) <;> simp
@[simp] theorem endUnpaid_ssu_snapshot (o : VendOutcome) (s : State) : (endUnpaid o s).ssu.snapshot = s.ssu.snapshot := by
  unfold endUnpaid; try dsimp only
  (repeat' split) <;> simp
@[simp] theorem endUnpaid_ssu_saveOwed (o : VendOutcome) (s : State) : (endUnpaid o s).ssu.saveOwed = s.ssu.saveOwed := by
  unfold endUnpaid; try dsimp only
  (repeat' split) <;> simp
@[simp] theorem endUnpaid_ssu_lastSave (o : VendOutcome) (s : State) : (endUnpaid o s).ssu.lastSave = s.ssu.lastSave := by
  unfold endUnpaid; try dsimp only
  (repeat' split) <;> simp
@[simp] theorem endUnpaid_ssu_auditArea (o : VendOutcome) (s : State) : (endUnpaid o s).ssu.auditArea = s.ssu.auditArea := by
  unfold endUnpaid; try dsimp only
  (repeat' split) <;> simp
@[simp] theorem debitGranted_pending (t n : Byte) (s : State) : (debitGranted t n s).pending = s.pending := by
  unfold debitGranted; try dsimp only
  (repeat' split) <;> simp
@[simp] theorem debitGranted_due (t n : Byte) (s : State) : (debitGranted t n s).due = s.due := by
  unfold debitGranted; try dsimp only
  (repeat' split) <;> simp
@[simp] theorem debitGranted_phase (t n : Byte) (s : State) : (debitGranted t n s).phase = s.phase := by
  unfold debitGranted; try dsimp only
  (repeat' split) <;> simp
@[simp] theorem debitGranted_inputs (t n : Byte) (s : State) : (debitGranted t n s).inputs = s.inputs := by
  unfold debitGranted; try dsimp only
  (repeat' split) <;> simp
@[simp] theorem debitGranted_outputs (t n : Byte) (s : State) : (debitGranted t n s).outputs = s.outputs := by
  unfold debitGranted; try dsimp only
  (repeat' split) <;> simp
@[simp] theorem debitGranted_params (t n : Byte) (s : State) : (debitGranted t n s).params = s.params := by
  unfold debitGranted; try dsimp only
  (repeat' split) <;> simp
@[simp] theorem debitGranted_cnu (t n : Byte) (s : State) : (debitGranted t n s).cnu = s.cnu := by
  unfold debitGranted; try dsimp only
  (repeat' split) <;> simp
@[simp] theorem debitGranted_cru (t n : Byte) (s : State) : (debitGranted t n s).cru = s.cru := by
  unfold debitGranted; try dsimp only
  (repeat' split) <;> simp
@[simp] theorem debitGranted_cca (t n : Byte) (s : State) : (debitGranted t n s).cca = s.cca := by
  unfold debitGranted; try dsimp only
  (repeat' split) <;> simp
@[simp] theorem debitGranted_mxd (t n : Byte) (s : State) : (debitGranted t n s).mxd = s.mxd := by
  unfold debitGranted; try dsimp only
  (repeat' split) <;> simp
@[simp] theorem debitGranted_rfc (t n : Byte) (s : State) : (debitGranted t n s).rfc = s.rfc := by
  unfold debitGranted; try dsimp only
  (repeat' split) <;> simp
@[simp] theorem debitGranted_ssu (t n : Byte) (s : State) : (debitGranted t n s).ssu = s.ssu := by
  unfold debitGranted; try dsimp only
  (repeat' split) <;> simp
@[simp] theorem debitGranted_vsq_test (t n : Byte) (s : State) : (debitGranted t n s).vsq.test = s.vsq.test := by
  unfold debitGranted; try dsimp only
  (repeat' split) <;> simp
@[simp] theorem debitGranted_vsq_queue (t n : Byte) (s : State) : (debitGranted t n s).vsq.queue = s.vsq.queue := by
  unfold debitGranted; try dsimp only
  (repeat' split) <;> simp
@[simp] theorem debitGranted_vsq_tagCounter (t n : Byte) (s : State) : (debitGranted t n s).vsq.tagCounter = s.vsq.tagCounter := by
  unfold debitGranted; try dsimp only
  (repeat' split) <;> simp
@[simp] theorem debitGranted_vsq_slots (t n : Byte) (s : State) : (debitGranted t n s).vsq.slots = s.vsq.slots := by
  unfold debitGranted; try dsimp only
  (repeat' split) <;> simp
@[simp] theorem debitGranted_lbu_peers (t n : Byte) (s : State) : (debitGranted t n s).lbu.peers = s.lbu.peers := by
  unfold debitGranted; try dsimp only
  (repeat' split) <;> simp
@[simp] theorem debitGranted_lbu_ignored (t n : Byte) (s : State) : (debitGranted t n s).lbu.ignored = s.lbu.ignored := by
  unfold debitGranted; try dsimp only
  (repeat' split) <;> simp
@[simp] theorem debitGranted_lbu_objectSum (t n : Byte) (s : State) : (debitGranted t n s).lbu.objectSum = s.lbu.objectSum := by
  unfold debitGranted; try dsimp only
  (repeat' split) <;> simp
@[simp] theorem debitGranted_lnk_state (t n : Byte) (s : State) : (debitGranted t n s).lnk.state = s.lnk.state := by
  unfold debitGranted; try dsimp only
  (repeat' split) <;> simp
@[simp] theorem debitGranted_lnk_heard (t n : Byte) (s : State) : (debitGranted t n s).lnk.heard = s.lnk.heard := by
  unfold debitGranted; try dsimp only
  (repeat' split) <;> simp
@[simp] theorem debitGranted_lnk_acknowledged (t n : Byte) (s : State) : (debitGranted t n s).lnk.acknowledged = s.lnk.acknowledged := by
  unfold debitGranted; try dsimp only
  (repeat' split) <;> simp
@[simp] theorem debitGranted_lnk_isolationTimer (t n : Byte) (s : State) : (debitGranted t n s).lnk.isolationTimer = s.lnk.isolationTimer := by
  unfold debitGranted; try dsimp only
  (repeat' split) <;> simp
@[simp] theorem debitGranted_lnk_silentTimer (t n : Byte) (s : State) : (debitGranted t n s).lnk.silentTimer = s.lnk.silentTimer := by
  unfold debitGranted; try dsimp only
  (repeat' split) <;> simp
@[simp] theorem debitGranted_lnk_failures (t n : Byte) (s : State) : (debitGranted t n s).lnk.failures = s.lnk.failures := by
  unfold debitGranted; try dsimp only
  (repeat' split) <;> simp
@[simp] theorem debitGranted_lnk_unknownFrames (t n : Byte) (s : State) : (debitGranted t n s).lnk.unknownFrames = s.lnk.unknownFrames := by
  unfold debitGranted; try dsimp only
  (repeat' split) <;> simp
@[simp] theorem debitGranted_lnk_droppedFrames (t n : Byte) (s : State) : (debitGranted t n s).lnk.droppedFrames = s.lnk.droppedFrames := by
  unfold debitGranted; try dsimp only
  (repeat' split) <;> simp
@[simp] theorem debitGranted_lnk_silentEntries (t n : Byte) (s : State) : (debitGranted t n s).lnk.silentEntries = s.lnk.silentEntries := by
  unfold debitGranted; try dsimp only
  (repeat' split) <;> simp
@[simp] theorem actOnDebit_pending (v : Vend) (a : Asked) (o : DebitOutcome) (b : Option Nat) (e : Option Half) (s : State) : (actOnDebit v a o b e s).pending = s.pending := by
  unfold actOnDebit; try dsimp only
  (repeat' split) <;> simp
@[simp] theorem actOnDebit_due (v : Vend) (a : Asked) (o : DebitOutcome) (b : Option Nat) (e : Option Half) (s : State) : (actOnDebit v a o b e s).due = s.due := by
  unfold actOnDebit; try dsimp only
  (repeat' split) <;> simp
@[simp] theorem actOnDebit_phase (v : Vend) (a : Asked) (o : DebitOutcome) (b : Option Nat) (e : Option Half) (s : State) : (actOnDebit v a o b e s).phase = s.phase := by
  unfold actOnDebit; try dsimp only
  (repeat' split) <;> simp
@[simp] theorem actOnDebit_inputs (v : Vend) (a : Asked) (o : DebitOutcome) (b : Option Nat) (e : Option Half) (s : State) : (actOnDebit v a o b e s).inputs = s.inputs := by
  unfold actOnDebit; try dsimp only
  (repeat' split) <;> simp
@[simp] theorem actOnDebit_outputs (v : Vend) (a : Asked) (o : DebitOutcome) (b : Option Nat) (e : Option Half) (s : State) : (actOnDebit v a o b e s).outputs = s.outputs := by
  unfold actOnDebit; try dsimp only
  (repeat' split) <;> simp
@[simp] theorem actOnDebit_params (v : Vend) (a : Asked) (o : DebitOutcome) (b : Option Nat) (e : Option Half) (s : State) : (actOnDebit v a o b e s).params = s.params := by
  unfold actOnDebit; try dsimp only
  (repeat' split) <;> simp
@[simp] theorem actOnDebit_cnu (v : Vend) (a : Asked) (o : DebitOutcome) (b : Option Nat) (e : Option Half) (s : State) : (actOnDebit v a o b e s).cnu = s.cnu := by
  unfold actOnDebit; try dsimp only
  (repeat' split) <;> simp
@[simp] theorem actOnDebit_cca (v : Vend) (a : Asked) (o : DebitOutcome) (b : Option Nat) (e : Option Half) (s : State) : (actOnDebit v a o b e s).cca = s.cca := by
  unfold actOnDebit; try dsimp only
  (repeat' split) <;> simp
@[simp] theorem actOnDebit_rfc (v : Vend) (a : Asked) (o : DebitOutcome) (b : Option Nat) (e : Option Half) (s : State) : (actOnDebit v a o b e s).rfc = s.rfc := by
  unfold actOnDebit; try dsimp only
  (repeat' split) <;> simp
@[simp] theorem actOnDebit_cru_probeShort (v : Vend) (a : Asked) (o : DebitOutcome) (b : Option Nat) (e : Option Half) (s : State) : (actOnDebit v a o b e s).cru.probeShort = s.cru.probeShort := by
  unfold actOnDebit; try dsimp only
  (repeat' split) <;> simp
@[simp] theorem actOnDebit_cru_strayExits (v : Vend) (a : Asked) (o : DebitOutcome) (b : Option Nat) (e : Option Half) (s : State) : (actOnDebit v a o b e s).cru.strayExits = s.cru.strayExits := by
  unfold actOnDebit; try dsimp only
  (repeat' split) <;> simp
@[simp] theorem actOnDebit_vsq_test (v : Vend) (a : Asked) (o : DebitOutcome) (b : Option Nat) (e : Option Half) (s : State) : (actOnDebit v a o b e s).vsq.test = s.vsq.test := by
  unfold actOnDebit; try dsimp only
  (repeat' split) <;> simp
@[simp] theorem actOnDebit_vsq_queue (v : Vend) (a : Asked) (o : DebitOutcome) (b : Option Nat) (e : Option Half) (s : State) : (actOnDebit v a o b e s).vsq.queue = s.vsq.queue := by
  unfold actOnDebit; try dsimp only
  (repeat' split) <;> simp
@[simp] theorem actOnDebit_mxd_state (v : Vend) (a : Asked) (o : DebitOutcome) (b : Option Nat) (e : Option Half) (s : State) : (actOnDebit v a o b e s).mxd.state = s.mxd.state := by
  unfold actOnDebit; try dsimp only
  (repeat' split) <;> simp
@[simp] theorem actOnDebit_mxd_latch (v : Vend) (a : Asked) (o : DebitOutcome) (b : Option Nat) (e : Option Half) (s : State) : (actOnDebit v a o b e s).mxd.latch = s.mxd.latch := by
  unfold actOnDebit; try dsimp only
  (repeat' split) <;> simp
@[simp] theorem actOnDebit_mxd_hold (v : Vend) (a : Asked) (o : DebitOutcome) (b : Option Nat) (e : Option Half) (s : State) : (actOnDebit v a o b e s).mxd.hold = s.mxd.hold := by
  unfold actOnDebit; try dsimp only
  (repeat' split) <;> simp
@[simp] theorem actOnDebit_mxd_mismatch (v : Vend) (a : Asked) (o : DebitOutcome) (b : Option Nat) (e : Option Half) (s : State) : (actOnDebit v a o b e s).mxd.mismatch = s.mxd.mismatch := by
  unfold actOnDebit; try dsimp only
  (repeat' split) <;> simp
@[simp] theorem actOnDebit_mxd_fault (v : Vend) (a : Asked) (o : DebitOutcome) (b : Option Nat) (e : Option Half) (s : State) : (actOnDebit v a o b e s).mxd.fault = s.mxd.fault := by
  unfold actOnDebit; try dsimp only
  (repeat' split) <;> simp
@[simp] theorem actOnDebit_mxd_energised (v : Vend) (a : Asked) (o : DebitOutcome) (b : Option Nat) (e : Option Half) (s : State) : (actOnDebit v a o b e s).mxd.energised = s.mxd.energised := by
  unfold actOnDebit; try dsimp only
  (repeat' split) <;> simp
@[simp] theorem actOnDebit_mxd_samples (v : Vend) (a : Asked) (o : DebitOutcome) (b : Option Nat) (e : Option Half) (s : State) : (actOnDebit v a o b e s).mxd.samples = s.mxd.samples := by
  unfold actOnDebit; try dsimp only
  (repeat' split) <;> simp
@[simp] theorem actOnDebit_mxd_stallRun (v : Vend) (a : Asked) (o : DebitOutcome) (b : Option Nat) (e : Option Half) (s : State) : (actOnDebit v a o b e s).mxd.stallRun = s.mxd.stallRun := by
  unfold actOnDebit; try dsimp only
  (repeat' split) <;> simp
@[simp] theorem actOnDebit_mxd_supervision (v : Vend) (a : Asked) (o : DebitOutcome) (b : Option Nat) (e : Option Half) (s : State) : (actOnDebit v a o b e s).mxd.supervision = s.mxd.supervision := by
  unfold actOnDebit; try dsimp only
  (repeat' split) <;> simp
@[simp] theorem actOnDebit_mxd_lastSample (v : Vend) (a : Asked) (o : DebitOutcome) (b : Option Nat) (e : Option Half) (s : State) : (actOnDebit v a o b e s).mxd.lastSample = s.mxd.lastSample := by
  unfold actOnDebit; try dsimp only
  (repeat' split) <;> simp
@[simp] theorem actOnDebit_mxd_tick (v : Vend) (a : Asked) (o : DebitOutcome) (b : Option Nat) (e : Option Half) (s : State) : (actOnDebit v a o b e s).mxd.tick = s.mxd.tick := by
  unfold actOnDebit; try dsimp only
  (repeat' split) <;> simp
@[simp] theorem actOnDebit_lbu_peers (v : Vend) (a : Asked) (o : DebitOutcome) (b : Option Nat) (e : Option Half) (s : State) : (actOnDebit v a o b e s).lbu.peers = s.lbu.peers := by
  unfold actOnDebit; try dsimp only
  (repeat' split) <;> simp
@[simp] theorem actOnDebit_lbu_ignored (v : Vend) (a : Asked) (o : DebitOutcome) (b : Option Nat) (e : Option Half) (s : State) : (actOnDebit v a o b e s).lbu.ignored = s.lbu.ignored := by
  unfold actOnDebit; try dsimp only
  (repeat' split) <;> simp
@[simp] theorem actOnDebit_lbu_objectSum (v : Vend) (a : Asked) (o : DebitOutcome) (b : Option Nat) (e : Option Half) (s : State) : (actOnDebit v a o b e s).lbu.objectSum = s.lbu.objectSum := by
  unfold actOnDebit; try dsimp only
  (repeat' split) <;> simp
@[simp] theorem actOnDebit_lnk_state (v : Vend) (a : Asked) (o : DebitOutcome) (b : Option Nat) (e : Option Half) (s : State) : (actOnDebit v a o b e s).lnk.state = s.lnk.state := by
  unfold actOnDebit; try dsimp only
  (repeat' split) <;> simp
@[simp] theorem actOnDebit_lnk_heard (v : Vend) (a : Asked) (o : DebitOutcome) (b : Option Nat) (e : Option Half) (s : State) : (actOnDebit v a o b e s).lnk.heard = s.lnk.heard := by
  unfold actOnDebit; try dsimp only
  (repeat' split) <;> simp
@[simp] theorem actOnDebit_lnk_acknowledged (v : Vend) (a : Asked) (o : DebitOutcome) (b : Option Nat) (e : Option Half) (s : State) : (actOnDebit v a o b e s).lnk.acknowledged = s.lnk.acknowledged := by
  unfold actOnDebit; try dsimp only
  (repeat' split) <;> simp
@[simp] theorem actOnDebit_lnk_isolationTimer (v : Vend) (a : Asked) (o : DebitOutcome) (b : Option Nat) (e : Option Half) (s : State) : (actOnDebit v a o b e s).lnk.isolationTimer = s.lnk.isolationTimer := by
  unfold actOnDebit; try dsimp only
  (repeat' split) <;> simp
@[simp] theorem actOnDebit_lnk_silentTimer (v : Vend) (a : Asked) (o : DebitOutcome) (b : Option Nat) (e : Option Half) (s : State) : (actOnDebit v a o b e s).lnk.silentTimer = s.lnk.silentTimer := by
  unfold actOnDebit; try dsimp only
  (repeat' split) <;> simp
@[simp] theorem actOnDebit_lnk_failures (v : Vend) (a : Asked) (o : DebitOutcome) (b : Option Nat) (e : Option Half) (s : State) : (actOnDebit v a o b e s).lnk.failures = s.lnk.failures := by
  unfold actOnDebit; try dsimp only
  (repeat' split) <;> simp
@[simp] theorem actOnDebit_lnk_unknownFrames (v : Vend) (a : Asked) (o : DebitOutcome) (b : Option Nat) (e : Option Half) (s : State) : (actOnDebit v a o b e s).lnk.unknownFrames = s.lnk.unknownFrames := by
  unfold actOnDebit; try dsimp only
  (repeat' split) <;> simp
@[simp] theorem actOnDebit_lnk_droppedFrames (v : Vend) (a : Asked) (o : DebitOutcome) (b : Option Nat) (e : Option Half) (s : State) : (actOnDebit v a o b e s).lnk.droppedFrames = s.lnk.droppedFrames := by
  unfold actOnDebit; try dsimp only
  (repeat' split) <;> simp
@[simp] theorem actOnDebit_lnk_silentEntries (v : Vend) (a : Asked) (o : DebitOutcome) (b : Option Nat) (e : Option Half) (s : State) : (actOnDebit v a o b e s).lnk.silentEntries = s.lnk.silentEntries := by
  unfold actOnDebit; try dsimp only
  (repeat' split) <;> simp
@[simp] theorem actOnDebit_ssu_own (v : Vend) (a : Asked) (o : DebitOutcome) (b : Option Nat) (e : Option Half) (s : State) : (actOnDebit v a o b e s).ssu.own = s.ssu.own := by
  unfold actOnDebit; try dsimp only
  (repeat' split) <;> simp
@[simp] theorem actOnDebit_ssu_cause (v : Vend) (a : Asked) (o : DebitOutcome) (b : Option Nat) (e : Option Half) (s : State) : (actOnDebit v a o b e s).ssu.cause = s.ssu.cause := by
  unfold actOnDebit; try dsimp only
  (repeat' split) <;> simp
@[simp] theorem actOnDebit_ssu_imageStatus (v : Vend) (a : Asked) (o : DebitOutcome) (b : Option Nat) (e : Option Half) (s : State) : (actOnDebit v a o b e s).ssu.imageStatus = s.ssu.imageStatus := by
  unfold actOnDebit; try dsimp only
  (repeat' split) <;> simp
@[simp] theorem actOnDebit_ssu_auditGood (v : Vend) (a : Asked) (o : DebitOutcome) (b : Option Nat) (e : Option Half) (s : State) : (actOnDebit v a o b e s).ssu.auditGood = s.ssu.auditGood := by
  unfold actOnDebit; try dsimp only
  (repeat' split) <;> simp
@[simp] theorem actOnDebit_ssu_snapshot (v : Vend) (a : Asked) (o : DebitOutcome) (b : Option Nat) (e : Option Half) (s : State) : (actOnDebit v a o b e s).ssu.snapshot = s.ssu.snapshot := by
  unfold actOnDebit; try dsimp only
  (repeat' split) <;> simp
@[simp] theorem actOnDebit_ssu_saveOwed (v : Vend) (a : Asked) (o : DebitOutcome) (b : Option Nat) (e : Option Half) (s : State) : (actOnDebit v a o b e s).ssu.saveOwed = s.ssu.saveOwed := by
  unfold actOnDebit; try dsimp only
  (repeat' split) <;> simp
@[simp] theorem actOnDebit_ssu_lastSave (v : Vend) (a : Asked) (o : DebitOutcome) (b : Option Nat) (e : Option Half) (s : State) : (actOnDebit v a o b e s).ssu.lastSave = s.ssu.lastSave := by
  unfold actOnDebit; try dsimp only
  (repeat' split) <;> simp
@[simp] theorem actOnDebit_ssu_auditArea (v : Vend) (a : Asked) (o : DebitOutcome) (b : Option Nat) (e : Option Half) (s : State) : (actOnDebit v a o b e s).ssu.auditArea = s.ssu.auditArea := by
  unfold actOnDebit; try dsimp only
  (repeat' split) <;> simp
@[simp] theorem debitAtHome_pending (v : Vend) (s : State) : (debitAtHome v s).pending = s.pending := by
  unfold debitAtHome; try dsimp only
  (repeat' split) <;> simp
@[simp] theorem debitAtHome_due (v : Vend) (s : State) : (debitAtHome v s).due = s.due := by
  unfold debitAtHome; try dsimp only
  (repeat' split) <;> simp
@[simp] theorem debitAtHome_phase (v : Vend) (s : State) : (debitAtHome v s).phase = s.phase := by
  unfold debitAtHome; try dsimp only
  (repeat' split) <;> simp
@[simp] theorem debitAtHome_inputs (v : Vend) (s : State) : (debitAtHome v s).inputs = s.inputs := by
  unfold debitAtHome; try dsimp only
  (repeat' split) <;> simp
@[simp] theorem debitAtHome_outputs (v : Vend) (s : State) : (debitAtHome v s).outputs = s.outputs := by
  unfold debitAtHome; try dsimp only
  (repeat' split) <;> simp
@[simp] theorem debitAtHome_params (v : Vend) (s : State) : (debitAtHome v s).params = s.params := by
  unfold debitAtHome; try dsimp only
  (repeat' split) <;> simp
@[simp] theorem debitAtHome_cnu (v : Vend) (s : State) : (debitAtHome v s).cnu = s.cnu := by
  unfold debitAtHome; try dsimp only
  (repeat' split) <;> simp
@[simp] theorem debitAtHome_cca (v : Vend) (s : State) : (debitAtHome v s).cca = s.cca := by
  unfold debitAtHome; try dsimp only
  (repeat' split) <;> simp
@[simp] theorem debitAtHome_rfc (v : Vend) (s : State) : (debitAtHome v s).rfc = s.rfc := by
  unfold debitAtHome; try dsimp only
  (repeat' split) <;> simp
@[simp] theorem debitAtHome_cru_probeShort (v : Vend) (s : State) : (debitAtHome v s).cru.probeShort = s.cru.probeShort := by
  unfold debitAtHome; try dsimp only
  (repeat' split) <;> simp
@[simp] theorem debitAtHome_cru_strayExits (v : Vend) (s : State) : (debitAtHome v s).cru.strayExits = s.cru.strayExits := by
  unfold debitAtHome; try dsimp only
  (repeat' split) <;> simp
@[simp] theorem debitAtHome_vsq_test (v : Vend) (s : State) : (debitAtHome v s).vsq.test = s.vsq.test := by
  unfold debitAtHome; try dsimp only
  (repeat' split) <;> simp
@[simp] theorem debitAtHome_vsq_queue (v : Vend) (s : State) : (debitAtHome v s).vsq.queue = s.vsq.queue := by
  unfold debitAtHome; try dsimp only
  (repeat' split) <;> simp
@[simp] theorem debitAtHome_mxd_state (v : Vend) (s : State) : (debitAtHome v s).mxd.state = s.mxd.state := by
  unfold debitAtHome; try dsimp only
  (repeat' split) <;> simp
@[simp] theorem debitAtHome_mxd_latch (v : Vend) (s : State) : (debitAtHome v s).mxd.latch = s.mxd.latch := by
  unfold debitAtHome; try dsimp only
  (repeat' split) <;> simp
@[simp] theorem debitAtHome_mxd_hold (v : Vend) (s : State) : (debitAtHome v s).mxd.hold = s.mxd.hold := by
  unfold debitAtHome; try dsimp only
  (repeat' split) <;> simp
@[simp] theorem debitAtHome_mxd_mismatch (v : Vend) (s : State) : (debitAtHome v s).mxd.mismatch = s.mxd.mismatch := by
  unfold debitAtHome; try dsimp only
  (repeat' split) <;> simp
@[simp] theorem debitAtHome_mxd_fault (v : Vend) (s : State) : (debitAtHome v s).mxd.fault = s.mxd.fault := by
  unfold debitAtHome; try dsimp only
  (repeat' split) <;> simp
@[simp] theorem debitAtHome_mxd_energised (v : Vend) (s : State) : (debitAtHome v s).mxd.energised = s.mxd.energised := by
  unfold debitAtHome; try dsimp only
  (repeat' split) <;> simp
@[simp] theorem debitAtHome_mxd_samples (v : Vend) (s : State) : (debitAtHome v s).mxd.samples = s.mxd.samples := by
  unfold debitAtHome; try dsimp only
  (repeat' split) <;> simp
@[simp] theorem debitAtHome_mxd_stallRun (v : Vend) (s : State) : (debitAtHome v s).mxd.stallRun = s.mxd.stallRun := by
  unfold debitAtHome; try dsimp only
  (repeat' split) <;> simp
@[simp] theorem debitAtHome_mxd_supervision (v : Vend) (s : State) : (debitAtHome v s).mxd.supervision = s.mxd.supervision := by
  unfold debitAtHome; try dsimp only
  (repeat' split) <;> simp
@[simp] theorem debitAtHome_mxd_lastSample (v : Vend) (s : State) : (debitAtHome v s).mxd.lastSample = s.mxd.lastSample := by
  unfold debitAtHome; try dsimp only
  (repeat' split) <;> simp
@[simp] theorem debitAtHome_mxd_tick (v : Vend) (s : State) : (debitAtHome v s).mxd.tick = s.mxd.tick := by
  unfold debitAtHome; try dsimp only
  (repeat' split) <;> simp
@[simp] theorem debitAtHome_lbu_peers (v : Vend) (s : State) : (debitAtHome v s).lbu.peers = s.lbu.peers := by
  unfold debitAtHome; try dsimp only
  (repeat' split) <;> simp
@[simp] theorem debitAtHome_lbu_ignored (v : Vend) (s : State) : (debitAtHome v s).lbu.ignored = s.lbu.ignored := by
  unfold debitAtHome; try dsimp only
  (repeat' split) <;> simp
@[simp] theorem debitAtHome_lbu_objectSum (v : Vend) (s : State) : (debitAtHome v s).lbu.objectSum = s.lbu.objectSum := by
  unfold debitAtHome; try dsimp only
  (repeat' split) <;> simp
@[simp] theorem debitAtHome_lnk_state (v : Vend) (s : State) : (debitAtHome v s).lnk.state = s.lnk.state := by
  unfold debitAtHome; try dsimp only
  (repeat' split) <;> simp
@[simp] theorem debitAtHome_lnk_heard (v : Vend) (s : State) : (debitAtHome v s).lnk.heard = s.lnk.heard := by
  unfold debitAtHome; try dsimp only
  (repeat' split) <;> simp
@[simp] theorem debitAtHome_lnk_acknowledged (v : Vend) (s : State) : (debitAtHome v s).lnk.acknowledged = s.lnk.acknowledged := by
  unfold debitAtHome; try dsimp only
  (repeat' split) <;> simp
@[simp] theorem debitAtHome_lnk_isolationTimer (v : Vend) (s : State) : (debitAtHome v s).lnk.isolationTimer = s.lnk.isolationTimer := by
  unfold debitAtHome; try dsimp only
  (repeat' split) <;> simp
@[simp] theorem debitAtHome_lnk_silentTimer (v : Vend) (s : State) : (debitAtHome v s).lnk.silentTimer = s.lnk.silentTimer := by
  unfold debitAtHome; try dsimp only
  (repeat' split) <;> simp
@[simp] theorem debitAtHome_lnk_failures (v : Vend) (s : State) : (debitAtHome v s).lnk.failures = s.lnk.failures := by
  unfold debitAtHome; try dsimp only
  (repeat' split) <;> simp
@[simp] theorem debitAtHome_lnk_unknownFrames (v : Vend) (s : State) : (debitAtHome v s).lnk.unknownFrames = s.lnk.unknownFrames := by
  unfold debitAtHome; try dsimp only
  (repeat' split) <;> simp
@[simp] theorem debitAtHome_lnk_droppedFrames (v : Vend) (s : State) : (debitAtHome v s).lnk.droppedFrames = s.lnk.droppedFrames := by
  unfold debitAtHome; try dsimp only
  (repeat' split) <;> simp
@[simp] theorem debitAtHome_lnk_silentEntries (v : Vend) (s : State) : (debitAtHome v s).lnk.silentEntries = s.lnk.silentEntries := by
  unfold debitAtHome; try dsimp only
  (repeat' split) <;> simp
@[simp] theorem debitAtHome_ssu_own (v : Vend) (s : State) : (debitAtHome v s).ssu.own = s.ssu.own := by
  unfold debitAtHome; try dsimp only
  (repeat' split) <;> simp
@[simp] theorem debitAtHome_ssu_cause (v : Vend) (s : State) : (debitAtHome v s).ssu.cause = s.ssu.cause := by
  unfold debitAtHome; try dsimp only
  (repeat' split) <;> simp
@[simp] theorem debitAtHome_ssu_imageStatus (v : Vend) (s : State) : (debitAtHome v s).ssu.imageStatus = s.ssu.imageStatus := by
  unfold debitAtHome; try dsimp only
  (repeat' split) <;> simp
@[simp] theorem debitAtHome_ssu_auditGood (v : Vend) (s : State) : (debitAtHome v s).ssu.auditGood = s.ssu.auditGood := by
  unfold debitAtHome; try dsimp only
  (repeat' split) <;> simp
@[simp] theorem debitAtHome_ssu_snapshot (v : Vend) (s : State) : (debitAtHome v s).ssu.snapshot = s.ssu.snapshot := by
  unfold debitAtHome; try dsimp only
  (repeat' split) <;> simp
@[simp] theorem debitAtHome_ssu_saveOwed (v : Vend) (s : State) : (debitAtHome v s).ssu.saveOwed = s.ssu.saveOwed := by
  unfold debitAtHome; try dsimp only
  (repeat' split) <;> simp
@[simp] theorem debitAtHome_ssu_lastSave (v : Vend) (s : State) : (debitAtHome v s).ssu.lastSave = s.ssu.lastSave := by
  unfold debitAtHome; try dsimp only
  (repeat' split) <;> simp
@[simp] theorem debitAtHome_ssu_auditArea (v : Vend) (s : State) : (debitAtHome v s).ssu.auditArea = s.ssu.auditArea := by
  unfold debitAtHome; try dsimp only
  (repeat' split) <;> simp
@[simp] theorem enterDebiting_pending (v : Vend) (s : State) : (enterDebiting v s).pending = s.pending := by
  unfold enterDebiting; try dsimp only
  (repeat' split) <;> simp
@[simp] theorem enterDebiting_due (v : Vend) (s : State) : (enterDebiting v s).due = s.due := by
  unfold enterDebiting; try dsimp only
  (repeat' split) <;> simp
@[simp] theorem enterDebiting_phase (v : Vend) (s : State) : (enterDebiting v s).phase = s.phase := by
  unfold enterDebiting; try dsimp only
  (repeat' split) <;> simp
@[simp] theorem enterDebiting_inputs (v : Vend) (s : State) : (enterDebiting v s).inputs = s.inputs := by
  unfold enterDebiting; try dsimp only
  (repeat' split) <;> simp
@[simp] theorem enterDebiting_outputs (v : Vend) (s : State) : (enterDebiting v s).outputs = s.outputs := by
  unfold enterDebiting; try dsimp only
  (repeat' split) <;> simp
@[simp] theorem enterDebiting_params (v : Vend) (s : State) : (enterDebiting v s).params = s.params := by
  unfold enterDebiting; try dsimp only
  (repeat' split) <;> simp
@[simp] theorem enterDebiting_cnu (v : Vend) (s : State) : (enterDebiting v s).cnu = s.cnu := by
  unfold enterDebiting; try dsimp only
  (repeat' split) <;> simp
@[simp] theorem enterDebiting_cca (v : Vend) (s : State) : (enterDebiting v s).cca = s.cca := by
  unfold enterDebiting; try dsimp only
  (repeat' split) <;> simp
@[simp] theorem enterDebiting_rfc (v : Vend) (s : State) : (enterDebiting v s).rfc = s.rfc := by
  unfold enterDebiting; try dsimp only
  (repeat' split) <;> simp
@[simp] theorem enterDebiting_cru_probeShort (v : Vend) (s : State) : (enterDebiting v s).cru.probeShort = s.cru.probeShort := by
  unfold enterDebiting; try dsimp only
  (repeat' split) <;> simp
@[simp] theorem enterDebiting_cru_strayExits (v : Vend) (s : State) : (enterDebiting v s).cru.strayExits = s.cru.strayExits := by
  unfold enterDebiting; try dsimp only
  (repeat' split) <;> simp
@[simp] theorem enterDebiting_vsq_test (v : Vend) (s : State) : (enterDebiting v s).vsq.test = s.vsq.test := by
  unfold enterDebiting; try dsimp only
  (repeat' split) <;> simp
@[simp] theorem enterDebiting_vsq_queue (v : Vend) (s : State) : (enterDebiting v s).vsq.queue = s.vsq.queue := by
  unfold enterDebiting; try dsimp only
  (repeat' split) <;> simp
@[simp] theorem enterDebiting_mxd_state (v : Vend) (s : State) : (enterDebiting v s).mxd.state = s.mxd.state := by
  unfold enterDebiting; try dsimp only
  (repeat' split) <;> simp
@[simp] theorem enterDebiting_mxd_latch (v : Vend) (s : State) : (enterDebiting v s).mxd.latch = s.mxd.latch := by
  unfold enterDebiting; try dsimp only
  (repeat' split) <;> simp
@[simp] theorem enterDebiting_mxd_hold (v : Vend) (s : State) : (enterDebiting v s).mxd.hold = s.mxd.hold := by
  unfold enterDebiting; try dsimp only
  (repeat' split) <;> simp
@[simp] theorem enterDebiting_mxd_mismatch (v : Vend) (s : State) : (enterDebiting v s).mxd.mismatch = s.mxd.mismatch := by
  unfold enterDebiting; try dsimp only
  (repeat' split) <;> simp
@[simp] theorem enterDebiting_mxd_fault (v : Vend) (s : State) : (enterDebiting v s).mxd.fault = s.mxd.fault := by
  unfold enterDebiting; try dsimp only
  (repeat' split) <;> simp
@[simp] theorem enterDebiting_mxd_energised (v : Vend) (s : State) : (enterDebiting v s).mxd.energised = s.mxd.energised := by
  unfold enterDebiting; try dsimp only
  (repeat' split) <;> simp
@[simp] theorem enterDebiting_mxd_samples (v : Vend) (s : State) : (enterDebiting v s).mxd.samples = s.mxd.samples := by
  unfold enterDebiting; try dsimp only
  (repeat' split) <;> simp
@[simp] theorem enterDebiting_mxd_stallRun (v : Vend) (s : State) : (enterDebiting v s).mxd.stallRun = s.mxd.stallRun := by
  unfold enterDebiting; try dsimp only
  (repeat' split) <;> simp
@[simp] theorem enterDebiting_mxd_supervision (v : Vend) (s : State) : (enterDebiting v s).mxd.supervision = s.mxd.supervision := by
  unfold enterDebiting; try dsimp only
  (repeat' split) <;> simp
@[simp] theorem enterDebiting_mxd_lastSample (v : Vend) (s : State) : (enterDebiting v s).mxd.lastSample = s.mxd.lastSample := by
  unfold enterDebiting; try dsimp only
  (repeat' split) <;> simp
@[simp] theorem enterDebiting_mxd_tick (v : Vend) (s : State) : (enterDebiting v s).mxd.tick = s.mxd.tick := by
  unfold enterDebiting; try dsimp only
  (repeat' split) <;> simp
@[simp] theorem enterDebiting_lbu_peers (v : Vend) (s : State) : (enterDebiting v s).lbu.peers = s.lbu.peers := by
  unfold enterDebiting; try dsimp only
  (repeat' split) <;> simp
@[simp] theorem enterDebiting_lbu_ignored (v : Vend) (s : State) : (enterDebiting v s).lbu.ignored = s.lbu.ignored := by
  unfold enterDebiting; try dsimp only
  (repeat' split) <;> simp
@[simp] theorem enterDebiting_lbu_objectSum (v : Vend) (s : State) : (enterDebiting v s).lbu.objectSum = s.lbu.objectSum := by
  unfold enterDebiting; try dsimp only
  (repeat' split) <;> simp
@[simp] theorem enterDebiting_lnk_state (v : Vend) (s : State) : (enterDebiting v s).lnk.state = s.lnk.state := by
  unfold enterDebiting; try dsimp only
  (repeat' split) <;> simp
@[simp] theorem enterDebiting_lnk_heard (v : Vend) (s : State) : (enterDebiting v s).lnk.heard = s.lnk.heard := by
  unfold enterDebiting; try dsimp only
  (repeat' split) <;> simp
@[simp] theorem enterDebiting_lnk_acknowledged (v : Vend) (s : State) : (enterDebiting v s).lnk.acknowledged = s.lnk.acknowledged := by
  unfold enterDebiting; try dsimp only
  (repeat' split) <;> simp
@[simp] theorem enterDebiting_lnk_isolationTimer (v : Vend) (s : State) : (enterDebiting v s).lnk.isolationTimer = s.lnk.isolationTimer := by
  unfold enterDebiting; try dsimp only
  (repeat' split) <;> simp
@[simp] theorem enterDebiting_lnk_silentTimer (v : Vend) (s : State) : (enterDebiting v s).lnk.silentTimer = s.lnk.silentTimer := by
  unfold enterDebiting; try dsimp only
  (repeat' split) <;> simp
@[simp] theorem enterDebiting_lnk_failures (v : Vend) (s : State) : (enterDebiting v s).lnk.failures = s.lnk.failures := by
  unfold enterDebiting; try dsimp only
  (repeat' split) <;> simp
@[simp] theorem enterDebiting_lnk_unknownFrames (v : Vend) (s : State) : (enterDebiting v s).lnk.unknownFrames = s.lnk.unknownFrames := by
  unfold enterDebiting; try dsimp only
  (repeat' split) <;> simp
@[simp] theorem enterDebiting_lnk_droppedFrames (v : Vend) (s : State) : (enterDebiting v s).lnk.droppedFrames = s.lnk.droppedFrames := by
  unfold enterDebiting; try dsimp only
  (repeat' split) <;> simp
@[simp] theorem enterDebiting_lnk_silentEntries (v : Vend) (s : State) : (enterDebiting v s).lnk.silentEntries = s.lnk.silentEntries := by
  unfold enterDebiting; try dsimp only
  (repeat' split) <;> simp
@[simp] theorem enterDebiting_ssu_own (v : Vend) (s : State) : (enterDebiting v s).ssu.own = s.ssu.own := by
  unfold enterDebiting; try dsimp only
  (repeat' split) <;> simp
@[simp] theorem enterDebiting_ssu_cause (v : Vend) (s : State) : (enterDebiting v s).ssu.cause = s.ssu.cause := by
  unfold enterDebiting; try dsimp only
  (repeat' split) <;> simp
@[simp] theorem enterDebiting_ssu_imageStatus (v : Vend) (s : State) : (enterDebiting v s).ssu.imageStatus = s.ssu.imageStatus := by
  unfold enterDebiting; try dsimp only
  (repeat' split) <;> simp
@[simp] theorem enterDebiting_ssu_auditGood (v : Vend) (s : State) : (enterDebiting v s).ssu.auditGood = s.ssu.auditGood := by
  unfold enterDebiting; try dsimp only
  (repeat' split) <;> simp
@[simp] theorem enterDebiting_ssu_snapshot (v : Vend) (s : State) : (enterDebiting v s).ssu.snapshot = s.ssu.snapshot := by
  unfold enterDebiting; try dsimp only
  (repeat' split) <;> simp
@[simp] theorem enterDebiting_ssu_saveOwed (v : Vend) (s : State) : (enterDebiting v s).ssu.saveOwed = s.ssu.saveOwed := by
  unfold enterDebiting; try dsimp only
  (repeat' split) <;> simp
@[simp] theorem enterDebiting_ssu_lastSave (v : Vend) (s : State) : (enterDebiting v s).ssu.lastSave = s.ssu.lastSave := by
  unfold enterDebiting; try dsimp only
  (repeat' split) <;> simp
@[simp] theorem enterDebiting_ssu_auditArea (v : Vend) (s : State) : (enterDebiting v s).ssu.auditArea = s.ssu.auditArea := by
  unfold enterDebiting; try dsimp only
  (repeat' split) <;> simp
@[simp] theorem startVend_pending (r : Selection) (p : Nat) (s : State) : (startVend r p s).pending = s.pending := by
  unfold startVend; try dsimp only
  (repeat' split) <;> simp
@[simp] theorem startVend_due (r : Selection) (p : Nat) (s : State) : (startVend r p s).due = s.due := by
  unfold startVend; try dsimp only
  (repeat' split) <;> simp
@[simp] theorem startVend_phase (r : Selection) (p : Nat) (s : State) : (startVend r p s).phase = s.phase := by
  unfold startVend; try dsimp only
  (repeat' split) <;> simp
@[simp] theorem startVend_inputs (r : Selection) (p : Nat) (s : State) : (startVend r p s).inputs = s.inputs := by
  unfold startVend; try dsimp only
  (repeat' split) <;> simp
@[simp] theorem startVend_outputs (r : Selection) (p : Nat) (s : State) : (startVend r p s).outputs = s.outputs := by
  unfold startVend; try dsimp only
  (repeat' split) <;> simp
@[simp] theorem startVend_params (r : Selection) (p : Nat) (s : State) : (startVend r p s).params = s.params := by
  unfold startVend; try dsimp only
  (repeat' split) <;> simp
@[simp] theorem startVend_cnu (r : Selection) (p : Nat) (s : State) : (startVend r p s).cnu = s.cnu := by
  unfold startVend; try dsimp only
  (repeat' split) <;> simp
@[simp] theorem startVend_cca (r : Selection) (p : Nat) (s : State) : (startVend r p s).cca = s.cca := by
  unfold startVend; try dsimp only
  (repeat' split) <;> simp
@[simp] theorem startVend_rfc (r : Selection) (p : Nat) (s : State) : (startVend r p s).rfc = s.rfc := by
  unfold startVend; try dsimp only
  (repeat' split) <;> simp
@[simp] theorem startVend_cru_probeShort (r : Selection) (p : Nat) (s : State) : (startVend r p s).cru.probeShort = s.cru.probeShort := by
  unfold startVend; try dsimp only
  (repeat' split) <;> simp
@[simp] theorem startVend_cru_strayExits (r : Selection) (p : Nat) (s : State) : (startVend r p s).cru.strayExits = s.cru.strayExits := by
  unfold startVend; try dsimp only
  (repeat' split) <;> simp
@[simp] theorem startVend_vsq_test (r : Selection) (p : Nat) (s : State) : (startVend r p s).vsq.test = s.vsq.test := by
  unfold startVend; try dsimp only
  (repeat' split) <;> simp
@[simp] theorem startVend_vsq_queue (r : Selection) (p : Nat) (s : State) : (startVend r p s).vsq.queue = s.vsq.queue := by
  unfold startVend; try dsimp only
  (repeat' split) <;> simp
@[simp] theorem startVend_mxd_state (r : Selection) (p : Nat) (s : State) : (startVend r p s).mxd.state = s.mxd.state := by
  unfold startVend; try dsimp only
  (repeat' split) <;> simp
@[simp] theorem startVend_mxd_latch (r : Selection) (p : Nat) (s : State) : (startVend r p s).mxd.latch = s.mxd.latch := by
  unfold startVend; try dsimp only
  (repeat' split) <;> simp
@[simp] theorem startVend_mxd_hold (r : Selection) (p : Nat) (s : State) : (startVend r p s).mxd.hold = s.mxd.hold := by
  unfold startVend; try dsimp only
  (repeat' split) <;> simp
@[simp] theorem startVend_mxd_mismatch (r : Selection) (p : Nat) (s : State) : (startVend r p s).mxd.mismatch = s.mxd.mismatch := by
  unfold startVend; try dsimp only
  (repeat' split) <;> simp
@[simp] theorem startVend_mxd_fault (r : Selection) (p : Nat) (s : State) : (startVend r p s).mxd.fault = s.mxd.fault := by
  unfold startVend; try dsimp only
  (repeat' split) <;> simp
@[simp] theorem startVend_mxd_energised (r : Selection) (p : Nat) (s : State) : (startVend r p s).mxd.energised = s.mxd.energised := by
  unfold startVend; try dsimp only
  (repeat' split) <;> simp
@[simp] theorem startVend_mxd_samples (r : Selection) (p : Nat) (s : State) : (startVend r p s).mxd.samples = s.mxd.samples := by
  unfold startVend; try dsimp only
  (repeat' split) <;> simp
@[simp] theorem startVend_mxd_stallRun (r : Selection) (p : Nat) (s : State) : (startVend r p s).mxd.stallRun = s.mxd.stallRun := by
  unfold startVend; try dsimp only
  (repeat' split) <;> simp
@[simp] theorem startVend_mxd_supervision (r : Selection) (p : Nat) (s : State) : (startVend r p s).mxd.supervision = s.mxd.supervision := by
  unfold startVend; try dsimp only
  (repeat' split) <;> simp
@[simp] theorem startVend_mxd_lastSample (r : Selection) (p : Nat) (s : State) : (startVend r p s).mxd.lastSample = s.mxd.lastSample := by
  unfold startVend; try dsimp only
  (repeat' split) <;> simp
@[simp] theorem startVend_mxd_tick (r : Selection) (p : Nat) (s : State) : (startVend r p s).mxd.tick = s.mxd.tick := by
  unfold startVend; try dsimp only
  (repeat' split) <;> simp
@[simp] theorem startVend_lbu_peers (r : Selection) (p : Nat) (s : State) : (startVend r p s).lbu.peers = s.lbu.peers := by
  unfold startVend; try dsimp only
  (repeat' split) <;> simp
@[simp] theorem startVend_lbu_ignored (r : Selection) (p : Nat) (s : State) : (startVend r p s).lbu.ignored = s.lbu.ignored := by
  unfold startVend; try dsimp only
  (repeat' split) <;> simp
@[simp] theorem startVend_lbu_objectSum (r : Selection) (p : Nat) (s : State) : (startVend r p s).lbu.objectSum = s.lbu.objectSum := by
  unfold startVend; try dsimp only
  (repeat' split) <;> simp
@[simp] theorem startVend_lnk_state (r : Selection) (p : Nat) (s : State) : (startVend r p s).lnk.state = s.lnk.state := by
  unfold startVend; try dsimp only
  (repeat' split) <;> simp
@[simp] theorem startVend_lnk_heard (r : Selection) (p : Nat) (s : State) : (startVend r p s).lnk.heard = s.lnk.heard := by
  unfold startVend; try dsimp only
  (repeat' split) <;> simp
@[simp] theorem startVend_lnk_acknowledged (r : Selection) (p : Nat) (s : State) : (startVend r p s).lnk.acknowledged = s.lnk.acknowledged := by
  unfold startVend; try dsimp only
  (repeat' split) <;> simp
@[simp] theorem startVend_lnk_isolationTimer (r : Selection) (p : Nat) (s : State) : (startVend r p s).lnk.isolationTimer = s.lnk.isolationTimer := by
  unfold startVend; try dsimp only
  (repeat' split) <;> simp
@[simp] theorem startVend_lnk_silentTimer (r : Selection) (p : Nat) (s : State) : (startVend r p s).lnk.silentTimer = s.lnk.silentTimer := by
  unfold startVend; try dsimp only
  (repeat' split) <;> simp
@[simp] theorem startVend_lnk_failures (r : Selection) (p : Nat) (s : State) : (startVend r p s).lnk.failures = s.lnk.failures := by
  unfold startVend; try dsimp only
  (repeat' split) <;> simp
@[simp] theorem startVend_lnk_unknownFrames (r : Selection) (p : Nat) (s : State) : (startVend r p s).lnk.unknownFrames = s.lnk.unknownFrames := by
  unfold startVend; try dsimp only
  (repeat' split) <;> simp
@[simp] theorem startVend_lnk_droppedFrames (r : Selection) (p : Nat) (s : State) : (startVend r p s).lnk.droppedFrames = s.lnk.droppedFrames := by
  unfold startVend; try dsimp only
  (repeat' split) <;> simp
@[simp] theorem startVend_lnk_silentEntries (r : Selection) (p : Nat) (s : State) : (startVend r p s).lnk.silentEntries = s.lnk.silentEntries := by
  unfold startVend; try dsimp only
  (repeat' split) <;> simp
@[simp] theorem startVend_ssu_own (r : Selection) (p : Nat) (s : State) : (startVend r p s).ssu.own = s.ssu.own := by
  unfold startVend; try dsimp only
  (repeat' split) <;> simp
@[simp] theorem startVend_ssu_cause (r : Selection) (p : Nat) (s : State) : (startVend r p s).ssu.cause = s.ssu.cause := by
  unfold startVend; try dsimp only
  (repeat' split) <;> simp
@[simp] theorem startVend_ssu_imageStatus (r : Selection) (p : Nat) (s : State) : (startVend r p s).ssu.imageStatus = s.ssu.imageStatus := by
  unfold startVend; try dsimp only
  (repeat' split) <;> simp
@[simp] theorem startVend_ssu_auditGood (r : Selection) (p : Nat) (s : State) : (startVend r p s).ssu.auditGood = s.ssu.auditGood := by
  unfold startVend; try dsimp only
  (repeat' split) <;> simp
@[simp] theorem startVend_ssu_snapshot (r : Selection) (p : Nat) (s : State) : (startVend r p s).ssu.snapshot = s.ssu.snapshot := by
  unfold startVend; try dsimp only
  (repeat' split) <;> simp
@[simp] theorem startVend_ssu_saveOwed (r : Selection) (p : Nat) (s : State) : (startVend r p s).ssu.saveOwed = s.ssu.saveOwed := by
  unfold startVend; try dsimp only
  (repeat' split) <;> simp
@[simp] theorem startVend_ssu_lastSave (r : Selection) (p : Nat) (s : State) : (startVend r p s).ssu.lastSave = s.ssu.lastSave := by
  unfold startVend; try dsimp only
  (repeat' split) <;> simp
@[simp] theorem startVend_ssu_auditArea (r : Selection) (p : Nat) (s : State) : (startVend r p s).ssu.auditArea = s.ssu.auditArea := by
  unfold startVend; try dsimp only
  (repeat' split) <;> simp
@[simp] theorem takeHead_pending (s : State) : (takeHead s).pending = s.pending := by
  unfold takeHead; try dsimp only
  (repeat' split) <;> simp
@[simp] theorem takeHead_due (s : State) : (takeHead s).due = s.due := by
  unfold takeHead; try dsimp only
  (repeat' split) <;> simp
@[simp] theorem takeHead_phase (s : State) : (takeHead s).phase = s.phase := by
  unfold takeHead; try dsimp only
  (repeat' split) <;> simp
@[simp] theorem takeHead_inputs (s : State) : (takeHead s).inputs = s.inputs := by
  unfold takeHead; try dsimp only
  (repeat' split) <;> simp
@[simp] theorem takeHead_outputs (s : State) : (takeHead s).outputs = s.outputs := by
  unfold takeHead; try dsimp only
  (repeat' split) <;> simp
@[simp] theorem takeHead_params (s : State) : (takeHead s).params = s.params := by
  unfold takeHead; try dsimp only
  (repeat' split) <;> simp
@[simp] theorem takeHead_cnu (s : State) : (takeHead s).cnu = s.cnu := by
  unfold takeHead; try dsimp only
  (repeat' split) <;> simp
@[simp] theorem takeHead_cca (s : State) : (takeHead s).cca = s.cca := by
  unfold takeHead; try dsimp only
  (repeat' split) <;> simp
@[simp] theorem takeHead_rfc (s : State) : (takeHead s).rfc = s.rfc := by
  unfold takeHead; try dsimp only
  (repeat' split) <;> simp
@[simp] theorem takeHead_cru_probeShort (s : State) : (takeHead s).cru.probeShort = s.cru.probeShort := by
  unfold takeHead; try dsimp only
  (repeat' split) <;> simp
@[simp] theorem takeHead_cru_strayExits (s : State) : (takeHead s).cru.strayExits = s.cru.strayExits := by
  unfold takeHead; try dsimp only
  (repeat' split) <;> simp
@[simp] theorem takeHead_vsq_test (s : State) : (takeHead s).vsq.test = s.vsq.test := by
  unfold takeHead; try dsimp only
  (repeat' split) <;> simp
@[simp] theorem takeHead_mxd_state (s : State) : (takeHead s).mxd.state = s.mxd.state := by
  unfold takeHead; try dsimp only
  (repeat' split) <;> simp
@[simp] theorem takeHead_mxd_latch (s : State) : (takeHead s).mxd.latch = s.mxd.latch := by
  unfold takeHead; try dsimp only
  (repeat' split) <;> simp
@[simp] theorem takeHead_mxd_hold (s : State) : (takeHead s).mxd.hold = s.mxd.hold := by
  unfold takeHead; try dsimp only
  (repeat' split) <;> simp
@[simp] theorem takeHead_mxd_mismatch (s : State) : (takeHead s).mxd.mismatch = s.mxd.mismatch := by
  unfold takeHead; try dsimp only
  (repeat' split) <;> simp
@[simp] theorem takeHead_mxd_fault (s : State) : (takeHead s).mxd.fault = s.mxd.fault := by
  unfold takeHead; try dsimp only
  (repeat' split) <;> simp
@[simp] theorem takeHead_mxd_energised (s : State) : (takeHead s).mxd.energised = s.mxd.energised := by
  unfold takeHead; try dsimp only
  (repeat' split) <;> simp
@[simp] theorem takeHead_mxd_samples (s : State) : (takeHead s).mxd.samples = s.mxd.samples := by
  unfold takeHead; try dsimp only
  (repeat' split) <;> simp
@[simp] theorem takeHead_mxd_stallRun (s : State) : (takeHead s).mxd.stallRun = s.mxd.stallRun := by
  unfold takeHead; try dsimp only
  (repeat' split) <;> simp
@[simp] theorem takeHead_mxd_supervision (s : State) : (takeHead s).mxd.supervision = s.mxd.supervision := by
  unfold takeHead; try dsimp only
  (repeat' split) <;> simp
@[simp] theorem takeHead_mxd_lastSample (s : State) : (takeHead s).mxd.lastSample = s.mxd.lastSample := by
  unfold takeHead; try dsimp only
  (repeat' split) <;> simp
@[simp] theorem takeHead_mxd_tick (s : State) : (takeHead s).mxd.tick = s.mxd.tick := by
  unfold takeHead; try dsimp only
  (repeat' split) <;> simp
@[simp] theorem takeHead_lbu_peers (s : State) : (takeHead s).lbu.peers = s.lbu.peers := by
  unfold takeHead; try dsimp only
  (repeat' split) <;> simp
@[simp] theorem takeHead_lbu_ignored (s : State) : (takeHead s).lbu.ignored = s.lbu.ignored := by
  unfold takeHead; try dsimp only
  (repeat' split) <;> simp
@[simp] theorem takeHead_lbu_objectSum (s : State) : (takeHead s).lbu.objectSum = s.lbu.objectSum := by
  unfold takeHead; try dsimp only
  (repeat' split) <;> simp
@[simp] theorem takeHead_lnk_state (s : State) : (takeHead s).lnk.state = s.lnk.state := by
  unfold takeHead; try dsimp only
  (repeat' split) <;> simp
@[simp] theorem takeHead_lnk_heard (s : State) : (takeHead s).lnk.heard = s.lnk.heard := by
  unfold takeHead; try dsimp only
  (repeat' split) <;> simp
@[simp] theorem takeHead_lnk_acknowledged (s : State) : (takeHead s).lnk.acknowledged = s.lnk.acknowledged := by
  unfold takeHead; try dsimp only
  (repeat' split) <;> simp
@[simp] theorem takeHead_lnk_isolationTimer (s : State) : (takeHead s).lnk.isolationTimer = s.lnk.isolationTimer := by
  unfold takeHead; try dsimp only
  (repeat' split) <;> simp
@[simp] theorem takeHead_lnk_silentTimer (s : State) : (takeHead s).lnk.silentTimer = s.lnk.silentTimer := by
  unfold takeHead; try dsimp only
  (repeat' split) <;> simp
@[simp] theorem takeHead_lnk_failures (s : State) : (takeHead s).lnk.failures = s.lnk.failures := by
  unfold takeHead; try dsimp only
  (repeat' split) <;> simp
@[simp] theorem takeHead_lnk_unknownFrames (s : State) : (takeHead s).lnk.unknownFrames = s.lnk.unknownFrames := by
  unfold takeHead; try dsimp only
  (repeat' split) <;> simp
@[simp] theorem takeHead_lnk_droppedFrames (s : State) : (takeHead s).lnk.droppedFrames = s.lnk.droppedFrames := by
  unfold takeHead; try dsimp only
  (repeat' split) <;> simp
@[simp] theorem takeHead_lnk_silentEntries (s : State) : (takeHead s).lnk.silentEntries = s.lnk.silentEntries := by
  unfold takeHead; try dsimp only
  (repeat' split) <;> simp
@[simp] theorem takeHead_ssu_own (s : State) : (takeHead s).ssu.own = s.ssu.own := by
  unfold takeHead; try dsimp only
  (repeat' split) <;> simp
@[simp] theorem takeHead_ssu_cause (s : State) : (takeHead s).ssu.cause = s.ssu.cause := by
  unfold takeHead; try dsimp only
  (repeat' split) <;> simp
@[simp] theorem takeHead_ssu_imageStatus (s : State) : (takeHead s).ssu.imageStatus = s.ssu.imageStatus := by
  unfold takeHead; try dsimp only
  (repeat' split) <;> simp
@[simp] theorem takeHead_ssu_auditGood (s : State) : (takeHead s).ssu.auditGood = s.ssu.auditGood := by
  unfold takeHead; try dsimp only
  (repeat' split) <;> simp
@[simp] theorem takeHead_ssu_snapshot (s : State) : (takeHead s).ssu.snapshot = s.ssu.snapshot := by
  unfold takeHead; try dsimp only
  (repeat' split) <;> simp
@[simp] theorem takeHead_ssu_saveOwed (s : State) : (takeHead s).ssu.saveOwed = s.ssu.saveOwed := by
  unfold takeHead; try dsimp only
  (repeat' split) <;> simp
@[simp] theorem takeHead_ssu_lastSave (s : State) : (takeHead s).ssu.lastSave = s.ssu.lastSave := by
  unfold takeHead; try dsimp only
  (repeat' split) <;> simp
@[simp] theorem takeHead_ssu_auditArea (s : State) : (takeHead s).ssu.auditArea = s.ssu.auditArea := by
  unfold takeHead; try dsimp only
  (repeat' split) <;> simp
@[simp] theorem motorGranted_pending (s : State) : (motorGranted s).pending = s.pending := by
  unfold motorGranted; try dsimp only
  (repeat' split) <;> simp
@[simp] theorem motorGranted_due (s : State) : (motorGranted s).due = s.due := by
  unfold motorGranted; try dsimp only
  (repeat' split) <;> simp
@[simp] theorem motorGranted_phase (s : State) : (motorGranted s).phase = s.phase := by
  unfold motorGranted; try dsimp only
  (repeat' split) <;> simp
@[simp] theorem motorGranted_inputs (s : State) : (motorGranted s).inputs = s.inputs := by
  unfold motorGranted; try dsimp only
  (repeat' split) <;> simp
@[simp] theorem motorGranted_outputs (s : State) : (motorGranted s).outputs = s.outputs := by
  unfold motorGranted; try dsimp only
  (repeat' split) <;> simp
@[simp] theorem motorGranted_params (s : State) : (motorGranted s).params = s.params := by
  unfold motorGranted; try dsimp only
  (repeat' split) <;> simp
@[simp] theorem motorGranted_cnu (s : State) : (motorGranted s).cnu = s.cnu := by
  unfold motorGranted; try dsimp only
  (repeat' split) <;> simp
@[simp] theorem motorGranted_cca (s : State) : (motorGranted s).cca = s.cca := by
  unfold motorGranted; try dsimp only
  (repeat' split) <;> simp
@[simp] theorem motorGranted_rfc (s : State) : (motorGranted s).rfc = s.rfc := by
  unfold motorGranted; try dsimp only
  (repeat' split) <;> simp
@[simp] theorem motorGranted_cru_probeShort (s : State) : (motorGranted s).cru.probeShort = s.cru.probeShort := by
  unfold motorGranted; try dsimp only
  (repeat' split) <;> simp
@[simp] theorem motorGranted_cru_strayExits (s : State) : (motorGranted s).cru.strayExits = s.cru.strayExits := by
  unfold motorGranted; try dsimp only
  (repeat' split) <;> simp
@[simp] theorem motorGranted_vsq_queue (s : State) : (motorGranted s).vsq.queue = s.vsq.queue := by
  unfold motorGranted; try dsimp only
  (repeat' split) <;> simp
@[simp] theorem motorGranted_vsq_tagCounter (s : State) : (motorGranted s).vsq.tagCounter = s.vsq.tagCounter := by
  unfold motorGranted; try dsimp only
  (repeat' split) <;> simp
@[simp] theorem motorGranted_mxd_state (s : State) : (motorGranted s).mxd.state = s.mxd.state := by
  unfold motorGranted; try dsimp only
  (repeat' split) <;> simp
@[simp] theorem motorGranted_mxd_latch (s : State) : (motorGranted s).mxd.latch = s.mxd.latch := by
  unfold motorGranted; try dsimp only
  (repeat' split) <;> simp
@[simp] theorem motorGranted_mxd_hold (s : State) : (motorGranted s).mxd.hold = s.mxd.hold := by
  unfold motorGranted; try dsimp only
  (repeat' split) <;> simp
@[simp] theorem motorGranted_mxd_mismatch (s : State) : (motorGranted s).mxd.mismatch = s.mxd.mismatch := by
  unfold motorGranted; try dsimp only
  (repeat' split) <;> simp
@[simp] theorem motorGranted_mxd_fault (s : State) : (motorGranted s).mxd.fault = s.mxd.fault := by
  unfold motorGranted; try dsimp only
  (repeat' split) <;> simp
@[simp] theorem motorGranted_mxd_energised (s : State) : (motorGranted s).mxd.energised = s.mxd.energised := by
  unfold motorGranted; try dsimp only
  (repeat' split) <;> simp
@[simp] theorem motorGranted_mxd_samples (s : State) : (motorGranted s).mxd.samples = s.mxd.samples := by
  unfold motorGranted; try dsimp only
  (repeat' split) <;> simp
@[simp] theorem motorGranted_mxd_stallRun (s : State) : (motorGranted s).mxd.stallRun = s.mxd.stallRun := by
  unfold motorGranted; try dsimp only
  (repeat' split) <;> simp
@[simp] theorem motorGranted_mxd_supervision (s : State) : (motorGranted s).mxd.supervision = s.mxd.supervision := by
  unfold motorGranted; try dsimp only
  (repeat' split) <;> simp
@[simp] theorem motorGranted_mxd_lastSample (s : State) : (motorGranted s).mxd.lastSample = s.mxd.lastSample := by
  unfold motorGranted; try dsimp only
  (repeat' split) <;> simp
@[simp] theorem motorGranted_mxd_tick (s : State) : (motorGranted s).mxd.tick = s.mxd.tick := by
  unfold motorGranted; try dsimp only
  (repeat' split) <;> simp
@[simp] theorem motorGranted_lbu_peers (s : State) : (motorGranted s).lbu.peers = s.lbu.peers := by
  unfold motorGranted; try dsimp only
  (repeat' split) <;> simp
@[simp] theorem motorGranted_lbu_ignored (s : State) : (motorGranted s).lbu.ignored = s.lbu.ignored := by
  unfold motorGranted; try dsimp only
  (repeat' split) <;> simp
@[simp] theorem motorGranted_lbu_objectSum (s : State) : (motorGranted s).lbu.objectSum = s.lbu.objectSum := by
  unfold motorGranted; try dsimp only
  (repeat' split) <;> simp
@[simp] theorem motorGranted_lnk_state (s : State) : (motorGranted s).lnk.state = s.lnk.state := by
  unfold motorGranted; try dsimp only
  (repeat' split) <;> simp
@[simp] theorem motorGranted_lnk_heard (s : State) : (motorGranted s).lnk.heard = s.lnk.heard := by
  unfold motorGranted; try dsimp only
  (repeat' split) <;> simp
@[simp] theorem motorGranted_lnk_acknowledged (s : State) : (motorGranted s).lnk.acknowledged = s.lnk.acknowledged := by
  unfold motorGranted; try dsimp only
  (repeat' split) <;> simp
@[simp] theorem motorGranted_lnk_isolationTimer (s : State) : (motorGranted s).lnk.isolationTimer = s.lnk.isolationTimer := by
  unfold motorGranted; try dsimp only
  (repeat' split) <;> simp
@[simp] theorem motorGranted_lnk_silentTimer (s : State) : (motorGranted s).lnk.silentTimer = s.lnk.silentTimer := by
  unfold motorGranted; try dsimp only
  (repeat' split) <;> simp
@[simp] theorem motorGranted_lnk_failures (s : State) : (motorGranted s).lnk.failures = s.lnk.failures := by
  unfold motorGranted; try dsimp only
  (repeat' split) <;> simp
@[simp] theorem motorGranted_lnk_unknownFrames (s : State) : (motorGranted s).lnk.unknownFrames = s.lnk.unknownFrames := by
  unfold motorGranted; try dsimp only
  (repeat' split) <;> simp
@[simp] theorem motorGranted_lnk_droppedFrames (s : State) : (motorGranted s).lnk.droppedFrames = s.lnk.droppedFrames := by
  unfold motorGranted; try dsimp only
  (repeat' split) <;> simp
@[simp] theorem motorGranted_lnk_silentEntries (s : State) : (motorGranted s).lnk.silentEntries = s.lnk.silentEntries := by
  unfold motorGranted; try dsimp only
  (repeat' split) <;> simp
@[simp] theorem motorGranted_ssu_own (s : State) : (motorGranted s).ssu.own = s.ssu.own := by
  unfold motorGranted; try dsimp only
  (repeat' split) <;> simp
@[simp] theorem motorGranted_ssu_cause (s : State) : (motorGranted s).ssu.cause = s.ssu.cause := by
  unfold motorGranted; try dsimp only
  (repeat' split) <;> simp
@[simp] theorem motorGranted_ssu_imageStatus (s : State) : (motorGranted s).ssu.imageStatus = s.ssu.imageStatus := by
  unfold motorGranted; try dsimp only
  (repeat' split) <;> simp
@[simp] theorem motorGranted_ssu_auditGood (s : State) : (motorGranted s).ssu.auditGood = s.ssu.auditGood := by
  unfold motorGranted; try dsimp only
  (repeat' split) <;> simp
@[simp] theorem motorGranted_ssu_snapshot (s : State) : (motorGranted s).ssu.snapshot = s.ssu.snapshot := by
  unfold motorGranted; try dsimp only
  (repeat' split) <;> simp
@[simp] theorem motorGranted_ssu_saveOwed (s : State) : (motorGranted s).ssu.saveOwed = s.ssu.saveOwed := by
  unfold motorGranted; try dsimp only
  (repeat' split) <;> simp
@[simp] theorem motorGranted_ssu_lastSave (s : State) : (motorGranted s).ssu.lastSave = s.ssu.lastSave := by
  unfold motorGranted; try dsimp only
  (repeat' split) <;> simp
@[simp] theorem motorGranted_ssu_auditArea (s : State) : (motorGranted s).ssu.auditArea = s.ssu.auditArea := by
  unfold motorGranted; try dsimp only
  (repeat' split) <;> simp
@[simp] theorem compressorGranted_pending (s : State) : (compressorGranted s).pending = s.pending := by
  unfold compressorGranted; try dsimp only
  (repeat' split) <;> simp
@[simp] theorem compressorGranted_due (s : State) : (compressorGranted s).due = s.due := by
  unfold compressorGranted; try dsimp only
  (repeat' split) <;> simp
@[simp] theorem compressorGranted_phase (s : State) : (compressorGranted s).phase = s.phase := by
  unfold compressorGranted; try dsimp only
  (repeat' split) <;> simp
@[simp] theorem compressorGranted_inputs (s : State) : (compressorGranted s).inputs = s.inputs := by
  unfold compressorGranted; try dsimp only
  (repeat' split) <;> simp
@[simp] theorem compressorGranted_outputs (s : State) : (compressorGranted s).outputs = s.outputs := by
  unfold compressorGranted; try dsimp only
  (repeat' split) <;> simp
@[simp] theorem compressorGranted_params (s : State) : (compressorGranted s).params = s.params := by
  unfold compressorGranted; try dsimp only
  (repeat' split) <;> simp
@[simp] theorem compressorGranted_cnu (s : State) : (compressorGranted s).cnu = s.cnu := by
  unfold compressorGranted; try dsimp only
  (repeat' split) <;> simp
@[simp] theorem compressorGranted_cru (s : State) : (compressorGranted s).cru = s.cru := by
  unfold compressorGranted; try dsimp only
  (repeat' split) <;> simp
@[simp] theorem compressorGranted_cca (s : State) : (compressorGranted s).cca = s.cca := by
  unfold compressorGranted; try dsimp only
  (repeat' split) <;> simp
@[simp] theorem compressorGranted_vsq (s : State) : (compressorGranted s).vsq = s.vsq := by
  unfold compressorGranted; try dsimp only
  (repeat' split) <;> simp
@[simp] theorem compressorGranted_mxd (s : State) : (compressorGranted s).mxd = s.mxd := by
  unfold compressorGranted; try dsimp only
  (repeat' split) <;> simp
@[simp] theorem compressorGranted_lbu (s : State) : (compressorGranted s).lbu = s.lbu := by
  unfold compressorGranted; try dsimp only
  (repeat' split) <;> simp
@[simp] theorem compressorGranted_lnk (s : State) : (compressorGranted s).lnk = s.lnk := by
  unfold compressorGranted; try dsimp only
  (repeat' split) <;> simp
@[simp] theorem compressorGranted_ssu (s : State) : (compressorGranted s).ssu = s.ssu := by
  unfold compressorGranted; try dsimp only
  (repeat' split) <;> simp
@[simp] theorem compressorGranted_rfc_cabinet (s : State) : (compressorGranted s).rfc.cabinet = s.rfc.cabinet := by
  unfold compressorGranted; try dsimp only
  (repeat' split) <;> simp
@[simp] theorem compressorGranted_rfc_evaporator (s : State) : (compressorGranted s).rfc.evaporator = s.rfc.evaporator := by
  unfold compressorGranted; try dsimp only
  (repeat' split) <;> simp
@[simp] theorem compressorGranted_rfc_lockoutTimer (s : State) : (compressorGranted s).rfc.lockoutTimer = s.rfc.lockoutTimer := by
  unfold compressorGranted; try dsimp only
  (repeat' split) <;> simp
@[simp] theorem compressorGranted_rfc_cycleTimer (s : State) : (compressorGranted s).rfc.cycleTimer = s.rfc.cycleTimer := by
  unfold compressorGranted; try dsimp only
  (repeat' split) <;> simp
@[simp] theorem compressorGranted_rfc_classAsked (s : State) : (compressorGranted s).rfc.classAsked = s.rfc.classAsked := by
  unfold compressorGranted; try dsimp only
  (repeat' split) <;> simp
@[simp] theorem compressorGranted_rfc_offTimer (s : State) : (compressorGranted s).rfc.offTimer = s.rfc.offTimer := by
  unfold compressorGranted; try dsimp only
  (repeat' split) <;> simp
@[simp] theorem compressorGranted_rfc_accumulator (s : State) : (compressorGranted s).rfc.accumulator = s.rfc.accumulator := by
  unfold compressorGranted; try dsimp only
  (repeat' split) <;> simp
@[simp] theorem compressorGranted_rfc_defrostDue (s : State) : (compressorGranted s).rfc.defrostDue = s.rfc.defrostDue := by
  unfold compressorGranted; try dsimp only
  (repeat' split) <;> simp
@[simp] theorem compressorGranted_rfc_defrostTimer (s : State) : (compressorGranted s).rfc.defrostTimer = s.rfc.defrostTimer := by
  unfold compressorGranted; try dsimp only
  (repeat' split) <;> simp
@[simp] theorem compressorGranted_rfc_heaterMode (s : State) : (compressorGranted s).rfc.heaterMode = s.rfc.heaterMode := by
  unfold compressorGranted; try dsimp only
  (repeat' split) <;> simp
@[simp] theorem compressorGranted_rfc_dripTimer (s : State) : (compressorGranted s).rfc.dripTimer = s.rfc.dripTimer := by
  unfold compressorGranted; try dsimp only
  (repeat' split) <;> simp
@[simp] theorem compressorGranted_rfc_sellableCold (s : State) : (compressorGranted s).rfc.sellableCold = s.rfc.sellableCold := by
  unfold compressorGranted; try dsimp only
  (repeat' split) <;> simp
@[simp] theorem compressorGranted_rfc_warmTimer (s : State) : (compressorGranted s).rfc.warmTimer = s.rfc.warmTimer := by
  unfold compressorGranted; try dsimp only
  (repeat' split) <;> simp
@[simp] theorem compressorGranted_rfc_hotHold (s : State) : (compressorGranted s).rfc.hotHold = s.rfc.hotHold := by
  unfold compressorGranted; try dsimp only
  (repeat' split) <;> simp
@[simp] theorem heaterGranted_pending (s : State) : (heaterGranted s).pending = s.pending := by
  unfold heaterGranted; try dsimp only
  (repeat' split) <;> simp
@[simp] theorem heaterGranted_due (s : State) : (heaterGranted s).due = s.due := by
  unfold heaterGranted; try dsimp only
  (repeat' split) <;> simp
@[simp] theorem heaterGranted_phase (s : State) : (heaterGranted s).phase = s.phase := by
  unfold heaterGranted; try dsimp only
  (repeat' split) <;> simp
@[simp] theorem heaterGranted_inputs (s : State) : (heaterGranted s).inputs = s.inputs := by
  unfold heaterGranted; try dsimp only
  (repeat' split) <;> simp
@[simp] theorem heaterGranted_outputs (s : State) : (heaterGranted s).outputs = s.outputs := by
  unfold heaterGranted; try dsimp only
  (repeat' split) <;> simp
@[simp] theorem heaterGranted_params (s : State) : (heaterGranted s).params = s.params := by
  unfold heaterGranted; try dsimp only
  (repeat' split) <;> simp
@[simp] theorem heaterGranted_cnu (s : State) : (heaterGranted s).cnu = s.cnu := by
  unfold heaterGranted; try dsimp only
  (repeat' split) <;> simp
@[simp] theorem heaterGranted_cru (s : State) : (heaterGranted s).cru = s.cru := by
  unfold heaterGranted; try dsimp only
  (repeat' split) <;> simp
@[simp] theorem heaterGranted_cca (s : State) : (heaterGranted s).cca = s.cca := by
  unfold heaterGranted; try dsimp only
  (repeat' split) <;> simp
@[simp] theorem heaterGranted_vsq (s : State) : (heaterGranted s).vsq = s.vsq := by
  unfold heaterGranted; try dsimp only
  (repeat' split) <;> simp
@[simp] theorem heaterGranted_mxd (s : State) : (heaterGranted s).mxd = s.mxd := by
  unfold heaterGranted; try dsimp only
  (repeat' split) <;> simp
@[simp] theorem heaterGranted_lbu (s : State) : (heaterGranted s).lbu = s.lbu := by
  unfold heaterGranted; try dsimp only
  (repeat' split) <;> simp
@[simp] theorem heaterGranted_lnk (s : State) : (heaterGranted s).lnk = s.lnk := by
  unfold heaterGranted; try dsimp only
  (repeat' split) <;> simp
@[simp] theorem heaterGranted_ssu (s : State) : (heaterGranted s).ssu = s.ssu := by
  unfold heaterGranted; try dsimp only
  (repeat' split) <;> simp
@[simp] theorem heaterGranted_rfc_cabinet (s : State) : (heaterGranted s).rfc.cabinet = s.rfc.cabinet := by
  unfold heaterGranted; try dsimp only
  (repeat' split) <;> simp
@[simp] theorem heaterGranted_rfc_evaporator (s : State) : (heaterGranted s).rfc.evaporator = s.rfc.evaporator := by
  unfold heaterGranted; try dsimp only
  (repeat' split) <;> simp
@[simp] theorem heaterGranted_rfc_state (s : State) : (heaterGranted s).rfc.state = s.rfc.state := by
  unfold heaterGranted; try dsimp only
  (repeat' split) <;> simp
@[simp] theorem heaterGranted_rfc_lockoutTimer (s : State) : (heaterGranted s).rfc.lockoutTimer = s.rfc.lockoutTimer := by
  unfold heaterGranted; try dsimp only
  (repeat' split) <;> simp
@[simp] theorem heaterGranted_rfc_cycleTimer (s : State) : (heaterGranted s).rfc.cycleTimer = s.rfc.cycleTimer := by
  unfold heaterGranted; try dsimp only
  (repeat' split) <;> simp
@[simp] theorem heaterGranted_rfc_classAsked (s : State) : (heaterGranted s).rfc.classAsked = s.rfc.classAsked := by
  unfold heaterGranted; try dsimp only
  (repeat' split) <;> simp
@[simp] theorem heaterGranted_rfc_startTimer (s : State) : (heaterGranted s).rfc.startTimer = s.rfc.startTimer := by
  unfold heaterGranted; try dsimp only
  (repeat' split) <;> simp
@[simp] theorem heaterGranted_rfc_onTimer (s : State) : (heaterGranted s).rfc.onTimer = s.rfc.onTimer := by
  unfold heaterGranted; try dsimp only
  (repeat' split) <;> simp
@[simp] theorem heaterGranted_rfc_offTimer (s : State) : (heaterGranted s).rfc.offTimer = s.rfc.offTimer := by
  unfold heaterGranted; try dsimp only
  (repeat' split) <;> simp
@[simp] theorem heaterGranted_rfc_accumulator (s : State) : (heaterGranted s).rfc.accumulator = s.rfc.accumulator := by
  unfold heaterGranted; try dsimp only
  (repeat' split) <;> simp
@[simp] theorem heaterGranted_rfc_second (s : State) : (heaterGranted s).rfc.second = s.rfc.second := by
  unfold heaterGranted; try dsimp only
  (repeat' split) <;> simp
@[simp] theorem heaterGranted_rfc_defrostDue (s : State) : (heaterGranted s).rfc.defrostDue = s.rfc.defrostDue := by
  unfold heaterGranted; try dsimp only
  (repeat' split) <;> simp
@[simp] theorem heaterGranted_rfc_defrostTimer (s : State) : (heaterGranted s).rfc.defrostTimer = s.rfc.defrostTimer := by
  unfold heaterGranted; try dsimp only
  (repeat' split) <;> simp
@[simp] theorem heaterGranted_rfc_dripTimer (s : State) : (heaterGranted s).rfc.dripTimer = s.rfc.dripTimer := by
  unfold heaterGranted; try dsimp only
  (repeat' split) <;> simp
@[simp] theorem heaterGranted_rfc_sellableCold (s : State) : (heaterGranted s).rfc.sellableCold = s.rfc.sellableCold := by
  unfold heaterGranted; try dsimp only
  (repeat' split) <;> simp
@[simp] theorem heaterGranted_rfc_warmTimer (s : State) : (heaterGranted s).rfc.warmTimer = s.rfc.warmTimer := by
  unfold heaterGranted; try dsimp only
  (repeat' split) <;> simp
@[simp] theorem heaterGranted_rfc_hotHold (s : State) : (heaterGranted s).rfc.hotHold = s.rfc.hotHold := by
  unfold heaterGranted; try dsimp only
  (repeat' split) <;> simp
@[simp] theorem takeSignal_pending (g : Signal) (s : State) : (takeSignal g s).pending = s.pending := by
  unfold takeSignal; try dsimp only
  (repeat' split) <;> simp
@[simp] theorem takeSignal_due (g : Signal) (s : State) : (takeSignal g s).due = s.due := by
  unfold takeSignal; try dsimp only
  (repeat' split) <;> simp
@[simp] theorem takeSignal_phase (g : Signal) (s : State) : (takeSignal g s).phase = s.phase := by
  unfold takeSignal; try dsimp only
  (repeat' split) <;> simp
@[simp] theorem takeSignal_inputs (g : Signal) (s : State) : (takeSignal g s).inputs = s.inputs := by
  unfold takeSignal; try dsimp only
  (repeat' split) <;> simp
@[simp] theorem takeSignal_outputs (g : Signal) (s : State) : (takeSignal g s).outputs = s.outputs := by
  unfold takeSignal; try dsimp only
  (repeat' split) <;> simp
@[simp] theorem takeSignal_params (g : Signal) (s : State) : (takeSignal g s).params = s.params := by
  unfold takeSignal; try dsimp only
  (repeat' split) <;> simp
@[simp] theorem takeSignal_cnu (g : Signal) (s : State) : (takeSignal g s).cnu = s.cnu := by
  unfold takeSignal; try dsimp only
  (repeat' split) <;> simp
@[simp] theorem takeSignal_cca (g : Signal) (s : State) : (takeSignal g s).cca = s.cca := by
  unfold takeSignal; try dsimp only
  (repeat' split) <;> simp
@[simp] theorem takeSignal_cru_probeShort (g : Signal) (s : State) : (takeSignal g s).cru.probeShort = s.cru.probeShort := by
  unfold takeSignal; try dsimp only
  (repeat' split) <;> simp
@[simp] theorem takeSignal_cru_strayExits (g : Signal) (s : State) : (takeSignal g s).cru.strayExits = s.cru.strayExits := by
  unfold takeSignal; try dsimp only
  (repeat' split) <;> simp
@[simp] theorem takeSignal_mxd_state (g : Signal) (s : State) : (takeSignal g s).mxd.state = s.mxd.state := by
  unfold takeSignal; try dsimp only
  (repeat' split) <;> simp
@[simp] theorem takeSignal_mxd_latch (g : Signal) (s : State) : (takeSignal g s).mxd.latch = s.mxd.latch := by
  unfold takeSignal; try dsimp only
  (repeat' split) <;> simp
@[simp] theorem takeSignal_mxd_hold (g : Signal) (s : State) : (takeSignal g s).mxd.hold = s.mxd.hold := by
  unfold takeSignal; try dsimp only
  (repeat' split) <;> simp
@[simp] theorem takeSignal_mxd_mismatch (g : Signal) (s : State) : (takeSignal g s).mxd.mismatch = s.mxd.mismatch := by
  unfold takeSignal; try dsimp only
  (repeat' split) <;> simp
@[simp] theorem takeSignal_mxd_fault (g : Signal) (s : State) : (takeSignal g s).mxd.fault = s.mxd.fault := by
  unfold takeSignal; try dsimp only
  (repeat' split) <;> simp
@[simp] theorem takeSignal_mxd_energised (g : Signal) (s : State) : (takeSignal g s).mxd.energised = s.mxd.energised := by
  unfold takeSignal; try dsimp only
  (repeat' split) <;> simp
@[simp] theorem takeSignal_mxd_samples (g : Signal) (s : State) : (takeSignal g s).mxd.samples = s.mxd.samples := by
  unfold takeSignal; try dsimp only
  (repeat' split) <;> simp
@[simp] theorem takeSignal_mxd_stallRun (g : Signal) (s : State) : (takeSignal g s).mxd.stallRun = s.mxd.stallRun := by
  unfold takeSignal; try dsimp only
  (repeat' split) <;> simp
@[simp] theorem takeSignal_mxd_supervision (g : Signal) (s : State) : (takeSignal g s).mxd.supervision = s.mxd.supervision := by
  unfold takeSignal; try dsimp only
  (repeat' split) <;> simp
@[simp] theorem takeSignal_mxd_lastSample (g : Signal) (s : State) : (takeSignal g s).mxd.lastSample = s.mxd.lastSample := by
  unfold takeSignal; try dsimp only
  (repeat' split) <;> simp
@[simp] theorem takeSignal_mxd_tick (g : Signal) (s : State) : (takeSignal g s).mxd.tick = s.mxd.tick := by
  unfold takeSignal; try dsimp only
  (repeat' split) <;> simp
@[simp] theorem takeSignal_rfc_cabinet (g : Signal) (s : State) : (takeSignal g s).rfc.cabinet = s.rfc.cabinet := by
  unfold takeSignal; try dsimp only
  (repeat' split) <;> simp
@[simp] theorem takeSignal_rfc_evaporator (g : Signal) (s : State) : (takeSignal g s).rfc.evaporator = s.rfc.evaporator := by
  unfold takeSignal; try dsimp only
  (repeat' split) <;> simp
@[simp] theorem takeSignal_rfc_lockoutTimer (g : Signal) (s : State) : (takeSignal g s).rfc.lockoutTimer = s.rfc.lockoutTimer := by
  unfold takeSignal; try dsimp only
  (repeat' split) <;> simp
@[simp] theorem takeSignal_rfc_cycleTimer (g : Signal) (s : State) : (takeSignal g s).rfc.cycleTimer = s.rfc.cycleTimer := by
  unfold takeSignal; try dsimp only
  (repeat' split) <;> simp
@[simp] theorem takeSignal_rfc_classAsked (g : Signal) (s : State) : (takeSignal g s).rfc.classAsked = s.rfc.classAsked := by
  unfold takeSignal; try dsimp only
  (repeat' split) <;> simp
@[simp] theorem takeSignal_rfc_offTimer (g : Signal) (s : State) : (takeSignal g s).rfc.offTimer = s.rfc.offTimer := by
  unfold takeSignal; try dsimp only
  (repeat' split) <;> simp
@[simp] theorem takeSignal_rfc_accumulator (g : Signal) (s : State) : (takeSignal g s).rfc.accumulator = s.rfc.accumulator := by
  unfold takeSignal; try dsimp only
  (repeat' split) <;> simp
@[simp] theorem takeSignal_rfc_defrostDue (g : Signal) (s : State) : (takeSignal g s).rfc.defrostDue = s.rfc.defrostDue := by
  unfold takeSignal; try dsimp only
  (repeat' split) <;> simp
@[simp] theorem takeSignal_rfc_defrostTimer (g : Signal) (s : State) : (takeSignal g s).rfc.defrostTimer = s.rfc.defrostTimer := by
  unfold takeSignal; try dsimp only
  (repeat' split) <;> simp
@[simp] theorem takeSignal_rfc_dripTimer (g : Signal) (s : State) : (takeSignal g s).rfc.dripTimer = s.rfc.dripTimer := by
  unfold takeSignal; try dsimp only
  (repeat' split) <;> simp
@[simp] theorem takeSignal_rfc_sellableCold (g : Signal) (s : State) : (takeSignal g s).rfc.sellableCold = s.rfc.sellableCold := by
  unfold takeSignal; try dsimp only
  (repeat' split) <;> simp
@[simp] theorem takeSignal_rfc_warmTimer (g : Signal) (s : State) : (takeSignal g s).rfc.warmTimer = s.rfc.warmTimer := by
  unfold takeSignal; try dsimp only
  (repeat' split) <;> simp
@[simp] theorem takeSignal_rfc_hotHold (g : Signal) (s : State) : (takeSignal g s).rfc.hotHold = s.rfc.hotHold := by
  unfold takeSignal; try dsimp only
  (repeat' split) <;> simp
@[simp] theorem takeSignal_lbu_peers (g : Signal) (s : State) : (takeSignal g s).lbu.peers = s.lbu.peers := by
  unfold takeSignal; try dsimp only
  (repeat' split) <;> simp
@[simp] theorem takeSignal_lbu_ignored (g : Signal) (s : State) : (takeSignal g s).lbu.ignored = s.lbu.ignored := by
  unfold takeSignal; try dsimp only
  (repeat' split) <;> simp
@[simp] theorem takeSignal_lbu_objectSum (g : Signal) (s : State) : (takeSignal g s).lbu.objectSum = s.lbu.objectSum := by
  unfold takeSignal; try dsimp only
  (repeat' split) <;> simp
@[simp] theorem takeSignal_lnk_state (g : Signal) (s : State) : (takeSignal g s).lnk.state = s.lnk.state := by
  unfold takeSignal; try dsimp only
  (repeat' split) <;> simp
@[simp] theorem takeSignal_lnk_heard (g : Signal) (s : State) : (takeSignal g s).lnk.heard = s.lnk.heard := by
  unfold takeSignal; try dsimp only
  (repeat' split) <;> simp
@[simp] theorem takeSignal_lnk_acknowledged (g : Signal) (s : State) : (takeSignal g s).lnk.acknowledged = s.lnk.acknowledged := by
  unfold takeSignal; try dsimp only
  (repeat' split) <;> simp
@[simp] theorem takeSignal_lnk_isolationTimer (g : Signal) (s : State) : (takeSignal g s).lnk.isolationTimer = s.lnk.isolationTimer := by
  unfold takeSignal; try dsimp only
  (repeat' split) <;> simp
@[simp] theorem takeSignal_lnk_silentTimer (g : Signal) (s : State) : (takeSignal g s).lnk.silentTimer = s.lnk.silentTimer := by
  unfold takeSignal; try dsimp only
  (repeat' split) <;> simp
@[simp] theorem takeSignal_lnk_failures (g : Signal) (s : State) : (takeSignal g s).lnk.failures = s.lnk.failures := by
  unfold takeSignal; try dsimp only
  (repeat' split) <;> simp
@[simp] theorem takeSignal_lnk_unknownFrames (g : Signal) (s : State) : (takeSignal g s).lnk.unknownFrames = s.lnk.unknownFrames := by
  unfold takeSignal; try dsimp only
  (repeat' split) <;> simp
@[simp] theorem takeSignal_lnk_droppedFrames (g : Signal) (s : State) : (takeSignal g s).lnk.droppedFrames = s.lnk.droppedFrames := by
  unfold takeSignal; try dsimp only
  (repeat' split) <;> simp
@[simp] theorem takeSignal_lnk_silentEntries (g : Signal) (s : State) : (takeSignal g s).lnk.silentEntries = s.lnk.silentEntries := by
  unfold takeSignal; try dsimp only
  (repeat' split) <;> simp
@[simp] theorem takeSignal_ssu_own (g : Signal) (s : State) : (takeSignal g s).ssu.own = s.ssu.own := by
  unfold takeSignal; try dsimp only
  (repeat' split) <;> simp
@[simp] theorem takeSignal_ssu_cause (g : Signal) (s : State) : (takeSignal g s).ssu.cause = s.ssu.cause := by
  unfold takeSignal; try dsimp only
  (repeat' split) <;> simp
@[simp] theorem takeSignal_ssu_imageStatus (g : Signal) (s : State) : (takeSignal g s).ssu.imageStatus = s.ssu.imageStatus := by
  unfold takeSignal; try dsimp only
  (repeat' split) <;> simp
@[simp] theorem takeSignal_ssu_auditGood (g : Signal) (s : State) : (takeSignal g s).ssu.auditGood = s.ssu.auditGood := by
  unfold takeSignal; try dsimp only
  (repeat' split) <;> simp
@[simp] theorem takeSignal_ssu_snapshot (g : Signal) (s : State) : (takeSignal g s).ssu.snapshot = s.ssu.snapshot := by
  unfold takeSignal; try dsimp only
  (repeat' split) <;> simp
@[simp] theorem takeSignal_ssu_saveOwed (g : Signal) (s : State) : (takeSignal g s).ssu.saveOwed = s.ssu.saveOwed := by
  unfold takeSignal; try dsimp only
  (repeat' split) <;> simp
@[simp] theorem takeSignal_ssu_lastSave (g : Signal) (s : State) : (takeSignal g s).ssu.lastSave = s.ssu.lastSave := by
  unfold takeSignal; try dsimp only
  (repeat' split) <;> simp
@[simp] theorem takeSignal_ssu_auditArea (g : Signal) (s : State) : (takeSignal g s).ssu.auditArea = s.ssu.auditArea := by
  unfold takeSignal; try dsimp only
  (repeat' split) <;> simp
@[simp] theorem runAgendaFor_pending (n : Nat) (s : State) : (runAgendaFor n s).pending = s.pending := by
  induction n generalizing s with
  | zero => rfl
  | succ n ih => unfold runAgendaFor; split <;> simp [ih]
@[simp] theorem runAgendaFor_due (n : Nat) (s : State) : (runAgendaFor n s).due = s.due := by
  induction n generalizing s with
  | zero => rfl
  | succ n ih => unfold runAgendaFor; split <;> simp [ih]
@[simp] theorem runAgendaFor_phase (n : Nat) (s : State) : (runAgendaFor n s).phase = s.phase := by
  induction n generalizing s with
  | zero => rfl
  | succ n ih => unfold runAgendaFor; split <;> simp [ih]
@[simp] theorem runAgendaFor_inputs (n : Nat) (s : State) : (runAgendaFor n s).inputs = s.inputs := by
  induction n generalizing s with
  | zero => rfl
  | succ n ih => unfold runAgendaFor; split <;> simp [ih]
@[simp] theorem runAgendaFor_outputs (n : Nat) (s : State) : (runAgendaFor n s).outputs = s.outputs := by
  induction n generalizing s with
  | zero => rfl
  | succ n ih => unfold runAgendaFor; split <;> simp [ih]
@[simp] theorem runAgendaFor_params (n : Nat) (s : State) : (runAgendaFor n s).params = s.params := by
  induction n generalizing s with
  | zero => rfl
  | succ n ih => unfold runAgendaFor; split <;> simp [ih]
@[simp] theorem runAgendaFor_cnu (n : Nat) (s : State) : (runAgendaFor n s).cnu = s.cnu := by
  induction n generalizing s with
  | zero => rfl
  | succ n ih => unfold runAgendaFor; split <;> simp [ih]
@[simp] theorem runAgendaFor_cca (n : Nat) (s : State) : (runAgendaFor n s).cca = s.cca := by
  induction n generalizing s with
  | zero => rfl
  | succ n ih => unfold runAgendaFor; split <;> simp [ih]
@[simp] theorem runAgendaFor_cru_probeShort (n : Nat) (s : State) : (runAgendaFor n s).cru.probeShort = s.cru.probeShort := by
  induction n generalizing s with
  | zero => rfl
  | succ n ih => unfold runAgendaFor; split <;> simp [ih]
@[simp] theorem runAgendaFor_cru_strayExits (n : Nat) (s : State) : (runAgendaFor n s).cru.strayExits = s.cru.strayExits := by
  induction n generalizing s with
  | zero => rfl
  | succ n ih => unfold runAgendaFor; split <;> simp [ih]
@[simp] theorem runAgendaFor_mxd_state (n : Nat) (s : State) : (runAgendaFor n s).mxd.state = s.mxd.state := by
  induction n generalizing s with
  | zero => rfl
  | succ n ih => unfold runAgendaFor; split <;> simp [ih]
@[simp] theorem runAgendaFor_mxd_latch (n : Nat) (s : State) : (runAgendaFor n s).mxd.latch = s.mxd.latch := by
  induction n generalizing s with
  | zero => rfl
  | succ n ih => unfold runAgendaFor; split <;> simp [ih]
@[simp] theorem runAgendaFor_mxd_hold (n : Nat) (s : State) : (runAgendaFor n s).mxd.hold = s.mxd.hold := by
  induction n generalizing s with
  | zero => rfl
  | succ n ih => unfold runAgendaFor; split <;> simp [ih]
@[simp] theorem runAgendaFor_mxd_mismatch (n : Nat) (s : State) : (runAgendaFor n s).mxd.mismatch = s.mxd.mismatch := by
  induction n generalizing s with
  | zero => rfl
  | succ n ih => unfold runAgendaFor; split <;> simp [ih]
@[simp] theorem runAgendaFor_mxd_fault (n : Nat) (s : State) : (runAgendaFor n s).mxd.fault = s.mxd.fault := by
  induction n generalizing s with
  | zero => rfl
  | succ n ih => unfold runAgendaFor; split <;> simp [ih]
@[simp] theorem runAgendaFor_mxd_energised (n : Nat) (s : State) : (runAgendaFor n s).mxd.energised = s.mxd.energised := by
  induction n generalizing s with
  | zero => rfl
  | succ n ih => unfold runAgendaFor; split <;> simp [ih]
@[simp] theorem runAgendaFor_mxd_samples (n : Nat) (s : State) : (runAgendaFor n s).mxd.samples = s.mxd.samples := by
  induction n generalizing s with
  | zero => rfl
  | succ n ih => unfold runAgendaFor; split <;> simp [ih]
@[simp] theorem runAgendaFor_mxd_stallRun (n : Nat) (s : State) : (runAgendaFor n s).mxd.stallRun = s.mxd.stallRun := by
  induction n generalizing s with
  | zero => rfl
  | succ n ih => unfold runAgendaFor; split <;> simp [ih]
@[simp] theorem runAgendaFor_mxd_supervision (n : Nat) (s : State) : (runAgendaFor n s).mxd.supervision = s.mxd.supervision := by
  induction n generalizing s with
  | zero => rfl
  | succ n ih => unfold runAgendaFor; split <;> simp [ih]
@[simp] theorem runAgendaFor_mxd_lastSample (n : Nat) (s : State) : (runAgendaFor n s).mxd.lastSample = s.mxd.lastSample := by
  induction n generalizing s with
  | zero => rfl
  | succ n ih => unfold runAgendaFor; split <;> simp [ih]
@[simp] theorem runAgendaFor_mxd_tick (n : Nat) (s : State) : (runAgendaFor n s).mxd.tick = s.mxd.tick := by
  induction n generalizing s with
  | zero => rfl
  | succ n ih => unfold runAgendaFor; split <;> simp [ih]
@[simp] theorem runAgendaFor_rfc_cabinet (n : Nat) (s : State) : (runAgendaFor n s).rfc.cabinet = s.rfc.cabinet := by
  induction n generalizing s with
  | zero => rfl
  | succ n ih => unfold runAgendaFor; split <;> simp [ih]
@[simp] theorem runAgendaFor_rfc_evaporator (n : Nat) (s : State) : (runAgendaFor n s).rfc.evaporator = s.rfc.evaporator := by
  induction n generalizing s with
  | zero => rfl
  | succ n ih => unfold runAgendaFor; split <;> simp [ih]
@[simp] theorem runAgendaFor_rfc_lockoutTimer (n : Nat) (s : State) : (runAgendaFor n s).rfc.lockoutTimer = s.rfc.lockoutTimer := by
  induction n generalizing s with
  | zero => rfl
  | succ n ih => unfold runAgendaFor; split <;> simp [ih]
@[simp] theorem runAgendaFor_rfc_cycleTimer (n : Nat) (s : State) : (runAgendaFor n s).rfc.cycleTimer = s.rfc.cycleTimer := by
  induction n generalizing s with
  | zero => rfl
  | succ n ih => unfold runAgendaFor; split <;> simp [ih]
@[simp] theorem runAgendaFor_rfc_classAsked (n : Nat) (s : State) : (runAgendaFor n s).rfc.classAsked = s.rfc.classAsked := by
  induction n generalizing s with
  | zero => rfl
  | succ n ih => unfold runAgendaFor; split <;> simp [ih]
@[simp] theorem runAgendaFor_rfc_offTimer (n : Nat) (s : State) : (runAgendaFor n s).rfc.offTimer = s.rfc.offTimer := by
  induction n generalizing s with
  | zero => rfl
  | succ n ih => unfold runAgendaFor; split <;> simp [ih]
@[simp] theorem runAgendaFor_rfc_accumulator (n : Nat) (s : State) : (runAgendaFor n s).rfc.accumulator = s.rfc.accumulator := by
  induction n generalizing s with
  | zero => rfl
  | succ n ih => unfold runAgendaFor; split <;> simp [ih]
@[simp] theorem runAgendaFor_rfc_defrostDue (n : Nat) (s : State) : (runAgendaFor n s).rfc.defrostDue = s.rfc.defrostDue := by
  induction n generalizing s with
  | zero => rfl
  | succ n ih => unfold runAgendaFor; split <;> simp [ih]
@[simp] theorem runAgendaFor_rfc_defrostTimer (n : Nat) (s : State) : (runAgendaFor n s).rfc.defrostTimer = s.rfc.defrostTimer := by
  induction n generalizing s with
  | zero => rfl
  | succ n ih => unfold runAgendaFor; split <;> simp [ih]
@[simp] theorem runAgendaFor_rfc_dripTimer (n : Nat) (s : State) : (runAgendaFor n s).rfc.dripTimer = s.rfc.dripTimer := by
  induction n generalizing s with
  | zero => rfl
  | succ n ih => unfold runAgendaFor; split <;> simp [ih]
@[simp] theorem runAgendaFor_rfc_sellableCold (n : Nat) (s : State) : (runAgendaFor n s).rfc.sellableCold = s.rfc.sellableCold := by
  induction n generalizing s with
  | zero => rfl
  | succ n ih => unfold runAgendaFor; split <;> simp [ih]
@[simp] theorem runAgendaFor_rfc_warmTimer (n : Nat) (s : State) : (runAgendaFor n s).rfc.warmTimer = s.rfc.warmTimer := by
  induction n generalizing s with
  | zero => rfl
  | succ n ih => unfold runAgendaFor; split <;> simp [ih]
@[simp] theorem runAgendaFor_rfc_hotHold (n : Nat) (s : State) : (runAgendaFor n s).rfc.hotHold = s.rfc.hotHold := by
  induction n generalizing s with
  | zero => rfl
  | succ n ih => unfold runAgendaFor; split <;> simp [ih]
@[simp] theorem runAgendaFor_lbu_peers (n : Nat) (s : State) : (runAgendaFor n s).lbu.peers = s.lbu.peers := by
  induction n generalizing s with
  | zero => rfl
  | succ n ih => unfold runAgendaFor; split <;> simp [ih]
@[simp] theorem runAgendaFor_lbu_ignored (n : Nat) (s : State) : (runAgendaFor n s).lbu.ignored = s.lbu.ignored := by
  induction n generalizing s with
  | zero => rfl
  | succ n ih => unfold runAgendaFor; split <;> simp [ih]
@[simp] theorem runAgendaFor_lbu_objectSum (n : Nat) (s : State) : (runAgendaFor n s).lbu.objectSum = s.lbu.objectSum := by
  induction n generalizing s with
  | zero => rfl
  | succ n ih => unfold runAgendaFor; split <;> simp [ih]
@[simp] theorem runAgendaFor_lnk_state (n : Nat) (s : State) : (runAgendaFor n s).lnk.state = s.lnk.state := by
  induction n generalizing s with
  | zero => rfl
  | succ n ih => unfold runAgendaFor; split <;> simp [ih]
@[simp] theorem runAgendaFor_lnk_heard (n : Nat) (s : State) : (runAgendaFor n s).lnk.heard = s.lnk.heard := by
  induction n generalizing s with
  | zero => rfl
  | succ n ih => unfold runAgendaFor; split <;> simp [ih]
@[simp] theorem runAgendaFor_lnk_acknowledged (n : Nat) (s : State) : (runAgendaFor n s).lnk.acknowledged = s.lnk.acknowledged := by
  induction n generalizing s with
  | zero => rfl
  | succ n ih => unfold runAgendaFor; split <;> simp [ih]
@[simp] theorem runAgendaFor_lnk_isolationTimer (n : Nat) (s : State) : (runAgendaFor n s).lnk.isolationTimer = s.lnk.isolationTimer := by
  induction n generalizing s with
  | zero => rfl
  | succ n ih => unfold runAgendaFor; split <;> simp [ih]
@[simp] theorem runAgendaFor_lnk_silentTimer (n : Nat) (s : State) : (runAgendaFor n s).lnk.silentTimer = s.lnk.silentTimer := by
  induction n generalizing s with
  | zero => rfl
  | succ n ih => unfold runAgendaFor; split <;> simp [ih]
@[simp] theorem runAgendaFor_lnk_failures (n : Nat) (s : State) : (runAgendaFor n s).lnk.failures = s.lnk.failures := by
  induction n generalizing s with
  | zero => rfl
  | succ n ih => unfold runAgendaFor; split <;> simp [ih]
@[simp] theorem runAgendaFor_lnk_unknownFrames (n : Nat) (s : State) : (runAgendaFor n s).lnk.unknownFrames = s.lnk.unknownFrames := by
  induction n generalizing s with
  | zero => rfl
  | succ n ih => unfold runAgendaFor; split <;> simp [ih]
@[simp] theorem runAgendaFor_lnk_droppedFrames (n : Nat) (s : State) : (runAgendaFor n s).lnk.droppedFrames = s.lnk.droppedFrames := by
  induction n generalizing s with
  | zero => rfl
  | succ n ih => unfold runAgendaFor; split <;> simp [ih]
@[simp] theorem runAgendaFor_lnk_silentEntries (n : Nat) (s : State) : (runAgendaFor n s).lnk.silentEntries = s.lnk.silentEntries := by
  induction n generalizing s with
  | zero => rfl
  | succ n ih => unfold runAgendaFor; split <;> simp [ih]
@[simp] theorem runAgendaFor_ssu_own (n : Nat) (s : State) : (runAgendaFor n s).ssu.own = s.ssu.own := by
  induction n generalizing s with
  | zero => rfl
  | succ n ih => unfold runAgendaFor; split <;> simp [ih]
@[simp] theorem runAgendaFor_ssu_cause (n : Nat) (s : State) : (runAgendaFor n s).ssu.cause = s.ssu.cause := by
  induction n generalizing s with
  | zero => rfl
  | succ n ih => unfold runAgendaFor; split <;> simp [ih]
@[simp] theorem runAgendaFor_ssu_imageStatus (n : Nat) (s : State) : (runAgendaFor n s).ssu.imageStatus = s.ssu.imageStatus := by
  induction n generalizing s with
  | zero => rfl
  | succ n ih => unfold runAgendaFor; split <;> simp [ih]
@[simp] theorem runAgendaFor_ssu_auditGood (n : Nat) (s : State) : (runAgendaFor n s).ssu.auditGood = s.ssu.auditGood := by
  induction n generalizing s with
  | zero => rfl
  | succ n ih => unfold runAgendaFor; split <;> simp [ih]
@[simp] theorem runAgendaFor_ssu_snapshot (n : Nat) (s : State) : (runAgendaFor n s).ssu.snapshot = s.ssu.snapshot := by
  induction n generalizing s with
  | zero => rfl
  | succ n ih => unfold runAgendaFor; split <;> simp [ih]
@[simp] theorem runAgendaFor_ssu_saveOwed (n : Nat) (s : State) : (runAgendaFor n s).ssu.saveOwed = s.ssu.saveOwed := by
  induction n generalizing s with
  | zero => rfl
  | succ n ih => unfold runAgendaFor; split <;> simp [ih]
@[simp] theorem runAgendaFor_ssu_lastSave (n : Nat) (s : State) : (runAgendaFor n s).ssu.lastSave = s.ssu.lastSave := by
  induction n generalizing s with
  | zero => rfl
  | succ n ih => unfold runAgendaFor; split <;> simp [ih]
@[simp] theorem runAgendaFor_ssu_auditArea (n : Nat) (s : State) : (runAgendaFor n s).ssu.auditArea = s.ssu.auditArea := by
  induction n generalizing s with
  | zero => rfl
  | succ n ih => unfold runAgendaFor; split <;> simp [ih]
@[simp] theorem runAgenda_pending (s : State) : (runAgenda s).pending = s.pending := by
  unfold runAgenda; try dsimp only
  (repeat' split) <;> simp
@[simp] theorem runAgenda_due (s : State) : (runAgenda s).due = s.due := by
  unfold runAgenda; try dsimp only
  (repeat' split) <;> simp
@[simp] theorem runAgenda_phase (s : State) : (runAgenda s).phase = s.phase := by
  unfold runAgenda; try dsimp only
  (repeat' split) <;> simp
@[simp] theorem runAgenda_inputs (s : State) : (runAgenda s).inputs = s.inputs := by
  unfold runAgenda; try dsimp only
  (repeat' split) <;> simp
@[simp] theorem runAgenda_outputs (s : State) : (runAgenda s).outputs = s.outputs := by
  unfold runAgenda; try dsimp only
  (repeat' split) <;> simp
@[simp] theorem runAgenda_params (s : State) : (runAgenda s).params = s.params := by
  unfold runAgenda; try dsimp only
  (repeat' split) <;> simp
@[simp] theorem runAgenda_cnu (s : State) : (runAgenda s).cnu = s.cnu := by
  unfold runAgenda; try dsimp only
  (repeat' split) <;> simp
@[simp] theorem runAgenda_cca (s : State) : (runAgenda s).cca = s.cca := by
  unfold runAgenda; try dsimp only
  (repeat' split) <;> simp
@[simp] theorem runAgenda_cru_probeShort (s : State) : (runAgenda s).cru.probeShort = s.cru.probeShort := by
  unfold runAgenda; try dsimp only
  (repeat' split) <;> simp
@[simp] theorem runAgenda_cru_strayExits (s : State) : (runAgenda s).cru.strayExits = s.cru.strayExits := by
  unfold runAgenda; try dsimp only
  (repeat' split) <;> simp
@[simp] theorem runAgenda_mxd_state (s : State) : (runAgenda s).mxd.state = s.mxd.state := by
  unfold runAgenda; try dsimp only
  (repeat' split) <;> simp
@[simp] theorem runAgenda_mxd_latch (s : State) : (runAgenda s).mxd.latch = s.mxd.latch := by
  unfold runAgenda; try dsimp only
  (repeat' split) <;> simp
@[simp] theorem runAgenda_mxd_hold (s : State) : (runAgenda s).mxd.hold = s.mxd.hold := by
  unfold runAgenda; try dsimp only
  (repeat' split) <;> simp
@[simp] theorem runAgenda_mxd_mismatch (s : State) : (runAgenda s).mxd.mismatch = s.mxd.mismatch := by
  unfold runAgenda; try dsimp only
  (repeat' split) <;> simp
@[simp] theorem runAgenda_mxd_fault (s : State) : (runAgenda s).mxd.fault = s.mxd.fault := by
  unfold runAgenda; try dsimp only
  (repeat' split) <;> simp
@[simp] theorem runAgenda_mxd_energised (s : State) : (runAgenda s).mxd.energised = s.mxd.energised := by
  unfold runAgenda; try dsimp only
  (repeat' split) <;> simp
@[simp] theorem runAgenda_mxd_samples (s : State) : (runAgenda s).mxd.samples = s.mxd.samples := by
  unfold runAgenda; try dsimp only
  (repeat' split) <;> simp
@[simp] theorem runAgenda_mxd_stallRun (s : State) : (runAgenda s).mxd.stallRun = s.mxd.stallRun := by
  unfold runAgenda; try dsimp only
  (repeat' split) <;> simp
@[simp] theorem runAgenda_mxd_supervision (s : State) : (runAgenda s).mxd.supervision = s.mxd.supervision := by
  unfold runAgenda; try dsimp only
  (repeat' split) <;> simp
@[simp] theorem runAgenda_mxd_lastSample (s : State) : (runAgenda s).mxd.lastSample = s.mxd.lastSample := by
  unfold runAgenda; try dsimp only
  (repeat' split) <;> simp
@[simp] theorem runAgenda_mxd_tick (s : State) : (runAgenda s).mxd.tick = s.mxd.tick := by
  unfold runAgenda; try dsimp only
  (repeat' split) <;> simp
@[simp] theorem runAgenda_rfc_cabinet (s : State) : (runAgenda s).rfc.cabinet = s.rfc.cabinet := by
  unfold runAgenda; try dsimp only
  (repeat' split) <;> simp
@[simp] theorem runAgenda_rfc_evaporator (s : State) : (runAgenda s).rfc.evaporator = s.rfc.evaporator := by
  unfold runAgenda; try dsimp only
  (repeat' split) <;> simp
@[simp] theorem runAgenda_rfc_lockoutTimer (s : State) : (runAgenda s).rfc.lockoutTimer = s.rfc.lockoutTimer := by
  unfold runAgenda; try dsimp only
  (repeat' split) <;> simp
@[simp] theorem runAgenda_rfc_cycleTimer (s : State) : (runAgenda s).rfc.cycleTimer = s.rfc.cycleTimer := by
  unfold runAgenda; try dsimp only
  (repeat' split) <;> simp
@[simp] theorem runAgenda_rfc_classAsked (s : State) : (runAgenda s).rfc.classAsked = s.rfc.classAsked := by
  unfold runAgenda; try dsimp only
  (repeat' split) <;> simp
@[simp] theorem runAgenda_rfc_offTimer (s : State) : (runAgenda s).rfc.offTimer = s.rfc.offTimer := by
  unfold runAgenda; try dsimp only
  (repeat' split) <;> simp
@[simp] theorem runAgenda_rfc_accumulator (s : State) : (runAgenda s).rfc.accumulator = s.rfc.accumulator := by
  unfold runAgenda; try dsimp only
  (repeat' split) <;> simp
@[simp] theorem runAgenda_rfc_defrostDue (s : State) : (runAgenda s).rfc.defrostDue = s.rfc.defrostDue := by
  unfold runAgenda; try dsimp only
  (repeat' split) <;> simp
@[simp] theorem runAgenda_rfc_defrostTimer (s : State) : (runAgenda s).rfc.defrostTimer = s.rfc.defrostTimer := by
  unfold runAgenda; try dsimp only
  (repeat' split) <;> simp
@[simp] theorem runAgenda_rfc_dripTimer (s : State) : (runAgenda s).rfc.dripTimer = s.rfc.dripTimer := by
  unfold runAgenda; try dsimp only
  (repeat' split) <;> simp
@[simp] theorem runAgenda_rfc_sellableCold (s : State) : (runAgenda s).rfc.sellableCold = s.rfc.sellableCold := by
  unfold runAgenda; try dsimp only
  (repeat' split) <;> simp
@[simp] theorem runAgenda_rfc_warmTimer (s : State) : (runAgenda s).rfc.warmTimer = s.rfc.warmTimer := by
  unfold runAgenda; try dsimp only
  (repeat' split) <;> simp
@[simp] theorem runAgenda_rfc_hotHold (s : State) : (runAgenda s).rfc.hotHold = s.rfc.hotHold := by
  unfold runAgenda; try dsimp only
  (repeat' split) <;> simp
@[simp] theorem runAgenda_lbu_peers (s : State) : (runAgenda s).lbu.peers = s.lbu.peers := by
  unfold runAgenda; try dsimp only
  (repeat' split) <;> simp
@[simp] theorem runAgenda_lbu_ignored (s : State) : (runAgenda s).lbu.ignored = s.lbu.ignored := by
  unfold runAgenda; try dsimp only
  (repeat' split) <;> simp
@[simp] theorem runAgenda_lbu_objectSum (s : State) : (runAgenda s).lbu.objectSum = s.lbu.objectSum := by
  unfold runAgenda; try dsimp only
  (repeat' split) <;> simp
@[simp] theorem runAgenda_lnk_state (s : State) : (runAgenda s).lnk.state = s.lnk.state := by
  unfold runAgenda; try dsimp only
  (repeat' split) <;> simp
@[simp] theorem runAgenda_lnk_heard (s : State) : (runAgenda s).lnk.heard = s.lnk.heard := by
  unfold runAgenda; try dsimp only
  (repeat' split) <;> simp
@[simp] theorem runAgenda_lnk_acknowledged (s : State) : (runAgenda s).lnk.acknowledged = s.lnk.acknowledged := by
  unfold runAgenda; try dsimp only
  (repeat' split) <;> simp
@[simp] theorem runAgenda_lnk_isolationTimer (s : State) : (runAgenda s).lnk.isolationTimer = s.lnk.isolationTimer := by
  unfold runAgenda; try dsimp only
  (repeat' split) <;> simp
@[simp] theorem runAgenda_lnk_silentTimer (s : State) : (runAgenda s).lnk.silentTimer = s.lnk.silentTimer := by
  unfold runAgenda; try dsimp only
  (repeat' split) <;> simp
@[simp] theorem runAgenda_lnk_failures (s : State) : (runAgenda s).lnk.failures = s.lnk.failures := by
  unfold runAgenda; try dsimp only
  (repeat' split) <;> simp
@[simp] theorem runAgenda_lnk_unknownFrames (s : State) : (runAgenda s).lnk.unknownFrames = s.lnk.unknownFrames := by
  unfold runAgenda; try dsimp only
  (repeat' split) <;> simp
@[simp] theorem runAgenda_lnk_droppedFrames (s : State) : (runAgenda s).lnk.droppedFrames = s.lnk.droppedFrames := by
  unfold runAgenda; try dsimp only
  (repeat' split) <;> simp
@[simp] theorem runAgenda_lnk_silentEntries (s : State) : (runAgenda s).lnk.silentEntries = s.lnk.silentEntries := by
  unfold runAgenda; try dsimp only
  (repeat' split) <;> simp
@[simp] theorem runAgenda_ssu_own (s : State) : (runAgenda s).ssu.own = s.ssu.own := by
  unfold runAgenda; try dsimp only
  (repeat' split) <;> simp
@[simp] theorem runAgenda_ssu_cause (s : State) : (runAgenda s).ssu.cause = s.ssu.cause := by
  unfold runAgenda; try dsimp only
  (repeat' split) <;> simp
@[simp] theorem runAgenda_ssu_imageStatus (s : State) : (runAgenda s).ssu.imageStatus = s.ssu.imageStatus := by
  unfold runAgenda; try dsimp only
  (repeat' split) <;> simp
@[simp] theorem runAgenda_ssu_auditGood (s : State) : (runAgenda s).ssu.auditGood = s.ssu.auditGood := by
  unfold runAgenda; try dsimp only
  (repeat' split) <;> simp
@[simp] theorem runAgenda_ssu_snapshot (s : State) : (runAgenda s).ssu.snapshot = s.ssu.snapshot := by
  unfold runAgenda; try dsimp only
  (repeat' split) <;> simp
@[simp] theorem runAgenda_ssu_saveOwed (s : State) : (runAgenda s).ssu.saveOwed = s.ssu.saveOwed := by
  unfold runAgenda; try dsimp only
  (repeat' split) <;> simp
@[simp] theorem runAgenda_ssu_lastSave (s : State) : (runAgenda s).ssu.lastSave = s.ssu.lastSave := by
  unfold runAgenda; try dsimp only
  (repeat' split) <;> simp
@[simp] theorem runAgenda_ssu_auditArea (s : State) : (runAgenda s).ssu.auditArea = s.ssu.auditArea := by
  unfold runAgenda; try dsimp only
  (repeat' split) <;> simp
@[simp] theorem takeCamPulse_pending (s : State) : (takeCamPulse s).pending = s.pending := by
  unfold takeCamPulse; try dsimp only
  (repeat' split) <;> simp
@[simp] theorem takeCamPulse_due (s : State) : (takeCamPulse s).due = s.due := by
  unfold takeCamPulse; try dsimp only
  (repeat' split) <;> simp
@[simp] theorem takeCamPulse_phase (s : State) : (takeCamPulse s).phase = s.phase := by
  unfold takeCamPulse; try dsimp only
  (repeat' split) <;> simp
@[simp] theorem takeCamPulse_inputs (s : State) : (takeCamPulse s).inputs = s.inputs := by
  unfold takeCamPulse; try dsimp only
  (repeat' split) <;> simp
@[simp] theorem takeCamPulse_outputs (s : State) : (takeCamPulse s).outputs = s.outputs := by
  unfold takeCamPulse; try dsimp only
  (repeat' split) <;> simp
@[simp] theorem takeCamPulse_params (s : State) : (takeCamPulse s).params = s.params := by
  unfold takeCamPulse; try dsimp only
  (repeat' split) <;> simp
@[simp] theorem takeCamPulse_cnu (s : State) : (takeCamPulse s).cnu = s.cnu := by
  unfold takeCamPulse; try dsimp only
  (repeat' split) <;> simp
@[simp] theorem takeCamPulse_cca (s : State) : (takeCamPulse s).cca = s.cca := by
  unfold takeCamPulse; try dsimp only
  (repeat' split) <;> simp
@[simp] theorem takeCamPulse_rfc (s : State) : (takeCamPulse s).rfc = s.rfc := by
  unfold takeCamPulse; try dsimp only
  (repeat' split) <;> simp
@[simp] theorem takeCamPulse_cru_probeShort (s : State) : (takeCamPulse s).cru.probeShort = s.cru.probeShort := by
  unfold takeCamPulse; try dsimp only
  (repeat' split) <;> simp
@[simp] theorem takeCamPulse_cru_strayExits (s : State) : (takeCamPulse s).cru.strayExits = s.cru.strayExits := by
  unfold takeCamPulse; try dsimp only
  (repeat' split) <;> simp
@[simp] theorem takeCamPulse_vsq_queue (s : State) : (takeCamPulse s).vsq.queue = s.vsq.queue := by
  unfold takeCamPulse; try dsimp only
  (repeat' split) <;> simp
@[simp] theorem takeCamPulse_vsq_tagCounter (s : State) : (takeCamPulse s).vsq.tagCounter = s.vsq.tagCounter := by
  unfold takeCamPulse; try dsimp only
  (repeat' split) <;> simp
@[simp] theorem takeCamPulse_mxd_state (s : State) : (takeCamPulse s).mxd.state = s.mxd.state := by
  unfold takeCamPulse; try dsimp only
  (repeat' split) <;> simp
@[simp] theorem takeCamPulse_mxd_latch (s : State) : (takeCamPulse s).mxd.latch = s.mxd.latch := by
  unfold takeCamPulse; try dsimp only
  (repeat' split) <;> simp
@[simp] theorem takeCamPulse_mxd_hold (s : State) : (takeCamPulse s).mxd.hold = s.mxd.hold := by
  unfold takeCamPulse; try dsimp only
  (repeat' split) <;> simp
@[simp] theorem takeCamPulse_mxd_mismatch (s : State) : (takeCamPulse s).mxd.mismatch = s.mxd.mismatch := by
  unfold takeCamPulse; try dsimp only
  (repeat' split) <;> simp
@[simp] theorem takeCamPulse_mxd_fault (s : State) : (takeCamPulse s).mxd.fault = s.mxd.fault := by
  unfold takeCamPulse; try dsimp only
  (repeat' split) <;> simp
@[simp] theorem takeCamPulse_mxd_energised (s : State) : (takeCamPulse s).mxd.energised = s.mxd.energised := by
  unfold takeCamPulse; try dsimp only
  (repeat' split) <;> simp
@[simp] theorem takeCamPulse_mxd_samples (s : State) : (takeCamPulse s).mxd.samples = s.mxd.samples := by
  unfold takeCamPulse; try dsimp only
  (repeat' split) <;> simp
@[simp] theorem takeCamPulse_mxd_stallRun (s : State) : (takeCamPulse s).mxd.stallRun = s.mxd.stallRun := by
  unfold takeCamPulse; try dsimp only
  (repeat' split) <;> simp
@[simp] theorem takeCamPulse_mxd_supervision (s : State) : (takeCamPulse s).mxd.supervision = s.mxd.supervision := by
  unfold takeCamPulse; try dsimp only
  (repeat' split) <;> simp
@[simp] theorem takeCamPulse_mxd_lastSample (s : State) : (takeCamPulse s).mxd.lastSample = s.mxd.lastSample := by
  unfold takeCamPulse; try dsimp only
  (repeat' split) <;> simp
@[simp] theorem takeCamPulse_mxd_tick (s : State) : (takeCamPulse s).mxd.tick = s.mxd.tick := by
  unfold takeCamPulse; try dsimp only
  (repeat' split) <;> simp
@[simp] theorem takeCamPulse_lbu_peers (s : State) : (takeCamPulse s).lbu.peers = s.lbu.peers := by
  unfold takeCamPulse; try dsimp only
  (repeat' split) <;> simp
@[simp] theorem takeCamPulse_lbu_ignored (s : State) : (takeCamPulse s).lbu.ignored = s.lbu.ignored := by
  unfold takeCamPulse; try dsimp only
  (repeat' split) <;> simp
@[simp] theorem takeCamPulse_lbu_objectSum (s : State) : (takeCamPulse s).lbu.objectSum = s.lbu.objectSum := by
  unfold takeCamPulse; try dsimp only
  (repeat' split) <;> simp
@[simp] theorem takeCamPulse_lnk_state (s : State) : (takeCamPulse s).lnk.state = s.lnk.state := by
  unfold takeCamPulse; try dsimp only
  (repeat' split) <;> simp
@[simp] theorem takeCamPulse_lnk_heard (s : State) : (takeCamPulse s).lnk.heard = s.lnk.heard := by
  unfold takeCamPulse; try dsimp only
  (repeat' split) <;> simp
@[simp] theorem takeCamPulse_lnk_acknowledged (s : State) : (takeCamPulse s).lnk.acknowledged = s.lnk.acknowledged := by
  unfold takeCamPulse; try dsimp only
  (repeat' split) <;> simp
@[simp] theorem takeCamPulse_lnk_isolationTimer (s : State) : (takeCamPulse s).lnk.isolationTimer = s.lnk.isolationTimer := by
  unfold takeCamPulse; try dsimp only
  (repeat' split) <;> simp
@[simp] theorem takeCamPulse_lnk_silentTimer (s : State) : (takeCamPulse s).lnk.silentTimer = s.lnk.silentTimer := by
  unfold takeCamPulse; try dsimp only
  (repeat' split) <;> simp
@[simp] theorem takeCamPulse_lnk_failures (s : State) : (takeCamPulse s).lnk.failures = s.lnk.failures := by
  unfold takeCamPulse; try dsimp only
  (repeat' split) <;> simp
@[simp] theorem takeCamPulse_lnk_unknownFrames (s : State) : (takeCamPulse s).lnk.unknownFrames = s.lnk.unknownFrames := by
  unfold takeCamPulse; try dsimp only
  (repeat' split) <;> simp
@[simp] theorem takeCamPulse_lnk_droppedFrames (s : State) : (takeCamPulse s).lnk.droppedFrames = s.lnk.droppedFrames := by
  unfold takeCamPulse; try dsimp only
  (repeat' split) <;> simp
@[simp] theorem takeCamPulse_lnk_silentEntries (s : State) : (takeCamPulse s).lnk.silentEntries = s.lnk.silentEntries := by
  unfold takeCamPulse; try dsimp only
  (repeat' split) <;> simp
@[simp] theorem takeCamPulse_ssu_own (s : State) : (takeCamPulse s).ssu.own = s.ssu.own := by
  unfold takeCamPulse; try dsimp only
  (repeat' split) <;> simp
@[simp] theorem takeCamPulse_ssu_cause (s : State) : (takeCamPulse s).ssu.cause = s.ssu.cause := by
  unfold takeCamPulse; try dsimp only
  (repeat' split) <;> simp
@[simp] theorem takeCamPulse_ssu_imageStatus (s : State) : (takeCamPulse s).ssu.imageStatus = s.ssu.imageStatus := by
  unfold takeCamPulse; try dsimp only
  (repeat' split) <;> simp
@[simp] theorem takeCamPulse_ssu_auditGood (s : State) : (takeCamPulse s).ssu.auditGood = s.ssu.auditGood := by
  unfold takeCamPulse; try dsimp only
  (repeat' split) <;> simp
@[simp] theorem takeCamPulse_ssu_snapshot (s : State) : (takeCamPulse s).ssu.snapshot = s.ssu.snapshot := by
  unfold takeCamPulse; try dsimp only
  (repeat' split) <;> simp
@[simp] theorem takeCamPulse_ssu_saveOwed (s : State) : (takeCamPulse s).ssu.saveOwed = s.ssu.saveOwed := by
  unfold takeCamPulse; try dsimp only
  (repeat' split) <;> simp
@[simp] theorem takeCamPulse_ssu_lastSave (s : State) : (takeCamPulse s).ssu.lastSave = s.ssu.lastSave := by
  unfold takeCamPulse; try dsimp only
  (repeat' split) <;> simp
@[simp] theorem takeCamPulse_ssu_auditArea (s : State) : (takeCamPulse s).ssu.auditArea = s.ssu.auditArea := by
  unfold takeCamPulse; try dsimp only
  (repeat' split) <;> simp
@[simp] theorem takeJam_pending (s : State) : (takeJam s).pending = s.pending := by
  unfold takeJam; try dsimp only
  (repeat' split) <;> simp
@[simp] theorem takeJam_due (s : State) : (takeJam s).due = s.due := by
  unfold takeJam; try dsimp only
  (repeat' split) <;> simp
@[simp] theorem takeJam_phase (s : State) : (takeJam s).phase = s.phase := by
  unfold takeJam; try dsimp only
  (repeat' split) <;> simp
@[simp] theorem takeJam_inputs (s : State) : (takeJam s).inputs = s.inputs := by
  unfold takeJam; try dsimp only
  (repeat' split) <;> simp
@[simp] theorem takeJam_outputs (s : State) : (takeJam s).outputs = s.outputs := by
  unfold takeJam; try dsimp only
  (repeat' split) <;> simp
@[simp] theorem takeJam_params (s : State) : (takeJam s).params = s.params := by
  unfold takeJam; try dsimp only
  (repeat' split) <;> simp
@[simp] theorem takeJam_cnu (s : State) : (takeJam s).cnu = s.cnu := by
  unfold takeJam; try dsimp only
  (repeat' split) <;> simp
@[simp] theorem takeJam_cca (s : State) : (takeJam s).cca = s.cca := by
  unfold takeJam; try dsimp only
  (repeat' split) <;> simp
@[simp] theorem takeJam_rfc (s : State) : (takeJam s).rfc = s.rfc := by
  unfold takeJam; try dsimp only
  (repeat' split) <;> simp
@[simp] theorem takeJam_cru_probeShort (s : State) : (takeJam s).cru.probeShort = s.cru.probeShort := by
  unfold takeJam; try dsimp only
  (repeat' split) <;> simp
@[simp] theorem takeJam_cru_strayExits (s : State) : (takeJam s).cru.strayExits = s.cru.strayExits := by
  unfold takeJam; try dsimp only
  (repeat' split) <;> simp
@[simp] theorem takeJam_vsq_queue (s : State) : (takeJam s).vsq.queue = s.vsq.queue := by
  unfold takeJam; try dsimp only
  (repeat' split) <;> simp
@[simp] theorem takeJam_vsq_tagCounter (s : State) : (takeJam s).vsq.tagCounter = s.vsq.tagCounter := by
  unfold takeJam; try dsimp only
  (repeat' split) <;> simp
@[simp] theorem takeJam_mxd_state (s : State) : (takeJam s).mxd.state = s.mxd.state := by
  unfold takeJam; try dsimp only
  (repeat' split) <;> simp
@[simp] theorem takeJam_mxd_latch (s : State) : (takeJam s).mxd.latch = s.mxd.latch := by
  unfold takeJam; try dsimp only
  (repeat' split) <;> simp
@[simp] theorem takeJam_mxd_hold (s : State) : (takeJam s).mxd.hold = s.mxd.hold := by
  unfold takeJam; try dsimp only
  (repeat' split) <;> simp
@[simp] theorem takeJam_mxd_mismatch (s : State) : (takeJam s).mxd.mismatch = s.mxd.mismatch := by
  unfold takeJam; try dsimp only
  (repeat' split) <;> simp
@[simp] theorem takeJam_mxd_fault (s : State) : (takeJam s).mxd.fault = s.mxd.fault := by
  unfold takeJam; try dsimp only
  (repeat' split) <;> simp
@[simp] theorem takeJam_mxd_energised (s : State) : (takeJam s).mxd.energised = s.mxd.energised := by
  unfold takeJam; try dsimp only
  (repeat' split) <;> simp
@[simp] theorem takeJam_mxd_samples (s : State) : (takeJam s).mxd.samples = s.mxd.samples := by
  unfold takeJam; try dsimp only
  (repeat' split) <;> simp
@[simp] theorem takeJam_mxd_stallRun (s : State) : (takeJam s).mxd.stallRun = s.mxd.stallRun := by
  unfold takeJam; try dsimp only
  (repeat' split) <;> simp
@[simp] theorem takeJam_mxd_supervision (s : State) : (takeJam s).mxd.supervision = s.mxd.supervision := by
  unfold takeJam; try dsimp only
  (repeat' split) <;> simp
@[simp] theorem takeJam_mxd_lastSample (s : State) : (takeJam s).mxd.lastSample = s.mxd.lastSample := by
  unfold takeJam; try dsimp only
  (repeat' split) <;> simp
@[simp] theorem takeJam_mxd_tick (s : State) : (takeJam s).mxd.tick = s.mxd.tick := by
  unfold takeJam; try dsimp only
  (repeat' split) <;> simp
@[simp] theorem takeJam_lbu_peers (s : State) : (takeJam s).lbu.peers = s.lbu.peers := by
  unfold takeJam; try dsimp only
  (repeat' split) <;> simp
@[simp] theorem takeJam_lbu_ignored (s : State) : (takeJam s).lbu.ignored = s.lbu.ignored := by
  unfold takeJam; try dsimp only
  (repeat' split) <;> simp
@[simp] theorem takeJam_lbu_objectSum (s : State) : (takeJam s).lbu.objectSum = s.lbu.objectSum := by
  unfold takeJam; try dsimp only
  (repeat' split) <;> simp
@[simp] theorem takeJam_lnk_state (s : State) : (takeJam s).lnk.state = s.lnk.state := by
  unfold takeJam; try dsimp only
  (repeat' split) <;> simp
@[simp] theorem takeJam_lnk_heard (s : State) : (takeJam s).lnk.heard = s.lnk.heard := by
  unfold takeJam; try dsimp only
  (repeat' split) <;> simp
@[simp] theorem takeJam_lnk_acknowledged (s : State) : (takeJam s).lnk.acknowledged = s.lnk.acknowledged := by
  unfold takeJam; try dsimp only
  (repeat' split) <;> simp
@[simp] theorem takeJam_lnk_isolationTimer (s : State) : (takeJam s).lnk.isolationTimer = s.lnk.isolationTimer := by
  unfold takeJam; try dsimp only
  (repeat' split) <;> simp
@[simp] theorem takeJam_lnk_silentTimer (s : State) : (takeJam s).lnk.silentTimer = s.lnk.silentTimer := by
  unfold takeJam; try dsimp only
  (repeat' split) <;> simp
@[simp] theorem takeJam_lnk_failures (s : State) : (takeJam s).lnk.failures = s.lnk.failures := by
  unfold takeJam; try dsimp only
  (repeat' split) <;> simp
@[simp] theorem takeJam_lnk_unknownFrames (s : State) : (takeJam s).lnk.unknownFrames = s.lnk.unknownFrames := by
  unfold takeJam; try dsimp only
  (repeat' split) <;> simp
@[simp] theorem takeJam_lnk_droppedFrames (s : State) : (takeJam s).lnk.droppedFrames = s.lnk.droppedFrames := by
  unfold takeJam; try dsimp only
  (repeat' split) <;> simp
@[simp] theorem takeJam_lnk_silentEntries (s : State) : (takeJam s).lnk.silentEntries = s.lnk.silentEntries := by
  unfold takeJam; try dsimp only
  (repeat' split) <;> simp
@[simp] theorem takeJam_ssu_own (s : State) : (takeJam s).ssu.own = s.ssu.own := by
  unfold takeJam; try dsimp only
  (repeat' split) <;> simp
@[simp] theorem takeJam_ssu_cause (s : State) : (takeJam s).ssu.cause = s.ssu.cause := by
  unfold takeJam; try dsimp only
  (repeat' split) <;> simp
@[simp] theorem takeJam_ssu_imageStatus (s : State) : (takeJam s).ssu.imageStatus = s.ssu.imageStatus := by
  unfold takeJam; try dsimp only
  (repeat' split) <;> simp
@[simp] theorem takeJam_ssu_auditGood (s : State) : (takeJam s).ssu.auditGood = s.ssu.auditGood := by
  unfold takeJam; try dsimp only
  (repeat' split) <;> simp
@[simp] theorem takeJam_ssu_snapshot (s : State) : (takeJam s).ssu.snapshot = s.ssu.snapshot := by
  unfold takeJam; try dsimp only
  (repeat' split) <;> simp
@[simp] theorem takeJam_ssu_saveOwed (s : State) : (takeJam s).ssu.saveOwed = s.ssu.saveOwed := by
  unfold takeJam; try dsimp only
  (repeat' split) <;> simp
@[simp] theorem takeJam_ssu_lastSave (s : State) : (takeJam s).ssu.lastSave = s.ssu.lastSave := by
  unfold takeJam; try dsimp only
  (repeat' split) <;> simp
@[simp] theorem takeJam_ssu_auditArea (s : State) : (takeJam s).ssu.auditArea = s.ssu.auditArea := by
  unfold takeJam; try dsimp only
  (repeat' split) <;> simp
@[simp] theorem takeMotorOpen_pending (s : State) : (takeMotorOpen s).pending = s.pending := by
  unfold takeMotorOpen; try dsimp only
  (repeat' split) <;> simp
@[simp] theorem takeMotorOpen_due (s : State) : (takeMotorOpen s).due = s.due := by
  unfold takeMotorOpen; try dsimp only
  (repeat' split) <;> simp
@[simp] theorem takeMotorOpen_phase (s : State) : (takeMotorOpen s).phase = s.phase := by
  unfold takeMotorOpen; try dsimp only
  (repeat' split) <;> simp
@[simp] theorem takeMotorOpen_inputs (s : State) : (takeMotorOpen s).inputs = s.inputs := by
  unfold takeMotorOpen; try dsimp only
  (repeat' split) <;> simp
@[simp] theorem takeMotorOpen_outputs (s : State) : (takeMotorOpen s).outputs = s.outputs := by
  unfold takeMotorOpen; try dsimp only
  (repeat' split) <;> simp
@[simp] theorem takeMotorOpen_params (s : State) : (takeMotorOpen s).params = s.params := by
  unfold takeMotorOpen; try dsimp only
  (repeat' split) <;> simp
@[simp] theorem takeMotorOpen_cnu (s : State) : (takeMotorOpen s).cnu = s.cnu := by
  unfold takeMotorOpen; try dsimp only
  (repeat' split) <;> simp
@[simp] theorem takeMotorOpen_cca (s : State) : (takeMotorOpen s).cca = s.cca := by
  unfold takeMotorOpen; try dsimp only
  (repeat' split) <;> simp
@[simp] theorem takeMotorOpen_rfc (s : State) : (takeMotorOpen s).rfc = s.rfc := by
  unfold takeMotorOpen; try dsimp only
  (repeat' split) <;> simp
@[simp] theorem takeMotorOpen_cru_probeShort (s : State) : (takeMotorOpen s).cru.probeShort = s.cru.probeShort := by
  unfold takeMotorOpen; try dsimp only
  (repeat' split) <;> simp
@[simp] theorem takeMotorOpen_cru_strayExits (s : State) : (takeMotorOpen s).cru.strayExits = s.cru.strayExits := by
  unfold takeMotorOpen; try dsimp only
  (repeat' split) <;> simp
@[simp] theorem takeMotorOpen_vsq_queue (s : State) : (takeMotorOpen s).vsq.queue = s.vsq.queue := by
  unfold takeMotorOpen; try dsimp only
  (repeat' split) <;> simp
@[simp] theorem takeMotorOpen_vsq_tagCounter (s : State) : (takeMotorOpen s).vsq.tagCounter = s.vsq.tagCounter := by
  unfold takeMotorOpen; try dsimp only
  (repeat' split) <;> simp
@[simp] theorem takeMotorOpen_mxd_state (s : State) : (takeMotorOpen s).mxd.state = s.mxd.state := by
  unfold takeMotorOpen; try dsimp only
  (repeat' split) <;> simp
@[simp] theorem takeMotorOpen_mxd_latch (s : State) : (takeMotorOpen s).mxd.latch = s.mxd.latch := by
  unfold takeMotorOpen; try dsimp only
  (repeat' split) <;> simp
@[simp] theorem takeMotorOpen_mxd_hold (s : State) : (takeMotorOpen s).mxd.hold = s.mxd.hold := by
  unfold takeMotorOpen; try dsimp only
  (repeat' split) <;> simp
@[simp] theorem takeMotorOpen_mxd_mismatch (s : State) : (takeMotorOpen s).mxd.mismatch = s.mxd.mismatch := by
  unfold takeMotorOpen; try dsimp only
  (repeat' split) <;> simp
@[simp] theorem takeMotorOpen_mxd_fault (s : State) : (takeMotorOpen s).mxd.fault = s.mxd.fault := by
  unfold takeMotorOpen; try dsimp only
  (repeat' split) <;> simp
@[simp] theorem takeMotorOpen_mxd_energised (s : State) : (takeMotorOpen s).mxd.energised = s.mxd.energised := by
  unfold takeMotorOpen; try dsimp only
  (repeat' split) <;> simp
@[simp] theorem takeMotorOpen_mxd_samples (s : State) : (takeMotorOpen s).mxd.samples = s.mxd.samples := by
  unfold takeMotorOpen; try dsimp only
  (repeat' split) <;> simp
@[simp] theorem takeMotorOpen_mxd_stallRun (s : State) : (takeMotorOpen s).mxd.stallRun = s.mxd.stallRun := by
  unfold takeMotorOpen; try dsimp only
  (repeat' split) <;> simp
@[simp] theorem takeMotorOpen_mxd_supervision (s : State) : (takeMotorOpen s).mxd.supervision = s.mxd.supervision := by
  unfold takeMotorOpen; try dsimp only
  (repeat' split) <;> simp
@[simp] theorem takeMotorOpen_mxd_lastSample (s : State) : (takeMotorOpen s).mxd.lastSample = s.mxd.lastSample := by
  unfold takeMotorOpen; try dsimp only
  (repeat' split) <;> simp
@[simp] theorem takeMotorOpen_mxd_tick (s : State) : (takeMotorOpen s).mxd.tick = s.mxd.tick := by
  unfold takeMotorOpen; try dsimp only
  (repeat' split) <;> simp
@[simp] theorem takeMotorOpen_lbu_peers (s : State) : (takeMotorOpen s).lbu.peers = s.lbu.peers := by
  unfold takeMotorOpen; try dsimp only
  (repeat' split) <;> simp
@[simp] theorem takeMotorOpen_lbu_ignored (s : State) : (takeMotorOpen s).lbu.ignored = s.lbu.ignored := by
  unfold takeMotorOpen; try dsimp only
  (repeat' split) <;> simp
@[simp] theorem takeMotorOpen_lbu_objectSum (s : State) : (takeMotorOpen s).lbu.objectSum = s.lbu.objectSum := by
  unfold takeMotorOpen; try dsimp only
  (repeat' split) <;> simp
@[simp] theorem takeMotorOpen_lnk_state (s : State) : (takeMotorOpen s).lnk.state = s.lnk.state := by
  unfold takeMotorOpen; try dsimp only
  (repeat' split) <;> simp
@[simp] theorem takeMotorOpen_lnk_heard (s : State) : (takeMotorOpen s).lnk.heard = s.lnk.heard := by
  unfold takeMotorOpen; try dsimp only
  (repeat' split) <;> simp
@[simp] theorem takeMotorOpen_lnk_acknowledged (s : State) : (takeMotorOpen s).lnk.acknowledged = s.lnk.acknowledged := by
  unfold takeMotorOpen; try dsimp only
  (repeat' split) <;> simp
@[simp] theorem takeMotorOpen_lnk_isolationTimer (s : State) : (takeMotorOpen s).lnk.isolationTimer = s.lnk.isolationTimer := by
  unfold takeMotorOpen; try dsimp only
  (repeat' split) <;> simp
@[simp] theorem takeMotorOpen_lnk_silentTimer (s : State) : (takeMotorOpen s).lnk.silentTimer = s.lnk.silentTimer := by
  unfold takeMotorOpen; try dsimp only
  (repeat' split) <;> simp
@[simp] theorem takeMotorOpen_lnk_failures (s : State) : (takeMotorOpen s).lnk.failures = s.lnk.failures := by
  unfold takeMotorOpen; try dsimp only
  (repeat' split) <;> simp
@[simp] theorem takeMotorOpen_lnk_unknownFrames (s : State) : (takeMotorOpen s).lnk.unknownFrames = s.lnk.unknownFrames := by
  unfold takeMotorOpen; try dsimp only
  (repeat' split) <;> simp
@[simp] theorem takeMotorOpen_lnk_droppedFrames (s : State) : (takeMotorOpen s).lnk.droppedFrames = s.lnk.droppedFrames := by
  unfold takeMotorOpen; try dsimp only
  (repeat' split) <;> simp
@[simp] theorem takeMotorOpen_lnk_silentEntries (s : State) : (takeMotorOpen s).lnk.silentEntries = s.lnk.silentEntries := by
  unfold takeMotorOpen; try dsimp only
  (repeat' split) <;> simp
@[simp] theorem takeMotorOpen_ssu_own (s : State) : (takeMotorOpen s).ssu.own = s.ssu.own := by
  unfold takeMotorOpen; try dsimp only
  (repeat' split) <;> simp
@[simp] theorem takeMotorOpen_ssu_cause (s : State) : (takeMotorOpen s).ssu.cause = s.ssu.cause := by
  unfold takeMotorOpen; try dsimp only
  (repeat' split) <;> simp
@[simp] theorem takeMotorOpen_ssu_imageStatus (s : State) : (takeMotorOpen s).ssu.imageStatus = s.ssu.imageStatus := by
  unfold takeMotorOpen; try dsimp only
  (repeat' split) <;> simp
@[simp] theorem takeMotorOpen_ssu_auditGood (s : State) : (takeMotorOpen s).ssu.auditGood = s.ssu.auditGood := by
  unfold takeMotorOpen; try dsimp only
  (repeat' split) <;> simp
@[simp] theorem takeMotorOpen_ssu_snapshot (s : State) : (takeMotorOpen s).ssu.snapshot = s.ssu.snapshot := by
  unfold takeMotorOpen; try dsimp only
  (repeat' split) <;> simp
@[simp] theorem takeMotorOpen_ssu_saveOwed (s : State) : (takeMotorOpen s).ssu.saveOwed = s.ssu.saveOwed := by
  unfold takeMotorOpen; try dsimp only
  (repeat' split) <;> simp
@[simp] theorem takeMotorOpen_ssu_lastSave (s : State) : (takeMotorOpen s).ssu.lastSave = s.ssu.lastSave := by
  unfold takeMotorOpen; try dsimp only
  (repeat' split) <;> simp
@[simp] theorem takeMotorOpen_ssu_auditArea (s : State) : (takeMotorOpen s).ssu.auditArea = s.ssu.auditArea := by
  unfold takeMotorOpen; try dsimp only
  (repeat' split) <;> simp
@[simp] theorem takeDrop_pending (s : State) : (takeDrop s).pending = s.pending := by
  unfold takeDrop; try dsimp only
  (repeat' split) <;> simp
@[simp] theorem takeDrop_due (s : State) : (takeDrop s).due = s.due := by
  unfold takeDrop; try dsimp only
  (repeat' split) <;> simp
@[simp] theorem takeDrop_phase (s : State) : (takeDrop s).phase = s.phase := by
  unfold takeDrop; try dsimp only
  (repeat' split) <;> simp
@[simp] theorem takeDrop_inputs (s : State) : (takeDrop s).inputs = s.inputs := by
  unfold takeDrop; try dsimp only
  (repeat' split) <;> simp
@[simp] theorem takeDrop_outputs (s : State) : (takeDrop s).outputs = s.outputs := by
  unfold takeDrop; try dsimp only
  (repeat' split) <;> simp
@[simp] theorem takeDrop_params (s : State) : (takeDrop s).params = s.params := by
  unfold takeDrop; try dsimp only
  (repeat' split) <;> simp
@[simp] theorem takeDrop_cnu (s : State) : (takeDrop s).cnu = s.cnu := by
  unfold takeDrop; try dsimp only
  (repeat' split) <;> simp
@[simp] theorem takeDrop_cca (s : State) : (takeDrop s).cca = s.cca := by
  unfold takeDrop; try dsimp only
  (repeat' split) <;> simp
@[simp] theorem takeDrop_rfc (s : State) : (takeDrop s).rfc = s.rfc := by
  unfold takeDrop; try dsimp only
  (repeat' split) <;> simp
@[simp] theorem takeDrop_cru_probeShort (s : State) : (takeDrop s).cru.probeShort = s.cru.probeShort := by
  unfold takeDrop; try dsimp only
  (repeat' split) <;> simp
@[simp] theorem takeDrop_cru_strayExits (s : State) : (takeDrop s).cru.strayExits = s.cru.strayExits := by
  unfold takeDrop; try dsimp only
  (repeat' split) <;> simp
@[simp] theorem takeDrop_vsq_test (s : State) : (takeDrop s).vsq.test = s.vsq.test := by
  unfold takeDrop; try dsimp only
  (repeat' split) <;> simp
@[simp] theorem takeDrop_vsq_queue (s : State) : (takeDrop s).vsq.queue = s.vsq.queue := by
  unfold takeDrop; try dsimp only
  (repeat' split) <;> simp
@[simp] theorem takeDrop_vsq_tagCounter (s : State) : (takeDrop s).vsq.tagCounter = s.vsq.tagCounter := by
  unfold takeDrop; try dsimp only
  (repeat' split) <;> simp
@[simp] theorem takeDrop_mxd_state (s : State) : (takeDrop s).mxd.state = s.mxd.state := by
  unfold takeDrop; try dsimp only
  (repeat' split) <;> simp
@[simp] theorem takeDrop_mxd_latch (s : State) : (takeDrop s).mxd.latch = s.mxd.latch := by
  unfold takeDrop; try dsimp only
  (repeat' split) <;> simp
@[simp] theorem takeDrop_mxd_hold (s : State) : (takeDrop s).mxd.hold = s.mxd.hold := by
  unfold takeDrop; try dsimp only
  (repeat' split) <;> simp
@[simp] theorem takeDrop_mxd_mismatch (s : State) : (takeDrop s).mxd.mismatch = s.mxd.mismatch := by
  unfold takeDrop; try dsimp only
  (repeat' split) <;> simp
@[simp] theorem takeDrop_mxd_fault (s : State) : (takeDrop s).mxd.fault = s.mxd.fault := by
  unfold takeDrop; try dsimp only
  (repeat' split) <;> simp
@[simp] theorem takeDrop_mxd_energised (s : State) : (takeDrop s).mxd.energised = s.mxd.energised := by
  unfold takeDrop; try dsimp only
  (repeat' split) <;> simp
@[simp] theorem takeDrop_mxd_samples (s : State) : (takeDrop s).mxd.samples = s.mxd.samples := by
  unfold takeDrop; try dsimp only
  (repeat' split) <;> simp
@[simp] theorem takeDrop_mxd_stallRun (s : State) : (takeDrop s).mxd.stallRun = s.mxd.stallRun := by
  unfold takeDrop; try dsimp only
  (repeat' split) <;> simp
@[simp] theorem takeDrop_mxd_supervision (s : State) : (takeDrop s).mxd.supervision = s.mxd.supervision := by
  unfold takeDrop; try dsimp only
  (repeat' split) <;> simp
@[simp] theorem takeDrop_mxd_lastSample (s : State) : (takeDrop s).mxd.lastSample = s.mxd.lastSample := by
  unfold takeDrop; try dsimp only
  (repeat' split) <;> simp
@[simp] theorem takeDrop_mxd_tick (s : State) : (takeDrop s).mxd.tick = s.mxd.tick := by
  unfold takeDrop; try dsimp only
  (repeat' split) <;> simp
@[simp] theorem takeDrop_lbu_peers (s : State) : (takeDrop s).lbu.peers = s.lbu.peers := by
  unfold takeDrop; try dsimp only
  (repeat' split) <;> simp
@[simp] theorem takeDrop_lbu_ignored (s : State) : (takeDrop s).lbu.ignored = s.lbu.ignored := by
  unfold takeDrop; try dsimp only
  (repeat' split) <;> simp
@[simp] theorem takeDrop_lbu_objectSum (s : State) : (takeDrop s).lbu.objectSum = s.lbu.objectSum := by
  unfold takeDrop; try dsimp only
  (repeat' split) <;> simp
@[simp] theorem takeDrop_lnk_state (s : State) : (takeDrop s).lnk.state = s.lnk.state := by
  unfold takeDrop; try dsimp only
  (repeat' split) <;> simp
@[simp] theorem takeDrop_lnk_heard (s : State) : (takeDrop s).lnk.heard = s.lnk.heard := by
  unfold takeDrop; try dsimp only
  (repeat' split) <;> simp
@[simp] theorem takeDrop_lnk_acknowledged (s : State) : (takeDrop s).lnk.acknowledged = s.lnk.acknowledged := by
  unfold takeDrop; try dsimp only
  (repeat' split) <;> simp
@[simp] theorem takeDrop_lnk_isolationTimer (s : State) : (takeDrop s).lnk.isolationTimer = s.lnk.isolationTimer := by
  unfold takeDrop; try dsimp only
  (repeat' split) <;> simp
@[simp] theorem takeDrop_lnk_silentTimer (s : State) : (takeDrop s).lnk.silentTimer = s.lnk.silentTimer := by
  unfold takeDrop; try dsimp only
  (repeat' split) <;> simp
@[simp] theorem takeDrop_lnk_failures (s : State) : (takeDrop s).lnk.failures = s.lnk.failures := by
  unfold takeDrop; try dsimp only
  (repeat' split) <;> simp
@[simp] theorem takeDrop_lnk_unknownFrames (s : State) : (takeDrop s).lnk.unknownFrames = s.lnk.unknownFrames := by
  unfold takeDrop; try dsimp only
  (repeat' split) <;> simp
@[simp] theorem takeDrop_lnk_droppedFrames (s : State) : (takeDrop s).lnk.droppedFrames = s.lnk.droppedFrames := by
  unfold takeDrop; try dsimp only
  (repeat' split) <;> simp
@[simp] theorem takeDrop_lnk_silentEntries (s : State) : (takeDrop s).lnk.silentEntries = s.lnk.silentEntries := by
  unfold takeDrop; try dsimp only
  (repeat' split) <;> simp
@[simp] theorem takeDrop_ssu_own (s : State) : (takeDrop s).ssu.own = s.ssu.own := by
  unfold takeDrop; try dsimp only
  (repeat' split) <;> simp
@[simp] theorem takeDrop_ssu_cause (s : State) : (takeDrop s).ssu.cause = s.ssu.cause := by
  unfold takeDrop; try dsimp only
  (repeat' split) <;> simp
@[simp] theorem takeDrop_ssu_imageStatus (s : State) : (takeDrop s).ssu.imageStatus = s.ssu.imageStatus := by
  unfold takeDrop; try dsimp only
  (repeat' split) <;> simp
@[simp] theorem takeDrop_ssu_auditGood (s : State) : (takeDrop s).ssu.auditGood = s.ssu.auditGood := by
  unfold takeDrop; try dsimp only
  (repeat' split) <;> simp
@[simp] theorem takeDrop_ssu_snapshot (s : State) : (takeDrop s).ssu.snapshot = s.ssu.snapshot := by
  unfold takeDrop; try dsimp only
  (repeat' split) <;> simp
@[simp] theorem takeDrop_ssu_saveOwed (s : State) : (takeDrop s).ssu.saveOwed = s.ssu.saveOwed := by
  unfold takeDrop; try dsimp only
  (repeat' split) <;> simp
@[simp] theorem takeDrop_ssu_lastSave (s : State) : (takeDrop s).ssu.lastSave = s.ssu.lastSave := by
  unfold takeDrop; try dsimp only
  (repeat' split) <;> simp
@[simp] theorem takeDrop_ssu_auditArea (s : State) : (takeDrop s).ssu.auditArea = s.ssu.auditArea := by
  unfold takeDrop; try dsimp only
  (repeat' split) <;> simp
@[simp] theorem endWindow_pending (v : Vend) (s : State) : (endWindow v s).pending = s.pending := by
  unfold endWindow; try dsimp only
  (repeat' split) <;> simp
@[simp] theorem endWindow_due (v : Vend) (s : State) : (endWindow v s).due = s.due := by
  unfold endWindow; try dsimp only
  (repeat' split) <;> simp
@[simp] theorem endWindow_phase (v : Vend) (s : State) : (endWindow v s).phase = s.phase := by
  unfold endWindow; try dsimp only
  (repeat' split) <;> simp
@[simp] theorem endWindow_inputs (v : Vend) (s : State) : (endWindow v s).inputs = s.inputs := by
  unfold endWindow; try dsimp only
  (repeat' split) <;> simp
@[simp] theorem endWindow_outputs (v : Vend) (s : State) : (endWindow v s).outputs = s.outputs := by
  unfold endWindow; try dsimp only
  (repeat' split) <;> simp
@[simp] theorem endWindow_params (v : Vend) (s : State) : (endWindow v s).params = s.params := by
  unfold endWindow; try dsimp only
  (repeat' split) <;> simp
@[simp] theorem endWindow_cnu (v : Vend) (s : State) : (endWindow v s).cnu = s.cnu := by
  unfold endWindow; try dsimp only
  (repeat' split) <;> simp
@[simp] theorem endWindow_cca (v : Vend) (s : State) : (endWindow v s).cca = s.cca := by
  unfold endWindow; try dsimp only
  (repeat' split) <;> simp
@[simp] theorem endWindow_rfc (v : Vend) (s : State) : (endWindow v s).rfc = s.rfc := by
  unfold endWindow; try dsimp only
  (repeat' split) <;> simp
@[simp] theorem endWindow_cru_probeShort (v : Vend) (s : State) : (endWindow v s).cru.probeShort = s.cru.probeShort := by
  unfold endWindow; try dsimp only
  (repeat' split) <;> simp
@[simp] theorem endWindow_cru_strayExits (v : Vend) (s : State) : (endWindow v s).cru.strayExits = s.cru.strayExits := by
  unfold endWindow; try dsimp only
  (repeat' split) <;> simp
@[simp] theorem endWindow_vsq_test (v : Vend) (s : State) : (endWindow v s).vsq.test = s.vsq.test := by
  unfold endWindow; try dsimp only
  (repeat' split) <;> simp
@[simp] theorem endWindow_vsq_queue (v : Vend) (s : State) : (endWindow v s).vsq.queue = s.vsq.queue := by
  unfold endWindow; try dsimp only
  (repeat' split) <;> simp
@[simp] theorem endWindow_vsq_tagCounter (v : Vend) (s : State) : (endWindow v s).vsq.tagCounter = s.vsq.tagCounter := by
  unfold endWindow; try dsimp only
  (repeat' split) <;> simp
@[simp] theorem endWindow_mxd_state (v : Vend) (s : State) : (endWindow v s).mxd.state = s.mxd.state := by
  unfold endWindow; try dsimp only
  (repeat' split) <;> simp
@[simp] theorem endWindow_mxd_latch (v : Vend) (s : State) : (endWindow v s).mxd.latch = s.mxd.latch := by
  unfold endWindow; try dsimp only
  (repeat' split) <;> simp
@[simp] theorem endWindow_mxd_hold (v : Vend) (s : State) : (endWindow v s).mxd.hold = s.mxd.hold := by
  unfold endWindow; try dsimp only
  (repeat' split) <;> simp
@[simp] theorem endWindow_mxd_mismatch (v : Vend) (s : State) : (endWindow v s).mxd.mismatch = s.mxd.mismatch := by
  unfold endWindow; try dsimp only
  (repeat' split) <;> simp
@[simp] theorem endWindow_mxd_fault (v : Vend) (s : State) : (endWindow v s).mxd.fault = s.mxd.fault := by
  unfold endWindow; try dsimp only
  (repeat' split) <;> simp
@[simp] theorem endWindow_mxd_energised (v : Vend) (s : State) : (endWindow v s).mxd.energised = s.mxd.energised := by
  unfold endWindow; try dsimp only
  (repeat' split) <;> simp
@[simp] theorem endWindow_mxd_samples (v : Vend) (s : State) : (endWindow v s).mxd.samples = s.mxd.samples := by
  unfold endWindow; try dsimp only
  (repeat' split) <;> simp
@[simp] theorem endWindow_mxd_stallRun (v : Vend) (s : State) : (endWindow v s).mxd.stallRun = s.mxd.stallRun := by
  unfold endWindow; try dsimp only
  (repeat' split) <;> simp
@[simp] theorem endWindow_mxd_supervision (v : Vend) (s : State) : (endWindow v s).mxd.supervision = s.mxd.supervision := by
  unfold endWindow; try dsimp only
  (repeat' split) <;> simp
@[simp] theorem endWindow_mxd_lastSample (v : Vend) (s : State) : (endWindow v s).mxd.lastSample = s.mxd.lastSample := by
  unfold endWindow; try dsimp only
  (repeat' split) <;> simp
@[simp] theorem endWindow_mxd_tick (v : Vend) (s : State) : (endWindow v s).mxd.tick = s.mxd.tick := by
  unfold endWindow; try dsimp only
  (repeat' split) <;> simp
@[simp] theorem endWindow_lbu_peers (v : Vend) (s : State) : (endWindow v s).lbu.peers = s.lbu.peers := by
  unfold endWindow; try dsimp only
  (repeat' split) <;> simp
@[simp] theorem endWindow_lbu_ignored (v : Vend) (s : State) : (endWindow v s).lbu.ignored = s.lbu.ignored := by
  unfold endWindow; try dsimp only
  (repeat' split) <;> simp
@[simp] theorem endWindow_lbu_objectSum (v : Vend) (s : State) : (endWindow v s).lbu.objectSum = s.lbu.objectSum := by
  unfold endWindow; try dsimp only
  (repeat' split) <;> simp
@[simp] theorem endWindow_lnk_state (v : Vend) (s : State) : (endWindow v s).lnk.state = s.lnk.state := by
  unfold endWindow; try dsimp only
  (repeat' split) <;> simp
@[simp] theorem endWindow_lnk_heard (v : Vend) (s : State) : (endWindow v s).lnk.heard = s.lnk.heard := by
  unfold endWindow; try dsimp only
  (repeat' split) <;> simp
@[simp] theorem endWindow_lnk_acknowledged (v : Vend) (s : State) : (endWindow v s).lnk.acknowledged = s.lnk.acknowledged := by
  unfold endWindow; try dsimp only
  (repeat' split) <;> simp
@[simp] theorem endWindow_lnk_isolationTimer (v : Vend) (s : State) : (endWindow v s).lnk.isolationTimer = s.lnk.isolationTimer := by
  unfold endWindow; try dsimp only
  (repeat' split) <;> simp
@[simp] theorem endWindow_lnk_silentTimer (v : Vend) (s : State) : (endWindow v s).lnk.silentTimer = s.lnk.silentTimer := by
  unfold endWindow; try dsimp only
  (repeat' split) <;> simp
@[simp] theorem endWindow_lnk_failures (v : Vend) (s : State) : (endWindow v s).lnk.failures = s.lnk.failures := by
  unfold endWindow; try dsimp only
  (repeat' split) <;> simp
@[simp] theorem endWindow_lnk_unknownFrames (v : Vend) (s : State) : (endWindow v s).lnk.unknownFrames = s.lnk.unknownFrames := by
  unfold endWindow; try dsimp only
  (repeat' split) <;> simp
@[simp] theorem endWindow_lnk_droppedFrames (v : Vend) (s : State) : (endWindow v s).lnk.droppedFrames = s.lnk.droppedFrames := by
  unfold endWindow; try dsimp only
  (repeat' split) <;> simp
@[simp] theorem endWindow_lnk_silentEntries (v : Vend) (s : State) : (endWindow v s).lnk.silentEntries = s.lnk.silentEntries := by
  unfold endWindow; try dsimp only
  (repeat' split) <;> simp
@[simp] theorem endWindow_ssu_own (v : Vend) (s : State) : (endWindow v s).ssu.own = s.ssu.own := by
  unfold endWindow; try dsimp only
  (repeat' split) <;> simp
@[simp] theorem endWindow_ssu_cause (v : Vend) (s : State) : (endWindow v s).ssu.cause = s.ssu.cause := by
  unfold endWindow; try dsimp only
  (repeat' split) <;> simp
@[simp] theorem endWindow_ssu_imageStatus (v : Vend) (s : State) : (endWindow v s).ssu.imageStatus = s.ssu.imageStatus := by
  unfold endWindow; try dsimp only
  (repeat' split) <;> simp
@[simp] theorem endWindow_ssu_auditGood (v : Vend) (s : State) : (endWindow v s).ssu.auditGood = s.ssu.auditGood := by
  unfold endWindow; try dsimp only
  (repeat' split) <;> simp
@[simp] theorem endWindow_ssu_snapshot (v : Vend) (s : State) : (endWindow v s).ssu.snapshot = s.ssu.snapshot := by
  unfold endWindow; try dsimp only
  (repeat' split) <;> simp
@[simp] theorem endWindow_ssu_saveOwed (v : Vend) (s : State) : (endWindow v s).ssu.saveOwed = s.ssu.saveOwed := by
  unfold endWindow; try dsimp only
  (repeat' split) <;> simp
@[simp] theorem endWindow_ssu_lastSave (v : Vend) (s : State) : (endWindow v s).ssu.lastSave = s.ssu.lastSave := by
  unfold endWindow; try dsimp only
  (repeat' split) <;> simp
@[simp] theorem endWindow_ssu_auditArea (v : Vend) (s : State) : (endWindow v s).ssu.auditArea = s.ssu.auditArea := by
  unfold endWindow; try dsimp only
  (repeat' split) <;> simp
@[simp] theorem doorAtVend_pending (s : State) : (doorAtVend s).pending = s.pending := by
  unfold doorAtVend; try dsimp only
  (repeat' split) <;> simp
@[simp] theorem doorAtVend_due (s : State) : (doorAtVend s).due = s.due := by
  unfold doorAtVend; try dsimp only
  (repeat' split) <;> simp
@[simp] theorem doorAtVend_phase (s : State) : (doorAtVend s).phase = s.phase := by
  unfold doorAtVend; try dsimp only
  (repeat' split) <;> simp
@[simp] theorem doorAtVend_inputs (s : State) : (doorAtVend s).inputs = s.inputs := by
  unfold doorAtVend; try dsimp only
  (repeat' split) <;> simp
@[simp] theorem doorAtVend_outputs (s : State) : (doorAtVend s).outputs = s.outputs := by
  unfold doorAtVend; try dsimp only
  (repeat' split) <;> simp
@[simp] theorem doorAtVend_params (s : State) : (doorAtVend s).params = s.params := by
  unfold doorAtVend; try dsimp only
  (repeat' split) <;> simp
@[simp] theorem doorAtVend_cnu (s : State) : (doorAtVend s).cnu = s.cnu := by
  unfold doorAtVend; try dsimp only
  (repeat' split) <;> simp
@[simp] theorem doorAtVend_cca (s : State) : (doorAtVend s).cca = s.cca := by
  unfold doorAtVend; try dsimp only
  (repeat' split) <;> simp
@[simp] theorem doorAtVend_rfc (s : State) : (doorAtVend s).rfc = s.rfc := by
  unfold doorAtVend; try dsimp only
  (repeat' split) <;> simp
@[simp] theorem doorAtVend_cru_probeShort (s : State) : (doorAtVend s).cru.probeShort = s.cru.probeShort := by
  unfold doorAtVend; try dsimp only
  (repeat' split) <;> simp
@[simp] theorem doorAtVend_cru_strayExits (s : State) : (doorAtVend s).cru.strayExits = s.cru.strayExits := by
  unfold doorAtVend; try dsimp only
  (repeat' split) <;> simp
@[simp] theorem doorAtVend_vsq_test (s : State) : (doorAtVend s).vsq.test = s.vsq.test := by
  unfold doorAtVend; try dsimp only
  (repeat' split) <;> simp
@[simp] theorem doorAtVend_vsq_queue (s : State) : (doorAtVend s).vsq.queue = s.vsq.queue := by
  unfold doorAtVend; try dsimp only
  (repeat' split) <;> simp
@[simp] theorem doorAtVend_vsq_tagCounter (s : State) : (doorAtVend s).vsq.tagCounter = s.vsq.tagCounter := by
  unfold doorAtVend; try dsimp only
  (repeat' split) <;> simp
@[simp] theorem doorAtVend_mxd_state (s : State) : (doorAtVend s).mxd.state = s.mxd.state := by
  unfold doorAtVend; try dsimp only
  (repeat' split) <;> simp
@[simp] theorem doorAtVend_mxd_latch (s : State) : (doorAtVend s).mxd.latch = s.mxd.latch := by
  unfold doorAtVend; try dsimp only
  (repeat' split) <;> simp
@[simp] theorem doorAtVend_mxd_hold (s : State) : (doorAtVend s).mxd.hold = s.mxd.hold := by
  unfold doorAtVend; try dsimp only
  (repeat' split) <;> simp
@[simp] theorem doorAtVend_mxd_mismatch (s : State) : (doorAtVend s).mxd.mismatch = s.mxd.mismatch := by
  unfold doorAtVend; try dsimp only
  (repeat' split) <;> simp
@[simp] theorem doorAtVend_mxd_fault (s : State) : (doorAtVend s).mxd.fault = s.mxd.fault := by
  unfold doorAtVend; try dsimp only
  (repeat' split) <;> simp
@[simp] theorem doorAtVend_mxd_energised (s : State) : (doorAtVend s).mxd.energised = s.mxd.energised := by
  unfold doorAtVend; try dsimp only
  (repeat' split) <;> simp
@[simp] theorem doorAtVend_mxd_samples (s : State) : (doorAtVend s).mxd.samples = s.mxd.samples := by
  unfold doorAtVend; try dsimp only
  (repeat' split) <;> simp
@[simp] theorem doorAtVend_mxd_stallRun (s : State) : (doorAtVend s).mxd.stallRun = s.mxd.stallRun := by
  unfold doorAtVend; try dsimp only
  (repeat' split) <;> simp
@[simp] theorem doorAtVend_mxd_supervision (s : State) : (doorAtVend s).mxd.supervision = s.mxd.supervision := by
  unfold doorAtVend; try dsimp only
  (repeat' split) <;> simp
@[simp] theorem doorAtVend_mxd_lastSample (s : State) : (doorAtVend s).mxd.lastSample = s.mxd.lastSample := by
  unfold doorAtVend; try dsimp only
  (repeat' split) <;> simp
@[simp] theorem doorAtVend_mxd_tick (s : State) : (doorAtVend s).mxd.tick = s.mxd.tick := by
  unfold doorAtVend; try dsimp only
  (repeat' split) <;> simp
@[simp] theorem doorAtVend_lbu_peers (s : State) : (doorAtVend s).lbu.peers = s.lbu.peers := by
  unfold doorAtVend; try dsimp only
  (repeat' split) <;> simp
@[simp] theorem doorAtVend_lbu_ignored (s : State) : (doorAtVend s).lbu.ignored = s.lbu.ignored := by
  unfold doorAtVend; try dsimp only
  (repeat' split) <;> simp
@[simp] theorem doorAtVend_lbu_objectSum (s : State) : (doorAtVend s).lbu.objectSum = s.lbu.objectSum := by
  unfold doorAtVend; try dsimp only
  (repeat' split) <;> simp
@[simp] theorem doorAtVend_lnk_state (s : State) : (doorAtVend s).lnk.state = s.lnk.state := by
  unfold doorAtVend; try dsimp only
  (repeat' split) <;> simp
@[simp] theorem doorAtVend_lnk_heard (s : State) : (doorAtVend s).lnk.heard = s.lnk.heard := by
  unfold doorAtVend; try dsimp only
  (repeat' split) <;> simp
@[simp] theorem doorAtVend_lnk_acknowledged (s : State) : (doorAtVend s).lnk.acknowledged = s.lnk.acknowledged := by
  unfold doorAtVend; try dsimp only
  (repeat' split) <;> simp
@[simp] theorem doorAtVend_lnk_isolationTimer (s : State) : (doorAtVend s).lnk.isolationTimer = s.lnk.isolationTimer := by
  unfold doorAtVend; try dsimp only
  (repeat' split) <;> simp
@[simp] theorem doorAtVend_lnk_silentTimer (s : State) : (doorAtVend s).lnk.silentTimer = s.lnk.silentTimer := by
  unfold doorAtVend; try dsimp only
  (repeat' split) <;> simp
@[simp] theorem doorAtVend_lnk_failures (s : State) : (doorAtVend s).lnk.failures = s.lnk.failures := by
  unfold doorAtVend; try dsimp only
  (repeat' split) <;> simp
@[simp] theorem doorAtVend_lnk_unknownFrames (s : State) : (doorAtVend s).lnk.unknownFrames = s.lnk.unknownFrames := by
  unfold doorAtVend; try dsimp only
  (repeat' split) <;> simp
@[simp] theorem doorAtVend_lnk_droppedFrames (s : State) : (doorAtVend s).lnk.droppedFrames = s.lnk.droppedFrames := by
  unfold doorAtVend; try dsimp only
  (repeat' split) <;> simp
@[simp] theorem doorAtVend_lnk_silentEntries (s : State) : (doorAtVend s).lnk.silentEntries = s.lnk.silentEntries := by
  unfold doorAtVend; try dsimp only
  (repeat' split) <;> simp
@[simp] theorem doorAtVend_ssu_own (s : State) : (doorAtVend s).ssu.own = s.ssu.own := by
  unfold doorAtVend; try dsimp only
  (repeat' split) <;> simp
@[simp] theorem doorAtVend_ssu_cause (s : State) : (doorAtVend s).ssu.cause = s.ssu.cause := by
  unfold doorAtVend; try dsimp only
  (repeat' split) <;> simp
@[simp] theorem doorAtVend_ssu_imageStatus (s : State) : (doorAtVend s).ssu.imageStatus = s.ssu.imageStatus := by
  unfold doorAtVend; try dsimp only
  (repeat' split) <;> simp
@[simp] theorem doorAtVend_ssu_auditGood (s : State) : (doorAtVend s).ssu.auditGood = s.ssu.auditGood := by
  unfold doorAtVend; try dsimp only
  (repeat' split) <;> simp
@[simp] theorem doorAtVend_ssu_snapshot (s : State) : (doorAtVend s).ssu.snapshot = s.ssu.snapshot := by
  unfold doorAtVend; try dsimp only
  (repeat' split) <;> simp
@[simp] theorem doorAtVend_ssu_saveOwed (s : State) : (doorAtVend s).ssu.saveOwed = s.ssu.saveOwed := by
  unfold doorAtVend; try dsimp only
  (repeat' split) <;> simp
@[simp] theorem doorAtVend_ssu_lastSave (s : State) : (doorAtVend s).ssu.lastSave = s.ssu.lastSave := by
  unfold doorAtVend; try dsimp only
  (repeat' split) <;> simp
@[simp] theorem doorAtVend_ssu_auditArea (s : State) : (doorAtVend s).ssu.auditArea = s.ssu.auditArea := by
  unfold doorAtVend; try dsimp only
  (repeat' split) <;> simp
@[simp] theorem allOffReported_pending (s : State) : (allOffReported s).pending = s.pending := by
  unfold allOffReported; try dsimp only
  (repeat' split) <;> simp
@[simp] theorem allOffReported_due (s : State) : (allOffReported s).due = s.due := by
  unfold allOffReported; try dsimp only
  (repeat' split) <;> simp
@[simp] theorem allOffReported_phase (s : State) : (allOffReported s).phase = s.phase := by
  unfold allOffReported; try dsimp only
  (repeat' split) <;> simp
@[simp] theorem allOffReported_inputs (s : State) : (allOffReported s).inputs = s.inputs := by
  unfold allOffReported; try dsimp only
  (repeat' split) <;> simp
@[simp] theorem allOffReported_outputs (s : State) : (allOffReported s).outputs = s.outputs := by
  unfold allOffReported; try dsimp only
  (repeat' split) <;> simp
@[simp] theorem allOffReported_params (s : State) : (allOffReported s).params = s.params := by
  unfold allOffReported; try dsimp only
  (repeat' split) <;> simp
@[simp] theorem allOffReported_cnu (s : State) : (allOffReported s).cnu = s.cnu := by
  unfold allOffReported; try dsimp only
  (repeat' split) <;> simp
@[simp] theorem allOffReported_cru (s : State) : (allOffReported s).cru = s.cru := by
  unfold allOffReported; try dsimp only
  (repeat' split) <;> simp
@[simp] theorem allOffReported_cca (s : State) : (allOffReported s).cca = s.cca := by
  unfold allOffReported; try dsimp only
  (repeat' split) <;> simp
@[simp] theorem allOffReported_mxd (s : State) : (allOffReported s).mxd = s.mxd := by
  unfold allOffReported; try dsimp only
  (repeat' split) <;> simp
@[simp] theorem allOffReported_rfc (s : State) : (allOffReported s).rfc = s.rfc := by
  unfold allOffReported; try dsimp only
  (repeat' split) <;> simp
@[simp] theorem allOffReported_ssu (s : State) : (allOffReported s).ssu = s.ssu := by
  unfold allOffReported; try dsimp only
  (repeat' split) <;> simp
@[simp] theorem allOffReported_vsq_queue (s : State) : (allOffReported s).vsq.queue = s.vsq.queue := by
  unfold allOffReported; try dsimp only
  (repeat' split) <;> simp
@[simp] theorem allOffReported_vsq_tagCounter (s : State) : (allOffReported s).vsq.tagCounter = s.vsq.tagCounter := by
  unfold allOffReported; try dsimp only
  (repeat' split) <;> simp
@[simp] theorem allOffReported_vsq_slots (s : State) : (allOffReported s).vsq.slots = s.vsq.slots := by
  unfold allOffReported; try dsimp only
  (repeat' split) <;> simp
@[simp] theorem allOffReported_lbu_peers (s : State) : (allOffReported s).lbu.peers = s.lbu.peers := by
  unfold allOffReported; try dsimp only
  (repeat' split) <;> simp
@[simp] theorem allOffReported_lbu_ignored (s : State) : (allOffReported s).lbu.ignored = s.lbu.ignored := by
  unfold allOffReported; try dsimp only
  (repeat' split) <;> simp
@[simp] theorem allOffReported_lbu_objectSum (s : State) : (allOffReported s).lbu.objectSum = s.lbu.objectSum := by
  unfold allOffReported; try dsimp only
  (repeat' split) <;> simp
@[simp] theorem allOffReported_lnk_state (s : State) : (allOffReported s).lnk.state = s.lnk.state := by
  unfold allOffReported; try dsimp only
  (repeat' split) <;> simp
@[simp] theorem allOffReported_lnk_heard (s : State) : (allOffReported s).lnk.heard = s.lnk.heard := by
  unfold allOffReported; try dsimp only
  (repeat' split) <;> simp
@[simp] theorem allOffReported_lnk_acknowledged (s : State) : (allOffReported s).lnk.acknowledged = s.lnk.acknowledged := by
  unfold allOffReported; try dsimp only
  (repeat' split) <;> simp
@[simp] theorem allOffReported_lnk_isolationTimer (s : State) : (allOffReported s).lnk.isolationTimer = s.lnk.isolationTimer := by
  unfold allOffReported; try dsimp only
  (repeat' split) <;> simp
@[simp] theorem allOffReported_lnk_silentTimer (s : State) : (allOffReported s).lnk.silentTimer = s.lnk.silentTimer := by
  unfold allOffReported; try dsimp only
  (repeat' split) <;> simp
@[simp] theorem allOffReported_lnk_failures (s : State) : (allOffReported s).lnk.failures = s.lnk.failures := by
  unfold allOffReported; try dsimp only
  (repeat' split) <;> simp
@[simp] theorem allOffReported_lnk_unknownFrames (s : State) : (allOffReported s).lnk.unknownFrames = s.lnk.unknownFrames := by
  unfold allOffReported; try dsimp only
  (repeat' split) <;> simp
@[simp] theorem allOffReported_lnk_droppedFrames (s : State) : (allOffReported s).lnk.droppedFrames = s.lnk.droppedFrames := by
  unfold allOffReported; try dsimp only
  (repeat' split) <;> simp
@[simp] theorem allOffReported_lnk_silentEntries (s : State) : (allOffReported s).lnk.silentEntries = s.lnk.silentEntries := by
  unfold allOffReported; try dsimp only
  (repeat' split) <;> simp
@[simp] theorem faultAtVend_pending (s : State) : (faultAtVend s).pending = s.pending := by
  unfold faultAtVend; try dsimp only
  (repeat' split) <;> simp
@[simp] theorem faultAtVend_due (s : State) : (faultAtVend s).due = s.due := by
  unfold faultAtVend; try dsimp only
  (repeat' split) <;> simp
@[simp] theorem faultAtVend_phase (s : State) : (faultAtVend s).phase = s.phase := by
  unfold faultAtVend; try dsimp only
  (repeat' split) <;> simp
@[simp] theorem faultAtVend_inputs (s : State) : (faultAtVend s).inputs = s.inputs := by
  unfold faultAtVend; try dsimp only
  (repeat' split) <;> simp
@[simp] theorem faultAtVend_outputs (s : State) : (faultAtVend s).outputs = s.outputs := by
  unfold faultAtVend; try dsimp only
  (repeat' split) <;> simp
@[simp] theorem faultAtVend_params (s : State) : (faultAtVend s).params = s.params := by
  unfold faultAtVend; try dsimp only
  (repeat' split) <;> simp
@[simp] theorem faultAtVend_cnu (s : State) : (faultAtVend s).cnu = s.cnu := by
  unfold faultAtVend; try dsimp only
  (repeat' split) <;> simp
@[simp] theorem faultAtVend_cca (s : State) : (faultAtVend s).cca = s.cca := by
  unfold faultAtVend; try dsimp only
  (repeat' split) <;> simp
@[simp] theorem faultAtVend_rfc (s : State) : (faultAtVend s).rfc = s.rfc := by
  unfold faultAtVend; try dsimp only
  (repeat' split) <;> simp
@[simp] theorem faultAtVend_cru_probeShort (s : State) : (faultAtVend s).cru.probeShort = s.cru.probeShort := by
  unfold faultAtVend; try dsimp only
  (repeat' split) <;> simp
@[simp] theorem faultAtVend_cru_strayExits (s : State) : (faultAtVend s).cru.strayExits = s.cru.strayExits := by
  unfold faultAtVend; try dsimp only
  (repeat' split) <;> simp
@[simp] theorem faultAtVend_vsq_tagCounter (s : State) : (faultAtVend s).vsq.tagCounter = s.vsq.tagCounter := by
  unfold faultAtVend; try dsimp only
  (repeat' split) <;> simp
@[simp] theorem faultAtVend_mxd_state (s : State) : (faultAtVend s).mxd.state = s.mxd.state := by
  unfold faultAtVend; try dsimp only
  (repeat' split) <;> simp
@[simp] theorem faultAtVend_mxd_latch (s : State) : (faultAtVend s).mxd.latch = s.mxd.latch := by
  unfold faultAtVend; try dsimp only
  (repeat' split) <;> simp
@[simp] theorem faultAtVend_mxd_hold (s : State) : (faultAtVend s).mxd.hold = s.mxd.hold := by
  unfold faultAtVend; try dsimp only
  (repeat' split) <;> simp
@[simp] theorem faultAtVend_mxd_mismatch (s : State) : (faultAtVend s).mxd.mismatch = s.mxd.mismatch := by
  unfold faultAtVend; try dsimp only
  (repeat' split) <;> simp
@[simp] theorem faultAtVend_mxd_fault (s : State) : (faultAtVend s).mxd.fault = s.mxd.fault := by
  unfold faultAtVend; try dsimp only
  (repeat' split) <;> simp
@[simp] theorem faultAtVend_mxd_energised (s : State) : (faultAtVend s).mxd.energised = s.mxd.energised := by
  unfold faultAtVend; try dsimp only
  (repeat' split) <;> simp
@[simp] theorem faultAtVend_mxd_samples (s : State) : (faultAtVend s).mxd.samples = s.mxd.samples := by
  unfold faultAtVend; try dsimp only
  (repeat' split) <;> simp
@[simp] theorem faultAtVend_mxd_stallRun (s : State) : (faultAtVend s).mxd.stallRun = s.mxd.stallRun := by
  unfold faultAtVend; try dsimp only
  (repeat' split) <;> simp
@[simp] theorem faultAtVend_mxd_supervision (s : State) : (faultAtVend s).mxd.supervision = s.mxd.supervision := by
  unfold faultAtVend; try dsimp only
  (repeat' split) <;> simp
@[simp] theorem faultAtVend_mxd_lastSample (s : State) : (faultAtVend s).mxd.lastSample = s.mxd.lastSample := by
  unfold faultAtVend; try dsimp only
  (repeat' split) <;> simp
@[simp] theorem faultAtVend_mxd_tick (s : State) : (faultAtVend s).mxd.tick = s.mxd.tick := by
  unfold faultAtVend; try dsimp only
  (repeat' split) <;> simp
@[simp] theorem faultAtVend_lbu_peers (s : State) : (faultAtVend s).lbu.peers = s.lbu.peers := by
  unfold faultAtVend; try dsimp only
  (repeat' split) <;> simp
@[simp] theorem faultAtVend_lbu_ignored (s : State) : (faultAtVend s).lbu.ignored = s.lbu.ignored := by
  unfold faultAtVend; try dsimp only
  (repeat' split) <;> simp
@[simp] theorem faultAtVend_lbu_objectSum (s : State) : (faultAtVend s).lbu.objectSum = s.lbu.objectSum := by
  unfold faultAtVend; try dsimp only
  (repeat' split) <;> simp
@[simp] theorem faultAtVend_lnk_state (s : State) : (faultAtVend s).lnk.state = s.lnk.state := by
  unfold faultAtVend; try dsimp only
  (repeat' split) <;> simp
@[simp] theorem faultAtVend_lnk_heard (s : State) : (faultAtVend s).lnk.heard = s.lnk.heard := by
  unfold faultAtVend; try dsimp only
  (repeat' split) <;> simp
@[simp] theorem faultAtVend_lnk_acknowledged (s : State) : (faultAtVend s).lnk.acknowledged = s.lnk.acknowledged := by
  unfold faultAtVend; try dsimp only
  (repeat' split) <;> simp
@[simp] theorem faultAtVend_lnk_isolationTimer (s : State) : (faultAtVend s).lnk.isolationTimer = s.lnk.isolationTimer := by
  unfold faultAtVend; try dsimp only
  (repeat' split) <;> simp
@[simp] theorem faultAtVend_lnk_silentTimer (s : State) : (faultAtVend s).lnk.silentTimer = s.lnk.silentTimer := by
  unfold faultAtVend; try dsimp only
  (repeat' split) <;> simp
@[simp] theorem faultAtVend_lnk_failures (s : State) : (faultAtVend s).lnk.failures = s.lnk.failures := by
  unfold faultAtVend; try dsimp only
  (repeat' split) <;> simp
@[simp] theorem faultAtVend_lnk_unknownFrames (s : State) : (faultAtVend s).lnk.unknownFrames = s.lnk.unknownFrames := by
  unfold faultAtVend; try dsimp only
  (repeat' split) <;> simp
@[simp] theorem faultAtVend_lnk_droppedFrames (s : State) : (faultAtVend s).lnk.droppedFrames = s.lnk.droppedFrames := by
  unfold faultAtVend; try dsimp only
  (repeat' split) <;> simp
@[simp] theorem faultAtVend_lnk_silentEntries (s : State) : (faultAtVend s).lnk.silentEntries = s.lnk.silentEntries := by
  unfold faultAtVend; try dsimp only
  (repeat' split) <;> simp
@[simp] theorem faultAtVend_ssu_own (s : State) : (faultAtVend s).ssu.own = s.ssu.own := by
  unfold faultAtVend; try dsimp only
  (repeat' split) <;> simp
@[simp] theorem faultAtVend_ssu_cause (s : State) : (faultAtVend s).ssu.cause = s.ssu.cause := by
  unfold faultAtVend; try dsimp only
  (repeat' split) <;> simp
@[simp] theorem faultAtVend_ssu_imageStatus (s : State) : (faultAtVend s).ssu.imageStatus = s.ssu.imageStatus := by
  unfold faultAtVend; try dsimp only
  (repeat' split) <;> simp
@[simp] theorem faultAtVend_ssu_auditGood (s : State) : (faultAtVend s).ssu.auditGood = s.ssu.auditGood := by
  unfold faultAtVend; try dsimp only
  (repeat' split) <;> simp
@[simp] theorem faultAtVend_ssu_snapshot (s : State) : (faultAtVend s).ssu.snapshot = s.ssu.snapshot := by
  unfold faultAtVend; try dsimp only
  (repeat' split) <;> simp
@[simp] theorem faultAtVend_ssu_saveOwed (s : State) : (faultAtVend s).ssu.saveOwed = s.ssu.saveOwed := by
  unfold faultAtVend; try dsimp only
  (repeat' split) <;> simp
@[simp] theorem faultAtVend_ssu_lastSave (s : State) : (faultAtVend s).ssu.lastSave = s.ssu.lastSave := by
  unfold faultAtVend; try dsimp only
  (repeat' split) <;> simp
@[simp] theorem faultAtVend_ssu_auditArea (s : State) : (faultAtVend s).ssu.auditArea = s.ssu.auditArea := by
  unfold faultAtVend; try dsimp only
  (repeat' split) <;> simp
@[simp] theorem lossOfCold_pending (s : State) : (lossOfCold s).pending = s.pending := by
  unfold lossOfCold; try dsimp only
  (repeat' split) <;> simp
@[simp] theorem lossOfCold_due (s : State) : (lossOfCold s).due = s.due := by
  unfold lossOfCold; try dsimp only
  (repeat' split) <;> simp
@[simp] theorem lossOfCold_phase (s : State) : (lossOfCold s).phase = s.phase := by
  unfold lossOfCold; try dsimp only
  (repeat' split) <;> simp
@[simp] theorem lossOfCold_inputs (s : State) : (lossOfCold s).inputs = s.inputs := by
  unfold lossOfCold; try dsimp only
  (repeat' split) <;> simp
@[simp] theorem lossOfCold_outputs (s : State) : (lossOfCold s).outputs = s.outputs := by
  unfold lossOfCold; try dsimp only
  (repeat' split) <;> simp
@[simp] theorem lossOfCold_params (s : State) : (lossOfCold s).params = s.params := by
  unfold lossOfCold; try dsimp only
  (repeat' split) <;> simp
@[simp] theorem lossOfCold_cnu (s : State) : (lossOfCold s).cnu = s.cnu := by
  unfold lossOfCold; try dsimp only
  (repeat' split) <;> simp
@[simp] theorem lossOfCold_cca (s : State) : (lossOfCold s).cca = s.cca := by
  unfold lossOfCold; try dsimp only
  (repeat' split) <;> simp
@[simp] theorem lossOfCold_rfc (s : State) : (lossOfCold s).rfc = s.rfc := by
  unfold lossOfCold; try dsimp only
  (repeat' split) <;> simp
@[simp] theorem lossOfCold_cru_probeShort (s : State) : (lossOfCold s).cru.probeShort = s.cru.probeShort := by
  unfold lossOfCold; try dsimp only
  (repeat' split) <;> simp
@[simp] theorem lossOfCold_cru_strayExits (s : State) : (lossOfCold s).cru.strayExits = s.cru.strayExits := by
  unfold lossOfCold; try dsimp only
  (repeat' split) <;> simp
@[simp] theorem lossOfCold_vsq_queue (s : State) : (lossOfCold s).vsq.queue = s.vsq.queue := by
  unfold lossOfCold; try dsimp only
  (repeat' split) <;> simp
@[simp] theorem lossOfCold_vsq_tagCounter (s : State) : (lossOfCold s).vsq.tagCounter = s.vsq.tagCounter := by
  unfold lossOfCold; try dsimp only
  (repeat' split) <;> simp
@[simp] theorem lossOfCold_mxd_state (s : State) : (lossOfCold s).mxd.state = s.mxd.state := by
  unfold lossOfCold; try dsimp only
  (repeat' split) <;> simp
@[simp] theorem lossOfCold_mxd_latch (s : State) : (lossOfCold s).mxd.latch = s.mxd.latch := by
  unfold lossOfCold; try dsimp only
  (repeat' split) <;> simp
@[simp] theorem lossOfCold_mxd_hold (s : State) : (lossOfCold s).mxd.hold = s.mxd.hold := by
  unfold lossOfCold; try dsimp only
  (repeat' split) <;> simp
@[simp] theorem lossOfCold_mxd_mismatch (s : State) : (lossOfCold s).mxd.mismatch = s.mxd.mismatch := by
  unfold lossOfCold; try dsimp only
  (repeat' split) <;> simp
@[simp] theorem lossOfCold_mxd_fault (s : State) : (lossOfCold s).mxd.fault = s.mxd.fault := by
  unfold lossOfCold; try dsimp only
  (repeat' split) <;> simp
@[simp] theorem lossOfCold_mxd_energised (s : State) : (lossOfCold s).mxd.energised = s.mxd.energised := by
  unfold lossOfCold; try dsimp only
  (repeat' split) <;> simp
@[simp] theorem lossOfCold_mxd_samples (s : State) : (lossOfCold s).mxd.samples = s.mxd.samples := by
  unfold lossOfCold; try dsimp only
  (repeat' split) <;> simp
@[simp] theorem lossOfCold_mxd_stallRun (s : State) : (lossOfCold s).mxd.stallRun = s.mxd.stallRun := by
  unfold lossOfCold; try dsimp only
  (repeat' split) <;> simp
@[simp] theorem lossOfCold_mxd_supervision (s : State) : (lossOfCold s).mxd.supervision = s.mxd.supervision := by
  unfold lossOfCold; try dsimp only
  (repeat' split) <;> simp
@[simp] theorem lossOfCold_mxd_lastSample (s : State) : (lossOfCold s).mxd.lastSample = s.mxd.lastSample := by
  unfold lossOfCold; try dsimp only
  (repeat' split) <;> simp
@[simp] theorem lossOfCold_mxd_tick (s : State) : (lossOfCold s).mxd.tick = s.mxd.tick := by
  unfold lossOfCold; try dsimp only
  (repeat' split) <;> simp
@[simp] theorem lossOfCold_lbu_peers (s : State) : (lossOfCold s).lbu.peers = s.lbu.peers := by
  unfold lossOfCold; try dsimp only
  (repeat' split) <;> simp
@[simp] theorem lossOfCold_lbu_ignored (s : State) : (lossOfCold s).lbu.ignored = s.lbu.ignored := by
  unfold lossOfCold; try dsimp only
  (repeat' split) <;> simp
@[simp] theorem lossOfCold_lbu_objectSum (s : State) : (lossOfCold s).lbu.objectSum = s.lbu.objectSum := by
  unfold lossOfCold; try dsimp only
  (repeat' split) <;> simp
@[simp] theorem lossOfCold_lnk_state (s : State) : (lossOfCold s).lnk.state = s.lnk.state := by
  unfold lossOfCold; try dsimp only
  (repeat' split) <;> simp
@[simp] theorem lossOfCold_lnk_heard (s : State) : (lossOfCold s).lnk.heard = s.lnk.heard := by
  unfold lossOfCold; try dsimp only
  (repeat' split) <;> simp
@[simp] theorem lossOfCold_lnk_acknowledged (s : State) : (lossOfCold s).lnk.acknowledged = s.lnk.acknowledged := by
  unfold lossOfCold; try dsimp only
  (repeat' split) <;> simp
@[simp] theorem lossOfCold_lnk_isolationTimer (s : State) : (lossOfCold s).lnk.isolationTimer = s.lnk.isolationTimer := by
  unfold lossOfCold; try dsimp only
  (repeat' split) <;> simp
@[simp] theorem lossOfCold_lnk_silentTimer (s : State) : (lossOfCold s).lnk.silentTimer = s.lnk.silentTimer := by
  unfold lossOfCold; try dsimp only
  (repeat' split) <;> simp
@[simp] theorem lossOfCold_lnk_failures (s : State) : (lossOfCold s).lnk.failures = s.lnk.failures := by
  unfold lossOfCold; try dsimp only
  (repeat' split) <;> simp
@[simp] theorem lossOfCold_lnk_unknownFrames (s : State) : (lossOfCold s).lnk.unknownFrames = s.lnk.unknownFrames := by
  unfold lossOfCold; try dsimp only
  (repeat' split) <;> simp
@[simp] theorem lossOfCold_lnk_droppedFrames (s : State) : (lossOfCold s).lnk.droppedFrames = s.lnk.droppedFrames := by
  unfold lossOfCold; try dsimp only
  (repeat' split) <;> simp
@[simp] theorem lossOfCold_lnk_silentEntries (s : State) : (lossOfCold s).lnk.silentEntries = s.lnk.silentEntries := by
  unfold lossOfCold; try dsimp only
  (repeat' split) <;> simp
@[simp] theorem lossOfCold_ssu_own (s : State) : (lossOfCold s).ssu.own = s.ssu.own := by
  unfold lossOfCold; try dsimp only
  (repeat' split) <;> simp
@[simp] theorem lossOfCold_ssu_cause (s : State) : (lossOfCold s).ssu.cause = s.ssu.cause := by
  unfold lossOfCold; try dsimp only
  (repeat' split) <;> simp
@[simp] theorem lossOfCold_ssu_imageStatus (s : State) : (lossOfCold s).ssu.imageStatus = s.ssu.imageStatus := by
  unfold lossOfCold; try dsimp only
  (repeat' split) <;> simp
@[simp] theorem lossOfCold_ssu_auditGood (s : State) : (lossOfCold s).ssu.auditGood = s.ssu.auditGood := by
  unfold lossOfCold; try dsimp only
  (repeat' split) <;> simp
@[simp] theorem lossOfCold_ssu_snapshot (s : State) : (lossOfCold s).ssu.snapshot = s.ssu.snapshot := by
  unfold lossOfCold; try dsimp only
  (repeat' split) <;> simp
@[simp] theorem lossOfCold_ssu_saveOwed (s : State) : (lossOfCold s).ssu.saveOwed = s.ssu.saveOwed := by
  unfold lossOfCold; try dsimp only
  (repeat' split) <;> simp
@[simp] theorem lossOfCold_ssu_lastSave (s : State) : (lossOfCold s).ssu.lastSave = s.ssu.lastSave := by
  unfold lossOfCold; try dsimp only
  (repeat' split) <;> simp
@[simp] theorem lossOfCold_ssu_auditArea (s : State) : (lossOfCold s).ssu.auditArea = s.ssu.auditArea := by
  unfold lossOfCold; try dsimp only
  (repeat' split) <;> simp
@[simp] theorem saleEvent_pending (s : State) : (saleEvent s).pending = s.pending := by
  unfold saleEvent; try dsimp only
  (repeat' split) <;> simp
@[simp] theorem saleEvent_due (s : State) : (saleEvent s).due = s.due := by
  unfold saleEvent; try dsimp only
  (repeat' split) <;> simp
@[simp] theorem saleEvent_phase (s : State) : (saleEvent s).phase = s.phase := by
  unfold saleEvent; try dsimp only
  (repeat' split) <;> simp
@[simp] theorem saleEvent_inputs (s : State) : (saleEvent s).inputs = s.inputs := by
  unfold saleEvent; try dsimp only
  (repeat' split) <;> simp
@[simp] theorem saleEvent_outputs (s : State) : (saleEvent s).outputs = s.outputs := by
  unfold saleEvent; try dsimp only
  (repeat' split) <;> simp
@[simp] theorem saleEvent_params (s : State) : (saleEvent s).params = s.params := by
  unfold saleEvent; try dsimp only
  (repeat' split) <;> simp
@[simp] theorem saleEvent_cnu (s : State) : (saleEvent s).cnu = s.cnu := by
  unfold saleEvent; try dsimp only
  (repeat' split) <;> simp
@[simp] theorem saleEvent_cca (s : State) : (saleEvent s).cca = s.cca := by
  unfold saleEvent; try dsimp only
  (repeat' split) <;> simp
@[simp] theorem saleEvent_cru_probeShort (s : State) : (saleEvent s).cru.probeShort = s.cru.probeShort := by
  unfold saleEvent; try dsimp only
  (repeat' split) <;> simp
@[simp] theorem saleEvent_cru_strayExits (s : State) : (saleEvent s).cru.strayExits = s.cru.strayExits := by
  unfold saleEvent; try dsimp only
  (repeat' split) <;> simp
@[simp] theorem saleEvent_vsq_queue (s : State) : (saleEvent s).vsq.queue = s.vsq.queue := by
  unfold saleEvent; try dsimp only
  (repeat' split) <;> simp
@[simp] theorem saleEvent_vsq_tagCounter (s : State) : (saleEvent s).vsq.tagCounter = s.vsq.tagCounter := by
  unfold saleEvent; try dsimp only
  (repeat' split) <;> simp
@[simp] theorem saleEvent_mxd_state (s : State) : (saleEvent s).mxd.state = s.mxd.state := by
  unfold saleEvent; try dsimp only
  (repeat' split) <;> simp
@[simp] theorem saleEvent_mxd_latch (s : State) : (saleEvent s).mxd.latch = s.mxd.latch := by
  unfold saleEvent; try dsimp only
  (repeat' split) <;> simp
@[simp] theorem saleEvent_mxd_hold (s : State) : (saleEvent s).mxd.hold = s.mxd.hold := by
  unfold saleEvent; try dsimp only
  (repeat' split) <;> simp
@[simp] theorem saleEvent_mxd_mismatch (s : State) : (saleEvent s).mxd.mismatch = s.mxd.mismatch := by
  unfold saleEvent; try dsimp only
  (repeat' split) <;> simp
@[simp] theorem saleEvent_mxd_fault (s : State) : (saleEvent s).mxd.fault = s.mxd.fault := by
  unfold saleEvent; try dsimp only
  (repeat' split) <;> simp
@[simp] theorem saleEvent_mxd_energised (s : State) : (saleEvent s).mxd.energised = s.mxd.energised := by
  unfold saleEvent; try dsimp only
  (repeat' split) <;> simp
@[simp] theorem saleEvent_mxd_samples (s : State) : (saleEvent s).mxd.samples = s.mxd.samples := by
  unfold saleEvent; try dsimp only
  (repeat' split) <;> simp
@[simp] theorem saleEvent_mxd_stallRun (s : State) : (saleEvent s).mxd.stallRun = s.mxd.stallRun := by
  unfold saleEvent; try dsimp only
  (repeat' split) <;> simp
@[simp] theorem saleEvent_mxd_supervision (s : State) : (saleEvent s).mxd.supervision = s.mxd.supervision := by
  unfold saleEvent; try dsimp only
  (repeat' split) <;> simp
@[simp] theorem saleEvent_mxd_lastSample (s : State) : (saleEvent s).mxd.lastSample = s.mxd.lastSample := by
  unfold saleEvent; try dsimp only
  (repeat' split) <;> simp
@[simp] theorem saleEvent_mxd_tick (s : State) : (saleEvent s).mxd.tick = s.mxd.tick := by
  unfold saleEvent; try dsimp only
  (repeat' split) <;> simp
@[simp] theorem saleEvent_rfc_cabinet (s : State) : (saleEvent s).rfc.cabinet = s.rfc.cabinet := by
  unfold saleEvent; try dsimp only
  (repeat' split) <;> simp
@[simp] theorem saleEvent_rfc_evaporator (s : State) : (saleEvent s).rfc.evaporator = s.rfc.evaporator := by
  unfold saleEvent; try dsimp only
  (repeat' split) <;> simp
@[simp] theorem saleEvent_rfc_state (s : State) : (saleEvent s).rfc.state = s.rfc.state := by
  unfold saleEvent; try dsimp only
  (repeat' split) <;> simp
@[simp] theorem saleEvent_rfc_lockoutTimer (s : State) : (saleEvent s).rfc.lockoutTimer = s.rfc.lockoutTimer := by
  unfold saleEvent; try dsimp only
  (repeat' split) <;> simp
@[simp] theorem saleEvent_rfc_cycleTimer (s : State) : (saleEvent s).rfc.cycleTimer = s.rfc.cycleTimer := by
  unfold saleEvent; try dsimp only
  (repeat' split) <;> simp
@[simp] theorem saleEvent_rfc_classAsked (s : State) : (saleEvent s).rfc.classAsked = s.rfc.classAsked := by
  unfold saleEvent; try dsimp only
  (repeat' split) <;> simp
@[simp] theorem saleEvent_rfc_startTimer (s : State) : (saleEvent s).rfc.startTimer = s.rfc.startTimer := by
  unfold saleEvent; try dsimp only
  (repeat' split) <;> simp
@[simp] theorem saleEvent_rfc_onTimer (s : State) : (saleEvent s).rfc.onTimer = s.rfc.onTimer := by
  unfold saleEvent; try dsimp only
  (repeat' split) <;> simp
@[simp] theorem saleEvent_rfc_offTimer (s : State) : (saleEvent s).rfc.offTimer = s.rfc.offTimer := by
  unfold saleEvent; try dsimp only
  (repeat' split) <;> simp
@[simp] theorem saleEvent_rfc_accumulator (s : State) : (saleEvent s).rfc.accumulator = s.rfc.accumulator := by
  unfold saleEvent; try dsimp only
  (repeat' split) <;> simp
@[simp] theorem saleEvent_rfc_second (s : State) : (saleEvent s).rfc.second = s.rfc.second := by
  unfold saleEvent; try dsimp only
  (repeat' split) <;> simp
@[simp] theorem saleEvent_rfc_defrostDue (s : State) : (saleEvent s).rfc.defrostDue = s.rfc.defrostDue := by
  unfold saleEvent; try dsimp only
  (repeat' split) <;> simp
@[simp] theorem saleEvent_rfc_defrostTimer (s : State) : (saleEvent s).rfc.defrostTimer = s.rfc.defrostTimer := by
  unfold saleEvent; try dsimp only
  (repeat' split) <;> simp
@[simp] theorem saleEvent_rfc_heaterMode (s : State) : (saleEvent s).rfc.heaterMode = s.rfc.heaterMode := by
  unfold saleEvent; try dsimp only
  (repeat' split) <;> simp
@[simp] theorem saleEvent_rfc_dripTimer (s : State) : (saleEvent s).rfc.dripTimer = s.rfc.dripTimer := by
  unfold saleEvent; try dsimp only
  (repeat' split) <;> simp
@[simp] theorem saleEvent_rfc_hotHold (s : State) : (saleEvent s).rfc.hotHold = s.rfc.hotHold := by
  unfold saleEvent; try dsimp only
  (repeat' split) <;> simp
@[simp] theorem saleEvent_lbu_peers (s : State) : (saleEvent s).lbu.peers = s.lbu.peers := by
  unfold saleEvent; try dsimp only
  (repeat' split) <;> simp
@[simp] theorem saleEvent_lbu_ignored (s : State) : (saleEvent s).lbu.ignored = s.lbu.ignored := by
  unfold saleEvent; try dsimp only
  (repeat' split) <;> simp
@[simp] theorem saleEvent_lbu_objectSum (s : State) : (saleEvent s).lbu.objectSum = s.lbu.objectSum := by
  unfold saleEvent; try dsimp only
  (repeat' split) <;> simp
@[simp] theorem saleEvent_lnk_state (s : State) : (saleEvent s).lnk.state = s.lnk.state := by
  unfold saleEvent; try dsimp only
  (repeat' split) <;> simp
@[simp] theorem saleEvent_lnk_heard (s : State) : (saleEvent s).lnk.heard = s.lnk.heard := by
  unfold saleEvent; try dsimp only
  (repeat' split) <;> simp
@[simp] theorem saleEvent_lnk_acknowledged (s : State) : (saleEvent s).lnk.acknowledged = s.lnk.acknowledged := by
  unfold saleEvent; try dsimp only
  (repeat' split) <;> simp
@[simp] theorem saleEvent_lnk_isolationTimer (s : State) : (saleEvent s).lnk.isolationTimer = s.lnk.isolationTimer := by
  unfold saleEvent; try dsimp only
  (repeat' split) <;> simp
@[simp] theorem saleEvent_lnk_silentTimer (s : State) : (saleEvent s).lnk.silentTimer = s.lnk.silentTimer := by
  unfold saleEvent; try dsimp only
  (repeat' split) <;> simp
@[simp] theorem saleEvent_lnk_failures (s : State) : (saleEvent s).lnk.failures = s.lnk.failures := by
  unfold saleEvent; try dsimp only
  (repeat' split) <;> simp
@[simp] theorem saleEvent_lnk_unknownFrames (s : State) : (saleEvent s).lnk.unknownFrames = s.lnk.unknownFrames := by
  unfold saleEvent; try dsimp only
  (repeat' split) <;> simp
@[simp] theorem saleEvent_lnk_droppedFrames (s : State) : (saleEvent s).lnk.droppedFrames = s.lnk.droppedFrames := by
  unfold saleEvent; try dsimp only
  (repeat' split) <;> simp
@[simp] theorem saleEvent_lnk_silentEntries (s : State) : (saleEvent s).lnk.silentEntries = s.lnk.silentEntries := by
  unfold saleEvent; try dsimp only
  (repeat' split) <;> simp
@[simp] theorem saleEvent_ssu_own (s : State) : (saleEvent s).ssu.own = s.ssu.own := by
  unfold saleEvent; try dsimp only
  (repeat' split) <;> simp
@[simp] theorem saleEvent_ssu_cause (s : State) : (saleEvent s).ssu.cause = s.ssu.cause := by
  unfold saleEvent; try dsimp only
  (repeat' split) <;> simp
@[simp] theorem saleEvent_ssu_imageStatus (s : State) : (saleEvent s).ssu.imageStatus = s.ssu.imageStatus := by
  unfold saleEvent; try dsimp only
  (repeat' split) <;> simp
@[simp] theorem saleEvent_ssu_auditGood (s : State) : (saleEvent s).ssu.auditGood = s.ssu.auditGood := by
  unfold saleEvent; try dsimp only
  (repeat' split) <;> simp
@[simp] theorem saleEvent_ssu_snapshot (s : State) : (saleEvent s).ssu.snapshot = s.ssu.snapshot := by
  unfold saleEvent; try dsimp only
  (repeat' split) <;> simp
@[simp] theorem saleEvent_ssu_saveOwed (s : State) : (saleEvent s).ssu.saveOwed = s.ssu.saveOwed := by
  unfold saleEvent; try dsimp only
  (repeat' split) <;> simp
@[simp] theorem saleEvent_ssu_lastSave (s : State) : (saleEvent s).ssu.lastSave = s.ssu.lastSave := by
  unfold saleEvent; try dsimp only
  (repeat' split) <;> simp
@[simp] theorem saleEvent_ssu_auditArea (s : State) : (saleEvent s).ssu.auditArea = s.ssu.auditArea := by
  unfold saleEvent; try dsimp only
  (repeat' split) <;> simp
@[simp] theorem openEvent_pending (s : State) : (openEvent s).pending = s.pending := by
  unfold openEvent; try dsimp only
  (repeat' split) <;> simp
@[simp] theorem openEvent_due (s : State) : (openEvent s).due = s.due := by
  unfold openEvent; try dsimp only
  (repeat' split) <;> simp
@[simp] theorem openEvent_phase (s : State) : (openEvent s).phase = s.phase := by
  unfold openEvent; try dsimp only
  (repeat' split) <;> simp
@[simp] theorem openEvent_inputs (s : State) : (openEvent s).inputs = s.inputs := by
  unfold openEvent; try dsimp only
  (repeat' split) <;> simp
@[simp] theorem openEvent_outputs (s : State) : (openEvent s).outputs = s.outputs := by
  unfold openEvent; try dsimp only
  (repeat' split) <;> simp
@[simp] theorem openEvent_params (s : State) : (openEvent s).params = s.params := by
  unfold openEvent; try dsimp only
  (repeat' split) <;> simp
@[simp] theorem openEvent_cnu (s : State) : (openEvent s).cnu = s.cnu := by
  unfold openEvent; try dsimp only
  (repeat' split) <;> simp
@[simp] theorem openEvent_cca (s : State) : (openEvent s).cca = s.cca := by
  unfold openEvent; try dsimp only
  (repeat' split) <;> simp
@[simp] theorem openEvent_vsq (s : State) : (openEvent s).vsq = s.vsq := by
  unfold openEvent; try dsimp only
  (repeat' split) <;> simp
@[simp] theorem openEvent_mxd (s : State) : (openEvent s).mxd = s.mxd := by
  unfold openEvent; try dsimp only
  (repeat' split) <;> simp
@[simp] theorem openEvent_rfc (s : State) : (openEvent s).rfc = s.rfc := by
  unfold openEvent; try dsimp only
  (repeat' split) <;> simp
@[simp] theorem openEvent_lnk (s : State) : (openEvent s).lnk = s.lnk := by
  unfold openEvent; try dsimp only
  (repeat' split) <;> simp
@[simp] theorem openEvent_ssu (s : State) : (openEvent s).ssu = s.ssu := by
  unfold openEvent; try dsimp only
  (repeat' split) <;> simp
@[simp] theorem openEvent_cru_session (s : State) : (openEvent s).cru.session = s.cru.session := by
  unfold openEvent; try dsimp only
  (repeat' split) <;> simp
@[simp] theorem openEvent_cru_payout (s : State) : (openEvent s).cru.payout = s.cru.payout := by
  unfold openEvent; try dsimp only
  (repeat' split) <;> simp
@[simp] theorem openEvent_cru_solenoid (s : State) : (openEvent s).cru.solenoid = s.cru.solenoid := by
  unfold openEvent; try dsimp only
  (repeat' split) <;> simp
@[simp] theorem openEvent_cru_books (s : State) : (openEvent s).cru.books = s.cru.books := by
  unfold openEvent; try dsimp only
  (repeat' split) <;> simp
@[simp] theorem openEvent_cru_refresh (s : State) : (openEvent s).cru.refresh = s.cru.refresh := by
  unfold openEvent; try dsimp only
  (repeat' split) <;> simp
@[simp] theorem openEvent_cru_owed (s : State) : (openEvent s).cru.owed = s.cru.owed := by
  unfold openEvent; try dsimp only
  (repeat' split) <;> simp
@[simp] theorem openEvent_cru_exactChangeOnly (s : State) : (openEvent s).cru.exactChangeOnly = s.cru.exactChangeOnly := by
  unfold openEvent; try dsimp only
  (repeat' split) <;> simp
@[simp] theorem openEvent_cru_probeShort (s : State) : (openEvent s).cru.probeShort = s.cru.probeShort := by
  unfold openEvent; try dsimp only
  (repeat' split) <;> simp
@[simp] theorem openEvent_cru_strayExits (s : State) : (openEvent s).cru.strayExits = s.cru.strayExits := by
  unfold openEvent; try dsimp only
  (repeat' split) <;> simp
@[simp] theorem openEvent_lbu_peers (s : State) : (openEvent s).lbu.peers = s.lbu.peers := by
  unfold openEvent; try dsimp only
  (repeat' split) <;> simp
@[simp] theorem openEvent_lbu_motor (s : State) : (openEvent s).lbu.motor = s.lbu.motor := by
  unfold openEvent; try dsimp only
  (repeat' split) <;> simp
@[simp] theorem openEvent_lbu_compressor (s : State) : (openEvent s).lbu.compressor = s.lbu.compressor := by
  unfold openEvent; try dsimp only
  (repeat' split) <;> simp
@[simp] theorem openEvent_lbu_heater (s : State) : (openEvent s).lbu.heater = s.lbu.heater := by
  unfold openEvent; try dsimp only
  (repeat' split) <;> simp
@[simp] theorem openEvent_lbu_claimCounter (s : State) : (openEvent s).lbu.claimCounter = s.lbu.claimCounter := by
  unfold openEvent; try dsimp only
  (repeat' split) <;> simp
@[simp] theorem openEvent_lbu_ignored (s : State) : (openEvent s).lbu.ignored = s.lbu.ignored := by
  unfold openEvent; try dsimp only
  (repeat' split) <;> simp
@[simp] theorem openEvent_lbu_objectSum (s : State) : (openEvent s).lbu.objectSum = s.lbu.objectSum := by
  unfold openEvent; try dsimp only
  (repeat' split) <;> simp
@[simp] theorem beginSave_pending (s : State) : (beginSave s).pending = s.pending := by
  unfold beginSave; try dsimp only
  (repeat' split) <;> simp
@[simp] theorem beginSave_due (s : State) : (beginSave s).due = s.due := by
  unfold beginSave; try dsimp only
  (repeat' split) <;> simp
@[simp] theorem beginSave_phase (s : State) : (beginSave s).phase = s.phase := by
  unfold beginSave; try dsimp only
  (repeat' split) <;> simp
@[simp] theorem beginSave_inputs (s : State) : (beginSave s).inputs = s.inputs := by
  unfold beginSave; try dsimp only
  (repeat' split) <;> simp
@[simp] theorem beginSave_outputs (s : State) : (beginSave s).outputs = s.outputs := by
  unfold beginSave; try dsimp only
  (repeat' split) <;> simp
@[simp] theorem beginSave_params (s : State) : (beginSave s).params = s.params := by
  unfold beginSave; try dsimp only
  (repeat' split) <;> simp
@[simp] theorem beginSave_cnu (s : State) : (beginSave s).cnu = s.cnu := by
  unfold beginSave; try dsimp only
  (repeat' split) <;> simp
@[simp] theorem beginSave_cru (s : State) : (beginSave s).cru = s.cru := by
  unfold beginSave; try dsimp only
  (repeat' split) <;> simp
@[simp] theorem beginSave_cca (s : State) : (beginSave s).cca = s.cca := by
  unfold beginSave; try dsimp only
  (repeat' split) <;> simp
@[simp] theorem beginSave_vsq (s : State) : (beginSave s).vsq = s.vsq := by
  unfold beginSave; try dsimp only
  (repeat' split) <;> simp
@[simp] theorem beginSave_mxd (s : State) : (beginSave s).mxd = s.mxd := by
  unfold beginSave; try dsimp only
  (repeat' split) <;> simp
@[simp] theorem beginSave_rfc (s : State) : (beginSave s).rfc = s.rfc := by
  unfold beginSave; try dsimp only
  (repeat' split) <;> simp
@[simp] theorem beginSave_lbu (s : State) : (beginSave s).lbu = s.lbu := by
  unfold beginSave; try dsimp only
  (repeat' split) <;> simp
@[simp] theorem beginSave_lnk (s : State) : (beginSave s).lnk = s.lnk := by
  unfold beginSave; try dsimp only
  (repeat' split) <;> simp
@[simp] theorem beginSave_ssu_own (s : State) : (beginSave s).ssu.own = s.ssu.own := by
  unfold beginSave; try dsimp only
  (repeat' split) <;> simp
@[simp] theorem beginSave_ssu_cause (s : State) : (beginSave s).ssu.cause = s.ssu.cause := by
  unfold beginSave; try dsimp only
  (repeat' split) <;> simp
@[simp] theorem beginSave_ssu_imageStatus (s : State) : (beginSave s).ssu.imageStatus = s.ssu.imageStatus := by
  unfold beginSave; try dsimp only
  (repeat' split) <;> simp
@[simp] theorem beginSave_ssu_auditGood (s : State) : (beginSave s).ssu.auditGood = s.ssu.auditGood := by
  unfold beginSave; try dsimp only
  (repeat' split) <;> simp
@[simp] theorem beginSave_ssu_totals (s : State) : (beginSave s).ssu.totals = s.ssu.totals := by
  unfold beginSave; try dsimp only
  (repeat' split) <;> simp
@[simp] theorem beginSave_ssu_saveOwed (s : State) : (beginSave s).ssu.saveOwed = s.ssu.saveOwed := by
  unfold beginSave; try dsimp only
  (repeat' split) <;> simp
@[simp] theorem beginSave_ssu_lastSave (s : State) : (beginSave s).ssu.lastSave = s.ssu.lastSave := by
  unfold beginSave; try dsimp only
  (repeat' split) <;> simp
@[simp] theorem askSave_pending (s : State) : (askSave s).pending = s.pending := by
  unfold askSave; try dsimp only
  (repeat' split) <;> simp
@[simp] theorem askSave_due (s : State) : (askSave s).due = s.due := by
  unfold askSave; try dsimp only
  (repeat' split) <;> simp
@[simp] theorem askSave_phase (s : State) : (askSave s).phase = s.phase := by
  unfold askSave; try dsimp only
  (repeat' split) <;> simp
@[simp] theorem askSave_inputs (s : State) : (askSave s).inputs = s.inputs := by
  unfold askSave; try dsimp only
  (repeat' split) <;> simp
@[simp] theorem askSave_outputs (s : State) : (askSave s).outputs = s.outputs := by
  unfold askSave; try dsimp only
  (repeat' split) <;> simp
@[simp] theorem askSave_params (s : State) : (askSave s).params = s.params := by
  unfold askSave; try dsimp only
  (repeat' split) <;> simp
@[simp] theorem askSave_cnu (s : State) : (askSave s).cnu = s.cnu := by
  unfold askSave; try dsimp only
  (repeat' split) <;> simp
@[simp] theorem askSave_cru (s : State) : (askSave s).cru = s.cru := by
  unfold askSave; try dsimp only
  (repeat' split) <;> simp
@[simp] theorem askSave_cca (s : State) : (askSave s).cca = s.cca := by
  unfold askSave; try dsimp only
  (repeat' split) <;> simp
@[simp] theorem askSave_vsq (s : State) : (askSave s).vsq = s.vsq := by
  unfold askSave; try dsimp only
  (repeat' split) <;> simp
@[simp] theorem askSave_mxd (s : State) : (askSave s).mxd = s.mxd := by
  unfold askSave; try dsimp only
  (repeat' split) <;> simp
@[simp] theorem askSave_rfc (s : State) : (askSave s).rfc = s.rfc := by
  unfold askSave; try dsimp only
  (repeat' split) <;> simp
@[simp] theorem askSave_lbu (s : State) : (askSave s).lbu = s.lbu := by
  unfold askSave; try dsimp only
  (repeat' split) <;> simp
@[simp] theorem askSave_lnk (s : State) : (askSave s).lnk = s.lnk := by
  unfold askSave; try dsimp only
  (repeat' split) <;> simp
@[simp] theorem askSave_ssu_own (s : State) : (askSave s).ssu.own = s.ssu.own := by
  unfold askSave; try dsimp only
  (repeat' split) <;> simp
@[simp] theorem askSave_ssu_cause (s : State) : (askSave s).ssu.cause = s.ssu.cause := by
  unfold askSave; try dsimp only
  (repeat' split) <;> simp
@[simp] theorem askSave_ssu_imageStatus (s : State) : (askSave s).ssu.imageStatus = s.ssu.imageStatus := by
  unfold askSave; try dsimp only
  (repeat' split) <;> simp
@[simp] theorem askSave_ssu_auditGood (s : State) : (askSave s).ssu.auditGood = s.ssu.auditGood := by
  unfold askSave; try dsimp only
  (repeat' split) <;> simp
@[simp] theorem askSave_ssu_totals (s : State) : (askSave s).ssu.totals = s.ssu.totals := by
  unfold askSave; try dsimp only
  (repeat' split) <;> simp
@[simp] theorem askSave_ssu_lastSave (s : State) : (askSave s).ssu.lastSave = s.ssu.lastSave := by
  unfold askSave; try dsimp only
  (repeat' split) <;> simp
@[simp] theorem endSave_pending (e : SaveEnd) (s : State) : (endSave e s).pending = s.pending := by
  unfold endSave; try dsimp only
  (repeat' split) <;> simp
@[simp] theorem endSave_due (e : SaveEnd) (s : State) : (endSave e s).due = s.due := by
  unfold endSave; try dsimp only
  (repeat' split) <;> simp
@[simp] theorem endSave_phase (e : SaveEnd) (s : State) : (endSave e s).phase = s.phase := by
  unfold endSave; try dsimp only
  (repeat' split) <;> simp
@[simp] theorem endSave_inputs (e : SaveEnd) (s : State) : (endSave e s).inputs = s.inputs := by
  unfold endSave; try dsimp only
  (repeat' split) <;> simp
@[simp] theorem endSave_outputs (e : SaveEnd) (s : State) : (endSave e s).outputs = s.outputs := by
  unfold endSave; try dsimp only
  (repeat' split) <;> simp
@[simp] theorem endSave_params (e : SaveEnd) (s : State) : (endSave e s).params = s.params := by
  unfold endSave; try dsimp only
  (repeat' split) <;> simp
@[simp] theorem endSave_cnu (e : SaveEnd) (s : State) : (endSave e s).cnu = s.cnu := by
  unfold endSave; try dsimp only
  (repeat' split) <;> simp
@[simp] theorem endSave_cru (e : SaveEnd) (s : State) : (endSave e s).cru = s.cru := by
  unfold endSave; try dsimp only
  (repeat' split) <;> simp
@[simp] theorem endSave_cca (e : SaveEnd) (s : State) : (endSave e s).cca = s.cca := by
  unfold endSave; try dsimp only
  (repeat' split) <;> simp
@[simp] theorem endSave_vsq (e : SaveEnd) (s : State) : (endSave e s).vsq = s.vsq := by
  unfold endSave; try dsimp only
  (repeat' split) <;> simp
@[simp] theorem endSave_mxd (e : SaveEnd) (s : State) : (endSave e s).mxd = s.mxd := by
  unfold endSave; try dsimp only
  (repeat' split) <;> simp
@[simp] theorem endSave_rfc (e : SaveEnd) (s : State) : (endSave e s).rfc = s.rfc := by
  unfold endSave; try dsimp only
  (repeat' split) <;> simp
@[simp] theorem endSave_lbu (e : SaveEnd) (s : State) : (endSave e s).lbu = s.lbu := by
  unfold endSave; try dsimp only
  (repeat' split) <;> simp
@[simp] theorem endSave_lnk (e : SaveEnd) (s : State) : (endSave e s).lnk = s.lnk := by
  unfold endSave; try dsimp only
  (repeat' split) <;> simp
@[simp] theorem endSave_ssu_own (e : SaveEnd) (s : State) : (endSave e s).ssu.own = s.ssu.own := by
  unfold endSave; try dsimp only
  (repeat' split) <;> simp
@[simp] theorem endSave_ssu_cause (e : SaveEnd) (s : State) : (endSave e s).ssu.cause = s.ssu.cause := by
  unfold endSave; try dsimp only
  (repeat' split) <;> simp
@[simp] theorem endSave_ssu_imageStatus (e : SaveEnd) (s : State) : (endSave e s).ssu.imageStatus = s.ssu.imageStatus := by
  unfold endSave; try dsimp only
  (repeat' split) <;> simp
@[simp] theorem endSave_ssu_auditGood (e : SaveEnd) (s : State) : (endSave e s).ssu.auditGood = s.ssu.auditGood := by
  unfold endSave; try dsimp only
  (repeat' split) <;> simp
@[simp] theorem endSave_ssu_totals (e : SaveEnd) (s : State) : (endSave e s).ssu.totals = s.ssu.totals := by
  unfold endSave; try dsimp only
  (repeat' split) <;> simp
@[simp] theorem enterListenOnly_pending (s : State) : (enterListenOnly s).pending = s.pending := by
  unfold enterListenOnly; try dsimp only
  (repeat' split) <;> simp
@[simp] theorem enterListenOnly_due (s : State) : (enterListenOnly s).due = s.due := by
  unfold enterListenOnly; try dsimp only
  (repeat' split) <;> simp
@[simp] theorem enterListenOnly_phase (s : State) : (enterListenOnly s).phase = s.phase := by
  unfold enterListenOnly; try dsimp only
  (repeat' split) <;> simp
@[simp] theorem enterListenOnly_inputs (s : State) : (enterListenOnly s).inputs = s.inputs := by
  unfold enterListenOnly; try dsimp only
  (repeat' split) <;> simp
@[simp] theorem enterListenOnly_outputs (s : State) : (enterListenOnly s).outputs = s.outputs := by
  unfold enterListenOnly; try dsimp only
  (repeat' split) <;> simp
@[simp] theorem enterListenOnly_params (s : State) : (enterListenOnly s).params = s.params := by
  unfold enterListenOnly; try dsimp only
  (repeat' split) <;> simp
@[simp] theorem enterListenOnly_cnu (s : State) : (enterListenOnly s).cnu = s.cnu := by
  unfold enterListenOnly; try dsimp only
  (repeat' split) <;> simp
@[simp] theorem enterListenOnly_cru (s : State) : (enterListenOnly s).cru = s.cru := by
  unfold enterListenOnly; try dsimp only
  (repeat' split) <;> simp
@[simp] theorem enterListenOnly_cca (s : State) : (enterListenOnly s).cca = s.cca := by
  unfold enterListenOnly; try dsimp only
  (repeat' split) <;> simp
@[simp] theorem enterListenOnly_mxd (s : State) : (enterListenOnly s).mxd = s.mxd := by
  unfold enterListenOnly; try dsimp only
  (repeat' split) <;> simp
@[simp] theorem enterListenOnly_rfc (s : State) : (enterListenOnly s).rfc = s.rfc := by
  unfold enterListenOnly; try dsimp only
  (repeat' split) <;> simp
@[simp] theorem enterListenOnly_lbu (s : State) : (enterListenOnly s).lbu = s.lbu := by
  unfold enterListenOnly; try dsimp only
  (repeat' split) <;> simp
@[simp] theorem enterListenOnly_ssu (s : State) : (enterListenOnly s).ssu = s.ssu := by
  unfold enterListenOnly; try dsimp only
  (repeat' split) <;> simp
@[simp] theorem enterListenOnly_vsq_state (s : State) : (enterListenOnly s).vsq.state = s.vsq.state := by
  unfold enterListenOnly; try dsimp only
  (repeat' split) <;> simp
@[simp] theorem enterListenOnly_vsq_vend (s : State) : (enterListenOnly s).vsq.vend = s.vsq.vend := by
  unfold enterListenOnly; try dsimp only
  (repeat' split) <;> simp
@[simp] theorem enterListenOnly_vsq_test (s : State) : (enterListenOnly s).vsq.test = s.vsq.test := by
  unfold enterListenOnly; try dsimp only
  (repeat' split) <;> simp
@[simp] theorem enterListenOnly_vsq_tagCounter (s : State) : (enterListenOnly s).vsq.tagCounter = s.vsq.tagCounter := by
  unfold enterListenOnly; try dsimp only
  (repeat' split) <;> simp
@[simp] theorem enterListenOnly_vsq_slots (s : State) : (enterListenOnly s).vsq.slots = s.vsq.slots := by
  unfold enterListenOnly; try dsimp only
  (repeat' split) <;> simp
@[simp] theorem enterListenOnly_lnk_heard (s : State) : (enterListenOnly s).lnk.heard = s.lnk.heard := by
  unfold enterListenOnly; try dsimp only
  (repeat' split) <;> simp
@[simp] theorem enterListenOnly_lnk_acknowledged (s : State) : (enterListenOnly s).lnk.acknowledged = s.lnk.acknowledged := by
  unfold enterListenOnly; try dsimp only
  (repeat' split) <;> simp
@[simp] theorem enterListenOnly_lnk_isolationTimer (s : State) : (enterListenOnly s).lnk.isolationTimer = s.lnk.isolationTimer := by
  unfold enterListenOnly; try dsimp only
  (repeat' split) <;> simp
@[simp] theorem enterListenOnly_lnk_change (s : State) : (enterListenOnly s).lnk.change = s.lnk.change := by
  unfold enterListenOnly; try dsimp only
  (repeat' split) <;> simp
@[simp] theorem enterListenOnly_lnk_failures (s : State) : (enterListenOnly s).lnk.failures = s.lnk.failures := by
  unfold enterListenOnly; try dsimp only
  (repeat' split) <;> simp
@[simp] theorem enterListenOnly_lnk_unknownFrames (s : State) : (enterListenOnly s).lnk.unknownFrames = s.lnk.unknownFrames := by
  unfold enterListenOnly; try dsimp only
  (repeat' split) <;> simp
@[simp] theorem enterListenOnly_lnk_droppedFrames (s : State) : (enterListenOnly s).lnk.droppedFrames = s.lnk.droppedFrames := by
  unfold enterListenOnly; try dsimp only
  (repeat' split) <;> simp
@[simp] theorem enterListenOnly_lnk_silentEntries (s : State) : (enterListenOnly s).lnk.silentEntries = s.lnk.silentEntries := by
  unfold enterListenOnly; try dsimp only
  (repeat' split) <;> simp
@[simp] theorem queueLastStatus_pending (s : State) : (queueLastStatus s).pending = s.pending := by
  unfold queueLastStatus; try dsimp only
  (repeat' split) <;> simp
@[simp] theorem queueLastStatus_due (s : State) : (queueLastStatus s).due = s.due := by
  unfold queueLastStatus; try dsimp only
  (repeat' split) <;> simp
@[simp] theorem queueLastStatus_phase (s : State) : (queueLastStatus s).phase = s.phase := by
  unfold queueLastStatus; try dsimp only
  (repeat' split) <;> simp
@[simp] theorem queueLastStatus_inputs (s : State) : (queueLastStatus s).inputs = s.inputs := by
  unfold queueLastStatus; try dsimp only
  (repeat' split) <;> simp
@[simp] theorem queueLastStatus_outputs (s : State) : (queueLastStatus s).outputs = s.outputs := by
  unfold queueLastStatus; try dsimp only
  (repeat' split) <;> simp
@[simp] theorem queueLastStatus_params (s : State) : (queueLastStatus s).params = s.params := by
  unfold queueLastStatus; try dsimp only
  (repeat' split) <;> simp
@[simp] theorem queueLastStatus_cnu (s : State) : (queueLastStatus s).cnu = s.cnu := by
  unfold queueLastStatus; try dsimp only
  (repeat' split) <;> simp
@[simp] theorem queueLastStatus_cru (s : State) : (queueLastStatus s).cru = s.cru := by
  unfold queueLastStatus; try dsimp only
  (repeat' split) <;> simp
@[simp] theorem queueLastStatus_cca (s : State) : (queueLastStatus s).cca = s.cca := by
  unfold queueLastStatus; try dsimp only
  (repeat' split) <;> simp
@[simp] theorem queueLastStatus_vsq (s : State) : (queueLastStatus s).vsq = s.vsq := by
  unfold queueLastStatus; try dsimp only
  (repeat' split) <;> simp
@[simp] theorem queueLastStatus_mxd (s : State) : (queueLastStatus s).mxd = s.mxd := by
  unfold queueLastStatus; try dsimp only
  (repeat' split) <;> simp
@[simp] theorem queueLastStatus_rfc (s : State) : (queueLastStatus s).rfc = s.rfc := by
  unfold queueLastStatus; try dsimp only
  (repeat' split) <;> simp
@[simp] theorem queueLastStatus_lbu (s : State) : (queueLastStatus s).lbu = s.lbu := by
  unfold queueLastStatus; try dsimp only
  (repeat' split) <;> simp
@[simp] theorem queueLastStatus_ssu (s : State) : (queueLastStatus s).ssu = s.ssu := by
  unfold queueLastStatus; try dsimp only
  (repeat' split) <;> simp
@[simp] theorem queueLastStatus_lnk_state (s : State) : (queueLastStatus s).lnk.state = s.lnk.state := by
  unfold queueLastStatus; try dsimp only
  (repeat' split) <;> simp
@[simp] theorem queueLastStatus_lnk_heard (s : State) : (queueLastStatus s).lnk.heard = s.lnk.heard := by
  unfold queueLastStatus; try dsimp only
  (repeat' split) <;> simp
@[simp] theorem queueLastStatus_lnk_acknowledged (s : State) : (queueLastStatus s).lnk.acknowledged = s.lnk.acknowledged := by
  unfold queueLastStatus; try dsimp only
  (repeat' split) <;> simp
@[simp] theorem queueLastStatus_lnk_isolationTimer (s : State) : (queueLastStatus s).lnk.isolationTimer = s.lnk.isolationTimer := by
  unfold queueLastStatus; try dsimp only
  (repeat' split) <;> simp
@[simp] theorem queueLastStatus_lnk_change (s : State) : (queueLastStatus s).lnk.change = s.lnk.change := by
  unfold queueLastStatus; try dsimp only
  (repeat' split) <;> simp
@[simp] theorem queueLastStatus_lnk_periodTimer (s : State) : (queueLastStatus s).lnk.periodTimer = s.lnk.periodTimer := by
  unfold queueLastStatus; try dsimp only
  (repeat' split) <;> simp
@[simp] theorem queueLastStatus_lnk_silentTimer (s : State) : (queueLastStatus s).lnk.silentTimer = s.lnk.silentTimer := by
  unfold queueLastStatus; try dsimp only
  (repeat' split) <;> simp
@[simp] theorem queueLastStatus_lnk_failures (s : State) : (queueLastStatus s).lnk.failures = s.lnk.failures := by
  unfold queueLastStatus; try dsimp only
  (repeat' split) <;> simp
@[simp] theorem queueLastStatus_lnk_unknownFrames (s : State) : (queueLastStatus s).lnk.unknownFrames = s.lnk.unknownFrames := by
  unfold queueLastStatus; try dsimp only
  (repeat' split) <;> simp
@[simp] theorem queueLastStatus_lnk_droppedFrames (s : State) : (queueLastStatus s).lnk.droppedFrames = s.lnk.droppedFrames := by
  unfold queueLastStatus; try dsimp only
  (repeat' split) <;> simp
@[simp] theorem queueLastStatus_lnk_silentEntries (s : State) : (queueLastStatus s).lnk.silentEntries = s.lnk.silentEntries := by
  unfold queueLastStatus; try dsimp only
  (repeat' split) <;> simp
@[simp] theorem takeConflict_pending (s : State) : (takeConflict s).pending = s.pending := by
  unfold takeConflict; try dsimp only
  (repeat' split) <;> simp
@[simp] theorem takeConflict_due (s : State) : (takeConflict s).due = s.due := by
  unfold takeConflict; try dsimp only
  (repeat' split) <;> simp
@[simp] theorem takeConflict_phase (s : State) : (takeConflict s).phase = s.phase := by
  unfold takeConflict; try dsimp only
  (repeat' split) <;> simp
@[simp] theorem takeConflict_inputs (s : State) : (takeConflict s).inputs = s.inputs := by
  unfold takeConflict; try dsimp only
  (repeat' split) <;> simp
@[simp] theorem takeConflict_outputs (s : State) : (takeConflict s).outputs = s.outputs := by
  unfold takeConflict; try dsimp only
  (repeat' split) <;> simp
@[simp] theorem takeConflict_params (s : State) : (takeConflict s).params = s.params := by
  unfold takeConflict; try dsimp only
  (repeat' split) <;> simp
@[simp] theorem takeConflict_cnu (s : State) : (takeConflict s).cnu = s.cnu := by
  unfold takeConflict; try dsimp only
  (repeat' split) <;> simp
@[simp] theorem takeConflict_cca (s : State) : (takeConflict s).cca = s.cca := by
  unfold takeConflict; try dsimp only
  (repeat' split) <;> simp
@[simp] theorem takeConflict_cru_probeShort (s : State) : (takeConflict s).cru.probeShort = s.cru.probeShort := by
  unfold takeConflict; try dsimp only
  (repeat' split) <;> simp
@[simp] theorem takeConflict_cru_strayExits (s : State) : (takeConflict s).cru.strayExits = s.cru.strayExits := by
  unfold takeConflict; try dsimp only
  (repeat' split) <;> simp
@[simp] theorem takeConflict_mxd_state (s : State) : (takeConflict s).mxd.state = s.mxd.state := by
  unfold takeConflict; try dsimp only
  (repeat' split) <;> simp
@[simp] theorem takeConflict_mxd_latch (s : State) : (takeConflict s).mxd.latch = s.mxd.latch := by
  unfold takeConflict; try dsimp only
  (repeat' split) <;> simp
@[simp] theorem takeConflict_mxd_hold (s : State) : (takeConflict s).mxd.hold = s.mxd.hold := by
  unfold takeConflict; try dsimp only
  (repeat' split) <;> simp
@[simp] theorem takeConflict_mxd_mismatch (s : State) : (takeConflict s).mxd.mismatch = s.mxd.mismatch := by
  unfold takeConflict; try dsimp only
  (repeat' split) <;> simp
@[simp] theorem takeConflict_mxd_fault (s : State) : (takeConflict s).mxd.fault = s.mxd.fault := by
  unfold takeConflict; try dsimp only
  (repeat' split) <;> simp
@[simp] theorem takeConflict_mxd_energised (s : State) : (takeConflict s).mxd.energised = s.mxd.energised := by
  unfold takeConflict; try dsimp only
  (repeat' split) <;> simp
@[simp] theorem takeConflict_mxd_samples (s : State) : (takeConflict s).mxd.samples = s.mxd.samples := by
  unfold takeConflict; try dsimp only
  (repeat' split) <;> simp
@[simp] theorem takeConflict_mxd_stallRun (s : State) : (takeConflict s).mxd.stallRun = s.mxd.stallRun := by
  unfold takeConflict; try dsimp only
  (repeat' split) <;> simp
@[simp] theorem takeConflict_mxd_supervision (s : State) : (takeConflict s).mxd.supervision = s.mxd.supervision := by
  unfold takeConflict; try dsimp only
  (repeat' split) <;> simp
@[simp] theorem takeConflict_mxd_lastSample (s : State) : (takeConflict s).mxd.lastSample = s.mxd.lastSample := by
  unfold takeConflict; try dsimp only
  (repeat' split) <;> simp
@[simp] theorem takeConflict_mxd_tick (s : State) : (takeConflict s).mxd.tick = s.mxd.tick := by
  unfold takeConflict; try dsimp only
  (repeat' split) <;> simp
@[simp] theorem takeConflict_rfc_cabinet (s : State) : (takeConflict s).rfc.cabinet = s.rfc.cabinet := by
  unfold takeConflict; try dsimp only
  (repeat' split) <;> simp
@[simp] theorem takeConflict_rfc_evaporator (s : State) : (takeConflict s).rfc.evaporator = s.rfc.evaporator := by
  unfold takeConflict; try dsimp only
  (repeat' split) <;> simp
@[simp] theorem takeConflict_rfc_lockoutTimer (s : State) : (takeConflict s).rfc.lockoutTimer = s.rfc.lockoutTimer := by
  unfold takeConflict; try dsimp only
  (repeat' split) <;> simp
@[simp] theorem takeConflict_rfc_cycleTimer (s : State) : (takeConflict s).rfc.cycleTimer = s.rfc.cycleTimer := by
  unfold takeConflict; try dsimp only
  (repeat' split) <;> simp
@[simp] theorem takeConflict_rfc_classAsked (s : State) : (takeConflict s).rfc.classAsked = s.rfc.classAsked := by
  unfold takeConflict; try dsimp only
  (repeat' split) <;> simp
@[simp] theorem takeConflict_rfc_offTimer (s : State) : (takeConflict s).rfc.offTimer = s.rfc.offTimer := by
  unfold takeConflict; try dsimp only
  (repeat' split) <;> simp
@[simp] theorem takeConflict_rfc_accumulator (s : State) : (takeConflict s).rfc.accumulator = s.rfc.accumulator := by
  unfold takeConflict; try dsimp only
  (repeat' split) <;> simp
@[simp] theorem takeConflict_rfc_defrostDue (s : State) : (takeConflict s).rfc.defrostDue = s.rfc.defrostDue := by
  unfold takeConflict; try dsimp only
  (repeat' split) <;> simp
@[simp] theorem takeConflict_rfc_defrostTimer (s : State) : (takeConflict s).rfc.defrostTimer = s.rfc.defrostTimer := by
  unfold takeConflict; try dsimp only
  (repeat' split) <;> simp
@[simp] theorem takeConflict_rfc_dripTimer (s : State) : (takeConflict s).rfc.dripTimer = s.rfc.dripTimer := by
  unfold takeConflict; try dsimp only
  (repeat' split) <;> simp
@[simp] theorem takeConflict_rfc_sellableCold (s : State) : (takeConflict s).rfc.sellableCold = s.rfc.sellableCold := by
  unfold takeConflict; try dsimp only
  (repeat' split) <;> simp
@[simp] theorem takeConflict_rfc_warmTimer (s : State) : (takeConflict s).rfc.warmTimer = s.rfc.warmTimer := by
  unfold takeConflict; try dsimp only
  (repeat' split) <;> simp
@[simp] theorem takeConflict_rfc_hotHold (s : State) : (takeConflict s).rfc.hotHold = s.rfc.hotHold := by
  unfold takeConflict; try dsimp only
  (repeat' split) <;> simp
@[simp] theorem takeConflict_lbu_peers (s : State) : (takeConflict s).lbu.peers = s.lbu.peers := by
  unfold takeConflict; try dsimp only
  (repeat' split) <;> simp
@[simp] theorem takeConflict_lbu_ignored (s : State) : (takeConflict s).lbu.ignored = s.lbu.ignored := by
  unfold takeConflict; try dsimp only
  (repeat' split) <;> simp
@[simp] theorem takeConflict_lbu_objectSum (s : State) : (takeConflict s).lbu.objectSum = s.lbu.objectSum := by
  unfold takeConflict; try dsimp only
  (repeat' split) <;> simp
@[simp] theorem takeConflict_lnk_heard (s : State) : (takeConflict s).lnk.heard = s.lnk.heard := by
  unfold takeConflict; try dsimp only
  (repeat' split) <;> simp
@[simp] theorem takeConflict_lnk_acknowledged (s : State) : (takeConflict s).lnk.acknowledged = s.lnk.acknowledged := by
  unfold takeConflict; try dsimp only
  (repeat' split) <;> simp
@[simp] theorem takeConflict_lnk_isolationTimer (s : State) : (takeConflict s).lnk.isolationTimer = s.lnk.isolationTimer := by
  unfold takeConflict; try dsimp only
  (repeat' split) <;> simp
@[simp] theorem takeConflict_lnk_failures (s : State) : (takeConflict s).lnk.failures = s.lnk.failures := by
  unfold takeConflict; try dsimp only
  (repeat' split) <;> simp
@[simp] theorem takeConflict_lnk_unknownFrames (s : State) : (takeConflict s).lnk.unknownFrames = s.lnk.unknownFrames := by
  unfold takeConflict; try dsimp only
  (repeat' split) <;> simp
@[simp] theorem takeConflict_lnk_droppedFrames (s : State) : (takeConflict s).lnk.droppedFrames = s.lnk.droppedFrames := by
  unfold takeConflict; try dsimp only
  (repeat' split) <;> simp
@[simp] theorem takeConflict_lnk_silentEntries (s : State) : (takeConflict s).lnk.silentEntries = s.lnk.silentEntries := by
  unfold takeConflict; try dsimp only
  (repeat' split) <;> simp
@[simp] theorem takeConflict_ssu_own (s : State) : (takeConflict s).ssu.own = s.ssu.own := by
  unfold takeConflict; try dsimp only
  (repeat' split) <;> simp
@[simp] theorem takeConflict_ssu_cause (s : State) : (takeConflict s).ssu.cause = s.ssu.cause := by
  unfold takeConflict; try dsimp only
  (repeat' split) <;> simp
@[simp] theorem takeConflict_ssu_imageStatus (s : State) : (takeConflict s).ssu.imageStatus = s.ssu.imageStatus := by
  unfold takeConflict; try dsimp only
  (repeat' split) <;> simp
@[simp] theorem takeConflict_ssu_auditGood (s : State) : (takeConflict s).ssu.auditGood = s.ssu.auditGood := by
  unfold takeConflict; try dsimp only
  (repeat' split) <;> simp
@[simp] theorem takeConflict_ssu_snapshot (s : State) : (takeConflict s).ssu.snapshot = s.ssu.snapshot := by
  unfold takeConflict; try dsimp only
  (repeat' split) <;> simp
@[simp] theorem takeConflict_ssu_saveOwed (s : State) : (takeConflict s).ssu.saveOwed = s.ssu.saveOwed := by
  unfold takeConflict; try dsimp only
  (repeat' split) <;> simp
@[simp] theorem takeConflict_ssu_lastSave (s : State) : (takeConflict s).ssu.lastSave = s.ssu.lastSave := by
  unfold takeConflict; try dsimp only
  (repeat' split) <;> simp
@[simp] theorem takeConflict_ssu_auditArea (s : State) : (takeConflict s).ssu.auditArea = s.ssu.auditArea := by
  unfold takeConflict; try dsimp only
  (repeat' split) <;> simp
@[simp] theorem noteSource_pending (src : Station) (s : State) : (noteSource src s).pending = s.pending := by
  unfold noteSource; try dsimp only
  (repeat' split) <;> simp
@[simp] theorem noteSource_due (src : Station) (s : State) : (noteSource src s).due = s.due := by
  unfold noteSource; try dsimp only
  (repeat' split) <;> simp
@[simp] theorem noteSource_phase (src : Station) (s : State) : (noteSource src s).phase = s.phase := by
  unfold noteSource; try dsimp only
  (repeat' split) <;> simp
@[simp] theorem noteSource_inputs (src : Station) (s : State) : (noteSource src s).inputs = s.inputs := by
  unfold noteSource; try dsimp only
  (repeat' split) <;> simp
@[simp] theorem noteSource_outputs (src : Station) (s : State) : (noteSource src s).outputs = s.outputs := by
  unfold noteSource; try dsimp only
  (repeat' split) <;> simp
@[simp] theorem noteSource_params (src : Station) (s : State) : (noteSource src s).params = s.params := by
  unfold noteSource; try dsimp only
  (repeat' split) <;> simp
@[simp] theorem noteSource_cnu (src : Station) (s : State) : (noteSource src s).cnu = s.cnu := by
  unfold noteSource; try dsimp only
  (repeat' split) <;> simp
@[simp] theorem noteSource_cru (src : Station) (s : State) : (noteSource src s).cru = s.cru := by
  unfold noteSource; try dsimp only
  (repeat' split) <;> simp
@[simp] theorem noteSource_cca (src : Station) (s : State) : (noteSource src s).cca = s.cca := by
  unfold noteSource; try dsimp only
  (repeat' split) <;> simp
@[simp] theorem noteSource_vsq (src : Station) (s : State) : (noteSource src s).vsq = s.vsq := by
  unfold noteSource; try dsimp only
  (repeat' split) <;> simp
@[simp] theorem noteSource_mxd (src : Station) (s : State) : (noteSource src s).mxd = s.mxd := by
  unfold noteSource; try dsimp only
  (repeat' split) <;> simp
@[simp] theorem noteSource_rfc (src : Station) (s : State) : (noteSource src s).rfc = s.rfc := by
  unfold noteSource; try dsimp only
  (repeat' split) <;> simp
@[simp] theorem noteSource_ssu (src : Station) (s : State) : (noteSource src s).ssu = s.ssu := by
  unfold noteSource; try dsimp only
  (repeat' split) <;> simp
@[simp] theorem noteSource_lbu_motor (src : Station) (s : State) : (noteSource src s).lbu.motor = s.lbu.motor := by
  unfold noteSource; try dsimp only
  (repeat' split) <;> simp
@[simp] theorem noteSource_lbu_compressor (src : Station) (s : State) : (noteSource src s).lbu.compressor = s.lbu.compressor := by
  unfold noteSource; try dsimp only
  (repeat' split) <;> simp
@[simp] theorem noteSource_lbu_heater (src : Station) (s : State) : (noteSource src s).lbu.heater = s.lbu.heater := by
  unfold noteSource; try dsimp only
  (repeat' split) <;> simp
@[simp] theorem noteSource_lbu_claimCounter (src : Station) (s : State) : (noteSource src s).lbu.claimCounter = s.lbu.claimCounter := by
  unfold noteSource; try dsimp only
  (repeat' split) <;> simp
@[simp] theorem noteSource_lbu_ignored (src : Station) (s : State) : (noteSource src s).lbu.ignored = s.lbu.ignored := by
  unfold noteSource; try dsimp only
  (repeat' split) <;> simp
@[simp] theorem noteSource_lbu_objectSum (src : Station) (s : State) : (noteSource src s).lbu.objectSum = s.lbu.objectSum := by
  unfold noteSource; try dsimp only
  (repeat' split) <;> simp
@[simp] theorem noteSource_lbu_agenda (src : Station) (s : State) : (noteSource src s).lbu.agenda = s.lbu.agenda := by
  unfold noteSource; try dsimp only
  (repeat' split) <;> simp
@[simp] theorem noteSource_lnk_state (src : Station) (s : State) : (noteSource src s).lnk.state = s.lnk.state := by
  unfold noteSource; try dsimp only
  (repeat' split) <;> simp
@[simp] theorem noteSource_lnk_queue (src : Station) (s : State) : (noteSource src s).lnk.queue = s.lnk.queue := by
  unfold noteSource; try dsimp only
  (repeat' split) <;> simp
@[simp] theorem noteSource_lnk_change (src : Station) (s : State) : (noteSource src s).lnk.change = s.lnk.change := by
  unfold noteSource; try dsimp only
  (repeat' split) <;> simp
@[simp] theorem noteSource_lnk_periodTimer (src : Station) (s : State) : (noteSource src s).lnk.periodTimer = s.lnk.periodTimer := by
  unfold noteSource; try dsimp only
  (repeat' split) <;> simp
@[simp] theorem noteSource_lnk_silentTimer (src : Station) (s : State) : (noteSource src s).lnk.silentTimer = s.lnk.silentTimer := by
  unfold noteSource; try dsimp only
  (repeat' split) <;> simp
@[simp] theorem noteSource_lnk_failures (src : Station) (s : State) : (noteSource src s).lnk.failures = s.lnk.failures := by
  unfold noteSource; try dsimp only
  (repeat' split) <;> simp
@[simp] theorem noteSource_lnk_unknownFrames (src : Station) (s : State) : (noteSource src s).lnk.unknownFrames = s.lnk.unknownFrames := by
  unfold noteSource; try dsimp only
  (repeat' split) <;> simp
@[simp] theorem noteSource_lnk_droppedFrames (src : Station) (s : State) : (noteSource src s).lnk.droppedFrames = s.lnk.droppedFrames := by
  unfold noteSource; try dsimp only
  (repeat' split) <;> simp
@[simp] theorem noteSource_lnk_silentEntries (src : Station) (s : State) : (noteSource src s).lnk.silentEntries = s.lnk.silentEntries := by
  unfold noteSource; try dsimp only
  (repeat' split) <;> simp
@[simp] theorem afterHearing_pending (b : Bool) (before : State) (s : State) : (afterHearing b before s).pending = s.pending := by
  unfold afterHearing; try dsimp only
  (repeat' split) <;> simp
@[simp] theorem afterHearing_due (b : Bool) (before : State) (s : State) : (afterHearing b before s).due = s.due := by
  unfold afterHearing; try dsimp only
  (repeat' split) <;> simp
@[simp] theorem afterHearing_phase (b : Bool) (before : State) (s : State) : (afterHearing b before s).phase = s.phase := by
  unfold afterHearing; try dsimp only
  (repeat' split) <;> simp
@[simp] theorem afterHearing_inputs (b : Bool) (before : State) (s : State) : (afterHearing b before s).inputs = s.inputs := by
  unfold afterHearing; try dsimp only
  (repeat' split) <;> simp
@[simp] theorem afterHearing_outputs (b : Bool) (before : State) (s : State) : (afterHearing b before s).outputs = s.outputs := by
  unfold afterHearing; try dsimp only
  (repeat' split) <;> simp
@[simp] theorem afterHearing_params (b : Bool) (before : State) (s : State) : (afterHearing b before s).params = s.params := by
  unfold afterHearing; try dsimp only
  (repeat' split) <;> simp
@[simp] theorem afterHearing_cnu (b : Bool) (before : State) (s : State) : (afterHearing b before s).cnu = s.cnu := by
  unfold afterHearing; try dsimp only
  (repeat' split) <;> simp
@[simp] theorem afterHearing_cru (b : Bool) (before : State) (s : State) : (afterHearing b before s).cru = s.cru := by
  unfold afterHearing; try dsimp only
  (repeat' split) <;> simp
@[simp] theorem afterHearing_cca (b : Bool) (before : State) (s : State) : (afterHearing b before s).cca = s.cca := by
  unfold afterHearing; try dsimp only
  (repeat' split) <;> simp
@[simp] theorem afterHearing_vsq (b : Bool) (before : State) (s : State) : (afterHearing b before s).vsq = s.vsq := by
  unfold afterHearing; try dsimp only
  (repeat' split) <;> simp
@[simp] theorem afterHearing_mxd (b : Bool) (before : State) (s : State) : (afterHearing b before s).mxd = s.mxd := by
  unfold afterHearing; try dsimp only
  (repeat' split) <;> simp
@[simp] theorem afterHearing_rfc (b : Bool) (before : State) (s : State) : (afterHearing b before s).rfc = s.rfc := by
  unfold afterHearing; try dsimp only
  (repeat' split) <;> simp
@[simp] theorem afterHearing_ssu (b : Bool) (before : State) (s : State) : (afterHearing b before s).ssu = s.ssu := by
  unfold afterHearing; try dsimp only
  (repeat' split) <;> simp
@[simp] theorem afterHearing_lbu_peers (b : Bool) (before : State) (s : State) : (afterHearing b before s).lbu.peers = s.lbu.peers := by
  unfold afterHearing; try dsimp only
  (repeat' split) <;> simp
@[simp] theorem afterHearing_lbu_ignored (b : Bool) (before : State) (s : State) : (afterHearing b before s).lbu.ignored = s.lbu.ignored := by
  unfold afterHearing; try dsimp only
  (repeat' split) <;> simp
@[simp] theorem afterHearing_lbu_objectSum (b : Bool) (before : State) (s : State) : (afterHearing b before s).lbu.objectSum = s.lbu.objectSum := by
  unfold afterHearing; try dsimp only
  (repeat' split) <;> simp
@[simp] theorem afterHearing_lnk_state (b : Bool) (before : State) (s : State) : (afterHearing b before s).lnk.state = s.lnk.state := by
  unfold afterHearing; try dsimp only
  (repeat' split) <;> simp
@[simp] theorem afterHearing_lnk_heard (b : Bool) (before : State) (s : State) : (afterHearing b before s).lnk.heard = s.lnk.heard := by
  unfold afterHearing; try dsimp only
  (repeat' split) <;> simp
@[simp] theorem afterHearing_lnk_acknowledged (b : Bool) (before : State) (s : State) : (afterHearing b before s).lnk.acknowledged = s.lnk.acknowledged := by
  unfold afterHearing; try dsimp only
  (repeat' split) <;> simp
@[simp] theorem afterHearing_lnk_isolationTimer (b : Bool) (before : State) (s : State) : (afterHearing b before s).lnk.isolationTimer = s.lnk.isolationTimer := by
  unfold afterHearing; try dsimp only
  (repeat' split) <;> simp
@[simp] theorem afterHearing_lnk_silentTimer (b : Bool) (before : State) (s : State) : (afterHearing b before s).lnk.silentTimer = s.lnk.silentTimer := by
  unfold afterHearing; try dsimp only
  (repeat' split) <;> simp
@[simp] theorem afterHearing_lnk_failures (b : Bool) (before : State) (s : State) : (afterHearing b before s).lnk.failures = s.lnk.failures := by
  unfold afterHearing; try dsimp only
  (repeat' split) <;> simp
@[simp] theorem afterHearing_lnk_unknownFrames (b : Bool) (before : State) (s : State) : (afterHearing b before s).lnk.unknownFrames = s.lnk.unknownFrames := by
  unfold afterHearing; try dsimp only
  (repeat' split) <;> simp
@[simp] theorem afterHearing_lnk_droppedFrames (b : Bool) (before : State) (s : State) : (afterHearing b before s).lnk.droppedFrames = s.lnk.droppedFrames := by
  unfold afterHearing; try dsimp only
  (repeat' split) <;> simp
@[simp] theorem afterHearing_lnk_silentEntries (b : Bool) (before : State) (s : State) : (afterHearing b before s).lnk.silentEntries = s.lnk.silentEntries := by
  unfold afterHearing; try dsimp only
  (repeat' split) <;> simp

end Sys2Proof.Machine.Laws
end

