-- ==== Sys2Proof/Laws/Ops.lean ====
section
/-! SUPPORT. One lemma per shared operation that says everything it can do: requests of the transmit queue, the tests of a load
record, the version, DEBIT and SETTLE, the coin step, the averages and one event. Proofs cite these and unfold
nothing. The lemmas about the fields an operation leaves alone are in the Frames files. -/

namespace Sys2Proof.Machine

/-! ### Time -/

@[simp] theorem elapse_zero (s : State) : elapse 0 s = s := rfl

theorem elapse_running {d : Nat} {s : State} (hd : d ≠ 0) (h : s.phase ≠ .heldOff) : elapse d s = advance d s := by
  cases d with
  | zero => exact absurd rfl hd
  | succ n => simp [elapse, h]

theorem elapse_cases (d : Nat) (s : State) : elapse d s = s ∨ elapse d s = advance d s := by
  cases d with
  | zero => exact .inl rfl
  | succ n => by_cases h : s.phase = .heldOff <;> simp [elapse, h]

theorem reach_eq (limit now : Nat) (s : State) : reach limit now s = elapse (limit - now) s := rfl

/-! ### The transmit queue (R168) -/

/-- R168: a request leaves the state as it is, joins a waiting frame, or takes a free place at the tail. -/
theorem request_cases (f : Frame) (s : State) :
    (request f s = (s, false) ∧ (listenOnly s = true ∨ 8 ≤ s.lnk.queue.length)) ∨
      (request f s =
          (s.modLnk fun l => { l with queue := l.queue.map fun e => if e.waits f then { e with attempts := 0 } else e }, true) ∧
        listenOnly s = false ∧ superseding f = true ∧ s.lnk.queue.any (TxEntry.waits f) = true) ∨
      (request f s = (s.modLnk fun l => { l with queue := l.queue ++ [TxEntry.fresh f] }, true) ∧ listenOnly s = false ∧
        s.lnk.queue.length < 8 ∧ (superseding f && s.lnk.queue.any (TxEntry.waits f)) = false) := by
  unfold request
  cases hl : listenOnly s
  · cases hb : superseding f && s.lnk.queue.any (TxEntry.waits f)
    · by_cases hq : s.lnk.queue.length < 8
      · exact .inr (.inr ⟨by simp [hq, Config.queuePlaces], rfl, hq, rfl⟩)
      · exact .inl ⟨by simp [hq, Config.queuePlaces], .inr (Nat.le_of_not_lt hq)⟩
    · have h := hb
      rw [Bool.and_eq_true] at h
      exact .inr (.inl ⟨by simp, rfl, h.1, h.2⟩)
  · exact .inl ⟨by simp, .inl rfl⟩

/-- A request for a frame that does not supersede, with a free place: it is queued at the tail. -/
theorem request_fresh {f : Frame} {s : State} (hl : listenOnly s = false) (hf : superseding f = false)
    (hq : s.lnk.queue.length < 8) :
    request f s = (s.modLnk fun l => { l with queue := l.queue ++ [TxEntry.fresh f] }, true) := by
  simp [request, hl, hf, hq, Config.queuePlaces]

theorem send_fresh {f : Frame} {s : State} (hl : listenOnly s = false) (hf : superseding f = false)
    (hq : s.lnk.queue.length < 8) : send f s = s.modLnk fun l => { l with queue := l.queue ++ [TxEntry.fresh f] } := by
  simp [send, request_fresh hl hf hq]

/-- In LISTEN-ONLY nothing is queued. -/
theorem request_listenOnly {f : Frame} {s : State} (hl : listenOnly s = true) : request f s = (s, false) := by
  simp [request, hl]

/-- The queue never grows past its 8 places by a request. -/
theorem request_length {f : Frame} {s : State} (h : s.lnk.queue.length ≤ 8) : (request f s).1.lnk.queue.length ≤ 8 := by
  rcases request_cases f s with ⟨e, _⟩ | ⟨e, _⟩ | ⟨e, _, hq, _⟩ <;> rw [e]
  · exact h
  · simpa [State.modLnk] using h
  · simp [State.modLnk]; omega

/-! ### Load records (R153) -/

@[simp] theorem modLoad_load (k : LoadKind) (f : OwnLoad → OwnLoad) (s : State) :
    (modLoad k f s).lbu.load k = f (s.lbu.load k) := by cases k <;> rfl

theorem modLoad_other {j k : LoadKind} (h : j ≠ k) (f : OwnLoad → OwnLoad) (s : State) :
    (modLoad k f s).lbu.load j = s.lbu.load j := by cases j <;> cases k <;> first | rfl | exact absurd rfl h

/-- R153, R161: what a test of a record can do. -/
theorem testOne_cases (k : LoadKind) (s : State) :
    (testOne k s = s ∧ ((s.lbu.load k).state ≠ .waiting ∨ (isolated s = false ∧ (s.lbu.load k).heldOff = true))) ∨
      (testOne k s = grantLoad k s ∧ (s.lbu.load k).state = .waiting ∧ isolated s = true ∧ fitsSolo k s = true) ∨
      (testOne k s = queueClaim k s ∧ (s.lbu.load k).state = .waiting ∧ isolated s = false ∧ fits k s = true) ∨
      (testOne k s = modLoad k (fun l => { l with metFull := false }) s ∧ (s.lbu.load k).state = .waiting) := by
  unfold testOne
  by_cases h1 : (s.lbu.load k).state = .waiting
  · by_cases h2 : isolated s = true
    · by_cases h3 : fitsSolo k s = true <;> simp [h1, h2, h3]
    · by_cases h4 : (s.lbu.load k).heldOff = true
      · simp [h1, h2, h4]
      · by_cases h5 : fits k s = true <;> simp [h1, h2, h4, h5]
  · simp [h1]

/-- R153: a record that is not WAITING is not tested. -/
theorem testOne_settled {k : LoadKind} {s : State} (h : (s.lbu.load k).state ≠ .waiting) : testOne k s = s := by
  simp [testOne, h]

/-- R153, R161: a record is tested alone, or by its grant the own total has changed and the others are tested after it. -/
theorem testRecord_cases (k : LoadKind) (s : State) :
    (ownTotal (testOne k s) = ownTotal s ∧ testRecord k s = testOne k s) ∨
      (ownTotal (testOne k s) ≠ ownTotal s ∧ testRecord k s = testOthers k (testOne k s)) := by
  unfold testRecord
  by_cases h : ownTotal (testOne k s) = ownTotal s <;> simp [h]

/-- With no other record WAITING none is tested. -/
theorem testOthers_settled {k : LoadKind} {s : State} (h : ∀ j, j ≠ k → (s.lbu.load j).state ≠ .waiting) :
    testOthers k s = s := by
  have same (j : LoadKind) (hj : j ≠ k) : testOne j s = s := testOne_settled (h j hj)
  cases k <;> simp [testOthers, same]

/-- With no record WAITING, testing the waiting ones changes nothing. -/
theorem testWaiting_settled {s : State} (h : ∀ k, (s.lbu.load k).state ≠ .waiting) : testWaiting s = s := by
  simp [testWaiting, testOne_settled (h _)]

/-- R154: a record that is not QUEUED is not tested again. -/
theorem retestQueued_settled {k : LoadKind} {s : State} (h : (s.lbu.load k).state ≠ .queued) : retestQueued k s = s := by
  simp [retestQueued, h]

theorem clearHeldOff_settled {s : State} (h : ∀ k, (s.lbu.load k).heldOff = false) : clearHeldOff s = s := by
  have free : ∀ l : OwnLoad, l.heldOff = false → { l with heldOff := false } = l := by
    intro l hl; cases l; subst hl; rfl
  have h1 : { s.lbu.motor with heldOff := false } = s.lbu.motor := free _ (h .motor)
  have h2 : { s.lbu.compressor with heldOff := false } = s.lbu.compressor := free _ (h .compressor)
  have h3 : { s.lbu.heater with heldOff := false } = s.lbu.heater := free _ (h .heater)
  simp only [clearHeldOff, State.modLbu, h1, h2, h3]

/-- R150, R153: with no own record WAITING, QUEUED or held off a changed table changes nothing more. -/
theorem tableChanged_settled {s : State} (h : LoadsSettled s) : tableChanged s = s := by
  have e1 := clearHeldOff_settled fun k => (h k).2.2
  unfold tableChanged
  rw [e1, retestQueued_settled (h _).2.1, retestQueued_settled (h _).2.1, retestQueued_settled (h _).2.1,
    testWaiting_settled fun k => (h k).1]

theorem afterTable_settled {before s : State} (h : LoadsSettled s) : afterTable before s = s := by
  unfold afterTable; split <;> simp [tableChanged_settled h]

/-! ### The credit session -/

/-- R35, R38: the version rises once in an event. -/
theorem raiseVersion_raised {s : State} (h : s.cru.versionRaised = true) : raiseVersion s = s := by simp [raiseVersion, h]

/-- R39, R168: asking for a CREDIT touches the queue, the refresh timer and the owed condition alone. -/
theorem queueCredit_session (s : State) : (queueCredit s).cru.session = s.cru.session := by simp

/-- R35, R38: the session after a raise. -/
theorem raiseVersion_session (s : State) :
    (raiseVersion s).cru.session =
      if s.cru.versionRaised then s.cru.session else { s.cru.session with version := s.cru.session.version + 1 } := by
  unfold raiseVersion; split <;> simp [State.modCru]

/-- R42: the checks decide; only a new grant changes anything. -/
theorem takeDebit_cases (r : Station) (n : Byte) (a : Nat) (tag : Byte) (x : Option Half) (s : State) :
    (debitCheck r n a tag x s = .granted ∧ s.cru.session.hold = none ∧
        takeDebit r n a tag x s = (grantDebit r a tag s, debitReply .granted (grantDebit r a tag s))) ∨
      ((debitCheck r n a tag x s ≠ .granted ∨ s.cru.session.hold ≠ none) ∧
        takeDebit r n a tag x s = (s, debitReply (debitCheck r n a tag x s) s)) := by
  unfold takeDebit
  by_cases h : debitCheck r n a tag x s = .granted ∧ s.cru.session.hold = none
  · exact .inl ⟨h.1, h.2, by simp [h]⟩
  · refine .inr ⟨?_, by simp [h]⟩
    by_cases h1 : debitCheck r n a tag x s = .granted
    · exact .inr fun h2 => h ⟨h1, h2⟩
    · exact .inl h1

/-- R48, R50: a settlement ends the hold or changes nothing. -/
theorem takeSettle_cases (r : Station) (tag n : Byte) (res : SettleResult) (s : State) :
    (settleMatches r tag n s = true ∧ takeSettle r tag n res s = (afterSettle res (endHold res s), .ok)) ∨
      (settleMatches r tag n s = false ∧ takeSettle r tag n res s = (s, unmatchedAnswer r tag s)) := by
  unfold takeSettle
  by_cases h : settleMatches r tag n s = true <;> simp [h]

/-- R48: what a matching settlement matches. -/
theorem settleMatches_iff (r : Station) (tag n : Byte) (s : State) :
    settleMatches r tag n s = true ↔
      ∃ h, s.cru.session.hold = some h ∧ h.requester = r ∧ h.tag = tag ∧ n = s.cru.session.number := by
  unfold settleMatches
  cases hh : s.cru.session.hold <;> simp [and_assoc]

/-- R62, R67, R68: a coin step completes the payout, pulses the tube the plan names, or ends the payout short. -/
theorem coinStep_cases (s : State) :
    (s.cru.session.balance = 0 ∧ coinStep s = payoutComplete s) ∨
      (∃ i, nextTube s s.cru.session.balance = some i ∧ coinStep s = pulse i 1 s) ∨
      (s.cru.session.balance ≠ 0 ∧ nextTube s s.cru.session.balance = none ∧ coinStep s = payoutShort s) := by
  unfold coinStep
  by_cases h : s.cru.session.balance = 0
  · simp [h]
  · cases hn : nextTube s s.cru.session.balance <;> simp [h]

/-! ### The motor and the vend -/

/-- TABLE 7-2: an all-off latch takes a pair only under a HELD MOTOR record. -/
theorem transferOf_latched {l st : Option Pair} {b : Bool} {p : Pair} (h : transferOf l st b = .latched p) :
    l = none ∧ st = some p ∧ b = true := by
  unfold transferOf at h
  split at h <;> first | (split at h <;> simp_all) | simp_all

/-- R109: a vend leaves SETTLING, or nothing happens. -/
theorem tryLeave_cases (s : State) :
    tryLeave s = s ∨
      ∃ v, s.vsq.vend = some v ∧ s.vsq.state = .settling ∧ v.settled = true ∧ s.lbu.motor.state = .none ∧
        tryLeave s =
          signal .takeHead
            ((answerPanel v.selection (v.outcome.getD .aborted) v.price s).modVsq fun q =>
              { q with vend := none, state := .idle }) := by
  unfold tryLeave
  cases hv : s.vsq.vend with
  | none => simp
  | some v =>
    by_cases h : s.vsq.state = .settling ∧ v.settled = true ∧ s.lbu.motor.state = .none
    · exact .inr ⟨v, rfl, h.1, h.2.1, h.2.2, by simp [h]⟩
    · exact .inl (by simp [h])

/-- R102: a cam pulse of a vend's motor that turns its own latched pair lowers the counter and stops the motor at home; any
other changes nothing. -/
theorem takeCamPulse_vend {v : Vend} {s : State} (hv : s.vsq.vend = some v) :
    takeCamPulse s =
      if v.motorOn = true ∧ s.mxd.latch = some (pairOf v.selection.slot) then
        let s1 := modVend (fun v => { v with pulses := v.pulses - 1, jamTimer := some 0 }) s
        if v.pulses - 1 = 0 then
          if v.dropSeen then decideOutcome .vended .runEnd (stopMotor s1) else enterDropWait (stopMotor s1)
        else s1
      else s := by
  unfold takeCamPulse; rw [hv]

/-! ### One event -/

theorem event_next (f : State → State) (s : State) : event f s = .next (refreshOutputs (f (openEvent s))) := rfl

@[simp] theorem refreshOutputs_outputs (s : State) : (refreshOutputs s).outputs = outputsOf s := rfl

@[simp] theorem openEvent_agenda (s : State) : (openEvent s).lbu.agenda = [] := rfl
@[simp] theorem openEvent_versionRaised (s : State) : (openEvent s).cru.versionRaised = false := rfl

/-- With no signal left, the agenda changes nothing. -/
theorem runAgenda_nil {s : State} (h : s.lbu.agenda = []) : runAgenda s = s := by simp [runAgenda, runAgendaFor, h]

/-- A signal left first is taken first. -/
theorem runAgendaFor_cons {n : Nat} {s : State} {g : Signal} {rest : List Signal} (h : s.lbu.agenda = g :: rest) :
    runAgendaFor (n + 1) s = runAgendaFor n (takeSignal g (s.modLbu fun b => { b with agenda := rest })) := by
  simp [runAgendaFor, h]

/-! ### The acknowledgement slot (R164) -/

@[simp] theorem acknowledge_acknowledged (b : Bool) (s : State) : (acknowledge b s).lnk.acknowledged = b := rfl
@[simp] theorem acknowledge_pending (b : Bool) (s : State) : (acknowledge b s).pending = s.pending := rfl
@[simp] theorem acknowledge_due (b : Bool) (s : State) : (acknowledge b s).due = s.due := rfl
@[simp] theorem acknowledge_phase (b : Bool) (s : State) : (acknowledge b s).phase = s.phase := rfl
@[simp] theorem acknowledge_inputs (b : Bool) (s : State) : (acknowledge b s).inputs = s.inputs := rfl
@[simp] theorem acknowledge_outputs (b : Bool) (s : State) : (acknowledge b s).outputs = s.outputs := rfl
@[simp] theorem acknowledge_params (b : Bool) (s : State) : (acknowledge b s).params = s.params := rfl
@[simp] theorem acknowledge_cnu (b : Bool) (s : State) : (acknowledge b s).cnu = s.cnu := rfl
@[simp] theorem acknowledge_cru (b : Bool) (s : State) : (acknowledge b s).cru = s.cru := rfl
@[simp] theorem acknowledge_cca (b : Bool) (s : State) : (acknowledge b s).cca = s.cca := rfl
@[simp] theorem acknowledge_vsq (b : Bool) (s : State) : (acknowledge b s).vsq = s.vsq := rfl
@[simp] theorem acknowledge_mxd (b : Bool) (s : State) : (acknowledge b s).mxd = s.mxd := rfl
@[simp] theorem acknowledge_rfc (b : Bool) (s : State) : (acknowledge b s).rfc = s.rfc := rfl
@[simp] theorem acknowledge_lbu (b : Bool) (s : State) : (acknowledge b s).lbu = s.lbu := rfl
@[simp] theorem acknowledge_ssu (b : Bool) (s : State) : (acknowledge b s).ssu = s.ssu := rfl
@[simp] theorem acknowledge_lnk_state (b : Bool) (s : State) : (acknowledge b s).lnk.state = s.lnk.state := rfl
@[simp] theorem acknowledge_lnk_queue (b : Bool) (s : State) : (acknowledge b s).lnk.queue = s.lnk.queue := rfl
@[simp] theorem acknowledge_lnk_heard (b : Bool) (s : State) : (acknowledge b s).lnk.heard = s.lnk.heard := rfl
@[simp] theorem acknowledge_lnk_isolationTimer (b : Bool) (s : State) : (acknowledge b s).lnk.isolationTimer = s.lnk.isolationTimer := rfl
@[simp] theorem acknowledge_lnk_change (b : Bool) (s : State) : (acknowledge b s).lnk.change = s.lnk.change := rfl
@[simp] theorem acknowledge_lnk_periodTimer (b : Bool) (s : State) : (acknowledge b s).lnk.periodTimer = s.lnk.periodTimer := rfl
@[simp] theorem acknowledge_lnk_silentTimer (b : Bool) (s : State) : (acknowledge b s).lnk.silentTimer = s.lnk.silentTimer := rfl
@[simp] theorem acknowledge_lnk_failures (b : Bool) (s : State) : (acknowledge b s).lnk.failures = s.lnk.failures := rfl
@[simp] theorem acknowledge_lnk_unknownFrames (b : Bool) (s : State) : (acknowledge b s).lnk.unknownFrames = s.lnk.unknownFrames := rfl
@[simp] theorem acknowledge_lnk_droppedFrames (b : Bool) (s : State) : (acknowledge b s).lnk.droppedFrames = s.lnk.droppedFrames := rfl
@[simp] theorem acknowledge_lnk_silentEntries (b : Bool) (s : State) : (acknowledge b s).lnk.silentEntries = s.lnk.silentEntries := rfl

/-- R164, R171: everything a good frame can meet: nothing before the enabling, the conflict with the own number as source,
and otherwise the acknowledgement, which is driven exactly while the link is ACTIVE, and then the delivery. -/
theorem hearWith_cases (src : Station) (act : State → State) (listed : Bool) (deliver : State → State) (s : State) :
    (s.phase = .heldOff ∧ hearWith src act listed deliver s = s) ∨
      (s.phase ≠ .heldOff ∧ src = s.ssu.own ∧
        hearWith src act listed deliver s = takeConflict (acknowledge false s)) ∨
      (s.phase ≠ .heldOff ∧ src ≠ s.ssu.own ∧
        hearWith src act listed deliver s =
          runAgenda (deliver (hearAtLbu src act listed (acknowledge (s.lnk.state == .active) s)))) := by
  unfold hearWith heardOwnNumber
  by_cases h : s.phase = .heldOff
  · exact .inl ⟨h, by simp [h]⟩
  · by_cases g : src = s.ssu.own <;> simp [h, g]

/-! ### Peers -/

theorem find_of_listed {l : List Peer} {src : Station} (h : ∃ e ∈ l, e.station = src) :
    ∃ e, (l.find? fun e => e.station == src) = some e := by
  have : (l.find? fun e => e.station == src).isSome = true := by
    rw [List.find?_isSome]; obtain ⟨e, he, hs⟩ := h; exact ⟨e, he, by simp [hs]⟩
  exact Option.isSome_iff_exists.mp this

/-! ### Hearing and answering the tool -/

/-- R168, R169: a STATUS asked for, spelled out. -/
theorem queueStatus_eq (s : State) : queueStatus s = statusAsked s := by
  have e : (s.lnk.queue.any (TxEntry.waits .status)) = s.lnk.queue.any fun e => decide (e.frame = .status ∧ e.onBus = none) := by
    congr 1; funext e; unfold TxEntry.waits; cases h : e.onBus <;> simp [beq_eq_decide]
  have m (e : TxEntry) : e.waits .status = decide (e.frame = .status ∧ e.onBus = none) := by
    unfold TxEntry.waits; cases h : e.onBus <;> simp [beq_eq_decide]
  unfold queueStatus statusAsked request listenOnly superseding
  by_cases h : s.lnk.state = .listenOnly
  · simp [h]
  · by_cases g : (s.lnk.queue.any fun e => decide (e.frame = .status ∧ e.onBus = none)) = true
    · simp only [beq_iff_eq, h, if_false, e, Bool.true_and, g, if_true, State.modLnk, m]
    · simp only [beq_iff_eq, h, if_false, e, Bool.true_and, g, State.modLnk, Config.queuePlaces]
      by_cases f : s.lnk.queue.length < 8 <;> simp [f]

/-- R168, R177: the answer to the tool, spelled out. -/
theorem answerTool_eq (tag : Byte) (r : ServiceResult) (data : List Byte) (s : State) :
    answerTool tag r data s = answered tag r data s := by
  unfold answerTool toolStation send request listenOnly superseding answered withAnswer
  by_cases h : s.lnk.state = .listenOnly
  · simp [h]
  · by_cases f : s.lnk.queue.length < 8 <;> simp [h, f, State.modLnk, Config.queuePlaces]

/-- R148: the source of a good frame is noted: its entry LIVE with age 0, or a new one in its place. -/
theorem notePeer_peers (src : Station) (s : State) :
    (notePeer src s).lbu.peers =
      if s.lbu.peers.any (fun e => e.station == src) = true then
        s.lbu.peers.map fun e => if e.station = src then { e with age := 0, live := true } else e
      else insertPeer (newPeer src) s.lbu.peers := by
  unfold notePeer peerAt
  have e : (s.lbu.peers.any fun e => e.station == src) = (s.lbu.peers.find? fun e => e.station == src).isSome := by
    rw [Bool.eq_iff_iff, List.find?_isSome, List.any_eq_true]
  rw [e]
  cases h : s.lbu.peers.find? (fun e => e.station == src) <;> simp [modPeer, State.modLbu]

theorem notePeer_eq (src : Station) (s : State) :
    notePeer src s = { s with lbu := { s.lbu with peers := (notePeer src s).lbu.peers } } := by
  unfold notePeer; cases peerAt src s <;> rfl

/-- R150: the peer load table stands as it stood when a known, LIVE station is heard. -/
theorem tableKey_noteSource {src : Station} {s : State} (h : ∃ e ∈ s.lbu.peers, e.station = src)
    (l : ∀ e ∈ s.lbu.peers, e.station = src → e.live = true) : tableKey (noteSource src s) = tableKey s := by
  have a : (s.lbu.peers.any fun e => e.station == src) = true := by
    obtain ⟨e, he, hs⟩ := h; exact List.any_eq_true.mpr ⟨e, he, by simp [hs]⟩
  unfold tableKey noteSource
  rw [notePeer_peers]
  simp only [State.modLnk, a, if_true, List.map_map]
  apply List.map_congr_left
  intro e he
  by_cases g : e.station = src
  · have := l e he g
    simp [g, countedTotal, this, soloAllowance]
  · simp [g, countedTotal, soloAllowance]

/-- R164, R148, R170: a good frame at a station that `Hears` describes, up to its delivery. -/
theorem hear_hearing {src : Station} {s : State} (h : Hears src s) (deliver : State → State) :
    hear src deliver (openEvent s) = runAgenda (deliver (hearing src s)) := by
  let v := acknowledge (s.lnk.state == .active) (openEvent s)
  let w := noteSource src v
  have hw : w =
      { openEvent s with
        lbu :=
          { s.lbu with
            peers :=
              if s.lbu.peers.any (fun e => e.station == src) = true then
                s.lbu.peers.map fun e => if e.station = src then { e with age := 0, live := true } else e
              else insertPeer (newPeer src) s.lbu.peers
            agenda := [] }
        lnk := { s.lnk with heard := true, isolationTimer := 0, acknowledged := s.lnk.state == .active } } := by
    show notePeer src _ = _
    rw [notePeer_eq, notePeer_peers]; rfl
  have settled (l : LoadsSettled s) : LoadsSettled w := by
    intro k; have := l k; rw [hw]; cases k <;> exact this
  have key : afterHearing false v w = hearing src s := by
    have iv : isolated v = (!s.lnk.heard || s.lnk.state != .active) := rfl
    have iw : isolated w = (s.lnk.state != .active) := by rw [hw]; rfl
    unfold afterHearing hearing
    rw [← hw]
    by_cases c : s.lnk.heard = false ∧ s.lnk.state = .active
    · have l : LoadsSettled w := settled (h.untested.resolve_right fun k => k.2.2.elim (by simp [c.1]) (by simp [c.2]))
      have e : leaveIsolated w = w := by
        unfold leaveIsolated
        rw [clearHeldOff_settled fun k => (l k).2.2, testWaiting_settled fun k => (l k).1]
      simp [noteIsolation, iv, iw, c.1, c.2, e, queueStatus_eq]
    · have i : isolated w = isolated v := by
        rw [iv, iw]; cases g : s.lnk.heard <;> cases f : s.lnk.state <;> simp_all
      simp only [i, if_true, c, if_false, Bool.false_eq_true]
      rcases h.untested with l | ⟨l1, l2, -⟩
      · exact afterTable_settled (settled l)
      · exact if_pos (tableKey_noteSource (s := v) l1 l2)
  have agenda : (hearing src s).lbu.agenda = [] := by
    unfold hearing statusAsked; simp only []; repeat' split
    all_goals rfl
  show hearWith src id false deliver (openEvent s) = _
  unfold hearWith
  rw [if_neg (show (openEvent s).phase ≠ .heldOff from h.receiving), if_neg (show src ≠ (openEvent s).ssu.own from h.other)]
  show runAgenda (deliver (runAgenda (afterHearing false v w))) = _
  rw [key, runAgenda_nil agenda]

theorem hearing_own (src : Station) (s : State) : (hearing src s).ssu = s.ssu := by
  unfold hearing statusAsked; simp only []; repeat' split
  all_goals rfl

/-- R164, R177: a request of the tool to this station reaches its act in the state that hearing it leaves. -/
theorem serve_hearing {tag : Byte} {s : State} (h : Hears 15 s) (o : s.ssu.own ≠ 0) (f : State → State) :
    serve ⟨15, s.ssu.own, tag⟩ f (openEvent s) = runAgenda (f (hearing 15 s)) := by
  unfold serve
  rw [hear_hearing h]
  have n : ¬ s.ssu.own = 0#4 := o
  simp [directed, toolStation, hearing_own, n]

/-- A known station is heard as `heardFrom` says. -/
theorem Known.hears {src : Station} {s : State} (h : Known src s) : Hears src s ∧ hearing src s = heardFrom src s := by
  have i : s.lnk.heard = true ∧ s.lnk.state = .active := by
    have := h.together; simpa [isolated] using this
  refine ⟨⟨h.receiving, h.other, .inr ⟨h.listed, h.live, .inl i.1⟩⟩, ?_⟩
  have a : (s.lbu.peers.any fun e => e.station == src) = true := by
    obtain ⟨e, he, hs⟩ := h.listed; exact List.any_eq_true.mpr ⟨e, he, by simp [hs]⟩
  have m : (s.lbu.peers.map fun e => if e.station = src then { e with age := 0, live := true } else e) =
      s.lbu.peers.map fun e => if e.station = src then { e with age := 0 } else e := by
    apply List.map_congr_left
    intro e he
    by_cases g : e.station = src
    · rw [if_pos g, if_pos g, ← h.live e he g]
    · rw [if_neg g, if_neg g]
  unfold hearing heardFrom
  simp [i.1, i.2, a, m]

/-! ### A read of the image (R173, R174) -/

theorem goodImage_eq (p : ParamRead) : goodImage p = readImage p := by cases p <;> rfl

/-- R173: the parameters of a good image, spelled out. -/
theorem paramsOf_eq (i : Image) : paramsOf i = imageParams i := by
  have y (b : Byte) : isYes b = yes b := by unfold isYes yes; by_cases h : b = 0 <;> simp [bne, beq_eq_decide, h]
  have s : stallOf (max 1 (min 50 i.openThreshold)) i.stallThreshold =
      if max 1 (min 50 i.openThreshold) < max 5 (min 200 i.stallThreshold) then max 5 (min 200 i.stallThreshold)
      else max 1 (min 50 i.openThreshold) + 1 := by
    unfold stallOf clampNat
    by_cases h : max 5 (min 200 i.stallThreshold) ≤ max 1 (min 50 i.openThreshold)
    · rw [if_pos h, if_neg (by omega)]
    · rw [if_neg h, if_pos (by omega)]
  simp only [paramsOf, imageParams, idleTimeOf, clampNat, clampInt, y, s, Nat.mul_comm, Nat.zero_max]
  rfl

theorem noImageParams_eq : State.noImageParams = defaultParams := rfl

/-! ### The exact-change-only flag and the output lines -/

/-- R28: the two fields that the exact-change-only flag is made of stand after a re-evaluation, and the flag is their value. -/
theorem reevaluateExact_value (s : State) :
    (reevaluateExact s).cru.exactChangeOnly = exactChangeValue s ∧ (reevaluateExact s).cru.probeShort = s.cru.probeShort := by
  unfold reevaluateExact; split
  · exact ⟨Eq.symm ‹_›, rfl⟩
  · simp

/-- R28, R29: after a probe the law of the exact-change-only flag holds, whatever held before. -/
theorem exactLaw_probe (s : State) : ExactLaw (probe s) := by
  let u := s.modCru fun c => { c with probeShort := coinStation s && !planExact s s.params.probeAmount }
  have ep : (probe s).cru.probeShort = (coinStation s && !planExact s s.params.probeAmount) := (reevaluateExact_value u).2
  have ev : (probe s).cru.exactChangeOnly =
      (coinStation s && ((coinStation s && !planExact s s.params.probeAmount) || s.cru.session.changeShort)) :=
    (reevaluateExact_value u).1
  have e1 : (probe s).params = s.params := by simp [probe, State.modCru]
  have e2 : (probe s).ssu = s.ssu := by simp [probe, State.modCru]
  have e3 : (probe s).cru.session = s.cru.session := by simp [probe, State.modCru]
  have e4 : (probe s).cnu = s.cnu := by simp [probe, State.modCru]
  have en (n : Nat) : planExact (probe s) n = planExact s n := by simp only [planExact, tubeList, e4]
  constructor <;> simp [ep, ev, e1, e2, e3, en, coinStation, configured, and_assoc]
  · tauto

/-- R7, R130, R141: the lines as refreshed keep their law. -/
theorem outputsLaw_refresh (s : State) : OutputsLaw (refreshOutputs s) := by
  have h : outputsOf (refreshOutputs s) = outputsOf s := rfl
  constructor
  · rfl
  all_goals
    simp [refreshOutputs, outputsOf, outputsOn, configured, Rfc.compressorOn, doorOpen, and_assoc]

/-! ### Averages (R127 to R129) -/

/-- R127 to R129: the record after an average as the statements give it is the one the unit writes. -/
theorem averaged_eq_update (k : Sensor) (x : Vector (BitVec 10) 8) (s : State) :
    averaged k x s = { (sensorOf s.rfc k).update s.params.conversion (averageOf x) with period := 0 } := by
  unfold averaged SensorRecord.update averageOf codeInside runUp convert
  generalize sensorOf s.rfc k = r
  obtain ⟨st, av, rd, i, o, p⟩ := r
  simp only [Bool.and_eq_true, decide_eq_true_eq, Bool.or_eq_true, beq_iff_eq]
  split
  · by_cases h : 2 ≤ i
    · simp [h]
    · have : min 3 (i + 1) = i + 1 := by omega
      have h3 : i ≠ 2 := by omega
      by_cases hv : st = .valid <;> simp_all
  · by_cases h : 2 ≤ o
    · simp [h]
    · have : min 3 (o + 1) = o + 1 := by omega
      have h3 : o ≠ 2 := by omega
      simp_all

theorem averaged_average (k : Sensor) (x : Vector (BitVec 10) 8) (s : State) : (averaged k x s).average = averageOf x := by
  rw [averaged_eq_update]; unfold SensorRecord.update; split <;> rfl

/-- R127, R129: all that an average does: the sensor record, the cooling-fault flag, and what an event of the sensor reaches. -/
theorem takeAverage_eq (k : Sensor) (x : Vector (BitVec 10) 8) (s : State) :
    takeAverage k x (openEvent s) =
      if sensorEvent (sensorOf s.rfc k) (averaged k x s) (averageOf x) = true then
        sensorReaches k (followFault (coolingFault s) (averageTaken k x s))
      else followFault (coolingFault s) (averageTaken k x s) := by
  unfold takeAverage averageTaken
  rw [averaged_eq_update]
  rfl

/-- R129: when an average makes an event. -/
theorem sensorEvent_iff (k : Sensor) (x : Vector (BitVec 10) 8) (s : State) :
    sensorEvent (sensorOf s.rfc k) (averaged k x s) (averageOf x) = true ↔ MakesEvent k x s := by
  unfold sensorEvent MakesEvent codeInside
  simp only [averaged_average, Bool.or_eq_true, Bool.and_eq_true, decide_eq_true_eq, beq_iff_eq, bne_iff_ne]
  constructor
  · rintro (⟨⟨a, b⟩, c⟩ | h)
    · exact .inr ⟨c, a, b⟩
    · exact .inl (Ne.symm h)
  · rintro (h | ⟨c, a, b⟩)
    · exact .inr (Ne.symm h)
    · exact .inl ⟨⟨a, b⟩, c⟩

/-! ### The fit test (R151) -/

/-- R151: the fit test counts, beside the record, the others that are QUEUED or PROPOSED. -/
theorem fits_eq_beside (k : LoadKind) (s : State) : fits k s = fitsBeside (claiming s) k s := by
  unfold fits fitsBeside fitsAt fitSum otherClaims claiming OwnLoad.claimedAmount classOrder
  cases k <;> by_cases h1 : s.lbu.motor.state = .queued ∨ s.lbu.motor.state = .proposed <;>
    by_cases h2 : s.lbu.compressor.state = .queued ∨ s.lbu.compressor.state = .proposed <;>
    by_cases h3 : s.lbu.heater.state = .queued ∨ s.lbu.heater.state = .proposed <;> simp [h1, h2, h3, Lbu.load]

/-- R151: the fit test at the own total as it stands. -/
theorem fits_eq_at (k : LoadKind) (s : State) : fits k s = fitsAt (ownTotal s) (claiming s) k s := fits_eq_beside k s

/-! ### Requests and withdrawals (R152, R158) -/

/-- R152: a request on a record in NONE makes it WAITING and has it tested; on any other it changes nothing. -/
theorem askLoad_cases (k : LoadKind) (c : ClaimClass) (a : Nat) (s : State) :
    ((s.lbu.load k).state ≠ .none ∧ askLoad k c a s = s) ∨
      ((s.lbu.load k).state = .none ∧
        askLoad k c a s =
          testRecord k (modLoad k (fun l =>
            { l with
              state := .waiting, cls := c, amount := a, waitAge := 0, heldOff := false, metFull := false, window := none }) s)) := by
  unfold askLoad
  split
  · exact .inr ⟨‹_›, rfl⟩
  · exact .inl ⟨‹_›, rfl⟩

/-- R158: what a withdrawal does, by the record's state. -/
theorem withdrawLoad_cases (k : LoadKind) (s : State) :
    let l := s.lbu.load k
    (l.state = .none ∨ l.state = .held → withdrawLoad k s = s) ∧
      (l.state = .waiting → isolated s = false → withdrawLoad k s = clearLoad k s) ∧
      (l.state = .waiting → isolated s = true → withdrawLoad k s = testWaiting (clearLoad k s)) ∧
      (l.state = .queued → claimBegun k l.sequence s = false →
        withdrawLoad k s = testWaiting (clearLoad k (removeClaim k l.sequence s))) ∧
      ((l.state = .queued ∧ claimBegun k l.sequence s = true) ∨ l.state = .proposed →
        withdrawLoad k s = testWaiting (sendRelease k l.sequence (clearLoad k s))) := by
  refine ⟨?_, ?_, ?_, ?_, ?_⟩ <;> intro h <;> try intro i
  all_goals unfold withdrawLoad
  · obtain h | h := h <;> simp [h]
  · simp [h, i]
  · simp [h, i]
  · simp [h, i]
  · obtain ⟨h, i⟩ | h := h <;> simp [h, *]

end Sys2Proof.Machine
end

