-- ==== Sys2Proof/Tests/Slice0.lean ====
section
/-! SUPPORT. Tests: an ill-formed command for each check of WellFormed; frames written out bit by bit; worked examples of the
manual, one command at a time; and, for each statement of Obligations.lean, states and operands that meet its hypotheses. -/

namespace Sys2Proof.Tests

set_option Elab.async false

open Sys2Proof Sys2Proof.Machine

/-! ### What WellFormed refuses -/

/-- TABLE 10-1: the source of a frame is 1 to 15. -/
theorem test_refuses_source_zero : (Instr.unknownFrame 0).wellFormed = false := by decide

/-- TABLE 10-4: a SERVICE request comes from station 15. -/
theorem test_refuses_service_source : (Instr.auditClear ⟨4, 3, 1⟩ []).wellFormed = false := by decide

/-- TABLE 10-2: a SERVICE carries at most 10 argument bytes. -/
theorem test_refuses_long_service : (Instr.stateRead ⟨15, 3, 1⟩ (List.replicate 11 0)).wellFormed = false := by decide

/-- TABLE 10-3: load kind 0 is unused. -/
theorem test_refuses_load_kind_zero : (Instr.releaseReceived 5 0 0 1).wellFormed = false := by decide

/-- TABLE 10-2: no DEBIT-ANSWER carries a version without a balance. -/
theorem test_refuses_version_alone : (Instr.debitAnswerReceived 5 3 1 .stale none (some 4)).wellFormed = false := by decide

/-- TABLE 10-2: no VEND-STATUS carries a price and a position. -/
theorem test_refuses_price_and_position :
    (Instr.vendStatusReceived 5 3 1 .accepted (some 4) (some 1)).wellFormed = false := by decide

/-- A tube index is 1 to 5. -/
theorem test_refuses_tube_six : (Instr.levelSwitchChange 6 .full true).wellFormed = false := by decide

/-- R175: the first levels name five switches of each kind. -/
theorem test_refuses_four_switches :
    (Instr.powerUpReconciliation ⟨false, true, false, false, false, false, [true, true, true, true],
      List.replicate 5 false⟩).wellFormed = false := by decide

/-- TABLE 11-1: an image has six coin types. -/
theorem test_refuses_short_image :
    (Instr.powerUp 3 (.answered
      ⟨1, 1, 1, [], List.replicate 5 none, 1, 1, 0, 0, List.replicate 80 none, 10, 1, 1, 5, 0, 5, 60, 30, 10, 1, 1, 1, 0, 10, 1,
        0, 5, List.replicate 17 0, 10, 0, 1⟩ 0 0) .kept).wellFormed = false := by decide +kernel

/-- R180: a count stops at 65535. -/
theorem test_refuses_large_count :
    (Instr.powerUp 3 .noAnswer (.replaced { State.zeroTotals with jams := 65536 } 0 0)).wellFormed = false := by decide +kernel

/-- TABLE 11-2: code 4 is SET-PRICE's. -/
theorem test_refuses_known_code : (Instr.serviceUnknownCode ⟨15, 3, 1⟩ 4 []).wellFormed = false := by decide

/-! ### Frames, bit by bit (TABLE 10-1 to TABLE 10-3) -/

/-- The bits of a frame: `n` bits of class through payload, and the check. -/
def frameBits (n body check : Nat) : List Bool := bitsOf n body ++ bitsOf 16 check

/-- The check of the published test text "123456789" for this generator and start value (TABLE 10-1). -/
theorem test_check_of_nine_digits : crc16 (bitsOf 72 0x313233343536373839) = 0x29B1#16 := by decide +kernel

theorem test_frame_purge :
    commandOf 3 3 .noAnswer (frameBits 28 0b110_0101_00110_0000_0001_00000111 0x0B94) = .purgeReceived 5 0 7 := by
  decide +kernel

theorem test_frame_status :
    commandOf 3 3 .noAnswer
      (frameBits 68 0b111_0101_00001_0000_0110_00001001_00000001_00101100_00000000_11111010_00001001 0xC707) =
    .statusReceived 5 0 9 300 250 9 := by decide +kernel

theorem test_frame_claim :
    commandOf 3 3 .noAnswer (frameBits 60 0b000_0101_00010_0000_0101_00000001_00000000_00000000_00111100_00010001 0xE35B) =
    .claimReceived 5 0 1 .vend 60 17 := by decide +kernel

theorem test_frame_object :
    commandOf 3 3 .noAnswer (frameBits 52 0b000_1001_00100_0011_0100_00000010_00101000_00000001_00101111 0xCB93) =
    .objectReceived 9 3 2 40 303 := by decide +kernel

theorem test_frame_credit :
    commandOf 3 3 .noAnswer
      (frameBits 76 0b110_0101_00101_0000_0111_00001100_00000001_00000000_11111010_00000000_00101000_00000000 0xB787) =
    .creditReceived 5 0 12 .opened 250 40 false := by decide +kernel

theorem test_frame_select :
    commandOf 3 3 .noAnswer (frameBits 44 0b101_1001_00111_0011_0011_00101100_00101010_00000101 0x5139) =
    .selectReceived 9 3 44 42 5 := by decide +kernel

theorem test_frame_debit :
    commandOf 3 3 .noAnswer
      (frameBits 68 0b100_0101_01001_0011_0110_00001100_00000000_01100100_00010101_00000000_00101000 0xB80D) =
    .debitReceived 5 3 12 100 21 (some 40) := by decide +kernel

theorem test_frame_debit_answer :
    commandOf 3 3 .noAnswer
      (frameBits 68 0b100_0101_01010_0011_0110_00010101_00000011_00000000_10010110_00000000_00101010 0x1DA7) =
    .debitAnswerReceived 5 3 21 .stale (some 150) (some 42) := by decide +kernel

theorem test_frame_settle :
    commandOf 3 3 .noAnswer (frameBits 44 0b100_0101_01011_0011_0011_00010101_00001100_00000000 0x91F3) =
    .settleReceived 5 3 21 12 .vended := by decide +kernel

theorem test_frame_state_read :
    commandOf 3 3 .noAnswer (frameBits 60 0b111_1111_01101_0011_0101_00000100_00000001_00001000_00010001_00000000 0xCCF8) =
    .stateRead ⟨15, 3, 4⟩ [8, 17, 0] := by decide +kernel

/-- R164: one bit of the payload inverted. -/
theorem test_frame_with_a_wrong_bit :
    commandOf 3 3 .noAnswer (frameBits 28 0b110_0101_00110_0000_0001_00000110 0x0B94) = .badFrame .checkFailed := by
  decide +kernel

/-- R164: a good frame bearing the own number. -/
theorem test_frame_with_own_number :
    commandOf 5 5 .noAnswer (frameBits 28 0b110_0101_00110_0000_0001_00000111 0x0B94) = .addressConflict := by decide +kernel

/-! ### Worked examples of the manual -/

/-- 2.6.1: 160 from 200 (1), 100 (0), 50 (3), 20 (2) and 10 (0) is 3 of 50. -/
theorem test_plan_case_1 : plan [⟨1, 1, 200⟩, ⟨2, 0, 100⟩, ⟨3, 3, 50⟩, ⟨4, 2, 20⟩, ⟨5, 0, 10⟩] 160 = [0, 0, 3, 0, 0] := by
  decide +kernel

/-- 2.6.2: 140 from the same tubes is 2 of 50 and 2 of 20. -/
theorem test_plan_case_2 : plan [⟨1, 1, 200⟩, ⟨2, 0, 100⟩, ⟨3, 3, 50⟩, ⟨4, 2, 20⟩, ⟨5, 0, 10⟩] 140 = [0, 0, 2, 2, 0] := by
  decide +kernel

/-- 2.6.3: 60 from 50 (4) and 20 (5) is 3 of 20. -/
theorem test_plan_case_3 : plan [⟨1, 4, 50⟩, ⟨2, 5, 20⟩] 60 = [0, 3] := by decide +kernel

/-- 2.6.4: 60 from 50 (1), 30 (2), 20 (0) and 10 (1) is 50 and 10. -/
theorem test_plan_case_4 : plan [⟨1, 1, 50⟩, ⟨2, 2, 30⟩, ⟨3, 0, 20⟩, ⟨4, 1, 10⟩] 60 = [1, 0, 0, 1] := by decide +kernel

/-- TABLE 8-9: codes 300, 471 and 1007 by TABLE 8-8. -/
theorem test_conversion :
    [300, 471, 1007].map
      (convert [1500, 900, 600, 340, 182, 121, 72, 30, -8, -45, -83, -124, -170, -226, -300, -410, -600]) =
    [141, 17, -549] := by decide +kernel

/-! ### States to test on -/

/-- The parameters of a station with every equipment group. -/
def fullParams : Params :=
  { State.noImageParams with
    coinMech := true, cooling := true, matrix := true, maxCredit := 1000, probeAmount := 40, idleTime := 60, motorAmount := 60
    startAmount := 100, runAmount := 40, heaterAmount := 50, saleLimit := 80, ownLimit := 250, baseLoad := 20, loadStations := 3
    conversion := [1500, 900, 600, 340, 182, 121, 72, 30, -8, -45, -83, -124, -170, -226, -300, -410, -600] }

/-- Tubes of 10, 50 and 100: the first two hold coins, the third is DRY; index 4 is DISABLED, index 5 absent. -/
def someTubes : List (Option Tube) :=
  [some ⟨2, 10, 100, 5, 80, 2, 20, .normal⟩, some ⟨4, 50, 100, 5, 80, 0, 10, .normal⟩, some ⟨5, 100, 100, 5, 80, 0, 0, .dry⟩,
    some ⟨6, 200, 100, 5, 80, 0, 0, .disabled⟩, none]

/-- Slot 0 costs 100, slot 1 nothing, slot 2 is chilled, slot 3 JAMMED; the others are absent. -/
def someSlots : List (Option Slot) :=
  [some ⟨100, 1, 1, false, .ready, some 3, 1, false⟩, some ⟨0, 2, 0, false, .ready, none, 0, true⟩,
    some ⟨150, 1, 0, true, .ready, none, 0, false⟩, some ⟨50, 1, 0, false, .jammed, some 0, 0, false⟩] ++ List.replicate 76 none

/-- A LIVE entry of a station that has announced a total and a limit. -/
def entry (st : Station) (total limit : Nat) : Peer :=
  { newPeer st with total := total, limit := limit, change := some 1 }

/-- Station 3 running: its session IDLE, its vend sequencer IDLE, stations 5 (load), 9 (panel) and 15 (tool) known. -/
def up : State :=
  refreshOutputs
    { State.reset with
      phase := .running
      params := fullParams
      cnu :=
        { State.reset.cnu with
          coinTypes := [⟨5, true, none⟩, ⟨10, true, some 1⟩, ⟨20, true, none⟩, ⟨50, true, some 2⟩, ⟨100, true, some 3⟩, ⟨200, false, some 4⟩]
          tubes := someTubes, cashboxPresent := true }
      vsq := { State.reset.vsq with slots := someSlots }
      mxd := { State.reset.mxd with state := .normal }
      rfc := freshRfc
      lbu := { State.reset.lbu with peers := [entry 5 50 300, entry 9 0 0, entry 15 0 0] }
      lnk := { State.reset.lnk with heard := true, periodTimer := some 100, isolationTimer := 30 }
      ssu := { State.reset.ssu with own := 3, cause := none, imageStatus := .good, auditGood := true } }

/-- A session of 300 units, OPEN. -/
def open300 : Session :=
  { State.resetSession with number := 7, state := .opened, balance := 300, version := 20, idleTimer := some 5000 }

/-- `up` with a session. -/
def withSession (c : Session) (s : State) : State := s.modSession fun _ => c

def opened : State := withSession open300 up

/-- The session HELD for 100 of its 300 by station 5 under tag 17. -/
def held : State :=
  withSession { open300 with state := .held, balance := 200, idleTimer := none, hold := some ⟨5, 17, 100, 3000⟩ } up

/-- A selection of slot `n` by the panel, paid by station `credit`. -/
def pick (n credit : Nat) : Selection := { panel := 9, tag := 44, slot := n, credit := credit }

/-- A vend of slot 0 paid by station 5 with tag 17. -/
def aVend : Vend := { newVend (pick 0 5) 100 with payment := .remote, granted := some ⟨17, 7⟩ }

/-- `up` with a vend in a state, its MOTOR record in a state. -/
def vending (st : VsqState) (v : Vend) (l : LoadState) : State :=
  refreshOutputs
    ((up.modVsq fun q => { q with state := st, vend := some v }).modLbu fun b =>
      { b with motor := { b.motor with state := l, amount := 60, window := if l = .proposed then some 10 else none } })

/-- The motor turns: the pair of slot 0 is staged and latched. -/
def turning (v : Vend) : State :=
  (vending .running { v with motorOn := true, pulses := 1, extraLeft := 1, jamTimer := some 700, windowArmed := true } .held).modMxd
    fun m => { m with staging := some (pairOf 0), latch := some (pairOf 0), energised := some 150, supervision := true }

/-- The motor has stopped and the drop window runs. -/
def waitingDrop (v : Vend) : State :=
  vending .dropWait { v with windowTimer := some 400, windowArmed := true, extraLeft := 1 } .held

/-- A motor test of slot 1 with a record of its own. -/
def aTest : Test := ⟨1, 8, 15, 1, false, some 300, none, none⟩

def testing (r : Test) (l : LoadState) : State :=
  refreshOutputs
    ((up.modVsq fun q => { q with state := .testing, test := some r }).modLbu fun b =>
      { b with motor := { b.motor with state := l, amount := 60 } })

/-- `up` with frames in its transmit queue. -/
def queued (fs : List Frame) (s : State) : State := s.modLnk fun l => { l with queue := fs.map TxEntry.fresh }

/-- A payout of the whole balance, in a phase. -/
def paying (p : Payout) : State :=
  refreshOutputs
    ((withSession { open300 with state := .paying, idleTimer := none } up).modCru fun c => { c with payout := some p })

/-- `up` with the cooling record changed. -/
def cooling (f : Rfc → Rfc) (s : State) : State := refreshOutputs (s.modRfc f)

/-- A VALID sensor record at a temperature in 0.1 °C. -/
def validAt (t : Int) : SensorRecord := { State.awaitingSensor with state := .valid, average := 500, reading := some t, inRun := 3 }

/-- The cabinet's compressor runs under its HELD record. -/
def coolRunning : State :=
  cooling (fun r =>
    { r with state := .running, lockoutTimer := none, onTimer := some 50000, cabinet := validAt 20, cycleTimer := some 70000, offTimer := some 900000 })
    (up.modLbu fun b => { b with compressor := { b.compressor with state := .held, amount := 40 } })

/-! ### Worked examples, one command at a time -/

/-- The state after a command. -/
def after (c : Instr) (s : State) : State :=
  match exec c s with
  | .next t => t
  | .fault _ => s
  | .refused _ => s

/-- The cabinet of 1.10: TABLE 1-7, tube 3 at 47 of 60 with its empty switch COVERED. -/
def cabinet1 : State :=
  refreshOutputs
    { up with
      params := { fullParams with maxCredit := 500 }
      cnu :=
        { up.cnu with
          coinTypes := [⟨10, true, some 5⟩, ⟨20, true, some 4⟩, ⟨50, true, some 3⟩, ⟨100, true, some 2⟩, ⟨200, true, some 1⟩, ⟨500, true, none⟩]
          tubes :=
            [some ⟨5, 200, 60, 8, 50, 5, 20, .normal⟩, some ⟨4, 100, 60, 8, 50, 5, 20, .normal⟩, some ⟨3, 50, 60, 8, 50, 5, 47, .normal⟩,
              some ⟨2, 20, 60, 8, 50, 5, 20, .normal⟩, some ⟨1, 10, 60, 8, 50, 5, 20, .normal⟩] }
      inputs := { up.inputs with empties := List.replicate 5 (Filter.standing true) } }

/-- TABLE 1-8, step 1: to tube 3, count 48, balance 50, type 6 inhibited. -/
theorem test_coin_example_step_1 :
    let t := after (.coinStrobe 3 3) cabinet1
    (tubeAt t 3).map Tube.count = some 48 ∧ t.cru.session.balance = 50 ∧ t.outputs.inhibit = 0b100000 ∧
      t.ssu.totals.toTubes = 50 := by decide +kernel

/-- TABLE 1-8, step 3: the full switch of tube 3 is COVERED at 49: the count becomes 50. -/
theorem test_coin_example_step_3 :
    (tubeAt (after (.levelSwitchChange 3 .full true) (modTube 3 (fun t => { t with count := 49 }) cabinet1)) 3).map Tube.count =
      some 50 := by decide +kernel

/-- The session of 3.13 before the race. -/
def race : State :=
  withSession { State.resetSession with number := 12, state := .opened, balance := 250, version := 40, idleTimer := some 0 }
    { up with params := { fullParams with multiVend := true }, lbu := { up.lbu with peers := [entry 5 0 0, entry 6 0 0] } }

/-- TABLE 3-7, event 1: GRANTED with balance 150 and version 41. -/
theorem test_debit_example_event_1 :
    let t := after (.debitReceived 5 3 12 100 21 (some 40)) race
    t.cru.session.hold = some ⟨5, 21, 100, 0⟩ ∧ t.cru.session.balance = 150 ∧ t.cru.session.version = 41 ∧
      t.lnk.queue.getLast? = some (TxEntry.fresh (.debitAnswer 5 21 .granted (some 150) (some 41))) := by decide +kernel

/-- TABLE 3-7, event 4: SETTLE VENDED leaves 150 OPEN at version 42, 100 sold. -/
theorem test_settle_example_event_4 :
    let t := after (.settleReceived 5 3 21 12 .vended)
      (withSession { race.cru.session with state := .held, balance := 150, version := 41, idleTimer := none, hold := some ⟨5, 21, 100, 9⟩ } race)
    t.cru.session.state = .opened ∧ t.cru.session.balance = 150 ∧ t.cru.session.version = 42 ∧ t.cru.books.sold = 100 := by
  decide +kernel

/-- The cabinet of 4.8 during the payout: tubes of 100, 50, 20 and 10, 70 due, the tube of 50 on its second pulse. -/
def cabinet4 : State :=
  refreshOutputs
    { up with
      cnu :=
        { up.cnu with
          tubes :=
            [some ⟨5, 100, 60, 3, 50, 7, 8, .normal⟩, some ⟨4, 50, 60, 3, 50, 0, 1, .normal⟩, some ⟨3, 20, 60, 3, 50, 7, 12, .normal⟩,
              some ⟨2, 10, 60, 3, 50, 5, 8, .normal⟩, none] }
      cru :=
        { up.cru with
          session := { open300 with state := .paying, balance := 70, version := 52, idleTimer := none }
          payout := some ⟨.pulseWait, some 2, 2, some 50, none⟩ } }

/-- TABLE 4-5, event 5: the tube of 50 goes DRY and the tube of 20 is pulsed; the session is unchanged. -/
theorem test_payout_example_event_5 :
    let t := after .payoutWindowExpiry cabinet4
    (tubeAt t 2).map Tube.state = some .dry ∧ t.cru.payout = some ⟨.pulseWait, some 3, 1, some 0, none⟩ ∧
      t.cru.session = cabinet4.cru.session := by decide +kernel

/-- TABLE 4-5, event 8: with the tube of 100 able to pay, 100 due is one coin of it. -/
theorem test_payout_example_event_8 :
    (after .exitClears
      (cabinet4.modCru fun c =>
        { c with session := { c.session with balance := 100 }, payout := some ⟨.exitClear, some 3, 1, none, some 30⟩ })).cru.payout =
      some ⟨.pulseWait, some 1, 1, some 0, none⟩ := by decide +kernel

/-- Cabinet 9 of 9.9 at 4 ms: base load 20, stations 2 and 5 known with 5's claim of 60 counted, station 12 LOST at 30. -/
def cabinet9 : State :=
  { up with
    ssu := { up.ssu with own := 9 }
    lbu :=
      { up.lbu with
        peers :=
          [entry 2 20 250, { entry 5 20 250 with claims := [⟨1, .vend, 60, 17, 2, false⟩] }, { entry 12 30 250 with live := false }] } }

/-- TABLE 9-6, 4 ms: the view is 303 and an OBJECT is queued to station 2. -/
theorem test_objection_example :
    (after (.claimReceived 2 0 2 .cool 100 40) cabinet9).lnk.queue = [TxEntry.fresh (.object 2 2 40 303)] := by decide +kernel

/-- TABLE 9-6, 2 ms: the first claim meets no objection (the view is 203). -/
theorem test_no_objection_example :
    (after (.claimReceived 5 0 1 .vend 60 17)
      { cabinet9 with lbu := { cabinet9.lbu with peers := [entry 2 20 250, entry 5 20 250, { entry 12 30 250 with live := false }] } }).lnk.queue =
      [] := by decide +kernel

/-- TABLE 10-6: of STATUS, CREDIT, a DEBIT and a CLAIM of class COOL, the CLAIM is offered first. -/
theorem test_offer_example :
    bestPlace ([Frame.status, .credit, .debit 5 1 100 3 none, .claim .compressor .cool 100 9].map TxEntry.fresh) = some 3 := by
  decide +kernel

/-- TABLE 8-10, averages 3 and 4: the third code of 1023 in a row makes the sensor FAULTED. -/
theorem test_broken_lead :
    let r := SensorRecord.update fullParams.conversion 1023 { validAt 17 with outRun := 1 }
    r.state = .valid ∧ (r.update fullParams.conversion 1023).state = .faulted := by decide +kernel

/-- R175: a part brought up with no image is UNCONFIGURED; with one it runs configured. -/
theorem test_power_up_without_image :
    (after (.powerUp 3 .noAnswer .kept) State.reset).ssu.cause = some .image := by decide +kernel

/-- An image with values out of their ranges. Tube 2 repeats tube 1's coin type, tube 3's marks are out of order, tube 5 has none. -/
def anImage : Image :=
  { coinMech := 1, cooling := 2, matrix := 1
    coinTypes := [⟨0, 1, 0⟩, ⟨10, 1, 1⟩, ⟨20, 0, 9⟩, ⟨50, 1, 2⟩, ⟨2500, 255, 5⟩, ⟨200, 1, 4⟩]
    tubes := [some ⟨2, 255, 5, 80, 255⟩, some ⟨2, 5, 5, 80, 0⟩, some ⟨5, 100, 50, 40, 7⟩, some ⟨4, 100, 5, 80, 0⟩, some ⟨7, 100, 5, 80, 0⟩]
    maxCredit := 20000, probeAmount := 40, idleTime := 7, multiVend := 3
    slots := [some ⟨100, 1, 1, 0, 1⟩, none, some ⟨15000, 9, 8, 3, 0⟩] ++ List.replicate 77 none
    jamTime := 40, motorAmount := 60, openThreshold := 60, stallThreshold := 20, setPoint := -80, differential := 30, minOff := 180
    minOn := 5, urgentMargin := 20, startAmount := 90, runAmount := 200, defrostInterval := 6, defrostEnd := 50, maxDefrost := 20
    heaterAmount := 50, saleLimit := 80, hotHoldTime := 10, conversion := fullParams.conversion, ownLimit := 250, baseLoad := 20
    loadStations := 3 }

/-- R13, R57, R124, R173 by hand: 7 s of idle time are 30; a stall threshold of 20 beside an open one clamped to 50 is 51; tube 1
holds at most 250, tube 2 is DISABLED for its denomination, tube 3 for its marks and tube 5 for its coin type. -/
theorem test_power_up_clamps :
    let t := after (.powerUp 3 (.answered anImage 7 7) .kept) State.reset
    (t.params.idleTime, t.params.openThreshold, t.params.stallThreshold, t.params.runAmount) = (30, 50, 51, 90) ∧
      t.cnu.tubes.map (Option.map Tube.state) =
        [some .normal, some .disabled, some .disabled, some .normal, some .disabled] ∧
      (tubeAt t 1).map Tube.capacity = some 250 := by decide +kernel

/-- R176, TABLE 10-5: a restart ends a LISTEN-ONLY by conflict and is answered. -/
theorem test_restart_ends_listening :
    let s := up.modLnk fun l => { l with state := .listenOnly, queue := [TxEntry.fresh .status], periodTimer := none }
    let t := after (.restart ⟨15, 3, 8⟩ [] 3 (.answered anImage 7 7)) s
    t.lnk.state = .active ∧
      (t.lnk.queue.any fun e => e.frame == .serviceAnswer 15 8 .done [0]) = true := by decide +kernel

/-- R177: a SET-PRICE acts in LISTEN-ONLY, where its answer is refused. -/
theorem test_set_price_unanswered :
    let s := up.modLnk fun l => { l with state := .listenOnly, periodTimer := none }
    let t := after (.setPrice ⟨15, 3, 8⟩ [0, 1, 4]) s
    (slotAt t 0).map Slot.price = some 260 ∧ t.lnk.queue = [] := by decide +kernel

/-! ### What has come due -/

/-- The state after `n` steps that answer a next state. -/
def afterSteps : Nat → State → State
  | 0, s => s
  | n + 1, s =>
    match step s with
    | .next t => afterSteps n t
    | .fault _ => s
    | .refused _ => s

/-- R9: a coin is filtered in the half millisecond that ends another coin's 250 ms: the new coin's routing time is from zero,
and the stale end is not taken. -/
theorem test_stale_end_of_routing :
    let s : State :=
      { up with
        cnu := { up.cnu with routing := some ⟨.tube 1, 249⟩ }
        inputs := { up.inputs with half := true, codes := 3, lastCodes := 3, strobe := { up.inputs.strobe with raw := true, last := true } } }
    (afterSteps 3 s).cnu.routing = some ⟨.cashbox, 0⟩ ∧ (afterSteps 3 s).due = [] := by decide +kernel

/-- R107: a drop from a READY slot whose stock was already 0 leaves it READY with stock 0. -/
theorem test_sold_at_no_stock :
    (Slot.sold ⟨100, 1, 1, false, .ready, some 0, 1, false⟩).state = .ready ∧
      (Slot.sold ⟨100, 1, 1, false, .ready, some 1, 1, false⟩).state = .soldOut := by decide

/-- R137: the sixtieth whole second, reached at the stop, is counted. -/
theorem test_last_second_of_running :
    (after .onTimerExpiry (coolRunning.modRfc fun r => { r with onTimer := some 60000, second := 1000, accumulator := 59 })).rfc.accumulator =
      60 := by decide +kernel

/-- R164: a good frame is acknowledged while the link is ACTIVE; in SILENT it is not, and a bad frame never is. -/
theorem test_acknowledgement :
    let silent : State := { up with lnk := { up.lnk with state := .silent, silentTimer := some 50 } }
    (after (.unknownFrame 5) up).lnk.acknowledged = true ∧ (after (.unknownFrame 5) silent).lnk.acknowledged = false ∧
      (after (.badFrame .checkFailed) (after (.unknownFrame 5) up)).lnk.acknowledged = false := by decide +kernel

/-- R132, R136: in OFF the off timer's 20 min ask for the load under fixed duty alone, warm as the cabinet may be. -/
theorem test_off_timer_needs_fixed_duty :
    let s (c : SensorRecord) := cooling (fun r => { r with state := .off, lockoutTimer := none, offTimer := some 1200000, cabinet := c }) up
    (after .offTimerExpiry (s (validAt 90))).rfc.state = .off ∧
      (after .offTimerExpiry (s { validAt 90 with state := .faulted, reading := none })).rfc.state = .want := by decide +kernel

/-! ### Witnesses of the statements' hypotheses -/

/-- `Known`, decided. -/
def hears (src : Station) (s : State) : Bool :=
  s.phase != .heldOff && src != s.ssu.own && !isolated s && (s.lbu.peers.any fun e => e.station == src)
    && s.lbu.peers.all fun e => e.station != src || e.live

theorem known_of {src : Station} {s : State} (h : hears src s = true) : Known src s := by
  simp only [hears, Bool.and_eq_true, bne_iff_ne, ne_eq, Bool.not_eq_true', List.any_eq_true, beq_iff_eq, List.all_eq_true,
    Bool.or_eq_true] at h
  obtain ⟨⟨⟨⟨h1, h2⟩, h3⟩, h4⟩, h5⟩ := h
  refine ⟨h1, h2, h3, h4, fun e he hs => ?_⟩
  rcases h5 e he with h | h
  · exact absurd hs h
  · exact h

theorem settled_of {s : State}
    (h : [LoadKind.motor, .compressor, .heater].all (fun k =>
      (s.lbu.load k).state != .waiting && (s.lbu.load k).state != .queued && !(s.lbu.load k).heldOff) = true) :
    LoadsSettled s := by
  intro k
  have := List.all_eq_true.mp h k (by cases k <;> simp)
  simpa [and_assoc] using this

theorem hears_known {src : Station} {s : State} (h : hears src s = true) : Hears src s :=
  have k := known_of h
  have i : s.lnk.heard = true ∧ s.lnk.state = .active := by simpa [isolated] using k.together
  ⟨k.receiving, k.other, .inr ⟨k.listed, k.live, .inl i.1⟩⟩

theorem hears_of {src : Station} {s : State} (h : s.phase ≠ .heldOff ∧ src ≠ s.ssu.own) (l : LoadsSettled s) : Hears src s :=
  ⟨h.1, h.2, .inl l⟩

/-- A coin's routing stands at its limit and its end has come due; and a new coin has restarted it since. -/
def routed (k : Nat) : State := { up with cnu := { up.cnu with routing := some ⟨.cashbox, k⟩ }, due := [.routingTimeExpiry] }

theorem test_witness_StepTakesTheFrontCommand :
    (State.reset.pending = [] ∧ State.reset.due = [] ∧ State.reset.phase = .heldOff) ∧
      ((routed 250).pending = [] ∧ stillDue .routingTimeExpiry (routed 250) = true) ∧
      ((routed 0).pending = [] ∧ stillDue .routingTimeExpiry (routed 0) = false) := by decide +kernel

theorem test_witness_EveryCommandIsTakenWhole : OutputsLaw up :=
  ⟨by decide +kernel, by decide +kernel, by decide +kernel, by decide +kernel, by decide +kernel⟩

/-- A session OPEN, with the lever's command waiting. -/
def leverWaits : State := { opened with pending := [.escrowLever], cru := { opened.cru with books := ⟨300, 0, 0, 0, 0, 0⟩ } }

theorem leverWaits_money : MoneyLaw leverWaits where
  ceiling := by decide
  equation := by decide
  idleEmpty := by decide
  openMoney := by decide
  heldMoney := by decide
  holdIffHeld := by decide
  payoutIffPaying := by decide
  idleTimerInOpen := by decide
  pulsedWithinDue := fun _ h => by cases h
  coinValues := by decide

theorem test_witness_MoneyIsKept : MoneyLaw leverWaits ∧ ∃ t, step leverWaits = .next t := ⟨leverWaits_money, _, rfl⟩

theorem test_witness_VersionRisesOnce :
    MoneyLaw leverWaits ∧ (∀ a p q, Instr.escrowLever ≠ .powerUp a p q) ∧
      ∃ t, exec .escrowLever leverWaits = .next t ∧ t.cru.session.state ≠ leverWaits.cru.session.state :=
  ⟨leverWaits_money, by simp, _, rfl, by decide +kernel⟩

/-- The flag is clear where the tubes can pay the probe amount, and set where there is none. -/
theorem test_witness_VersionRisesOnce_exact :
    ExactLaw leverWaits ∧ ExactLaw { up with cnu := { up.cnu with tubes := [] }, cru := { up.cru with probeShort := true, exactChangeOnly := true } } :=
  ⟨⟨by decide +kernel, by decide +kernel, by decide +kernel⟩, by decide +kernel, by decide +kernel, by decide +kernel⟩

/-- A motor turns, with its cam's command waiting. -/
def camWaits : State := { turning aVend with pending := [.camPulse] }

theorem test_witness_NothingDrawsUngranted : LoadLaw camWaits ∧ ∃ t, step camWaits = .next t :=
  ⟨⟨by decide +kernel, by decide +kernel, by decide +kernel⟩, _, rfl⟩

/-- The compressor relay stands closed before a step and after it. -/
theorem test_witness_NothingDrawsUngranted_relay :
    let s : State := { coolRunning with pending := [.lostArbitration] }
    LoadLaw s ∧ OutputsLaw s ∧ ∃ t, step s = .next t ∧ t.outputs.compressorRelay = true :=
  ⟨⟨by decide +kernel, by decide +kernel, by decide +kernel⟩,
    ⟨by decide +kernel, by decide +kernel, by decide +kernel, by decide +kernel, by decide +kernel⟩, _, rfl, by decide +kernel⟩

theorem camWaits_vend : camWaits.vsq.vend = some { aVend with motorOn := true, pulses := 1, extraLeft := 1, jamTimer := some 700, windowArmed := true } := by
  decide +kernel

theorem test_witness_VendFollowsItsState : VendLaw camWaits ∧ ∃ t, step camWaits = .next t :=
  ⟨{ vend := by decide +kernel
     test := by decide +kernel
     motor := by decide +kernel
     held := by decide +kernel
     turning := fun _ _ _ => by decide +kernel
     undecided := fun v h _ => by rw [camWaits_vend] at h; cases h; decide +kernel }, _, rfl⟩

theorem someTubes_law : TubesLaw leverWaits where
  each := fun t h => by
    have : t ∈ [⟨2, 10, 100, 5, 80, 2, 20, .normal⟩, ⟨4, 50, 100, 5, 80, 0, 10, .normal⟩, ⟨5, 100, 100, 5, 80, 0, 0, .dry⟩,
        ⟨6, 200, 100, 5, 80, 0, 0, .disabled⟩] := by
      revert h; simp [leverWaits, opened, withSession, up, refreshOutputs, someTubes, State.modSession, State.modCru]
    simp only [List.mem_cons, List.not_mem_nil, or_false] at this
    rcases this with rfl | rfl | rfl | rfl <;> exact ⟨by decide, by decide, by decide, by decide, by decide⟩
  distinct := by
    have h : leverWaits.cnu.tubes = someTubes := by decide +kernel
    rw [h]; unfold someTubes
    simp

theorem test_witness_TubesKeepTheirLaw : TubesLaw leverWaits ∧ ∃ t, step leverWaits = .next t := ⟨someTubes_law, _, rfl⟩

theorem test_witness_PlannerChoosesTheBestPlan :
    TubesLaw leverWaits ∧ (∀ b ∈ [1], b ≤ 3) ∧ byVector [1] [⟨1, 4, 50⟩, ⟨2, 5, 20⟩] 60 = some [0, 3] :=
  ⟨someTubes_law, by decide, by decide⟩

theorem test_witness_ListsKeepTheirPlaces : PlacesLaw leverWaits ∧ ∃ t, step leverWaits = .next t :=
  ⟨⟨by decide +kernel, by decide +kernel, by decide +kernel, by decide +kernel, by decide +kernel, by decide +kernel,
    by decide +kernel⟩, _, rfl⟩

/-- The silent second of a link, its end waiting. -/
def silentWaits : State :=
  { up with pending := [.silentEnd], lnk := { up.lnk with state := .silent, silentTimer := some 50, failures := 17 } }

theorem test_witness_LinkFollowsItsState : LinkLaw silentWaits ∧ ∃ t, step silentWaits = .next t :=
  ⟨⟨by decide +kernel, by decide +kernel, by decide +kernel⟩, _, rfl⟩

theorem test_witness_CoolingFollowsItsState :
    CoolLaw { coolRunning with pending := [.onTimerExpiry] } ∧
      ∃ t, step { coolRunning with pending := [.onTimerExpiry] } = .next t :=
  ⟨⟨by decide +kernel, by decide +kernel, by decide +kernel, by decide +kernel, by decide +kernel, by decide +kernel,
    by decide +kernel⟩, _, rfl⟩

/-! #### Coin intake -/

theorem test_witness_InhibitSetFollowsItsTable :
    coinTypeAt opened 3 = some ⟨20, true, none⟩ ∧ inhibited opened 3 = false ∧ coinTypeAt opened 6 = some ⟨200, false, some 4⟩ ∧
      inhibited opened 6 = true := by decide +kernel

/-- `up` on a station whose straps give no number. -/
def unstrapped : State := { up with ssu := { up.ssu with cause := some .straps } }

theorem test_witness_StrobeThatIsNoCoin :
    (up.phase = .running ∧ configured up = true ∧ up.params.coinMech = true ∧ (7 : BitVec 3) = 7) ∧
      (configured { up with params := State.noImageParams } = true) ∧ State.noImageParams.coinMech = false ∧
      (unstrapped.phase = .running ∧ configured unstrapped = false) := by decide +kernel

theorem opened_takes (n : BitVec 3) (h : n ≠ 0 ∧ n ≠ 7) : TakesCoin opened n :=
  ⟨by decide +kernel, by decide +kernel, by decide +kernel, h.1, h.2⟩

theorem no_tube_for_3 (i : Nat) : ¬ CanStore opened 3 i := by
  rintro ⟨c, t, h, hc, _⟩
  rw [show coinTypeAt opened 3 = some ⟨20, true, none⟩ by decide +kernel] at h
  cases h; cases hc

/-- Code 5 goes to tube 3; code 3 has no tube and goes to the cashbox. -/
theorem test_witness_CoinIsRouted :
    (TakesCoin opened 5 ∧ CanStore opened 5 3) ∧
      (TakesCoin opened 3 ∧ coinTypeAt opened 3 = some ⟨20, true, none⟩ ∧ (∀ i, ¬ CanStore opened 3 i) ∧
        opened.cnu.cashboxPresent = true) :=
  ⟨⟨opened_takes 5 (by decide), ⟨100, true, some 3⟩, ⟨5, 100, 100, 5, 80, 0, 0, .dry⟩, by decide +kernel⟩,
    opened_takes 3 (by decide), by decide +kernel, no_tube_for_3, by decide +kernel⟩

/-- The cashbox is OUT: the coin of code 3 is unstored. -/
theorem test_witness_CoinIsRouted_unstored :
    coinTypeAt { opened with cnu := { opened.cnu with cashboxPresent := false } } 3 = some ⟨20, true, none⟩ ∧
      takingTube { opened with cnu := { opened.cnu with cashboxPresent := false } } 3 = none := by decide +kernel

theorem test_witness_RoutedCoinEntersTheSession :
    TakesCoin opened 3 ∧ coinTypeAt opened 3 = some ⟨20, true, none⟩ ∧ opened.cnu.cashboxPresent = true ∧
      opened.cru.session.state ≠ .idle ∧ HasRoom .credit opened :=
  ⟨opened_takes 3 (by decide), by decide +kernel, by decide +kernel, by decide +kernel, by unfold HasRoom Awaits; decide +kernel⟩

theorem test_witness_RoutingPulseAndCashbox :
    ({ up with cnu := { up.cnu with routing := some ⟨.cashbox, 100⟩ } } : State).cnu.routing = some ⟨.cashbox, 100⟩ ∧
      ({ up with cru := { up.cru with solenoid := some ⟨1, 10⟩ } } : State).cru.solenoid = some ⟨1, 10⟩ ∧ up.phase = .running :=
  ⟨rfl, rfl, rfl⟩

theorem test_witness_LevelSwitchReconcilesTheCount :
    up.phase = .running ∧ tubeAt up 1 = some ⟨2, 10, 100, 5, 80, 2, 20, .normal⟩ ∧
      tubeAt up 4 = some ⟨6, 200, 100, 5, 80, 0, 0, .disabled⟩ := by decide +kernel

/-- Two selections wait; with no vend in progress. -/
def twoWait (s : State) : State := s.modVsq fun q => { q with queue := [pick 0 5, { pick 1 0 with panel := 10 }] }
def twoPanels : State := twoWait up

/-- The vend's record before the grant, while it turns, and after. -/
def claimingVend : Vend := { aVend with budgetTimer := some 4 }
def turningVend : Vend := { aVend with motorOn := true, pulses := 1, extraLeft := 1, jamTimer := some 700, windowArmed := true }
def waitingVend : Vend := { aVend with windowTimer := some 400, windowArmed := true, extraLeft := 1 }

/-- The own session of 300 holds the 100 of a vend that it pays, with tag 17. -/
def homeHolds (s : State) : State :=
  withSession { open300 with state := .held, balance := 200, idleTimer := none, hold := some ⟨3, 17, 100, 3000⟩ } s
def homeVend : Vend := { newVend (pick 0 3) 100 with payment := .own, granted := some ⟨17, 7⟩ }
def homeClaiming : Vend := { homeVend with budgetTimer := some 4 }

/-- The motor of a test turns. -/
def testTurns : State :=
  (testing { aTest with motorOn := true, jamTimer := some 40 } .held).modMxd fun m =>
    { m with latch := some (pairOf 1), staging := some (pairOf 1), energised := some 150, supervision := true }

/-- A vend in SETTLING with its outcome; settled or with its SETTLE outstanding. -/
def decidedVend (o : VendOutcome) (ended : Bool) : Vend :=
  { aVend with
    outcome := some o, endedBy := some .drop, settled := ended
    settling := if ended then none else some ⟨17, 7, .vended, 1, 50⟩ }

/-- The link has met an address conflict. -/
def listening (s : State) : State := s.modLnk fun l => { l with state := .listenOnly, queue := [TxEntry.fresh .status] }

/-- Slot 0 of `someSlots`. -/
def slot0 : Slot := ⟨100, 1, 1, false, .ready, some 3, 1, false⟩

theorem test_witness_DoorOpens :
    (twoPanels.phase = .running ∧ twoPanels.vsq.vend = none ∧ twoPanels.vsq.test = none ∧ twoPanels.lnk.state ≠ .listenOnly ∧
        twoPanels.lnk.queue = [] ∧ twoPanels.vsq.queue.length = 2) ∧
      (let s := vending .claiming claimingVend .waiting
       s.phase = .running ∧ s.vsq.vend = some claimingVend ∧ s.vsq.queue = [] ∧ slotAt s 0 = some slot0 ∧ s.lnk.queue = [] ∧
        s.lnk.state ≠ .listenOnly ∧ claimingVend.payment ≠ .own ∧ s.vsq.state = .claiming ∧ s.lbu.motor.state ≠ .held) ∧
      (let s := turning aVend
       s.vsq.vend = some turningVend ∧ s.vsq.state = .running ∧ turningVend.dropSeen = false ∧ slotAt s 0 = some slot0) ∧
      (let s := waitingDrop aVend
       s.vsq.vend = some waitingVend ∧ s.vsq.state = .dropWait ∧ slotAt s 0 = some slot0) ∧
      (claimingVend.settled = false ∧ (testing aTest .waiting).phase = .running ∧ (testing aTest .waiting).vsq.vend = none) := by
  decide +kernel

/-- A drop has been seen; and the own session pays, before the motor start and after the drop. -/
theorem test_witness_DoorOpens_seen_and_home :
    (let s := turning { aVend with dropSeen := true }
     s.phase = .running ∧ s.vsq.vend = some { turningVend with dropSeen := true } ∧ s.vsq.state = .running ∧ s.vsq.queue = [] ∧
      slotAt s 0 = some slot0 ∧ s.lnk.queue.length < 3 ∧ s.lnk.state ≠ .listenOnly ∧ turningVend.settled = false) ∧
      (let s := homeHolds (vending .claiming homeClaiming .waiting)
       s.vsq.vend = some homeClaiming ∧ s.vsq.state = .claiming ∧ s.lbu.motor.state ≠ .held ∧ s.vsq.queue = [] ∧
        HomeHold ⟨17, 7⟩ ⟨3, 17, 100, 3000⟩ s) ∧
      HomeHold ⟨17, 7⟩ ⟨3, 17, 100, 3000⟩ (homeHolds (turning { homeVend with dropSeen := true })) := by
  unfold HomeHold; decide +kernel

/-- A vend in SETTLING with selections waiting; vends in progress with selections waiting; and the same in LISTEN-ONLY. -/
theorem test_witness_DoorOpens_waiting_and_listening :
    (let s := twoWait (vending .settling (decidedVend .vended false) .held)
     s.phase = .running ∧ s.vsq.vend ≠ none ∧ s.vsq.state = .settling ∧ s.lnk.state ≠ .listenOnly ∧
      s.lnk.queue.length + s.vsq.queue.length < 8 ∧ (listening s).lnk.state = .listenOnly ∧ (listening s).vsq = s.vsq) ∧
      (∀ x ∈ [(vending .claiming claimingVend .waiting, claimingVend), (turning aVend, turningVend),
          (turning { aVend with dropSeen := true }, { turningVend with dropSeen := true }), (waitingDrop aVend, waitingVend)],
        (twoWait x.1).phase = .running ∧ (twoWait x.1).vsq.vend = some x.2 ∧ slotAt (twoWait x.1) 0 = some slot0 ∧
          (twoWait x.1).lnk.queue.length + (twoWait x.1).vsq.queue.length < 3 ∧ (twoWait x.1).lnk.state ≠ .listenOnly ∧
          x.2.settled = false) ∧
      (∀ x ∈ [(vending .claiming claimingVend .waiting, claimingVend), (turning aVend, turningVend),
          (turning { aVend with dropSeen := true }, { turningVend with dropSeen := true }), (waitingDrop aVend, waitingVend)],
        (listening x.1).phase = .running ∧ (listening x.1).vsq.vend = some x.2 ∧ slotAt (listening x.1) 0 = some slot0 ∧
          (listening x.1).lnk.state = .listenOnly ∧ x.2.settled = false) := by
  decide +kernel

theorem test_witness_DoorClosesAndSavesEnd :
    up.phase = .running ∧ HasRoom .status up ∧
      ({ up with ssu := { up.ssu with snapshot := some State.zeroTotals, saveOwed := true } } : State).ssu.snapshot =
        some State.zeroTotals :=
  ⟨rfl, by unfold HasRoom Awaits; decide +kernel, rfl⟩

/-! #### Credit sessions and payout -/

theorem test_witness_DebitIsCheckedInOrder :
    Known 5 opened ∧ opened.ssu.own ≠ 0 ∧ opened.lnk.queue.length ≤ 5 ∧ Known 5 held ∧ held.cru.session.hold.isSome = true :=
  ⟨known_of (by decide +kernel), by decide +kernel, by decide +kernel, known_of (by decide +kernel), by decide +kernel⟩

theorem test_witness_DebitIsCheckedInOrder_listening :
    (listening opened).phase ≠ .heldOff ∧ (5 : Station) ≠ (listening opened).ssu.own ∧
      (listening opened).lnk.state = .listenOnly ∧ LoadsSettled (listening opened) :=
  ⟨by decide +kernel, by decide +kernel, by decide +kernel, settled_of (by decide +kernel)⟩

theorem test_witness_SettleIsAnswered :
    (Known 5 held ∧ held.ssu.own ≠ 0 ∧ held.lnk.queue.length ≤ 5 ∧ held.cru.session.hold = some ⟨5, 17, 100, 3000⟩ ∧
        held.cru.session.number = 7 ∧ held.cru.session.state = .held) ∧
      Known 9 held ∧ ∀ h, held.cru.session.hold = some h → ¬ (h.requester = 9 ∧ h.tag = 17 ∧ 7 = held.cru.session.number) :=
  ⟨⟨known_of (by decide +kernel), by decide +kernel, by decide +kernel, by decide +kernel, by decide +kernel, by decide +kernel⟩,
    known_of (by decide +kernel), fun h e => by
      rw [show held.cru.session.hold = some ⟨5, 17, 100, 3000⟩ by decide +kernel] at e
      cases e; decide⟩

theorem test_witness_SettleIsAnswered_listening :
    (let s := listening held
     s.ssu.own ≠ 0 ∧ s.cru.session.hold = some ⟨5, 17, 100, 3000⟩ ∧ s.cru.session.number = 7 ∧ s.cru.session.state = .held ∧
      s.phase ≠ .heldOff ∧ (5 : Station) ≠ s.ssu.own ∧ s.lnk.state = .listenOnly) ∧
      LoadsSettled (listening held) :=
  ⟨by decide +kernel, settled_of (by decide +kernel)⟩

theorem test_witness_HoldExpires :
    held.cru.session.hold = some ⟨5, 17, 100, 3000⟩ ∧ held.cru.session.escrowPending = false ∧
      (held.modSession fun c => { c with escrowPending := true }).cru.session.escrowPending = true := by decide +kernel

/-- The refresh timer of an OPEN session runs, with room for the CREDIT and without. -/
def refreshing (n : Nat) : State := queued (List.replicate n (.purge 0)) (opened.modCru fun c => { c with refresh := some 10 })

theorem test_witness_RefreshTimerRepeatsTheCredit :
    ((refreshing 0).cru.refresh = some 10 ∧ (refreshing 0).cru.session.state ≠ .idle ∧ HasRoom .credit (refreshing 0)) ∧
      ((refreshing 8).cru.refresh = some 10 ∧ ¬ HasRoom .credit (refreshing 8)) ∧
      ((up.modCru fun c => { c with refresh := some 10 }).cru.refresh = some 10 ∧ up.cru.owed = false ∧ up.cru.session.state = .idle) := by
  unfold HasRoom Awaits; decide +kernel

theorem test_witness_LeverAndIdleTimer :
    (opened.cru.session.state = .opened ∧ 0 < opened.cru.session.balance ∧ opened.phase = .running ∧
        opened.cru.session.idleTimer = some 5000 ∧ opened.cru.session.changeShort = false ∧ nextTube opened 300 = some 2 ∧
        opened.cru.session.hold = none) ∧
      (opened.modSession fun c => { c with changeShort := true }).cru.session.changeShort = true ∧
      (held.phase = .running ∧ held.cru.session.state = .held) := by decide +kernel

/-- A pulse of tube 2 is awaited; the chute is to clear. -/
def pulsed (attempt : Nat) : State := paying ⟨.pulseWait, some 2, attempt, some 30, none⟩
def chuteBlocked : State := paying ⟨.exitClear, some 2, 1, none, some 20⟩

theorem test_witness_CoinSeenAtTheExit :
    ((pulsed 1).phase = .running ∧ (pulsed 1).cru.payout = some ⟨.pulseWait, some 2, 1, some 30, none⟩ ∧
        tubeAt (pulsed 1) 2 = some ⟨4, 50, 100, 5, 80, 0, 10, .normal⟩ ∧ 50 ≤ (pulsed 1).cru.session.balance) ∧
      (opened.phase = .running ∧ opened.cru.payout = none) ∧
      (chuteBlocked.phase = .running ∧ chuteBlocked.cru.payout.map Payout.phase = some .exitClear) := by decide +kernel

theorem test_witness_PayoutWindowExpires :
    (pulsed 1).cru.payout = some ⟨.pulseWait, some 2, 1, some 30, none⟩ ∧
      (pulsed 2).cru.payout = some ⟨.pulseWait, some 2, 2, some 30, none⟩ ∧ 0 < (pulsed 2).cru.session.balance ∧
      (tubeAt (pulsed 2) 2).map Tube.state = some .normal := by decide +kernel

theorem test_witness_ChuteClearsOrJams :
    chuteBlocked.cru.payout = some ⟨.exitClear, some 2, 1, none, some 20⟩ ∧ 0 < chuteBlocked.cru.session.balance ∧
      chuteBlocked.phase = .running ∧ nextTube chuteBlocked chuteBlocked.cru.session.balance = some 2 ∧
      nextTube (chuteBlocked.modSession fun c => { c with balance := 5 }) 5 = none := by decide +kernel

/-! #### The cache, selections, debit and settlement -/

/-- A cache entry; a cache of two; a full one whose oldest are stations 2 and 4. -/
def heard (st : Station) (n : Byte) (b a : Nat) : CacheEntry := ⟨st, n, .opened, b, 5, false, a⟩
def cached : State := up.modCca fun c => { c with entries := [heard 5 7 250 300, heard 6 1 10 100] }
def fullCache : State :=
  up.modCca fun c =>
    { c with
      entries :=
        [heard 1 7 250 300, heard 2 1 10 900, heard 4 1 10 900, heard 6 1 10 100, heard 7 1 10 100, heard 8 1 10 100,
          heard 9 1 10 100, heard 10 1 10 100] }

theorem fullCache_places : PlacesLaw fullCache :=
  ⟨by decide +kernel, by decide +kernel, by decide +kernel, by decide +kernel, by decide +kernel, by decide +kernel,
    by decide +kernel⟩

theorem test_witness_CacheMirrorsTheSessions :
    (fullCache.phase ≠ .heldOff ∧ (5 : Station) ≠ fullCache.ssu.own ∧ fullCache.cca.memory.length = 15 ∧ PlacesLaw fullCache ∧
        cacheEntry 5 fullCache = none ∧ fullCache.cca.entries.length = 8 ∧
        ∀ e ∈ fullCache.cca.entries, e.age < 900 ∨ (e.age = 900 ∧ 2 ≤ e.station.toNat)) ∧
      (cacheEntry 6 cached = some (heard 6 1 10 100) ∧ cacheEntry 5 cached = some (heard 5 7 250 300)) :=
  ⟨⟨by decide +kernel, by decide +kernel, by decide +kernel, fullCache_places, by decide +kernel, by decide +kernel,
    by decide +kernel⟩, by decide +kernel⟩

theorem test_witness_SelectIsCheckedInOrder :
    let s := vending .claiming claimingVend .waiting
    Known 5 s ∧ s.ssu.own ≠ 0 ∧ s.lnk.queue.length < 8 ∧ s.vsq.state ≠ .idle :=
  ⟨known_of (by decide +kernel), by decide +kernel, by decide +kernel, by decide +kernel⟩

/-- An IDLE sequencer refuses the JAMMED slot 3; and a LISTEN-ONLY link. -/
theorem test_witness_SelectIsCheckedInOrder_idle :
    (Known 5 up ∧ up.vsq.state = .idle ∧ slotAt up 3 = some ⟨50, 1, 0, false, .jammed, some 0, 0, false⟩) ∧
      (let s : State := { up with lnk := { up.lnk with state := .listenOnly } }
       s.phase ≠ .heldOff ∧ (5 : Station) ≠ s.ssu.own ∧ s.lnk.state = .listenOnly ∧ LoadsSettled s) :=
  ⟨⟨known_of (by decide +kernel), by decide +kernel, by decide +kernel⟩, by decide +kernel, by decide +kernel,
    by decide +kernel, settled_of (by decide +kernel)⟩

/-- `up` with one place left in its transmit queue. -/
def crowdedBut : State := queued (List.replicate 7 (.purge 0)) up

/-- Slot 1 is free; slot 0, at 100, is paid by station 5, whose cached session holds 250. -/
theorem test_witness_SelectionIsTakenAtOnce :
    Known 9 cached ∧ cached.ssu.own ≠ 0 ∧ cached.lnk.queue.length < 6 ∧ cached.vsq.state = .idle ∧ cached.vsq.queue = [] ∧
      cached.vsq.vend = none ∧ cached.vsq.test = none ∧ cached.lbu.motor.state = .none ∧ cached.ssu.cause = none ∧
      cached.mxd.state ≠ .fault ∧ cached.params.matrix = true ∧ doorOpen cached = false ∧ slotAt cached 0 = some slot0 ∧
      tooWarm cached slot0 = false ∧ slotAt cached 1 = some ⟨0, 2, 0, false, .ready, none, 0, true⟩ ∧
      cacheEntry 5 cached = some (heard 5 7 250 300) ∧ slot0.price ≤ 250 :=
  ⟨known_of (by decide +kernel), by decide +kernel⟩

/-- The own session of 300 units pays for slot 0. -/
theorem test_witness_SelectionIsTakenAtOnce_home :
    Known 9 opened ∧ opened.vsq.state = .idle ∧ opened.lbu.motor.state = .none ∧ slotAt opened 0 = some slot0 ∧
      tooWarm opened slot0 = false ∧ (3 : Byte).toNat = opened.ssu.own.toNat ∧ coinStation opened = true ∧
      opened.cru.session.state = .opened ∧ opened.cru.session.hold = none ∧ slot0.price ≤ opened.cru.session.balance ∧
      planExact opened (opened.cru.session.balance - slot0.price) = true :=
  ⟨known_of (by decide +kernel), by decide +kernel⟩

/-- A free selection of slot 1 whose MOTOR load passes its test, meets a full transmit queue, and does not fit. -/
theorem test_witness_SelectionIsTakenAtOnce_request :
    let large : State := { up with params := { up.params with motorAmount := 181 } }
    let fit (s : State) : Bool := decide (ownTotal s + otherClaims .motor s + peerSum s + s.params.motorAmount ≤ effectiveLimit s)
    (Known 9 up ∧ Known 9 crowdedBut ∧ Known 9 large) ∧
      (∀ s ∈ [up, crowdedBut, large],
        s.ssu.own = 3 ∧ s.vsq.state = .idle ∧ s.vsq.queue = [] ∧ s.vsq.vend = none ∧ s.vsq.test = none ∧ s.lbu.motor.state = .none ∧
          s.ssu.cause = none ∧ s.mxd.state ≠ .fault ∧ s.params.matrix = true ∧ doorOpen s = false ∧
          slotAt s 1 = some ⟨0, 2, 0, false, .ready, none, 0, true⟩) ∧
      (fit up = true ∧ up.lnk.queue.length + 1 < 8) ∧ (fit crowdedBut = true ∧ crowdedBut.lnk.queue.length + 1 = 8) ∧
      fit large = false ∧ fit { up with params := { up.params with motorAmount := 180 } } = true :=
  ⟨⟨known_of (by decide +kernel), known_of (by decide +kernel), known_of (by decide +kernel)⟩, by decide +kernel⟩

/-- A vend in DEBITING whose DEBIT has been sent `k` times. -/
def askingVend (k : Nat) : Vend := { aVend with granted := none, asked := some ⟨17, 7, some 5, k, false, 30⟩ }
def asking (k : Nat) : State := vending .debiting (askingVend k) .none

theorem test_witness_DebitIsFollowedUp :
    ((asking 1).vsq.vend = some (askingVend 1) ∧ (askingVend 1).asked = some ⟨17, 7, some 5, 1, false, 30⟩ ∧
        (asking 1).lnk.state ≠ .listenOnly ∧ (asking 1).lnk.queue.length < 8) ∧
      ((asking 2).vsq.vend = some (askingVend 2) ∧ (askingVend 2).granted = none ∧ (asking 2).vsq.queue = [] ∧
        (asking 2).lbu.motor.state = .none) ∧
      Known 5 (asking 1) ∧ (asking 1).vsq.state = .debiting ∧ (5 : Station) = (askingVend 1).selection.creditStation ∧
      Known 9 (asking 1) :=
  ⟨by decide +kernel, by decide +kernel, known_of (by decide +kernel), by decide +kernel, by decide +kernel,
    known_of (by decide +kernel)⟩

/-- A vend in SETTLING whose SETTLE has been sent `k` times. -/
def settlingVend (k : Nat) : Vend :=
  { aVend with outcome := some .vended, endedBy := some .drop, settling := some ⟨17, 7, .vended, k, 50⟩ }

theorem test_witness_SettlementEnds :
    (let s := vending .settling (settlingVend 1) .none
     s.vsq.vend = some (settlingVend 1) ∧ s.vsq.state = .settling ∧ s.lnk.queue.length < 8 ∧ s.lnk.state ≠ .listenOnly ∧
      s.lbu.motor.state = .none ∧ s.vsq.queue = [] ∧ (settlingVend 1).settled = false) ∧
      Known 5 (vending .settling (settlingVend 1) .none) ∧
      (let s := vending .settling (settlingVend 2) .held
       s.vsq.vend = some (settlingVend 2) ∧ s.vsq.state = .settling ∧ s.lbu.motor.state ≠ .none ∧ s.vsq.queue = []) :=
  ⟨by decide +kernel, known_of (by decide +kernel), by decide +kernel⟩

/-! #### The vend and the motor test -/

theorem test_witness_BudgetTimeExpires :
    (let s := vending .claiming claimingVend .proposed
     s.lnk.queue.length < 4 ∧ s.lnk.state ≠ .listenOnly ∧ s.vsq.queue = [] ∧ s.lbu.motor.state ≠ .held ∧
      s.vsq.vend = some claimingVend ∧ claimingVend.budgetTimer = some 4 ∧ claimingVend.asked = none ∧
      claimingVend.payment ≠ .own ∧ claimingVend.settled = false ∧ claimingVend.granted = some ⟨17, 7⟩) ∧
      (let s := testing { aTest with budgetTimer := some 40 } .waiting
       s.lnk.queue.length < 4 ∧ s.vsq.queue = [] ∧ s.lbu.motor.state ≠ .held ∧ s.vsq.vend = none ∧
        s.vsq.test = some { aTest with budgetTimer := some 40 } ∧ s.vsq.state = .testing) := by decide +kernel

/-- Beside the record in question the own record `k` waits, with an amount of 50. -/
def waitsToo (k : LoadKind) (s : State) : State :=
  modLoad k (fun l => { l with state := .waiting, amount := 50, waitAge := 20, metFull := true }) s

/-- The MOTOR request in each state of R158: WAITING, QUEUED with its CLAIM queued and with its CLAIM on the bus, and PROPOSED, while
the COMPRESSOR waits and passes its test; and WAITING on an ISOLATED station, where the solo rule grants the COMPRESSOR. -/
theorem test_witness_BudgetTimeExpires_withdrawn :
    let s (l : LoadState) (q : List TxEntry) : State :=
      (waitsToo .compressor (vending .claiming claimingVend l)).modLnk fun k => { k with queue := q }
    let claim := TxEntry.fresh (.claim .motor .vend 60 0)
    let alone : State := (s .waiting []).modLnk fun k => { k with heard := false }
    (∀ x ∈ [s .waiting [], s .queued [claim], s .queued [{ claim with onBus := some (compose up claim.frame) }], s .proposed [], alone],
      x.lnk.queue.length < 4 ∧ x.lnk.state ≠ .listenOnly ∧ x.vsq.queue = [] ∧ x.vsq.vend = some claimingVend ∧
        x.lbu.compressor.state = .waiting) ∧
      claimBegun .motor 0 (s .queued [claim]) = false ∧
      claimBegun .motor 0 (s .queued [{ claim with onBus := some (compose up claim.frame) }]) = true ∧
      (let x := s .proposed []
       isolated x = false ∧ classOrder.map (passedBeside .motor (ownTotal x) x) = [false, true, false]) ∧
      (isolated alone = true ∧ (soloTests (waitsBeside .motor alone) alone (ownTotal alone, fun _ => false)).2 .compressor = true) := by
  decide +kernel

theorem test_witness_BudgetTimeExpires_home :
    let s := homeHolds (vending .claiming homeClaiming .waiting)
    s.lnk.queue.length < 3 ∧ s.lnk.state ≠ .listenOnly ∧ s.vsq.queue = [] ∧ s.lbu.motor.state ≠ .held ∧
      s.vsq.vend = some homeClaiming ∧ homeClaiming.budgetTimer = some 4 ∧ homeClaiming.payment = .own ∧
      homeClaiming.granted = some ⟨17, 7⟩ ∧ HomeHold ⟨17, 7⟩ ⟨3, 17, 100, 3000⟩ s := by
  unfold HomeHold; decide +kernel

theorem test_witness_CamPulseTurnsTheSpiral :
    up.mxd.latch = none ∧
      (let s := turning aVend
       s.vsq.vend = some turningVend ∧ turningVend.motorOn = true ∧ s.mxd.latch = some (pairOf 0) ∧ s.lbu.motor.state = .held ∧
        turningVend.pulses = 1 ∧ turningVend.payment ≠ .own ∧ turningVend.dropSeen = false) ∧
      (let s := modVend (fun v => { v with pulses := 3 }) (turning aVend)
       s.vsq.vend = some { turningVend with pulses := 3 } ∧ s.mxd.latch = some (pairOf 0)) ∧
      (let s := modVend (fun v => { v with dropSeen := true }) (turning aVend)
       s.vsq.vend = some { turningVend with dropSeen := true } ∧ s.mxd.latch = some (pairOf 0)) ∧
      (testTurns.vsq.vend = none ∧ testTurns.vsq.test = some { aTest with motorOn := true, jamTimer := some 40 } ∧
        testTurns.mxd.latch = some (pairOf 1) ∧ testTurns.lbu.motor.state = .held) := by decide +kernel

/-- The own session pays a vend whose drop has been seen; a test with three pulses left. -/
theorem test_witness_CamPulseTurnsTheSpiral_home_and_test :
    (let s := homeHolds (turning { homeVend with dropSeen := true })
     (s.vsq.vend.map fun v => v.motorOn && v.dropSeen && v.pulses == 1 && v.payment == .own) = some true ∧
      s.vsq.vend.bind Vend.granted = some ⟨17, 7⟩ ∧ s.mxd.latch = some (pairOf 0) ∧ s.lbu.motor.state = .held ∧
      HomeHold ⟨17, 7⟩ ⟨3, 17, 100, 3000⟩ s) ∧
      (let s := modTest (fun r => { r with pulses := 3 }) testTurns
       s.vsq.vend = none ∧ s.vsq.test = some { aTest with motorOn := true, jamTimer := some 40, pulses := 3 } ∧
        s.mxd.latch = some (pairOf 1) ∧ s.lbu.motor.state = .held) := by
  unfold HomeHold; decide +kernel

theorem test_witness_JamStopsTheMotor :
    (let s := turning aVend
     s.vsq.vend = some turningVend ∧ turningVend.jamTimer = some 700 ∧ turningVend.dropSeen = false ∧ slotAt s 0 = some slot0) ∧
      (testTurns.vsq.vend = none ∧ testTurns.vsq.test = some { aTest with motorOn := true, jamTimer := some 40 } ∧
        (slotAt testTurns 1).isSome = true ∧ testTurns.mxd.latch.isSome = true ∧ testTurns.lbu.motor.state = .held) ∧
      (let s := turning { aVend with dropSeen := true }
       s.vsq.vend = some { turningVend with dropSeen := true } ∧ s.vsq.queue = [] ∧ s.lnk.queue.length < 3 ∧
        s.lnk.state ≠ .listenOnly ∧ turningVend.settled = false ∧ slotAt s 0 = some slot0) := by
  decide +kernel

theorem test_witness_DropAndItsWindow :
    (up.phase = .running ∧ up.vsq.vend = none) ∧
      (let s := turning aVend
       s.phase = .running ∧ s.vsq.vend = some turningVend ∧ turningVend.windowArmed = true ∧ s.vsq.state ≠ .dropWait) ∧
      (let s := waitingDrop aVend
       s.phase = .running ∧ s.vsq.vend = some waitingVend ∧ waitingVend.windowArmed = true ∧ s.vsq.state = .dropWait ∧
        waitingVend.payment ≠ .own ∧ slotAt s 0 = some slot0 ∧ s.vsq.queue = [] ∧ s.lnk.queue.length < 4 ∧
        s.lnk.state ≠ .listenOnly ∧ waitingVend.windowTimer = some 400 ∧ 0 < waitingVend.extraLeft ∧
        waitingVend.doorOpened = false ∧ waitingVend.settled = false ∧ tooWarm s slot0 = false) ∧
      (let s := waitingDrop { aVend with doorOpened := true }
       s.vsq.vend = some { waitingVend with doorOpened := true } ∧ s.vsq.state = .dropWait) := by decide +kernel

/-- The own session pays: the deciding drop, and the window that ends JAMMED, NO-PRODUCT and, by the door, ABORTED. -/
theorem test_witness_DropAndItsWindow_home :
    let jam := { homeVend with jammed := true }
    let door := { homeVend with doorOpened := true }
    let ran (v : Vend) : Vend := { v with windowTimer := some 400, windowArmed := true, extraLeft := 1 }
    (∀ v ∈ [homeVend, jam, door],
      let s := homeHolds (waitingDrop v)
      s.phase = .running ∧ s.vsq.vend = some (ran v) ∧ s.vsq.state = .dropWait ∧ slotAt s 0 = some slot0 ∧
        s.vsq.queue = [] ∧ s.lnk.queue.length < 3 ∧ s.lnk.state ≠ .listenOnly ∧ v.settled = false ∧ v.payment = .own ∧
        v.granted = some ⟨17, 7⟩ ∧ HomeHold ⟨17, 7⟩ ⟨3, 17, 100, 3000⟩ s) ∧
      ∀ v ∈ [homeVend, jam],
        (modVend (fun w => { w with extraLeft := 0 }) (homeHolds (waitingDrop v))).vsq.vend =
          some { ran v with extraLeft := 0 } := by
  unfold HomeHold; decide +kernel

/-! #### The matrix drive -/

/-- All-off is latched, the pair of slot 0 staged, and the MOTOR record HELD. -/
def staged : State := (turning aVend).modMxd fun m => { m with latch := none, hold := 0 }

theorem test_witness_DriveTickMovesTheLatch :
    State.reset.mxd.state ≠ .normal ∧
      (staged.phase ≠ .heldOff ∧ staged.mxd.state = .normal ∧ staged.mxd.latch = none ∧ staged.mxd.staging = some (pairOf 0) ∧
        staged.lbu.motor.state = .held) ∧
      (let s := (turning aVend).modMxd fun m => { m with staging := none }
       s.mxd.latch = some (pairOf 0) ∧ s.mxd.staging ≠ some (pairOf 0) ∧ s.vsq.state ≠ .settling ∧ s.vsq.state ≠ .testing) ∧
      (let s := up.modMxd fun m => { m with hold := 0, mismatch := 1 }
       s.mxd.state = .normal ∧ s.mxd.latch = none ∧ s.mxd.staging = none ∧ s.mxd.hold = 0 ∧ s.mxd.mismatch ≠ 0 ∧
        sensedLevel 1 0 0 ≠ latchedLevel s.mxd 0) := by decide +kernel

/-- The outcome is decided and settled while the pair is still latched; and a readback that compares nothing. -/
theorem test_witness_DriveTickMovesTheLatch_settling :
    (let v := { aVend with outcome := some .vended, endedBy := some .drop, settled := true }
     let s := (vending .settling v .held).modMxd fun m => { m with latch := some (pairOf 0), energised := some 10 }
     s.mxd.state = .normal ∧ s.mxd.latch = some (pairOf 0) ∧ s.mxd.staging ≠ some (pairOf 0) ∧ s.lbu.motor.state = .held ∧
      s.vsq.state = .settling ∧ s.vsq.vend = some v ∧ s.vsq.queue = [] ∧ s.lnk.queue.length < 7 ∧ s.lnk.state ≠ .listenOnly ∧
      s.lbu.compressor.state = .none ∧ s.lbu.heater.state = .none) ∧
      (let s := up.modMxd fun m => { m with hold := 1 }
       s.mxd.state = .normal ∧ s.mxd.hold ≠ 0 ∧ s.mxd.latch = none ∧ s.mxd.staging = none) := by decide +kernel

/-- The MOTOR load is released while the COMPRESSOR waits, in SETTLING and in TESTING: it passes at the lower own total alone. -/
theorem test_witness_DriveTickMovesTheLatch_others :
    let v := { aVend with outcome := some .vended, endedBy := some .drop, settled := true }
    let r := { aTest with budgetTimer := none, result := some .complete }
    ∀ s ∈ [waitsToo .compressor (vending .settling v .held), waitsToo .compressor (testing r .held)],
      let x := (modLoad .compressor (fun l => { l with amount := 150 }) s).modMxd fun m =>
        { m with latch := some (pairOf 0), energised := some 10 }
      x.mxd.state = .normal ∧ x.mxd.staging ≠ some (pairOf 0) ∧ x.lbu.motor.state = .held ∧ x.vsq.queue = [] ∧
        x.lnk.state ≠ .listenOnly ∧ isolated x = false ∧ x.lnk.queue.length < 5 ∧ fits .compressor x = false ∧
        classOrder.map (passedBeside .motor (ownTotal x - x.lbu.motor.amount) x) = [false, true, false] := by decide +kernel

/-- A test whose result stands while its pair is latched; a second disagreement in CLAIMING, RUNNING, DROP-WAIT and TESTING. -/
theorem test_witness_DriveTickMovesTheLatch_test_and_fault :
    (let r := { aTest with budgetTimer := none, result := some .complete }
     let s := (testing r .held).modMxd fun m => { m with latch := some (pairOf 1), energised := some 10 }
     s.mxd.state = .normal ∧ s.mxd.latch = some (pairOf 1) ∧ s.mxd.staging ≠ some (pairOf 1) ∧ s.lbu.motor.state = .held ∧
      s.vsq.state = .testing ∧ s.vsq.test = some r ∧ s.vsq.queue = [] ∧ s.lbu.compressor.state = .none ∧
      s.lbu.heater.state = .none ∧ s.lnk.queue.length < 7) ∧
      (∀ s ∈ [vending .claiming claimingVend .waiting, waitingDrop aVend, testing aTest .waiting],
        s.mxd.latch = none ∧ s.mxd.staging = none ∧ s.mxd.state = .normal ∧ s.vsq.queue = [] ∧ s.lnk.queue.length < 3 ∧
          s.lnk.state ≠ .listenOnly) ∧
      (let s := (turning aVend).modMxd fun m => { m with hold := 0, mismatch := 1 }
       s.mxd.latch ≠ none ∧ s.mxd.staging = s.mxd.latch ∧ s.lbu.motor.state = .held ∧ s.mxd.mismatch ≠ 0 ∧ s.mxd.hold = 0 ∧
        sensedLevel 0 0 0 ≠ latchedLevel s.mxd 0 ∧ turningVend.settled = false ∧ s.vsq.state = .running) := by decide +kernel

/-- A second disagreement in SETTLING, the MOTOR record HELD or given up, the settlement outstanding or over. -/
theorem test_witness_DriveTickMovesTheLatch_fault_in_settling :
    ∀ ended ∈ [false, true], ∀ l ∈ [LoadState.held, .none],
      let s := (vending .settling (decidedVend .insufficient ended) l).modMxd fun m => { m with hold := 0, mismatch := 1 }
      s.phase ≠ .heldOff ∧ s.mxd.state = .normal ∧ s.mxd.latch = none ∧ s.mxd.staging = none ∧ s.mxd.hold = 0 ∧
        s.mxd.mismatch ≠ 0 ∧ sensedLevel 1 0 0 ≠ latchedLevel s.mxd 0 ∧ s.vsq.vend = some (decidedVend .insufficient ended) ∧
        s.vsq.state = .settling ∧ s.lbu.motor.state = l ∧ s.vsq.queue = [] ∧ s.lnk.queue.length < 3 ∧
        s.lnk.state ≠ .listenOnly := by decide +kernel

theorem test_witness_CurrentSampleJudgesTheMotor :
    (let s := turning aVend
     s.mxd.latch = some (pairOf 0) ∧ s.mxd.energised = some 150 ∧ s.mxd.state = .normal ∧ s.mxd.supervision = true ∧
      s.mxd.samples = 0 ∧ (1 : Byte).toNat < s.params.openThreshold ∧ s.vsq.vend = some turningVend ∧
      turningVend.motorOn = true ∧ turningVend.dropSeen = false ∧ turningVend.payment ≠ .own ∧ slotAt s 0 = some slot0 ∧
      s.lbu.motor.state = .held) ∧
      (let s := (turning aVend).modMxd fun m => { m with samples := 4, stallRun := 2 }
       s.mxd.supervision = true ∧ s.mxd.samples ≠ 0 ∧ s.params.stallThreshold < (90 : Byte).toNat ∧ s.mxd.stallRun = 2) ∧
      (turning { aVend with dropSeen := true }).vsq.vend = some { turningVend with dropSeen := true } ∧
      (testTurns.mxd.latch = some (pairOf 1) ∧ testTurns.mxd.energised = some 150 ∧ testTurns.mxd.supervision = true ∧
        testTurns.mxd.samples = 0 ∧ (1 : Byte).toNat < testTurns.params.openThreshold ∧ (slotAt testTurns 1).isSome = true) := by
  decide +kernel

/-- A pair is latched with nothing in progress: the first sample reports MOTOR-OPEN, the fifth a stall; and the own session pays a
vend whose motor is open. -/
theorem test_witness_CurrentSampleJudgesTheMotor_idle_and_home :
    (∀ x ∈ [(0, 0), (4, 2)],
      let s := up.modMxd fun m =>
        { m with latch := some (pairOf 0), energised := some 150, supervision := true, samples := x.1, stallRun := x.2 }
      s.vsq.vend = none ∧ s.vsq.test = none ∧ s.mxd.state = .normal ∧ s.mxd.supervision = true ∧
        (1 : Byte).toNat < s.params.openThreshold ∧ s.params.stallThreshold < (90 : Byte).toNat) ∧
      (let s := turning homeVend
       (s.vsq.vend.map fun v => v.motorOn && !v.dropSeen && v.payment == .own) = some true ∧ s.mxd.samples = 0 ∧
        s.mxd.supervision = true ∧ slotAt s 0 = some slot0 ∧ s.lbu.motor.state = .held) := by decide +kernel

/-! #### Refrigeration -/

theorem test_witness_AverageUpdatesItsSensor : up.rfc.state ≠ .absent ∧ Sensor.evaporator ≠ .cabinet := by decide +kernel

/-- Eight samples of one code: 300 is 14.1, 471 is 1.7, 600 is -5.9 and 5 is outside (TABLE 8-8). -/
def samplesOf (code : Nat) : Vector (BitVec 10) 8 := Vector.replicate 8 (BitVec.ofNat 10 code)

/-- A vend of the chilled slot 2. -/
def coldVend : Vend := { newVend (pick 2 5) 150 with payment := .remote, granted := some ⟨17, 7⟩, budgetTimer := some 4 }

/-- The cabinet is sellable cold at 5.0, in a cooling state. -/
def sellsCold (f : Rfc → Rfc) (s : State) : State :=
  cooling (fun r => f { r with cabinet := validAt 50, evaporator := validAt (-40), sellableCold := true, warmTimer := none }) s

/-- An average at 14.1 loses the cold of a vend in CLAIMING and of a test before its grant; one at the sale limit keeps it; a first
one outside makes no event. -/
theorem test_witness_AverageUpdatesItsSensor_loss_of_cold :
    (let s := sellsCold id (vending .claiming coldVend .proposed)
     MakesEvent .cabinet (samplesOf 300) s ∧ cabinetCold (averageTaken .cabinet (samplesOf 300) s) = false ∧
      s.rfc.sellableCold = true ∧ EndedByLossOfCold s ∧ s.vsq.queue = [] ∧ s.lnk.queue.length < 3 ∧ s.lnk.state ≠ .listenOnly ∧
      s.lbu.motor.state = .proposed ∧ s.vsq.vend = some coldVend ∧ ChilledAt 2 s ∧ coldVend.settled = false ∧
      coldVend.granted = some ⟨17, 7⟩ ∧ coldVend.payment ≠ .own) ∧
      (let s := sellsCold id (testing { aTest with slot := 2 } .waiting)
       MakesEvent .cabinet (samplesOf 300) s ∧ isolated s = false ∧ s.vsq.vend = none ∧
        s.vsq.test = some { aTest with slot := 2 } ∧ s.vsq.state = .testing ∧ ChilledAt 2 s ∧ aTest.result = none ∧
        aTest.motorOn = false) ∧
      (let s := sellsCold id { up with params := { up.params with saleLimit := 17 } }
       MakesEvent .cabinet (samplesOf 471) s ∧ cabinetCold (averageTaken .cabinet (samplesOf 471) s) = true ∧
        (averaged .cabinet (samplesOf 471) s).reading = some 17 ∧ s.rfc.state = .offLockout ∧ s.lbu.motor.state ≠ .waiting) ∧
      ¬ MakesEvent .cabinet (samplesOf 5) (sellsCold id up) := by
  have chilled : ∀ s : State, slotAt s 2 = some ⟨150, 1, 0, true, .ready, none, 0, false⟩ → s.params.cooling = true →
      ChilledAt 2 s := fun s h c => ⟨_, h, rfl, c⟩
  refine ⟨⟨by unfold MakesEvent; decide +kernel, by decide +kernel, by decide +kernel,
      .inl ⟨coldVend, by decide +kernel, chilled _ (by decide +kernel) (by decide +kernel), by decide +kernel⟩,
      by decide +kernel, by decide +kernel, by decide +kernel, by decide +kernel, by decide +kernel,
      chilled _ (by decide +kernel) (by decide +kernel), by decide +kernel, by decide +kernel, by decide +kernel⟩,
    ⟨by unfold MakesEvent; decide +kernel, by decide +kernel, by decide +kernel, by decide +kernel, by decide +kernel,
      chilled _ (by decide +kernel) (by decide +kernel), by decide +kernel, by decide +kernel⟩,
    ⟨by unfold MakesEvent; decide +kernel, by decide +kernel⟩, by unfold MakesEvent; decide +kernel⟩

/-- In WANT, the COMPRESSOR record in a state, the cabinet sensor VALID or FAULTED. -/
def wanting (l : LoadState) (c : SensorRecord) : State :=
  cooling (fun r => { r with state := .want, lockoutTimer := none, cycleTimer := some 44, cabinet := c })
    (up.modLbu fun b => { b with compressor := { b.compressor with state := l, amount := 100, sequence := 9 } })

theorem test_witness_CoolingIsAskedFor :
    (up.rfc.state = .offLockout ∧ up.rfc.lockoutTimer = some 0 ∧ wantsCool (elapse 180000 (openEvent up)) = false ∧
        up.params.minOff = 180000) ∧
      (let s := cooling (fun r => { r with cabinet := validAt 90 }) up
       s.phase ≠ .heldOff ∧ s.lbu.compressor.state = .none ∧ s.rfc.state = .offLockout ∧ s.rfc.lockoutTimer = some 0 ∧
        s.rfc.cabinet.state = .valid ∧ s.rfc.cabinet.reading = some 90 ∧ cutIn s ≤ 90) ∧
      (let s := wanting .waiting (validAt 60)
       s.rfc.state = .want ∧ s.rfc.classAsked = .cool ∧ s.rfc.cycleTimer = some 44 ∧ s.lbu.compressor.state = .waiting) ∧
      (let s := queued [.purge 0, .claim .compressor .cool 100 9] (wanting .queued (validAt 60))
       s.lbu.compressor.state = .queued ∧ claimBegun .compressor 9 s = false ∧ s.lnk.queue.length < 8 ∧ s.lnk.state ≠ .listenOnly) ∧
      (let s := wanting .waiting { validAt 60 with state := .faulted, reading := none }
       s.rfc.cabinet.state = .faulted ∧ s.rfc.cycleTimer = some 44 ∧ s.lbu.compressor.state ≠ .held) := by decide +kernel

/-- The off timer stands at 20 min in OFF: with the sensor FAULTED it asks, with a VALID one nothing reads it. -/
theorem test_witness_CoolingIsAskedFor_off_timer :
    let s (c : SensorRecord) := cooling (fun r => { r with state := .off, lockoutTimer := none, offTimer := some 1200000, cabinet := c }) up
    (∀ c ∈ [validAt 90, { validAt 60 with state := .faulted, reading := none }],
      (s c).phase ≠ .heldOff ∧ (s c).lbu.compressor.state = .none ∧ (s c).rfc.state = .off ∧
        (s c).rfc.offTimer = some 1200000 ∧ (s c).rfc.cabinet.state = c.state) ∧
      (validAt 90).state ≠ .faulted := by decide +kernel

/-- The request passes, meets a full transmit queue, does not fit, and is decided by the solo rule; and one is withdrawn while
PROPOSED, the MOTOR record waiting. -/
theorem test_witness_CoolingIsAskedFor_request :
    let s := cooling (fun r => { r with cabinet := validAt 90 }) up
    let large (a : Nat) : State := { s with params := { s.params with startAmount := a } }
    let fit (s : State) : Bool :=
      decide (ownTotal s + otherClaims .compressor s + peerSum s + s.params.startAmount ≤ effectiveLimit s)
    (∀ x ∈ [s, queued (List.replicate 8 (.purge 0)) s, large 181, s.modLnk fun k => { k with heard := false }],
      x.phase ≠ .heldOff ∧ x.lbu.compressor.state = .none ∧ x.rfc.state = .offLockout ∧ x.rfc.lockoutTimer = some 0 ∧
        x.rfc.cabinet.reading = some 90 ∧ cutIn x ≤ 90) ∧
      (isolated s = false ∧ fit s = true ∧ fit (large 180) = true ∧ fit (large 181) = false) ∧
      (let w := waitsToo .motor (wanting .proposed { validAt 60 with state := .faulted, reading := none })
       w.lnk.queue.length < 5 ∧ w.lnk.state ≠ .listenOnly ∧ w.lbu.compressor.state = .proposed ∧ w.rfc.cabinet.state = .faulted ∧
        w.rfc.cycleTimer = some 44 ∧ classOrder.map (passedBeside .compressor (ownTotal w) w) = [true, false, false]) := by
  decide +kernel

/-- Set point and differential that put the cut-in or the cut-out at `t`. -/
def cutAt (t : Int) (s : State) : State := { s with params := { s.params with setPoint := t, differential := 0, urgentMargin := 10 } }

/-- A sensor FAULTED but for its third average inside, and one VALID but for its third outside. -/
def failing : SensorRecord := { validAt 50 with inRun := 0, outRun := 2 }

/-- The average reads exactly the cut-in in OFF, the cut-out in WANT, the urgent margin above it in WANT; and a sensor becomes
FAULTED with the timers of fixed duty past their limits. -/
theorem test_witness_CoolingIsAskedFor_by_a_reading :
    (let s := sellsCold (fun r => { r with state := .off, lockoutTimer := none }) (cutAt 17 up)
     MakesEvent .cabinet (samplesOf 471) s ∧ s.rfc.state = .off ∧ s.lbu.compressor.state = .none ∧
      (averageTaken .cabinet (samplesOf 471) s).rfc.cabinet.reading = some (cutIn s)) ∧
      (let s := cutAt 17 (wanting .waiting (validAt 60))
       MakesEvent .cabinet (samplesOf 471) s ∧ s.rfc.state = .want ∧ s.lbu.compressor.state = .waiting ∧
        (averageTaken .cabinet (samplesOf 471) s).rfc.cabinet.reading = some (cutOut s)) ∧
      (let s := cutAt 7 (wanting .proposed (validAt 60))
       MakesEvent .cabinet (samplesOf 471) s ∧ s.rfc.classAsked = .cool ∧
        (averageTaken .cabinet (samplesOf 471) s).rfc.cabinet.reading = some (urgentFrom s)) ∧
      (let s := cooling (fun r => { r with state := .off, lockoutTimer := none, offTimer := some 1199750, cabinet := failing }) up
       let u := averageTaken .cabinet (samplesOf 5) s
       MakesEvent .cabinet (samplesOf 5) s ∧ u.rfc.cabinet.state = .faulted ∧ u.rfc.offTimer = some 1200000) ∧
      (let s := cooling (fun r => { r with cycleTimer := some 599750 }) (wanting .queued failing)
       let u := averageTaken .cabinet (samplesOf 5) s
       MakesEvent .cabinet (samplesOf 5) s ∧ u.rfc.cabinet.state = .faulted ∧ u.rfc.cycleTimer = some 600000) := by
  unfold MakesEvent; decide +kernel

/-- The compressor is STARTING under its HELD record. -/
def coolStarting : State :=
  cooling (fun r => { r with state := .starting, lockoutTimer := none, startTimer := some 44, onTimer := some 44 })
    (up.modLbu fun b => { b with compressor := { b.compressor with state := .held, amount := 100 } })

theorem test_witness_CompressorRunsAndStops :
    (coolStarting.rfc.state = .starting ∧ coolStarting.rfc.startTimer = some 44 ∧ coolStarting.lbu.compressor.state = .held ∧
        LoadsSettled coolStarting) ∧
      (coolRunning.phase ≠ .heldOff ∧ coolRunning.rfc.state = .running ∧ coolRunning.lbu.compressor.state = .held ∧
        coolRunning.rfc.onTimer = some 50000 ∧ coolRunning.rfc.cabinet.state = .valid ∧
        coolRunning.rfc.cabinet.reading = some 20 ∧ 20 ≤ cutOut coolRunning ∧ coolRunning.rfc.defrostDue = false ∧
        1000 ≤ coolRunning.rfc.second + 10000) ∧
      (let s := cooling (fun r =>
         { r with defrostDue := true, onTimer := some 60000, cabinet := { validAt 60 with state := .faulted, reading := none } })
         coolRunning
       s.rfc.cabinet.state = .faulted ∧ s.rfc.cycleTimer = some 70000 ∧ s.params.minOn ≤ 60000 ∧ s.rfc.defrostDue = true ∧
        s.lbu.heater.state = .none) :=
  ⟨⟨by decide +kernel, by decide +kernel, by decide +kernel, settled_of (by decide +kernel)⟩, by decide +kernel, by decide +kernel⟩

/-- The HEATER waits at the end of the start window, and passes at the run amount alone; the MOTOR record waits at a stop, with and
without defrost due. -/
theorem test_witness_CompressorRunsAndStops_others :
    (let s := modLoad .heater (fun l => { l with amount := 90 }) (waitsToo .heater coolStarting)
     s.rfc.state = .starting ∧ s.rfc.startTimer = some 44 ∧ s.lbu.compressor.amount ≠ s.params.runAmount ∧
      s.lnk.queue.length < 6 ∧ s.lnk.state ≠ .listenOnly ∧ fits .heater s = false ∧
      classOrder.map (passedBeside .compressor (ownTotal s - s.lbu.compressor.amount + s.params.runAmount) s) =
        [false, false, true]) ∧
      (∀ due ∈ [true, false],
        let s := waitsToo .motor (cooling (fun r => { r with defrostDue := due }) coolRunning)
        s.phase ≠ .heldOff ∧ s.rfc.state = .running ∧ s.lbu.compressor.state = .held ∧ s.lnk.queue.length < 6 ∧
          s.lnk.state ≠ .listenOnly ∧ isolated s = false ∧ s.lbu.heater.state = .none ∧ s.lbu.motor.state = .waiting) := by
  decide +kernel

/-- The HEATER load is withdrawn at 10 min, and released at the maximum duration, while the MOTOR record waits. -/
theorem test_witness_DefrostAndHotHold_others :
    ∀ x ∈ [(HeaterMode.waiting, LoadState.proposed), (.heating, .held)],
      let s := waitsToo .motor (modLoad .heater (fun l => { l with state := x.2, amount := 50 })
        (cooling (fun r => { r with state := .defrostHeat, defrostTimer := some 44, heaterMode := some x.1 }) up))
      s.rfc.state = .defrostHeat ∧ s.rfc.defrostTimer = some 44 ∧ s.lnk.queue.length < 5 ∧ s.lnk.state ≠ .listenOnly ∧
        isolated s = false ∧ s.lbu.motor.state = .waiting ∧ s.lbu.heater.state = x.2 := by decide +kernel

theorem test_witness_DefrostAndHotHold :
    (let s := cooling (fun r => { r with state := .defrostHeat, defrostTimer := some 44, heaterMode := some .waiting })
       (up.modLbu fun b => { b with heater := { b.heater with state := .waiting } })
     s.rfc.state = .defrostHeat ∧ s.rfc.defrostTimer = some 44 ∧ s.rfc.heaterMode = some .waiting ∧ s.lbu.heater.state ≠ .held) ∧
      (let s := cooling (fun r => { r with state := .defrostDrip, dripTimer := some 44 }) up
       s.rfc.state = .defrostDrip ∧ s.rfc.dripTimer = some 44) ∧
      up.rfc.warmTimer = some 0 := by decide +kernel

/-- The average reads exactly the cut-out in RUNNING, at the minimum on time and 250 ms before it. -/
theorem test_witness_CompressorRunsAndStops_by_a_reading :
    let s (k : Nat) := cutAt 17 (cooling (fun r => { r with onTimer := some k, cabinet := validAt 60 }) coolRunning)
    let u (k : Nat) := averageTaken .cabinet (samplesOf 471) (s k)
    (∀ k ∈ [59500, 59750], MakesEvent .cabinet (samplesOf 471) (s k) ∧ (s k).rfc.state = .running ∧
      (s k).lbu.compressor.state = .held ∧ (u k).rfc.cabinet.reading = some (cutOut (s k))) ∧
      (u 59500).rfc.onTimer = some 59750 ∧ (u 59750).rfc.onTimer = some (s 0).params.minOn := by
  unfold MakesEvent; decide +kernel

/-- The evaporator reads exactly the defrost end temperature. -/
theorem test_witness_DefrostAndHotHold_coil_clear :
    let s := sellsCold (fun r => { r with state := .defrostHeat, lockoutTimer := none, defrostTimer := some 44, heaterMode := some .heating })
      { up with params := { up.params with defrostEnd := 17 } }
    let u := averageTaken .evaporator (samplesOf 471) s
    s.rfc.state = .defrostHeat ∧ MakesEvent .evaporator (samplesOf 471) s ∧ u.rfc.evaporator.state = .valid ∧
      u.rfc.evaporator.reading = some s.params.defrostEnd := by unfold MakesEvent; decide +kernel

/-! #### The bank load budget -/

/-- A claim of an amount of 10; a table with one entry of two claims and one of four. -/
def claimOf (k q : Byte) (age : Nat) : Claim := ⟨k, .vend, 10, q, age, false⟩
def claims : State :=
  up.modLbu fun b =>
    { b with
      peers :=
        [{ entry 5 50 300 with claims := [claimOf 1 3 20, claimOf 2 4 50] },
          { entry 9 0 0 with claims := [claimOf 1 3 20, claimOf 2 4 50, claimOf 4 3 20, claimOf 5 4 50] }, entry 15 0 0] }

theorem test_witness_PeerTableFollowsTheFrames :
    (claims.phase ≠ .heldOff ∧ (5 : Station) ≠ claims.ssu.own ∧ ((peerAt 5 claims).map fun e => e.claims.length) = some 2 ∧
        ((peerAt 9 claims).map fun e => e.claims.length) = some 4) ∧
      (peerAt 15 claims = some (entry 15 0 0) ∧ (entry 15 0 0).live = true) ∧
      ((peerAt 5 claims).bind fun e => e.claims.find? fun x => x.kind == 2) = some (claimOf 2 4 50) := by decide +kernel

/-- The three own records in states, each of an amount; a QUEUED one has its CLAIM in the transmit queue. -/
def ownLoads (a b c : LoadState) (amount : Nat) (s : State) : State :=
  let l (st : LoadState) (cls : ClaimClass) (q : Byte) : OwnLoad :=
    ⟨st, cls, amount, q, 300, decide (st = .waiting), false, if st = .proposed then some 10 else none⟩
  let t := s.modLbu fun x => { x with motor := l a .vend 11, compressor := l b .cool 12, heater := l c .defrost 13 }
  queued ((classOrder.filter fun k => (t.lbu.load k).state == .queued).map fun k =>
    .claim k (t.lbu.load k).cls (t.lbu.load k).amount (t.lbu.load k).sequence) t

/-- A STATUS of station 5 with total 180 and 40 of its own leave 30 of a limit of 250: of two QUEUED records of 20 the first is
given up and the second kept, and of two WAITING ones the first passes; the same on a station that is ISOLATED until then. -/
theorem test_witness_PeerTableFollowsTheFrames_own_records :
    let s := ownLoads .queued .queued .held 20 up
    let w := ownLoads .waiting .held .waiting 20 up
    let after (s : State) : State :=
      match exec (.statusReceived 5 0 2 180 300 0) s with
      | .next t => t
      | .fault _ => s
      | .refused _ => s
    (isolated s = false ∧ s.lnk.queue.length < 4 ∧ tableKey (after s) ≠ tableKey s ∧
        classOrder.map (keptClaims s (after s)) = [false, true, false]) ∧
      (isolated w = false ∧ tableKey (after w) ≠ tableKey w ∧
        classOrder.map (passedClaims (keptClaims w (after w)) w (after w)) = [true, false, false]) ∧
      (let n : State := { w with lnk := { w.lnk with heard := false } }
       n.lnk.state = .active ∧ n.lnk.heard = false ∧
        classOrder.map (passedClaims (claiming n) n (after n)) = [true, false, false]) := by decide +kernel

/-- A CLAIM of 200 by station 5 is objected to; not with the queue full, or in SILENT. -/
theorem test_witness_PeerTableFollowsTheFrames_object :
    announcedLimit up = 250 ∧ isolated up = false ∧ up.lnk.queue.length < 4 ∧
      (let t := { up with lbu := { up.lbu with peers := [{ entry 5 50 300 with claims := [⟨1, .vend, 200, 9, 0, false⟩] }, entry 9 0 0, entry 15 0 0] } }
       effectiveLimit t < objectionView t) ∧
      (LoadsSettled (queued (List.replicate 8 (.purge 0)) up) ∧ isolated (queued (List.replicate 8 (.purge 0)) up) = false) ∧
      (LoadsSettled silentWaits ∧ silentWaits.lnk.state ≠ .active) := by
  exact ⟨by decide +kernel, by decide +kernel, by decide +kernel, by decide +kernel,
    ⟨settled_of (by decide +kernel), by decide +kernel⟩, settled_of (by decide +kernel), by decide +kernel⟩

/-- The MOTOR record WAITING. -/
def waitingLoad (f : OwnLoad → OwnLoad) : State :=
  up.modLbu fun b => { b with motor := f { b.motor with state := .waiting, amount := 60, waitAge := 20 } }

theorem test_witness_WaitingRecordIsTestedAgain :
    (let s := waitingLoad fun l => { l with heldOff := true }
     s.lbu.motor.state = .waiting ∧ isolated s = false ∧ s.lbu.motor.heldOff = true ∧ fits .motor s = true ∧
      s.lnk.queue.length < 8) ∧
      (let s := waitingLoad fun l => { l with metFull := true, amount := 200 }
       s.lbu.motor.heldOff = false ∧ s.lbu.motor.metFull = true ∧ fits .motor s = false) := by decide +kernel

/-- ISOLATED, the amount exactly within the solo allowance, and one above it. -/
theorem test_witness_WaitingRecordIsTestedAgain_solo :
    let s (a : Nat) : State :=
      let w := waitingLoad fun l => { l with heldOff := true, amount := a }
      { w with lnk := { w.lnk with heard := false } }
    isolated (s 63) = true ∧ ownTotal (s 63) + 63 = soloAllowance (s 63) ∧ soloAllowance (s 64) < ownTotal (s 64) + 64 ∧
      (s 63).lbu.motor.heldOff = true ∧ (s 63).lbu.compressor.state ≠ .waiting ∧ (s 63).lbu.heater.state ≠ .waiting ∧
      (s 63).vsq.vend = none := by decide +kernel

/-- The MOTOR record PROPOSED with an amount. -/
def proposed (a : Nat) : State :=
  (vending .claiming aVend .proposed).modLbu fun b => { b with motor := { b.motor with amount := a, sequence := 6 } }

theorem test_witness_ProposedRecordIsDecided :
    (Known 5 (proposed 60) ∧ LoadsSettled (proposed 60) ∧ ¬ Awaits .status (proposed 60)) ∧
      ((proposed 60).ssu.own ≠ 0 ∧ (proposed 60).lnk.queue.length < 7 ∧ (proposed 60).lnk.state ≠ .listenOnly ∧
        (proposed 60).lbu.motor.state = .proposed ∧ (proposed 60).lbu.motor.sequence = 6 ∧
        (proposed 60).lbu.motor.window = some 10 ∧ fits .motor (proposed 60) = true ∧ (proposed 60).vsq.state = .claiming ∧
        (proposed 60).vsq.vend = some aVend ∧ slotAt (proposed 60) 0 = some slot0 ∧ tooWarm (proposed 60) slot0 = false) ∧
      (fits .motor (proposed 600) = false ∧ (proposed 600).lbu.motor.window = some 10) :=
  ⟨⟨known_of (by decide +kernel), settled_of (by decide +kernel), by unfold Awaits; decide +kernel⟩, by decide +kernel,
    by decide +kernel⟩

/-- The HEATER waits while the MOTOR record is defeated, fails at its window's end, and is granted; it passes in the first two. -/
theorem test_witness_ProposedRecordIsDecided_others :
    (Known 5 (waitsToo .heater (proposed 60)) ∧ Known 5 (waitsToo .heater (proposed 600))) ∧
      (∀ a ∈ [60, 600],
        let s := waitsToo .heater (proposed a)
        s.lbu.motor.state = .proposed ∧ s.lbu.motor.window = some 10 ∧ s.lnk.queue.length < 5 ∧ isolated s = false ∧
          s.lnk.state ≠ .listenOnly ∧ fits .motor s = decide (a = 60) ∧
          classOrder.map (passedBeside .motor (ownTotal s) s) = [false, false, true]) ∧
      (let s := modLoad .heater (fun l => { l with amount := 121 }) (waitsToo .heater (proposed 60))
       fits .motor s = true ∧ classOrder.map (passedBeside .motor (ownTotal s + 60) s) = [false, false, false]) :=
  ⟨⟨known_of (by decide +kernel), known_of (by decide +kernel)⟩, by decide +kernel⟩

/-- The MOTOR record of a motor test is PROPOSED. -/
theorem test_witness_ProposedRecordIsDecided_test :
    let s := modLoad .motor (fun l => { l with window := some 10, sequence := 6 }) (testing aTest .proposed)
    LoadsSettled s ∧ ¬ Awaits .status s ∧ (s.lbu.load .motor).state = .proposed ∧ (s.lbu.load .motor).window = some 10 ∧
      fits .motor s = true ∧ s.vsq.state = .testing ∧ s.vsq.vend = none ∧ s.vsq.test = some aTest ∧ aTest.result = none ∧
      aTest.motorOn = false ∧ (slotAt s 1).isSome = true :=
  ⟨settled_of (by decide +kernel), by unfold Awaits; decide +kernel, by decide +kernel⟩

/-- The MOTOR record of a vend of the chilled slot is PROPOSED, and the cabinet is not sellable cold. -/
theorem test_witness_ProposedRecordIsDecided_too_warm :
    let s := modLoad .motor (fun l => { l with window := some 10, sequence := 6 }) (vending .claiming coldVend .proposed)
    let x : Slot := ⟨150, 1, 0, true, .ready, none, 0, false⟩
    (LoadsSettled s ∧ ¬ Awaits .status s) ∧ s.lbu.motor.state = .proposed ∧ s.lbu.motor.window = some 10 ∧
      fits .motor s = true ∧ s.vsq.state = .claiming ∧ s.lnk.queue.length < 5 ∧ s.vsq.queue = [] ∧ s.mxd.latch = none ∧
      s.vsq.vend = some coldVend ∧ slotAt s 2 = some x ∧ tooWarm s x = true ∧ coldVend.settled = false :=
  ⟨⟨settled_of (by decide +kernel), by unfold Awaits; decide +kernel⟩, by decide +kernel⟩

/-! #### The bank link -/

theorem test_witness_FramesAreReadBack :
    ((⟨6, 5, 6, 0, [7]⟩ : Wire).payload.length ≤ 12) ∧ (Instr.purgeReceived 5 0 7).wellFormed = true ∧
      wireOf (.purgeReceived 5 0 7) = some ⟨6, 5, 6, 0, [7]⟩ ∧ (5 : Station) ≠ 3 := by decide

theorem test_witness_OneWrongBitIsABadFrame :
    (⟨6, 5, 6, 0, [7]⟩ : Wire).payload.length ≤ 12 ∧ 43 < (⟨6, 5, 6, 0, [7]⟩ : Wire).bits.length := by decide +kernel

theorem test_witness_FramesTheBlocksDoNotUse :
    up.phase ≠ .heldOff ∧ Known 5 up ∧ Known 15 up ∧ (4 : Station) ≠ up.ssu.own :=
  ⟨by decide +kernel, known_of (by decide +kernel), known_of (by decide +kernel), by decide +kernel⟩

theorem test_witness_AddressConflictSilencesTheStation :
    up.phase ≠ .heldOff ∧ up.lnk.state ≠ .listenOnly ∧
      ({ up with lnk := { up.lnk with state := .listenOnly } } : State).lnk.state = .listenOnly := by decide +kernel

/-- The solo rule grants the first of a WAITING and two claiming records that is decided, and no other. -/
theorem test_witness_AddressConflictSilencesTheStation_solo :
    let s := ownLoads .waiting .queued .proposed 60 up
    isolated s = false ∧ s.phase ≠ .heldOff ∧ s.lnk.state = .active ∧ s.lnk.queue.length < 5 ∧ s.vsq.vend = none ∧
      classOrder.map (soloGrants s) = [false, true, false] := by decide +kernel

theorem test_witness_FrameIsOfferedByClass :
    let s := queued [.status, .credit, .release .motor 3, .release .heater 4] up
    s.phase = .running ∧ s.lnk.state ≠ .silent ∧ (∀ x ∈ s.lnk.queue, x.onBus = none) ∧
      s.lnk.queue[2]? = some (TxEntry.fresh (.release .motor 3)) ∧ bestPlace s.lnk.queue = some 2 := by decide +kernel

/-- A frame is under transmission behind a waiting CREDIT, after `a` failures of its own and `n` in a row. -/
def onItsWay (f : Frame) (a n : Nat) : State :=
  up.modLnk fun l =>
    { l with failures := n, queue := [TxEntry.fresh .credit, { frame := f, attempts := a, onBus := some (compose up f) }] }

theorem test_witness_AttemptsEnd :
    (let s := onItsWay .status 0 3
     (s.lnk.queue.find? fun x => x.onBus.isSome) = some { frame := .status, attempts := 0, onBus := some (compose up .status) } ∧
      s.lnk.failures < 15 ∧ s.lnk.state = .active ∧ (s.lnk.queue.any fun e => e.frame == .status && e.onBus == none) = false) ∧
      (let s := modLoad .motor (fun l => { l with state := .queued, sequence := 4 }) (onItsWay (.claim .motor .vend 60 4) 0 3)
       (s.lnk.queue.find? fun x => x.onBus.isSome) =
          some { frame := .claim .motor .vend 60 4, attempts := 0, onBus := some (compose up (.claim .motor .vend 60 4)) } ∧
        (s.lbu.load .motor).state = .queued ∧ (s.lbu.load .motor).sequence = 4) ∧
      ((onItsWay .status 2 3).lnk.failures < 15 ∧ 15 ≤ (onItsWay .status 2 15).lnk.failures) := by decide +kernel

/-- A CLAIM at its third failure, its record QUEUED; and a CREDIT of which a newer one waits. -/
theorem test_witness_AttemptsEnd_claim_and_superseded :
    (let s := modLoad .motor (fun l => { l with state := .queued, sequence := 4 }) (onItsWay (.claim .motor .vend 60 4) 2 3)
     isolated s = false ∧ (s.lbu.load .motor).state = .queued ∧ (s.lbu.load .motor).sequence = 4 ∧
      (s.lbu.load .motor).heldOff = false ∧ s.lbu.compressor.state ≠ .waiting ∧ s.lbu.heater.state ≠ .waiting ∧
      s.lnk.failures < 15 ∧ s.lnk.queue.length ≤ 8) ∧
      (superseding .credit = true ∧ Awaits .credit (onItsWay .credit 2 3) ∧ (onItsWay .credit 2 3).lnk.failures < 15) := by
  unfold Awaits; decide +kernel

/-- The one STATUS of an address conflict is on the bus. -/
theorem test_witness_AttemptsEnd_listening :
    let s := listening up
    let e : TxEntry := { frame := .status, attempts := 0, onBus := some (compose s .status) }
    let t := s.modLnk fun l => { l with queue := [e] }
    t.lnk.state = .listenOnly ∧ (t.lnk.queue.find? fun x => x.onBus.isSome) = some e := by decide +kernel

/-- The sixteenth failure in a row, of a STATUS, with the MOTOR record PROPOSED. -/
theorem test_witness_AttemptsEnd_solo :
    let s := modLoad .motor (fun l => { l with state := .proposed, amount := 200 }) (onItsWay .status 0 15)
    isolated s = false ∧ s.lnk.state = .active ∧ 15 ≤ s.lnk.failures ∧ s.lnk.queue.length < 5 ∧ s.vsq.vend = none ∧
      ((s.lnk.queue.find? fun x => x.onBus.isSome).map TxEntry.frame) = some .status ∧
      classOrder.map (soloGrants s) = [false, false, false] := by decide +kernel

theorem test_witness_LinkTimersExpire :
    (silentWaits.lnk.state = .silent ∧ silentWaits.lnk.silentTimer = some 50 ∧ silentWaits.lnk.heard = true) ∧
      (up.lnk.periodTimer = some 100 ∧ HasRoom .status up ∧ up.lnk.heard = true) ∧
      ¬ HasRoom .status (queued (List.replicate 8 (.purge 0)) up) := by unfold HasRoom Awaits; decide +kernel

/-- ISOLATED begins with a PROPOSED record that fails by the solo rule, and ends with a WAITING one that fits. -/
theorem test_witness_LinkTimersExpire_loads :
    (let s := ownLoads .proposed .none .held 60 up
     s.lnk.heard = true ∧ isolated s = false ∧ s.vsq.vend = none ∧ s.lnk.queue.length < 5 ∧
      classOrder.map (soloGrants s) = [false, false, false]) ∧
      (let s := ownLoads .waiting .none .held 60 silentWaits
       s.lnk.heard = true ∧ s.lnk.state = .silent ∧ s.lnk.silentTimer = some 50 ∧ s.lnk.queue.length < 5 ∧
        classOrder.map (passedClaims (claiming s) s s) = [true, false, false]) := by decide +kernel

/-! #### Start-up and service -/

theorem test_witness_ReconciliationStartsThePart :
    let s : State := { up with phase := .enabled }
    s.phase = .enabled ∧ s.lnk.queue = [] ∧ s.lnk.state ≠ .listenOnly ∧
      tubeAt s 1 = some ⟨2, 10, 100, 5, 80, 2, 20, .normal⟩ := by decide +kernel

theorem test_witness_PowerUpBringsThePartUp :
    (readImage (.answered anImage 7 7) = some anImage ∧ readImage (.answered anImage 7 8) = none ∧ readImage .noAnswer = none) ∧
      (imageTube (.answered anImage 7 7) 1 = some ⟨2, 255, 5, 80, 255⟩ ∧ imageTube (.answered anImage 7 7) 6 = none) ∧
      ((imageSlot 3 (.answered anImage 7 7) 0).isSome = true ∧ imageSlot 3 (.answered anImage 7 7) 1 = none ∧
        imageSlot 15 (.answered anImage 7 7) 0 = none) := by decide +kernel

/-- A station in SILENT, one in LISTEN-ONLY, one that has heard nothing yet, and one with a full queue that does not know the tool:
each hears it. -/
def silenced : State := { silentWaits with pending := [] }
def unheard : State := up.modLnk fun l => { l with heard := false, isolationTimer := 2000 }
def crowded : State := queued (List.replicate 8 (.purge 0)) { up with lbu := { up.lbu with peers := [entry 5 50 300] } }

theorem test_witness_hears : Hears 15 silenced ∧ Hears 15 (listening up) ∧ Hears 15 unheard ∧ Hears 15 crowded :=
  ⟨hears_of (by decide +kernel) (settled_of (by decide +kernel)), hears_of (by decide +kernel) (settled_of (by decide +kernel)),
    hears_of (by decide +kernel) (settled_of (by decide +kernel)), hears_of (by decide +kernel) (settled_of (by decide +kernel))⟩

/-- Not busy: in SILENT, in LISTEN-ONLY, with a full queue; an own record of each kind for the tool that is known; each kind of
cooling state; and tubes and slots before and after. -/
theorem test_witness_RestartKeepsAndClears_silenced :
    (∀ s ∈ [silenced, listening up, unheard, crowded], restartBusy s = false ∧ s.ssu.own ≠ 0 ∧ ∀ k ∈ classOrder, (s.lbu.load k).state = .none) ∧
      (let s := modLoad .compressor (fun l => { l with state := .queued, amount := 100, sequence := 4 })
        (modLoad .heater (fun l => { l with state := .proposed, sequence := 6 }) (cooling (fun r => { r with state := .want, lockoutTimer := none }) up))
       hears 15 s = true ∧ restartBusy s = false ∧ s.rfc.state ≠ .absent ∧ s.rfc.state ≠ .running ∧ s.lbu.compressor.state = .queued ∧
        s.lbu.heater.state = .proposed) ∧
      (let s := cooling (fun r => { r with state := .defrostHeat, lockoutTimer := none, heaterMode := some .heating, defrostTimer := some 5 }) up
       s.rfc.state = .defrostHeat ∧ restartBusy s = false) ∧
      (up.rfc.state = .offLockout ∧ up.rfc.lockoutTimer = some 0) ∧
      (let p : ParamRead := .answered anImage 7 7
       (imageTube p 1).isSome = true ∧ (tubeAt up 1).map Tube.state = some .normal ∧ (imageTube p 4).isSome = true ∧
        (tubeAt up 4).map Tube.state = some .disabled ∧ imageTube p 6 = none ∧ (imageSlot 3 p 0).isSome = true ∧
        (slotAt up 0).isSome = true ∧ imageSlot 3 p 1 = none ∧ (imageSlot 3 p 2).isSome = true ∧
        slotAt { up with vsq := { up.vsq with slots := [] } } 2 = none) := by decide +kernel

theorem test_witness_RestartKeepsAndClears :
    Hears 15 up ∧ up.ssu.own ≠ 0 ∧ restartBusy up = false ∧ Hears 15 opened ∧ restartBusy opened = true :=
  ⟨hears_known (by decide +kernel), by decide +kernel, by decide +kernel, hears_known (by decide +kernel),
    by decide +kernel⟩

theorem test_witness_RestartKeepsAndClears_alone :
    let s := cooling (fun _ => absentRfc) up
    restartBusy s = false ∧ (∀ k ∈ [LoadKind.motor, .compressor, .heater], (s.lbu.load k).state = .none) ∧
      s.rfc.state = .absent := by decide +kernel

theorem test_witness_ToolReadsAreAnswered :
    Hears 15 opened ∧ opened.ssu.own ≠ 0 ∧
      (recordBytes 1 1 (hearing 15 opened)).isSome = true ∧ recordBytes 2 5 (hearing 15 opened) = none ∧
      ((recordBytes 1 1 (hearing 15 opened)).map fun b => decide (b.length ≤ 10)) = some true :=
  ⟨hears_known (by decide +kernel), by decide +kernel, by decide +kernel, by decide +kernel, by decide +kernel⟩

theorem test_witness_SlotRequestsSetTheRecord :
    Hears 15 up ∧ up.ssu.own ≠ 0 ∧ slotAt up 0 ≠ none ∧ slotAt up 79 = none :=
  ⟨hears_known (by decide +kernel), by decide +kernel⟩

/-- With a full queue and in LISTEN-ONLY slot 0 is there all the same. -/
theorem test_witness_SlotRequestsSetTheRecord_unanswered :
    (Hears 15 crowded ∧ crowded.lnk.queue.length = 8 ∧ slotAt crowded 0 ≠ none) ∧
      (Hears 15 (listening up) ∧ (listening up).lnk.state = .listenOnly ∧ slotAt (listening up) 0 ≠ none) :=
  ⟨⟨test_witness_hears.2.2.2, by decide +kernel⟩, test_witness_hears.2.1, by decide +kernel⟩

/-- The door stands open, a drive fault and HOT-HOLD stand, and slot 3 is JAMMED. -/
def atService : State :=
  { up with
    inputs := { up.inputs with door := Filter.standing true }
    mxd := { up.mxd with state := .fault }
    rfc := { up.rfc with hotHold := true, warmTimer := none } }

theorem test_witness_ServiceRequestsActAndAnswer :
    (Hears 15 atService ∧ Hears 15 up) ∧
      (atService.ssu.own ≠ 0 ∧ atService.lnk.queue.length < 7 ∧ (tubeAt atService 3).map Tube.state = some .dry ∧
        (slotAt atService 3).map Slot.state = some .jammed ∧ tubeAt atService 5 = none ∧ slotAt atService 79 = none ∧ doorOpen atService = true ∧ atService.mxd.state = .fault ∧
        atService.rfc.hotHold = true) ∧
      (doorOpen up = false ∧ up.mxd.state ≠ .fault ∧ up.rfc.hotHold = false) :=
  ⟨⟨hears_known (by decide +kernel), hears_known (by decide +kernel)⟩, by decide +kernel, by decide +kernel⟩

/-- The same targets in LISTEN-ONLY, and with a full queue. -/
theorem test_witness_ServiceRequestsActAndAnswer_unanswered :
    ∀ s ∈ [listening atService, queued (List.replicate 8 (.purge 0)) atService],
      Hears 15 s ∧ s.ssu.own ≠ 0 ∧ (s.lnk.state = .listenOnly ∨ 8 ≤ s.lnk.queue.length) ∧ doorOpen s = true ∧
        (tubeAt s 3).map Tube.state = some .dry ∧ s.mxd.state = .fault ∧ s.rfc.hotHold = true := by
  intro s h
  have l : LoadsSettled s := by
    rcases List.mem_cons.mp h with rfl | h
    · exact settled_of (by decide +kernel)
    · cases List.mem_singleton.mp h; exact settled_of (by decide +kernel)
  refine ⟨hears_of ?_ l, ?_⟩
  all_goals
    rcases List.mem_cons.mp h with rfl | h
    · decide +kernel
    · cases List.mem_singleton.mp h; decide +kernel

theorem test_witness_MotorTestAndForgottenPeer :
    let s : State := { up with inputs := { up.inputs with door := Filter.standing true } }
    Hears 15 s ∧ s.ssu.own ≠ 0 ∧ s.lnk.queue.length < 4 ∧ s.params.matrix = true ∧ doorOpen s = true ∧ s.vsq.state = .idle ∧
      s.mxd.state ≠ .fault ∧ s.lbu.motor.state = .none ∧ (slotAt s 1).isSome = true ∧ slotAt s 79 = none ∧
      ((hearing 15 s).lbu.peers.map fun e => e.station.toNat) = [5, 9, 15] :=
  ⟨hears_known (by decide +kernel), by decide +kernel⟩

/-- In LISTEN-ONLY the MOTOR load fits the solo allowance of 83 beside the base load, and does not with a motor of 70. -/
theorem test_witness_MotorTestAndForgottenPeer_isolated :
    let s : State := { listening up with inputs := { up.inputs with door := Filter.standing true } }
    Hears 15 s ∧ s.lnk.state ≠ .active ∧ doorOpen s = true ∧ s.vsq.state = .idle ∧ s.mxd.state ≠ .fault ∧ s.lbu.motor.state = .none ∧
      (slotAt s 1).map (tooWarm s) = some false ∧ ownTotal s + s.params.motorAmount ≤ soloAllowance s ∧
      soloAllowance s < ownTotal s + 70 :=
  ⟨hears_of (by decide +kernel) (settled_of (by decide +kernel)), by decide +kernel⟩

/-- A full queue has no place for the CLAIM of a test whose load fits. -/
theorem test_witness_MotorTestAndForgottenPeer_no_place :
    let s : State := { crowded with inputs := { up.inputs with door := Filter.standing true } }
    Hears 15 s ∧ s.params.matrix = true ∧ doorOpen s = true ∧ s.vsq.state = .idle ∧ s.lbu.motor.state = .none ∧
      8 ≤ (hearing 15 s).lnk.queue.length ∧ isolated (hearing 15 s) = false ∧ (slotAt s 1).map (tooWarm s) = some false ∧
      ownTotal s + otherClaims .motor s + peerSum (hearing 15 s) + s.params.motorAmount ≤ effectiveLimit s :=
  ⟨hears_of (by decide +kernel) (settled_of (by decide +kernel)), by decide +kernel⟩

/-- With a full queue the tool's own entry, made by its frame, can be forgotten. -/
theorem test_witness_MotorTestAndForgottenPeer_crowded :
    Hears 15 crowded ∧ LoadsSettled crowded ∧ 8 ≤ crowded.lnk.queue.length ∧
      ((hearing 15 crowded).lbu.peers.map fun e => e.station.toNat) = [5, 15] :=
  ⟨test_witness_hears.2.2.2, settled_of (by decide +kernel), by decide +kernel⟩

/-- A drive fault stands; and slot 2 is chilled in a cabinet that is not sellable cold. -/
theorem test_witness_MotorTestAndForgottenPeer_at_once :
    let s : State := { up with inputs := { up.inputs with door := Filter.standing true } }
    (Hears 15 s ∧ Hears 15 atService) ∧ (atService.mxd.state = .fault ∧ doorOpen atService = true ∧ atService.vsq.state = .idle ∧
        (slotAt atService 2).isSome = true ∧ atService.lbu.motor.state = .none ∧ atService.vsq.queue = []) ∧
      doorOpen s = true ∧ s.mxd.state ≠ .fault ∧ (slotAt s 2).map (tooWarm s) = some true ∧ s.lnk.queue.length < 4 ∧
      s.vsq.queue = [] :=
  ⟨⟨hears_known (by decide +kernel), hears_known (by decide +kernel)⟩, by decide +kernel, by decide +kernel⟩

end Sys2Proof.Tests
end

section
/-! PROOFS. The law of the tube records (R13 to R16), place by place: what may stand in the place of a record, and the tubes of an
image. -/

namespace Sys2Proof.Machine.Intake

-- One after the other, as in the Frames files: side by side, this many small lemmas take more memory than a check has.
set_option Elab.async false

open Laws

/-! ### The law of a list of tube records (R13 to R16) -/

/-- `TubesLaw` speaks of the tube records alone; this is what it says of them. -/
structure LawfulTubes (l : List (Option Tube)) : Prop where
  each : ∀ t, some t ∈ l → TubeLaw t
  distinct : l.Pairwise fun a b =>
    ∀ t u, a = some t → b = some u → t.state ≠ .disabled → u.state ≠ .disabled → t.denomination ≠ u.denomination

theorem tubesLaw_iff (s : State) : TubesLaw s ↔ LawfulTubes s.cnu.tubes :=
  ⟨fun h => ⟨h.each, h.distinct⟩, fun h => ⟨h.each, h.distinct⟩⟩

theorem tubesLaw_congr {s t : State} (law : TubesLaw s) (h : t.cnu.tubes = s.cnu.tubes) : TubesLaw t := by
  rw [tubesLaw_iff] at law ⊢
  rwa [h]

theorem lawfulTubes_nil : LawfulTubes [] := ⟨by simp, .nil⟩

theorem lawfulTubes_none (r : List (Option Tube)) : LawfulTubes (none :: r) ↔ LawfulTubes r := by
  constructor
  · rintro ⟨each, distinct⟩
    exact ⟨fun t h => each t (.tail _ h), distinct.of_cons⟩
  · rintro ⟨each, distinct⟩
    exact ⟨fun t h => each t (by simpa using h), .cons (by simp) distinct⟩

theorem lawfulTubes_some (t : Tube) (r : List (Option Tube)) :
    LawfulTubes (some t :: r) ↔
      TubeLaw t ∧ LawfulTubes r ∧
        ∀ u, some u ∈ r → t.state ≠ .disabled → u.state ≠ .disabled → t.denomination ≠ u.denomination := by
  constructor
  · rintro ⟨each, distinct⟩
    exact ⟨each t (.head _), ⟨fun u h => each u (.tail _ h), distinct.of_cons⟩,
      fun u hu => List.rel_of_pairwise_cons distinct hu t u rfl rfl⟩
  · rintro ⟨law, ⟨each, distinct⟩, apart⟩
    refine ⟨fun u h => ?_, .cons ?_ distinct⟩
    · rcases List.mem_cons.mp h with e | h
      · exact Option.some.inj e ▸ law
      · exact each u h
    · rintro b hb t' u ⟨⟩ rfl
      exact apart u hb

/-- The record `b` may stand in the place of `a`: present as `a` is, of its denomination, in use as `a` is, and lawful if `a`
is. -/
inductive Replaces : Option Tube → Option Tube → Prop
  | none : Replaces none none
  | some {t u : Tube} (law : TubeLaw t → TubeLaw u) (denomination : u.denomination = t.denomination)
      (disabled : u.state = .disabled ↔ t.state = .disabled) : Replaces (some t) (some u)

theorem Replaces.refl : (a : Option Tube) → Replaces a a
  | .none => .none
  | .some _ => .some id rfl Iff.rfl

theorem Replaces.ofSome {a : Option Tube} {u : Tube} (h : Replaces a (.some u)) :
    ∃ t, a = .some t ∧ u.denomination = t.denomination ∧ (u.state = .disabled ↔ t.state = .disabled) := by
  cases h with
  | some _ hd hs => exact ⟨_, rfl, hd, hs⟩

/-- Records replaced place by place keep the law of the list. -/
theorem lawfulTubes_replaced {l l' : List (Option Tube)} (h : List.Forall₂ Replaces l l') (hl : LawfulTubes l) :
    LawfulTubes l' := by
  induction h with
  | nil => exact lawfulTubes_nil
  | @cons a b r r' hab hr ih =>
    cases hab with
    | none => exact (lawfulTubes_none _).mpr (ih ((lawfulTubes_none _).mp hl))
    | @some t u law denomination disabled =>
      obtain ⟨ht, hrest, apart⟩ := (lawfulTubes_some _ _).mp hl
      refine (lawfulTubes_some _ _).mpr ⟨law ht, ih hrest, fun v hv hu hv' => ?_⟩
      obtain ⟨a, ha, hav⟩ : ∃ a ∈ r, Replaces a (.some v) := by
        obtain ⟨i, hi, e⟩ := List.getElem_of_mem hv
        have hi' : i < r.length := hr.length_eq ▸ hi
        exact ⟨r[i], List.getElem_mem hi', by simpa [e] using hr.get hi' hi⟩
      obtain ⟨w, rfl, hd, hs⟩ := hav.ofSome
      rw [denomination, hd]
      exact apart w ha (mt disabled.mpr hu) (mt hs.mpr hv')

theorem forall₂_replaces_refl (l : List (Option Tube)) : List.Forall₂ Replaces l l :=
  List.forall₂_same.mpr fun a _ => .refl a

/-! ### What the operations on one tube record keep -/

/-- The change `f` of a tube record keeps its law, its denomination and whether it is in use. -/
def KeepsTube (f : Tube → Tube) : Prop := ∀ t, Replaces (some t) (some (f t))

theorem KeepsTube.comp {f g : Tube → Tube} (hg : KeepsTube g) (hf : KeepsTube f) : KeepsTube (g ∘ f) := by
  intro t
  cases hf t with
  | some law hd hs =>
    cases hg (f t) with
    | some law' hd' hs' => exact .some (law' ∘ law) (hd'.trans hd) (hs'.trans hs)

theorem withCount_keeps (n : Nat) : KeepsTube (Tube.withCount n) := fun t =>
  .some
    (fun h =>
      { capacity := h.capacity, reserve := h.reserve, marks := h.marks
        count := by unfold Tube.withCount; dsimp only; split <;> omega
        disabledEmpty := fun e => if_pos e })
    rfl Iff.rfl

theorem revive_keeps : KeepsTube Tube.revive := fun t => by
  have same : t.revive.state = .disabled ↔ t.state = .disabled := by
    cases h : t.state <;> simp [Tube.revive, h]
  exact .some
    (fun h =>
      { capacity := h.capacity, reserve := h.reserve, count := h.count
        disabledEmpty := h.disabledEmpty ∘ same.mp, marks := h.marks ∘ mt same.mpr })
    rfl same

theorem goDry_keeps : KeepsTube Tube.goDry := fun t => by
  have same : t.goDry.state = .disabled ↔ t.state = .disabled := by
    cases h : t.state <;> simp [Tube.goDry, h]
  exact .some
    (fun h =>
      { capacity := h.capacity, reserve := h.reserve, count := Nat.zero_le _
        disabledEmpty := fun _ => rfl, marks := h.marks ∘ mt same.mpr })
    rfl same

theorem takeCoin_keeps : KeepsTube Tube.takeCoin := fun t => (revive_keeps.comp (withCount_keeps (t.count + 1))) t

theorem giveCoin_keeps : KeepsTube Tube.giveCoin := fun t => withCount_keeps (t.count - 1) t

theorem setCount_keeps (n : Nat) : KeepsTube (Tube.setCount n) := revive_keeps.comp (withCount_keeps n)

theorem reconcile_keeps (empty full : Bool) : KeepsTube (Tube.reconcile empty full) := fun t => by
  unfold Tube.reconcile; split
  · exact .refl _
  · exact withCount_keeps _ t

theorem estimate_keeps (empty full : Bool) : KeepsTube (Tube.estimate empty full) := fun t => by
  unfold Tube.estimate; split
  · exact .some
      (fun h =>
        { capacity := h.capacity, reserve := h.reserve, count := Nat.zero_le _, disabledEmpty := fun _ => rfl
          marks := h.marks })
      rfl Iff.rfl
  · rename_i inUse
    have normal : Replaces (some t) (some { t with state := .normal }) :=
      .some
        (fun h =>
          { capacity := h.capacity, reserve := h.reserve, count := h.count, disabledEmpty := by simp
            marks := fun _ => h.marks inUse })
        rfl (by simp [inUse])
    cases normal with
    | some law hd hs =>
      cases ((reconcile_keeps empty full).comp (withCount_keeps t.lowMark)) { t with state := .normal } with
      | some law' hd' hs' => exact .some (law' ∘ law) (hd'.trans hd) (hs'.trans hs)

/-! ### The lists -/

/-- A record changed by an operation that keeps it stands in its place. -/
theorem modify_replaces {f : Tube → Tube} (hf : KeepsTube f) (j : Nat) (l : List (Option Tube)) :
    List.Forall₂ Replaces l (l.modify j (Option.map f)) := by
  induction l generalizing j with
  | nil => simp
  | cons a r ih =>
    cases j with
    | zero =>
      refine .cons ?_ (forall₂_replaces_refl r)
      cases a with
      | none => exact .none
      | some t => exact hf t
    | succ j => exact .cons (.refl a) (ih j)

/-- R18: the estimates of the reconciliation stand in the places of the records. -/
theorem estimateFrom_replaces (n : Inputs) (i : Nat) (l : List (Option Tube)) :
    List.Forall₂ Replaces l (estimateFrom n i l) := by
  induction l generalizing i with
  | nil => exact .nil
  | cons a r ih =>
    refine .cons ?_ (ih (i + 1))
    cases a with
    | none => exact .none
    | some t => exact estimate_keeps _ _ t

theorem restartTube_replaces (kept loaded : Option Tube) (empty full : Bool) :
    Replaces loaded (restartTube kept loaded empty full) := by
  cases loaded with
  | none => exact .none
  | some n =>
    unfold restartTube
    simp only [Option.map_some]
    split
    · exact .refl _
    · rename_i inUse
      split
      · rename_i t _
        split
        · exact estimate_keeps _ _ n
        · rename_i keptInUse
          exact .some
            (fun h =>
              { capacity := h.capacity, reserve := h.reserve, count := Nat.min_le_right _ _
                disabledEmpty := fun e => absurd e keptInUse, marks := fun _ => h.marks inUse })
            rfl (by simp [inUse, keptInUse])
      · exact estimate_keeps _ _ n

/-- R19: the records of a restart stand in the places of those loaded. -/
theorem restartTubesFrom_replaces (n : Inputs) (i : Nat) (kept loaded : List (Option Tube)) :
    List.Forall₂ Replaces loaded (restartTubesFrom n i kept loaded) := by
  induction loaded generalizing i kept with
  | nil => exact .nil
  | cons a r ih => exact .cons (restartTube_replaces _ _ _ _) (ih (i + 1) kept.tail)

/-! ### The tubes of an image (R13) -/

/-- R13: a tube with a structural fault is DISABLED and empty; its clamps put the rest in range. -/
theorem clampTube_law (types : List CoinType) (r : RawTube) :
    TubeLaw { clampTube types r with state := .disabled } where
  capacity := by simp only [clampTube, clampNat]; omega
  count := Nat.zero_le _
  reserve := by simp only [clampTube, clampNat]; omega
  disabledEmpty _ := rfl
  marks h := absurd rfl h

/-- R13: a tube with no structural fault keeps its law in use, and its denomination is a new one. -/
theorem clampTube_sound {types : List CoinType} {used : List Nat} {r : RawTube}
    (h : tubeFaulty types used (clampTube types r) = false) :
    TubeLaw (clampTube types r) ∧ (clampTube types r).denomination ∉ used := by
  obtain ⟨capacity, count, reserve, -, -⟩ := clampTube_law types r
  have hm : (clampTube types r).lowMark < (clampTube types r).fullMark ∧ (clampTube types r).denomination ∉ used := by
    unfold tubeFaulty at h
    split at h
    · cases h
    · simp only [Bool.or_eq_false_iff, decide_eq_false_iff_not, List.contains_eq_mem] at h
      exact ⟨Nat.lt_of_not_le h.1.1, h.2⟩
  have hc : 1 ≤ (clampTube types r).lowMark ∧ (clampTube types r).fullMark ≤ (clampTube types r).capacity := by
    simp only [clampTube, clampNat]; omega
  exact ⟨⟨capacity, count, reserve, by simp [clampTube], fun _ => ⟨hc.1, hm.1, hc.2⟩⟩, hm.2⟩

/-- R13: the tubes as loaded keep the law, and those in use have none of the denominations used before. -/
theorem loadTubes_lawful (types : List CoinType) (used : List Nat) (l : List (Option RawTube)) :
    LawfulTubes (loadTubes types used l) ∧
      ∀ u, some u ∈ loadTubes types used l → u.state ≠ .disabled → u.denomination ∉ used := by
  induction l generalizing used with
  | nil => exact ⟨lawfulTubes_nil, by simp [loadTubes]⟩
  | cons a r ih =>
    cases a with
    | none =>
      obtain ⟨lawful, fresh⟩ := ih used
      exact ⟨(lawfulTubes_none _).mpr lawful, fun u hu => fresh u (by simpa [loadTubes] using hu)⟩
    | some x =>
      unfold loadTubes
      simp only
      split
      · obtain ⟨lawful, fresh⟩ := ih used
        refine ⟨(lawfulTubes_some _ _).mpr ⟨clampTube_law types x, lawful, fun _ _ h => absurd rfl h⟩,
          fun u hu inUse => ?_⟩
        rcases List.mem_cons.mp hu with e | hu
        · cases e; exact absurd rfl inUse
        · exact fresh u hu inUse
      · rename_i sound
        obtain ⟨law, new⟩ := clampTube_sound (by simpa using sound)
        obtain ⟨lawful, fresh⟩ := ih ((clampTube types x).denomination :: used)
        refine ⟨(lawfulTubes_some _ _).mpr ⟨law, lawful, fun u hu _ inUse e => ?_⟩, fun u hu inUse => ?_⟩
        · exact fresh u hu inUse (e ▸ .head _)
        · rcases List.mem_cons.mp hu with e | hu
          · cases e; exact new
          · exact fun h => fresh u hu inUse (.tail _ h)

theorem applyImage_lawful (straps : Station) (r : ParamRead) : LawfulTubes (applyImage straps r).tubes := by
  unfold applyImage
  simp only
  split
  · exact (loadTubes_lawful _ _ _).1
  · simp only [List.replicate, lawfulTubes_none, lawfulTubes_nil]
end Sys2Proof.Machine.Intake
end

section
/-! PROOFS. What every command keeps: the waiting commands and the law of the tube records, act by act; and the output lines
over the half millisecond that passes with none waiting. -/

namespace Sys2Proof.Machine.Intake

-- One after the other, as in the Frames files: side by side, this many small lemmas take more memory than a check has.
set_option Elab.async false

open Laws

/-! ### What every command keeps -/

/-- From `s` to `t` the waiting commands stand, and the law of the tube records goes on to hold. -/
structure Kept (s t : State) : Prop where
  pending : t.pending = s.pending
  tubes : TubesLaw s → TubesLaw t

namespace Kept
variable {s t u : State}

/-- An act that leaves the waiting commands and the tube records as they were; the Frames lemmas say so for the shared operations,
and `simp` finds them. -/
theorem of_eq (hp : t.pending = s.pending := by simp) (ht : t.cnu.tubes = s.cnu.tubes := by simp) : Kept s t :=
  ⟨hp, fun law => tubesLaw_congr law ht⟩

theorem of_replaced (hp : t.pending = s.pending) (ht : List.Forall₂ Replaces s.cnu.tubes t.cnu.tubes) : Kept s t :=
  ⟨hp, fun h => (tubesLaw_iff t).mpr (lawfulTubes_replaced ht ((tubesLaw_iff s).mp h))⟩

theorem refl (s : State) : Kept s s := ⟨rfl, id⟩

theorem trans (h : Kept s t) (g : Kept t u) : Kept s u := ⟨g.pending.trans h.pending, g.tubes ∘ h.tubes⟩

theorem ite {c : Prop} [Decidable c] (h : Kept s t) (g : Kept s u) : Kept s (if c then t else u) := by
  split
  · exact h
  · exact g

theorem agenda (h : Kept s t) : Kept s (runAgenda t) := h.trans .of_eq

end Kept

@[simp] theorem elapse_pending (d : Nat) (s : State) : (elapse d s).pending = s.pending := by
  rcases elapse_cases d s with e | e <;> rw [e]; rfl
@[simp] theorem elapse_tubes (d : Nat) (s : State) : (elapse d s).cnu.tubes = s.cnu.tubes := by
  rcases elapse_cases d s with e | e <;> rw [e]; rfl
@[simp] theorem reach_pending (limit now : Nat) (s : State) : (reach limit now s).pending = s.pending :=
  elapse_pending _ s
@[simp] theorem reach_tubes (limit now : Nat) (s : State) : (reach limit now s).cnu.tubes = s.cnu.tubes :=
  elapse_tubes _ s

/-! ### The frames an act is put into -/

section Frames
variable {f : State → State} (hf : ∀ u, Kept u (f u))
include hf

theorem event_kept (s : State) : ∃ t, event f s = .next (refreshOutputs t) ∧ Kept s t :=
  ⟨f (openEvent s), rfl, (Kept.of_eq rfl rfl : Kept s (openEvent s)).trans (hf (openEvent s))⟩

theorem running_kept (s : State) : Kept s (running f s) := .ite (hf s) (.refl s)

theorem receiving_kept (s : State) : Kept s (receiving f s) := .ite (.refl s) (hf s)

theorem directed_kept (dst : Station) (s : State) : Kept s (directed dst f s) := .ite (hf s) (.refl s)

theorem onTimer_kept (timer : Option Nat) (limit : Nat) (s : State) : Kept s (onTimer timer limit f s) := by
  unfold onTimer
  split
  · exact ((Kept.of_eq : Kept s (reach _ _ s)).trans (hf _)).agenda
  · exact .refl s

theorem hearWith_kept (src : Station) {act : State → State} (ha : ∀ u, Kept u (act u)) (listed : Bool) (s : State) :
    Kept s (hearWith src act listed f s) := by
  rcases hearWith_cases src act listed f s with ⟨-, e⟩ | ⟨-, -, e⟩ | ⟨-, -, e⟩ <;> rw [e]
  · exact .refl s
  · exact .of_eq
  · have noted : Kept s (noteSource src (acknowledge (s.lnk.state == .active) s)) := .of_eq
    have tested : Kept s (hearAtLbu src act listed (acknowledge (s.lnk.state == .active) s)) :=
      (noted.trans (ha _)).trans (.of_eq (by simp [hearAtLbu]) (by simp [hearAtLbu]))
    exact (tested.trans (hf _)).agenda

theorem hear_kept (src : Station) (s : State) : Kept s (hear src f s) := hearWith_kept hf src .refl false s

theorem serve_kept (h : ServiceHead) (s : State) : Kept s (serve h f s) := by
  refine hear_kept (fun u => ?_) _ s
  split
  · exact directed_kept hf _ u
  · exact .of_eq

end Frames

/-! ### Coins, tubes, cashbox and audit saves -/

theorem modTube_kept {f : Tube → Tube} (hf : KeepsTube f) (i : Nat) (s : State) : Kept s (modTube i f s) := by
  cases i with
  | zero => exact .refl s
  | succ j => exact .of_replaced rfl (modify_replaces hf j s.cnu.tubes)

theorem changeTube_kept {f : Tube → Tube} (hf : KeepsTube f) (i : Nat) (s : State) : Kept s (changeTube i f s) :=
  (modTube_kept hf i s).trans (.of_eq (by simp [changeTube]) (by simp [changeTube]))

theorem takeCoin_kept (code : Nat) (c : CoinType) (s : State) : Kept s (takeCoin code c s) := by
  unfold takeCoin
  split
  · rename_i i _
    have routed : Kept s (routeToTube i c.value s) :=
      .trans (.of_eq : Kept s (s.modTotals _)) (.trans (modTube_kept takeCoin_keeps i _) (.of_eq rfl rfl))
    exact routed.trans .of_eq
  · exact .ite (.of_eq (by simp [routeToCashbox, setRoute]) (by simp [routeToCashbox, setRoute])) (.of_eq rfl rfl)

theorem coinReport_kept (code : Nat) (s : State) : Kept s (coinReport code s) := by
  unfold coinReport
  refine .ite (.refl s) (.ite (.of_eq rfl rfl) (.ite (.of_eq rfl rfl) ?_))
  split
  · exact takeCoin_kept _ _ s
  · exact .of_eq rfl rfl

theorem endRouting_kept (s : State) : Kept s (endRouting s) := by
  unfold endRouting
  split <;> exact .of_eq

/-! ### The credit session and its payout -/

theorem answerDebit_kept (src : Station) (n : Byte) (a : Nat) (tag : Byte) (x : Option Half) (s : State) :
    Kept s (answerDebit src n a tag x s) := .ite (.refl s) .of_eq

theorem answerSettle_kept (src : Station) (tag n : Byte) (r : SettleResult) (s : State) :
    Kept s (answerSettle src tag n r s) := .of_eq (by simp [answerSettle]) (by simp [answerSettle])

theorem endOldHold_kept (s : State) : Kept s (endOldHold s) := by
  unfold endOldHold
  split <;> exact .of_eq

theorem endRefresh_kept (s : State) : Kept s (endRefresh s) := by
  unfold endRefresh
  split <;> exact .of_eq

theorem endIdleTime_kept (s : State) : Kept s (endIdleTime s) := by
  unfold endIdleTime
  split
  · exact .ite .of_eq (.refl s)
  · exact .refl s

theorem payCoin_kept (i attempt : Nat) (s : State) : Kept s (payCoin i attempt s) :=
  (changeTube_kept giveCoin_keeps i s).trans (.ite .of_eq .of_eq)

theorem seeCoin_kept (s : State) : Kept s (seeCoin s) := by
  unfold seeCoin
  split
  · exact payCoin_kept _ _ s
  · exact .of_eq

theorem endPulse_kept (s : State) : Kept s (endPulse s) := by
  unfold endPulse
  split <;> exact .of_eq

theorem failAttempt_kept (i attempt : Nat) (s : State) : Kept s (failAttempt i attempt s) :=
  .ite .of_eq ((changeTube_kept goDry_keeps i s).trans .of_eq)

theorem endPayoutWindow_kept (s : State) : Kept s (endPayoutWindow s) := by
  unfold endPayoutWindow
  split
  · exact (Kept.of_eq : Kept s (reach _ _ s)).trans (failAttempt_kept _ _ _)
  · exact .refl s

theorem exitCleared_kept (s : State) : Kept s (exitCleared s) := by
  unfold exitCleared
  split <;> exact .of_eq

theorem endClearTime_kept (s : State) : Kept s (endClearTime s) := by
  unfold endClearTime
  split <;> exact .of_eq

/-! ### The credit cache, selections and the vend -/

theorem ageOutEntry_kept (st : Station) (s : State) : Kept s (ageOutEntry st s) := by
  unfold ageOutEntry
  split <;> exact .of_eq

theorem takeSelect_kept (panel : Station) (tag : Byte) (slot credit : Nat) (s : State) :
    Kept s (takeSelect panel tag slot credit s) := by
  unfold takeSelect
  refine .ite (.refl s) ?_
  split
  · exact .of_eq
  · exact .ite .of_eq .of_eq

theorem repeatDebit_kept (v : Vend) (a : Asked) (s : State) : Kept s (repeatDebit v a s) :=
  .ite (.ite .of_eq .of_eq) .of_eq

theorem endAnswerTime_kept (s : State) : Kept s (endAnswerTime s) := by
  unfold endAnswerTime
  split
  · split
    · exact (Kept.of_eq : Kept s (reach _ _ s)).trans ((repeatDebit_kept _ _ _).agenda)
    · exact .refl s
  · exact .refl s

theorem takeDebitAnswer_kept (src : Station) (tag : Byte) (o : DebitOutcome) (b v : Option Half) (s : State) :
    Kept s (takeDebitAnswer src tag o b v s) := by
  unfold takeDebitAnswer
  split
  · split
    · exact .ite .of_eq (.refl s)
    · exact .refl s
  · exact .refl s

theorem repeatSettle_kept (v : Vend) (a : Settling) (s : State) : Kept s (repeatSettle v a s) := .ite .of_eq .of_eq

theorem endSettleTime_kept (s : State) : Kept s (endSettleTime s) := by
  unfold endSettleTime
  split
  · split
    · exact (Kept.of_eq : Kept s (reach _ _ s)).trans ((repeatSettle_kept _ _ _).agenda)
    · exact .refl s
  · exact .refl s

theorem takeSettleAnswer_kept (src : Station) (tag : Byte) (o : SettleOutcome) (s : State) :
    Kept s (takeSettleAnswer src tag o s) := by
  unfold takeSettleAnswer
  split
  · split
    · exact .ite .of_eq (.refl s)
    · exact .refl s
  · exact .refl s

theorem endBudgetTime_kept (s : State) : Kept s (endBudgetTime s) := by
  unfold endBudgetTime
  split
  · split <;> exact .of_eq
  · split <;> exact .of_eq
  · exact .refl s

theorem takeCam_kept (s : State) : Kept s (takeCam s) := by
  unfold takeCam
  split <;> exact .of_eq

theorem endJamTime_kept (s : State) : Kept s (endJamTime s) := by
  unfold endJamTime
  split <;> exact .of_eq

theorem endDropWindow_kept (s : State) : Kept s (endDropWindow s) := by
  unfold endDropWindow
  split
  · split
    · exact .ite .of_eq (.refl s)
    · exact .refl s
  · exact .refl s

/-! ### The drive and the sensors -/

theorem transfer_kept (s : State) : Kept s (transfer s) := by
  unfold transfer
  split <;> exact .of_eq

theorem readbackStep_kept (rows : BitVec 8) (cols : BitVec 10) (s : State) : Kept s (readbackStep rows cols s) := by
  unfold readbackStep
  dsimp only
  split <;> exact .of_eq

theorem tickDrive_kept (rows : BitVec 8) (cols cams : BitVec 10) (s : State) : Kept s (tickDrive rows cols cams s) := by
  unfold tickDrive
  extract_lets moved ticked
  have time : Kept s ticked := .of_eq (by simp [ticked, moved]) (by simp [ticked, moved])
  exact .ite ((time.trans (transfer_kept ticked)).trans (readbackStep_kept rows cols _)).agenda time

theorem sampleCurrent_kept (reading : Byte) (s : State) : Kept s (sampleCurrent reading s) := by
  unfold sampleCurrent
  split
  · refine .ite ?_ (.refl s)
    unfold takeReport
    split <;> exact .of_eq
  · exact .refl s

theorem followFault_kept (was : Bool) (s : State) : Kept s (followFault was s) := .ite (.refl s) .of_eq

theorem sensorReaches_kept (k : Sensor) (s : State) : Kept s (sensorReaches k s) := by
  cases k
  · exact .of_eq (by simp [sensorReaches]) (by simp [sensorReaches])
  · exact .of_eq (by simp [sensorReaches]) (by simp [sensorReaches])

theorem takeAverage_kept (k : Sensor) (x : Vector (BitVec 10) 8) (s : State) : Kept s (takeAverage k x s) := by
  unfold takeAverage
  extract_lets old c raw new updated shown
  have taken : Kept s shown :=
    (.of_eq (by simp [updated]) (by simp [updated]) : Kept s updated).trans (followFault_kept _ _)
  exact .ite (taken.trans (sensorReaches_kept k _)) taken

theorem countSecond_kept (s : State) : Kept s (countSecond s) := .ite .of_eq (.refl s)

theorem endOnPhase_kept (s : State) : Kept s (endOnPhase s) := by
  unfold endOnPhase
  split <;> exact .of_eq

/-! ### The link and the load table -/

theorem reportEnding_kept (f : Frame) (completed : Bool) (s : State) : Kept s (reportEnding f completed s) := by
  unfold reportEnding
  split <;> exact .of_eq

theorem attemptFailed_kept (e : TxEntry) (s : State) : Kept s (attemptFailed e s) :=
  .ite .of_eq (.ite .of_eq (.trans .of_eq (reportEnding_kept e.frame false (dropFrame (countFailure s)))))

theorem attemptCompleted_kept (e : TxEntry) (s : State) : Kept s (attemptCompleted e s) :=
  .trans .of_eq (reportEnding_kept e.frame true ((leaveQueue s).modLnk fun l => { l with failures := 0 }))

theorem checkFailures_kept (s : State) : Kept s (checkFailures s) :=
  .ite (.of_eq (by simp [enterSilent]) (by simp [enterSilent])) (.refl s)

theorem endAttempt_kept (ending : AttemptEnd) (s : State) : Kept s (endAttempt ending s) := by
  unfold endAttempt
  split
  · exact .refl s
  · exact ((Kept.ite (attemptCompleted_kept _ s) (attemptFailed_kept _ s)).trans (checkFailures_kept _)).agenda

theorem endSilent_kept (s : State) : Kept s (endSilent s) := by
  unfold endSilent
  split
  · exact .ite .of_eq (.refl s)
  · exact .refl s

theorem endPeriod_kept (s : State) : Kept s (endPeriod s) := by
  unfold endPeriod
  split <;> exact .of_eq

theorem endHearing_kept (s : State) : Kept s (endHearing s) := .ite .of_eq (.refl s)

theorem ageOutPeer_kept (st : Station) (s : State) : Kept s (ageOutPeer st s) := by
  unfold ageOutPeer
  split
  · rename_i e _
    refine .ite ?_ (.refl s)
    have time : Kept s (reach Config.peerAge e.age s) := .of_eq
    have aged : Kept s (if e.limit = 0 then removePeer st (reach Config.peerAge e.age s)
        else modPeer st (fun e => { e with live := false }) (reach Config.peerAge e.age s)) :=
      .ite (time.trans .of_eq) (time.trans .of_eq)
    exact aged.trans .of_eq
  · exact .refl s

theorem objectTo_kept (src : Station) (kind sequence : Byte) (s : State) : Kept s (objectTo src kind sequence s) :=
  .ite .of_eq (.refl s)

theorem assumeClaim_kept (st : Station) (kind : Byte) (s : State) : Kept s (assumeClaim st kind s) := by
  unfold assumeClaim
  split <;> exact .of_eq

theorem endHeldOff_kept (k : LoadKind) (s : State) : Kept s (endHeldOff k s) := .ite .of_eq (.refl s)

theorem retryClaim_kept (k : LoadKind) (s : State) : Kept s (retryClaim k s) := .ite .of_eq (.refl s)

theorem endSettleWindow_kept (k : LoadKind) (s : State) : Kept s (endSettleWindow k s) := by
  unfold endSettleWindow
  dsimp only
  split
  · exact .ite .of_eq (.refl s)
  · exact .refl s

/-! ### Power-up, restart and the service requests -/

theorem powerUpState_kept (straps : Station) (p : ParamRead) (a : AuditRead) (s : State) :
    Kept s (powerUpState straps p a s) :=
  ⟨rfl, fun _ => (tubesLaw_iff _).mpr (applyImage_lawful straps p)⟩

theorem announceStart_kept (s : State) : Kept s (announceStart s) :=
  .of_eq (by simp [announceStart]) (by simp [announceStart])

theorem finishPowerUp_kept (l : InputLevels) (s : State) : Kept s (finishPowerUp l s) := by
  unfold finishPowerUp
  extract_lets estimated
  have counts : Kept s { estimated with phase := .running } := .of_replaced rfl (estimateFrom_replaces _ 1 s.cnu.tubes)
  have probed : Kept s (probe { estimated with phase := .running }) := counts.trans .of_eq
  exact probed.trans (announceStart_kept _)

theorem answerTool_kept (tag : Byte) (r : ServiceResult) (data : List Byte) (s : State) :
    Kept s (answerTool tag r data s) := .of_eq (by simp [answerTool]) (by simp [answerTool])

theorem readState_kept (tag : Byte) (args : List Byte) (s : State) : Kept s (readState tag args s) := by
  unfold readState
  split
  · refine .ite (answerTool_kept ..) ?_
    split
    · exact answerTool_kept ..
    · split <;> exact answerTool_kept ..
  · exact answerTool_kept ..

theorem readAudit_kept (tag : Byte) (args : List Byte) (s : State) : Kept s (readAudit tag args s) := by
  unfold readAudit
  split
  · split <;> exact answerTool_kept ..
  · exact answerTool_kept ..

theorem takeRequest_kept (tag : Byte) (r : Option ServiceResult) {act : State → State} (h : ∀ u, Kept u (act u)) (s : State) :
    Kept s (takeRequest tag r act s) := by
  unfold takeRequest
  split
  · exact answerTool_kept ..
  · exact (h s).trans (answerTool_kept ..)


theorem restartCoins_kept (straps : Station) (p : ParamRead) (s : State) :
    Kept s (restartCoins (applyImage straps p) s) :=
  ⟨rfl, fun _ => (tubesLaw_iff _).mpr
    (lawfulTubes_replaced (restartTubesFrom_replaces _ _ _ _) (applyImage_lawful straps p))⟩

theorem restartDrive_kept (a : Applied) (s : State) : Kept s (restartDrive a s) := .ite .of_eq .of_eq

theorem restartLoad_kept (before s : State) : Kept s (restartLoad before s) := by
  unfold restartLoad
  extract_lets given tested
  have compressor : Kept s given :=
    (.of_eq : Kept s (giveUp .heater (giveUp .motor s))).trans (.ite .of_eq (.refl _))
  have table : Kept s tested := compressor.trans (.of_eq (by simp [tested]) (by simp [tested]))
  exact .ite table (table.trans .of_eq)

theorem restartWarm_kept (s : State) : Kept s (restartWarm s) := .ite .of_eq (.refl s)

theorem restartMaxDefrost_kept (s : State) : Kept s (restartMaxDefrost s) := .ite .of_eq (.refl s)

theorem restartLockout_kept (s : State) : Kept s (restartLockout s) := .ite .of_eq (.refl s)

theorem keepCooling_kept (s : State) : Kept s (keepCooling s) := by
  have defrost : Kept s (restartDefrost s) := .of_eq rfl rfl
  have stop : Kept s (testStop (restartLockout (restartDefrost s))) :=
    (defrost.trans (restartLockout_kept _)).trans .of_eq
  have sale : Kept s (saleEvent (restartMaxDefrost (testStop (restartLockout (restartDefrost s))))) :=
    (stop.trans (restartMaxDefrost_kept _)).trans .of_eq
  exact sale.trans (restartWarm_kept _)

theorem restartCooling_kept (a : Applied) (s : State) : Kept s (restartCooling a s) :=
  .ite (.ite .of_eq (.refl s))
    (.ite (keepCooling_kept s) (.of_eq (by simp [dropCooling]) (by simp [dropCooling])))

theorem restartAll_kept (straps : Station) (p : ParamRead) (s : State) : Kept s (restartAll straps p s) := by
  unfold restartAll
  extract_lets a read vend cooled
  have coins : Kept s (restartCoins a read) :=
    (.of_eq rfl rfl : Kept s read).trans (restartCoins_kept straps p read)
  have slots : Kept s (restartVend a (restartCache (restartCredit (restartCoins a read)))) :=
    coins.trans (.of_eq rfl rfl)
  have drive : Kept s vend := slots.trans (restartDrive_kept a _)
  have cooling : Kept s cooled := ((drive.trans (restartLoad_kept s vend)).trans (restartCooling_kept a _)).agenda
  have probed : Kept s (probe (runAgenda (noteIsolation (isolated s) cooled))) := cooling.trans .of_eq
  exact probed.trans (announceStart_kept _)

theorem serveSetTube_kept (tag : Byte) (args : List Byte) (s : State) : Kept s (serveSetTube tag args s) := by
  unfold serveSetTube
  split
  · exact takeRequest_kept _ _ (changeTube_kept (setCount_keeps _) _) s
  · exact answerTool_kept ..

theorem clearTarget_kept (tag target index : Byte) (s : State) : Kept s (clearTarget tag target index s) := by
  have answered {t : State} (changed : Bool) (h : Kept s t) : Kept s (answerCleared tag changed t) :=
    h.trans (answerTool_kept ..)
  unfold clearTarget
  refine .ite ?_ (.ite (.ite (answered _ .of_eq) (answered _ (.refl s)))
    (.ite (.ite (answered _ .of_eq) (answered _ (.refl s))) (.ite ?_ (answerTool_kept ..))))
  · split
    · exact answerTool_kept ..
    · exact answered _ .of_eq
  · split
    · exact answerTool_kept ..
    · exact answered _ (changeTube_kept revive_keeps _ s)

theorem serveClearFault_kept (tag : Byte) (args : List Byte) (s : State) : Kept s (serveClearFault tag args s) := by
  unfold serveClearFault
  split
  · exact clearTarget_kept ..
  · exact answerTool_kept ..

theorem serveAuditClear_kept (tag : Byte) (args : List Byte) (s : State) : Kept s (serveAuditClear tag args s) :=
  takeRequest_kept _ _ (fun _ => .of_eq (by simp [clearAudit]) (by simp [clearAudit])) s

theorem serveSetPrice_kept (tag : Byte) (args : List Byte) (s : State) : Kept s (serveSetPrice tag args s) := by
  unfold serveSetPrice
  split
  · exact takeRequest_kept _ _ (fun _ => .of_eq) s
  · exact answerTool_kept ..

theorem serveSetSlot_kept (tag : Byte) (args : List Byte) (s : State) : Kept s (serveSetSlot tag args s) := by
  unfold serveSetSlot
  split
  · exact .ite (takeRequest_kept _ _ (fun _ => .of_eq) s) (answerTool_kept ..)
  · exact answerTool_kept ..

theorem serveSetStock_kept (tag : Byte) (args : List Byte) (s : State) : Kept s (serveSetStock tag args s) := by
  unfold serveSetStock
  split
  · exact .ite (takeRequest_kept _ _ (fun _ => .of_eq) s) (answerTool_kept ..)
  · exact answerTool_kept ..

theorem serveTestMotor_kept (tag : Byte) (args : List Byte) (s : State) : Kept s (serveTestMotor tag args s) := by
  unfold serveTestMotor
  split
  · split
    · exact answerTool_kept ..
    · exact .of_eq
    · exact .refl s
  · exact answerTool_kept ..

theorem serveForgetPeer_kept (tag : Byte) (args : List Byte) (s : State) : Kept s (serveForgetPeer tag args s) := by
  unfold serveForgetPeer
  split
  · exact takeRequest_kept _ _ (fun _ => .of_eq (by simp [forgetPeer]) (by simp [forgetPeer])) s
  · exact answerTool_kept ..

theorem serveRestart_kept (tag : Byte) (args : List Byte) (straps : Station) (p : ParamRead) (s : State) :
    Kept s (serveRestart tag args straps p s) :=
  .ite (answerTool_kept ..) (.ite (answerTool_kept ..) ((restartAll_kept straps p s).trans (answerTool_kept ..)))

/-- R7, 0.6: every command completes, as an event whose end refreshes the output lines; the waiting commands stand, and the law of
the tube records goes on to hold. -/
theorem exec_kept (c : Instr) (s : State) : ∃ t, exec c s = .next (refreshOutputs t) ∧ Kept s t := by
  have inputs {f : State → State} (g : Inputs → Inputs) (hf : ∀ u, Kept u (f u)) (u : State) :
      Kept u (running f (u.modInputs g)) := (Kept.of_eq : Kept u (u.modInputs g)).trans (running_kept hf _)
  have heard (src : Station) (u : State) : Kept u (hear src countUnknown u) := hear_kept (fun _ => .of_eq) src u
  cases c with
  | coinStrobe a b => exact event_kept (inputs _ (coinReport_kept _)) s
  | routingTimeExpiry => exact event_kept endRouting_kept s
  | cashboxSwitchChange closed => exact event_kept (inputs (f := takeCashbox closed) _ fun _ => .of_eq rfl rfl) s
  | levelSwitchChange i w covered => exact event_kept (inputs _ fun _ => changeTube_kept (reconcile_keeps _ _) i _) s
  | serviceDoorOpens =>
    exact event_kept (inputs _ fun _ => .of_eq (by simp [takeDoorOpening]) (by simp [takeDoorOpening])) s
  | serviceDoorCloses =>
    exact event_kept (inputs _ fun _ => .of_eq (by simp [takeDoorClosing]) (by simp [takeDoorClosing])) s
  | auditSaveEnd ending => exact event_kept (fun _ => .of_eq) s
  | debitReceived src dst n a tag x => exact event_kept (hear_kept (directed_kept (answerDebit_kept src n a.toNat tag x) dst) src) s
  | settleReceived src dst tag n r => exact event_kept (hear_kept (directed_kept (answerSettle_kept src tag n r) dst) src) s
  | holdExpiry => exact event_kept endOldHold_kept s
  | refreshTimerExpiry => exact event_kept endRefresh_kept s
  | idleTimerExpiry => exact event_kept endIdleTime_kept s
  | coinSeen => exact event_kept (inputs _ seeCoin_kept) s
  | solenoidPulseEnd => exact event_kept endPulse_kept s
  | payoutWindowExpiry => exact event_kept endPayoutWindow_kept s
  | exitClears => exact event_kept (inputs _ exitCleared_kept) s
  | clearTimerExpiry => exact event_kept endClearTime_kept s
  | escrowLever => exact event_kept (inputs _ fun _ => .of_eq) s
  | creditReceived src dst n state b v short => exact event_kept (hear_kept (f := cacheCredit _) (fun _ => .of_eq rfl rfl) src) s
  | cacheEntryAgeOut st => exact event_kept (ageOutEntry_kept st) s
  | purgeReceived src dst n => exact event_kept (hear_kept (f := cachePurge src n) (fun _ => .of_eq rfl rfl) src) s
  | selectReceived src dst tag slot credit =>
    exact event_kept (hear_kept (directed_kept (takeSelect_kept src tag slot.toNat credit.toNat) dst) src) s
  | answerTimerExpiry => exact event_kept endAnswerTime_kept s
  | debitAnswerReceived src dst tag o b v =>
    exact event_kept (hear_kept (directed_kept (takeDebitAnswer_kept src tag o b v) dst) src) s
  | settleTimerExpiry => exact event_kept endSettleTime_kept s
  | settleAnswerReceived src dst tag o =>
    exact event_kept (hear_kept (directed_kept (takeSettleAnswer_kept src tag o) dst) src) s
  | budgetTimerExpiry => exact event_kept endBudgetTime_kept s
  | camPulse => exact event_kept takeCam_kept s
  | jamTimerExpiry => exact event_kept endJamTime_kept s
  | drop => exact event_kept (inputs _ fun _ => .of_eq) s
  | dropWindowExpiry => exact event_kept endDropWindow_kept s
  | driveTick rows cols cams => exact event_kept (fun u => .ite (.refl u) (tickDrive_kept rows cols cams u)) s
  | currentSample reading => exact event_kept (sampleCurrent_kept reading) s
  | averagingPeriodEnd k x => exact event_kept (fun u => .ite (.refl u) (takeAverage_kept k x u)) s
  | lockoutTimerExpiry => exact event_kept (fun u => .ite (onTimer_kept (fun _ => .of_eq) _ _ u) (.refl u)) s
  | offTimerExpiry => exact event_kept (fun u => .ite (onTimer_kept (fun _ => .of_eq) _ _ u) (.refl u)) s
  | cycleTimerUrgent => exact event_kept (fun u => .ite (onTimer_kept (fun _ => .of_eq) _ _ u) (.refl u)) s
  | cycleTimerFixedDuty => exact event_kept (fun u => .ite (onTimer_kept endOnPhase_kept _ _ u) (.refl u)) s
  | startTimerExpiry => exact event_kept (fun u => .ite (onTimer_kept (fun _ => .of_eq) _ _ u) (.refl u)) s
  | onTimerExpiry => exact event_kept (fun u => onTimer_kept (fun _ => .of_eq) _ _ u) s
  | accumulatorSecond => exact event_kept countSecond_kept s
  | heaterWaitExpiry => exact event_kept (fun u => .ite (onTimer_kept (fun _ => .of_eq) _ _ u) (.refl u)) s
  | defrostTimerExpiry => exact event_kept (fun u => .ite (onTimer_kept (fun _ => .of_eq) _ _ u) (.refl u)) s
  | dripTimerExpiry => exact event_kept (fun u => .ite (onTimer_kept (fun _ => .of_eq) _ _ u) (.refl u)) s
  | warmTimerExpiry => exact event_kept (fun u => onTimer_kept (fun _ => .of_eq) _ _ u) s
  | statusReceived src dst change total limit flags =>
    exact event_kept (hearWith_kept .refl src (fun _ => .of_eq) false) s
  | peerEntryAgeOut st => exact event_kept (ageOutPeer_kept st) s
  | claimReceived src dst kind cls a q =>
    exact event_kept (fun u => .ite (heard src u) (hearWith_kept (objectTo_kept src kind q) src (fun _ => .of_eq) _ u)) s
  | releaseReceived src dst kind q =>
    exact event_kept (fun u => .ite (heard src u) (hearWith_kept .refl src (fun _ => .of_eq) false u)) s
  | claimAssumed st kind => exact event_kept (assumeClaim_kept st kind) s
  | objectReceived src dst kind q sum =>
    exact event_kept (fun u => .ite (heard src u) (hear_kept (directed_kept (fun _ => .of_eq) dst) src u)) s
  | heldOffExpiry k => exact event_kept (endHeldOff_kept k) s
  | claimRetryAge k => exact event_kept (retryClaim_kept k) s
  | settleWindowExpiry k => exact event_kept (endSettleWindow_kept k) s
  | badFrame cause => exact event_kept (receiving_kept (f := countBad) fun _ => .of_eq rfl rfl) s
  | unknownFrame src => exact event_kept (heard src) s
  | vendStatusReceived src dst tag o p q => exact event_kept (hear_kept .refl src) s
  | serviceAnswerReceived src dst tag r data => exact event_kept (hear_kept .refl src) s
  | addressConflict =>
    exact event_kept (receiving_kept fun _ => .of_eq (by simp [heardOwnNumber]) (by simp [heardOwnNumber])) s
  | frameOffer => exact event_kept (fun _ => .of_eq) s
  | lostArbitration => exact event_kept (fun _ => .of_eq) s
  | frameAttemptEnd ending => exact event_kept (endAttempt_kept ending) s
  | silentEnd => exact event_kept endSilent_kept s
  | statusPeriodExpiry => exact event_kept endPeriod_kept s
  | isolationTimerExpiry => exact event_kept endHearing_kept s
  | powerUp straps p a => exact event_kept (powerUpState_kept straps p a) s
  | powerUpReconciliation l => exact event_kept (fun u => .ite (finishPowerUp_kept l u) (.refl u)) s
  | stateRead h args => exact event_kept (serve_kept (readState_kept h.tag args) h) s
  | auditRead h args => exact event_kept (serve_kept (readAudit_kept h.tag args) h) s
  | auditClear h args => exact event_kept (serve_kept (serveAuditClear_kept h.tag args) h) s
  | setPrice h args => exact event_kept (serve_kept (serveSetPrice_kept h.tag args) h) s
  | setSlot h args => exact event_kept (serve_kept (serveSetSlot_kept h.tag args) h) s
  | setStock h args => exact event_kept (serve_kept (serveSetStock_kept h.tag args) h) s
  | setTube h args => exact event_kept (serve_kept (serveSetTube_kept h.tag args) h) s
  | clearFault h args => exact event_kept (serve_kept (serveClearFault_kept h.tag args) h) s
  | testMotor h args => exact event_kept (serve_kept (serveTestMotor_kept h.tag args) h) s
  | forgetPeer h args => exact event_kept (serve_kept (serveForgetPeer_kept h.tag args) h) s
  | restart h args straps p => exact event_kept (serve_kept (serveRestart_kept h.tag args straps p) h) s
  | serviceUnknownCode h code args => exact event_kept (serve_kept (answerTool_kept h.tag .badArgument []) h) s

/-! ### The half millisecond with no command waiting (log 2) -/

@[simp] theorem idle_tubes (s : State) : (idle s).cnu.tubes = s.cnu.tubes := by
  unfold idle
  split
  · rfl
  · split
    · exact elapse_tubes 1 s
    · rfl

/-- A step takes one command from a state whose parts other than its queues stand, or lets time pass, or drops an expiry. -/
theorem step_cases {s t : State} (h : step s = .next t) :
    (∃ c p d, exec c { s with pending := p, due := d } = .next t) ∨ (∃ d, t = { s with due := d }) ∨ t = idle s := by
  unfold step at h
  split at h
  · exact .inl ⟨_, _, _, h⟩
  · split at h
    · exact .inl ⟨_, _, _, h⟩
    · exact .inr (.inl ⟨_, (Host.Outcome.next.inj h).symm⟩)
  · exact .inr (.inr (Host.Outcome.next.inj h).symm)

/-- Settles O6: every command keeps the law of the tube records (`exec_kept`), and time passing does not touch them. -/
theorem tubesKeepTheirLaw : Obligations.TubesKeepTheirLaw := by
  intro s t law h
  rcases step_cases h with ⟨c, p, d, e⟩ | ⟨d, rfl⟩ | rfl
  · obtain ⟨u, hu, kept⟩ := exec_kept c { s with pending := p, due := d }
    obtain rfl : refreshOutputs u = t := Host.Outcome.next.inj (hu.symm.trans e)
    exact tubesLaw_congr (kept.tubes (tubesLaw_congr law rfl)) rfl
  · exact tubesLaw_congr law rfl
  · exact tubesLaw_congr law (idle_tubes s)

/-! ### The output lines over a half millisecond -/

/-- What the output lines read of the state is in `t` what it is in `s`. -/
structure ReadAlike (s t : State) : Prop where
  phase : t.phase = s.phase
  params : t.params = s.params
  cause : t.ssu.cause = s.ssu.cause
  link : t.lnk.state = s.lnk.state
  coinTypes : t.cnu.coinTypes = s.cnu.coinTypes
  tubes : t.cnu.tubes = s.cnu.tubes
  cashbox : t.cnu.cashboxPresent = s.cnu.cashboxPresent
  session : t.cru.session.state = s.cru.session.state
  balance : t.cru.session.balance = s.cru.session.balance
  escrow : t.cru.session.escrowPending = s.cru.session.escrowPending
  cooling : t.rfc.state = s.rfc.state
  mode : t.rfc.heaterMode = s.rfc.heaterMode
  door : t.inputs.door.level = s.inputs.door.level
  fulls : ∀ i, fullCovered t i = fullCovered s i

theorem tubeAt_congr {s t : State} (h : t.cnu.tubes = s.cnu.tubes) (i : Nat) : tubeAt t i = tubeAt s i := by
  unfold tubeAt; rw [h]

theorem ReadAlike.inhibited {s t : State} (h : ReadAlike s t) (n : Nat) : inhibited t n = inhibited s n := by
  have coin : coinTypeAt t n = coinTypeAt s n := by unfold coinTypeAt; rw [h.coinTypes]
  have taking : takingTube t n = takingTube s n := by
    unfold takingTube linkedTube; simp only [coin, tubeAt_congr h.tubes, h.fulls]
  unfold Machine.inhibited
  simp only [coin, taking, configured, listenOnly, doorOpen, h.params, h.cause, h.link, h.door, h.session, h.balance,
    h.escrow, h.cashbox]

theorem ReadAlike.outputsOf {s t : State} (h : ReadAlike s t) : outputsOf t = outputsOf s := by
  have lines : inhibitLines t = inhibitLines s := by unfold inhibitLines; simp only [h.phase, h.inhibited]
  unfold Machine.outputsOf
  simp only [lines, outputsOn, configured, Rfc.compressorOn, doorOpen, h.phase, h.cause, h.cooling, h.mode, h.door]

/-- The law of the output lines is that they follow the state. -/
theorem outputsLaw_iff (s : State) : OutputsLaw s ↔ s.outputs = outputsOf s := by
  refine ⟨OutputsLaw.follow, fun h => ?_⟩
  have e : refreshOutputs s = s := by unfold refreshOutputs; rw [← h]
  exact e ▸ outputsLaw_refresh s

/-- R1: a sample whose change is left to its command leaves the filtered level. -/
theorem levelOf_watch (l : List Filter) (i : Nat) : levelOf (l.map Filter.watch) i = levelOf l i := by
  unfold levelOf
  cases i with
  | zero => rfl
  | succ j => simp [Function.comp_def, Filter.watch]

theorem advance_readAlike (d : Nat) (s : State) : ReadAlike s (advance d s) where
  phase := rfl
  params := rfl
  cause := rfl
  link := rfl
  coinTypes := rfl
  tubes := rfl
  cashbox := rfl
  session := rfl
  balance := rfl
  escrow := rfl
  cooling := by simp only [advance, Rfc.later]; split <;> rfl
  mode := by simp only [advance, Rfc.later]; split <;> rfl
  door := rfl
  fulls _ := rfl

theorem elapse_outputsOf (d : Nat) (s : State) : outputsOf (elapse d s) = outputsOf s := by
  rcases elapse_cases d s with e | e <;> rw [e]
  exact (advance_readAlike d s).outputsOf

theorem elapse_outputs (d : Nat) (s : State) : (elapse d s).outputs = s.outputs := by
  rcases elapse_cases d s with e | e <;> rw [e]; rfl

/-- R1: the samples leave every filtered level that the output lines read. -/
theorem idle_outputsOf (s : State) : outputsOf (idle s) = outputsOf s := by
  unfold idle
  split
  · rfl
  · split
    · have sampled : ReadAlike (elapse 1 s) (secondHalf s) := by
        constructor
        case fulls => exact levelOf_watch _
        all_goals rfl
      exact sampled.outputsOf.trans (elapse_outputsOf 1 s)
    · rfl

theorem idle_outputs (s : State) : (idle s).outputs = s.outputs := by
  unfold idle
  split
  · rfl
  · split
    · exact elapse_outputs 1 s
    · rfl

/-- Settles O2: each command ends as an event that refreshes the lines (`exec_kept`), and time passing leaves what they read
(`idle_outputsOf`). -/
theorem everyCommandIsTakenWhole : Obligations.EveryCommandIsTakenWhole := by
  constructor
  · intro c s
    obtain ⟨t, e, kept⟩ := exec_kept c s
    exact ⟨refreshOutputs t, e, kept.pending, outputsLaw_refresh t⟩
  · intro s law
    rw [outputsLaw_iff] at law ⊢
    rw [idle_outputs, idle_outputsOf, law]

end Sys2Proof.Machine.Intake
end

section
/-! PROOFS. The inhibit set and its lines (R6, R7). -/

namespace Sys2Proof.Machine.Intake

-- One after the other, as in the Frames files: side by side, this many small lemmas take more memory than a check has.
set_option Elab.async false

open Laws

/-! ### The inhibit set (R6, R7) -/

theorem linkedTube_eq_some_iff {s : State} {n i : Nat} :
    linkedTube s n = some i ↔
      ∃ c t, coinTypeAt s n = some c ∧ c.tube = some i ∧ tubeAt s i = some t ∧ t.state ≠ .disabled ∧ t.coinType = n := by
  unfold linkedTube
  simp only [bind, Option.bind_eq_some_iff, Option.ite_none_right_eq_some, Option.some.injEq]
  constructor
  · rintro ⟨c, hc, j, hj, t, ht, ⟨h1, h2⟩, rfl⟩
    exact ⟨c, t, hc, hj, ht, h1, h2⟩
  · rintro ⟨c, t, hc, hj, ht, h1, h2⟩
    exact ⟨c, hc, i, hj, t, ht, ⟨h1, h2⟩, rfl⟩

/-- R6: the tube a coin type's coin goes to is the one that can take it. -/
theorem takingTube_eq_some_iff {s : State} {n i : Nat} : takingTube s n = some i ↔ CanStore s n i := by
  unfold takingTube
  simp only [bind, Option.bind_eq_some_iff, Option.ite_none_right_eq_some, Option.some.injEq, linkedTube_eq_some_iff]
  constructor
  · rintro ⟨j, ⟨c, t, hc, hj, ht, h1, h2⟩, u, hu, ⟨h3, h4⟩, rfl⟩
    obtain rfl : t = u := Option.some.inj (ht.symm.trans hu)
    exact ⟨c, t, hc, hj, ht, h1, h2, h3, h4⟩
  · rintro ⟨c, t, hc, hj, ht, h1, h2, h3, h4⟩
    exact ⟨i, ⟨c, t, hc, hj, ht, h1, h2⟩, t, ht, ⟨h3, h4⟩, rfl⟩

theorem takingTube_eq_none_iff {s : State} {n : Nat} : takingTube s n = none ↔ ∀ i, ¬ CanStore s n i := by
  simp only [Option.eq_none_iff_forall_ne_some, ne_eq, takingTube_eq_some_iff]

/-- The lines set one after the other for the places below `n` are those whose condition holds. -/
theorem getLsbD_foldl_lines (p : Nat → Bool) (n k : Nat) (hk : k < 6) :
    ((List.range n).foldl (fun m j => if p j then m ||| BitVec.ofNat 6 (2 ^ j) else m) 0).getLsbD k =
      (decide (k < n) && p k) := by
  induction n with
  | zero => simp
  | succ n ih =>
    rw [List.range_succ, List.foldl_append, List.foldl_cons, List.foldl_nil]
    have bit : (BitVec.ofNat 6 (2 ^ n)).getLsbD k = decide (n = k) := by
      rw [BitVec.getLsbD_ofNat, Nat.testBit_two_pow, decide_eq_true hk, Bool.true_and]
    have line (m : BitVec 6) : (if p n then m ||| BitVec.ofNat 6 (2 ^ n) else m).getLsbD k =
        (m.getLsbD k || p n && decide (n = k)) := by
      cases p n
      · rw [if_neg Bool.false_ne_true, Bool.false_and, Bool.or_false]
      · rw [if_pos rfl, BitVec.getLsbD_or, bit, Bool.true_and]
    rw [line, ih]
    by_cases e : n = k
    · subst e; simp
    · have : k < n + 1 ↔ k < n := by omega
      simp only [e, this, decide_false, Bool.and_false, Bool.or_false]

theorem getLsbD_inhibitLines (s : State) {k : Nat} (hk : k < 6) :
    (inhibitLines s).getLsbD k = (decide (s.phase ≠ .running) || inhibited s (k + 1)) := by
  unfold inhibitLines
  by_cases h : s.phase = .running
  · rw [if_pos h, getLsbD_foldl_lines (fun j => inhibited s (j + 1)) 6 k hk]
    simp [h, hk]
  · rw [if_neg h]
    have all : ∀ j < 6, (0b111111 : BitVec 6).getLsbD j = true := by decide
    rw [all k hk, decide_eq_true h, Bool.true_or]

/-- Settles O12: the conditions are read off the set's definition, the last through `takingTube_eq_none_iff`; the lines one bit at a
time. -/
theorem inhibitSetFollowsItsTable : Obligations.InhibitSetFollowsItsTable := by
  intro n c s hc
  constructor
  · unfold inhibited
    simp only [hc, ← takingTube_eq_none_iff]
    simp [configured, listenOnly, or_assoc, and_comm, Option.isSome_iff_ne_none]
  · intro h1 h6
    obtain ⟨k, rfl⟩ : ∃ k, n = k + 1 := ⟨n - 1, by omega⟩
    exact getLsbD_inhibitLines s (by omega)

end Sys2Proof.Machine.Intake
end

section
/-! PROOFS. A coin report and its routing; the routing time, the solenoid pulse and the cashbox switch (R2 to R12). -/

namespace Sys2Proof.Machine.Intake

-- One after the other, as in the Frames files: side by side, this many small lemmas take more memory than a check has.
set_option Elab.async false

open Laws

/-! ### The end of an event leaves every part but the lines -/

@[simp] theorem refreshOutputs_phase (s : State) : (refreshOutputs s).phase = s.phase := rfl
@[simp] theorem refreshOutputs_inputs (s : State) : (refreshOutputs s).inputs = s.inputs := rfl
@[simp] theorem refreshOutputs_params (s : State) : (refreshOutputs s).params = s.params := rfl
@[simp] theorem refreshOutputs_cnu (s : State) : (refreshOutputs s).cnu = s.cnu := rfl
@[simp] theorem refreshOutputs_cru (s : State) : (refreshOutputs s).cru = s.cru := rfl
@[simp] theorem refreshOutputs_cca (s : State) : (refreshOutputs s).cca = s.cca := rfl
@[simp] theorem refreshOutputs_vsq (s : State) : (refreshOutputs s).vsq = s.vsq := rfl
@[simp] theorem refreshOutputs_mxd (s : State) : (refreshOutputs s).mxd = s.mxd := rfl
@[simp] theorem refreshOutputs_rfc (s : State) : (refreshOutputs s).rfc = s.rfc := rfl
@[simp] theorem refreshOutputs_lbu (s : State) : (refreshOutputs s).lbu = s.lbu := rfl
@[simp] theorem refreshOutputs_lnk (s : State) : (refreshOutputs s).lnk = s.lnk := rfl
@[simp] theorem refreshOutputs_ssu (s : State) : (refreshOutputs s).ssu = s.ssu := rfl

/-! ### Reading the tube records -/

theorem recordAt_modify {α : Type} (l : List (Option α)) (f : α → α) (i j : Nat) :
    recordAt (l.modify i (Option.map f)) j = if i = j then (recordAt l j).map f else recordAt l j := by
  unfold recordAt
  rw [List.getElem?_modify]
  split
  · cases l[j]? <;> rfl
  · simp

theorem tubeAt_modTube_same (i : Nat) (f : Tube → Tube) (s : State) : tubeAt (modTube i f s) i = (tubeAt s i).map f := by
  cases i with
  | zero => rfl
  | succ j => exact (recordAt_modify s.cnu.tubes f j j).trans (if_pos rfl)

theorem tubeAt_modTube_other {i j : Nat} (h : j ≠ i) (f : Tube → Tube) (s : State) :
    tubeAt (modTube i f s) j = tubeAt s j := by
  cases i with
  | zero => rfl
  | succ i =>
    cases j with
    | zero => rfl
    | succ j => exact (recordAt_modify s.cnu.tubes f i j).trans (if_neg fun e => h (congrArg Nat.succ e.symm))

theorem changeTube_tubes (i : Nat) (f : Tube → Tube) (s : State) :
    (changeTube i f s).cnu.tubes = (modTube i f s).cnu.tubes := by
  simp [changeTube]

theorem tubeAt_changeTube_same (i : Nat) (f : Tube → Tube) (s : State) :
    tubeAt (changeTube i f s) i = (tubeAt s i).map f := by
  rw [tubeAt_congr (changeTube_tubes i f s), tubeAt_modTube_same]

theorem tubeAt_changeTube_other {i j : Nat} (h : j ≠ i) (f : Tube → Tube) (s : State) :
    tubeAt (changeTube i f s) j = tubeAt s j := by
  rw [tubeAt_congr (changeTube_tubes i f s), tubeAt_modTube_other h]

theorem running_eq {f : State → State} {s : State} (h : s.phase = .running) : running f s = f s := if_pos h

/-! ### A coin report (R2, R3) -/

/-- R2: the event of a coin strobe, once its strobe stands and before the report is taken. -/
def strobed (a b : BitVec 3) (s : State) : State := { openEvent s with inputs := standStrobe a b s.inputs }

theorem exec_coinStrobe {s : State} (h : s.phase = .running) (a b : BitVec 3) :
    exec (.coinStrobe a b) s = .next (refreshOutputs (coinReport (reportCode a b) (strobed a b s))) := by
  show Host.Outcome.next (refreshOutputs (running _ (strobed a b s))) = _
  rw [running_eq (s := strobed a b s) h]

theorem reportCode_same (a : BitVec 3) : reportCode a a = a.toNat := if_pos rfl

/-- R2, R3: the codes of a head reject. -/
theorem reportCode_reject {a b : BitVec 3} (h : a ≠ b ∨ a = 0 ∨ a = 7) : reportCode a b = 0 ∨ reportCode a b = 7 := by
  unfold reportCode
  split
  · rcases h with h | rfl | rfl
    · exact absurd ‹_› h
    · exact .inl rfl
    · exact .inr rfl
  · exact .inl rfl

theorem coin_code {a : BitVec 3} (h0 : a ≠ 0) (h7 : a ≠ 7) : ¬ (a.toNat = 0 ∨ a.toNat = 7) := by
  rintro (h | h)
  · exact h0 (BitVec.eq_of_toNat_eq h)
  · exact h7 (BitVec.eq_of_toNat_eq h)

theorem coinReport_noMech {s : State} (hc : configured s = true) (hm : s.params.coinMech = false) (code : Nat) :
    coinReport code s = s := if_pos ⟨hc, hm⟩

theorem coinReport_reject {s : State} (h : configured s = false ∨ s.params.coinMech = true) {code : Nat}
    (hr : code = 0 ∨ code = 7) :
    coinReport code s = { s with cnu := { s.cnu with headRejects := min 65535 (s.cnu.headRejects + 1) } } := by
  have mech : ¬ (configured s = true ∧ s.params.coinMech = false) := by
    rintro ⟨hc, hm⟩
    rcases h with h | h <;> simp_all
  exact (if_neg mech).trans (if_pos hr)

theorem coinReport_unconfigured {s : State} (h : configured s = false) {code : Nat} (hr : ¬ (code = 0 ∨ code = 7)) :
    coinReport code s = unstored s := by
  have mech : ¬ (configured s = true ∧ s.params.coinMech = false) := by simp [h]
  exact (if_neg mech).trans ((if_neg hr).trans (if_pos h))

theorem coinReport_coin {s : State} (hc : configured s = true) (hm : s.params.coinMech = true) {code : Nat}
    (hr : ¬ (code = 0 ∨ code = 7)) {c : CoinType} (ht : coinTypeAt s code = some c) :
    coinReport code s = takeCoin code c s := by
  have mech : ¬ (configured s = true ∧ s.params.coinMech = false) := by simp [hm]
  have conf : ¬ configured s = false := by simp [hc]
  refine (if_neg mech).trans ((if_neg hr).trans ((if_neg conf).trans ?_))
  rw [ht]

/-- Settles O14: the three reports that are not taken as a coin. -/
theorem strobeThatIsNoCoin : Obligations.StrobeThatIsNoCoin := by
  intro a b s running
  refine ⟨fun hc hm => ?_, fun h hr => ?_, fun hc e h0 h7 => ?_⟩ <;> rw [exec_coinStrobe running]
  · rw [coinReport_noMech (s := strobed a b s) hc hm]; rfl
  · rw [coinReport_reject (s := strobed a b s) h (reportCode_reject hr)]; rfl
  · subst e
    rw [reportCode_same, coinReport_unconfigured (s := strobed a a s) hc (coin_code h0 h7)]; rfl

/-! ### Routing a coin (R8 to R11) -/

theorem takeCoin_tube {s : State} {code i : Nat} (h : CanStore s code i) (c : CoinType) :
    takeCoin code c s = probeAfter s.cnu.tubes (creditCoin c.value (routeToTube i c.value s)) := by
  unfold takeCoin; rw [takingTube_eq_some_iff.mpr h]

theorem takeCoin_noTube {s : State} {code : Nat} (h : ∀ i, ¬ CanStore s code i) (c : CoinType) :
    takeCoin code c s =
      if s.cnu.cashboxPresent then creditCoin c.value (routeToCashbox c.value s) else unstored s := by
  unfold takeCoin; rw [takingTube_eq_none_iff.mpr h]

/-- R59: crediting a coin moves neither total of the routed coins. -/
theorem creditCoin_routedTotals (v : Nat) (s : State) :
    (creditCoin v s).ssu.totals.toTubes = s.ssu.totals.toTubes ∧
      (creditCoin v s).ssu.totals.toCashbox = s.ssu.totals.toCashbox := by
  unfold creditCoin
  split
  · simp [openSession]
  · unfold addCoin
    dsimp only
    split <;> simp

/-- R8, R14: a coin routed to a tube in use that is not full raises its count, and its state is NORMAL. -/
theorem takeCoin_of_room {u : Tube} (hs : u.state ≠ .disabled) (hc : u.count < u.capacity) :
    u.takeCoin = { u with count := u.count + 1, state := .normal } := by
  have count : min (u.count + 1) u.capacity = u.count + 1 := by omega
  unfold Tube.takeCoin Tube.revive Tube.withCount
  cases h : u.state
  · simp [count]
  · simp [count]
  · exact absurd h hs

/-- R8, R9: routing a coin to tube `i` changes the tube, the routing and one total. -/
theorem routeToTube_eq (i v : Nat) (s : State) :
    routeToTube i v s =
      { s with
        cnu := { (modTube i Tube.takeCoin s).cnu with routing := some ⟨.tube i, 0⟩ }
        ssu := { s.ssu with totals := { s.ssu.totals with toTubes := min 4294967295 (s.ssu.totals.toTubes + v) } } } := by
  cases i <;> rfl

/-- R8, R9: routing a coin to the cashbox changes the routing and one total. -/
theorem routeToCashbox_eq (v : Nat) (s : State) :
    routeToCashbox v s =
      { s with
        cnu := { s.cnu with routing := some ⟨.cashbox, 0⟩ }
        ssu := { s.ssu with totals := { s.ssu.totals with toCashbox := min 4294967295 (s.ssu.totals.toCashbox + v) } } } :=
  rfl

/-- R3: a strobe taken as a coin of the type `c`. -/
theorem exec_coinStrobe_coin {s : State} {n : BitVec 3} {c : CoinType} (h : TakesCoin s n)
    (hc : coinTypeAt s n.toNat = some c) :
    exec (.coinStrobe n n) s = .next (refreshOutputs (takeCoin n.toNat c (strobed n n s))) := by
  obtain ⟨running, conf, mech, h0, h7⟩ := h
  rw [exec_coinStrobe running, reportCode_same, coinReport_coin (s := strobed n n s) conf mech (coin_code h0 h7) hc]

/-- Settles O15: a coin routed to its tube, to the cashbox, or unstored; what crediting it changes lies elsewhere. -/
theorem coinIsRouted : Obligations.CoinIsRouted := by
  constructor
  · intro n i s takes store
    obtain ⟨c, x, coin, -, tube, used, -, room, -⟩ := id store
    let u := strobed n n s
    let t := creditCoin c.value (routeToTube i c.value u)
    have routed : takeCoin n.toNat c u = probeAfter u.cnu.tubes t := takeCoin_tube (s := u) store c
    have cnu : t.cnu = { (modTube i Tube.takeCoin u).cnu with routing := some ⟨.tube i, 0⟩ } := by
      simp [t, routeToTube_eq]
    have tubes (j : Nat) : tubeAt (refreshOutputs (probeAfter u.cnu.tubes t)) j = tubeAt (modTube i Tube.takeCoin u) j :=
      tubeAt_congr (by simp [cnu]) j
    have toTubes : t.ssu.totals.toTubes = min 4294967295 (s.ssu.totals.toTubes + c.value) :=
      (creditCoin_routedTotals _ _).1.trans (by rw [routeToTube_eq]; rfl)
    have toCashbox : t.ssu.totals.toCashbox = s.ssu.totals.toCashbox :=
      (creditCoin_routedTotals _ _).2.trans (by rw [routeToTube_eq]; rfl)
    refine ⟨_, c, x, exec_coinStrobe_coin takes coin, coin, tube, ?_⟩
    rw [routed]
    refine ⟨by simp [cnu], ?_, fun j hj => ?_, ?_, ?_, ?_⟩
    · rw [tubes, tubeAt_modTube_same, show tubeAt u i = some x from tube, Option.map_some, takeCoin_of_room used room]
    · rw [tubes, tubeAt_modTube_other hj]; rfl
    · simpa using toTubes
    · simpa using toCashbox
    · simp [t, routeToTube_eq, u, strobed]
  · intro n c s takes coin noTube
    let u := strobed n n s
    have routed := takeCoin_noTube (s := u) noTube c
    refine ⟨fun present => ?_, fun out => ?_⟩
    · obtain ⟨toTubes, toCashbox⟩ := creditCoin_routedTotals c.value (routeToCashbox c.value u)
      refine ⟨_, exec_coinStrobe_coin takes coin, ?_⟩
      rw [routed, if_pos (show u.cnu.cashboxPresent = true from present)]
      refine ⟨?_, ?_, ?_, ?_⟩
      · simp [routeToCashbox_eq, u, strobed]
      · exact toCashbox
      · exact toTubes
      · simp [routeToCashbox_eq, u, strobed]
    · rw [exec_coinStrobe_coin takes coin, routed,
        if_neg (show ¬ u.cnu.cashboxPresent = true from Bool.eq_false_iff.mp out)]
      rfl

/-! ### The ends of a routing and of a pulse; the cashbox switch -/

/-- Settles O17: each of the three events has one branch here. -/
theorem routingPulseAndCashbox : Obligations.RoutingPulseAndCashbox := by
  refine ⟨fun r s h => ?_, fun p s h => ?_, fun closed s h => ?_⟩
  · show Host.Outcome.next (refreshOutputs (endRouting (openEvent s))) = _
    unfold endRouting
    rw [show (openEvent s).cnu.routing = some r from h]
    rfl
  · show Host.Outcome.next (refreshOutputs (endPulse (openEvent s))) = _
    unfold endPulse
    rw [show (openEvent s).cru.solenoid = some p from h]
    rfl
  · let stood := (openEvent s).modInputs fun n => { n with cashbox := Filter.standing closed }
    show Host.Outcome.next (refreshOutputs (running (takeCashbox closed) stood)) = _
    rw [running_eq (s := stood) h]
    rfl

end Sys2Proof.Machine.Intake
end

section
/-! PROOFS. The places of the transmit queue as the statements read them: what a STATUS asked for and an answer make of them, and
the exact-change probe's STATUS (R29, R168, R169, R177). -/

namespace Sys2Proof.Machine.Intake

set_option Elab.async false

open Laws

/-! ### The places of the transmit queue (R168) -/

/-- The queued frames in their order, each with what of it is on the bus; how often a frame has been attempted is left out. -/
def places (s : State) : List (Frame × Option Wire) := s.lnk.queue.map fun e => (e.frame, e.onBus)

theorem awaits_iff (f : Frame) (s : State) : Awaits f s ↔ (f, none) ∈ places s := by
  simp [Awaits, places]

theorem places_length (s : State) : (places s).length = s.lnk.queue.length := List.length_map _

theorem places_frames (s : State) : (places s).map Prod.fst = s.lnk.queue.map fun e => e.frame := by
  simp [places, Function.comp_def]

theorem listenOnly_iff (s : State) : listenOnly s = true ↔ s.lnk.state = .listenOnly := by simp [listenOnly]

theorem waits_iff (f : Frame) (e : TxEntry) : e.waits f = true ↔ (e.frame, e.onBus) = (f, none) := by
  simp [TxEntry.waits]

theorem any_waits_iff (f : Frame) (s : State) : s.lnk.queue.any (TxEntry.waits f) = true ↔ (f, none) ∈ places s := by
  simp [places, waits_iff]

/-- R168: the places once `f` has been asked for: it joins a waiting frame of its kind when it supersedes, and otherwise takes the
place behind the queued frames; in LISTEN-ONLY, or with no place free, it is lost. -/
def withFrame (f : Frame) (link : LinkState) (p : List (Frame × Option Wire)) : List (Frame × Option Wire) :=
  if link = .listenOnly ∨ (superseding f = true ∧ (f, none) ∈ p) ∨ 8 ≤ p.length then p else p ++ [(f, none)]

theorem request_places (f : Frame) (s : State) : places (request f s).1 = withFrame f s.lnk.state (places s) := by
  unfold withFrame
  rcases request_cases f s with ⟨e, h⟩ | ⟨e, hl, hs, hw⟩ | ⟨e, hl, hq, hw⟩ <;> rw [e]
  · rw [if_pos (h.imp (listenOnly_iff s).mp fun h => .inr (by rwa [places_length]))]
  · rw [if_pos (.inr (.inl ⟨hs, (any_waits_iff f s).mp hw⟩))]
    unfold places
    simp only [modLnk_lnk, List.map_map]
    refine List.map_congr_left fun e _ => ?_
    simp only [Function.comp_apply]
    split <;> rfl
  · rw [if_neg]
    · simp [places, TxEntry.fresh]
    · rintro (h | ⟨hs, waits⟩ | h)
      · rw [(listenOnly_iff s).mpr h] at hl; cases hl
      · rw [hs, (any_waits_iff f s).mpr waits] at hw; cases hw
      · rw [places_length] at h; omega

theorem queueStatus_places (s : State) : places (queueStatus s) = withFrame .status s.lnk.state (places s) := by
  rw [← request_places]
  unfold queueStatus
  dsimp only
  split <;> rfl

theorem startStatus_places (s : State) : places (startStatus s) = withFrame .status s.lnk.state (places s) := by
  rw [← request_places]
  unfold startStatus
  dsimp only
  split <;> rfl

/-- A frame asked for waits, where the link takes frames and one waits already or a place is free. -/
theorem mem_withFrame {f : Frame} {link : LinkState} {p : List (Frame × Option Wire)} (hl : link ≠ .listenOnly)
    (room : (f, none) ∈ p ∨ p.length < 8) : (f, none) ∈ withFrame f link p := by
  unfold withFrame
  split
  · rename_i h
    rcases h with h | ⟨-, h⟩ | h
    · exact absurd h hl
    · exact h
    · exact room.resolve_right (Nat.not_lt.mpr h)
  · simp

theorem hasRoom_iff (f : Frame) (s : State) :
    HasRoom f s ↔ s.lnk.state ≠ .listenOnly ∧ ((f, none) ∈ places s ∨ (places s).length < 8) := by
  rw [places_length, ← awaits_iff]; rfl

theorem mem_withFrame_of_hasRoom {f : Frame} {s : State} (room : HasRoom f s) :
    (f, none) ∈ withFrame f s.lnk.state (places s) :=
  let ⟨hl, place⟩ := (hasRoom_iff f s).mp room
  mem_withFrame hl place

theorem withFrame_append {f : Frame} {link : LinkState} {p : List (Frame × Option Wire)} (hs : superseding f = false)
    (hl : link ≠ .listenOnly) (room : p.length < 8) : withFrame f link p = p ++ [(f, none)] := by
  unfold withFrame
  rw [if_neg]
  rintro (h | ⟨h, -⟩ | h)
  · exact hl h
  · rw [hs] at h; cases h
  · omega

theorem withFrame_lost {f : Frame} {link : LinkState} {p : List (Frame × Option Wire)}
    (h : link = .listenOnly ∨ 8 ≤ p.length) : withFrame f link p = p := if_pos (h.imp_right .inr)

theorem withFrame_length_le (f : Frame) (link : LinkState) (p : List (Frame × Option Wire)) :
    (withFrame f link p).length ≤ p.length + 1 := by
  unfold withFrame; split <;> simp

theorem subset_withFrame (f : Frame) (link : LinkState) (p : List (Frame × Option Wire)) : p ⊆ withFrame f link p := by
  unfold withFrame; split <;> simp

/-- A second STATUS asked for joins the first. -/
theorem withFrame_status_twice (link : LinkState) (p : List (Frame × Option Wire)) :
    withFrame .status link (withFrame .status link p) = withFrame .status link p := by
  by_cases h : link = .listenOnly ∨ 8 ≤ p.length
  · rw [withFrame_lost h, withFrame_lost h]
  · have waits : (Frame.status, none) ∈ withFrame .status link p :=
      mem_withFrame (fun e => h (.inl e)) (.inr (Nat.lt_of_not_le fun e => h (.inr e)))
    exact if_pos (.inr (.inl ⟨rfl, waits⟩))

/-! ### States whose queue differs by STATUS asked for -/

/-- From `s` to `t` nothing was asked of the transmit queue but STATUS, if anything. -/
structure StatusOnly (s t : State) : Prop where
  link : t.lnk.state = s.lnk.state
  queue : places t = places s ∨ places t = withFrame .status s.lnk.state (places s)

namespace StatusOnly
variable {s t u : State}

theorem of_lnk (h : t.lnk = s.lnk) : StatusOnly s t := ⟨by rw [h], .inl (by unfold places; rw [h])⟩

theorem asked (s : State) : StatusOnly s (queueStatus s) := ⟨by simp, .inr (queueStatus_places s)⟩

theorem trans (h : StatusOnly s t) (g : StatusOnly t u) : StatusOnly s u := by
  refine ⟨g.link.trans h.link, ?_⟩
  have queue := g.queue
  rw [h.link] at queue
  rcases h.queue with e | e <;> rw [e] at queue
  · exact queue
  · rw [withFrame_status_twice, or_self] at queue
    exact .inr queue

theorem andAsked (h : StatusOnly s t) : StatusOnly s (queueStatus t) := h.trans (.asked t)

theorem length_le (h : StatusOnly s t) : t.lnk.queue.length ≤ s.lnk.queue.length + 1 := by
  rw [← places_length, ← places_length]
  rcases h.queue with e | e <;> rw [e]
  · omega
  · exact withFrame_length_le ..

/-- R168: a STATUS that has room in `s` has room in `t`. -/
theorem hasRoom (h : StatusOnly s t) (room : HasRoom .status s) : HasRoom .status t := by
  obtain ⟨hl, place⟩ := (hasRoom_iff _ s).mp room
  refine (hasRoom_iff _ t).mpr ⟨h.link ▸ hl, ?_⟩
  rcases h.queue with e | e <;> rw [e]
  · exact place
  · exact .inl (mem_withFrame hl place)

/-- With no place free, or in LISTEN-ONLY, the queue holds the frames it held. -/
theorem frames (h : StatusOnly s t) (lost : s.lnk.state = .listenOnly ∨ 8 ≤ s.lnk.queue.length) : places t = places s := by
  rcases h.queue with e | e
  · exact e
  · rw [e, withFrame_lost (by rwa [places_length])]

end StatusOnly

/-- R169: a STATUS asked for that has room waits. -/
theorem awaits_queueStatus {s : State} (room : HasRoom .status s) : Awaits .status (queueStatus s) := by
  rw [awaits_iff, queueStatus_places]
  exact mem_withFrame_of_hasRoom room

/-! ### The exact-change-only flag (R28, R29) -/

/-- R29: the flag stands, or its STATUS is asked for. -/
def FlagAnnounced (s t : State) : Prop :=
  t.cru.exactChangeOnly = s.cru.exactChangeOnly ∨ (HasRoom .status s → Awaits .status t)

theorem reevaluateExact_announced (s : State) :
    StatusOnly s (reevaluateExact s) ∧ FlagAnnounced s (reevaluateExact s) := by
  unfold reevaluateExact
  split
  · exact ⟨.of_lnk rfl, .inl rfl⟩
  · let flagged := s.modCru fun c => { c with exactChangeOnly := exactChangeValue s }
    have flag : StatusOnly s flagged := .of_lnk rfl
    exact ⟨flag.andAsked, .inr fun room => awaits_queueStatus (flag.hasRoom room)⟩

theorem probe_announced (s : State) : StatusOnly s (probe s) ∧ FlagAnnounced s (probe s) := by
  let u := s.modCru fun c => { c with probeShort := coinStation s && !planExact s s.params.probeAmount }
  have probed : StatusOnly s u := .of_lnk rfl
  obtain ⟨status, announced⟩ := reevaluateExact_announced u
  exact ⟨probed.trans status, announced.imp id fun h room => h (probed.hasRoom room)⟩

theorem changeTube_announced (i : Nat) (f : Tube → Tube) (s : State) :
    StatusOnly s (changeTube i f s) ∧ FlagAnnounced s (changeTube i f s) := by
  have tube : StatusOnly s (modTube i f s) := .of_lnk (by simp)
  have flag : (modTube i f s).cru.exactChangeOnly = s.cru.exactChangeOnly := by simp
  unfold changeTube probeAfter
  split
  · exact ⟨tube, .inl flag⟩
  · obtain ⟨status, announced⟩ := probe_announced (modTube i f s)
    exact ⟨tube.trans status, announced.imp (·.trans flag) fun h room => h (tube.hasRoom room)⟩

end Sys2Proof.Machine.Intake
end

section
/-! PROOFS. The corrections of a tube's count by its level switches (R16 to R18): at a switch's change, and at the power-up
reconciliation with what it queues (R12, R40, R175). -/

namespace Sys2Proof.Machine.Intake

set_option Elab.async false

open Laws

/-! ### The corrected count -/

/-- R16: the corrections, each written as the rule words it. -/
theorem reconciled_eq (u : Tube) (empty full : Bool) :
    reconciled u empty full =
      let a :=
        if empty then if u.count ≤ u.lowMark then u.lowMark + 1 else u.count
        else if u.lowMark < u.count then u.lowMark else u.count
      if full then if a < u.fullMark then u.fullMark else a
      else if u.fullMark ≤ a then u.fullMark - 1 else a := by
  have first : (if empty then max u.count (u.lowMark + 1) else min u.count u.lowMark) =
      if empty then if u.count ≤ u.lowMark then u.lowMark + 1 else u.count
      else if u.lowMark < u.count then u.lowMark else u.count := by
    split <;> split <;> omega
  unfold reconciled
  rw [first]
  dsimp only
  generalize (if empty then if u.count ≤ u.lowMark then u.lowMark + 1 else u.count
    else if u.lowMark < u.count then u.lowMark else u.count) = a
  split <;> split <;> omega

theorem reconciled_le_capacity {u : Tube} (hc : u.count ≤ u.capacity) (hl : u.lowMark < u.fullMark)
    (hf : u.fullMark ≤ u.capacity) (empty full : Bool) : reconciled u empty full ≤ u.capacity := by
  unfold reconciled
  cases empty <;> cases full <;> dsimp only <;> simp only [if_true, if_false, Bool.false_eq_true] <;> omega

theorem reconcile_inUse {u : Tube} (hs : u.state ≠ .disabled) (hc : u.count ≤ u.capacity) (hl : u.lowMark < u.fullMark)
    (hf : u.fullMark ≤ u.capacity) (empty full : Bool) :
    u.reconcile empty full = { u with count := reconciled u empty full } := by
  unfold Tube.reconcile Tube.withCount
  rw [if_neg hs, if_neg hs, Nat.min_eq_left (reconciled_le_capacity hc hl hf empty full)]

/-- R18: the estimate of a tube in use starts from its low mark, and the tube is NORMAL. -/
theorem estimate_inUse {u : Tube} (hs : u.state ≠ .disabled) (hl : u.lowMark < u.fullMark) (hf : u.fullMark ≤ u.capacity)
    (empty full : Bool) :
    u.estimate empty full =
      { u with state := .normal, count := reconciled { u with count := u.lowMark } empty full } := by
  have low : min u.lowMark u.capacity = u.lowMark := by omega
  let v : Tube := { u with state := .normal, count := u.lowMark }
  have start : Tube.withCount u.lowMark { u with state := .normal } = v := by
    unfold Tube.withCount; rw [if_neg (by simp), low]
  unfold Tube.estimate
  rw [if_neg hs, start, reconcile_inUse (u := v) (by simp [v]) (by show u.lowMark ≤ u.capacity; omega) hl hf]
  rfl

/-! ### A change of a level switch -/

/-- The event of a level switch's change, once the switch stands. -/
def switched (i : Nat) (w : LevelSwitch) (covered : Bool) (s : State) : State :=
  (openEvent s).modInputs (standSwitch i w covered)

theorem exec_levelSwitchChange {s : State} (h : s.phase = .running) (i : Nat) (w : LevelSwitch) (covered : Bool) :
    exec (.levelSwitchChange i w covered) s = .next (refreshOutputs (reconcileTube i (switched i w covered s))) := by
  show Host.Outcome.next (refreshOutputs (running _ (switched i w covered s))) = _
  rw [running_eq (s := switched i w covered s) h]

/-- R29: the statement's condition, from what a tube's change announces. -/
theorem exactAnnounced_of {s u t : State} (asked : StatusOnly s u) (flag : u.cru.exactChangeOnly = s.cru.exactChangeOnly)
    (announced : FlagAnnounced u t) : ExactAnnounced s t := by
  intro changed link room
  rcases announced with e | h
  · exact absurd (e.trans flag) changed
  · exact h ⟨asked.link ▸ link, .inr (by have := asked.length_le; omega)⟩

/-- Settles O18: the change is one reconciled tube, and its probe announces the flag. -/
theorem levelSwitchReconcilesTheCount : Obligations.LevelSwitchReconcilesTheCount := by
  intro i w covered u s running tube hc hl hf
  let v := switched i w covered s
  obtain ⟨-, announced⟩ := changeTube_announced i (Tube.reconcile (emptyCovered v i) (fullCovered v i)) v
  have inputs : (refreshOutputs (reconcileTube i v)).inputs = v.inputs := by simp [reconcileTube]
  have empty : emptyCovered (refreshOutputs (reconcileTube i v)) i = emptyCovered v i := by
    unfold emptyCovered; rw [inputs]
  have full : fullCovered (refreshOutputs (reconcileTube i v)) i = fullCovered v i := by
    unfold fullCovered; rw [inputs]
  have own : tubeAt (refreshOutputs (reconcileTube i v)) i =
      some (u.reconcile (emptyCovered v i) (fullCovered v i)) :=
    (tubeAt_changeTube_same i _ v).trans (congrArg _ (tube : tubeAt v i = some u))
  refine ⟨_, exec_levelSwitchChange running i w covered, exactAnnounced_of (u := v) (.of_lnk rfl) rfl announced,
    fun disabled => ?_, fun used => ?_, fun j hj => tubeAt_changeTube_other hj _ v, inputs, ?_⟩
  · rw [own, Tube.reconcile, if_pos disabled]
  · dsimp only
    rw [own, reconcile_inUse used hc hl hf, empty, full, reconciled_eq]
  · simp [reconcileTube, switched]

/-! ### The power-up reconciliation -/

theorem recordAt_estimateFrom (n : Inputs) (i j : Nat) (l : List (Option Tube)) :
    recordAt (estimateFrom n i l) j =
      (recordAt l j).map (Tube.estimate (levelOf n.empties (i + j)) (levelOf n.fulls (i + j))) := by
  induction l generalizing i j with
  | nil => rfl
  | cons a r ih =>
    cases j with
    | zero => rfl
    | succ j => exact (ih (i + 1) j).trans (by rw [Nat.add_right_comm, Nat.add_assoc]; rfl)

/-- R18, R175: the state of the reconciliation once its inputs stand and its tubes are estimated, before the probe. -/
def estimated (l : InputLevels) (s : State) : State :=
  { reconcileAll l.cashbox ((openEvent s).modInputs (standLevels l)) with phase := .running }

theorem tubeAt_estimated (l : InputLevels) (s : State) (i : Nat) :
    tubeAt (estimated l s) i =
      (tubeAt s i).map (Tube.estimate (emptyCovered (estimated l s) i) (fullCovered (estimated l s) i)) := by
  cases i with
  | zero => rfl
  | succ j => exact (recordAt_estimateFrom _ 1 j s.cnu.tubes).trans (by rw [Nat.add_comm]; rfl)

theorem exec_powerUpReconciliation {s : State} (h : s.phase = .enabled) (l : InputLevels) :
    exec (.powerUpReconciliation l) s = .next (refreshOutputs (announceStart (probe (estimated l s)))) := by
  show Host.Outcome.next (refreshOutputs (if (openEvent s).phase = .enabled then _ else _)) = _
  rw [if_pos (show (openEvent s).phase = .enabled from h)]
  rfl

/-- R169: a STATUS of a power-up that has room starts the period timer. -/
theorem startStatus_periodTimer {s : State} (room : HasRoom .status s) : (startStatus s).lnk.periodTimer = some 0 := by
  obtain ⟨hl, room⟩ := room
  have taken : (request .status s).2 = true := by
    unfold request
    rw [if_neg (mt (listenOnly_iff s).mp hl)]
    split
    · rfl
    · rename_i noneWaits
      have free : s.lnk.queue.length < 8 := room.resolve_left fun waits =>
        noneWaits ((any_waits_iff _ s).mpr ((awaits_iff _ s).mp waits))
      rw [if_pos (show s.lnk.queue.length < Config.queuePlaces from free)]
  unfold startStatus
  rw [if_pos taken]
  rfl

/-- R40, R169: the places of the queue after the announcement of a start into an empty queue. -/
theorem announceStart_places {s : State} (hl : s.lnk.state ≠ .listenOnly)
    (hq : places s = [] ∨ places s = [(.status, none)]) :
    (places (announceStart s)).length = 2 ∧ (.status, none) ∈ places (announceStart s) ∧
      (.purge s.cru.session.number, none) ∈ places (announceStart s) ∧ (announceStart s).lnk.periodTimer = some 0 := by
  let purged := send (.purge s.cru.session.number) s
  have link : purged.lnk.state = s.lnk.state := by simp [purged]
  have short : (places s).length < 8 := by rcases hq with e | e <;> rw [e] <;> decide
  have queue : places purged = places s ++ [(.purge s.cru.session.number, none)] :=
    (request_places _ s).trans (withFrame_append rfl hl short)
  have room : HasRoom .status purged := by
    refine ⟨link ▸ hl, .inr ?_⟩
    rw [← places_length, queue]
    rcases hq with e | e <;> rw [e] <;> simp
  have all : places (announceStart s) = withFrame .status purged.lnk.state (places purged) := startStatus_places purged
  refine ⟨?_, ?_, ?_, startStatus_periodTimer room⟩
  · rw [all, queue]
    rcases hq with e | e <;> rw [e] <;> simp [withFrame, superseding, link, hl]
  · rw [all]
    exact mem_withFrame_of_hasRoom room
  · rw [all]
    exact subset_withFrame _ _ _ (by simp [queue])

/-- Settles O55: the estimates tube by tube, and the two frames in the empty queue, whether or not the probe has asked for the
STATUS first. -/
theorem reconciliationStartsThePart : Obligations.ReconciliationStartsThePart := by
  intro l s enabled empty link
  let e := estimated l s
  let t := announceStart (probe e)
  obtain ⟨status, -⟩ := probe_announced e
  have none : places e = [] := by simp [places, e, estimated, reconcileAll, openEvent, empty]
  have queue : places (probe e) = [] ∨ places (probe e) = [(.status, .none)] := by
    have := status.queue
    rwa [none, show withFrame .status e.lnk.state [] = [(.status, .none)] by
      simp [withFrame, show e.lnk.state ≠ .listenOnly from link]] at this
  obtain ⟨two, waits, purge, period⟩ := announceStart_places (status.link ▸ link) queue
  rw [show (probe e).cru.session.number = s.cru.session.number by simp [e, estimated, reconcileAll, openEvent]] at purge
  have inputs : t.inputs = e.inputs := by simp [t, announceStart]
  have tubes (i : Nat) : tubeAt t i = tubeAt e i := tubeAt_congr (by simp [t, announceStart]) i
  refine ⟨_, exec_powerUpReconciliation enabled l, ?_⟩
  refine ⟨by simp [announceStart, estimated], by simp [announceStart, estimated, reconcileAll],
    inputs, (places_length t).symm.trans two, ?_, (awaits_iff _ t).mpr waits, period, fun i u tube used hl hf => ?_, ?_⟩
  · exact (awaits_iff _ t).mpr purge
  · have own : tubeAt (refreshOutputs t) i = some (u.estimate (emptyCovered e i) (fullCovered e i)) :=
      (tubes i).trans ((tubeAt_estimated l s i).trans (congrArg _ tube))
    have empty : emptyCovered (refreshOutputs t) i = emptyCovered e i := by
      unfold emptyCovered; rw [refreshOutputs_inputs, inputs]
    have full : fullCovered (refreshOutputs t) i = fullCovered e i := by
      unfold fullCovered; rw [refreshOutputs_inputs, inputs]
    dsimp only
    rw [own, estimate_inUse used hl hf, empty, full, reconciled_eq]
    simp only [Nat.le_refl, Nat.lt_irrefl, if_true, if_false]
  · simp [announceStart, estimated, reconcileAll, openEvent]

end Sys2Proof.Machine.Intake
end

section
/-! PROOFS. The service requests AUDIT-CLEAR, SET-TUBE and CLEAR-FAULT, from the state that hearing the tool leaves (R20, R177,
R179, R181). -/

namespace Sys2Proof.Machine.Intake

set_option Elab.async false

open Laws

/-! ### What hearing a station leaves -/

/-- R148, R170: hearing touches the event's marks, the peer load table and the link alone. -/
theorem hearing_eq (src : Station) (s : State) :
    hearing src s = { openEvent s with lbu := (hearing src s).lbu, lnk := (hearing src s).lnk } := by
  unfold hearing statusAsked
  dsimp only
  (repeat' split) <;> rfl

theorem hearing_agenda (src : Station) (s : State) : (hearing src s).lbu.agenda = [] := by
  unfold hearing statusAsked
  dsimp only
  (repeat' split) <;> rfl

@[simp] theorem hearing_inputs (src : Station) (s : State) : (hearing src s).inputs = s.inputs := by rw [hearing_eq]; rfl
@[simp] theorem hearing_params (src : Station) (s : State) : (hearing src s).params = s.params := by rw [hearing_eq]; rfl
@[simp] theorem hearing_cnu (src : Station) (s : State) : (hearing src s).cnu = s.cnu := by rw [hearing_eq]; rfl
@[simp] theorem hearing_session (src : Station) (s : State) : (hearing src s).cru.session = s.cru.session := by
  rw [hearing_eq]; rfl
@[simp] theorem hearing_exactChangeOnly (src : Station) (s : State) :
    (hearing src s).cru.exactChangeOnly = s.cru.exactChangeOnly := by rw [hearing_eq]; rfl
@[simp] theorem hearing_vsq (src : Station) (s : State) : (hearing src s).vsq = s.vsq := by rw [hearing_eq]; rfl
@[simp] theorem hearing_mxd (src : Station) (s : State) : (hearing src s).mxd = s.mxd := by rw [hearing_eq]; rfl
@[simp] theorem hearing_rfc (src : Station) (s : State) : (hearing src s).rfc = s.rfc := by rw [hearing_eq]; rfl

/-- R170: of the transmit queue hearing asks for a STATUS at most. -/
theorem hearing_statusOnly (src : Station) (s : State) : StatusOnly s (hearing src s) := by
  unfold hearing
  dsimp only
  split
  · rw [← queueStatus_eq]
    exact .andAsked ⟨rfl, .inl rfl⟩
  · exact ⟨rfl, .inl rfl⟩

/-- R177: a request of the tool that leaves nothing to the end of its event is its act in the state after hearing. -/
theorem event_serve {tag : Byte} {s : State} (h : Hears 15 s) (own : s.ssu.own ≠ 0) {f : State → State}
    (hf : (f (hearing 15 s)).lbu = (hearing 15 s).lbu) :
    event (serve ⟨15, s.ssu.own, tag⟩ f) s = .next (refreshOutputs (f (hearing 15 s))) := by
  have none : (f (hearing 15 s)).lbu.agenda = [] := by rw [hf, hearing_agenda]
  rw [event_next, serve_hearing h own, runAgenda_nil none]

/-! ### Answering the tool -/

@[simp] theorem answerTool_lbu (tag : Byte) (r : ServiceResult) (d : List Byte) (s : State) :
    (answerTool tag r d s).lbu = s.lbu := by simp [answerTool]
@[simp] theorem answerTool_cnu (tag : Byte) (r : ServiceResult) (d : List Byte) (s : State) :
    (answerTool tag r d s).cnu = s.cnu := by simp [answerTool]
@[simp] theorem answerTool_cru (tag : Byte) (r : ServiceResult) (d : List Byte) (s : State) :
    (answerTool tag r d s).cru = s.cru := by simp [answerTool]
@[simp] theorem answerTool_vsq (tag : Byte) (r : ServiceResult) (d : List Byte) (s : State) :
    (answerTool tag r d s).vsq = s.vsq := by simp [answerTool]
@[simp] theorem answerTool_mxd (tag : Byte) (r : ServiceResult) (d : List Byte) (s : State) :
    (answerTool tag r d s).mxd = s.mxd := by simp [answerTool]
@[simp] theorem answerTool_rfc (tag : Byte) (r : ServiceResult) (d : List Byte) (s : State) :
    (answerTool tag r d s).rfc = s.rfc := by simp [answerTool]

theorem answerTool_places (tag : Byte) (r : ServiceResult) (d : List Byte) (s : State) :
    places (answerTool tag r d s) = withFrame (.serviceAnswer 15 tag r d) s.lnk.state (places s) :=
  request_places _ s

/-- What waits goes on to wait when the tool is answered. -/
theorem awaits_answerTool {f : Frame} {s : State} (h : Awaits f s) (tag : Byte) (r : ServiceResult) (d : List Byte) :
    Awaits f (answerTool tag r d s) := by
  rw [awaits_iff] at h ⊢
  rw [answerTool_places]
  exact subset_withFrame _ _ _ h

theorem FlagAnnounced.answerTool {s t : State} (h : FlagAnnounced s t) (tag : Byte) (r : ServiceResult) (d : List Byte) :
    FlagAnnounced s (answerTool tag r d t) :=
  h.imp (fun e => by rw [answerTool_cru, e]) fun g room => awaits_answerTool (g room) tag r d

/-- R177: the answer finds its place, or is lost with the queue as it was. -/
def Told (s : State) (tag : Byte) (data : List Byte) (t : State) : Prop :=
  (s.lnk.state ≠ .listenOnly → s.lnk.queue.length < 7 → Awaits (.serviceAnswer 15 tag .done data) t) ∧
    (s.lnk.state = .listenOnly ∨ 8 ≤ s.lnk.queue.length →
      (t.lnk.queue.map fun e => e.frame) = s.lnk.queue.map fun e => e.frame)

theorem told_answerTool {s u : State} (h : StatusOnly s u) (tag : Byte) (data : List Byte) :
    Told s tag data (answerTool tag .done data u) := by
  constructor
  · intro link room
    have short := h.length_le
    rw [awaits_iff, answerTool_places]
    exact mem_withFrame (h.link ▸ link) (.inr (by rw [places_length]; omega))
  · intro lost
    rw [← places_frames, ← places_frames, answerTool_places, h.frames lost, h.link, withFrame_lost]
    rwa [places_length]

theorem ofBool_beq {α : Type} [DecidableEq α] (a b : α) : Byte.ofBool (a == b) = if a = b then 1 else 0 := by
  by_cases h : a = b <;> simp [Byte.ofBool, h]

/-! ### The arguments -/

theorem tubeArg_present {b : Byte} {s : State} {u : Tube} (h1 : 1 ≤ b.toNat) (h5 : b.toNat ≤ 5)
    (h : tubeAt s b.toNat = some u) : tubeArg b s = some u := (if_pos ⟨h1, h5⟩).trans h

theorem tubeArg_absent {b : Byte} {s : State} (h : b = 0 ∨ 5 < b.toNat ∨ tubeAt s b.toNat = none) :
    tubeArg b s = none := by
  unfold tubeArg
  split
  · rename_i inRange
    rcases h with rfl | h | h
    · exact absurd inRange.1 (by decide)
    · omega
    · exact h
  · rfl

theorem slotArg_present {b : Byte} {s : State} {x : Slot} (h : b.toNat ≤ 79) (hx : slotAt s b.toNat = some x) :
    slotArg b s = some x := (if_pos h).trans hx

theorem slotArg_absent {b : Byte} {s : State} (h : 79 < b.toNat ∨ slotAt s b.toNat = none) : slotArg b s = none := by
  unfold slotArg
  split
  · exact h.resolve_left (by omega)
  · rfl

/-! ### The requests -/

theorem serveAuditClear_hearing (tag : Byte) (s : State) :
    serveAuditClear tag [] (hearing 15 s) =
      answered tag .done []
        { hearing 15 s with
          ssu :=
            if s.ssu.snapshot = none then
              { s.ssu with totals := State.zeroTotals, snapshot := some State.zeroTotals, auditArea := none }
            else { s.ssu with totals := State.zeroTotals, saveOwed := true } } := by
  rw [← answerTool_eq]
  refine congrArg (answerTool tag .done []) ?_
  show askSave _ = _
  unfold askSave
  simp only [State.modTotals, modSsu_ssu, hearing_own]
  split <;> simp [beginSave, State.modSsu, hearing_own]

theorem clearTarget_slot {n : Byte} {s : State} {x : Slot} (h : slotArg n s = some x) (tag : Byte) :
    clearTarget tag 0 n s = answerCleared tag (x.state == .jammed) (modSlot n.toNat Slot.clearJam s) := by
  unfold clearTarget; rw [if_pos rfl, h]

theorem clearTarget_noSlot {n : Byte} {s : State} (h : slotArg n s = none) (tag : Byte) :
    clearTarget tag 0 n s = answerTool tag .notPresent [] s := by
  unfold clearTarget; rw [if_pos rfl, h]

theorem clearTarget_drive (tag n : Byte) (s : State) :
    clearTarget tag 1 n s =
      if s.mxd.state = .fault then answerCleared tag true (clearFaultState .normal s) else answerCleared tag false s := rfl

/-- R144: HOT-HOLD cleared, the sale state is that of the cabinet as it reads, and a warm cabinet's timer starts from zero. -/
theorem clearHotHold_rfc (s : State) :
    (clearHotHold s).rfc =
      { s.rfc with
        hotHold := false, sellableCold := cabinetCold s, warmTimer := if cabinetCold s = true then none else some 0 } := by
  let cleared := s.modRfc fun r => { r with hotHold := false, warmTimer := none }
  have sellable : coldNow cleared = cabinetCold s := Bool.and_true _
  exact (queueStatus_rfc _).trans (by
    show { cleared.rfc with sellableCold := coldNow cleared, warmTimer := warmTimerNow cleared } = _
    rw [sellable]; rfl)

theorem clearTarget_hotHold (tag n : Byte) (s : State) :
    clearTarget tag 2 n s = if s.rfc.hotHold then answerCleared tag true (clearHotHold s) else answerCleared tag false s :=
  rfl

theorem clearTarget_tube {i : Byte} {s : State} {u : Tube} (h : tubeArg i s = some u) (tag : Byte) :
    clearTarget tag 3 i s = answerCleared tag (u.state == .dry) (changeTube i.toNat Tube.revive s) := by
  unfold clearTarget
  rw [if_neg (by decide), if_neg (by decide), if_neg (by decide), if_pos rfl, h]

theorem clearTarget_noTube {i : Byte} {s : State} (h : tubeArg i s = none) (tag : Byte) :
    clearTarget tag 3 i s = answerTool tag .notPresent [] s := by
  unfold clearTarget
  rw [if_neg (by decide), if_neg (by decide), if_neg (by decide), if_pos rfl, h]

theorem clearTarget_other {x : Byte} (h : 3 < x.toNat) (tag n : Byte) (s : State) :
    clearTarget tag x n s = answerTool tag .badArgument [] s := by
  have ne (b : Byte) (hb : b.toNat ≤ 3) : x ≠ b := fun e => by subst e; omega
  unfold clearTarget
  rw [if_neg (ne 0 (by decide)), if_neg (ne 1 (by decide)), if_neg (ne 2 (by decide)), if_neg (ne 3 (by decide))]

theorem serveSetTube_present {i n : Byte} {s : State} {u : Tube} (h : tubeArg i s = some u) (hd : doorOpen s = true)
    (tag : Byte) :
    serveSetTube tag [i, n] s = answerTool tag .done [] (changeTube i.toNat (Tube.setCount n.toNat) s) := by
  simp [serveSetTube, takeRequest, tubeRefusal, h, hd]

theorem serveSetTube_closed {i n : Byte} {s : State} {u : Tube} (h : tubeArg i s = some u) (hd : doorOpen s = false)
    (tag : Byte) : serveSetTube tag [i, n] s = answerTool tag .needsDoor [] s := by
  simp [serveSetTube, takeRequest, tubeRefusal, h, hd]

theorem serveSetTube_absent {i n : Byte} {s : State} (h : tubeArg i s = none) (tag : Byte) :
    serveSetTube tag [i, n] s = answerTool tag .notPresent [] s := by
  simp [serveSetTube, takeRequest, tubeRefusal, h]

/-- R20: SET-TUBE's count on a record whose DISABLED state leaves none. -/
theorem setCount_eq {u : Tube} (empty : u.state = .disabled → u.count = 0) (n : Nat) :
    u.setCount n =
      { u with
        count := if u.state = .disabled then u.count else min n u.capacity
        state := if u.state = .dry then .normal else u.state } := by
  unfold Tube.setCount Tube.revive Tube.withCount
  split <;> simp_all

section Tool
variable {tag : Byte} {s : State} (h : Hears 15 s) (own : s.ssu.own ≠ 0)
include h own

/-- R177: a request that does no more than be answered. -/
theorem event_answered {f : State → State} {r : ServiceResult} {d : List Byte}
    (e : f (hearing 15 s) = answerTool tag r d (hearing 15 s)) :
    event (serve ⟨15, s.ssu.own, tag⟩ f) s = .next (refreshOutputs (answered tag r d (hearing 15 s))) := by
  rw [event_serve h own (by rw [e, answerTool_lbu]), e, answerTool_eq]

/-- R29, R177: a request that changes a tube and is answered DONE. -/
theorem event_changeTube {f : State → State} {g : Tube → Tube} {i : Nat} {d : List Byte}
    (e : f (hearing 15 s) = answerTool tag .done d (changeTube i g (hearing 15 s))) :
    ∃ t, event (serve ⟨15, s.ssu.own, tag⟩ f) s = .next t ∧ Told s tag d t ∧ ExactAnnounced s t ∧
      tubeAt t i = (tubeAt s i).map g ∧ (∀ j, j ≠ i → tubeAt t j = tubeAt s j) ∧
      t.cru.session = s.cru.session ∧ t.vsq = s.vsq := by
  have heard := hearing_statusOnly 15 s
  obtain ⟨status, announced⟩ := changeTube_announced i g (hearing 15 s)
  have before (j : Nat) : tubeAt (hearing 15 s) j = tubeAt s j := tubeAt_congr (by simp) j
  let t := answerTool tag .done d (changeTube i g (hearing 15 s))
  have after (j : Nat) : tubeAt (refreshOutputs t) j = tubeAt (changeTube i g (hearing 15 s)) j :=
    tubeAt_congr (by simp [t]) j
  refine ⟨refreshOutputs t, by rw [event_serve h own (by rw [e, answerTool_lbu, changeTube_lbu]), e],
    told_answerTool (heard.trans status) tag d,
    exactAnnounced_of heard (by simp) (announced.answerTool tag .done d), ?_, fun j hj => ?_, by simp [t], by simp [t]⟩
  · rw [after, tubeAt_changeTube_same, before]
  · rw [after, tubeAt_changeTube_other hj, before]

/-- R169, R177: a request whose act `v` on the state after hearing asks for a STATUS and is answered DONE. -/
theorem event_statusAsked {f : State → State} {v : State} {d : List Byte}
    (e : f (hearing 15 s) = answerTool tag .done d (queueStatus v)) (lbu : v.lbu = (hearing 15 s).lbu)
    (lnk : v.lnk = (hearing 15 s).lnk) :
    let t := refreshOutputs (answerTool tag .done d (queueStatus v))
    event (serve ⟨15, s.ssu.own, tag⟩ f) s = .next t ∧ (HasRoom .status s → Awaits .status t) ∧ Told s tag d t := by
  have heard : StatusOnly s v := (hearing_statusOnly 15 s).trans (.of_lnk lnk)
  exact ⟨by rw [event_serve h own (by rw [e, answerTool_lbu, queueStatus_lbu, lbu]), e],
    fun room => awaits_answerTool (awaits_queueStatus (heard.hasRoom room)) tag .done d,
    told_answerTool heard.andAsked tag d⟩

end Tool

/-- Settles O59: each request reaches its act in the state after hearing, which asks for a STATUS at most. -/
theorem serviceRequestsActAndAnswer : Obligations.ServiceRequestsActAndAnswer := by
  intro tag s h own
  have tubes (i : Nat) : tubeAt (hearing 15 s) i = tubeAt s i := tubeAt_congr (by simp) i
  have slots (n : Nat) : slotAt (hearing 15 s) n = slotAt s n := by simp [slotAt]
  have door : doorOpen (hearing 15 s) = doorOpen s := by simp [doorOpen]
  have cold : cabinetCold (hearing 15 s) = cabinetCold s := by simp [cabinetCold]
  refine ⟨?auditClear, fun i n u h1 h5 tube empty => ?tube,
    fun i n => ⟨fun absent => ?noTube, fun absent => ?noSlot⟩, fun n x h79 slot => ?slot,
    fun n => ⟨fun fault => ?drive, fun fault => ?noFault, fun hot => ?hotHold, fun hot => ?noHotHold, fun x hx => ?other⟩⟩
  case auditClear =>
    have act := serveAuditClear_hearing tag s
    exact (event_serve h own (by rw [act, ← answerTool_eq, answerTool_lbu])).trans (by rw [act])
  case tube =>
    have arg : tubeArg i (hearing 15 s) = some u := tubeArg_present h1 h5 ((tubes _).trans tube)
    refine ⟨fun closed => ?_, fun opened => ?_, ?_⟩
    · exact event_answered h own (serveSetTube_closed arg (door.trans closed) tag)
    · obtain ⟨t, e, told, announced, same, others, session, vsq⟩ :=
        event_changeTube h own (serveSetTube_present (n := n) arg (door.trans opened) tag)
      exact ⟨t, e, told, announced, by rw [same, tube, Option.map_some, setCount_eq empty], others, session, vsq⟩
    · obtain ⟨t, e, told, announced, same, -⟩ :=
        event_changeTube h own (f := serveClearFault tag [3, i]) (clearTarget_tube arg tag)
      rw [ofBool_beq] at told
      exact ⟨t, e, told, announced, by rw [same, tube]; rfl⟩
  case noTube =>
    have arg : tubeArg i (hearing 15 s) = none := tubeArg_absent (absent.imp_right (.imp_right (tubes _).trans))
    exact ⟨event_answered h own (serveSetTube_absent arg tag),
      event_answered h own (f := serveClearFault tag [3, i]) (clearTarget_noTube arg tag)⟩
  case noSlot =>
    exact event_answered h own (f := serveClearFault tag [0, n])
      (clearTarget_noSlot (slotArg_absent (absent.imp_right (slots _).trans)) tag)
  case slot =>
    have act := clearTarget_slot (slotArg_present h79 ((slots _).trans slot)) tag
    refine (event_serve h own (f := serveClearFault tag [0, n]) ?_).trans ?_
    · show (clearTarget tag 0 n _).lbu = _
      rw [act]; simp [answerCleared]
    · show Host.Outcome.next (refreshOutputs (clearTarget tag 0 n _)) = _
      rw [act, answerCleared, answerTool_eq, ofBool_beq]
      rfl
  case drive =>
    have act := (clearTarget_drive tag n (hearing 15 s)).trans (if_pos (by simpa using fault))
    obtain ⟨e, status, told⟩ := event_statusAsked h own (f := serveClearFault tag [1, n]) act rfl rfl
    exact ⟨_, e, by simp, by simp, by simp, by simp, status, told⟩
  case noFault =>
    exact event_answered h own (f := serveClearFault tag [1, n])
      ((clearTarget_drive tag n _).trans (if_neg (by simpa using fault)))
  case hotHold =>
    have act := (clearTarget_hotHold tag n (hearing 15 s)).trans (if_pos (by simpa using hot))
    obtain ⟨e, status, told⟩ := event_statusAsked h own (f := serveClearFault tag [2, n]) act rfl rfl
    have cleared : (refreshOutputs (answerTool tag .done [1] (clearHotHold (hearing 15 s)))).rfc =
        { s.rfc with
          hotHold := false, sellableCold := cabinetCold s, warmTimer := if cabinetCold s = true then none else some 0 } := by
      rw [refreshOutputs_rfc, answerTool_rfc, clearHotHold_rfc, hearing_rfc, cold]
    exact ⟨_, e, congrArg Rfc.hotHold cleared, congrArg Rfc.sellableCold cleared, congrArg Rfc.warmTimer cleared,
      status, told⟩
  case noHotHold =>
    exact event_answered h own (f := serveClearFault tag [2, n])
      ((clearTarget_hotHold tag n _).trans (if_neg (by simp [hot])))
  case other => exact event_answered h own (f := serveClearFault tag [x, n]) (clearTarget_other hx tag n _)

end Sys2Proof.Machine.Intake
end

section
/-! PROOFS. The change planner: its tube list, its candidates, and the candidate it returns (R22 to R26). -/

namespace Sys2Proof.Machine.Planning

-- One after the other, as in the Frames files: side by side, this many small lemmas take more memory than a check has.
set_option Elab.async false

open Intake

/-! ### The tube list (R22, R23) -/

@[simp] theorem mem_insertTube (p t : PlanTube) (l : List PlanTube) : p ∈ insertTube t l ↔ p = t ∨ p ∈ l := by
  induction l with
  | nil => simp [insertTube]
  | cons u r ih =>
    unfold insertTube
    split
    · exact List.mem_cons
    · rw [List.mem_cons, ih, List.mem_cons, or_left_comm]

/-- R22: the denominations fall. -/
abbrev Falling (l : List PlanTube) : Prop := l.Pairwise fun a b => b.denom < a.denom

theorem falling_insertTube {t : PlanTube} {l : List PlanTube} (sorted : Falling l) (apart : ∀ u ∈ l, t.denom ≠ u.denom) :
    Falling (insertTube t l) := by
  induction l with
  | nil => exact List.pairwise_singleton _ _
  | cons u r ih =>
    obtain ⟨below, tail⟩ := List.pairwise_cons.mp sorted
    unfold insertTube
    split
    · next lower =>
      refine .cons (fun a ha => ?_) sorted
      rcases List.mem_cons.mp ha with rfl | ha
      · exact lower
      · exact (below a ha).trans lower
    · next higher =>
      refine .cons (fun a ha => ?_) (ih tail fun a ha => apart a (.tail _ ha))
      rcases (mem_insertTube a t r).mp ha with rfl | ha
      · exact lt_of_le_of_ne (Nat.le_of_not_lt higher) (apart u (.head _))
      · exact below a ha

/-- R22, R23: what the tube list holds of the tube `t` of index `i`. -/
def planTube (i : Nat) (t : Tube) : PlanTube := ⟨i, available t, t.denomination⟩

theorem mem_tubeListFrom (p : PlanTube) (i : Nat) (l : List (Option Tube)) :
    p ∈ tubeListFrom i l ↔ ∃ j t, recordAt l j = some t ∧ t.state ≠ .disabled ∧ p = planTube (i + j) t := by
  induction l generalizing i with
  | nil => simp [tubeListFrom, recordAt]
  | cons a r ih =>
    rw [← Nat.or_exists_add_one]
    have later : p ∈ tubeListFrom (i + 1) r ↔
        ∃ j t, recordAt (a :: r) (j + 1) = some t ∧ t.state ≠ .disabled ∧ p = planTube (i + (j + 1)) t := by
      simp only [ih, recordAt, List.getElem?_cons_succ, Nat.add_right_comm i 1, Nat.add_assoc]
    rw [← later]
    cases a with
    | none => simp [tubeListFrom, recordAt]
    | some t =>
      by_cases out : t.state = .disabled
      · simp [tubeListFrom, recordAt, out]
      · simp [tubeListFrom, recordAt, out, planTube]

/-- The law of the records keeps the denominations of tubes in use apart, so putting each in its place leaves no tie. -/
theorem falling_tubeListFrom (i : Nat) {l : List (Option Tube)} (law : LawfulTubes l) : Falling (tubeListFrom i l) := by
  induction l generalizing i with
  | nil => exact .nil
  | cons a r ih =>
    cases a with
    | none => exact ih (i + 1) ((lawfulTubes_none r).mp law)
    | some t =>
      obtain ⟨-, rest, apart⟩ := (lawfulTubes_some t r).mp law
      unfold tubeListFrom
      split
      · exact ih (i + 1) rest
      · next inUse =>
        refine falling_insertTube (ih (i + 1) rest) fun u hu => ?_
        obtain ⟨j, w, found, used, rfl⟩ := (mem_tubeListFrom u (i + 1) r).mp hu
        exact apart w (List.mem_of_getElem? (Option.join_eq_some_iff.mp found)) inUse used

theorem mem_tubeList (p : PlanTube) (s : State) :
    p ∈ tubeList s ↔ ∃ i t, tubeAt s i = some t ∧ t.state ≠ .disabled ∧ p = planTube i t := by
  have noTube : ¬ ∃ t, tubeAt s 0 = some t ∧ t.state ≠ .disabled ∧ p = planTube 0 t := by simp [tubeAt]
  rw [← Nat.or_exists_add_one, or_iff_right noTube]
  simp only [tubeList, mem_tubeListFrom, Nat.add_comm 1]
  rfl

/-! ### The candidates (R24) -/

/-- R24: the most coins of a tube that a remaining amount takes. -/
def greatest (t : PlanTube) (rem : Nat) : Nat := min t.avail (rem / t.denom)

theorem greatest_mul_le (t : PlanTube) (rem : Nat) : greatest t rem * t.denom ≤ rem :=
  (Nat.mul_le_mul_right _ (Nat.min_le_right _ _)).trans (Nat.div_mul_le_self _ _)

theorem mem_candidates_last {t : PlanTube} {rem : Nat} {p : List Nat} :
    p ∈ candidates [t] rem ↔ p = [greatest t rem] := List.mem_singleton

theorem mem_candidates_cons {t u : PlanTube} {r : List PlanTube} {rem : Nat} {p : List Nat} :
    p ∈ candidates (t :: u :: r) rem ↔
      ∃ b ≤ 3, b ≤ greatest t rem ∧
        ∃ ns ∈ candidates (u :: r) (rem - (greatest t rem - b) * t.denom), (greatest t rem - b) :: ns = p := by
  simp only [candidates, greatest, List.mem_flatMap, List.mem_range, Nat.lt_succ_iff, List.mem_ite_nil_right, List.mem_map]

theorem byVector_empty (v : List Nat) (rem : Nat) : byVector v [] rem = none := by
  cases v <;> rfl

theorem byVector_last {v : List Nat} {t : PlanTube} {rem : Nat} {p : List Nat} :
    byVector v [t] rem = some p ↔ v = [] ∧ p = [greatest t rem] := by
  cases v with
  | nil => simp [byVector, greatest, eq_comm]
  | cons b v => simp [byVector, byVector_empty]

theorem byVector_cons {v : List Nat} {t u : PlanTube} {r : List PlanTube} {rem : Nat} {p : List Nat} :
    byVector v (t :: u :: r) rem = some p ↔
      ∃ b w, v = b :: w ∧ b ≤ greatest t rem ∧
        ∃ ns, byVector w (u :: r) (rem - (greatest t rem - b) * t.denom) = some ns ∧ (greatest t rem - b) :: ns = p := by
  cases v with
  | nil => simp [byVector]
  | cons b w => simp [byVector, greatest]

/-- R24: the candidates are what the backoff vectors of numbers 0 to 3 yield. -/
theorem mem_candidates_iff {ts : List PlanTube} {due : Nat} {p : List Nat} :
    p ∈ candidates ts due ↔ ∃ v, (∀ b ∈ v, b ≤ 3) ∧ byVector v ts due = some p := by
  induction ts generalizing due p with
  | nil => simp [candidates, byVector_empty]
  | cons t r ih =>
    cases r with
    | nil => simp [mem_candidates_last, byVector_last]
    | cons u r =>
      rw [mem_candidates_cons]
      constructor
      · rintro ⟨b, small, fits, ns, rest, rfl⟩
        obtain ⟨w, smalls, yields⟩ := ih.mp rest
        exact ⟨b :: w, List.forall_mem_cons.mpr ⟨small, smalls⟩, byVector_cons.mpr ⟨b, w, rfl, fits, ns, yields, rfl⟩⟩
      · rintro ⟨v, smalls, yields⟩
        obtain ⟨b, w, rfl, fits, ns, rest, rfl⟩ := byVector_cons.mp yields
        obtain ⟨small, smalls⟩ := List.forall_mem_cons.mp smalls
        exact ⟨b, small, fits, ns, ih.mpr ⟨w, smalls, rest⟩, rfl⟩

/-- R24: backing off nowhere always yields a candidate. -/
theorem candidates_ne_nil {ts : List PlanTube} (h : ts ≠ []) (due : Nat) : candidates ts due ≠ [] := by
  induction ts generalizing due with
  | nil => exact absurd rfl h
  | cons t r ih =>
    cases r with
    | nil => exact List.ne_nil_of_mem (mem_candidates_last.mpr rfl)
    | cons u r =>
      obtain ⟨ns, rest⟩ := List.exists_mem_of_ne_nil _ (ih (by simp) (due - greatest t due * t.denom))
      exact List.ne_nil_of_mem (mem_candidates_cons.mpr ⟨0, by decide, Nat.zero_le _, ns, rest, rfl⟩)

theorem length_candidate {ts : List PlanTube} {due : Nat} {p : List Nat} (h : p ∈ candidates ts due) :
    p.length = ts.length := by
  induction ts generalizing due p with
  | nil => cases h
  | cons t r ih =>
    cases r with
    | nil => rw [mem_candidates_last.mp h]; rfl
    | cons u r =>
      obtain ⟨b, -, -, ns, rest, rfl⟩ := mem_candidates_cons.mp h
      exact congrArg Nat.succ (ih rest)

theorem planAmount_candidate_le {ts : List PlanTube} {due : Nat} {p : List Nat} (h : p ∈ candidates ts due) :
    planAmount ts p ≤ due := by
  induction ts generalizing due p with
  | nil => cases h
  | cons t r ih =>
    cases r with
    | nil =>
      rw [mem_candidates_last.mp h]
      exact greatest_mul_le t due
    | cons u r =>
      obtain ⟨b, -, -, ns, rest, rfl⟩ := mem_candidates_cons.mp h
      have here : (greatest t due - b) * t.denom ≤ due :=
        (Nat.mul_le_mul_right _ (Nat.sub_le _ _)).trans (greatest_mul_le t due)
      have later := ih rest
      show (greatest t due - b) * t.denom + planAmount (u :: r) ns ≤ due
      omega

/-! ### The order of the tests (R25) -/

theorem lexGreater_cons {a b : Nat} {p q : List Nat} :
    lexGreater (a :: p) (b :: q) = true ↔ b < a ∨ (a = b ∧ lexGreater p q = true) := by
  simp [lexGreater]

theorem lexGreater_irrefl (p : List Nat) : ¬ lexGreater p p = true := by
  induction p with
  | nil => simp [lexGreater]
  | cons a p ih => simpa [lexGreater_cons] using ih

theorem lexGreater_trans {p q r : List Nat} (pq : lexGreater p q = true) (qr : lexGreater q r = true) :
    lexGreater p r = true := by
  induction p generalizing q r with
  | nil => simp [lexGreater] at pq
  | cons a p ih =>
    cases q with
    | nil => simp [lexGreater] at pq
    | cons b q =>
      cases r with
      | nil => simp [lexGreater] at qr
      | cons c r =>
        rw [lexGreater_cons] at pq qr ⊢
        rcases pq with ab | ⟨rfl, pq⟩
        · exact .inl (by omega)
        · exact qr.imp_right fun ⟨ac, qr⟩ => ⟨ac, ih pq qr⟩

/-- Coin numbers of as many tubes are the same, or some first position tells which are the larger. -/
theorem eq_or_differ {p q : List Nat} (len : q.length = p.length) (h : ¬ lexGreater q p = true) :
    q = p ∨ ∃ k, p.take k = q.take k ∧ q[k]?.getD 0 < p[k]?.getD 0 := by
  induction p generalizing q with
  | nil => exact .inl (List.length_eq_zero_iff.mp len)
  | cons a p ih =>
    cases q with
    | nil => cases len
    | cons b q =>
      rw [lexGreater_cons, not_or, not_and] at h
      obtain ⟨notLarger, tail⟩ := h
      rcases Nat.lt_or_eq_of_le (Nat.le_of_not_lt notLarger) with smaller | rfl
      · exact .inr ⟨0, rfl, smaller⟩
      · rcases ih (Nat.succ.inj len) (tail rfl) with rfl | ⟨k, same, smaller⟩
        · exact .inl rfl
        · exact .inr ⟨k + 1, congrArg (List.cons _) same, smaller⟩

theorem comesFirst_iff {ts : List PlanTube} {p q : List Nat} :
    comesFirst ts p q = true ↔
      planAmount ts q < planAmount ts p ∨
        (planAmount ts p = planAmount ts q ∧ (p.sum < q.sum ∨ (p.sum = q.sum ∧ lexGreater p q = true))) := by
  simp [comesFirst]

theorem comesFirst_irrefl (ts : List PlanTube) (p : List Nat) : ¬ comesFirst ts p p = true := by
  simp [comesFirst_iff, lexGreater_irrefl]

theorem comesFirst_trans {ts : List PlanTube} {p q r : List Nat} (pq : comesFirst ts p q = true)
    (qr : comesFirst ts q r = true) : comesFirst ts p r = true := by
  rw [comesFirst_iff] at *
  rcases pq with pq | ⟨paid, pq⟩
  · exact .inl (by omega)
  rcases qr with qr | ⟨paid', qr⟩
  · exact .inl (by omega)
  refine .inr ⟨paid.trans paid', ?_⟩
  rcases pq with pq | ⟨coins, pq⟩
  · exact .inl (by omega)
  rcases qr with qr | ⟨coins', qr⟩
  · exact .inl (by omega)
  exact .inr ⟨coins.trans coins', lexGreater_trans pq qr⟩

/-- As many coin numbers stand in each candidate, so the third test decides between any two that differ. -/
theorem noWorse_of_not_comesFirst {ts : List PlanTube} {p q : List Nat} (len : q.length = p.length)
    (h : ¬ comesFirst ts q p = true) : NoWorse ts p q := by
  simp only [comesFirst_iff, not_or, not_and] at h
  obtain ⟨amount, ties⟩ := h
  rcases Nat.lt_or_eq_of_le (Nat.le_of_not_lt amount) with less | paid
  · exact .inr (.inl less)
  obtain ⟨coins, tied⟩ := ties paid
  rcases Nat.lt_or_eq_of_le (Nat.le_of_not_lt coins) with fewer | sum
  · exact .inr (.inr ⟨paid, .inl fewer⟩)
  rcases eq_or_differ len (tied sum.symm) with same | differ
  · exact .inl same
  · exact .inr (.inr ⟨paid, .inr ⟨sum, differ⟩⟩)

/-! ### The choice (R25, R26) -/

/-- R25: one of the plans `cs`, with none of them before it. -/
def IsFirst (ts : List PlanTube) (cs : List (List Nat)) (p : List Nat) : Prop :=
  p ∈ cs ∧ ∀ q ∈ cs, ¬ comesFirst ts q p = true

/-- The better of the first so far and one more plan is first of all of them. -/
theorem isFirst_append {ts : List PlanTube} {cs : List (List Nat)} {p : List Nat} (h : IsFirst ts cs p) (x : List Nat) :
    IsFirst ts (cs ++ [x]) (if comesFirst ts x p then x else p) := by
  obtain ⟨mem, first⟩ := h
  unfold IsFirst
  simp only [List.mem_append, List.mem_singleton]
  split
  · next better =>
    refine ⟨.inr rfl, ?_⟩
    rintro q (hq | rfl)
    · exact fun before => first q hq (comesFirst_trans before better)
    · exact comesFirst_irrefl ts q
  · next worse =>
    refine ⟨.inl mem, ?_⟩
    rintro q (hq | rfl)
    · exact first q hq
    · exact worse

theorem choose_append (ts : List PlanTube) (c x : List Nat) (cs : List (List Nat)) :
    choose ts (c :: cs ++ [x]) = if comesFirst ts x (choose ts (c :: cs)) then x else choose ts (c :: cs) :=
  List.foldl_append

theorem choose_isFirst (ts : List PlanTube) {cs : List (List Nat)} (h : cs ≠ []) : IsFirst ts cs (choose ts cs) := by
  obtain ⟨c, cs, rfl⟩ := List.exists_cons_of_ne_nil h
  clear h
  induction cs using List.reverseRecOn with
  | nil => exact ⟨.head _, by simp [choose, comesFirst_irrefl]⟩
  | append_singleton cs x ih =>
    rw [← List.cons_append, choose_append]
    exact isFirst_append ih x

theorem plan_isFirst {ts : List PlanTube} (h : ts ≠ []) (due : Nat) : IsFirst ts (candidates ts due) (plan ts due) :=
  choose_isFirst ts (candidates_ne_nil h due)

theorem plan_noTube (due : Nat) : plan [] due = [] := rfl

theorem planAmount_plan_le (ts : List PlanTube) (due : Nat) : planAmount ts (plan ts due) ≤ due := by
  by_cases h : ts = []
  · subst h; exact Nat.zero_le due
  · exact planAmount_candidate_le (plan_isFirst h due).1

theorem plan_noWorse {ts : List PlanTube} {due : Nat} {q : List Nat} (hq : q ∈ candidates ts due) :
    NoWorse ts (plan ts due) q := by
  obtain ⟨mem, first⟩ := choose_isFirst ts (List.ne_nil_of_mem hq)
  exact noWorse_of_not_comesFirst ((length_candidate hq).trans (length_candidate mem).symm) (first q hq)

/-- Settles O13: the list by insertion under the law of the tubes; the plan is the first of the candidates, which are what the
backoff vectors yield (`mem_candidates_iff`). -/
theorem plannerChoosesTheBestPlan : Obligations.PlannerChoosesTheBestPlan := by
  refine ⟨fun s law => ⟨falling_tubeListFrom 1 ((tubesLaw_iff s).mp law), fun p => mem_tubeList p s⟩,
    fun ts due => ⟨planAmount_plan_le ts due, ?empty, fun tubes => ?yielded, fun v q small yields => ?first⟩⟩
  case empty => rintro rfl; exact plan_noTube due
  case yielded => exact mem_candidates_iff.mp (plan_isFirst tubes due).1
  case first => exact plan_noWorse (mem_candidates_iff.mpr ⟨v, small, yields⟩)

end Sys2Proof.Machine.Planning
end

section
/-! PROOFS. What the operations of the credit session leave of the session, the payout and the books (Chapters 3 and 4), and the
law of the money, state by state. -/

namespace Sys2Proof.Machine.Credits

set_option Elab.async false

open Laws

/-! ### The version (R35, R38) -/

/-- R35: the version that the event leaves once it has risen in it. -/
def risen (c : Cru) : Half := bif c.versionRaised then c.session.version else c.session.version + 1

theorem risen_fresh {c : Cru} (h : c.versionRaised = false) : risen c = c.session.version + 1 := by simp [risen, h]

@[simp] theorem raiseVersion_versionRaised (s : State) : (raiseVersion s).cru.versionRaised = true := by
  unfold raiseVersion
  split
  · assumption
  · simp

@[simp] theorem session_raiseVersion (s : State) :
    (raiseVersion s).cru.session = { s.cru.session with version := risen s.cru } := by
  rw [raiseVersion_session]
  unfold risen
  cases s.cru.versionRaised <;> rfl

@[simp] theorem risen_raiseVersion (s : State) : risen (raiseVersion s).cru = risen s.cru := by
  rw [risen, raiseVersion_versionRaised, session_raiseVersion, cond_true]

/-- R57: the idle timer from zero is that of the parameters. -/
theorem freshIdle_congr {s t : State} (h : t.params = s.params) : freshIdle t = freshIdle s := by unfold freshIdle; rw [h]

/-! ### The session after each operation -/

@[simp] theorem session_enterIdle (s : State) :
    (enterIdle s).cru.session =
      { s.cru.session with
        state := .idle, balance := 0, version := risen s.cru, changeShort := false, escrowPending := false
        idleTimer := none } := by
  simp [enterIdle, risen]

@[simp] theorem enterIdle_versionRaised (s : State) : (enterIdle s).cru.versionRaised = true := by simp [enterIdle]

@[simp] theorem session_enterOpen (s : State) :
    (enterOpen s).cru.session =
      { s.cru.session with state := .opened, version := risen s.cru, idleTimer := freshIdle s } := by
  simp [enterOpen, risen]

@[simp] theorem enterOpen_versionRaised (s : State) : (enterOpen s).cru.versionRaised = true := by simp [enterOpen]

@[simp] theorem session_payoutComplete (s : State) : (payoutComplete s).cru.session = (enterIdle s).cru.session := by
  simp [payoutComplete, risen]

@[simp] theorem payoutComplete_versionRaised (s : State) : (payoutComplete s).cru.versionRaised = true := by
  simp [payoutComplete]

@[simp] theorem payoutComplete_payout (s : State) : (payoutComplete s).cru.payout = none := by simp [payoutComplete]

@[simp] theorem session_payoutShort (s : State) :
    (payoutShort s).cru.session =
      { s.cru.session with
        state := .opened, version := risen s.cru, changeShort := true, idleTimer := freshIdle s } := by
  simp only [payoutShort, reevaluateExact_cru_session, session_enterOpen]
  congr 1

@[simp] theorem payoutShort_versionRaised (s : State) : (payoutShort s).cru.versionRaised = true := by simp [payoutShort]

@[simp] theorem payoutShort_payout (s : State) : (payoutShort s).cru.payout = none := by simp [payoutShort]

@[simp] theorem payoutShort_books (s : State) :
    (payoutShort s).cru.books = { s.cru.books with shortPays := countUp s.cru.books.shortPays 1 } := by
  simp [payoutShort]

@[simp] theorem payoutShort_totals (s : State) :
    (payoutShort s).ssu.totals = { s.ssu.totals with shortPays := countUp s.ssu.totals.shortPays 1 } := by
  simp [payoutShort]

@[simp] theorem pulse_payout (i a : Nat) (s : State) :
    (pulse i a s).cru.payout = some ⟨.pulseWait, some i, a, some 0, none⟩ := rfl

@[simp] theorem awaitClear_payout (i : Option Nat) (a : Nat) (s : State) :
    (awaitClear i a s).cru.payout = some ⟨.exitClear, i, a, none, some 0⟩ := rfl

/-- R55: the session on entering PAYING, before its first coin step. -/
def turnPaying (s : State) : State :=
  raiseVersion (s.modSession fun c => { c with state := .paying, escrowPending := false, idleTimer := none })

theorem enterPaying_eq (s : State) :
    enterPaying s = if s.inputs.exit.level then awaitClear none 1 (turnPaying s) else coinStep (turnPaying s) := by
  simp [enterPaying, turnPaying]

@[simp] theorem session_turnPaying (s : State) :
    (turnPaying s).cru.session =
      { s.cru.session with state := .paying, version := risen s.cru, escrowPending := false, idleTimer := none } := by
  simp [turnPaying, risen]

@[simp] theorem turnPaying_versionRaised (s : State) : (turnPaying s).cru.versionRaised = true := by simp [turnPaying]

@[simp] theorem turnPaying_books (s : State) : (turnPaying s).cru.books = s.cru.books := by simp [turnPaying]

@[simp] theorem turnPaying_payout (s : State) : (turnPaying s).cru.payout = s.cru.payout := by simp [turnPaying]

@[simp] theorem turnPaying_cnu (s : State) : (turnPaying s).cnu = s.cnu := by simp [turnPaying]

@[simp] theorem turnPaying_params (s : State) : (turnPaying s).params = s.params := by simp [turnPaying]

@[simp] theorem turnPaying_ssu (s : State) : (turnPaying s).ssu = s.ssu := by simp [turnPaying]

/-- R55, R62: how a payout of a balance begins: it waits for the chute, pulses the tube of the plan, or ends short. -/
theorem enterPaying_cases {s : State} (h : 0 < s.cru.session.balance) :
    (s.inputs.exit.level = true ∧ enterPaying s = awaitClear none 1 (turnPaying s)) ∨
      (s.inputs.exit.level = false ∧
        ((∃ i, nextTube (turnPaying s) s.cru.session.balance = some i ∧ enterPaying s = pulse i 1 (turnPaying s)) ∨
          (nextTube (turnPaying s) s.cru.session.balance = none ∧ enterPaying s = payoutShort (turnPaying s)))) := by
  rw [enterPaying_eq]
  have due : (turnPaying s).cru.session.balance = s.cru.session.balance := by simp
  cases blocked : s.inputs.exit.level
  · refine .inr ⟨rfl, ?_⟩
    rcases coinStep_cases (turnPaying s) with ⟨none, -⟩ | ⟨i, next, e⟩ | ⟨-, next, e⟩
    · omega
    · exact .inl ⟨i, due ▸ next, by simpa using e⟩
    · exact .inr ⟨due ▸ next, by simpa using e⟩
  · exact .inl ⟨rfl, by simp⟩

/-! ### The planned tube (R24, R31) -/

theorem firstPaying_denom {ts : List PlanTube} {ns : List Nat} {i : Nat} (h : firstPaying ts ns = some i) :
    ∃ p ∈ ts, p.index = i ∧ p.denom ≤ planAmount ts ns := by
  induction ts generalizing ns with
  | nil => simp [firstPaying] at h
  | cons t r ih =>
    cases ns with
    | nil => simp [firstPaying] at h
    | cons n ns =>
      unfold firstPaying at h
      split at h
      · next pays =>
        refine ⟨t, .head _, Option.some.inj h, ?_⟩
        show t.denom ≤ n * t.denom + planAmount r ns
        have := Nat.le_mul_of_pos_left t.denom pays
        omega
      · obtain ⟨p, mem, index, le⟩ := ih h
        exact ⟨p, .tail _ mem, index, le.trans (Nat.le_add_left _ _)⟩

/-- R31: the tube of the next coin is present, and its denomination is within the due. -/
theorem nextTube_within {s : State} {due i : Nat} (h : nextTube s due = some i) :
    ∃ t, tubeAt s i = some t ∧ t.denomination ≤ due := by
  obtain ⟨p, mem, rfl, le⟩ := firstPaying_denom h
  obtain ⟨j, t, tube, -, rfl⟩ := (Planning.mem_tubeList p s).mp mem
  exact ⟨t, tube, le.trans (Planning.planAmount_plan_le _ due)⟩

theorem nextTube_congr {s t : State} (h : t.cnu.tubes = s.cnu.tubes) (due : Nat) : nextTube t due = nextTube s due := by
  unfold nextTube tubeList; rw [h]

/-! ### The law of the money, by the state of the session -/

section Law
variable {s : State} (law : MoneyLaw s)
include law

theorem hold_none (h : s.cru.session.state ≠ .held) : s.cru.session.hold = none := by
  have := mt law.holdIffHeld.mp h
  simpa using this

theorem payout_none (h : s.cru.session.state ≠ .paying) : s.cru.payout = none := by
  have := mt law.payoutIffPaying.mp h
  simpa using this

theorem idleTimer_none (h : s.cru.session.state ≠ .opened) : s.cru.session.idleTimer = none := by
  have := mt law.idleTimerInOpen h
  simpa using this

end Law

/-- R37, R59: with no hold, what was credited is sold, paid out, forfeited or in the balance, which stays under the ceiling. -/
structure Accounted (s : State) : Prop where
  hold : s.cru.session.hold = none
  ceiling : s.cru.session.balance ≤ 9999
  equation :
    s.cru.books.credited = s.cru.books.sold + s.cru.books.paidOut + s.cru.books.forfeited + s.cru.session.balance
  coinValues : ∀ c ∈ s.cnu.coinTypes, 1 ≤ c.value ∧ c.value ≤ 2000

theorem accounted {s : State} (law : MoneyLaw s) (h : s.cru.session.state ≠ .held) : Accounted s := by
  have none := hold_none law h
  have held : s.cru.session.heldAmount = 0 := by simp [Session.heldAmount, none]
  exact ⟨none, by have := law.ceiling; omega, by have := law.equation; omega, law.coinValues⟩

namespace Accounted
variable {s : State} (h : Accounted s)
include h

theorem heldAmount : s.cru.session.heldAmount = 0 := by simp [Session.heldAmount, h.hold]

theorem idle (state : s.cru.session.state = .idle) (balance : s.cru.session.balance = 0)
    (short : s.cru.session.changeShort = false) (escrow : s.cru.session.escrowPending = false)
    (timer : s.cru.session.idleTimer = none) (payout : s.cru.payout = none) : MoneyLaw s where
  ceiling := by rw [h.heldAmount]; exact h.ceiling
  equation := by rw [h.heldAmount]; exact h.equation
  idleEmpty _ := ⟨balance, short, escrow⟩
  openMoney := by simp [state]
  heldMoney := by simp [state]
  holdIffHeld := by simp [state, h.hold]
  payoutIffPaying := by simp [state, payout]
  idleTimerInOpen := by simp [timer]
  pulsedWithinDue := by simp [payout]
  coinValues := h.coinValues

theorem opened (state : s.cru.session.state = .opened) (balance : 0 < s.cru.session.balance)
    (payout : s.cru.payout = none) : MoneyLaw s where
  ceiling := by rw [h.heldAmount]; exact h.ceiling
  equation := by rw [h.heldAmount]; exact h.equation
  idleEmpty := by simp [state]
  openMoney _ := balance
  heldMoney := by simp [state]
  holdIffHeld := by simp [state, h.hold]
  payoutIffPaying := by simp [state, payout]
  idleTimerInOpen _ := state
  pulsedWithinDue := by simp [payout]
  coinValues := h.coinValues

theorem paying {p : Payout} (state : s.cru.session.state = .paying) (balance : 0 < s.cru.session.balance)
    (timer : s.cru.session.idleTimer = none) (payout : s.cru.payout = some p)
    (pulsed : p.phase = .pulseWait → ∃ i t, p.tube = some i ∧ tubeAt s i = some t ∧ t.denomination ≤ s.cru.session.balance) :
    MoneyLaw s where
  ceiling := by rw [h.heldAmount]; exact h.ceiling
  equation := by rw [h.heldAmount]; exact h.equation
  idleEmpty := by simp [state]
  openMoney _ := balance
  heldMoney := by simp [state]
  holdIffHeld := by simp [state, h.hold]
  payoutIffPaying := by simp [state, payout]
  idleTimerInOpen := by simp [timer]
  pulsedWithinDue q hq := by rw [payout] at hq; cases hq; exact pulsed
  coinValues := h.coinValues

/-! ### The operations that leave no hold -/

theorem enterIdle (balance : s.cru.session.balance = 0) (payout : s.cru.payout = none) : MoneyLaw (enterIdle s) := by
  refine Accounted.idle ⟨?_, ?_, ?_, ?_⟩ ?_ ?_ ?_ ?_ ?_ ?_
  case refine_3 => simpa [balance] using h.equation
  all_goals simp [h.hold, payout]
  exact h.coinValues

theorem enterOpen (balance : 0 < s.cru.session.balance) (payout : s.cru.payout = none) : MoneyLaw (enterOpen s) := by
  refine Accounted.opened ⟨?_, ?_, ?_, ?_⟩ ?_ ?_ ?_ <;> simp [h.hold, h.ceiling, h.equation, payout, balance]
  exact h.coinValues

theorem payoutComplete (balance : s.cru.session.balance = 0) : MoneyLaw (payoutComplete s) :=
  Accounted.enterIdle (s := s.modCru fun c => { c with payout := none }) ⟨h.hold, h.ceiling, h.equation, h.coinValues⟩
    balance rfl

theorem payoutShort (balance : 0 < s.cru.session.balance) : MoneyLaw (payoutShort s) := by
  refine Accounted.opened ⟨?_, ?_, ?_, ?_⟩ ?_ ?_ ?_ <;> simp [h.hold, h.ceiling, h.equation, balance]
  exact h.coinValues

theorem pulse {i : Nat} (a : Nat) (state : s.cru.session.state = .paying) (timer : s.cru.session.idleTimer = none)
    (balance : 0 < s.cru.session.balance) (within : ∃ t, tubeAt s i = some t ∧ t.denomination ≤ s.cru.session.balance) :
    MoneyLaw (pulse i a s) := by
  obtain ⟨t, tube, le⟩ := within
  exact Accounted.paying (s := Machine.pulse i a s) ⟨h.hold, h.ceiling, h.equation, h.coinValues⟩ state balance timer rfl
    fun _ => ⟨i, t, rfl, tube, le⟩

theorem awaitClear (i : Option Nat) (a : Nat) (state : s.cru.session.state = .paying)
    (timer : s.cru.session.idleTimer = none) (balance : 0 < s.cru.session.balance) : MoneyLaw (awaitClear i a s) :=
  Accounted.paying (s := Machine.awaitClear i a s) ⟨h.hold, h.ceiling, h.equation, h.coinValues⟩ state balance timer rfl
    nofun

/-- R62: a coin step of a session in PAYING. -/
theorem coinStep (state : s.cru.session.state = .paying) (timer : s.cru.session.idleTimer = none) :
    MoneyLaw (coinStep s) := by
  rcases Nat.eq_zero_or_pos s.cru.session.balance with none | due
  · rw [Machine.coinStep, if_pos none]
    exact h.payoutComplete none
  · rcases coinStep_cases s with ⟨none, -⟩ | ⟨i, next, e⟩ | ⟨-, -, e⟩
    · omega
    · exact e ▸ h.pulse 1 state timer due (nextTube_within next)
    · exact e ▸ h.payoutShort due

/-- R55: the payout of a whole balance begins. -/
theorem enterPaying (balance : 0 < s.cru.session.balance) : MoneyLaw (enterPaying s) := by
  have turned : Accounted (turnPaying s) := by
    constructor <;> simp [h.hold, h.ceiling, h.equation]
    exact h.coinValues
  rw [enterPaying_eq]
  split
  · exact turned.awaitClear _ _ (by simp) (by simp) (by simpa using balance)
  · exact turned.coinStep (by simp) (by simp)

end Accounted

end Sys2Proof.Machine.Credits
end

section
/-! PROOFS. What every step keeps of the credit session, the exact-change-only flag and the link: the three relations, and the
operations of the Link Unit, the Load Budget Unit and the Refrigeration Controller, which touch the link alone. -/

namespace Sys2Proof.Machine.Keeping

set_option Elab.async false

open Laws Credits

/-! ### The session and the exact-change-only flag -/

/-- R35: from `c` to `d`, within one event: the version has risen at most once in it, and until it has nothing that a CREDIT
announces is changed. -/
structure VersionStep (c d : Cru) : Prop where
  raised : c.versionRaised = true → d.versionRaised = true
  risen : risen d = risen c
  same : d.versionRaised = false →
    d.session.state = c.session.state ∧ d.session.balance = c.session.balance ∧ d.session.changeShort = c.session.changeShort

theorem VersionStep.refl (c : Cru) : VersionStep c c := ⟨id, rfl, fun _ => ⟨rfl, rfl, rfl⟩⟩

theorem VersionStep.trans {c d e : Cru} (h : VersionStep c d) (g : VersionStep d e) : VersionStep c e where
  raised := g.raised ∘ h.raised
  risen := g.risen.trans h.risen
  same now := by
    have before : d.versionRaised = false := Bool.eq_false_iff.mpr fun r => by simp [g.raised r] at now
    obtain ⟨s1, b1, c1⟩ := h.same before
    obtain ⟨s2, b2, c2⟩ := g.same now
    exact ⟨s2.trans s1, b2.trans b1, c2.trans c1⟩

/-- R35, R38: a change announced by a raise of the version. -/
theorem VersionStep.of_raised {c d : Cru} (now : d.versionRaised = true) (once : Credits.risen d = Credits.risen c) :
    VersionStep c d := ⟨fun _ => now, once, by simp [now]⟩

theorem VersionStep.of_eq {c d : Cru} (mark : d.versionRaised = c.versionRaised)
    (version : d.session.version = c.session.version) (state : d.session.state = c.session.state)
    (balance : d.session.balance = c.session.balance) (short : d.session.changeShort = c.session.changeShort) :
    VersionStep c d := ⟨mark.trans, by unfold Credits.risen; rw [mark, version], fun _ => ⟨state, balance, short⟩⟩

/-- From `s` to `t` the law of the money goes on to hold, and the version has risen as `VersionStep` says. -/
def SessionKept (s t : State) : Prop := MoneyLaw s → MoneyLaw t ∧ VersionStep s.cru t.cru

/-- From `s` to `t` the law of the exact-change-only flag goes on to hold. -/
def ExactKept (s t : State) : Prop := MoneyLaw s → ExactLaw s → ExactLaw t

/-! ### The link -/

/-- The law of the link without its clause on the failures in a row, which an attempt's ending breaks until SILENT is entered. -/
structure LinkCore (s : State) : Prop where
  silent : s.lnk.state = .silent ↔ s.lnk.silentTimer.isSome = true
  listenOnly :
    s.lnk.state = .listenOnly →
      (∀ e ∈ s.lnk.queue, e.frame = .status) ∧ s.lnk.queue.length ≤ 1 ∧ s.lnk.periodTimer = none ∧ s.vsq.queue = []

theorem linkLaw_iff (s : State) : LinkLaw s ↔ LinkCore s ∧ (s.lnk.state = .active → s.lnk.failures < 16) :=
  ⟨fun h => ⟨⟨h.silent, h.listenOnly⟩, h.failures⟩, fun h => ⟨h.1.silent, h.2, h.1.listenOnly⟩⟩

/-- From `s` to `t` the law of the link goes on to hold: its core, and its clause on the failures in a row where either few are
counted or nothing was. -/
structure LinkKept (s t : State) : Prop where
  core : LinkCore s → LinkCore t
  failures :
    t.lnk.state = .active → t.lnk.failures < 16 ∨ (s.lnk.state = .active ∧ t.lnk.failures = s.lnk.failures)

theorem LinkKept.law {s t : State} (h : LinkKept s t) (law : LinkLaw s) : LinkLaw t := by
  obtain ⟨core, few⟩ := (linkLaw_iff s).mp law
  refine (linkLaw_iff t).mpr ⟨h.core core, fun active => ?_⟩
  rcases h.failures active with few' | ⟨was, same⟩
  · exact few'
  · exact same ▸ few was

/-! ### The relations are preorders -/

namespace SessionKept
variable {s t u : State}

theorem refl (s : State) : SessionKept s s := fun law => ⟨law, .refl _⟩

theorem trans (h : SessionKept s t) (g : SessionKept t u) : SessionKept s u := fun law =>
  let ⟨law', step⟩ := h law
  let ⟨law'', step'⟩ := g law'
  ⟨law'', step.trans step'⟩

end SessionKept

namespace LinkKept
variable {s t u : State}

theorem refl (s : State) : LinkKept s s := ⟨id, fun h => .inr ⟨h, rfl⟩⟩

theorem trans (h : LinkKept s t) (g : LinkKept t u) : LinkKept s u where
  core := g.core ∘ h.core
  failures active := by
    rcases g.failures active with few | ⟨was, same⟩
    · exact .inl few
    · rw [same]; exact h.failures was

theorem ite {c : Prop} [Decidable c] (h : LinkKept s t) (g : LinkKept s u) : LinkKept s (if c then t else u) := by
  split
  · exact h
  · exact g

/-- The link's state and counts stand; in LISTEN-ONLY no frame and no selection joins, and the period timer stays stopped. -/
theorem of_quiet (state : t.lnk.state = s.lnk.state) (failures : t.lnk.failures = s.lnk.failures)
    (timer : t.lnk.silentTimer.isSome = s.lnk.silentTimer.isSome)
    (quiet : s.lnk.state = .listenOnly →
      (t.lnk.queue.map TxEntry.frame).Sublist (s.lnk.queue.map TxEntry.frame) ∧
        (s.lnk.periodTimer = none → t.lnk.periodTimer = none) ∧ (s.vsq.queue = [] → t.vsq.queue = [])) :
    LinkKept s t where
  core h := by
    refine ⟨by rw [state, timer]; exact h.silent, fun listens => ?_⟩
    rw [state] at listens
    obtain ⟨status, one, period, none⟩ := h.listenOnly listens
    obtain ⟨sub, timer, queue⟩ := quiet listens
    refine ⟨fun e he => ?_, ?_, timer period, queue none⟩
    · obtain ⟨e', he', same⟩ := List.mem_map.mp (sub.subset (List.mem_map_of_mem he))
      exact same.symm.trans (status e' he')
    · simpa using sub.length_le.trans (by simpa using one)
  failures active := .inr ⟨state ▸ active, failures⟩

/-- An act that leaves the link and the selections as they were; the Frames lemmas say so for the shared operations, and `simp`
finds them. -/
theorem of_eq (lnk : t.lnk = s.lnk := by simp) (selections : t.vsq.queue = s.vsq.queue := by simp) : LinkKept s t :=
  .of_quiet (by rw [lnk]) (by rw [lnk]) (by rw [lnk]) fun _ => by rw [lnk, selections]; exact ⟨.refl _, id, id⟩

end LinkKept

/-- What every act keeps: the law of the money with the version, the law of the exact-change-only flag, and the law of the link. -/
structure Keeps (s t : State) : Prop where
  session : SessionKept s t
  exact : ExactKept s t
  link : LinkKept s t

/-- The act leaves the Credit Unit, the tubes and coin types and what the exact-change-only flag is made of as they were. -/
structure Aside (s t : State) : Prop where
  cru : t.cru = s.cru := by simp
  tubes : t.cnu.tubes = s.cnu.tubes := by simp
  coinTypes : t.cnu.coinTypes = s.cnu.coinTypes := by simp
  params : t.params = s.params := by simp
  cause : t.ssu.cause = s.ssu.cause := by simp
  phase : t.phase = s.phase := by simp

section
variable {s t : State}

theorem heldAmount_congr {c d : Session} (h : d.hold.map Hold.amount = c.hold.map Hold.amount) : d.heldAmount = c.heldAmount := by
  unfold Session.heldAmount; rw [h]

theorem planExact_congr (h : t.cnu.tubes = s.cnu.tubes) (n : Nat) : planExact t n = planExact s n := by
  unfold planExact tubeList; rw [h]

theorem moneyLaw_congr (law : MoneyLaw s) (session : t.cru.session = s.cru.session) (payout : t.cru.payout = s.cru.payout)
    (books : t.cru.books = s.cru.books) (tubes : t.cnu.tubes = s.cnu.tubes) (coinTypes : t.cnu.coinTypes = s.cnu.coinTypes) :
    MoneyLaw t := by
  obtain ⟨h1, h2, h3, h4, h5, h6, h7, h8, h9, h10⟩ := law
  constructor <;> simpa only [session, payout, books, coinTypes, Intake.tubeAt_congr tubes]

theorem exactLaw_congr (law : ExactLaw s) (flag : t.cru.exactChangeOnly = s.cru.exactChangeOnly)
    (probed : t.cru.probeShort = s.cru.probeShort) (short : t.cru.session.changeShort = s.cru.session.changeShort)
    (params : t.params = s.params) (cause : t.ssu.cause = s.ssu.cause) (tubes : t.cnu.tubes = s.cnu.tubes)
    (phase : t.phase = s.phase) : ExactLaw t := by
  obtain ⟨h1, h2, h3⟩ := law
  constructor <;> simpa only [flag, probed, short, params, cause, phase, planExact_congr tubes]

theorem Aside.session (h : Aside s t) : SessionKept s t := fun law =>
  ⟨moneyLaw_congr law (by rw [h.cru]) (by rw [h.cru]) (by rw [h.cru]) h.tubes h.coinTypes, h.cru ▸ .refl _⟩

theorem Aside.exact (h : Aside s t) : ExactKept s t := fun _ law =>
  exactLaw_congr law (by rw [h.cru]) (by rw [h.cru]) (by rw [h.cru]) h.params h.cause h.tubes h.phase

end

namespace Keeps
variable {s t u : State}

theorem refl (s : State) : Keeps s s := ⟨.refl s, fun _ => id, .refl s⟩

theorem trans (h : Keeps s t) (g : Keeps t u) : Keeps s u where
  session := h.session.trans g.session
  exact money law := g.exact (h.session money).1 (h.exact money law)
  link := h.link.trans g.link

theorem ite {c : Prop} [Decidable c] (h : Keeps s t) (g : Keeps s u) : Keeps s (if c then t else u) := by
  split
  · exact h
  · exact g

/-- An act that touches the link alone, of what the laws read. -/
theorem of_link (link : LinkKept s t) (aside : Aside s t := by exact {}) : Keeps s t := ⟨aside.session, aside.exact, link⟩

/-- An act that touches nothing the laws read. -/
theorem of_eq (link : LinkKept s t := by exact .of_eq) (aside : Aside s t := by exact {}) : Keeps s t := .of_link link aside

end Keeps

/-! ### The transmit queue (R168) -/

theorem request_link (f : Frame) (s : State) : LinkKept s (request f s).1 :=
  .of_quiet (by simp) (by simp) (by simp) fun h => by
    rw [request_listenOnly ((Intake.listenOnly_iff s).mpr h)]; exact ⟨.refl _, id, id⟩

theorem send_link (f : Frame) (s : State) : LinkKept s (send f s) := request_link f s

/-- R169: a STATUS asked for, with what its place makes of the period timer. -/
theorem asked_link (f : Frame) (g : Option Nat → Option Nat) (s : State) :
    LinkKept s
      (if (request f s).2 then (request f s).1.modLnk fun l => { l with periodTimer := g l.periodTimer }
        else (request f s).1) := by
  split
  · next asked =>
    refine .of_quiet (by simp) (by simp) (by simp) fun h => ?_
    rw [request_listenOnly ((Intake.listenOnly_iff s).mpr h)] at asked
    cases asked
  · exact request_link f s

theorem queueStatus_link (s : State) : LinkKept s (queueStatus s) := asked_link .status (Option.map fun _ => 0) s

theorem startStatus_link (s : State) : LinkKept s (startStatus s) := asked_link .status (fun _ => some 0) s

theorem announceChange_link (s : State) : LinkKept s (announceChange s) :=
  (.of_quiet rfl rfl rfl fun _ => ⟨.refl _, id, id⟩ : LinkKept s (s.modLnk _)).trans (queueStatus_link _)

theorem queueCredit_link (s : State) : LinkKept s (queueCredit s) :=
  .ite (.refl s) ((request_link .credit s).trans .of_eq)

/-- Of the queue some frames leave, or are marked. -/
theorem thinned_link (s : State) {q : List TxEntry} (h : (q.map TxEntry.frame).Sublist (s.lnk.queue.map TxEntry.frame)) :
    LinkKept s (s.modLnk fun l => { l with queue := q }) :=
  .of_quiet rfl rfl rfl fun _ => ⟨h, id, id⟩

theorem frames_filter (p : TxEntry → Bool) (q : List TxEntry) :
    ((q.filter p).map TxEntry.frame).Sublist (q.map TxEntry.frame) := List.filter_sublist.map _

theorem frames_map {g : TxEntry → TxEntry} (h : ∀ e, (g e).frame = e.frame) (q : List TxEntry) :
    ((q.map g).map TxEntry.frame).Sublist (q.map TxEntry.frame) := by
  rw [List.map_map, show TxEntry.frame ∘ g = TxEntry.frame from funext h]

theorem removeClaim_link (k : LoadKind) (q : Byte) (s : State) : LinkKept s (removeClaim k q s) :=
  thinned_link s (frames_filter _ _)

theorem standAgain_link (s : State) : LinkKept s (standAgain s) :=
  thinned_link s (frames_map (g := fun e => { e with onBus := none }) (fun _ => rfl) _)

theorem leaveQueue_link (s : State) : LinkKept s (leaveQueue s) := thinned_link s (frames_filter _ _)

theorem dropFrame_link (s : State) : LinkKept s (dropFrame s) :=
  (leaveQueue_link s).trans (.of_quiet rfl rfl rfl fun _ => ⟨.refl _, id, id⟩)

theorem beginFrame_link (s : State) : LinkKept s (beginFrame s) := by
  unfold beginFrame
  refine .ite ?_ (.refl s)
  split
  · exact .refl s
  · next i _ =>
    refine thinned_link s ?_
    have same : (s.lnk.queue.modify i fun e => { e with onBus := some (compose s e.frame) }).map TxEntry.frame =
        s.lnk.queue.map TxEntry.frame := by
      apply List.ext_getElem?
      intro j
      simp only [List.getElem?_map, List.getElem?_modify]
      split <;> cases s.lnk.queue[j]? <;> rfl
    rw [same]

/-! ### The Load Budget Unit (Chapter 9) -/

theorem modLoad_link (k : LoadKind) (f : OwnLoad → OwnLoad) (s : State) : LinkKept s (modLoad k f s) := .of_eq

theorem signal_link (g : Signal) (s : State) : LinkKept s (signal g s) := .of_eq

theorem grantLoad_link (k : LoadKind) (s : State) : LinkKept s (grantLoad k s) :=
  (modLoad_link k _ s).trans ((announceChange_link _).trans (signal_link _ _))

theorem queueClaim_link (k : LoadKind) (s : State) : LinkKept s (queueClaim k s) := by
  unfold queueClaim
  extract_lets l q r
  have asked : LinkKept s r.1 := request_link _ s
  have counted : LinkKept r.1 (r.1.modLbu fun b => { b with claimCounter := q }) := .of_eq
  exact .ite ((asked.trans counted).trans (modLoad_link k _ _)) (modLoad_link k _ s)

theorem testOne_link (k : LoadKind) (s : State) : LinkKept s (testOne k s) := by
  rcases testOne_cases k s with ⟨e, -⟩ | ⟨e, -⟩ | ⟨e, -⟩ | ⟨e, -⟩ <;> rw [e]
  · exact .refl s
  · exact grantLoad_link k s
  · exact queueClaim_link k s
  · exact .of_eq

theorem testWaiting_link (s : State) : LinkKept s (testWaiting s) :=
  (testOne_link .motor s).trans ((testOne_link .compressor _).trans (testOne_link .heater _))

theorem testOthers_link (k : LoadKind) (s : State) : LinkKept s (testOthers k s) :=
  have one (j : LoadKind) (u : State) : LinkKept u (if j = k then u else testOne j u) := .ite (.refl u) (testOne_link j u)
  (one .motor s).trans ((one .compressor _).trans (one .heater _))

theorem testRecord_link (k : LoadKind) (s : State) : LinkKept s (testRecord k s) :=
  .ite (testOne_link k s) ((testOne_link k s).trans (testOthers_link k _))

theorem retestQueued_link (k : LoadKind) (s : State) : LinkKept s (retestQueued k s) :=
  .ite ((removeClaim_link k _ s).trans (modLoad_link k _ _)) (.refl s)

theorem tableChanged_link (s : State) : LinkKept s (tableChanged s) :=
  (.of_eq : LinkKept s (clearHeldOff s)).trans
    ((retestQueued_link .motor _).trans
      ((retestQueued_link .compressor _).trans ((retestQueued_link .heater _).trans (testWaiting_link _))))

theorem afterTable_link (before s : State) : LinkKept s (afterTable before s) := .ite (.refl s) (tableChanged_link s)

theorem sendRelease_link (k : LoadKind) (q : Byte) (s : State) : LinkKept s (sendRelease k q s) :=
  (send_link _ s).trans (announceChange_link _)

theorem askLoad_link (k : LoadKind) (c : ClaimClass) (a : Nat) (s : State) : LinkKept s (askLoad k c a s) :=
  .ite ((modLoad_link k _ s).trans (testRecord_link k _)) (.refl s)

theorem withdrawLoad_link (k : LoadKind) (s : State) : LinkKept s (withdrawLoad k s) := by
  have cleared (u : State) : LinkKept u (clearLoad k u) := modLoad_link k _ u
  unfold withdrawLoad
  dsimp only
  split
  · exact .ite ((cleared s).trans (testWaiting_link _)) (cleared s)
  · refine .trans ?_ (testWaiting_link _)
    exact .ite ((cleared s).trans (sendRelease_link k _ _)) ((removeClaim_link k _ s).trans (cleared _))
  · exact ((cleared s).trans (sendRelease_link k _ _)).trans (testWaiting_link _)
  · exact .refl s
  · exact .refl s

theorem releaseLoad_link (k : LoadKind) (s : State) : LinkKept s (releaseLoad k s) :=
  .ite ((modLoad_link k _ s).trans ((announceChange_link _).trans (testWaiting_link _))) (.refl s)

theorem giveUp_link (k : LoadKind) (s : State) : LinkKept s (giveUp k s) := .ite (releaseLoad_link k s) (withdrawLoad_link k s)

theorem raiseClass_link (k : LoadKind) (c : ClaimClass) (s : State) : LinkKept s (raiseClass k c s) := by
  unfold raiseClass
  extract_lets l stored
  have raised : LinkKept s stored := modLoad_link k _ s
  split
  · exact raised
  · exact .ite raised ((raised.trans (removeClaim_link k _ _)).trans (send_link _ _))
  · exact raised
  · exact .refl s
  · exact .refl s

theorem lowerAmount_link (k : LoadKind) (a : Nat) (s : State) : LinkKept s (lowerAmount k a s) :=
  .ite ((modLoad_link k _ s).trans ((announceChange_link _).trans (testWaiting_link _))) (.refl s)

theorem claimEnded_link (k : LoadKind) (q : Byte) (completed : Bool) (s : State) : LinkKept s (claimEnded k q completed s) :=
  .ite (.ite (modLoad_link k _ s) ((modLoad_link k _ s).trans (testWaiting_link _))) (.refl s)

theorem decideProposed_link (k : LoadKind) (s : State) : LinkKept s (decideProposed k s) :=
  .ite ((grantLoad_link k s).trans (testWaiting_link _))
    ((modLoad_link k _ s).trans ((sendRelease_link k _ _).trans (testOthers_link k _)))

theorem takeObject_link (kind q : Byte) (sum : Half) (s : State) : LinkKept s (takeObject kind q sum s) := by
  unfold takeObject
  extract_lets noted ignored
  have note : LinkKept s noted := .of_eq rfl rfl
  have ignore : LinkKept s ignored := note.trans (.of_eq rfl rfl)
  split
  · next k _ =>
    refine .ite (note.trans ?_) ignore
    exact (modLoad_link k _ noted).trans
      ((sendRelease_link k _ _).trans ((modLoad_link k _ _).trans (testOthers_link k _)))
  · exact ignore

theorem decideSolo_link (k : LoadKind) (s : State) : LinkKept s (decideSolo k s) := by
  have again (u : State) : LinkKept u (waitAgain k u) := modLoad_link k _ u
  unfold decideSolo
  dsimp only
  split
  · refine (removeClaim_link k _ s).trans (.ite (grantLoad_link k _) (.ite ?_ (again _)))
    exact (again _).trans (sendRelease_link k _ _)
  · exact .ite (grantLoad_link k s) ((again s).trans (sendRelease_link k _ _))
  all_goals exact .refl s

theorem becomeIsolated_link (s : State) : LinkKept s (becomeIsolated s) :=
  have decided := (decideSolo_link .motor s).trans ((decideSolo_link .compressor _).trans (decideSolo_link .heater _))
  .ite (decided.trans (testWaiting_link _)) decided

theorem leaveIsolated_link (s : State) : LinkKept s (leaveIsolated s) :=
  (.of_eq : LinkKept s (clearHeldOff s)).trans (testWaiting_link _)

theorem noteIsolation_link (was : Bool) (s : State) : LinkKept s (noteIsolation was s) :=
  .ite (.refl s)
    (.ite ((becomeIsolated_link s).trans (queueStatus_link _)) ((leaveIsolated_link s).trans (queueStatus_link _)))

/-! ### The Refrigeration Controller (Chapter 8) -/

theorem enterWant_link (s : State) : LinkKept s (enterWant s) :=
  (.of_eq : LinkKept s (s.modRfc _)).trans (askLoad_link .compressor _ _ _)

theorem testOff_link (s : State) : LinkKept s (testOff s) := .ite (enterWant_link s) (.refl s)

theorem endLockout_link (s : State) : LinkKept s (endLockout s) :=
  (.of_eq : LinkKept s (s.modRfc _)).trans (testOff_link _)

theorem withdrawWant_link (s : State) : LinkKept s (withdrawWant s) :=
  (.of_eq : LinkKept s (s.modRfc _)).trans (withdrawLoad_link .compressor _)

theorem endDutyWait_link (s : State) : LinkKept s (endDutyWait s) :=
  (.of_eq : LinkKept s (s.modRfc _)).trans (withdrawWant_link _)

theorem raiseWant_link (s : State) : LinkKept s (raiseWant s) :=
  .ite ((.of_eq : LinkKept s (s.modRfc _)).trans (raiseClass_link .compressor .coolUrgent _)) (.refl s)

theorem endStart_link (s : State) : LinkKept s (endStart s) :=
  (.of_eq : LinkKept s (s.modRfc _)).trans (lowerAmount_link .compressor _ _)

theorem startDefrost_link (s : State) : LinkKept s (startDefrost s) :=
  (.of_eq : LinkKept s (s.modRfc _)).trans (askLoad_link .heater _ _ _)

theorem openRelay_link (s : State) : LinkKept s (openRelay s) := by
  unfold openRelay
  extract_lets opened released
  have release : LinkKept s released := (.of_eq rfl rfl : LinkKept s opened).trans (releaseLoad_link .compressor _)
  exact .ite (release.trans (startDefrost_link _)) (release.trans (.of_eq : LinkKept released (enterLockout released)))

theorem stopCompressor_link (s : State) : LinkKept s (stopCompressor s) :=
  (.of_eq : LinkKept s (wholeSecond s)).trans (openRelay_link _)

theorem testStop_link (s : State) : LinkKept s (testStop s) := .ite (stopCompressor_link s) (.refl s)

theorem testWant_link (s : State) : LinkKept s (testWant s) :=
  .ite (.refl s) (.ite (withdrawWant_link s) (.ite (endDutyWait_link s) (.ite (raiseWant_link s) (.refl s))))

theorem cabinetEvent_link (s : State) : LinkKept s (cabinetEvent s) := by
  unfold cabinetEvent
  split
  · exact testOff_link s
  · exact testWant_link s
  · exact testStop_link s
  all_goals exact .refl s

theorem endHeaterWait_link (s : State) : LinkKept s (endHeaterWait s) :=
  (.of_eq : LinkKept s (s.modRfc _)).trans (withdrawLoad_link .heater _)

theorem endDefrost_link (s : State) : LinkKept s (endDefrost s) :=
  (.of_eq : LinkKept s (s.modRfc _)).trans (giveUp_link .heater _)

theorem evaporatorEvent_link (s : State) : LinkKept s (evaporatorEvent s) := .ite (endDefrost_link s) (.refl s)

theorem latchHotHold_link (s : State) : LinkKept s (latchHotHold s) :=
  (.of_eq : LinkKept s (evaluateSale (s.modRfc _))).trans (queueStatus_link _)

theorem clearHotHold_link (s : State) : LinkKept s (clearHotHold s) :=
  (.of_eq : LinkKept s (evaluateSale (s.modRfc _))).trans (queueStatus_link _)

end Sys2Proof.Machine.Keeping
end

section
/-! PROOFS. What every step keeps: the operations of the Coin Unit and of the Credit Unit (Chapters 1, 3 and 4). -/

namespace Sys2Proof.Machine.Keeping

set_option Elab.async false

open Laws Credits

/-! ### Time -/

theorem moneyLaw_advance (d : Nat) {s : State} (law : MoneyLaw s) : MoneyLaw (advance d s) := by
  have held : (advance d s).cru.session.heldAmount = s.cru.session.heldAmount :=
    heldAmount_congr (by show (s.cru.session.hold.map _).map _ = _; rw [Option.map_map]; rfl)
  refine ⟨?_, ?_, law.idleEmpty, law.openMoney, ?_, ?_, ?_, ?_, fun p hp wait => ?_, law.coinValues⟩
  · rw [held]; exact law.ceiling
  · rw [held]; exact law.equation
  · rw [held]; exact law.heldMoney
  · show (s.cru.session.hold.map _).isSome = true ↔ _
    rw [Option.isSome_map]; exact law.holdIffHeld
  · show (s.cru.payout.map _).isSome = true ↔ _
    rw [Option.isSome_map]; exact law.payoutIffPaying
  · show (s.cru.session.idleTimer.map _).isSome = true → _
    rw [Option.isSome_map]; exact law.idleTimerInOpen
  · obtain ⟨q, hq, rfl⟩ := Option.map_eq_some_iff.mp (show s.cru.payout.map _ = some p from hp)
    exact law.pulsedWithinDue q hq wait

theorem elapse_keeps (d : Nat) (s : State) : Keeps s (elapse d s) := by
  rcases elapse_cases d s with e | e <;> rw [e]
  · exact .refl s
  · refine ⟨fun law => ⟨moneyLaw_advance d law, .of_eq rfl rfl rfl rfl rfl⟩,
      fun _ law => exactLaw_congr law rfl rfl rfl rfl rfl rfl rfl, .of_quiet rfl rfl ?_ fun _ => ⟨.refl _, ?_, id⟩⟩
    · exact Option.isSome_map
    · intro none
      show s.lnk.periodTimer.map _ = _
      rw [none]; rfl

theorem reach_keeps (limit now : Nat) (s : State) : Keeps s (reach limit now s) := elapse_keeps _ s

/-! ### The exact-change-only flag (R28 to R30) -/

/-- R29: a re-evaluation brings the flag to what the last probe and change-short make of it. -/
theorem exactLaw_reevaluate {s u : State} (law : ExactLaw s) (probed : u.cru.probeShort = s.cru.probeShort)
    (params : u.params = s.params) (cause : u.ssu.cause = s.ssu.cause) (tubes : u.cnu.tubes = s.cnu.tubes)
    (phase : u.phase = s.phase) : ExactLaw (reevaluateExact u) := by
  obtain ⟨value, kept⟩ := reevaluateExact_value u
  obtain ⟨-, h2, h3⟩ := law
  have plan (n : Nat) : planExact (reevaluateExact u) n = planExact s n := planExact_congr (by simp [tubes]) n
  refine ⟨?_, ?_, ?_⟩
  · rw [value]
    simp [exactChangeValue, coinStation, configured, and_assoc]
  · simpa only [kept, probed, reevaluateExact_params, reevaluateExact_ssu, params, cause, plan] using h2
  · simpa only [kept, probed, reevaluateExact_params, reevaluateExact_ssu, reevaluateExact_phase, params, cause, plan,
      phase] using h3

/-- R29: a probe is run unless the tubes stand as they did. -/
theorem exactLaw_probeAfter {s u : State} (law : ExactLaw s) (flag : u.cru.exactChangeOnly = s.cru.exactChangeOnly)
    (probed : u.cru.probeShort = s.cru.probeShort) (short : u.cru.session.changeShort = s.cru.session.changeShort)
    (params : u.params = s.params) (cause : u.ssu.cause = s.ssu.cause) (phase : u.phase = s.phase) :
    ExactLaw (probeAfter s.cnu.tubes u) := by
  unfold probeAfter
  split
  · exact exactLaw_congr law flag probed short params cause ‹_› phase
  · exact exactLaw_probe u

theorem enterIdle_exact {s : State} (law : ExactLaw s) : ExactLaw (enterIdle s) :=
  exactLaw_reevaluate law (by simp) (by simp) (by simp) (by simp) (by simp)

theorem enterOpen_exact {s : State} (law : ExactLaw s) : ExactLaw (enterOpen s) :=
  exactLaw_congr law (by simp) (by simp) (by simp) (by simp) (by simp) (by simp) (by simp)

theorem payoutComplete_exact {s : State} (law : ExactLaw s) : ExactLaw (payoutComplete s) :=
  enterIdle_exact (s := s.modCru fun c => { c with payout := none }) (exactLaw_congr law rfl rfl rfl rfl rfl rfl rfl)

theorem payoutShort_exact {s : State} (law : ExactLaw s) : ExactLaw (payoutShort s) :=
  exactLaw_reevaluate law (by simp) (by simp) (by simp) (by simp) (by simp)

theorem coinStep_exact {s : State} (law : ExactLaw s) : ExactLaw (coinStep s) := by
  rcases coinStep_cases s with ⟨-, e⟩ | ⟨i, -, e⟩ | ⟨-, -, e⟩ <;> rw [e]
  · exact payoutComplete_exact law
  · exact exactLaw_congr law rfl rfl rfl rfl rfl rfl rfl
  · exact payoutShort_exact law

theorem enterPaying_exact {s : State} (law : ExactLaw s) : ExactLaw (enterPaying s) := by
  have turned : ExactLaw (turnPaying s) :=
    exactLaw_congr law (by simp [turnPaying]) (by simp [turnPaying]) (by simp) (by simp) (by simp) (by simp)
      (by simp [turnPaying])
  rw [enterPaying_eq]
  split
  · exact exactLaw_congr turned rfl rfl rfl rfl rfl rfl rfl
  · exact coinStep_exact turned

theorem reevaluateExact_link (s : State) : LinkKept s (reevaluateExact s) :=
  .ite (.refl s) ((.of_eq : LinkKept s (s.modCru _)).trans (queueStatus_link _))

theorem probe_link (s : State) : LinkKept s (probe s) :=
  (.of_eq : LinkKept s (s.modCru _)).trans (reevaluateExact_link _)

theorem probeAfter_link (before : List (Option Tube)) (s : State) : LinkKept s (probeAfter before s) :=
  .ite (.refl s) (probe_link s)

theorem changeTube_link (i : Nat) (f : Tube → Tube) (s : State) : LinkKept s (changeTube i f s) :=
  (.of_eq : LinkKept s (modTube i f s)).trans (probeAfter_link _ _)

theorem probe_session (s : State) : SessionKept s (probe s) := fun law =>
  ⟨moneyLaw_congr law (by simp) (by simp) (by simp) (by simp) (by simp),
    .of_eq (by simp) (by simp) (by simp) (by simp) (by simp)⟩

theorem probeAfter_session (before : List (Option Tube)) (s : State) : SessionKept s (probeAfter before s) := by
  unfold probeAfter
  split
  · exact .refl s
  · exact probe_session s

open Intake in
/-- R13: a tube keeps its denomination where its record is replaced. -/
theorem recordAt_replaced {l l' : List (Option Tube)} (h : List.Forall₂ Replaces l l') {j : Nat} {t : Tube}
    (at_ : recordAt l j = some t) : ∃ u, recordAt l' j = some u ∧ u.denomination = t.denomination := by
  induction h generalizing j with
  | nil => cases at_
  | cons replaces _ ih =>
    cases j with
    | succ j => exact ih at_
    | zero =>
      cases replaces with
      | none => cases at_
      | some _ same _ => cases at_; exact ⟨_, rfl, same⟩

/-- R13: tube records replaced by records of their denominations leave a pulsed tube within the due. -/
theorem replaced_session {s t : State} (cru : t.cru = s.cru) (coinTypes : t.cnu.coinTypes = s.cnu.coinTypes)
    (tubes : List.Forall₂ Intake.Replaces s.cnu.tubes t.cnu.tubes) : SessionKept s t := fun law => by
  obtain ⟨h1, h2, h3, h4, h5, h6, h7, h8, within, h10⟩ := law
  refine ⟨?_, cru ▸ .refl _⟩
  constructor
  case coinValues => rwa [coinTypes]
  case pulsedWithinDue =>
    rw [cru]
    intro p hp wait
    obtain ⟨i, t', tube, at_, le⟩ := within p hp wait
    cases i with
    | zero => cases at_
    | succ j =>
      obtain ⟨u, at', same⟩ := recordAt_replaced tubes at_
      exact ⟨j + 1, u, tube, at', same ▸ le⟩
  all_goals rw [cru]; assumption

theorem modTube_session {i : Nat} {f : Tube → Tube} (hf : Intake.KeepsTube f) (s : State) : SessionKept s (modTube i f s) := by
  cases i with
  | zero => exact .refl s
  | succ j => exact replaced_session rfl rfl (Intake.modify_replaces hf j s.cnu.tubes)

theorem changeTube_keeps {i : Nat} {f : Tube → Tube} (hf : Intake.KeepsTube f) (s : State) :
    Keeps s (changeTube i f s) where
  session := (modTube_session hf s).trans (probeAfter_session _ _)
  exact _ law := exactLaw_probeAfter law (by simp) (by simp) (by simp) (by simp) (by simp) (by simp)
  link := changeTube_link i f s

/-! ### The version in each operation of the Credit Unit (R35) -/

/-- R35: the version has risen in the event, once. -/
structure Raised (c d : Cru) : Prop where
  now : d.versionRaised = true
  once : risen d = risen c

namespace Raised
variable {c d e : Cru}

theorem step (h : Raised c d) : VersionStep c d := .of_raised h.now h.once

theorem trans (h : Raised c d) (g : Raised d e) : Raised c e := ⟨g.now, g.once.trans h.once⟩

/-- An act that leaves the version and its mark as they are. -/
theorem of_eq (h : Raised c d) (mark : e.versionRaised = d.versionRaised) (version : e.session.version = d.session.version) :
    Raised c e := ⟨mark.trans h.now, by rw [← h.once]; unfold risen; rw [mark, version]⟩

end Raised

/-- The version is counted from any state of the same version and mark. -/
theorem Raised.from {b c d : Cru} (h : Raised c d) (same : risen c = risen b) : Raised b d := ⟨h.now, h.once.trans same⟩

theorem risen_congr {c d : Cru} (mark : d.versionRaised = c.versionRaised) (version : d.session.version = c.session.version) :
    risen d = risen c := by unfold risen; rw [mark, version]

theorem raiseVersion_raises {c : Cru} {s : State} (once : risen s.cru = risen c) : Raised c (raiseVersion s).cru :=
  ⟨by simp, by simpa using once⟩

theorem enterIdle_raises (s : State) : Raised s.cru (enterIdle s).cru := ⟨by simp, by simp [risen]⟩

theorem enterOpen_raises (s : State) : Raised s.cru (enterOpen s).cru := ⟨by simp, by simp [risen]⟩

theorem payoutComplete_raises (s : State) : Raised s.cru (payoutComplete s).cru := ⟨by simp, by simp [risen]⟩

theorem payoutShort_raises (s : State) : Raised s.cru (payoutShort s).cru := ⟨by simp, by simp [risen]⟩

theorem turnPaying_raises (s : State) : Raised s.cru (turnPaying s).cru := ⟨by simp, by simp [risen]⟩

theorem enterPaying_raises (s : State) : Raised s.cru (enterPaying s).cru := by
  rw [enterPaying_eq]
  split
  · exact (turnPaying_raises s).of_eq rfl rfl
  · rcases coinStep_cases (turnPaying s) with ⟨-, e⟩ | ⟨i, -, e⟩ | ⟨-, -, e⟩ <;> rw [e]
    · exact (turnPaying_raises s).trans (payoutComplete_raises _)
    · exact (turnPaying_raises s).of_eq rfl rfl
    · exact (turnPaying_raises s).trans (payoutShort_raises _)

/-- A coin step announces what it changes: the endings of a payout raise the version, a pulse changes nothing announced. -/
theorem coinStep_step (s : State) : VersionStep s.cru (coinStep s).cru := by
  rcases coinStep_cases s with ⟨-, e⟩ | ⟨i, -, e⟩ | ⟨-, -, e⟩ <;> rw [e]
  · exact (payoutComplete_raises s).step
  · exact .of_eq rfl rfl rfl rfl rfl
  · exact (payoutShort_raises s).step

/-! ### The link in each operation of the Credit Unit -/

theorem modCru_link (f : Cru → Cru) (s : State) : LinkKept s (s.modCru f) := .of_eq

theorem modSession_link (f : Session → Session) (s : State) : LinkKept s (s.modSession f) := .of_eq

theorem modTotals_link (f : AuditTotals → AuditTotals) (s : State) : LinkKept s (s.modTotals f) := .of_eq

theorem modBooks_link (f : Books → Books) (s : State) : LinkKept s (modBooks f s) := .of_eq

theorem raiseVersion_link (s : State) : LinkKept s (raiseVersion s) :=
  .ite (.refl s) ((modCru_link _ s).trans (queueCredit_link _))

theorem enterIdle_link (s : State) : LinkKept s (enterIdle s) :=
  (modSession_link _ s).trans ((raiseVersion_link _).trans (reevaluateExact_link _))

theorem enterOpen_link (s : State) : LinkKept s (enterOpen s) := (modSession_link _ s).trans (raiseVersion_link _)

theorem payoutComplete_link (s : State) : LinkKept s (payoutComplete s) := (modCru_link _ s).trans (enterIdle_link _)

theorem payoutShort_link (s : State) : LinkKept s (payoutShort s) :=
  (modCru_link _ s).trans
    ((modTotals_link _ _).trans ((modSession_link _ _).trans ((enterOpen_link _).trans (reevaluateExact_link _))))

theorem coinStep_link (s : State) : LinkKept s (coinStep s) := by
  rcases coinStep_cases s with ⟨-, e⟩ | ⟨i, -, e⟩ | ⟨-, -, e⟩ <;> rw [e]
  · exact payoutComplete_link s
  · exact modCru_link _ s
  · exact payoutShort_link s

theorem enterPaying_link (s : State) : LinkKept s (enterPaying s) :=
  have turned : LinkKept s (turnPaying s) := (modSession_link _ s).trans (raiseVersion_link _)
  .ite (turned.trans (modCru_link _ _)) (turned.trans (coinStep_link _))

theorem openSession_link (v : Nat) (s : State) : LinkKept s (openSession v s) :=
  (modSession_link _ s).trans ((modBooks_link _ _).trans ((modTotals_link _ _).trans (raiseVersion_link _)))

theorem addCoin_link (v : Nat) (s : State) : LinkKept s (addCoin v s) :=
  have counted := (modBooks_link _ s).trans (modTotals_link _ _)
  .ite counted (counted.trans ((modSession_link _ _).trans (raiseVersion_link _)))

theorem creditCoin_link (v : Nat) (s : State) : LinkKept s (creditCoin v s) := .ite (openSession_link v s) (addCoin_link v s)

theorem takeDebit_link (r : Station) (n : Byte) (a : Nat) (tag : Byte) (x : Option Half) (s : State) :
    LinkKept s (takeDebit r n a tag x s).1 := by
  rcases takeDebit_cases r n a tag x s with ⟨-, -, e⟩ | ⟨-, e⟩ <;> rw [e]
  · exact (modSession_link _ s).trans (raiseVersion_link _)
  · exact .refl s

theorem afterSettle_link (r : SettleResult) (s : State) : LinkKept s (afterSettle r s) :=
  .ite (.ite ((modSession_link _ s).trans (enterIdle_link _)) ((modSession_link _ s).trans (enterPaying_link _)))
    (.ite (enterPaying_link s) (.ite (enterIdle_link s) (enterOpen_link s)))

theorem takeSettle_link (r : Station) (tag n : Byte) (res : SettleResult) (s : State) :
    LinkKept s (takeSettle r tag n res s).1 := by
  rcases takeSettle_cases r tag n res s with ⟨-, e⟩ | ⟨-, e⟩ <;> rw [e]
  · exact (.of_eq : LinkKept s (endHold res s)).trans (afterSettle_link res _)
  · exact .refl s

theorem expireHold_link (h : Hold) (s : State) : LinkKept s (expireHold h s) :=
  have ended := (modSession_link _ s).trans (modTotals_link _ _)
  .ite (ended.trans (enterPaying_link _)) (ended.trans (enterOpen_link _))

theorem forfeit_link (s : State) : LinkKept s (forfeit s) :=
  (modBooks_link _ s).trans ((modTotals_link _ _).trans (enterIdle_link _))

theorem expireIdle_link (s : State) : LinkKept s (expireIdle s) := .ite (forfeit_link s) (enterPaying_link s)

theorem pressLever_link (s : State) : LinkKept s (pressLever s) := by
  unfold pressLever
  split
  · exact enterPaying_link s
  · exact modSession_link _ s
  all_goals exact .refl s

theorem expireRefresh_link (s : State) : LinkKept s (expireRefresh s) := .ite (queueCredit_link s) (modCru_link _ s)

theorem payCoin_link (i a : Nat) (s : State) : LinkKept s (payCoin i a s) :=
  have paid := (changeTube_link i Tube.giveCoin s).trans ((modBooks_link _ _).trans ((modTotals_link _ _).trans
    ((modSession_link _ _).trans (raiseVersion_link _))))
  .ite (paid.trans (payoutComplete_link _)) (paid.trans (modCru_link _ _))

theorem failAttempt_link (i a : Nat) (s : State) : LinkKept s (failAttempt i a s) :=
  .ite (modCru_link _ s) ((changeTube_link i _ s).trans (coinStep_link _))

/-! ### DEBIT and SETTLE (R42 to R50) -/

@[simp] theorem session_grantDebit (r : Station) (a : Nat) (tag : Byte) (s : State) :
    (grantDebit r a tag s).cru.session =
      { s.cru.session with
        balance := s.cru.session.balance - a, state := .held, version := risen s.cru, idleTimer := none
        hold := some ⟨r, tag, a, 0⟩ } := by
  simp [grantDebit, risen]

/-- TABLE 3-3: a new grant is made in OPEN, of no more than the balance. -/
theorem debitCheck_granted {r : Station} {n : Byte} {a : Nat} {tag : Byte} {x : Option Half} {s : State}
    (h : debitCheck r n a tag x s = .granted) (none : s.cru.session.hold = none) :
    s.cru.session.state ≠ .idle ∧ s.cru.session.state ≠ .paying ∧ a ≤ s.cru.session.balance := by
  unfold debitCheck at h
  simp only [none] at h
  split at h
  · cases h
  · next open_ =>
    simp only [Bool.or_eq_true, not_or, beq_iff_eq] at open_
    obtain ⟨⟨-, idle⟩, paying⟩ := open_
    split at h
    · cases h
    · split at h
      · cases h
      · exact ⟨idle, paying, by omega⟩

theorem grantDebit_law {r : Station} {a : Nat} {tag : Byte} {s : State} (law : MoneyLaw s)
    (state : s.cru.session.state = .opened) (le : a ≤ s.cru.session.balance) : MoneyLaw (grantDebit r a tag s) := by
  obtain ⟨-, ceiling, equation, values⟩ := accounted law (by simp [state])
  have payout := payout_none law (by simp [state])
  have money := law.openMoney (.inl state)
  constructor <;> simp [Session.heldAmount, payout]
  · omega
  · omega
  · omega
  · exact values

theorem grantDebit_raises (r : Station) (a : Nat) (tag : Byte) (s : State) : Raised s.cru (grantDebit r a tag s).cru :=
  ⟨by simp [grantDebit], by simp [grantDebit, risen]⟩

theorem takeDebit_keeps (r : Station) (n : Byte) (a : Nat) (tag : Byte) (x : Option Half) (s : State) :
    Keeps s (takeDebit r n a tag x s).1 := by
  refine ⟨fun law => ?_, fun law exact => ?_, takeDebit_link r n a tag x s⟩ <;>
    rcases takeDebit_cases r n a tag x s with ⟨granted, none, e⟩ | ⟨-, e⟩ <;> rw [e]
  · obtain ⟨idle, paying, le⟩ := debitCheck_granted granted none
    have opened : s.cru.session.state = .opened := by
      have held := mt law.holdIffHeld.mpr (by simp [none])
      cases state : s.cru.session.state <;> simp_all
    exact ⟨grantDebit_law law opened le, (grantDebit_raises r a tag s).step⟩
  · exact ⟨law, .refl _⟩
  · exact exactLaw_congr exact (by simp) (by simp) (by simp) (by simp) (by simp) (by simp) (by simp)
  · exact exact

theorem afterSettle_raises (r : SettleResult) (s : State) : Raised s.cru (afterSettle r s).cru := by
  let cleared := s.modSession fun c => { c with escrowPending := false }
  have same : risen cleared.cru = risen s.cru := rfl
  unfold afterSettle
  dsimp only
  split
  · split
    · exact (enterIdle_raises cleared).from same
    · exact (enterPaying_raises cleared).from same
  · split
    · exact enterPaying_raises s
    · split
      · exact enterIdle_raises s
      · exact enterOpen_raises s

/-- R49: whichever next state the settlement leaves, the money is accounted for. -/
theorem afterSettle_law {r : SettleResult} {s : State} (h : Accounted s) (payout : s.cru.payout = none) :
    MoneyLaw (afterSettle r s) := by
  have cleared : Accounted (s.modSession fun c => { c with escrowPending := false }) :=
    ⟨h.hold, h.ceiling, h.equation, h.coinValues⟩
  unfold afterSettle
  dsimp only
  split
  · split
    · exact cleared.enterIdle ‹_› payout
    · exact cleared.enterPaying (Nat.pos_of_ne_zero ‹_›)
  · split
    · next begins => exact h.enterPaying begins.2.2
    · split
      · exact h.enterIdle ‹_› payout
      · exact h.enterOpen (Nat.pos_of_ne_zero ‹_›) payout

theorem afterSettle_exact {r : SettleResult} {s : State} (law : ExactLaw s) : ExactLaw (afterSettle r s) := by
  have cleared : ExactLaw (s.modSession fun c => { c with escrowPending := false }) :=
    exactLaw_congr law rfl rfl rfl rfl rfl rfl rfl
  unfold afterSettle
  dsimp only
  split
  · split
    · exact enterIdle_exact cleared
    · exact enterPaying_exact cleared
  · split
    · exact enterPaying_exact law
    · split
      · exact enterIdle_exact law
      · exact enterOpen_exact law

/-- R48: the hold ends, sold or returned; no other item of the session changes. -/
theorem session_endHold (res : SettleResult) (s : State) :
    (endHold res s).cru.session =
      { s.cru.session with
        hold := none
        balance :=
          if res = .notVended then s.cru.session.balance + s.cru.session.heldAmount else s.cru.session.balance } := by
  cases res <;> rfl

theorem books_endHold (res : SettleResult) (s : State) :
    (endHold res s).cru.books =
      { s.cru.books with
        sold := if res = .vended then s.cru.books.sold + s.cru.session.heldAmount else s.cru.books.sold } := by
  cases res <;> rfl

theorem endHold_accounted {res : SettleResult} {s : State} (law : MoneyLaw s) : Accounted (endHold res s) := by
  have ceiling := law.ceiling
  have equation := law.equation
  constructor <;> simp only [session_endHold, books_endHold, endHold_cnu]
  · split <;> omega
  · cases res <;> simp only [if_true, if_false, reduceCtorEq] <;> omega
  · exact law.coinValues

theorem takeSettle_keeps (r : Station) (tag n : Byte) (res : SettleResult) (s : State) :
    Keeps s (takeSettle r tag n res s).1 := by
  refine ⟨fun law => ?_, fun law exact => ?_, takeSettle_link r tag n res s⟩ <;>
    rcases takeSettle_cases r tag n res s with ⟨matched, e⟩ | ⟨-, e⟩ <;> rw [e]
  · obtain ⟨h, hold, -⟩ := (settleMatches_iff r tag n s).mp matched
    have held := law.holdIffHeld.mp (by simp [hold])
    have payout : (endHold res s).cru.payout = none := by simpa using payout_none law (by simp [held])
    refine ⟨afterSettle_law (endHold_accounted law) payout, ?_⟩
    obtain ⟨now, once⟩ := afterSettle_raises res (endHold res s)
    exact .of_raised now (once.trans (risen_congr (by simp) (by simp [session_endHold])))
  · exact ⟨law, .refl _⟩
  · exact afterSettle_exact (exactLaw_congr exact (by simp) (by simp) (by simp [session_endHold]) (by simp) (by simp)
      (by simp) (by simp))
  · exact exact

/-! ### The hold's and the idle timer's expiry, and the lever (R51, R58, R71) -/

/-- R51: the session once the expired hold is back in the balance, before its next state. -/
def holdReturned (h : Hold) (s : State) : State :=
  (s.modSession fun c =>
    { c with hold := none, balance := c.balance + h.amount, lastExpired := some ⟨h.requester, h.tag⟩ }).modTotals fun t =>
    { t with unsettledHolds := countUp t.unsettledHolds 1 }

theorem expireHold_eq (h : Hold) (s : State) :
    expireHold h s =
      if s.cru.session.escrowPending then enterPaying (holdReturned h s) else enterOpen (holdReturned h s) := rfl

theorem expireHold_keeps {h : Hold} {s : State} (holds : s.cru.session.hold.map Hold.amount = some h.amount) :
    Keeps s (expireHold h s) := by
  obtain ⟨k, hold, same⟩ := Option.map_eq_some_iff.mp holds
  have amount : s.cru.session.heldAmount = h.amount := by simp [Session.heldAmount, hold, same]
  refine ⟨fun law => ?_, fun law exact => ?_, expireHold_link h s⟩ <;> rw [expireHold_eq]
  · have held := law.holdIffHeld.mp (by simp [hold])
    have money := law.heldMoney held
    have ceiling := law.ceiling
    have equation := law.equation
    rw [amount] at money ceiling equation
    have back : Accounted (holdReturned h s) := by
      refine ⟨rfl, ceiling, ?_, law.coinValues⟩
      show s.cru.books.credited = _ + (s.cru.session.balance + h.amount)
      exact equation.trans (Nat.add_assoc _ _ _)
    have payout : (holdReturned h s).cru.payout = none := payout_none (s := s) law (by simp [held])
    have same : risen (holdReturned h s).cru = risen s.cru := rfl
    split
    · exact ⟨back.enterPaying money, ((enterPaying_raises _).from same).step⟩
    · exact ⟨back.enterOpen money payout, ((enterOpen_raises _).from same).step⟩
  · have back : ExactLaw (holdReturned h s) := exactLaw_congr exact rfl rfl rfl rfl rfl rfl rfl
    split
    · exact enterPaying_exact back
    · exact enterOpen_exact back

/-- R58: the balance forfeited in the books and the totals, before the session enters IDLE. -/
def forfeited (s : State) : State :=
  (modBooks (fun k => { k with forfeited := k.forfeited + s.cru.session.balance }) s).modTotals fun t =>
    { t with forfeited := moneyUp t.forfeited s.cru.session.balance }

theorem forfeit_eq (s : State) : forfeit s = enterIdle (forfeited s) := rfl

/-- R58: entering IDLE takes the balance away, so the books account for the money with the balance forfeited. -/
theorem forfeit_law {s : State} (law : MoneyLaw s) (state : s.cru.session.state = .opened) : MoneyLaw (forfeit s) := by
  obtain ⟨hold, -, equation, values⟩ := accounted law (by simp [state])
  have payout := payout_none law (by simp [state])
  rw [forfeit_eq]
  have books : (enterIdle (forfeited s)).cru.books =
      { s.cru.books with forfeited := s.cru.books.forfeited + s.cru.session.balance } := by
    rw [enterIdle_cru_books]; rfl
  refine Accounted.idle ⟨?_, ?_, ?_, ?_⟩ ?_ ?_ ?_ ?_ ?_ ?_
  case refine_3 => rw [books, session_enterIdle]; exact equation.trans (Nat.add_assoc _ _ _)
  case refine_4 => rw [enterIdle_cnu]; exact values
  case refine_10 => rw [enterIdle_cru_payout]; exact payout
  case refine_1 => rw [session_enterIdle]; exact hold
  all_goals simp

theorem expireIdle_keeps {s : State} (state : s.cru.session.state = .opened) : Keeps s (expireIdle s) := by
  refine ⟨fun law => ?_, fun law exact => ?_, expireIdle_link s⟩ <;> unfold expireIdle <;> split
  · have same : risen (forfeited s).cru = risen s.cru := rfl
    exact ⟨forfeit_law law state, ((enterIdle_raises (forfeited s)).from same).step⟩
  · exact ⟨(accounted law (by simp [state])).enterPaying (law.openMoney (.inl state)), (enterPaying_raises s).step⟩
  · exact enterIdle_exact (s := forfeited s) (exactLaw_congr exact rfl rfl rfl rfl rfl rfl rfl)
  · exact enterPaying_exact exact

theorem pressLever_keeps (s : State) : Keeps s (pressLever s) := by
  refine ⟨fun law => ?_, fun law exact => ?_, pressLever_link s⟩ <;> unfold pressLever <;> split
  · next state =>
    exact ⟨(accounted law (by simp [state])).enterPaying (law.openMoney (.inl state)), (enterPaying_raises s).step⟩
  · next state =>
    obtain ⟨h1, h2, -, h4, h5, h6, h7, h8, h9, h10⟩ := law
    exact ⟨⟨h1, h2, fun idle => by simp [state] at idle, h4, h5, h6, h7, h8, h9, h10⟩, .of_eq rfl rfl rfl rfl rfl⟩
  · exact ⟨law, .refl _⟩
  · exact ⟨law, .refl _⟩
  · exact enterPaying_exact exact
  · exact exactLaw_congr exact rfl rfl rfl rfl rfl rfl rfl
  · exact exact
  · exact exact

/-! ### Crediting a coin (R36, R37) -/

@[simp] theorem session_openSession (v : Nat) (s : State) :
    (openSession v s).cru.session =
      { s.cru.session with
        number := s.cru.session.number + 1, state := .opened, balance := v, version := risen s.cru
        changeShort := false, escrowPending := false, idleTimer := freshIdle s } := by
  simp only [openSession, session_raiseVersion]; rfl

theorem books_openSession (v : Nat) (s : State) :
    (openSession v s).cru.books = { s.cru.books with credited := s.cru.books.credited + v } := by
  simp only [openSession, raiseVersion_cru_books]; rfl

theorem totals_openSession (v : Nat) (s : State) :
    (openSession v s).ssu.totals = { s.ssu.totals with credited := moneyUp s.ssu.totals.credited v } := by
  simp only [openSession, raiseVersion_ssu]; rfl

theorem openSession_raises (v : Nat) (s : State) : Raised s.cru (openSession v s).cru :=
  (raiseVersion_raises rfl).from rfl

theorem openSession_law {v : Nat} {s : State} (law : MoneyLaw s) (state : s.cru.session.state = .idle) (hv : 1 ≤ v ∧ v ≤ 2000) :
    MoneyLaw (openSession v s) := by
  obtain ⟨hold, -, equation, values⟩ := accounted law (by simp [state])
  obtain ⟨empty, -, -⟩ := law.idleEmpty state
  have payout := payout_none law (by simp [state])
  refine Accounted.opened ⟨?_, ?_, ?_, by simpa using values⟩ (by rw [session_openSession]) ?_ (by simpa using payout) <;>
    rw [session_openSession]
  · exact hold
  · show v ≤ 9999
    omega
  · rw [books_openSession]
    show s.cru.books.credited + v = s.cru.books.sold + s.cru.books.paidOut + s.cru.books.forfeited + v
    omega
  · show 0 < v
    omega

/-- R37: what of a coin's value enters the balance. -/
def entering (v : Nat) (s : State) : Nat := min v (space s)

/-- R37, R59: the coin counted, before what enters of it is in the balance. -/
def coinCounted (v : Nat) (s : State) : State :=
  (modBooks (fun b =>
    { b with credited := b.credited + entering v s, overpay := b.overpay + (v - entering v s) }) s).modTotals fun t =>
    { t with credited := moneyUp t.credited (entering v s), overpay := moneyUp t.overpay (v - entering v s) }

/-- R37: the coin counted and in the balance, before the version rises. -/
def coinEntered (v : Nat) (s : State) : State :=
  (coinCounted v s).modSession fun c =>
    { c with
      balance := c.balance + entering v s, idleTimer := if c.state = .opened then freshIdle (coinCounted v s) else c.idleTimer }

theorem addCoin_eq (v : Nat) (s : State) :
    addCoin v s = if entering v s = 0 then coinCounted v s else raiseVersion (coinEntered v s) := rfl

theorem coinCounted_law_none {v : Nat} {s : State} (law : MoneyLaw s) (none : entering v s = 0) : MoneyLaw (coinCounted v s) := by
  obtain ⟨h1, h2, h3, h4, h5, h6, h7, h8, h9, h10⟩ := law
  refine ⟨h1, ?_, h3, h4, h5, h6, h7, h8, h9, h10⟩
  show s.cru.books.credited + entering v s = _
  rw [none]
  exact h2

/-- R37: what enters is no more than the space under the ceiling. -/
theorem coinEntered_law {v : Nat} {s : State} (law : MoneyLaw s) (state : s.cru.session.state ≠ .idle) :
    MoneyLaw (coinEntered v s) := by
  obtain ⟨ceiling, equation, -, money, held, holds, pays, timer, within, values⟩ := law
  have entered : entering v s ≤ 9999 - s.cru.session.balance - s.cru.session.heldAmount := Nat.min_le_right _ _
  refine ⟨?_, ?_, fun idle => absurd idle state, fun h => ?_, fun h => ?_, holds, pays, fun h => ?_, fun p hp wait => ?_, values⟩
  · show s.cru.session.balance + entering v s + s.cru.session.heldAmount ≤ 9999
    omega
  · show s.cru.books.credited + entering v s = s.cru.books.sold + s.cru.books.paidOut + s.cru.books.forfeited +
      (s.cru.session.balance + entering v s) + s.cru.session.heldAmount
    omega
  · exact Nat.add_pos_left (money h) _
  · have := held h
    show 0 < s.cru.session.balance + entering v s + s.cru.session.heldAmount
    omega
  · by_cases opened : s.cru.session.state = .opened
    · exact opened
    · rw [show (coinEntered v s).cru.session.idleTimer = s.cru.session.idleTimer from if_neg opened] at h
      exact timer h
  · obtain ⟨i, t, tube, at_, le⟩ := within p hp wait
    exact ⟨i, t, tube, at_, le.trans (Nat.le_add_right _ _)⟩

theorem raiseVersion_law {s : State} (law : MoneyLaw s) : MoneyLaw (raiseVersion s) := by
  obtain ⟨h1, h2, h3, h4, h5, h6, h7, h8, h9, h10⟩ := law
  constructor <;> simp only [session_raiseVersion, raiseVersion_cru_books, raiseVersion_cru_payout, raiseVersion_cnu,
    Intake.tubeAt_congr (raiseVersion_cnu s ▸ rfl : (raiseVersion s).cnu.tubes = s.cnu.tubes)] <;> assumption

theorem creditCoin_session {v : Nat} {s : State} (hv : 1 ≤ v ∧ v ≤ 2000) : SessionKept s (creditCoin v s) := fun law => by
  unfold creditCoin
  split
  · exact ⟨openSession_law law ‹_› hv, (openSession_raises v s).step⟩
  · next state =>
    rw [addCoin_eq]
    split
    · exact ⟨coinCounted_law_none law ‹_›, .of_eq rfl rfl rfl rfl rfl⟩
    · have raised : Raised s.cru (raiseVersion (coinEntered v s)).cru := raiseVersion_raises rfl
      exact ⟨raiseVersion_law (coinEntered_law law state), raised.step⟩

/-- R36: an IDLE session has no change-short for the first coin to clear. -/
theorem creditCoin_changeShort {v : Nat} {s : State} (law : MoneyLaw s) :
    (creditCoin v s).cru.session.changeShort = s.cru.session.changeShort := by
  unfold creditCoin
  split
  · next state => rw [session_openSession, (law.idleEmpty state).2.1]
  · rw [addCoin_eq]
    split
    · rfl
    · rw [session_raiseVersion]; rfl

/-! ### The payout's own events (R63 to R65) -/

/-- R63: the paid coin counted and taken off the balance. -/
def coinPaid (i : Nat) (s : State) : State :=
  let d := ((tubeAt s i).map Tube.denomination).getD 0
  ((modBooks (fun b => { b with paidOut := b.paidOut + d }) (changeTube i Tube.giveCoin s)).modTotals fun t =>
    { t with paidOut := moneyUp t.paidOut d }).modSession fun c => { c with balance := c.balance - d }

theorem payCoin_eq (i a : Nat) (s : State) :
    payCoin i a s =
      if (raiseVersion (coinPaid i s)).cru.session.balance = 0 then payoutComplete (raiseVersion (coinPaid i s))
      else awaitClear (some i) a (raiseVersion (coinPaid i s)) := rfl

/-- R61: in PAYING with a tube pulsed, that tube is present and its denomination within the due. -/
def PulsedWithin (i : Nat) (s : State) : Prop :=
  s.cru.session.state = .paying ∧ ∃ t, tubeAt s i = some t ∧ t.denomination ≤ s.cru.session.balance

theorem pulsedWithin {s : State} (law : MoneyLaw s) {i : Nat} {p : Payout} (payout : s.cru.payout = some p)
    (phase : p.phase = .pulseWait) (tube : p.tube = some i) : PulsedWithin i s := by
  obtain ⟨j, t, tube', at_, le⟩ := law.pulsedWithinDue p payout phase
  obtain rfl : i = j := Option.some.inj (tube.symm.trans tube')
  exact ⟨law.payoutIffPaying.mp (by simp [payout]), t, at_, le⟩

theorem session_coinPaid (i : Nat) (s : State) :
    (coinPaid i s).cru.session =
      { s.cru.session with
        balance := s.cru.session.balance - ((tubeAt s i).map Tube.denomination).getD 0 } := by
  unfold coinPaid
  rw [modSession_cru]
  simp

theorem payCoin_session {i a : Nat} {s : State} (pulsed : MoneyLaw s → PulsedWithin i s) : SessionKept s (payCoin i a s) :=
  fun law => by
  obtain ⟨state, t, tube, le⟩ := pulsed law
  obtain ⟨hold, ceiling, equation, values⟩ := accounted law (by simp [state])
  have timer := idleTimer_none law (by simp [state])
  let paid := raiseVersion (coinPaid i s)
  have session : paid.cru.session =
      { s.cru.session with balance := s.cru.session.balance - t.denomination, version := risen (coinPaid i s).cru } := by
    simp only [paid, session_raiseVersion, session_coinPaid, tube, Option.map_some, Option.getD_some]
  have books : paid.cru.books = { s.cru.books with paidOut := s.cru.books.paidOut + t.denomination } := by
    simp only [paid, raiseVersion_cru_books]
    show Books.mk .. = _
    simp [tube]
  have once : Raised s.cru paid.cru :=
    (raiseVersion_raises rfl).from (risen_congr (show (changeTube i _ s).cru.versionRaised = _ by simp)
      (by rw [session_coinPaid]))
  have account : Accounted paid := by
    refine ⟨by rw [session]; exact hold, by rw [session]; dsimp only; omega, by rw [session, books]; dsimp only; omega, ?_⟩
    · rw [raiseVersion_cnu]
      show ∀ c ∈ (changeTube i _ s).cnu.coinTypes, _
      rw [changeTube_cnu_coinTypes]
      exact values
  rw [payCoin_eq]
  split
  · next none => exact ⟨account.payoutComplete none, (once.trans (payoutComplete_raises paid)).step⟩
  · next due =>
    refine ⟨account.awaitClear _ a (by rw [session]; exact state) (by rw [session]; exact timer) (Nat.pos_of_ne_zero due), ?_⟩
    exact (once.of_eq (e := (awaitClear (some i) a paid).cru) rfl rfl).step

theorem payCoin_exact {i a : Nat} {s : State} (law : MoneyLaw s) (exact : ExactLaw s) : ExactLaw (payCoin i a s) := by
  have changed := (changeTube_keeps (i := i) Intake.giveCoin_keeps s).exact law exact
  have paid : ExactLaw (raiseVersion (coinPaid i s)) :=
    exactLaw_congr (s := changeTube i Tube.giveCoin s) changed (by rw [raiseVersion_cru_exactChangeOnly]; rfl)
      (by rw [raiseVersion_cru_probeShort]; rfl) (by rw [session_raiseVersion]; rfl) (by rw [raiseVersion_params]; rfl)
      (by rw [raiseVersion_ssu]; rfl) (by rw [raiseVersion_cnu]; rfl) (by rw [raiseVersion_phase]; rfl)
  rw [payCoin_eq]
  split
  · exact payoutComplete_exact paid
  · exact exactLaw_congr paid rfl rfl rfl rfl rfl rfl rfl

/-- R66: a stray exit is counted and nothing else. -/
theorem strayExit_keeps (n : Nat) (s : State) : Keeps s (s.modCru fun c => { c with strayExits := n }) :=
  ⟨fun law => ⟨moneyLaw_congr law rfl rfl rfl rfl rfl, .of_eq rfl rfl rfl rfl rfl⟩,
    fun _ law => exactLaw_congr law rfl rfl rfl rfl rfl rfl rfl, modCru_link _ s⟩

theorem seeCoin_keeps (s : State) : Keeps s (seeCoin s) := by
  unfold seeCoin
  split
  · next payout =>
    exact ⟨payCoin_session fun law => pulsedWithin law payout rfl rfl, payCoin_exact, payCoin_link _ _ s⟩
  · exact strayExit_keeps _ s

theorem failAttempt_keeps {i a : Nat} {s : State} (pulsed : MoneyLaw s → PulsedWithin i s) : Keeps s (failAttempt i a s) := by
  refine ⟨fun law => ?_, fun law exact => ?_, failAttempt_link i a s⟩ <;> unfold failAttempt <;> split
  · obtain ⟨state, within⟩ := pulsed law
    have timer := idleTimer_none law (by simp [state])
    obtain ⟨-, t, -, le⟩ := pulsed law
    exact ⟨(accounted law (by simp [state])).pulse 2 state timer (law.openMoney (.inr state)) within, .of_eq rfl rfl rfl rfl rfl⟩
  · obtain ⟨state, -⟩ := pulsed law
    obtain ⟨dry, step⟩ := (changeTube_keeps (i := i) Intake.goDry_keeps s).session law
    have paying : (changeTube i Tube.goDry s).cru.session.state = .paying := by simpa using state
    exact ⟨(accounted dry (by rw [paying]; nofun)).coinStep paying (idleTimer_none dry (by rw [paying]; nofun)),
      step.trans (coinStep_step _)⟩
  · exact exactLaw_congr exact rfl rfl rfl rfl rfl rfl rfl
  · exact coinStep_exact ((changeTube_keeps (i := i) Intake.goDry_keeps s).exact law exact)

/-- R62: a coin step of a payout in progress. -/
theorem coinStep_keeps {s : State} (pays : MoneyLaw s → s.cru.session.state = .paying) : Keeps s (coinStep s) where
  session law :=
    have state := pays law
    ⟨(accounted law (by simp [state])).coinStep state (idleTimer_none law (by simp [state])), coinStep_step s⟩
  exact _ := coinStep_exact
  link := coinStep_link s

/-- R65, R68: a payout in progress ends short. -/
theorem payoutShort_keeps {s : State} (pays : MoneyLaw s → s.cru.session.state = .paying) : Keeps s (payoutShort s) where
  session law :=
    have state := pays law
    ⟨(accounted law (by simp [state])).payoutShort (law.openMoney (.inr state)), (payoutShort_raises s).step⟩
  exact _ := payoutShort_exact
  link := payoutShort_link s

/-- R39: the refresh timer and the announcement owed are none of the laws'. -/
theorem expireRefresh_keeps (s : State) : Keeps s (expireRefresh s) :=
  ⟨fun law => ⟨moneyLaw_congr law (by simp) (by simp) (by simp) (by simp) (by simp),
      .of_eq (by simp) (by simp) (by simp) (by simp) (by simp)⟩,
    fun _ law => exactLaw_congr law (by simp) (by simp) (by simp) (by simp) (by simp) (by simp) (by simp),
    expireRefresh_link s⟩

end Sys2Proof.Machine.Keeping
end

section
/-! PROOFS. What every step keeps: the operations of the Vend Sequencer, which debit and settle at home, and what an event takes
before it ends (Chapters 5 to 7). -/

namespace Sys2Proof.Machine.Keeping

set_option Elab.async false

open Laws

/-! ### Small acts -/

theorem modVsq_keeps (f : Vsq → Vsq) (s : State) (queue : (f s.vsq).queue = s.vsq.queue := by rfl) : Keeps s (s.modVsq f) :=
  .of_eq (.of_eq rfl queue)

theorem setVsq_keeps (v : VsqState) (s : State) : Keeps s (setVsq v s) := modVsq_keeps _ s

theorem modVend_keeps (f : Vend → Vend) (s : State) : Keeps s (modVend f s) := modVsq_keeps _ s

theorem modTest_keeps (f : Test → Test) (s : State) : Keeps s (modTest f s) := modVsq_keeps _ s

theorem modSlot_keeps (n : Nat) (f : Slot → Slot) (s : State) : Keeps s (modSlot n f s) := modVsq_keeps _ s

theorem takeTag_keeps (s : State) : Keeps s (takeTag s) := modVsq_keeps _ s

theorem modTotals_keeps (f : AuditTotals → AuditTotals) (s : State) : Keeps s (s.modTotals f) := .of_eq

theorem writeStaging_keeps (p : Option Pair) (s : State) : Keeps s (writeStaging p s) := .of_eq

theorem signal_keeps (g : Signal) (s : State) : Keeps s (signal g s) := .of_link (signal_link g s)

theorem send_keeps (f : Frame) (s : State) : Keeps s (send f s) := .of_link (send_link f s)

theorem request_keeps (f : Frame) (s : State) : Keeps s (request f s).1 := .of_link (request_link f s)

theorem queueStatus_keeps (s : State) : Keeps s (queueStatus s) := .of_link (queueStatus_link s)

theorem answerPanel_keeps (r : Selection) (o : VendOutcome) (p : Nat) (s : State) : Keeps s (answerPanel r o p s) :=
  send_keeps _ s

theorem releaseLoad_keeps (k : LoadKind) (s : State) : Keeps s (releaseLoad k s) := .of_link (releaseLoad_link k s)

theorem askLoad_keeps (k : LoadKind) (c : ClaimClass) (a : Nat) (s : State) : Keeps s (askLoad k c a s) :=
  .of_link (askLoad_link k c a s)

theorem foldl_answerPanel_keeps (o : VendOutcome) (l : List Selection) (s : State) :
    Keeps s (l.foldl (fun t sel => answerPanel sel o 0 t) s) := by
  induction l generalizing s with
  | nil => exact .refl s
  | cons r l ih => exact (answerPanel_keeps r o 0 s).trans (ih _)

/-- R84: the selections leave; none joins. -/
theorem modVsq_queue_keeps {l : List Selection} {s : State} (h : s.vsq.queue = [] → l = []) :
    Keeps s (s.modVsq fun q => { q with queue := l }) :=
  .of_link (.of_quiet rfl rfl rfl fun _ => ⟨.refl _, id, h⟩)

theorem emptyQueue_keeps (o : VendOutcome) (s : State) : Keeps s (emptyQueue o s) :=
  (foldl_answerPanel_keeps o s.vsq.queue s).trans (modVsq_queue_keeps fun _ => rfl)

theorem slotOutcome_keeps (n : Nat) (o : VendOutcome) (s : State) : Keeps s (slotOutcome n o s) := by
  unfold slotOutcome
  split
  · exact (modSlot_keeps n _ s).trans (modTotals_keeps _ _)
  · exact modSlot_keeps n _ s
  · exact .refl s

/-! ### Settlement and the end of a vend (R91, R92, R108, R109) -/

theorem countUnpaid_keeps (r : SettleResult) (a : Option SettleOutcome) (s : State) : Keeps s (countUnpaid r a s) :=
  .ite (modTotals_keeps _ s) (.refl s)

theorem settlementOver_keeps (s : State) : Keeps s (settlementOver s) := modVend_keeps _ s

theorem sendSettle_keeps (v : Vend) (tag n : Byte) (r : SettleResult) (k : Nat) (s : State) :
    Keeps s (sendSettle v tag n r k s) := (send_keeps _ s).trans (modVend_keeps _ _)

theorem settleAtHome_keeps (g : Grant) (r : SettleResult) (s : State) : Keeps s (settleAtHome g r s) :=
  (takeSettle_keeps s.ssu.own g.tag g.number r s).trans ((countUnpaid_keeps r _ _).trans (settlementOver_keeps _))

theorem settleVend_keeps (v : Vend) (o : VendOutcome) (s : State) : Keeps s (settleVend v o s) := by
  unfold settleVend
  split
  · exact .ite (settleAtHome_keeps _ _ s) (sendSettle_keeps v _ _ _ _ s)
  · split
    · exact sendSettle_keeps v _ _ _ _ s
    · exact settlementOver_keeps s

theorem giveUpMotor_keeps (s : State) : Keeps s (giveUpMotor s) :=
  .ite (.ite (releaseLoad_keeps .motor s) (.refl s)) (.of_link (withdrawLoad_link .motor s))

theorem tryLeave_keeps (s : State) : Keeps s (tryLeave s) := by
  rcases tryLeave_cases s with e | ⟨v, -, -, -, -, e⟩ <;> rw [e]
  · exact .refl s
  · exact (answerPanel_keeps _ _ _ s).trans ((modVsq_keeps _ _).trans (signal_keeps _ _))

theorem decideOutcome_keeps (o : VendOutcome) (c : EndCause) (s : State) : Keeps s (decideOutcome o c s) := by
  unfold decideOutcome
  split
  · exact .refl s
  · next v _ =>
    exact (slotOutcome_keeps v.selection.slot o s).trans ((modVend_keeps _ _).trans ((writeStaging_keeps none _).trans
      ((setVsq_keeps .settling _).trans ((giveUpMotor_keeps _).trans ((settleVend_keeps v o _).trans (tryLeave_keeps _))))))

/-! ### Claiming, turning, and the motor test (R99, R101, R115, R116) -/

theorem enterClaiming_keeps (s : State) : Keeps s (enterClaiming s) :=
  (setVsq_keeps .claiming s).trans ((modVend_keeps _ _).trans (askLoad_keeps .motor .vend _ _))

theorem startMotor_keeps (n : Nat) (t : Slot) (s : State) : Keeps s (startMotor n t s) :=
  (modVend_keeps _ s).trans ((writeStaging_keeps _ _).trans ((modSlot_keeps n _ _).trans (setVsq_keeps .running _)))

theorem extraTurn_keeps (n : Nat) (s : State) : Keeps s (extraTurn n s) :=
  (modVend_keeps _ s).trans ((writeStaging_keeps _ _).trans (setVsq_keeps .running _))

theorem stopMotor_keeps (s : State) : Keeps s (stopMotor s) := (modVend_keeps _ s).trans (writeStaging_keeps none _)

theorem enterDropWait_keeps (s : State) : Keeps s (enterDropWait s) := (setVsq_keeps .dropWait s).trans (modVend_keeps _ _)

theorem leaveHome_keeps (n : Nat) (s : State) : Keeps s (leaveHome n s) := modSlot_keeps n _ s

theorem finishTest_keeps (s : State) : Keeps s (finishTest s) := by
  unfold finishTest
  split
  · split
    · exact .ite ((send_keeps _ s).trans ((modVsq_keeps _ _).trans (signal_keeps _ _))) (.refl s)
    · exact .refl s
  · exact .refl s

theorem endTest_keeps (r : TestResult) (s : State) : Keeps s (endTest r s) :=
  (modTest_keeps _ s).trans ((writeStaging_keeps none _).trans ((giveUpMotor_keeps _).trans (finishTest_keeps _)))

theorem startTestMotor_keeps (n : Nat) (b : Bool) (s : State) : Keeps s (startTestMotor n b s) :=
  (modTest_keeps _ s).trans ((writeStaging_keeps _ _).trans (modSlot_keeps n _ _))

theorem beginTest_keeps (n : Nat) (t : Slot) (tag : Byte) (st : Station) (s : State) : Keeps s (beginTest n t tag st s) := by
  unfold beginTest
  extract_lets r taken
  have take : Keeps s taken := modVsq_keeps _ s
  exact take.trans
    (.ite (endTest_keeps _ _)
      (.ite (endTest_keeps _ _) ((modTest_keeps _ _).trans (askLoad_keeps .motor .vend _ _))))

/-! ### Payment and the head record (R86 to R89, R97) -/

theorem endUnpaid_keeps (o : VendOutcome) (s : State) : Keeps s (endUnpaid o s) :=
  (modVend_keeps _ s).trans (decideOutcome_keeps o .debit _)

theorem askDebit_keeps (v : Vend) (n : Byte) (x : Option Half) (retry : Bool) (s : State) :
    Keeps s (askDebit v n x retry s) := by
  unfold askDebit
  extract_lets tag r
  have asked : Keeps s r.1 := (takeTag_keeps s).trans (request_keeps _ _)
  exact asked.trans (.ite (modVend_keeps _ _) (endUnpaid_keeps .paymentUnreachable _))

theorem debitGranted_keeps (tag n : Byte) (s : State) : Keeps s (debitGranted tag n s) :=
  (modVend_keeps _ s).trans (enterClaiming_keeps _)

theorem actOnDebit_keeps (v : Vend) (a : Asked) (o : DebitOutcome) (b : Option Nat) (x : Option Half) (s : State) :
    Keeps s (actOnDebit v a o b x s) :=
  .ite (debitGranted_keeps _ _ s) (.ite (askDebit_keeps v _ x true s) (endUnpaid_keeps _ s))

theorem debitAtHome_keeps (v : Vend) (s : State) : Keeps s (debitAtHome v s) := by
  unfold debitAtHome
  extract_lets tag c r
  have debited : Keeps s r.1 := (takeTag_keeps s).trans (takeDebit_keeps _ _ _ _ _ _)
  exact debited.trans (.ite (debitGranted_keeps _ _ _) (endUnpaid_keeps _ _))

theorem enterDebiting_keeps (v : Vend) (s : State) : Keeps s (enterDebiting v s) :=
  have entered (f : Vend → Vend) : Keeps s (modVend f (setVsq .debiting s)) :=
    (setVsq_keeps .debiting s).trans (modVend_keeps f _)
  .ite ((entered _).trans (debitAtHome_keeps v _)) ((entered _).trans (askDebit_keeps v _ _ false _))

theorem startVend_keeps (r : Selection) (p : Nat) (s : State) : Keeps s (startVend r p s) :=
  have started : Keeps s (s.modVsq fun q => { q with vend := some (newVend r p) }) := modVsq_keeps _ s
  started.trans (.ite (enterClaiming_keeps _) (enterDebiting_keeps _ _))

theorem takeHead_keeps (s : State) : Keeps s (takeHead s) := by
  unfold takeHead
  refine .ite ?_ (.refl s)
  split
  · exact .refl s
  · next r rest queue =>
    have taken : Keeps s (s.modVsq fun q => { q with queue := rest }) :=
      modVsq_queue_keeps fun none => by simp [none] at queue
    split
    · exact taken.trans ((answerPanel_keeps _ _ _ _).trans (signal_keeps _ _))
    · exact taken.trans (startVend_keeps _ _ _)

/-! ### Grants and the agenda -/

theorem motorGranted_keeps (s : State) : Keeps s (motorGranted s) := by
  unfold motorGranted
  refine .ite ?_ (.refl s)
  split
  · split
    · exact .ite (decideOutcome_keeps _ _ s) (startMotor_keeps _ _ s)
    · exact .refl s
  · split
    · exact .ite (startTestMotor_keeps _ _ s) (.refl s)
    · exact .refl s
  · exact .refl s

theorem takeSignal_keeps (g : Signal) (s : State) : Keeps s (takeSignal g s) := by
  unfold takeSignal
  split
  · exact motorGranted_keeps s
  · exact .of_eq
  · exact .of_eq
  · exact takeHead_keeps s

theorem runAgendaFor_keeps (n : Nat) (s : State) : Keeps s (runAgendaFor n s) := by
  induction n generalizing s with
  | zero => exact .refl s
  | succ n ih =>
    unfold runAgendaFor
    split
    · exact .refl s
    · exact (.of_eq : Keeps s (s.modLbu _)).trans ((takeSignal_keeps _ _).trans (ih _))

theorem runAgenda_keeps (s : State) : Keeps s (runAgenda s) := runAgendaFor_keeps 32 s

theorem Keeps.agenda {s t : State} (h : Keeps s t) : Keeps s (runAgenda t) := h.trans (runAgenda_keeps t)

/-! ### What reaches the vend or the test in progress -/

theorem takeCamPulse_keeps (s : State) : Keeps s (takeCamPulse s) := by
  unfold takeCamPulse
  split
  · refine .ite ((modVend_keeps _ s).trans (.ite (.ite ?_ ?_) (.refl _))) (.refl s)
    · exact (stopMotor_keeps _).trans (decideOutcome_keeps _ _ _)
    · exact (stopMotor_keeps _).trans (enterDropWait_keeps _)
  · exact .ite ((modTest_keeps _ s).trans (.ite (endTest_keeps _ _) (.refl _))) (.refl s)
  · exact .refl s

theorem takeJam_keeps (s : State) : Keeps s (takeJam s) := by
  unfold takeJam
  split
  · exact .ite ((modVend_keeps _ s).trans ((stopMotor_keeps _).trans ((modSlot_keeps _ _ _).trans ((modTotals_keeps _ _).trans
      (.ite (decideOutcome_keeps _ _ _) (enterDropWait_keeps _)))))) (.refl s)
  · exact .ite ((leaveHome_keeps _ s).trans (endTest_keeps _ _)) (.refl s)
  · exact .refl s

theorem takeMotorOpen_keeps (s : State) : Keeps s (takeMotorOpen s) := by
  unfold takeMotorOpen
  split
  · exact .ite ((stopMotor_keeps s).trans ((modSlot_keeps _ _ _).trans (decideOutcome_keeps _ _ _))) (.refl s)
  · exact .ite ((leaveHome_keeps _ s).trans (endTest_keeps _ _)) (.refl s)
  · exact .refl s

theorem takeDrop_keeps (s : State) : Keeps s (takeDrop s) := by
  unfold takeDrop
  dsimp only
  split
  · exact .ite ((modVend_keeps _ s).trans (.ite (decideOutcome_keeps _ _ _) (.refl _))) (modTotals_keeps _ s)
  · exact modTotals_keeps _ s

theorem endWindow_keeps (v : Vend) (s : State) : Keeps s (endWindow v s) :=
  (modVend_keeps _ s).trans
    (.ite (extraTurn_keeps _ _)
      (.ite (decideOutcome_keeps _ _ _) (.ite (decideOutcome_keeps _ _ _) (decideOutcome_keeps _ _ _))))

theorem doorAtVend_keeps (s : State) : Keeps s (doorAtVend s) := by
  unfold doorAtVend
  split
  · exact .refl s
  · split
    · exact decideOutcome_keeps _ _ s
    · exact decideOutcome_keeps _ _ s
    · exact (stopMotor_keeps s).trans ((leaveHome_keeps _ _).trans ((modVend_keeps _ _).trans
        (.ite (decideOutcome_keeps _ _ _) (enterDropWait_keeps _))))
    · exact modVend_keeps _ s
    all_goals exact .refl s

theorem allOffReported_keeps (s : State) : Keeps s (allOffReported s) := by
  have released : Keeps s (if motorHeld s then releaseLoad .motor s else s) := .ite (releaseLoad_keeps .motor s) (.refl s)
  unfold allOffReported
  split
  · exact released.trans (tryLeave_keeps _)
  · exact .ite (released.trans (finishTest_keeps _)) (.refl s)
  · exact .refl s

theorem faultAtVend_keeps (s : State) : Keeps s (faultAtVend s) := by
  refine (emptyQueue_keeps .outOfService s).trans ?_
  unfold faultAtVend
  dsimp only
  split
  · exact decideOutcome_keeps _ _ _
  · exact decideOutcome_keeps _ _ _
  · exact (stopMotor_keeps _).trans ((leaveHome_keeps _ _).trans (decideOutcome_keeps _ _ _))
  · exact decideOutcome_keeps _ _ _
  · split
    · exact .ite (allOffReported_keeps _) (endTest_keeps _ _)
    · exact .refl _
  · exact allOffReported_keeps _
  · exact .refl _

theorem lossOfCold_keeps (s : State) : Keeps s (lossOfCold s) := by
  unfold lossOfCold
  split
  · exact .ite (decideOutcome_keeps _ _ s) (.refl s)
  · exact .ite (endTest_keeps _ s) (.refl s)
  · exact .refl s

theorem saleEvent_keeps (s : State) : Keeps s (saleEvent s) :=
  (.of_eq : Keeps s (evaluateSale s)).trans (.ite (lossOfCold_keeps _) (.refl _))

/-! ### The address conflict and the hearing of a frame (R164, R171) -/

/-- R171: the queue of a link become LISTEN-ONLY is empty, its timers stopped, and no selection stands. -/
theorem enterListenOnly_link (s : State) : LinkKept s (enterListenOnly s) where
  core _ := ⟨iff_of_false nofun (by simp [enterListenOnly, dropQueue]), fun _ => ⟨nofun, Nat.zero_le _, rfl, rfl⟩⟩
  failures := nofun

/-- R171: the one STATUS of the conflict. -/
theorem queueLastStatus_link {s : State} (h : s.lnk.state = .listenOnly) : LinkKept s (queueLastStatus s) where
  core law := by
    obtain ⟨-, -, period, none⟩ := law.listenOnly h
    exact ⟨law.silent, fun _ => ⟨by simp [queueLastStatus, TxEntry.fresh], Nat.le_refl 1, period, none⟩⟩
  failures active := by cases h.symm.trans active

theorem takeConflict_keeps (s : State) : Keeps s (takeConflict s) := by
  refine .ite (.refl s) ?_
  have listens : Keeps s (enterListenOnly s) := .of_link (enterListenOnly_link s)
  have decided : Keeps s (if isolated s then enterListenOnly s else becomeIsolated (enterListenOnly s)) :=
    .ite listens (listens.trans (.of_link (becomeIsolated_link _)))
  have state : (if isolated s then enterListenOnly s else becomeIsolated (enterListenOnly s)).lnk.state = .listenOnly := by
    split
    · rfl
    · rw [becomeIsolated_lnk_state]; rfl
  exact (decided.trans (.of_link (queueLastStatus_link state))).agenda

theorem acknowledge_keeps (b : Bool) (s : State) : Keeps s (acknowledge b s) :=
  .of_link (.of_quiet rfl rfl rfl fun _ => ⟨.refl _, id, id⟩)

theorem noteSource_keeps (src : Station) (s : State) : Keeps s (noteSource src s) := by
  refine .of_link (.of_quiet (by simp) (by simp) (by simp) fun _ => ?_)
  simp

theorem afterHearing_keeps (listed : Bool) (before s : State) : Keeps s (afterHearing listed before s) :=
  .of_link (.ite (.ite (tableChanged_link s) (afterTable_link before s)) (noteIsolation_link _ s))

section Frames
variable {f : State → State} (hf : ∀ u, Keeps u (f u))
include hf

theorem running_keeps (s : State) : Keeps s (running f s) := .ite (hf s) (.refl s)

theorem receiving_keeps (s : State) : Keeps s (receiving f s) := .ite (.refl s) (hf s)

theorem directed_keeps (dst : Station) (s : State) : Keeps s (directed dst f s) := .ite (hf s) (.refl s)

theorem onTimer_keeps (timer : Option Nat) (limit : Nat) (s : State) : Keeps s (onTimer timer limit f s) := by
  unfold onTimer
  split
  · exact ((reach_keeps _ _ s).trans (hf _)).agenda
  · exact .refl s

theorem hearWith_keeps (src : Station) {act : State → State} (ha : ∀ u, Keeps u (act u)) (listed : Bool) (s : State) :
    Keeps s (hearWith src act listed f s) := by
  rcases hearWith_cases src act listed f s with ⟨-, e⟩ | ⟨-, -, e⟩ | ⟨-, -, e⟩ <;> rw [e]
  · exact .refl s
  · exact (acknowledge_keeps false s).trans (takeConflict_keeps _)
  · have noted := (acknowledge_keeps (s.lnk.state == .active) s).trans (noteSource_keeps src _)
    have tested : Keeps s (hearAtLbu src act listed (acknowledge (s.lnk.state == .active) s)) :=
      ((noted.trans (ha _)).trans (afterHearing_keeps listed _ _)).agenda
    exact (tested.trans (hf _)).agenda

theorem hear_keeps (src : Station) (s : State) : Keeps s (hear src f s) := hearWith_keeps hf src .refl false s

theorem serve_keeps (h : ServiceHead) (s : State) : Keeps s (serve h f s) := by
  refine hear_keeps (fun u => ?_) _ s
  split
  · exact directed_keeps hf _ u
  · exact .of_link (.of_quiet rfl rfl rfl fun _ => ⟨.refl _, id, id⟩)

end Frames

end Sys2Proof.Machine.Keeping
end

section
/-! PROOFS. What every step keeps: the commands other than the power-up, the reconciliation and the restart. -/

namespace Sys2Proof.Machine.Keeping

set_option Elab.async false

open Laws Credits

/-! ### Inputs and time -/

theorem modInputs_keeps (f : Inputs → Inputs) (s : State) : Keeps s (s.modInputs f) := .of_eq

/-- An event of a filtered input: the level stands, then its act (R175). -/
theorem inputEvent_keeps {f : State → State} (g : Inputs → Inputs) (hf : ∀ u, Keeps u (f u)) (u : State) :
    Keeps u (running f (u.modInputs g)) := (modInputs_keeps g u).trans (running_keeps hf _)

theorem reach_session_state (limit now : Nat) (s : State) : (reach limit now s).cru.session.state = s.cru.session.state := by
  rcases elapse_cases (limit - now) s with e | e <;> rw [reach, e]; rfl

theorem reach_holdAmount (limit now : Nat) (s : State) :
    (reach limit now s).cru.session.hold.map Hold.amount = s.cru.session.hold.map Hold.amount := by
  rcases elapse_cases (limit - now) s with e | e <;> rw [reach, e]
  show (s.cru.session.hold.map _).map _ = _
  rw [Option.map_map]; rfl

/-- R64: in the time that passes a payout stays in its phase, with its tube. -/
theorem reach_payout {p : Payout} (limit now : Nat) {s : State} (h : s.cru.payout = some p) :
    ∃ q, (reach limit now s).cru.payout = some q ∧ q.phase = p.phase ∧ q.tube = p.tube := by
  rcases elapse_cases (limit - now) s with e | e <;> rw [reach, e]
  · exact ⟨p, h, rfl, rfl⟩
  · exact ⟨_, (congrArg (Option.map _) h : s.cru.payout.map _ = _), rfl, rfl⟩

/-! ### Coins, tubes, cashbox and audit saves -/

theorem coinTypeAt_mem {s : State} {code : Nat} {c : CoinType} (h : coinTypeAt s code = some c) : c ∈ s.cnu.coinTypes := by
  cases code with
  | zero => cases h
  | succ j => exact List.mem_of_getElem? h

theorem setRoute_keeps (r : Route) (s : State) : Keeps s (setRoute r s) := .of_eq (.of_eq rfl rfl) ⟨rfl, rfl, rfl, rfl, rfl, rfl⟩

theorem routeToTube_session (i value : Nat) (s : State) : SessionKept s (routeToTube i value s) :=
  (modTotals_keeps _ s).session.trans ((modTube_session Intake.takeCoin_keeps _).trans (setRoute_keeps _ _).session)

theorem unstored_keeps (s : State) : Keeps s (unstored s) := modTotals_keeps _ s

theorem creditCoin_exact {v : Nat} {s : State} (law : MoneyLaw s) (exact : ExactLaw s) : ExactLaw (creditCoin v s) :=
  exactLaw_congr exact (by simp) (by simp) (creditCoin_changeShort law) (by simp) (by simp) (by simp) (by simp)

theorem takeCoin_keeps (code : Nat) (c : CoinType) (s : State) (values : MoneyLaw s → 1 ≤ c.value ∧ c.value ≤ 2000) :
    Keeps s (takeCoin code c s) := by
  unfold takeCoin
  split
  · next i _ =>
    refine ⟨fun law => ?_, fun law exact => ?_, ?_⟩
    · exact ((routeToTube_session i c.value s).trans
        ((creditCoin_session (values law)).trans (probeAfter_session _ _))) law
    · have routed := (routeToTube_session i c.value s law).1
      refine exactLaw_probeAfter exact ?_ ?_ ((creditCoin_changeShort routed).trans ?_) ?_ ?_ ?_ <;>
        simp [routeToTube, setRoute]
    · have route : LinkKept s (routeToTube i c.value s) := .of_eq (by simp [routeToTube, setRoute]) (by simp [routeToTube, setRoute])
      exact route.trans ((creditCoin_link _ _).trans (probeAfter_link _ _))
  · have routed : Keeps s (routeToCashbox c.value s) := (modTotals_keeps _ s).trans (setRoute_keeps _ _)
    refine .ite ⟨fun law => ?_, fun law exact => ?_, routed.link.trans (creditCoin_link _ _)⟩ (unstored_keeps s)
    · exact (routed.session.trans (creditCoin_session (values law))) law
    · exact creditCoin_exact (routed.session law).1 (routed.exact law exact)

theorem coinReport_keeps (code : Nat) (s : State) : Keeps s (coinReport code s) := by
  unfold coinReport
  refine .ite (.refl s) (.ite (.of_eq (.of_eq rfl rfl) ⟨rfl, rfl, rfl, rfl, rfl, rfl⟩) (.ite (unstored_keeps s) ?_))
  split
  · next c type => exact takeCoin_keeps code c s fun law => law.coinValues c (coinTypeAt_mem type)
  · exact unstored_keeps s

theorem endRouting_keeps (s : State) : Keeps s (endRouting s) := by
  unfold endRouting
  split
  · exact (reach_keeps _ _ s).trans (.of_eq (.of_eq rfl rfl) ⟨rfl, rfl, rfl, rfl, rfl, rfl⟩)
  · exact .refl s

theorem takeCashbox_keeps (closed : Bool) (s : State) : Keeps s (takeCashbox closed s) :=
  .of_eq (.of_eq rfl rfl) ⟨rfl, rfl, rfl, rfl, rfl, rfl⟩

theorem reconcileTube_keeps (i : Nat) (s : State) : Keeps s (reconcileTube i s) := changeTube_keeps (Intake.reconcile_keeps _ _) s

theorem askSave_keeps (s : State) : Keeps s (askSave s) := .of_eq

theorem endSave_keeps (ending : SaveEnd) (s : State) : Keeps s (endSave ending s) := .of_eq

theorem takeDoorOpening_keeps (s : State) : Keeps s (takeDoorOpening s) :=
  ((emptyQueue_keeps .doorOpen s).trans ((doorAtVend_keeps _).trans (queueStatus_keeps _))).agenda

theorem takeDoorClosing_keeps (s : State) : Keeps s (takeDoorClosing s) := (askSave_keeps s).trans (queueStatus_keeps _)

/-! ### The credit session and its payout -/

theorem answerDebit_keeps (src : Station) (n : Byte) (a : Nat) (tag : Byte) (x : Option Half) (s : State) :
    Keeps s (answerDebit src n a tag x s) := .ite (.refl s) ((takeDebit_keeps src n a tag x s).trans (send_keeps _ _))

theorem answerSettle_keeps (src : Station) (tag n : Byte) (r : SettleResult) (s : State) :
    Keeps s (answerSettle src tag n r s) := (takeSettle_keeps src tag n r s).trans (send_keeps _ _)

theorem endOldHold_keeps (s : State) : Keeps s (endOldHold s) := by
  unfold endOldHold
  split
  · next h hold => exact (reach_keeps _ _ s).trans (expireHold_keeps (by rw [reach_holdAmount, hold]; rfl))
  · exact .refl s

theorem endRefresh_keeps (s : State) : Keeps s (endRefresh s) := by
  unfold endRefresh
  split
  · exact (reach_keeps _ _ s).trans (expireRefresh_keeps _)
  · exact .refl s

theorem endIdleTime_keeps (s : State) : Keeps s (endIdleTime s) := by
  unfold endIdleTime
  split
  · split
    · next opened => exact (reach_keeps _ _ s).trans (expireIdle_keeps ((reach_session_state _ _ s).trans opened))
    · exact .refl s
  · exact .refl s

/-- R61: the payout's pulse is none of the laws'. -/
theorem restSolenoid_keeps (s : State) : Keeps s (s.modCru fun c => { c with solenoid := none }) :=
  ⟨fun law => ⟨moneyLaw_congr law rfl rfl rfl rfl rfl, .of_eq rfl rfl rfl rfl rfl⟩,
    fun _ law => exactLaw_congr law rfl rfl rfl rfl rfl rfl rfl, modCru_link _ s⟩

theorem endPulse_keeps (s : State) : Keeps s (endPulse s) := by
  unfold endPulse
  split
  · exact (reach_keeps _ _ s).trans (restSolenoid_keeps _)
  · exact .refl s

theorem endPayoutWindow_keeps (s : State) : Keeps s (endPayoutWindow s) := by
  unfold endPayoutWindow
  split
  · next w _ payout =>
    obtain ⟨q, payout', phase, tube⟩ := reach_payout Config.payoutWindow w payout
    exact (reach_keeps _ _ s).trans (failAttempt_keeps fun law => pulsedWithin law payout' phase tube)
  · exact .refl s

theorem exitCleared_keeps (s : State) : Keeps s (exitCleared s) := by
  unfold exitCleared
  split
  · next payout => exact coinStep_keeps fun law => law.payoutIffPaying.mp (by simp [payout])
  · exact .refl s

theorem endClearTime_keeps (s : State) : Keeps s (endClearTime s) := by
  unfold endClearTime
  split
  · next t payout =>
    obtain ⟨q, payout', -, -⟩ := reach_payout Config.clearTime t payout
    exact (reach_keeps _ _ s).trans (payoutShort_keeps fun law => law.payoutIffPaying.mp (by simp [payout']))
  · exact .refl s

/-! ### The credit cache, selections and the vend -/

theorem modCca_keeps (f : Cca → Cca) (s : State) : Keeps s (s.modCca f) := .of_eq

theorem ageOutEntry_keeps (st : Station) (s : State) : Keeps s (ageOutEntry st s) := by
  unfold ageOutEntry
  split
  · exact (reach_keeps _ _ s).trans (modCca_keeps _ _)
  · exact .refl s

/-- R80, R84: in LISTEN-ONLY no selection joins, as none is taken. -/
theorem joinQueue_keeps (r : Selection) {s : State} (active : listenOnly s = false) : Keeps s (joinQueue r s) := by
  have joined : Keeps s (s.modVsq fun q => { q with queue := q.queue ++ [r] }) :=
    .of_link (.of_quiet rfl rfl rfl fun h => by simp [(Intake.listenOnly_iff s).mpr h] at active)
  exact joined.trans ((send_keeps _ _).trans (.ite (signal_keeps _ _) (.refl _)))

theorem takeSelect_keeps (panel : Station) (tag : Byte) (slot credit : Nat) (s : State) :
    Keeps s (takeSelect panel tag slot credit s) := by
  unfold takeSelect
  split
  · exact .refl s
  · next active =>
    dsimp only
    split
    · exact answerPanel_keeps _ _ _ s
    · exact joinQueue_keeps _ (by simpa using active)

theorem repeatDebit_keeps (v : Vend) (a : Asked) (s : State) : Keeps s (repeatDebit v a s) :=
  .ite (.ite ((request_keeps _ s).trans (modVend_keeps _ _)) (endUnpaid_keeps _ s)) (endUnpaid_keeps _ s)

theorem endAnswerTime_keeps (s : State) : Keeps s (endAnswerTime s) := by
  unfold endAnswerTime
  split
  · split
    · exact ((reach_keeps _ _ s).trans (repeatDebit_keeps _ _ _)).agenda
    · exact .refl s
  · exact .refl s

theorem takeDebitAnswer_keeps (src : Station) (tag : Byte) (o : DebitOutcome) (b v : Option Half) (s : State) :
    Keeps s (takeDebitAnswer src tag o b v s) := by
  unfold takeDebitAnswer
  split
  · split
    · exact .ite (actOnDebit_keeps _ _ _ _ _ s) (.refl s)
    · exact .refl s
  · exact .refl s

/-- R92: the settlement ends, and the vend is left if it may be. -/
theorem settlementEnds_keeps (r : SettleResult) (a : Option SettleOutcome) (s : State) :
    Keeps s (tryLeave (settlementOver (countUnpaid r a s))) :=
  (countUnpaid_keeps r a s).trans ((settlementOver_keeps _).trans (tryLeave_keeps _))

theorem repeatSettle_keeps (v : Vend) (a : Settling) (s : State) : Keeps s (repeatSettle v a s) :=
  .ite (sendSettle_keeps v _ _ _ _ s) (settlementEnds_keeps _ _ s)

theorem endSettleTime_keeps (s : State) : Keeps s (endSettleTime s) := by
  unfold endSettleTime
  split
  · split
    · exact ((reach_keeps _ _ s).trans (repeatSettle_keeps _ _ _)).agenda
    · exact .refl s
  · exact .refl s

theorem takeSettleAnswer_keeps (src : Station) (tag : Byte) (o : SettleOutcome) (s : State) :
    Keeps s (takeSettleAnswer src tag o s) := by
  unfold takeSettleAnswer
  split
  · split
    · exact .ite (settlementEnds_keeps _ _ s) (.refl s)
    · exact .refl s
  · exact .refl s

theorem endBudgetTime_keeps (s : State) : Keeps s (endBudgetTime s) := by
  unfold endBudgetTime
  split
  · split
    · exact ((reach_keeps _ _ s).trans (decideOutcome_keeps _ _ _)).agenda
    · exact .refl s
  · split
    · exact ((reach_keeps _ _ s).trans (endTest_keeps _ _)).agenda
    · exact .refl s
  · exact .refl s

theorem takeCam_keeps (s : State) : Keeps s (takeCam s) := by
  unfold takeCam
  split
  · exact .refl s
  · exact ((modInputs_keeps _ s).trans (takeCamPulse_keeps _)).agenda

theorem endJamTime_keeps (s : State) : Keeps s (endJamTime s) := by
  unfold endJamTime
  split
  · exact ((reach_keeps _ _ s).trans (takeJam_keeps _)).agenda
  · exact .refl s

theorem endDropWindow_keeps (s : State) : Keeps s (endDropWindow s) := by
  unfold endDropWindow
  split
  · split
    · exact .ite ((reach_keeps _ _ s).trans (endWindow_keeps _ _)).agenda (.refl s)
    · exact .refl s
  · exact .refl s

/-! ### The drive and the sensors -/

theorem modMxd_keeps (f : Mxd → Mxd) (s : State) : Keeps s (s.modMxd f) := .of_eq

theorem modRfc_keeps (f : Rfc → Rfc) (s : State) : Keeps s (s.modRfc f) := .of_eq

theorem transfer_keeps (s : State) : Keeps s (transfer s) := by
  unfold transfer
  split
  · exact .refl s
  · exact .of_eq
  · exact (.of_eq : Keeps s (latchAllOff s)).trans (allOffReported_keeps _)

theorem enterFault_keeps (f : FaultRecord) (s : State) : Keeps s (enterFault f s) := .of_eq (.of_eq rfl rfl)

theorem readbackStep_keeps (rows : BitVec 8) (cols : BitVec 10) (s : State) : Keeps s (readbackStep rows cols s) := by
  have read : Keeps s (readback rows cols s).1 := .of_eq
  unfold readbackStep
  dsimp only
  split
  · exact read
  · exact read.trans ((enterFault_keeps _ _).trans ((faultAtVend_keeps _).trans (queueStatus_keeps _)))

theorem tickDrive_keeps (rows : BitVec 8) (cols cams : BitVec 10) (s : State) : Keeps s (tickDrive rows cols cams s) := by
  unfold tickDrive
  extract_lets moved ticked
  have time : Keeps s ticked := (reach_keeps _ _ s).trans ((modInputs_keeps _ _).trans (modMxd_keeps _ _))
  exact .ite (time.trans ((transfer_keeps _).trans (readbackStep_keeps rows cols _))).agenda time

theorem takeReport_keeps (r : CurrentReport) (s : State) : Keeps s (takeReport r s) := by
  cases r
  · exact .refl s
  · exact takeMotorOpen_keeps s
  · exact takeJam_keeps s

theorem sampleCurrent_keeps (reading : Byte) (s : State) : Keeps s (sampleCurrent reading s) := by
  unfold sampleCurrent
  split
  · exact .ite ((reach_keeps _ _ s).trans ((modMxd_keeps _ _).trans (takeReport_keeps _ _))).agenda (.refl s)
  · exact .refl s

theorem followFault_keeps (was : Bool) (s : State) : Keeps s (followFault was s) := .ite (.refl s) (queueStatus_keeps s)

theorem sensorReaches_keeps (k : Sensor) (s : State) : Keeps s (sensorReaches k s) := by
  cases k
  · exact ((Keeps.of_link (cabinetEvent_link s)).agenda.trans (saleEvent_keeps _)).agenda
  · exact (Keeps.of_link (evaporatorEvent_link s)).agenda

theorem takeAverage_keeps (k : Sensor) (x : Vector (BitVec 10) 8) (s : State) : Keeps s (takeAverage k x s) := by
  unfold takeAverage
  extract_lets old c raw new updated shown
  have taken : Keeps s shown := (reach_keeps _ _ s).trans ((modRfc_keeps _ _).trans (followFault_keeps _ _))
  exact .ite (taken.trans (sensorReaches_keeps k _)) taken

theorem addSecond_keeps (s : State) : Keeps s (addSecond s) := .of_eq

theorem countSecond_keeps (s : State) : Keeps s (countSecond s) :=
  .ite ((reach_keeps _ _ s).trans (addSecond_keeps _)) (.refl s)

theorem endOnPhase_keeps (s : State) : Keeps s (endOnPhase s) := by
  unfold endOnPhase
  split
  · exact .of_link (endDutyWait_link s)
  · exact .of_link (testStop_link s)
  all_goals exact .refl s

theorem endDrip_keeps (s : State) : Keeps s (endDrip s) := .of_eq

/-! ### The load table -/

theorem modPeer_keeps (st : Station) (f : Peer → Peer) (s : State) : Keeps s (modPeer st f s) := .of_eq

theorem ageOutPeer_keeps (st : Station) (s : State) : Keeps s (ageOutPeer st s) := by
  unfold ageOutPeer
  split
  · next e _ =>
    have aged (u : State) : Keeps u (if e.limit = 0 then removePeer st u else modPeer st (fun e => { e with live := false }) u) :=
      .ite .of_eq (modPeer_keeps _ _ u)
    exact .ite ((reach_keeps _ _ s).trans ((aged _).trans (.of_link (afterTable_link _ _)))).agenda (.refl s)
  · exact .refl s

theorem objectTo_keeps (src : Station) (kind sequence : Byte) (s : State) : Keeps s (objectTo src kind sequence s) :=
  .ite (send_keeps _ s) (.refl s)

theorem assumeClaim_keeps (st : Station) (kind : Byte) (s : State) : Keeps s (assumeClaim st kind s) := by
  unfold assumeClaim
  split
  · exact (reach_keeps _ _ s).trans (modPeer_keeps _ _ _)
  · exact .refl s

theorem modLoad_keeps (k : LoadKind) (f : OwnLoad → OwnLoad) (s : State) : Keeps s (modLoad k f s) := .of_eq

theorem testRecord_keeps (k : LoadKind) (s : State) : Keeps s (testRecord k s) := .of_link (testRecord_link k s)

theorem endHeldOff_keeps (k : LoadKind) (s : State) : Keeps s (endHeldOff k s) :=
  .ite ((reach_keeps _ _ s).trans ((modLoad_keeps k _ _).trans (testRecord_keeps k _))).agenda (.refl s)

theorem retryClaim_keeps (k : LoadKind) (s : State) : Keeps s (retryClaim k s) :=
  .ite ((reach_keeps _ _ s).trans (testRecord_keeps k _)).agenda (.refl s)

theorem endSettleWindow_keeps (k : LoadKind) (s : State) : Keeps s (endSettleWindow k s) := by
  unfold endSettleWindow
  dsimp only
  split
  · exact .ite ((reach_keeps _ _ s).trans (.of_link (decideProposed_link k _))).agenda (.refl s)
  · exact .refl s

/-! ### The link (R164 to R171) -/

theorem countUnknown_keeps (s : State) : Keeps s (countUnknown s) :=
  .of_link (.of_quiet rfl rfl rfl fun _ => ⟨.refl _, id, id⟩)

theorem countBad_keeps (s : State) : Keeps s (countBad s) := (acknowledge_keeps false s).trans (modTotals_keeps _ _)

theorem heardOwnNumber_keeps (s : State) : Keeps s (heardOwnNumber s) := (acknowledge_keeps false s).trans (takeConflict_keeps _)

theorem claimEnded_keeps (k : LoadKind) (q : Byte) (completed : Bool) (s : State) : Keeps s (claimEnded k q completed s) :=
  .of_link (claimEnded_link k q completed s)

theorem reportEnding_keeps (f : Frame) (completed : Bool) (s : State) : Keeps s (reportEnding f completed s) := by
  unfold reportEnding
  split
  · exact claimEnded_keeps _ _ _ s
  · exact .refl s

theorem attemptCompleted_keeps (e : TxEntry) (s : State) : Keeps s (attemptCompleted e s) := by
  refine .trans ?_ (reportEnding_keeps e.frame true _)
  refine .trans (.of_link (leaveQueue_link s)) (.of_link ⟨fun core => ⟨core.silent, core.listenOnly⟩, fun active => .inl ?_⟩)
  show 0 < 16
  decide

end Sys2Proof.Machine.Keeping
end

section
/-! PROOFS. What every step keeps: the endings of attempts, the link's timers, the reconciliation, the restart and the service
requests, and with them every step (Chapters 10 and 11). -/

namespace Sys2Proof.Machine.Keeping

set_option Elab.async false

open Laws Credits

/-! ### The endings of attempts and the link's timers (R166, R167, R169, R170) -/

theorem leaveQueue_keeps (s : State) : Keeps s (leaveQueue s) := .of_link (leaveQueue_link s)

theorem standAgain_keeps (s : State) : Keeps s (standAgain s) := .of_link (standAgain_link s)

/-- R166: what a failed attempt does once it is counted. -/
theorem attemptFailed_counted (e : TxEntry) (s : State) : Keeps (countFailure s) (attemptFailed e s) :=
  .ite (leaveQueue_keeps _)
    (.ite (standAgain_keeps _) ((Keeps.of_link (dropFrame_link (countFailure s))).trans (reportEnding_keeps e.frame false _)))

theorem countFailure_core {s : State} (core : LinkCore s) : LinkCore (countFailure s) where
  silent := core.silent
  listenOnly h := by
    obtain ⟨status, one, period, none⟩ := core.listenOnly h
    refine ⟨fun e he => ?_, (List.length_map _).trans_le one, period, none⟩
    obtain ⟨e', he', rfl⟩ := List.mem_map.mp he
    rw [← status e' he']
    split <;> rfl

theorem noteIsolation_keeps (was : Bool) (s : State) : Keeps s (noteIsolation was s) := .of_link (noteIsolation_link was s)

theorem enterSilent_aside (s : State) : Aside s (enterSilent s) := by
  constructor <;> simp [enterSilent]

theorem enterSilent_state (s : State) : (enterSilent s).lnk.state = .silent := by simp [enterSilent]

theorem enterSilent_core (s : State) : LinkCore (enterSilent s) :=
  (noteIsolation_link _ _).core ⟨iff_of_true rfl rfl, nofun⟩

theorem checkFailures_aside (s : State) : Aside s (checkFailures s) := by
  unfold checkFailures
  split
  · exact enterSilent_aside s
  · exact {}

/-- R166: the sixteenth failure in a row does not leave the link ACTIVE. -/
theorem checkFailures_link {s t : State} (core : LinkCore s → LinkCore t) : LinkKept s (checkFailures t) where
  core h := by
    unfold checkFailures
    split
    · exact enterSilent_core t
    · exact core h
  failures := by
    unfold checkFailures
    split
    · intro active; rw [enterSilent_state] at active; cases active
    · next few => exact fun active => .inl (Nat.lt_of_not_le fun many => few ⟨active, many⟩)

theorem endAttempt_keeps (ending : AttemptEnd) (s : State) : Keeps s (endAttempt ending s) := by
  unfold endAttempt
  split
  · exact .refl s
  · next e _ =>
    refine Keeps.agenda ?_
    have checked := checkFailures_aside (if ending = .completed then attemptCompleted e s else attemptFailed e s)
    have counted : Aside s (countFailure s) := ⟨rfl, rfl, rfl, rfl, rfl, rfl⟩
    split at checked <;> rename_i ended
    · rw [if_pos ended]
      have completed := attemptCompleted_keeps e s
      exact ⟨completed.session.trans checked.session, fun money law => checked.exact (completed.session money).1
        (completed.exact money law), checkFailures_link completed.link.core⟩
    · rw [if_neg ended]
      have failed := attemptFailed_counted e s
      have money := counted.session.trans failed.session
      exact ⟨money.trans checked.session, fun law exact => checked.exact (money law).1
        (failed.exact (counted.session law).1 (counted.exact law exact)),
        checkFailures_link (failed.link.core ∘ countFailure_core)⟩

/-- R167: SILENT is left for ACTIVE with no failure counted. -/
theorem leaveSilent_keeps (s : State) :
    Keeps s (s.modLnk fun l => { l with state := .active, silentTimer := none, failures := 0 }) :=
  .of_link ⟨fun _ => ⟨iff_of_false nofun nofun, nofun⟩, fun _ => .inl (by show 0 < 16; decide)⟩

theorem endSilent_keeps (s : State) : Keeps s (endSilent s) := by
  unfold endSilent
  split
  · exact .ite (Keeps.agenda ((reach_keeps _ _ s).trans ((leaveSilent_keeps _).trans (noteIsolation_keeps _ _)))) (.refl s)
  · exact .refl s

theorem endPeriod_keeps (s : State) : Keeps s (endPeriod s) := by
  unfold endPeriod
  split
  · exact (reach_keeps _ _ s).trans (queueStatus_keeps _)
  · exact .refl s

theorem hush_keeps (s : State) : Keeps s (s.modLnk fun l => { l with heard := false }) :=
  .of_link (.of_quiet rfl rfl rfl fun _ => ⟨.refl _, id, id⟩)

theorem endHearing_keeps (s : State) : Keeps s (endHearing s) :=
  .ite (Keeps.agenda ((reach_keeps _ _ s).trans ((hush_keeps _).trans (noteIsolation_keeps _ _)))) (.refl s)

/-! ### The reconciliation at power-up (R175) -/

theorem startStatus_keeps (s : State) : Keeps s (startStatus s) := .of_link (startStatus_link s)

theorem announceStart_keeps (s : State) : Keeps s (announceStart s) :=
  (send_keeps _ s).trans (startStatus_keeps _)

theorem finishPowerUp_keeps (l : InputLevels) (s : State) : Keeps s (finishPowerUp l s) := by
  unfold finishPowerUp
  extract_lets estimated
  have counted : SessionKept s { estimated with phase := .running } :=
    replaced_session rfl rfl (Intake.estimateFrom_replaces _ 1 s.cnu.tubes)
  have probed : SessionKept s (probe { estimated with phase := .running }) := counted.trans (probe_session _)
  have announced := announceStart_keeps (probe { estimated with phase := .running })
  exact ⟨probed.trans announced.session, fun money _ => announced.exact (probed money).1 (exactLaw_probe _),
    (.of_eq rfl rfl : LinkKept s { estimated with phase := .running }).trans ((probe_link _).trans announced.link)⟩

/-! ### The restart (R176) -/

/-- R4: a coin type's value is clamped. -/
theorem applyImage_coinValues (straps : Station) (p : ParamRead) :
    ∀ c ∈ (applyImage straps p).coinTypes, 1 ≤ c.value ∧ c.value ≤ 2000 := by
  intro c hc
  unfold applyImage at hc
  dsimp only at hc
  split at hc
  · obtain ⟨r, -, rfl⟩ := List.mem_map.mp hc
    simp only [coinTypeOf, clampNat]
    omega
  · obtain rfl := List.eq_of_mem_replicate hc
    decide

/-- R176: the blocks read again and restarted up to the drive. -/
def blocksRestarted (straps : Station) (a : Applied) (s : State) : State :=
  restartVend a (restartCache (restartCredit (restartCoins a (restartStation a (restartLink straps s)))))

theorem restartAll_eq (straps : Station) (p : ParamRead) (s : State) :
    restartAll straps p s =
      announceStart (probe (runAgenda (noteIsolation (isolated s) (runAgenda (restartCooling (applyImage straps p)
        (restartLoad s (restartDrive (applyImage straps p) (blocksRestarted straps (applyImage straps p) s)))))))) := rfl

/-- R60, R176: only an IDLE session is restarted, and its books begin again. -/
theorem blocksRestarted_session (straps : Station) (p : ParamRead) {s : State} (law : MoneyLaw s) (free : restartBusy s = false) :
    MoneyLaw (blocksRestarted straps (applyImage straps p) s) ∧
      VersionStep s.cru (blocksRestarted straps (applyImage straps p) s).cru := by
  simp only [restartBusy, Bool.or_eq_false_iff, decide_eq_false_iff_not, beq_eq_false_iff_ne] at free
  obtain ⟨⟨⟨empty, unheld⟩, unpaying⟩, -⟩ := free
  have none : s.cru.session.balance = 0 := by omega
  have state : s.cru.session.state = .idle := by
    have unopened := mt (fun h => law.openMoney (.inl h)) empty
    have notHeld := mt law.holdIffHeld.mpr (by simp [unheld])
    cases h : s.cru.session.state <;> simp_all
  obtain ⟨-, short, -⟩ := law.idleEmpty state
  refine ⟨Accounted.idle ⟨rfl, law.ceiling.trans' (Nat.le_add_right _ _), ?_, applyImage_coinValues straps p⟩ rfl none
    rfl rfl rfl rfl, .of_eq rfl rfl state.symm rfl short.symm⟩
  show 0 = 0 + 0 + 0 + s.cru.session.balance
  rw [none]

/-- R176, TABLE 10-5: the link begins again with nothing queued. -/
theorem blocksRestarted_link (straps : Station) (a : Applied) (s : State) : LinkKept s (blocksRestarted straps a s) where
  core _ := by
    refine ⟨iff_of_false ?_ nofun, fun h => ⟨nofun, Nat.zero_le _, ?_, rfl⟩⟩
    · show linkStateOf straps ≠ .silent
      unfold linkStateOf; split <;> nofun
    · have bad : strapsBad straps = true := by
        by_contra good
        rw [show (blocksRestarted straps a s).lnk.state = .active from if_neg good] at h
        cases h
      exact if_pos bad
  failures _ := .inl (by show 0 < 16; decide)

theorem restartDrive_keeps (a : Applied) (s : State) : Keeps s (restartDrive a s) :=
  .ite ((modMxd_keeps _ s).trans (queueStatus_keeps _)) (modMxd_keeps _ s)

theorem giveUp_keeps (k : LoadKind) (s : State) : Keeps s (giveUp k s) := .of_link (giveUp_link k s)

theorem afterTable_keeps (before s : State) : Keeps s (afterTable before s) := .of_link (afterTable_link before s)

theorem removePeer_keeps (st : Station) (s : State) : Keeps s (removePeer st s) := .of_eq

theorem restartLoad_keeps (before s : State) : Keeps s (restartLoad before s) := by
  unfold restartLoad
  extract_lets given tested
  have compressor (u : State) : Keeps u (restartCompressorLoad u) :=
    .ite ((modLoad_keeps _ _ u).trans (testRecord_keeps _ _)) (.refl u)
  have table : Keeps s tested :=
    ((giveUp_keeps .motor s).trans ((giveUp_keeps .heater _).trans (compressor _))).trans
      ((removePeer_keeps _ _).trans (afterTable_keeps _ _))
  exact .ite table (table.trans ((Keeps.of_link (announceChange_link _)).trans (.of_link (testWaiting_link _))))

theorem keepCooling_keeps (s : State) : Keeps s (keepCooling s) := by
  have lockout (u : State) : Keeps u (restartLockout u) := .ite (.of_link (endLockout_link u)) (.refl u)
  have longest (u : State) : Keeps u (restartMaxDefrost u) := .ite (.of_link (endDefrost_link u)) (.refl u)
  have warm (u : State) : Keeps u (restartWarm u) := .ite (.of_link (latchHotHold_link u)) (.refl u)
  have stop (u : State) : Keeps u (testStop u) := .of_link (testStop_link u)
  exact (modRfc_keeps _ s).trans ((lockout _).trans ((stop _).trans ((longest _).trans ((saleEvent_keeps _).trans (warm _)))))

theorem restartCooling_keeps (a : Applied) (s : State) : Keeps s (restartCooling a s) :=
  .ite (.ite (modRfc_keeps _ s) (.refl s))
    (.ite (keepCooling_keeps s) ((giveUp_keeps .compressor s).trans ((giveUp_keeps .heater _).trans (modRfc_keeps _ _))))

theorem restartAll_keeps (straps : Station) (p : ParamRead) {s : State} (free : restartBusy s = false) :
    Keeps s (restartAll straps p s) := by
  rw [restartAll_eq]
  have rest (u v : State) (a : Applied) : Keeps u (runAgenda (noteIsolation (isolated v) (runAgenda (restartCooling a
      (restartLoad v (restartDrive a u)))))) :=
    (((restartDrive_keeps a u).trans ((restartLoad_keeps v _).trans (restartCooling_keeps a _))).agenda.trans
      (noteIsolation_keeps _ _)).agenda
  have cooled := rest (blocksRestarted straps (applyImage straps p) s) s (applyImage straps p)
  have session : SessionKept s _ := fun law =>
    (SessionKept.trans (fun _ => blocksRestarted_session straps p law free) (cooled.session.trans (probe_session _))) law
  exact ⟨session.trans (announceStart_keeps _).session,
    fun money _ => (announceStart_keeps _).exact (session money).1 (exactLaw_probe _),
    (blocksRestarted_link straps _ s).trans (cooled.link.trans ((probe_link _).trans (announceStart_keeps _).link))⟩

/-! ### The service requests (R177 to R179) -/

theorem answerTool_keeps (tag : Byte) (r : ServiceResult) (data : List Byte) (s : State) : Keeps s (answerTool tag r data s) :=
  send_keeps _ s

theorem takeRequest_keeps (tag : Byte) (r : Option ServiceResult) {act : State → State} (h : ∀ u, Keeps u (act u)) (s : State) :
    Keeps s (takeRequest tag r act s) := by
  unfold takeRequest
  split
  · exact answerTool_keeps ..
  · exact (h s).trans (answerTool_keeps ..)

theorem readState_keeps (tag : Byte) (args : List Byte) (s : State) : Keeps s (readState tag args s) := by
  unfold readState
  split
  · refine .ite (answerTool_keeps ..) ?_
    split
    · exact answerTool_keeps ..
    · split <;> exact answerTool_keeps ..
  · exact answerTool_keeps ..

theorem readAudit_keeps (tag : Byte) (args : List Byte) (s : State) : Keeps s (readAudit tag args s) := by
  unfold readAudit
  split
  · split <;> exact answerTool_keeps ..
  · exact answerTool_keeps ..

theorem serveAuditClear_keeps (tag : Byte) (args : List Byte) (s : State) : Keeps s (serveAuditClear tag args s) :=
  takeRequest_keeps _ _ (fun u => (modTotals_keeps _ u).trans (askSave_keeps _)) s

theorem serveSetPrice_keeps (tag : Byte) (args : List Byte) (s : State) : Keeps s (serveSetPrice tag args s) := by
  unfold serveSetPrice
  split
  · exact takeRequest_keeps _ _ (modSlot_keeps _ _) s
  · exact answerTool_keeps ..

theorem serveSetSlot_keeps (tag : Byte) (args : List Byte) (s : State) : Keeps s (serveSetSlot tag args s) := by
  unfold serveSetSlot
  split
  · exact .ite (takeRequest_keeps _ _ (modSlot_keeps _ _) s) (answerTool_keeps ..)
  · exact answerTool_keeps ..

theorem serveSetStock_keeps (tag : Byte) (args : List Byte) (s : State) : Keeps s (serveSetStock tag args s) := by
  unfold serveSetStock
  split
  · exact .ite (takeRequest_keeps _ _ (modSlot_keeps _ _) s) (answerTool_keeps ..)
  · exact answerTool_keeps ..

theorem serveSetTube_keeps (tag : Byte) (args : List Byte) (s : State) : Keeps s (serveSetTube tag args s) := by
  unfold serveSetTube
  split
  · exact takeRequest_keeps _ _ (changeTube_keeps (Intake.setCount_keeps _)) s
  · exact answerTool_keeps ..

theorem clearTarget_keeps (tag target index : Byte) (s : State) : Keeps s (clearTarget tag target index s) := by
  have answered {t : State} (changed : Bool) (h : Keeps s t) : Keeps s (answerCleared tag changed t) :=
    h.trans (answerTool_keeps ..)
  have cleared (d : DriveState) : Keeps s (clearFaultState d s) := (modMxd_keeps _ s).trans (queueStatus_keeps _)
  unfold clearTarget
  refine .ite ?_ (.ite (.ite (answered _ (cleared _)) (answered _ (.refl s)))
    (.ite (.ite (answered _ (.of_link (clearHotHold_link s))) (answered _ (.refl s))) (.ite ?_ (answerTool_keeps ..))))
  · split
    · exact answerTool_keeps ..
    · exact answered _ (modSlot_keeps _ _ s)
  · split
    · exact answerTool_keeps ..
    · exact answered _ (changeTube_keeps Intake.revive_keeps s)

theorem serveClearFault_keeps (tag : Byte) (args : List Byte) (s : State) : Keeps s (serveClearFault tag args s) := by
  unfold serveClearFault
  split
  · exact clearTarget_keeps ..
  · exact answerTool_keeps ..

theorem serveTestMotor_keeps (tag : Byte) (args : List Byte) (s : State) : Keeps s (serveTestMotor tag args s) := by
  unfold serveTestMotor
  split
  · split
    · exact answerTool_keeps ..
    · exact beginTest_keeps _ _ _ _ s
    · exact .refl s
  · exact answerTool_keeps ..

theorem forgetPeer_keeps (st : Byte) (s : State) : Keeps s (forgetPeer st s) :=
  (removePeer_keeps _ s).trans (afterTable_keeps _ _)

theorem serveForgetPeer_keeps (tag : Byte) (args : List Byte) (s : State) : Keeps s (serveForgetPeer tag args s) := by
  unfold serveForgetPeer
  split
  · exact takeRequest_keeps _ _ (forgetPeer_keeps _) s
  · exact answerTool_keeps ..

theorem serveRestart_keeps (tag : Byte) (args : List Byte) (straps : Station) (p : ParamRead) (s : State) :
    Keeps s (serveRestart tag args straps p s) := by
  unfold serveRestart
  refine .ite (answerTool_keeps ..) ?_
  split
  · exact answerTool_keeps ..
  · next free => exact (restartAll_keeps straps p (by simpa using free)).trans (answerTool_keeps ..)

/-! ### Every command, and every step -/

theorem event_keeps {f : State → State} (hf : ∀ u, Keeps u (f u)) (s : State) :
    ∃ t, event f s = .next (refreshOutputs t) ∧ Keeps (openEvent s) t := ⟨_, rfl, hf _⟩

/-- Every command but the power-up, which makes the state anew, is an event that keeps the three laws. -/
theorem exec_keeps (c : Instr) (s : State) (on : ∀ a p q, c ≠ .powerUp a p q) :
    ∃ t, exec c s = .next (refreshOutputs t) ∧ Keeps (openEvent s) t := by
  have heard (src : Station) (u : State) : Keeps u (hear src countUnknown u) := hear_keeps countUnknown_keeps src u
  have timed {f : State → State} (link : ∀ u, LinkKept u (f u)) (aside : ∀ u, Aside u (f u)) (x : Option Nat) (n : Nat)
      (u : State) : Keeps u (onTimer x n f u) := onTimer_keeps (fun u => .of_link (link u) (aside u)) x n u
  cases c with
  | coinStrobe a b => exact event_keeps (inputEvent_keeps _ (coinReport_keeps _)) s
  | routingTimeExpiry => exact event_keeps endRouting_keeps s
  | cashboxSwitchChange closed => exact event_keeps (inputEvent_keeps _ (takeCashbox_keeps closed)) s
  | levelSwitchChange i w covered => exact event_keeps (inputEvent_keeps _ (reconcileTube_keeps i)) s
  | serviceDoorOpens => exact event_keeps (inputEvent_keeps _ takeDoorOpening_keeps) s
  | serviceDoorCloses => exact event_keeps (inputEvent_keeps _ takeDoorClosing_keeps) s
  | auditSaveEnd ending => exact event_keeps (endSave_keeps ending) s
  | debitReceived src dst n a tag x => exact event_keeps (hear_keeps (directed_keeps (answerDebit_keeps src n a.toNat tag x) dst) src) s
  | settleReceived src dst tag n r => exact event_keeps (hear_keeps (directed_keeps (answerSettle_keeps src tag n r) dst) src) s
  | holdExpiry => exact event_keeps endOldHold_keeps s
  | refreshTimerExpiry => exact event_keeps endRefresh_keeps s
  | idleTimerExpiry => exact event_keeps endIdleTime_keeps s
  | coinSeen => exact event_keeps (inputEvent_keeps _ seeCoin_keeps) s
  | solenoidPulseEnd => exact event_keeps endPulse_keeps s
  | payoutWindowExpiry => exact event_keeps endPayoutWindow_keeps s
  | exitClears => exact event_keeps (inputEvent_keeps _ exitCleared_keeps) s
  | clearTimerExpiry => exact event_keeps endClearTime_keeps s
  | escrowLever => exact event_keeps (inputEvent_keeps _ pressLever_keeps) s
  | creditReceived src dst n state b v short => exact event_keeps (hear_keeps (modCca_keeps _) src) s
  | cacheEntryAgeOut st => exact event_keeps (ageOutEntry_keeps st) s
  | purgeReceived src dst n => exact event_keeps (hear_keeps (modCca_keeps _) src) s
  | selectReceived src dst tag slot credit =>
    exact event_keeps (hear_keeps (directed_keeps (takeSelect_keeps src tag slot.toNat credit.toNat) dst) src) s
  | answerTimerExpiry => exact event_keeps endAnswerTime_keeps s
  | debitAnswerReceived src dst tag o b v =>
    exact event_keeps (hear_keeps (directed_keeps (takeDebitAnswer_keeps src tag o b v) dst) src) s
  | settleTimerExpiry => exact event_keeps endSettleTime_keeps s
  | settleAnswerReceived src dst tag o =>
    exact event_keeps (hear_keeps (directed_keeps (takeSettleAnswer_keeps src tag o) dst) src) s
  | budgetTimerExpiry => exact event_keeps endBudgetTime_keeps s
  | camPulse => exact event_keeps takeCam_keeps s
  | jamTimerExpiry => exact event_keeps endJamTime_keeps s
  | drop => exact event_keeps (inputEvent_keeps _ fun u => (takeDrop_keeps u).agenda) s
  | dropWindowExpiry => exact event_keeps endDropWindow_keeps s
  | driveTick rows cols cams => exact event_keeps (fun u => .ite (.refl u) (tickDrive_keeps rows cols cams u)) s
  | currentSample reading => exact event_keeps (sampleCurrent_keeps reading) s
  | averagingPeriodEnd k x => exact event_keeps (fun u => .ite (.refl u) (takeAverage_keeps k x u)) s
  | lockoutTimerExpiry => exact event_keeps (fun u => .ite (timed endLockout_link (fun _ => {}) _ _ u) (.refl u)) s
  | offTimerExpiry => exact event_keeps (fun u => .ite (timed testOff_link (fun _ => {}) _ _ u) (.refl u)) s
  | cycleTimerUrgent => exact event_keeps (fun u => .ite (timed raiseWant_link (fun _ => {}) _ _ u) (.refl u)) s
  | cycleTimerFixedDuty => exact event_keeps (fun u => .ite (onTimer_keeps endOnPhase_keeps _ _ u) (.refl u)) s
  | startTimerExpiry => exact event_keeps (fun u => .ite (timed endStart_link (fun _ => {}) _ _ u) (.refl u)) s
  | onTimerExpiry => exact event_keeps (fun u => timed testStop_link (fun _ => {}) _ _ u) s
  | accumulatorSecond => exact event_keeps countSecond_keeps s
  | heaterWaitExpiry => exact event_keeps (fun u => .ite (timed endHeaterWait_link (fun _ => {}) _ _ u) (.refl u)) s
  | defrostTimerExpiry => exact event_keeps (fun u => .ite (timed endDefrost_link (fun _ => {}) _ _ u) (.refl u)) s
  | dripTimerExpiry => exact event_keeps (fun u => .ite (onTimer_keeps endDrip_keeps _ _ u) (.refl u)) s
  | warmTimerExpiry => exact event_keeps (fun u => timed latchHotHold_link (fun _ => {}) _ _ u) s
  | statusReceived src dst change total limit flags =>
    exact event_keeps (hearWith_keeps .refl src (modPeer_keeps src _) false) s
  | peerEntryAgeOut st => exact event_keeps (ageOutPeer_keeps st) s
  | claimReceived src dst kind cls a q =>
    exact event_keeps (fun u => .ite (heard src u) (hearWith_keeps (objectTo_keeps src kind q) src (modPeer_keeps src _) _ u)) s
  | releaseReceived src dst kind q =>
    exact event_keeps (fun u => .ite (heard src u) (hearWith_keeps .refl src (modPeer_keeps src _) false u)) s
  | claimAssumed st kind => exact event_keeps (assumeClaim_keeps st kind) s
  | objectReceived src dst kind q sum =>
    exact event_keeps (fun u => .ite (heard src u)
      (hear_keeps (directed_keeps (fun v => .of_link (takeObject_link kind q sum v)) dst) src u)) s
  | heldOffExpiry k => exact event_keeps (endHeldOff_keeps k) s
  | claimRetryAge k => exact event_keeps (retryClaim_keeps k) s
  | settleWindowExpiry k => exact event_keeps (endSettleWindow_keeps k) s
  | badFrame cause => exact event_keeps (receiving_keeps countBad_keeps) s
  | unknownFrame src => exact event_keeps (heard src) s
  | vendStatusReceived src dst tag o p q => exact event_keeps (hear_keeps .refl src) s
  | serviceAnswerReceived src dst tag r data => exact event_keeps (hear_keeps .refl src) s
  | addressConflict => exact event_keeps (receiving_keeps heardOwnNumber_keeps) s
  | frameOffer => exact event_keeps (fun u => .of_link (beginFrame_link u)) s
  | lostArbitration => exact event_keeps standAgain_keeps s
  | frameAttemptEnd ending => exact event_keeps (endAttempt_keeps ending) s
  | silentEnd => exact event_keeps endSilent_keeps s
  | statusPeriodExpiry => exact event_keeps endPeriod_keeps s
  | isolationTimerExpiry => exact event_keeps endHearing_keeps s
  | powerUp straps p a => exact absurd rfl (on straps p a)
  | powerUpReconciliation l => exact event_keeps (fun u => .ite (finishPowerUp_keeps l u) (.refl u)) s
  | stateRead h args => exact event_keeps (serve_keeps (readState_keeps h.tag args) h) s
  | auditRead h args => exact event_keeps (serve_keeps (readAudit_keeps h.tag args) h) s
  | auditClear h args => exact event_keeps (serve_keeps (serveAuditClear_keeps h.tag args) h) s
  | setPrice h args => exact event_keeps (serve_keeps (serveSetPrice_keeps h.tag args) h) s
  | setSlot h args => exact event_keeps (serve_keeps (serveSetSlot_keeps h.tag args) h) s
  | setStock h args => exact event_keeps (serve_keeps (serveSetStock_keeps h.tag args) h) s
  | setTube h args => exact event_keeps (serve_keeps (serveSetTube_keeps h.tag args) h) s
  | clearFault h args => exact event_keeps (serve_keeps (serveClearFault_keeps h.tag args) h) s
  | testMotor h args => exact event_keeps (serve_keeps (serveTestMotor_keeps h.tag args) h) s
  | forgetPeer h args => exact event_keeps (serve_keeps (serveForgetPeer_keeps h.tag args) h) s
  | restart h args straps p => exact event_keeps (serve_keeps (serveRestart_keeps h.tag args straps p) h) s
  | serviceUnknownCode h code args => exact event_keeps (serve_keeps (answerTool_keeps h.tag .badArgument []) h) s

/-! ### The power-up (R175) -/

theorem powerUpState_moneyLaw (straps : Station) (p : ParamRead) (a : AuditRead) (s : State) : MoneyLaw (powerUpState straps p a s) :=
  Accounted.idle ⟨rfl, Nat.zero_le _, rfl, applyImage_coinValues straps p⟩ rfl rfl rfl rfl rfl rfl

theorem powerUpState_exactLaw (straps : Station) (p : ParamRead) (a : AuditRead) (s : State) : ExactLaw (powerUpState straps p a s) where
  value := iff_of_false nofun fun ⟨_, _, set⟩ => set.elim nofun nofun
  probed := nofun
  latest := nofun

theorem powerUpState_linkLaw (straps : Station) (p : ParamRead) (a : AuditRead) (s : State) : LinkLaw (powerUpState straps p a s) where
  silent := iff_of_false (by show linkStateOf straps ≠ .silent; unfold linkStateOf; split <;> nofun) nofun
  failures _ := by show 0 < 16; decide
  listenOnly _ := ⟨nofun, Nat.zero_le _, rfl, rfl⟩

/-! ### The half millisecond with no command waiting (log 2) -/

theorem idle_keeps (s : State) : Keeps s (idle s) := by
  refine .ite (.refl s) (.ite ?_ ?_)
  · exact (elapse_keeps 1 s).trans (.of_eq (.of_eq rfl rfl) ⟨rfl, rfl, rfl, rfl, rfl, rfl⟩)
  · exact .of_eq (.of_eq rfl rfl) ⟨rfl, rfl, rfl, rfl, rfl, rfl⟩

/-! ### The laws that every step keeps -/

/-- What the laws read is in `v` what it is in `u`: the queues of commands, the outputs and the mark of the event are not. -/
structure Alike (u v : State) : Prop where
  session : v.cru.session = u.cru.session
  payout : v.cru.payout = u.cru.payout
  books : v.cru.books = u.cru.books
  flag : v.cru.exactChangeOnly = u.cru.exactChangeOnly
  probed : v.cru.probeShort = u.cru.probeShort
  cnu : v.cnu = u.cnu
  lnk : v.lnk = u.lnk
  vsq : v.vsq = u.vsq
  params : v.params = u.params
  ssu : v.ssu = u.ssu
  phase : v.phase = u.phase

theorem Alike.moneyLaw {u v : State} (h : Alike u v) (law : MoneyLaw u) : MoneyLaw v :=
  moneyLaw_congr law h.session h.payout h.books (by rw [h.cnu]) (by rw [h.cnu])

theorem Alike.exactLaw {u v : State} (h : Alike u v) (law : ExactLaw u) : ExactLaw v :=
  exactLaw_congr law h.flag h.probed (by rw [h.session]) h.params (by rw [h.ssu]) (by rw [h.cnu]) h.phase

theorem Alike.linkLaw {u v : State} (h : Alike u v) (law : LinkLaw u) : LinkLaw v := by
  obtain ⟨h1, h2, h3⟩ := law
  constructor <;> simpa only [h.lnk, h.vsq]

theorem Alike.begun (p d : List Instr) (s : State) : Alike s (openEvent { s with pending := p, due := d }) := by
  constructor <;> rfl

theorem Alike.refreshed (s : State) : Alike s (refreshOutputs s) := by
  constructor <;> rfl

theorem Alike.dropped (d : List Instr) (s : State) : Alike s { s with due := d } := by
  constructor <;> rfl

/-- A law of what `Alike` names, which every act keeps and the power-up brings about, is kept by every step. -/
theorem step_keeps {Law : State → Prop} (alike : ∀ {u v : State}, Alike u v → Law u → Law v)
    (kept : ∀ {u v : State}, Keeps u v → Law u → Law v) (begins : ∀ straps p a u, Law (powerUpState straps p a u))
    {s t : State} (law : Law s) (h : step s = .next t) : Law t := by
  rcases Intake.step_cases h with ⟨c, p, d, e⟩ | ⟨d, rfl⟩ | rfl
  · by_cases on : ∀ a p q, c ≠ .powerUp a p q
    · obtain ⟨u, hu, keeps⟩ := exec_keeps c { s with pending := p, due := d } on
      obtain rfl : refreshOutputs u = t := Host.Outcome.next.inj (hu.symm.trans e)
      exact alike (.refreshed u) (kept keeps (alike (.begun p d s) law))
    · simp only [not_forall, not_not] at on
      obtain ⟨straps, q, a, rfl⟩ := on
      obtain rfl := Host.Outcome.next.inj e
      exact alike (.refreshed _) (begins straps q a _)
  · exact alike (.dropped d s) law
  · exact kept (idle_keeps s) law

/-- Settles O4: every command keeps the law of the money (`exec_keeps`), which the power-up brings about. -/
theorem moneyIsKept : Obligations.MoneyIsKept := fun _ _ =>
  step_keeps Alike.moneyLaw (fun keeps law => (keeps.session law).1) powerUpState_moneyLaw

/-- Settles O9: every command keeps the law of the link (`exec_keeps`), with which a powered-up part begins. -/
theorem linkFollowsItsState : Obligations.LinkFollowsItsState := fun _ _ =>
  step_keeps Alike.linkLaw (fun keeps => keeps.link.law) powerUpState_linkLaw

/-- R35: within a command the version rises at most once, and with whatever a CREDIT announces. -/
theorem exec_version {c : Instr} {s t : State} (law : MoneyLaw s) (on : ∀ a p q, c ≠ .powerUp a p q) (h : exec c s = .next t) :
    (t.cru.session.version = s.cru.session.version ∨ t.cru.session.version = s.cru.session.version + 1) ∧
      (t.cru.session.state ≠ s.cru.session.state ∨ t.cru.session.balance ≠ s.cru.session.balance ∨
          t.cru.session.changeShort ≠ s.cru.session.changeShort →
        t.cru.session.version = s.cru.session.version + 1) := by
  obtain ⟨u, hu, keeps⟩ := exec_keeps c s on
  obtain rfl : refreshOutputs u = t := Host.Outcome.next.inj (hu.symm.trans h)
  obtain ⟨-, -, risen, same⟩ := keeps.session (moneyLaw_congr law rfl rfl rfl rfl rfl)
  rw [risen_fresh (c := (openEvent s).cru) rfl] at risen
  show (u.cru.session.version = _ ∨ u.cru.session.version = _) ∧ _
  cases raised : u.cru.versionRaised with
  | true =>
    have rose : u.cru.session.version = s.cru.session.version + 1 := by rwa [Credits.risen, raised] at risen
    exact ⟨.inr rose, fun _ => rose⟩
  | false =>
    have stands : u.cru.session.version = s.cru.session.version := by
      rw [Credits.risen, raised] at risen
      exact add_right_cancel risen
    obtain ⟨state, balance, short⟩ := same raised
    exact ⟨.inl stands, by rintro (h | h | h) <;> contradiction⟩

/-- Settles O11: the version by `exec_version`, and the law of the exact-change-only flag as every command keeps it
(`exec_keeps`). -/
theorem versionRisesOnce : Obligations.VersionRisesOnce := by
  refine ⟨fun c s t law on h => exec_version law on h, fun s t money exact h => ?_⟩
  exact (step_keeps (Law := fun u => MoneyLaw u ∧ ExactLaw u)
    (fun same ⟨money, exact⟩ => ⟨same.moneyLaw money, same.exactLaw exact⟩)
    (fun keeps ⟨money, exact⟩ => ⟨(keeps.session money).1, keeps.exact money exact⟩)
    (fun straps p a u => ⟨powerUpState_moneyLaw straps p a u, powerUpState_exactLaw straps p a u⟩) ⟨money, exact⟩ h).2

end Sys2Proof.Machine.Keeping
end

section
/-! PROOFS. What an event of the credit session asks of the transmit queue: the CREDIT of a raised version, and then at most a STATUS,
which a change of the exact-change-only flag brings (R29, R35, R39). -/

namespace Sys2Proof.Machine.Announcing

set_option Elab.async false

open Laws Credits Intake

/-- From `s` to `t` the exact-change-only flag stands or its STATUS is asked for, and nothing else is. -/
structure StatusAsked (s t : State) : Prop where
  only : StatusOnly s t
  flag : FlagAnnounced s t
  quiet : s.lnk.state = .listenOnly → t.lnk.queue = s.lnk.queue

/-- From `s` to `t` a CREDIT is asked for, and nothing else. -/
structure CreditAsked (s t : State) : Prop where
  link : t.lnk.state = s.lnk.state
  queue : places t = withFrame .credit s.lnk.state (places s)
  flag : t.cru.exactChangeOnly = s.cru.exactChangeOnly
  quiet : s.lnk.state = .listenOnly → t.lnk.queue = s.lnk.queue

/-- From `s` to `t` a CREDIT is asked for, and then what a change of the exact-change-only flag brings. -/
def Announced (s t : State) : Prop := ∃ u, CreditAsked s u ∧ StatusAsked u t

/-! ### Composition -/

theorem subset_statusOnly {s t : State} (h : StatusOnly s t) : places s ⊆ places t := by
  rcases h.queue with e | e <;> rw [e]
  · exact List.Subset.refl _
  · exact subset_withFrame _ _ _

theorem awaits_statusOnly {f : Frame} {s t : State} (h : StatusOnly s t) (waits : Awaits f s) : Awaits f t :=
  (awaits_iff f t).mpr (subset_statusOnly h ((awaits_iff f s).mp waits))

namespace StatusAsked
variable {s t u : State}

/-- Nothing is asked, and the flag stands. -/
theorem of_lnk (lnk : t.lnk = s.lnk) (flag : t.cru.exactChangeOnly = s.cru.exactChangeOnly) : StatusAsked s t :=
  ⟨.of_lnk lnk, .inl flag, fun _ => by rw [lnk]⟩

theorem refl (s : State) : StatusAsked s s := .of_lnk rfl rfl

theorem trans (h : StatusAsked s t) (g : StatusAsked t u) : StatusAsked s u where
  only := h.only.trans g.only
  flag := by
    rcases g.flag with stands | announced
    · exact h.flag.imp stands.trans fun waits room => awaits_statusOnly g.only (waits room)
    · exact .inr fun room => announced (h.only.hasRoom room)
  quiet listens := (g.quiet (h.only.link.trans listens)).trans (h.quiet listens)

end StatusAsked

namespace Announced
variable {s t u : State}

theorem of_credit (h : CreditAsked s t) : Announced s t := ⟨t, h, .refl t⟩

theorem andStatus (h : Announced s t) (g : StatusAsked t u) : Announced s u :=
  let ⟨v, credit, status⟩ := h
  ⟨v, credit, status.trans g⟩

/-- What comes before the CREDIT leaves the queue and the flag. -/
theorem after (h : Announced t u) (link : t.lnk.state = s.lnk.state) (queue : t.lnk.queue = s.lnk.queue)
    (flag : t.cru.exactChangeOnly = s.cru.exactChangeOnly) : Announced s u := by
  obtain ⟨v, credit, status⟩ := h
  refine ⟨v, ⟨credit.link.trans link, ?_, credit.flag.trans flag, fun listens => ?_⟩, status⟩
  · rw [credit.queue, link, places, places, queue]
  · exact (credit.quiet (link.trans listens)).trans queue

theorem link (h : Announced s t) : t.lnk.state = s.lnk.state :=
  let ⟨_, credit, status⟩ := h
  status.only.link.trans credit.link

theorem quiet (h : Announced s t) (listens : s.lnk.state = .listenOnly) : t.lnk.queue = s.lnk.queue :=
  let ⟨_, credit, status⟩ := h
  (status.quiet (credit.link.trans listens)).trans (credit.quiet listens)

/-- R39: the CREDIT waits where it finds room. -/
theorem awaits (h : Announced s t) (room : HasRoom .credit s) : Awaits .credit t := by
  obtain ⟨u, credit, status⟩ := h
  refine awaits_statusOnly status.only ((awaits_iff _ u).mpr ?_)
  rw [credit.queue]
  exact mem_withFrame_of_hasRoom room

/-- R168: each of the two frames takes at most one place. -/
theorem length_le (h : Announced s t) : t.lnk.queue.length ≤ s.lnk.queue.length + 2 := by
  obtain ⟨u, credit, status⟩ := h
  have one : u.lnk.queue.length ≤ s.lnk.queue.length + 1 := by
    rw [← places_length, ← places_length, credit.queue]
    exact withFrame_length_le ..
  have := status.only.length_le
  omega

/-- R29: with two places free a change of the flag has its STATUS wait behind the CREDIT. -/
theorem exact (h : Announced s t) : ExactAnnounced s t := by
  obtain ⟨u, credit, status⟩ := h
  intro changed link room
  rcases status.flag with stands | announced
  · exact absurd (stands.trans credit.flag) changed
  · refine announced ((hasRoom_iff _ u).mpr ⟨credit.link ▸ link, .inr ?_⟩)
    rw [credit.queue]
    have := withFrame_length_le .credit s.lnk.state (places s)
    rw [places_length] at this
    omega

end Announced

/-- R29: with nothing asked but what the flag brings. -/
theorem StatusAsked.exact {s t : State} (h : StatusAsked s t) : ExactAnnounced s t :=
  exactAnnounced_of (.of_lnk rfl) rfl h.flag

/-! ### The operations -/

theorem queueStatus_quiet {s : State} (listens : s.lnk.state = .listenOnly) : queueStatus s = s := by
  unfold queueStatus
  rw [request_listenOnly ((listenOnly_iff s).mpr listens)]
  rfl

theorem reevaluateExact_asked (s : State) : StatusAsked s (reevaluateExact s) := by
  obtain ⟨only, flag⟩ := reevaluateExact_announced s
  refine ⟨only, flag, fun listens => ?_⟩
  unfold reevaluateExact
  split
  · rfl
  · rw [queueStatus_quiet (s := s.modCru _) listens]; rfl

theorem probeAfter_asked (before : List (Option Tube)) (s : State) : StatusAsked s (probeAfter before s) := by
  unfold probeAfter
  split
  · exact .refl s
  · exact (StatusAsked.of_lnk rfl rfl : StatusAsked s (s.modCru _)).trans (reevaluateExact_asked _)

/-- R35, R39: the first raise of an event asks for the CREDIT. -/
theorem raiseVersion_asked {s : State} (first : s.cru.versionRaised = false) : CreditAsked s (raiseVersion s) where
  link := by simp
  flag := by simp
  queue := by
    let v := s.modCru fun c => { c with versionRaised := true, session := { c.session with version := c.session.version + 1 } }
    rw [raiseVersion, if_neg (by simp [first])]
    show places (queueCredit v) = withFrame .credit v.lnk.state (places v)
    unfold queueCredit
    split
    · next listens => exact (withFrame_lost (.inl ((listenOnly_iff v).mp listens))).symm
    · exact request_places .credit v
  quiet listens := by
    rw [raiseVersion, if_neg (by simp [first]), queueCredit, if_pos]
    · rfl
    · exact (listenOnly_iff _).mpr listens

/-- R35: a further raise of an event does nothing. -/
theorem raiseVersion_again {s t : State} (raised : t.cru.versionRaised = true) (lnk : t.lnk = s.lnk)
    (flag : t.cru.exactChangeOnly = s.cru.exactChangeOnly) : StatusAsked s (raiseVersion t) := by
  rw [raiseVersion_raised raised]
  exact .of_lnk lnk flag

/-- The event's first raise, after a change of the session. -/
theorem raiseVersion_announced {s t : State} (first : t.cru.versionRaised = false) (lnk : t.lnk = s.lnk)
    (flag : t.cru.exactChangeOnly = s.cru.exactChangeOnly) : Announced s (raiseVersion t) :=
  (Announced.of_credit (raiseVersion_asked first)).after (by rw [lnk]) (by rw [lnk]) flag

section First
variable {s : State} (first : s.cru.versionRaised = false)
include first

theorem enterIdle_announced : Announced s (enterIdle s) :=
  Announced.andStatus (raiseVersion_announced (t := s.modSession fun c =>
    { c with state := .idle, balance := 0, changeShort := false, escrowPending := false, idleTimer := none }) first rfl rfl)
    (reevaluateExact_asked _)

theorem enterOpen_announced : Announced s (enterOpen s) :=
  raiseVersion_announced (t := s.modSession fun c => { c with state := .opened, idleTimer := freshIdle s }) first rfl rfl

theorem turnPaying_announced : Announced s (turnPaying s) :=
  raiseVersion_announced (t := s.modSession fun c => { c with state := .paying, escrowPending := false, idleTimer := none })
    first rfl rfl

end First

theorem payoutComplete_again {s : State} (raised : s.cru.versionRaised = true) : StatusAsked s (payoutComplete s) := by
  refine .trans (raiseVersion_again ?_ ?_ ?_) (reevaluateExact_asked _)
  · exact raised
  · rfl
  · rfl

theorem payoutShort_again {s : State} (raised : s.cru.versionRaised = true) : StatusAsked s (payoutShort s) := by
  refine .trans (raiseVersion_again ?_ ?_ ?_) (reevaluateExact_asked _)
  · exact raised
  · rfl
  · rfl

theorem coinStep_again {s : State} (raised : s.cru.versionRaised = true) : StatusAsked s (coinStep s) := by
  rcases coinStep_cases s with ⟨-, e⟩ | ⟨i, -, e⟩ | ⟨-, -, e⟩ <;> rw [e]
  · exact payoutComplete_again raised
  · exact .of_lnk rfl rfl
  · exact payoutShort_again raised

theorem enterPaying_announced {s : State} (first : s.cru.versionRaised = false) : Announced s (enterPaying s) := by
  rw [enterPaying_eq]
  split
  · exact (turnPaying_announced first).andStatus (.of_lnk rfl rfl)
  · exact (turnPaying_announced first).andStatus (coinStep_again (turnPaying_versionRaised s))

theorem afterSettle_announced {r : SettleResult} {s : State} (first : s.cru.versionRaised = false) :
    Announced s (afterSettle r s) := by
  unfold afterSettle
  dsimp only
  split
  · split
    · exact (enterIdle_announced (s := s.modSession _) first).after rfl rfl rfl
    · exact (enterPaying_announced (s := s.modSession _) first).after rfl rfl rfl
  · split
    · exact enterPaying_announced first
    · split
      · exact enterIdle_announced first
      · exact enterOpen_announced first

end Sys2Proof.Machine.Announcing
end

section
/-! PROOFS. A routed coin at the credit session (R36, R37, R59). -/

namespace Sys2Proof.Machine.Announcing

set_option Elab.async false

open Laws Credits Intake Keeping

/-! ### A coin routed and not yet credited -/

/-- The state `w` is the event of `s` with its coin routed: the session, the books, the link and the parameters stand, and of the
audit totals the two of the routed coins alone have moved. -/
structure Routed (s w : State) : Prop where
  cru : w.cru = (openEvent s).cru
  lnk : w.lnk = s.lnk
  params : w.params = s.params
  totals :
    w.ssu.totals = { s.ssu.totals with toTubes := w.ssu.totals.toTubes, toCashbox := w.ssu.totals.toCashbox }

/-- The state `t` is `u` once its tube, if it has changed, is probed and the event is over. -/
structure Probed (u t : State) : Prop where
  asked : StatusAsked u t
  session : t.cru.session = u.cru.session
  books : t.cru.books = u.cru.books
  payout : t.cru.payout = u.cru.payout
  ssu : t.ssu = u.ssu

/-- R8, R10: a coin that can go to a tube or to the cashbox is routed, credited and probed. -/
theorem exec_routedCoin {n : BitVec 3} {c : CoinType} {s : State} (takes : TakesCoin s n) (coin : coinTypeAt s n.toNat = some c)
    (stored : (∃ i, CanStore s n.toNat i) ∨ s.cnu.cashboxPresent = true) :
    ∃ w t, exec (.coinStrobe n n) s = .next t ∧ Routed s w ∧ Probed (creditCoin c.value w) t := by
  let u := strobed n n s
  by_cases tube : ∃ i, CanStore s n.toNat i
  · obtain ⟨i, store⟩ := tube
    refine ⟨routeToTube i c.value u, _, exec_coinStrobe_coin takes coin, ?_, ?_⟩
    · rw [routeToTube_eq]; exact ⟨rfl, rfl, rfl, rfl⟩
    · rw [takeCoin_tube (s := u) store]
      refine ⟨(probeAfter_asked _ _).trans (.of_lnk rfl rfl), ?_, ?_, ?_, ?_⟩ <;> simp
  · refine ⟨routeToCashbox c.value u, _, exec_coinStrobe_coin takes coin, ⟨rfl, rfl, rfl, rfl⟩, ?_⟩
    rw [takeCoin_noTube (s := u) (fun i store => tube ⟨i, store⟩), if_pos (show u.cnu.cashboxPresent = true from
      stored.resolve_left tube)]
    exact ⟨.of_lnk rfl rfl, rfl, rfl, rfl, rfl⟩

/-! ### A coin added to a session (R37, R59) -/

theorem session_addCoin (v : Nat) (s : State) :
    (addCoin v s).cru.session =
      { s.cru.session with
        balance := s.cru.session.balance + entering v s
        version := if entering v s = 0 then s.cru.session.version else risen s.cru
        idleTimer := if entering v s ≠ 0 ∧ s.cru.session.state = .opened then freshIdle s else s.cru.session.idleTimer } := by
  rw [addCoin_eq]
  by_cases none : entering v s = 0
  · rw [if_pos none, if_pos none, if_neg (absurd none ·.1), none]; rfl
  · rw [if_neg none, if_neg none, session_raiseVersion]
    simp only [none, ne_eq, not_false_eq_true, true_and]
    rfl

theorem books_addCoin (v : Nat) (s : State) :
    (addCoin v s).cru.books =
      { s.cru.books with
        credited := s.cru.books.credited + entering v s, overpay := s.cru.books.overpay + (v - entering v s) } := by
  rw [addCoin_eq]
  split
  · rfl
  · rw [raiseVersion_cru_books]; rfl

theorem totals_addCoin (v : Nat) (s : State) :
    (addCoin v s).ssu.totals =
      { s.ssu.totals with
        credited := moneyUp s.ssu.totals.credited (entering v s)
        overpay := moneyUp s.ssu.totals.overpay (v - entering v s) } := by
  rw [addCoin_eq]
  split
  · rfl
  · rw [raiseVersion_ssu]; rfl

theorem payout_addCoin (v : Nat) (s : State) : (addCoin v s).cru.payout = s.cru.payout := by
  rw [addCoin_eq]
  split
  · rfl
  · rw [raiseVersion_cru_payout]; rfl

theorem openSession_announced (v : Nat) {s : State} (first : s.cru.versionRaised = false) : Announced s (openSession v s) := by
  refine raiseVersion_announced ?_ ?_ ?_
  · exact first
  · rfl
  · rfl

/-- R37: the CREDIT of an added coin, which a coin with no space left does not bring. -/
theorem addCoin_announced (v : Nat) {s : State} (first : s.cru.versionRaised = false) :
    (entering v s = 0 ∧ StatusAsked s (addCoin v s)) ∨ (entering v s ≠ 0 ∧ Announced s (addCoin v s)) := by
  rw [addCoin_eq]
  split
  · next none => exact .inl ⟨none, .of_lnk rfl rfl⟩
  · next some => exact .inr ⟨some, raiseVersion_announced (t := coinEntered v s) first rfl rfl⟩

/-! ### The coin routed and credited -/

section
variable {s w : State} (routed : Routed s w)
include routed

theorem Routed.first : w.cru.versionRaised = false := by rw [routed.cru]; rfl

theorem Routed.session : w.cru.session = s.cru.session := by rw [routed.cru]; rfl

theorem Routed.books : w.cru.books = s.cru.books := by rw [routed.cru]; rfl

theorem Routed.risen : Credits.risen w.cru = s.cru.session.version + 1 := by rw [routed.cru]; exact risen_fresh rfl

theorem Routed.freshIdle : freshIdle w = if s.params.idleTime = 0 then none else some 0 := by
  unfold Machine.freshIdle; rw [routed.params]

theorem Routed.entering (v : Nat) : entering v w = min v (9999 - s.cru.session.balance - s.cru.session.heldAmount) := by
  unfold Keeping.entering space; rw [routed.session]; rfl

theorem Routed.asked : StatusAsked s w := .of_lnk routed.lnk (by rw [routed.cru]; rfl)

theorem Routed.announced {t : State} (h : Announced w t) : Announced s t :=
  h.after (by rw [routed.lnk]) (by rw [routed.lnk]) (by rw [routed.cru]; rfl)

end

/-- Settles O16: the routed coin opens the session (`openSession`) or is added to it (`addCoin`), and its tube is probed last. -/
theorem routedCoinEntersTheSession : Obligations.RoutedCoinEntersTheSession := by
  intro n c s takes coin stored
  obtain ⟨w, t, e, routed, probed⟩ := exec_routedCoin takes coin stored
  obtain ⟨asked, session, books, payout, ssu⟩ := probed
  by_cases idle : s.cru.session.state = .idle
  · have opens : creditCoin c.value w = openSession c.value w := if_pos (routed.session ▸ idle)
    rw [opens] at asked session books payout ssu
    have announced := routed.announced ((openSession_announced c.value routed.first).andStatus asked)
    refine ⟨t, e, announced.exact, fun _ => ⟨?_, ?_, ?_, announced.awaits⟩, absurd idle⟩
    · rw [session, session_openSession, routed.session, routed.risen, routed.freshIdle]
    · rw [books, books_openSession, routed.books]
    · rw [ssu, totals_openSession, routed.totals]; rfl
  · have adds : creditCoin c.value w = addCoin c.value w := if_neg (routed.session ▸ idle)
    rw [adds] at asked session books payout ssu
    have entry : (entering c.value w = 0 ∧ StatusAsked s t) ∨ (entering c.value w ≠ 0 ∧ Announced s t) :=
      (addCoin_announced c.value routed.first).imp (And.imp_right fun h => (routed.asked.trans h).trans asked)
        (And.imp_right fun h => routed.announced (h.andStatus asked))
    refine ⟨t, e, entry.elim (·.2.exact) (·.2.exact), (absurd · idle), fun _ => ?_⟩
    dsimp only
    rw [← routed.entering c.value]
    refine ⟨?_, ?_, ?_, ?_, fun enters => (entry.resolve_left fun h => enters h.1).2.awaits⟩
    · rw [session, session_addCoin, routed.session, routed.risen, routed.freshIdle]
    · rw [books, books_addCoin, routed.books]
    · rw [ssu, totals_addCoin, routed.totals]; rfl
    · rw [payout, payout_addCoin, routed.cru]; rfl

end Sys2Proof.Machine.Announcing
end

section
/-! PROOFS. The expiries of the credit session and the escrow lever: the hold, the refresh timer, the idle timer and the payout they
begin (R39, R51, R55, R58, R71 to R73). -/

namespace Sys2Proof.Machine.Announcing

set_option Elab.async false

open Laws Credits Intake Keeping

/-! ### What the time that passes at an expiry leaves (log 1) -/

/-- What no timer is part of stands while time passes. -/
theorem reach_same {α : Type} (f : State → α) {s : State} (h : ∀ d, f (advance d s) = f s) (limit now : Nat) :
    f (reach limit now s) = f s := by
  rcases elapse_cases (limit - now) s with e | e <;> rw [reach, e]
  exact h _

section
variable (limit now : Nat) (s : State)

@[simp] theorem reach_params : (reach limit now s).params = s.params := reach_same _ (fun _ => rfl) _ _
@[simp] theorem reach_inputs : (reach limit now s).inputs = s.inputs := reach_same _ (fun _ => rfl) _ _
@[simp] theorem reach_ssu : (reach limit now s).ssu = s.ssu := reach_same _ (fun _ => rfl) _ _
@[simp] theorem reach_books : (reach limit now s).cru.books = s.cru.books := reach_same (·.cru.books) (fun _ => rfl) _ _
@[simp] theorem reach_versionRaised : (reach limit now s).cru.versionRaised = s.cru.versionRaised :=
  reach_same (·.cru.versionRaised) (fun _ => rfl) _ _
@[simp] theorem reach_exactChangeOnly : (reach limit now s).cru.exactChangeOnly = s.cru.exactChangeOnly :=
  reach_same (·.cru.exactChangeOnly) (fun _ => rfl) _ _
@[simp] theorem reach_balance : (reach limit now s).cru.session.balance = s.cru.session.balance :=
  reach_same (·.cru.session.balance) (fun _ => rfl) _ _
@[simp] theorem reach_version : (reach limit now s).cru.session.version = s.cru.session.version :=
  reach_same (·.cru.session.version) (fun _ => rfl) _ _
@[simp] theorem reach_number : (reach limit now s).cru.session.number = s.cru.session.number :=
  reach_same (·.cru.session.number) (fun _ => rfl) _ _
@[simp] theorem reach_changeShort : (reach limit now s).cru.session.changeShort = s.cru.session.changeShort :=
  reach_same (·.cru.session.changeShort) (fun _ => rfl) _ _
@[simp] theorem reach_escrowPending : (reach limit now s).cru.session.escrowPending = s.cru.session.escrowPending :=
  reach_same (·.cru.session.escrowPending) (fun _ => rfl) _ _
@[simp] theorem reach_vsq_state : (reach limit now s).vsq.state = s.vsq.state := reach_same (·.vsq.state) (fun _ => rfl) _ _
@[simp] theorem reach_vsq_queue : (reach limit now s).vsq.queue = s.vsq.queue := reach_same (·.vsq.queue) (fun _ => rfl) _ _
@[simp] theorem reach_lnk_state : (reach limit now s).lnk.state = s.lnk.state := reach_same (·.lnk.state) (fun _ => rfl) _ _
@[simp] theorem reach_lnk_queue : (reach limit now s).lnk.queue = s.lnk.queue := reach_same (·.lnk.queue) (fun _ => rfl) _ _

end

/-- The time that passes at an expiry asks nothing of the link. -/
theorem Announced.reached {limit now : Nat} {s t : State} (h : Announced (reach limit now (openEvent s)) t) : Announced s t :=
  h.after (by simp) (by simp) (by simp)

theorem risen_reach (limit now : Nat) (s : State) : risen (reach limit now (openEvent s)).cru = s.cru.session.version + 1 := by
  rw [risen_fresh (by simp), reach_version]; rfl

theorem freshIdle_of {s t : State} (h : t.params = s.params) : freshIdle t = if s.params.idleTime = 0 then none else some 0 := by
  unfold freshIdle; rw [h]

/-! ### A payout begun (R55, R62, R73) -/

/-- R55, R73: the payout of the whole balance of `s` has begun in `t`, or has already ended short. -/
structure PayoutBegun (s t : State) : Prop where
  balance : t.cru.session.balance = s.cru.session.balance
  number : t.cru.session.number = s.cru.session.number
  version : t.cru.session.version = risen s.cru
  hold : t.cru.session.hold = s.cru.session.hold
  lastExpired : t.cru.session.lastExpired = s.cru.session.lastExpired
  escrowPending : t.cru.session.escrowPending = false
  outcome :
    (t.cru.session.state = .paying ∧ t.cru.payout.isSome = true ∧ t.cru.books = s.cru.books ∧ t.ssu.totals = s.ssu.totals) ∨
      (t.cru.session.state = .opened ∧ t.cru.session.changeShort = true ∧ t.cru.payout = none ∧
        t.cru.books = { s.cru.books with shortPays := countUp s.cru.books.shortPays 1 } ∧
        t.ssu.totals = { s.ssu.totals with shortPays := countUp s.ssu.totals.shortPays 1 })

theorem enterPaying_begun {s : State} (due : 0 < s.cru.session.balance) : PayoutBegun s (enterPaying s) := by
  rcases enterPaying_cases due with ⟨-, e⟩ | ⟨-, ⟨i, -, e⟩ | ⟨-, e⟩⟩ <;> rw [e]
  case inr.inr =>
    constructor
    case outcome => exact .inr (by simp)
    all_goals simp [risen]
  all_goals
    constructor
    case outcome => exact .inl ⟨by simp [awaitClear, pulse], by simp, by simp [awaitClear, pulse], by simp [awaitClear, pulse]⟩
    all_goals simp [awaitClear, pulse]

theorem PayoutBegun.payingOrShort {s t : State} (h : PayoutBegun s t) : PayingOrShort t.cru :=
  h.outcome.imp (fun ⟨paying, payout, _⟩ => ⟨paying, payout⟩) fun ⟨opened, short, ended, _⟩ => ⟨opened, short, ended⟩

/-- R68: a short ending is a short payment in the books and nothing else there. -/
theorem PayoutBegun.books {s t : State} (h : PayoutBegun s t) : ∃ n, t.cru.books = { s.cru.books with shortPays := n } :=
  h.outcome.elim (fun ⟨_, _, same, _⟩ => ⟨_, same⟩) fun ⟨_, _, _, counted, _⟩ => ⟨_, counted⟩

theorem PayoutBegun.totals {s t : State} (h : PayoutBegun s t) :
    ∃ n, t.ssu.totals = { s.ssu.totals with shortPays := n } :=
  h.outcome.elim (fun ⟨_, _, _, same⟩ => ⟨_, same⟩) fun ⟨_, _, _, _, counted⟩ => ⟨_, counted⟩

/-! ### The hold expires (R51) -/

/-- The state `v` is the event of `s` in which the hold `h` has expired, before the session's next state. -/
structure HoldBack (h : Hold) (s v : State) : Prop where
  first : v.cru.versionRaised = false
  version : risen v.cru = s.cru.session.version + 1
  hold : v.cru.session.hold = none
  balance : v.cru.session.balance = s.cru.session.balance + h.amount
  lastExpired : v.cru.session.lastExpired = some ⟨h.requester, h.tag⟩
  number : v.cru.session.number = s.cru.session.number
  changeShort : v.cru.session.changeShort = s.cru.session.changeShort
  books : v.cru.books = s.cru.books
  unsettled : v.ssu.totals.unsettledHolds = min 65535 (s.ssu.totals.unsettledHolds + 1)
  vend : v.vsq.state = s.vsq.state
  tubes : v.cnu.tubes = s.cnu.tubes
  idle : freshIdle v = if s.params.idleTime = 0 then none else some 0
  announced : ∀ t, Announced v t → Announced s t

theorem exec_holdExpiry {h : Hold} {s : State} (hold : s.cru.session.hold = some h) :
    ∃ v, HoldBack h s v ∧
      exec .holdExpiry s =
        .next (refreshOutputs (if s.cru.session.escrowPending then enterPaying v else enterOpen v)) := by
  let u := reach Config.holdTime h.age (openEvent s)
  refine ⟨holdReturned h u, ?_, ?_⟩
  · exact
      { first := reach_versionRaised _ _ _
        version := risen_reach _ _ s
        hold := rfl
        balance := congrArg (· + h.amount) (reach_balance _ _ _)
        lastExpired := rfl
        number := reach_number _ _ _
        changeShort := reach_changeShort _ _ _
        books := reach_books _ _ _
        unsettled := congrArg (fun x : Ssu => countUp x.totals.unsettledHolds 1) (reach_ssu Config.holdTime h.age (openEvent s))
        vend := reach_vsq_state _ _ _
        tubes := reach_tubes _ _ _
        idle := freshIdle_of (reach_params _ _ _)
        announced := fun t a => (a.after (s := u) rfl rfl rfl).reached }
  · show Host.Outcome.next (refreshOutputs (endOldHold (openEvent s))) = _
    unfold endOldHold
    rw [show (openEvent s).cru.session.hold = some h from hold]
    show Host.Outcome.next (refreshOutputs (expireHold h u)) = _
    rw [expireHold_eq, show u.cru.session.escrowPending = s.cru.session.escrowPending from reach_escrowPending _ _ _]

/-- Settles O23: the amount is back in the balance (`HoldBack`), and the session opens or its payout begins. -/
theorem holdExpires : Obligations.HoldExpires := by
  intro h s hold money
  obtain ⟨v, back, e⟩ := exec_holdExpiry hold
  refine ⟨_, e, ?_⟩
  cases s.cru.session.escrowPending with
  | false =>
    have announced := back.announced _ (enterOpen_announced back.first)
    rw [if_neg nofun]
    refine ⟨?_, ?_, ?_, ?_, ?_, ?_, ?_, ?_, ?_, ?_, ?_, ?_, announced.awaits, announced.exact, fun _ => ⟨?_, ?_, ?_⟩, nofun⟩
    all_goals simp [back.hold, back.balance, back.lastExpired, back.version, back.number, back.changeShort, back.unsettled,
      back.books, back.vend, back.tubes, back.idle]
  | true =>
    have announced := back.announced _ (enterPaying_announced back.first)
    have begun := enterPaying_begun (s := v) (by rw [back.balance]; exact money)
    obtain ⟨n, books⟩ := begun.books
    obtain ⟨m, totals⟩ := begun.totals
    rw [if_pos rfl]
    refine ⟨?_, ?_, ?_, ?_, ?_, ?_, ?_, ?_, ?_, ?_, ?_, ?_, announced.awaits, announced.exact, nofun,
      fun _ => ⟨begun.payingOrShort, begun.escrowPending⟩⟩
    all_goals simp [begun.hold, begun.balance, begun.lastExpired, begun.version, begun.number, totals, books, back.hold,
      back.balance, back.lastExpired, back.version, back.number, back.unsettled, back.books, back.vend, back.tubes]

end Sys2Proof.Machine.Announcing
end

section
/-! PROOFS. The refresh timer, the escrow lever and the idle timer (R39, R55, R58, R71 to R73). -/

namespace Sys2Proof.Machine.Announcing

set_option Elab.async false

open Laws Credits Intake Keeping

/-! ### A CREDIT asked for again (R39) -/

/-- R168: a superseding frame asked for is taken exactly where it has room. -/
theorem request_taken_iff {f : Frame} (supersedes : superseding f = true) (s : State) : (request f s).2 = true ↔ HasRoom f s := by
  rw [hasRoom_iff, ← any_waits_iff, places_length]
  unfold request
  by_cases listens : listenOnly s = true
  · simp [listens, (listenOnly_iff s).mp listens]
  · have link : s.lnk.state ≠ .listenOnly := mt (listenOnly_iff s).mpr listens
    rw [if_neg listens, supersedes, Bool.true_and]
    by_cases waits : s.lnk.queue.any (TxEntry.waits f) = true
    · simp [waits, link]
    · by_cases free : s.lnk.queue.length < 8 <;> simp [waits, link, free, Config.queuePlaces]

/-- R168: a frame that is not taken leaves the state as it is. -/
theorem request_refused {f : Frame} {s : State} (h : (request f s).2 = false) : request f s = (s, false) := by
  rcases request_cases f s with ⟨e, -⟩ | ⟨e, -⟩ | ⟨e, -⟩ <;> rw [e] at h ⊢ <;> cases h

theorem queueCredit_room {s : State} (room : HasRoom .credit s) :
    Awaits .credit (queueCredit s) ∧ (queueCredit s).cru = { s.cru with refresh := some 0, owed := false } := by
  have taken := (request_taken_iff rfl s).mpr room
  rw [queueCredit, if_neg (mt (listenOnly_iff s).mp room.1)]
  refine ⟨(awaits_iff _ _).mpr ?_, ?_⟩
  · show _ ∈ places (request .credit s).1
    rw [request_places]
    exact mem_withFrame_of_hasRoom room
  · show { (request .credit s).1.cru with refresh := some 0, owed := !(request .credit s).2 } = _
    rw [taken, request_cru]; rfl

theorem queueCredit_full {s : State} (link : s.lnk.state ≠ .listenOnly) (full : ¬ HasRoom .credit s) :
    queueCredit s = { s with cru := { s.cru with refresh := some 0, owed := true } } := by
  have refused := request_refused (Bool.eq_false_iff.mpr (mt (request_taken_iff rfl s).mp full))
  rw [queueCredit, if_neg (mt (listenOnly_iff s).mp link)]
  dsimp only
  rw [refused]
  rfl

theorem expireRefresh_eq (s : State) :
    expireRefresh s =
      if s.lnk.state ≠ .listenOnly ∧ (s.cru.owed = true ∨ s.cru.session.state ≠ .idle) then queueCredit s
      else { s with cru := { s.cru with refresh := none } } := by
  unfold expireRefresh
  simp only [Bool.and_eq_true, Bool.not_eq_true', ← Bool.not_eq_true, listenOnly_iff, Bool.or_eq_true, bne_iff_ne]
  rfl

theorem exec_refreshTimerExpiry {r : Nat} {s : State} (runs : s.cru.refresh = some r) :
    exec .refreshTimerExpiry s =
      .next (refreshOutputs (expireRefresh (elapse ((if s.cru.owed = true then 250 else 2000) - r) (openEvent s)))) := by
  show Host.Outcome.next (refreshOutputs (endRefresh (openEvent s))) = _
  unfold endRefresh
  rw [show (openEvent s).cru.refresh = some r from runs]
  rfl

/-- Settles O24: the expiry is `expireRefresh` once the time has passed, which leaves what it reads. -/
theorem refreshTimerRepeatsTheCredit : Obligations.RefreshTimerRepeatsTheCredit := by
  intro r s runs u
  have e : exec .refreshTimerExpiry s = .next (refreshOutputs (expireRefresh u)) := exec_refreshTimerExpiry runs
  have waited {α : Type} (f : State → α) (same : ∀ d v, f (advance d v) = f v) : f u = f (openEvent s) :=
    (elapse_cases _ _).elim (congrArg f) fun a => (congrArg f a).trans (same _ _)
  have link : u.lnk.state = s.lnk.state := waited (·.lnk.state) fun _ _ => rfl
  have owed : u.cru.owed = s.cru.owed := waited (·.cru.owed) fun _ _ => rfl
  have state : u.cru.session.state = s.cru.session.state := waited (·.cru.session.state) fun _ _ => rfl
  have queue : u.lnk.queue = s.lnk.queue := waited (·.lnk.queue) fun _ _ => rfl
  have room : HasRoom .credit u ↔ HasRoom .credit s := by unfold HasRoom Awaits; rw [link, queue]
  rw [e, expireRefresh_eq, link, owed, state]
  split
  · next repeats =>
    refine ⟨fun free => ?_, fun full => ?_⟩
    · obtain ⟨waits, cru⟩ := queueCredit_room (room.mpr free)
      exact ⟨_, rfl, waits, cru, by simp, by simp, by simp, by simp, by simp, by simp⟩
    · rw [queueCredit_full (link ▸ repeats.1) (mt room.mp full)]
  · rfl

/-! ### The payout of the lever or of the idle timer (R55, R58, R71) -/

/-- The state `u` is the event of `s` in which the balance is to be paid out: its payment begins with `enterPaying`. -/
structure PaysOut (s u : State) : Prop where
  first : u.cru.versionRaised = false
  version : risen u.cru = s.cru.session.version + 1
  balance : u.cru.session.balance = s.cru.session.balance
  number : u.cru.session.number = s.cru.session.number
  books : u.cru.books = s.cru.books
  totals : u.ssu.totals = s.ssu.totals
  exit : u.inputs.exit = s.inputs.exit
  tubes : u.cnu.tubes = s.cnu.tubes
  selections : u.vsq.queue = s.vsq.queue
  idle : freshIdle u = if s.params.idleTime = 0 then none else some 0
  announced : ∀ t, Announced u t → Announced s t

theorem exec_escrowLever {s : State} (runs : s.phase = .running) :
    exec .escrowLever s =
      .next (refreshOutputs (pressLever ((openEvent s).modInputs fun n => { n with lever := Filter.standing true }))) := by
  show Host.Outcome.next (refreshOutputs (running _ ((openEvent s).modInputs _))) = _
  rw [running_eq (s := (openEvent s).modInputs _) runs]

theorem exec_idleTimerExpiry {k : Nat} {s : State} (runs : s.cru.session.idleTimer = some k) (state : s.cru.session.state = .opened) :
    exec .idleTimerExpiry s = .next (refreshOutputs (expireIdle (reach (s.params.idleTime * 1000) k (openEvent s)))) := by
  show Host.Outcome.next (refreshOutputs (endIdleTime (openEvent s))) = _
  unfold endIdleTime
  rw [show (openEvent s).cru.session.idleTimer = some k from runs]
  dsimp only
  rw [if_pos (show (openEvent s).cru.session.state = .opened from state)]
  rfl

/-- R58, R71: the lever, and the idle timer's expiry without change-short, begin the payout. -/
theorem exec_paysOut {c : Instr} {s : State} (state : s.cru.session.state = .opened)
    (cause : (c = .escrowLever ∧ s.phase = .running) ∨
      (c = .idleTimerExpiry ∧ s.cru.session.idleTimer.isSome = true ∧ s.cru.session.changeShort = false)) :
    ∃ u, PaysOut s u ∧ exec c s = .next (refreshOutputs (enterPaying u)) := by
  rcases cause with ⟨rfl, runs⟩ | ⟨rfl, timer, short⟩
  · let u := (openEvent s).modInputs fun n => { n with lever := Filter.standing true }
    refine ⟨u, ⟨rfl, risen_fresh rfl, rfl, rfl, rfl, rfl, rfl, rfl, rfl, rfl, fun t a => a.after rfl rfl rfl⟩, ?_⟩
    rw [exec_escrowLever runs]
    show Host.Outcome.next (refreshOutputs (pressLever u)) = _
    unfold pressLever
    rw [show u.cru.session.state = .opened from state]
  · obtain ⟨k, runs⟩ := Option.isSome_iff_exists.mp timer
    let u := reach (s.params.idleTime * 1000) k (openEvent s)
    refine ⟨u, ?_, ?_⟩
    · exact ⟨reach_versionRaised _ _ _, risen_reach _ _ s, reach_balance _ _ _, reach_number _ _ _, reach_books _ _ _,
        congrArg Ssu.totals (reach_ssu _ _ _), congrArg Inputs.exit (reach_inputs _ _ _), reach_tubes _ _ _,
        reach_vsq_queue _ _ _, freshIdle_of (reach_params _ _ _), fun t a => a.reached⟩
    · rw [exec_idleTimerExpiry runs state, expireIdle,
        if_neg (by rw [reach_changeShort]; exact Bool.eq_false_iff.mp short)]

/-- R58: the session a forfeit leaves. -/
theorem session_forfeit (s : State) : (forfeit s).cru.session = (enterIdle s).cru.session := by
  rw [forfeit_eq, session_enterIdle, session_enterIdle]; rfl

/-- R58: with no hold, what time changes of the session is its idle timer. -/
theorem reach_session (limit now : Nat) {s : State} (none : s.cru.session.hold = none) :
    (reach limit now s).cru.session = { s.cru.session with idleTimer := (reach limit now s).cru.session.idleTimer } := by
  rcases elapse_cases (limit - now) s with e | e <;> rw [reach, e]
  unfold advance Cru.later
  simp only [none, Option.map_none]

theorem forfeit_announced {s : State} (first : s.cru.versionRaised = false) : Announced s (forfeit s) :=
  (enterIdle_announced (s := forfeited s) first).after rfl rfl rfl

/-- Settles O25: the payout begins as `enterPaying_cases` says, the forfeit enters IDLE, and the lever elsewhere sets a mark. -/
theorem leverAndIdleTimer : Obligations.LeverAndIdleTimer := by
  refine ⟨fun c s state due cause => ?pays, fun k s runs state none short => ?forfeits, fun s runs state => ?lever⟩
  case pays =>
    obtain ⟨u, pays, e⟩ := exec_paysOut state cause
    have due' : 0 < u.cru.session.balance := by rw [pays.balance]; exact due
    have announced := pays.announced _ (enterPaying_announced pays.first)
    have begun := enterPaying_begun due'
    obtain ⟨n, books⟩ := begun.books
    refine ⟨_, e, begun.balance.trans pays.balance, begun.version.trans pays.version, begun.number.trans pays.number,
      begun.escrowPending, by simp [pays.tubes], by simp [pays.selections], by simp [books, pays.books],
      by simp [books, pays.books], announced.exact, ?_⟩
    have next : nextTube (turnPaying u) u.cru.session.balance = nextTube s s.cru.session.balance := by
      rw [nextTube_congr (s := s) (by rw [turnPaying_cnu, pays.tubes]), pays.balance]
    have idle : freshIdle (turnPaying u) = if s.params.idleTime = 0 then Option.none else some 0 :=
      (freshIdle_congr (by simp)).trans pays.idle
    rcases enterPaying_cases due' with ⟨blocked, paid⟩ | ⟨clear, ⟨i, plan, paid⟩ | ⟨plan, paid⟩⟩ <;> rw [paid]
    · rw [if_pos (pays.exit ▸ blocked)]
      exact ⟨by simp [awaitClear], _, rfl, rfl, rfl, rfl, rfl⟩
    · rw [if_neg (by rw [← pays.exit, clear]; nofun), next.symm.trans plan]
      exact ⟨by simp [pulse], rfl, rfl⟩
    · rw [if_neg (by rw [← pays.exit, clear]; nofun), next.symm.trans plan]
      simp [pays.books, pays.totals, idle, countUp, Config.countMax]
  case forfeits =>
    let u := reach (s.params.idleTime * 1000) k (openEvent s)
    have first : u.cru.versionRaised = false := reach_versionRaised _ _ _
    have announced : Announced s (forfeit u) := (forfeit_announced first).reached
    have balance : u.cru.session.balance = s.cru.session.balance := reach_balance _ _ _
    have short' : u.cru.session.changeShort = true := (reach_changeShort _ _ _).trans short
    have e : exec .idleTimerExpiry s = .next (refreshOutputs (forfeit u)) := by
      rw [exec_idleTimerExpiry runs state, expireIdle, if_pos short']
    refine ⟨_, e, ?_, ?_, ?_, announced.exact, ?_, announced.awaits⟩
    · show (forfeit u).cru.session = _
      rw [session_forfeit, session_enterIdle, risen_reach, reach_session _ _ (s := openEvent s) none]
      rfl
    · show (forfeit u).cru.books = _
      rw [forfeit_eq, enterIdle_cru_books]
      show { u.cru.books with forfeited := u.cru.books.forfeited + u.cru.session.balance } = _
      rw [reach_books, balance]; rfl
    · show (forfeit u).ssu.totals.forfeited = _
      rw [forfeit_eq, enterIdle_ssu]
      show moneyUp u.ssu.totals.forfeited u.cru.session.balance = _
      rw [reach_ssu, balance]; rfl
    · show (forfeit u).cnu.tubes = _
      rw [forfeit_cnu, reach_tubes]; rfl
  case lever =>
    rw [exec_escrowLever runs]
    let u := (openEvent s).modInputs fun n => { n with lever := Filter.standing true }
    show Host.Outcome.next (refreshOutputs (pressLever u)) = _
    unfold pressLever
    cases h : s.cru.session.state <;> rw [show u.cru.session.state = _ from h]
    · rfl
    · exact absurd h state
    · rfl
    · rfl

end Sys2Proof.Machine.Announcing
end

section
/-! PROOFS. DEBIT and SETTLE heard (R41 to R50). -/

namespace Sys2Proof.Machine.Announcing

set_option Elab.async false

open Laws Credits Intake Keeping

/-! ### A directed frame heard (R164) -/

@[simp] theorem hearing_cru (src : Station) (s : State) : (hearing src s).cru = (openEvent s).cru := by rw [hearing_eq]
@[simp] theorem hearing_cca (src : Station) (s : State) : (hearing src s).cca = s.cca := by rw [hearing_eq]; rfl

theorem directed_here {own : Station} {s : State} (here : s.ssu.own = own) (used : own ≠ 0) (f : State → State) :
    directed own f s = f s := if_pos ⟨here.symm, used⟩

/-- R164: a frame heard whose delivery leaves no signal is delivered in the state that hearing leaves. -/
theorem event_heard {src : Station} {s : State} (h : Hears src s) {f : State → State}
    (lbu : (f (hearing src s)).lbu = (hearing src s).lbu) :
    event (hear src f) s = .next (refreshOutputs (f (hearing src s))) := by
  rw [event_next, hear_hearing h, runAgenda_nil (by rw [lbu, hearing_agenda])]

theorem hears_listenOnly {src : Station} {s : State} (receiving : s.phase ≠ .heldOff) (other : src ≠ s.ssu.own)
    (settled : LoadsSettled s) : Hears src s := ⟨receiving, other, .inl settled⟩

/-- R41, R170: what hearing does to a LISTEN-ONLY link. -/
theorem hearing_quiet (src : Station) {s : State} (listens : s.lnk.state = .listenOnly) :
    (hearing src s).lnk = { s.lnk with heard := true, isolationTimer := 0, acknowledged := false } := by
  unfold hearing
  simp [listens]

theorem known_active {src : Station} {s : State} (h : Known src s) : s.lnk.state = .active := by
  have := h.together
  simp only [isolated, Bool.or_eq_false_iff, bne_eq_false_iff_eq] at this
  exact this.2

/-- R168: an answer asked for with a place free stands at the queue's end, and what waits goes on to wait. -/
theorem send_answer {f : Frame} {s : State} (link : s.lnk.state ≠ .listenOnly) (plain : superseding f = false)
    (free : s.lnk.queue.length < 8) :
    (send f s).lnk.queue.getLast? = some (TxEntry.fresh f) ∧ ∀ g, Awaits g s → Awaits g (send f s) := by
  rw [send_fresh (Bool.eq_false_iff.mpr (mt (listenOnly_iff s).mp link)) plain free]
  exact ⟨List.getLast?_concat .., fun g ⟨e, mem, waits⟩ => ⟨e, List.mem_append_left _ mem, waits⟩⟩

/-! ### DEBIT (R42 to R44) -/

/-- TABLE 3-3: the checks in their order. -/
theorem debitCheck_eq (r : Station) (n : Byte) (a : Nat) (tag : Byte) (x : Option Half) (s : State) :
    debitCheck r n a tag x s =
      if coinStation s = false ∨ n ≠ s.cru.session.number ∨ s.cru.session.state = .idle ∨ s.cru.session.state = .paying then
        .noSession
      else if ∃ h, s.cru.session.hold = some h ∧ h.requester = r ∧ h.tag = tag then .granted
      else if s.cru.session.hold.isSome = true then .heldBusy
      else if x ≠ some s.cru.session.version then .stale
      else if s.cru.session.balance < a then .short
      else if 0 < s.cru.session.balance - a ∧ planExact s (s.cru.session.balance - a) = false then .noChange
      else .granted := by
  unfold debitCheck
  cases hold : s.cru.session.hold <;> simp [hold, or_assoc]

theorem grantDebit_announced {r : Station} {a : Nat} {tag : Byte} {s : State} (first : s.cru.versionRaised = false) :
    Announced s (grantDebit r a tag s) :=
  raiseVersion_announced (t := s.modSession fun c =>
    { c with balance := c.balance - a, state := .held, idleTimer := none, hold := some ⟨r, tag, a, 0⟩ }) first rfl rfl

/-- R41: a DEBIT taken is answered from what `takeDebit` makes of it. -/
theorem answerDebit_taken {s : State} (link : s.lnk.state ≠ .listenOnly) (r : Station) (n : Byte) (a : Nat) (tag : Byte)
    (x : Option Half) {o : DebitOutcome} {b : Option Nat} {v : Option Half} {u : State}
    (taken : takeDebit r n a tag x s = (u, ⟨o, b, v⟩)) : answerDebit r n a tag x s = send (.debitAnswer r tag o b v) u := by
  rw [answerDebit, if_neg (mt (listenOnly_iff s).mp link), taken]

section Known
variable {src own : Station} {n : Byte} {amount : Half} {tag : Byte} {x : Option Half} {s : State}
variable (known : Known src s) (here : s.ssu.own = own) (used : own ≠ 0)
include known here used

theorem exec_debitReceived :
    exec (.debitReceived src own n amount tag x) s =
      .next (refreshOutputs (answerDebit src n amount.toNat tag x (hearing src s))) := by
  have heard : (hearing src s).ssu.own = own := by rw [hearing_own, here]
  show event (hear src (directed own (answerDebit src n amount.toNat tag x))) s = _
  rw [event_heard known.hears.1, directed_here heard used]
  rw [directed_here heard used]
  unfold answerDebit
  split <;> simp

end Known

/-- TABLE 3-4: whatever the checks say, a DEBIT leaves the books, and but for a new grant the session and the queue. -/
theorem takeDebit_leaves {r : Station} {n : Byte} {a : Nat} {tag : Byte} {x : Option Half} {s : State}
    (first : s.cru.versionRaised = false) {u : State} {d : DebitReply} (taken : takeDebit r n a tag x s = (u, d)) :
    u.cru.books = s.cru.books ∧ u.cnu = s.cnu ∧ u.vsq = s.vsq ∧ u.cca = s.cca ∧ u.ssu = s.ssu ∧
      (d.outcome ≠ .granted → u.cru.session = s.cru.session) ∧ (u = s ∨ Announced s u) := by
  rcases takeDebit_cases r n a tag x s with ⟨-, -, e⟩ | ⟨-, e⟩ <;> rw [e] at taken <;> cases taken
  · exact ⟨by simp, by simp, by simp, by simp, by simp, fun refused => absurd rfl refused, .inr (grantDebit_announced first)⟩
  · exact ⟨rfl, rfl, rfl, rfl, rfl, fun _ => rfl, .inl rfl⟩

theorem takeDebit_old {r : Station} {n : Byte} {a : Nat} {tag : Byte} {x : Option Half} {s : State} {o : DebitOutcome}
    (check : debitCheck r n a tag x s = o) (old : o ≠ .granted ∨ s.cru.session.hold ≠ none) :
    takeDebit r n a tag x s = (s, debitReply o s) := by
  rcases takeDebit_cases r n a tag x s with ⟨granted, none, -⟩ | ⟨-, e⟩
  · exact absurd none (old.resolve_left fun refused => refused (check.symm.trans granted))
  · rw [e, check]

theorem takeDebit_new {r : Station} {n : Byte} {a : Nat} {tag : Byte} {x : Option Half} {s : State}
    (check : debitCheck r n a tag x s = .granted) (none : s.cru.session.hold = none) :
    takeDebit r n a tag x s = (grantDebit r a tag s, debitReply .granted (grantDebit r a tag s)) := by
  rcases takeDebit_cases r n a tag x s with ⟨-, -, e⟩ | ⟨old, -⟩
  · exact e
  · exact absurd none (old.resolve_left fun refused => refused check)

/-- TABLE 3-3, TABLE 3-4: what each check makes of the session, with the fields of its answer. -/
theorem takeDebit_checked {r : Station} {n : Byte} {a : Nat} {tag : Byte} {x : Option Half} {s : State} {u : State}
    {d : DebitReply} (taken : takeDebit r n a tag x s = (u, d)) :
    let c := s.cru.session
    if coinStation s = false ∨ n ≠ c.number ∨ c.state = .idle ∨ c.state = .paying then d = ⟨.noSession, none, none⟩
    else if ∃ h, c.hold = some h ∧ h.requester = r ∧ h.tag = tag then d = ⟨.granted, some c.balance, some c.version⟩ ∧ u = s
    else if c.hold.isSome = true then d = ⟨.heldBusy, none, none⟩
    else if x ≠ some c.version then d = ⟨.stale, some c.balance, some c.version⟩
    else if c.balance < a then d = ⟨.short, some c.balance, none⟩
    else if 0 < c.balance - a ∧ planExact s (c.balance - a) = false then d = ⟨.noChange, none, none⟩
    else d = ⟨.granted, some (c.balance - a), some (risen s.cru)⟩ ∧ u = grantDebit r a tag s := by
  have check := debitCheck_eq r n a tag x s
  dsimp only
  have refused {o : DebitOutcome} (check : debitCheck r n a tag x s = o) (old : o ≠ .granted) : d = debitReply o s := by
    rw [takeDebit_old check (.inl old)] at taken
    exact (congrArg Prod.snd taken).symm
  split_ifs at check ⊢ with session repeated held stale short change
  · exact refused check nofun
  · obtain ⟨h, hold, -⟩ := repeated
    rw [takeDebit_old check (.inr (by rw [hold]; nofun))] at taken
    cases taken
    exact ⟨rfl, rfl⟩
  · exact refused check nofun
  · exact refused check nofun
  · exact refused check nofun
  · exact refused check nofun
  · have none : s.cru.session.hold = none := by simpa using held
    rw [takeDebit_new check none] at taken
    cases taken
    simp [debitReply]

section
variable {src own : Station} {tag : Byte} {s : State}

/-- R41, R170: a DEBIT heard in LISTEN-ONLY has its source noted and no more. -/
theorem exec_debit_listenOnly {dst : Station} {n : Byte} {amount : Half} {x : Option Half} (receiving : s.phase ≠ .heldOff)
    (other : src ≠ s.ssu.own) (listens : s.lnk.state = .listenOnly) (settled : LoadsSettled s) :
    exec (.debitReceived src dst n amount tag x) s = .next (refreshOutputs (hearing src s)) := by
  have link : (hearing src s).lnk.state = .listenOnly := by rw [hearing_quiet src listens]; exact listens
  have untaken : directed dst (answerDebit src n amount.toNat tag x) (hearing src s) = hearing src s := by
    have same : answerDebit src n amount.toNat tag x (hearing src s) = hearing src s := if_pos ((listenOnly_iff _).mpr link)
    rw [directed, same, ite_self]
  show event (hear src (directed dst (answerDebit src n amount.toNat tag x))) s = _
  rw [event_heard (hears_listenOnly receiving other settled) (by rw [untaken]), untaken]

theorem known_link (known : Known src s) : (hearing src s).lnk.state ≠ .listenOnly := by
  rw [known.hears.2]
  show s.lnk.state ≠ _
  rw [known_active known]
  nofun

theorem known_queue (known : Known src s) : (hearing src s).lnk.queue = s.lnk.queue := by rw [known.hears.2]; rfl

theorem coinStation_hearing : coinStation (hearing src s) = coinStation s := by
  simp [coinStation, configured, hearing_own]

end

/-- Settles O21: the frame reaches `takeDebit` in the state after hearing, whose checks are those of TABLE 3-3
(`takeDebit_checked`); in LISTEN-ONLY it reaches nothing. -/
theorem debitIsCheckedInOrder : Obligations.DebitIsCheckedInOrder := by
  refine ⟨fun src own n amount tag x s known here used short => ?taken,
    fun src dst n amount tag x s receiving other listens settled => ?untaken⟩
  case taken =>
    obtain ⟨⟨u, o, b, v⟩, taken⟩ : ∃ d, takeDebit src n amount.toNat tag x (hearing src s) = d := ⟨_, rfl⟩
    have first : (hearing src s).cru.versionRaised = false := by rw [hearing_cru]; rfl
    have link := known_link known
    have queue := known_queue known
    obtain ⟨books, cnu, vsq, cca, ssu, session, grows⟩ := takeDebit_leaves first taken
    have link' : u.lnk.state ≠ .listenOnly := by
      rcases grows with rfl | grows
      · exact link
      · rwa [grows.link]
    have free : u.lnk.queue.length < 8 := by
      rcases grows with rfl | grows
      · rw [queue]; omega
      · have := grows.length_le
        rw [queue] at this; omega
    obtain ⟨last, waits⟩ := send_answer (f := .debitAnswer src tag o b v) link' rfl free
    have e : exec (.debitReceived src own n amount tag x) s = .next (refreshOutputs (send (.debitAnswer src tag o b v) u)) := by
      rw [exec_debitReceived known here used, answerDebit_taken link src n amount.toNat tag x taken]
    refine ⟨_, o, b, v, e, last, ?_⟩
    have checked := takeDebit_checked taken
    have plan (k : Nat) : planExact (hearing src s) k = planExact s k := planExact_congr (by simp) k
    simp only [hearing_session, coinStation_hearing, plan] at checked
    refine ⟨by simp [books], by simp [cnu], by simp [vsq], by simp [cca], by simp [ssu, hearing_own],
      fun refused => by simp [session refused], ?_⟩
    split_ifs at checked ⊢
    · cases checked; exact ⟨rfl, rfl, rfl⟩
    · obtain ⟨reply, rfl⟩ := checked
      cases reply
      exact ⟨rfl, rfl, rfl, by simp⟩
    · cases checked; exact ⟨rfl, rfl, rfl⟩
    · cases checked; exact ⟨rfl, rfl, rfl⟩
    · cases checked; exact ⟨rfl, rfl, rfl⟩
    · cases checked; exact ⟨rfl, rfl, rfl⟩
    · obtain ⟨reply, rfl⟩ := checked
      have version : risen (hearing src s).cru = s.cru.session.version + 1 := by rw [hearing_cru]; exact risen_fresh rfl
      rw [version] at reply
      cases reply
      have room : HasRoom .credit (hearing src s) := ⟨link, .inr (by rw [queue]; omega)⟩
      refine ⟨rfl, rfl, rfl, waits _ ((grantDebit_announced first).awaits room), ?_⟩
      show (send _ _).cru.session = _
      rw [send_cru, session_grantDebit, version, hearing_session]
  case untaken =>
    refine ⟨_, exec_debit_listenOnly receiving other listens settled, ?_⟩
    have quiet := hearing_quiet src listens
    simp [quiet, hearing_own]

end Sys2Proof.Machine.Announcing
end

section
/-! PROOFS. A SETTLE heard (R48 to R50). -/

namespace Sys2Proof.Machine.Announcing

set_option Elab.async false

open Laws Credits Intake Keeping

/-! ### The next state after a matching settlement (R49) -/

/-- R49: the conditions under which the settlement begins a payout of what is in the balance. -/
def Begins (r : SettleResult) (s : State) : Prop :=
  0 < s.cru.session.balance ∧ (s.cru.session.escrowPending = true ∨ (r = .vended ∧ s.params.multiVend = false))

/-- From `s` to `t` the session has entered IDLE with nothing left in it. -/
structure Emptied (s t : State) : Prop where
  session :
    t.cru.session =
      { s.cru.session with
        state := .idle, balance := 0, version := risen s.cru, changeShort := false, escrowPending := false
        idleTimer := none }
  books : t.cru.books = s.cru.books
  totals : t.ssu.totals = s.ssu.totals

theorem enterIdle_emptied (s : State) : Emptied s (enterIdle s) := ⟨session_enterIdle s, by simp, by simp⟩

theorem afterSettle_cases (r : SettleResult) (s : State) :
    (Begins r s ∧ PayoutBegun s (afterSettle r s)) ∨
      (s.cru.session.balance = 0 ∧ Emptied s (afterSettle r s)) ∨
      (0 < s.cru.session.balance ∧ s.cru.session.escrowPending = false ∧ ¬ Begins r s ∧ afterSettle r s = enterOpen s) := by
  let cleared := s.modSession fun c => { c with escrowPending := false }
  unfold afterSettle
  dsimp only
  split
  · next escrow =>
    split
    · next empty =>
      obtain ⟨session, books, totals⟩ := enterIdle_emptied cleared
      exact .inr (.inl ⟨empty, session, books, totals⟩)
    · next some =>
      have due := Nat.pos_of_ne_zero some
      obtain ⟨balance, number, version, hold, last, pending, outcome⟩ := enterPaying_begun (s := cleared) due
      exact .inl ⟨⟨due, .inl escrow⟩, balance, number, version, hold, last, pending, outcome⟩
  · next escrow =>
    split
    · next vended => exact .inl ⟨⟨vended.2.2, .inr ⟨vended.1, vended.2.1⟩⟩, enterPaying_begun vended.2.2⟩
    · next kept =>
      split
      · next empty => exact .inr (.inl ⟨empty, enterIdle_emptied s⟩)
      · next some =>
        refine .inr (.inr ⟨Nat.pos_of_ne_zero some, Bool.eq_false_iff.mpr escrow, fun ⟨due, cause⟩ => ?_, rfl⟩)
        exact cause.elim escrow fun ⟨vended, single⟩ => kept ⟨vended, single, due⟩

/-! ### A SETTLE heard -/

theorem totals_endHold (r : SettleResult) (s : State) :
    (endHold r s).ssu.totals =
      { s.ssu.totals with
        sold := if r = .vended then moneyUp s.ssu.totals.sold s.cru.session.heldAmount else s.ssu.totals.sold } := by
  cases r <;> rfl

section
variable {src own : Station} {tag n : Byte} {r : SettleResult} {s : State}

theorem exec_settleReceived (hears : Hears src s) (here : s.ssu.own = own) (used : own ≠ 0) :
    exec (.settleReceived src own tag n r) s = .next (refreshOutputs (answerSettle src tag n r (hearing src s))) := by
  have heard : (hearing src s).ssu.own = own := by rw [hearing_own, here]
  show event (hear src (directed own (answerSettle src tag n r))) s = _
  rw [event_heard hears, directed_here heard used]
  rw [directed_here heard used]
  simp [answerSettle]

/-- R48: a SETTLE that matches the hold ends it, and is answered OK. -/
theorem answerSettle_matched (matched : settleMatches src tag n s = true) :
    answerSettle src tag n r s = send (.settleAnswer src tag .ok) (afterSettle r (endHold r s)) := by
  rw [answerSettle, takeSettle, if_pos matched]

/-- R50: one that matches no hold changes nothing. -/
theorem answerSettle_unmatched (unmatched : settleMatches src tag n s = false) :
    answerSettle src tag n r s = send (.settleAnswer src tag (unmatchedAnswer src tag s)) s := by
  rw [answerSettle, takeSettle, if_neg (by simp [unmatched])]

theorem settled_announced (first : s.cru.versionRaised = false) : Announced s (afterSettle r (endHold r s)) :=
  (afterSettle_announced (s := endHold r s) (by simp [first])).after (by simp) (by simp) (by simp)

end

theorem hearing_first (src : Station) (s : State) : (hearing src s).cru.versionRaised = false := by rw [hearing_cru]; rfl

theorem settleMatches_hearing {src : Station} {tag n : Byte} {h : Hold} {s : State} (hold : s.cru.session.hold = some h)
    (requester : h.requester = src) (tagged : h.tag = tag) (number : n = s.cru.session.number) :
    settleMatches src tag n (hearing src s) = true :=
  (settleMatches_iff src tag n _).mpr ⟨h, by rw [hearing_session, hold], requester, tagged, by rw [hearing_session, number]⟩

/-- R48: the balance a settlement leaves to the session's next state. -/
def settledBalance (r : SettleResult) (h : Hold) (s : State) : Nat :=
  if r = .notVended then s.cru.session.balance + h.amount else s.cru.session.balance

/-- R49, R73: the payout that the settlement begins has ended short in `t`. -/
def EndsShort (r : SettleResult) (h : Hold) (s t : State) : Prop :=
  0 < settledBalance r h s ∧ (s.cru.session.escrowPending = true ∨ (r = .vended ∧ s.params.multiVend = false)) ∧
    t.cru.session.state = .opened

/-- The state `v` is the event of `s` with the hold `h` ended by a settlement of result `r`, before the session's next state. -/
structure HoldEnded (r : SettleResult) (h : Hold) (s v : State) : Prop where
  hold : v.cru.session.hold = none
  number : v.cru.session.number = s.cru.session.number
  balance : v.cru.session.balance = settledBalance r h s
  lastExpired : v.cru.session.lastExpired = s.cru.session.lastExpired
  escrowPending : v.cru.session.escrowPending = s.cru.session.escrowPending
  version : risen v.cru = s.cru.session.version + 1
  books : v.cru.books = { s.cru.books with sold := if r = .vended then s.cru.books.sold + h.amount else s.cru.books.sold }
  totals :
    v.ssu.totals =
      { s.ssu.totals with sold := if r = .vended then min 4294967295 (s.ssu.totals.sold + h.amount) else s.ssu.totals.sold }
  params : v.params = s.params
  cnu : v.cnu = s.cnu
  vsq : v.vsq = s.vsq
  cca : v.cca = s.cca

theorem endHold_ended {src : Station} {r : SettleResult} {h : Hold} {s : State} (hold : s.cru.session.hold = some h) :
    HoldEnded r h s (endHold r (hearing src s)) := by
  have amount : (hearing src s).cru.session.heldAmount = h.amount := by simp [Session.heldAmount, hold]
  refine ⟨?_, ?_, ?_, ?_, ?_, ?_, ?_, ?_, by simp, by simp, by simp, by simp⟩
  · rw [session_endHold]
  · rw [session_endHold, hearing_session]
  · rw [session_endHold, amount, hearing_session]; rfl
  · rw [session_endHold, hearing_session]
  · rw [session_endHold, hearing_session]
  · rw [risen_congr (c := (openEvent s).cru) (by simp) (by rw [session_endHold, hearing_cru])]
    exact risen_fresh rfl
  · rw [books_endHold, amount, hearing_cru]; rfl
  · rw [totals_endHold, amount, hearing_own]; rfl

section Settled
variable {r : SettleResult} {h : Hold} {s v : State} (ended : HoldEnded r h s v)
include ended

/-- R49: what each next state leaves of the session. -/
theorem HoldEnded.session :
    let c := (afterSettle r v).cru.session
    c.hold = none ∧ c.number = s.cru.session.number ∧ c.balance = settledBalance r h s ∧
      c.version = s.cru.session.version + 1 ∧ c.lastExpired = s.cru.session.lastExpired ∧ c.escrowPending = false := by
  rcases afterSettle_cases r v with ⟨-, begun⟩ | ⟨empty, emptied, -⟩ | ⟨-, escrow, -, e⟩
  · exact ⟨begun.hold.trans ended.hold, begun.number.trans ended.number, begun.balance.trans ended.balance,
      begun.version.trans ended.version, begun.lastExpired.trans ended.lastExpired, begun.escrowPending⟩
  · rw [emptied]
    exact ⟨ended.hold, ended.number, empty.symm.trans ended.balance, ended.version, ended.lastExpired, rfl⟩
  · rw [e, session_enterOpen]
    exact ⟨ended.hold, ended.number, ended.balance, ended.version, ended.lastExpired, escrow⟩

/-- R49: the payout begins exactly under its conditions on the state before the settlement. -/
theorem HoldEnded.begins_iff :
    Begins r v ↔
      0 < settledBalance r h s ∧ (s.cru.session.escrowPending = true ∨ (r = .vended ∧ s.params.multiVend = false)) := by
  rw [Begins, ended.balance, ended.escrowPending, ended.params]

/-- R73: a payout that has ended short at once is counted, and nothing else beside the sale. -/
theorem HoldEnded.counted :
    (EndsShort r h s (afterSettle r v) →
        (afterSettle r v).cru.books = { v.cru.books with shortPays := countUp v.cru.books.shortPays 1 } ∧
          (afterSettle r v).ssu.totals = { v.ssu.totals with shortPays := countUp v.ssu.totals.shortPays 1 }) ∧
      (¬ EndsShort r h s (afterSettle r v) →
        (afterSettle r v).cru.books = v.cru.books ∧ (afterSettle r v).ssu.totals = v.ssu.totals) := by
  rcases afterSettle_cases r v with ⟨begins, begun⟩ | ⟨empty, -, books, totals⟩ | ⟨-, -, stays, e⟩
  · obtain ⟨due, cause⟩ := ended.begins_iff.mp begins
    rcases begun.outcome with ⟨paying, -, books, totals⟩ | ⟨opened, -, -, books, totals⟩
    · exact ⟨fun ⟨_, _, opened⟩ => (nomatch paying.symm.trans opened), fun _ => ⟨books, totals⟩⟩
    · exact ⟨fun _ => ⟨books, totals⟩, fun long => absurd ⟨due, cause, opened⟩ long⟩
  · exact ⟨fun ⟨due, _⟩ => absurd (ended.balance.symm.trans empty) due.ne', fun _ => ⟨books, totals⟩⟩
  · rw [e]
    exact ⟨fun ⟨due, cause, _⟩ => absurd (ended.begins_iff.mpr ⟨due, cause⟩) stays, fun _ => ⟨by simp, by simp⟩⟩

/-- R49: the first next state whose condition holds. -/
theorem HoldEnded.next :
    if s.cru.session.escrowPending = true then
      if settledBalance r h s = 0 then (afterSettle r v).cru.session.state = .idle else PayingOrShort (afterSettle r v).cru
    else if r = .vended ∧ s.params.multiVend = false ∧ 0 < settledBalance r h s then PayingOrShort (afterSettle r v).cru
    else if settledBalance r h s = 0 then (afterSettle r v).cru.session.state = .idle
    else
      (afterSettle r v).cru.session.state = .opened ∧
        (afterSettle r v).cru.session.idleTimer = (if s.params.idleTime = 0 then none else some 0) := by
  rcases afterSettle_cases r v with ⟨begins, begun⟩ | ⟨empty, emptied, -⟩ | ⟨due, escrow, stays, e⟩
  · obtain ⟨due, cause⟩ := ended.begins_iff.mp begins
    by_cases escrow : s.cru.session.escrowPending = true
    · rw [if_pos escrow, if_neg due.ne']
      exact begun.payingOrShort
    · obtain ⟨vended, single⟩ := cause.resolve_left escrow
      rw [if_neg escrow, if_pos ⟨vended, single, due⟩]
      exact begun.payingOrShort
  · rw [ended.balance] at empty
    have idle : (afterSettle r v).cru.session.state = .idle := by rw [emptied]
    split
    · exact idle
    · rwa [if_neg fun due => due.2.2.ne' empty]
  · rw [ended.balance] at due
    rw [ended.escrowPending] at escrow
    rw [if_neg (by rw [escrow]; nofun), if_neg (fun ⟨vended, single, _⟩ => stays (ended.begins_iff.mpr
      ⟨due, .inr ⟨vended, single⟩⟩)), if_neg due.ne', e, session_enterOpen]
    exact ⟨rfl, freshIdle_of ended.params⟩

end Settled

/-- Settles O22: a matching SETTLE leaves what `afterSettle` makes of the state whose hold has ended (`HoldEnded`), and is
answered behind its CREDIT and STATUS; an unmatched one is answered alone. -/
theorem settleIsAnswered : Obligations.SettleIsAnswered := by
  unfold Obligations.SettleIsAnswered
  intro ends
  have settles {r : SettleResult} {h : Hold} {s v : State} (ended : HoldEnded r h s v) : ends r h s (afterSettle r v) := by
    obtain ⟨hold, number, balance, version, lastExpired, pending⟩ := ended.session
    obtain ⟨short, long⟩ := ended.counted
    refine ⟨hold, number, balance, version, lastExpired, pending, ?_, ?_, by simp [ended.cnu], by simp [ended.vsq],
      by simp [ended.cca], ended.next⟩
    · by_cases counts : EndsShort r h s (afterSettle r v)
      · rw [(short counts).1, ended.books]; dsimp only; congr 1; exact Eq.symm (if_pos counts)
      · rw [(long counts).1, ended.books]; dsimp only; congr 1; exact Eq.symm (if_neg counts)
    · by_cases counts : EndsShort r h s (afterSettle r v)
      · rw [(short counts).2, ended.totals]; dsimp only; congr 1; exact Eq.symm (if_pos counts)
      · rw [(long counts).2, ended.totals]; dsimp only; congr 1; exact Eq.symm (if_neg counts)
  have carried {r : SettleResult} {h : Hold} {s t u : State} (cru : u.cru = t.cru) (ssu : u.ssu = t.ssu) (cnu : u.cnu = t.cnu)
      (vsq : u.vsq = t.vsq) (cca : u.cca = t.cca) (ended : ends r h s t) : ends r h s u := by
    simp only [ends, cru, ssu, cnu, vsq, cca] at ended ⊢
    exact ended
  refine ⟨fun src own tag n r h s here used hold requester tagged number held =>
    ⟨fun known short => ?known, fun receiving other listens settled => ?quiet⟩,
    fun src own tag n r s known here used free unmatched => ?unmatched⟩
  case known =>
    have matched := settleMatches_hearing hold requester tagged number
    have announced := settled_announced (r := r) (s := hearing src s) (hearing_first src s)
    have queue := known_queue known
    have link := known_link known
    have room : HasRoom .credit (hearing src s) := ⟨link, .inr (by rw [queue]; omega)⟩
    have few := announced.length_le
    rw [queue] at few
    obtain ⟨last, waits⟩ := send_answer (f := .settleAnswer src tag .ok) (announced.link ▸ link) rfl (by omega)
    refine ⟨_, exec_settleReceived known.hears.1 here used, ?_⟩
    rw [answerSettle_matched matched]
    refine ⟨last, waits _ (announced.awaits room), fun changed listens free => ?_, ?_⟩
    · refine waits _ (announced.exact ?_ link (by rwa [queue]))
      simpa using changed
    · exact carried (by simp) (by simp) (by simp) (by simp) (by simp) (settles (endHold_ended (src := src) hold))
  case quiet =>
    have hears := hears_listenOnly receiving (here ▸ other) settled
    have matched := settleMatches_hearing hold requester tagged number
    have announced := settled_announced (r := r) (s := hearing src s) (hearing_first src s)
    have link := hearing_quiet src listens
    have mute : (hearing src s).lnk.state = .listenOnly := by rw [link]; exact listens
    refine ⟨_, exec_settleReceived hears here used, ?_⟩
    rw [answerSettle_matched matched, send, request_listenOnly ((listenOnly_iff _).mpr (announced.link.trans mute))]
    refine ⟨(announced.quiet mute).trans (by rw [link]), ?_, ?_⟩
    · show (afterSettle _ _).lnk.acknowledged = false
      rw [afterSettle_lnk_acknowledged, endHold_lnk, link]
    · exact carried rfl rfl rfl rfl rfl (settles (endHold_ended (src := src) hold))
  case unmatched =>
    have none : settleMatches src tag n (hearing src s) = false := by
      refine Bool.eq_false_iff.mpr fun matched => ?_
      obtain ⟨h, hold, requester, tagged, number⟩ := (settleMatches_iff src tag n _).mp matched
      rw [hearing_session] at hold number
      exact unmatched h hold ⟨requester, tagged, number⟩
    have link := known_link known
    rw [exec_settleReceived known.hears.1 here used, answerSettle_unmatched none,
      send_fresh (Bool.eq_false_iff.mpr (mt (listenOnly_iff _).mp link)) rfl (by rw [known_queue known]; exact free),
      known.hears.2]
    rfl

end Sys2Proof.Machine.Announcing
end

section
/-! PROOFS. The payout in progress: the tube that the plan pays from holds coins (R23, R31), and what each event of the payout asks
of the transmit queue and leaves of the session and the books (R62 to R68). -/

namespace Sys2Proof.Machine.Paying

set_option Elab.async false

open Laws Credits Intake Keeping Announcing

/-! ### The tube that the plan pays from (R23, R24, R31) -/

/-- R24: the coin numbers `ns` take of each tube no more than is available. -/
abbrev WithinStock : List PlanTube → List Nat → Prop := List.Forall₂ fun t n => n ≤ t.avail

theorem greatest_le_avail (t : PlanTube) (rem : Nat) : Planning.greatest t rem ≤ t.avail := Nat.min_le_left _ _

theorem candidate_withinStock {ts : List PlanTube} {due : Nat} {p : List Nat} (h : p ∈ candidates ts due) :
    WithinStock ts p := by
  induction ts generalizing due p with
  | nil => cases h
  | cons t r ih =>
    cases r with
    | nil =>
      rw [Planning.mem_candidates_last.mp h]
      exact .cons (greatest_le_avail t due) .nil
    | cons u r =>
      obtain ⟨b, -, -, ns, rest, rfl⟩ := Planning.mem_candidates_cons.mp h
      exact .cons ((Nat.sub_le _ b).trans (greatest_le_avail t due)) (ih rest)

theorem plan_withinStock (ts : List PlanTube) (due : Nat) : WithinStock ts (plan ts due) := by
  by_cases h : ts = []
  · subst h; exact .nil
  · exact candidate_withinStock (Planning.plan_isFirst h due).1

theorem firstPaying_stocked {ts : List PlanTube} {ns : List Nat} {i : Nat} (within : WithinStock ts ns)
    (h : firstPaying ts ns = some i) : ∃ p ∈ ts, p.index = i ∧ 0 < p.avail := by
  induction within with
  | nil => cases h
  | @cons t n _ _ le _ ih =>
    unfold firstPaying at h
    split at h
    · next pays => exact ⟨t, .head _, Option.some.inj h, pays.trans_le le⟩
    · obtain ⟨p, mem, index, stock⟩ := ih h
      exact ⟨p, .tail _ mem, index, stock⟩

theorem normal_of_available {t : Tube} (h : 0 < available t) : t.state = .normal := by
  unfold available at h
  split at h
  · assumption
  · cases h

/-- R23, R31: the tube of the next coin is NORMAL. -/
theorem nextTube_normal {s : State} {due i : Nat} (h : nextTube s due = some i) :
    ∃ t, tubeAt s i = some t ∧ t.state = .normal := by
  obtain ⟨p, mem, rfl, stock⟩ := firstPaying_stocked (plan_withinStock _ due) h
  obtain ⟨j, t, tube, -, rfl⟩ := (Planning.mem_tubeList p s).mp mem
  exact ⟨t, tube, normal_of_available stock⟩

/-! ### What the payout asks of the transmit queue (R29, R35) -/

theorem awaits_announced {f : Frame} {s t : State} (h : Announced s t) (waits : Awaits f s) : Awaits f t := by
  obtain ⟨u, credit, status⟩ := h
  refine awaits_statusOnly status.only ((awaits_iff f u).mpr ?_)
  rw [credit.queue]
  exact subset_withFrame _ _ _ ((awaits_iff f s).mp waits)

/-- R29: a STATUS asked for before the CREDIT and one asked for behind it are one, so the two frames still find their places. -/
theorem exact_of_asked_announced {s u t : State} (asked : StatusAsked s u) (announced : Announced u t) : ExactAnnounced s t := by
  intro changed link room
  have place : HasRoom .status s := ⟨link, .inr (by omega)⟩
  rcases asked.flag with stands | waits
  · rcases asked.only.queue with same | joined
    · refine announced.exact (by rwa [stands]) (by rwa [asked.only.link]) ?_
      rwa [← places_length, same, places_length]
    · refine awaits_announced announced ((awaits_iff _ u).mpr ?_)
      rw [joined]
      exact mem_withFrame_of_hasRoom place
  · exact awaits_announced announced (waits place)

/-- R29: the time that passes at an expiry announces nothing. -/
theorem exactAnnounced_reached {limit now : Nat} {s t : State} (h : ExactAnnounced (reach limit now (openEvent s)) t) :
    ExactAnnounced s t := by
  simpa [ExactAnnounced] using h

theorem changeTube_asked (i : Nat) (f : Tube → Tube) (s : State) : StatusAsked s (changeTube i f s) :=
  (StatusAsked.of_lnk (by simp) (by simp) : StatusAsked s (modTube i f s)).trans (probeAfter_asked _ _)

/-- R68: the CREDIT of a short ending that is the event's first raise. -/
theorem payoutShort_announced {s : State} (first : s.cru.versionRaised = false) : Announced s (payoutShort s) := by
  refine .andStatus (raiseVersion_announced ?_ ?_ ?_) (reevaluateExact_asked _)
  · exact first
  · rfl
  · rfl

/-! ### The events of a payout in progress -/

/-- The state `u` is the event of `s` in which the payout goes on: the version has not risen in it, and the session's money, the
books and the audit totals stand. -/
structure PaysOn (s u : State) : Prop where
  first : u.cru.versionRaised = false
  version : risen u.cru = s.cru.session.version + 1
  balance : u.cru.session.balance = s.cru.session.balance
  books : u.cru.books = s.cru.books
  totals : u.ssu.totals = s.ssu.totals
  params : u.params = s.params

theorem standExit_paysOn (b : Bool) (s : State) : PaysOn s (standExit b (openEvent s)) :=
  ⟨rfl, risen_fresh rfl, rfl, rfl, rfl, rfl⟩

theorem reach_paysOn (limit now : Nat) (s : State) : PaysOn s (reach limit now (openEvent s)) :=
  ⟨reach_versionRaised _ _ _, risen_reach _ _ s, reach_balance _ _ _, reach_books _ _ _,
    congrArg Ssu.totals (reach_ssu _ _ _), reach_params _ _ _⟩

theorem PaysOn.changeTube {s u : State} (h : PaysOn s u) (i : Nat) (f : Tube → Tube) : PaysOn s (changeTube i f u) where
  first := by simp [h.first]
  version := by rw [risen, changeTube_cru_versionRaised, changeTube_cru_session]; exact h.version
  balance := by simp [h.balance]
  books := by simp [h.books]
  totals := by simp [h.totals]
  params := by simp [h.params]

/-! ### The short ending (R68) -/

/-- From `s` to `t` the payout has ended short. -/
structure EndedShort (s t : State) : Prop where
  payout : t.cru.payout = none
  solenoid : t.cru.solenoid = none
  state : t.cru.session.state = .opened
  changeShort : t.cru.session.changeShort = true
  balance : t.cru.session.balance = s.cru.session.balance
  version : t.cru.session.version = s.cru.session.version + 1
  idleTimer : t.cru.session.idleTimer = if s.params.idleTime = 0 then none else some 0
  books : t.cru.books = { s.cru.books with shortPays := min 65535 (s.cru.books.shortPays + 1) }
  totals : t.ssu.totals = { s.ssu.totals with shortPays := min 65535 (s.ssu.totals.shortPays + 1) }

theorem payoutShort_solenoid (s : State) : (payoutShort s).cru.solenoid = none := by simp [payoutShort, enterOpen]

theorem PaysOn.endedShort {s u : State} (h : PaysOn s u) : EndedShort s (payoutShort u) where
  payout := payoutShort_payout u
  solenoid := payoutShort_solenoid u
  state := by rw [session_payoutShort]
  changeShort := by rw [session_payoutShort]
  balance := by rw [session_payoutShort]; exact h.balance
  version := by rw [session_payoutShort]; exact h.version
  idleTimer := by rw [session_payoutShort]; exact freshIdle_of h.params
  books := by rw [payoutShort_books, h.books]; rfl
  totals := by rw [payoutShort_totals, h.totals]; rfl

/-! ### The coin step (R62) -/

theorem coinStep_pulses {s : State} {i : Nat} (due : 0 < s.cru.session.balance)
    (next : nextTube s s.cru.session.balance = some i) : coinStep s = pulse i 1 s := by
  rw [coinStep, if_neg due.ne', next]

theorem coinStep_ends {s : State} (due : 0 < s.cru.session.balance) (noTube : nextTube s s.cru.session.balance = none) :
    coinStep s = payoutShort s := by
  rw [coinStep, if_neg due.ne', noTube]

/-! ### A coin paid out (R63, R65, R67) -/

/-- R63: a coin seen leaving a tube in use is one coin less in it. -/
theorem giveCoin_inUse {u : Tube} (used : u.state ≠ .disabled) (fits : u.count ≤ u.capacity) :
    u.giveCoin = { u with count := u.count - 1 } := by
  unfold Tube.giveCoin Tube.withCount
  rw [if_neg used, Nat.min_eq_left ((Nat.sub_le _ _).trans fits)]

theorem coinPaid_asked (i : Nat) (s : State) : StatusAsked s (coinPaid i s) :=
  (changeTube_asked i Tube.giveCoin s).trans (.of_lnk rfl rfl)

theorem coinPaid_first {s : State} (i : Nat) (first : s.cru.versionRaised = false) :
    (coinPaid i s).cru.versionRaised = false :=
  (changeTube_cru_versionRaised i Tube.giveCoin s).trans first

/-- R65, R67: with the due paid the payout is complete, and otherwise it waits for the chute. -/
theorem payCoin_cases {i a : Nat} {s : State} {u : Tube} (tube : tubeAt s i = some u)
    (within : u.denomination ≤ s.cru.session.balance) :
    (s.cru.session.balance = u.denomination ∧ payCoin i a s = payoutComplete (raiseVersion (coinPaid i s))) ∨
      (s.cru.session.balance ≠ u.denomination ∧ payCoin i a s = awaitClear (some i) a (raiseVersion (coinPaid i s))) := by
  have left : (raiseVersion (coinPaid i s)).cru.session.balance = s.cru.session.balance - u.denomination := by
    simp only [session_raiseVersion, session_coinPaid, tube, Option.map_some, Option.getD_some]
  rw [payCoin_eq, left]
  split
  · exact .inl ⟨by omega, rfl⟩
  · exact .inr ⟨by omega, rfl⟩

/-- R35, R63: the CREDIT of the paid coin, with the STATUS of a completed payout behind it. -/
theorem payCoin_announced {s : State} (i a : Nat) (first : s.cru.versionRaised = false) :
    Announced (coinPaid i s) (payCoin i a s) := by
  have credit : Announced (coinPaid i s) (raiseVersion (coinPaid i s)) := raiseVersion_announced (coinPaid_first i first) rfl rfl
  rw [payCoin_eq]
  split
  · exact credit.andStatus (payoutComplete_again (raiseVersion_versionRaised _))
  · exact credit.andStatus (.of_lnk rfl rfl)

/-- From `s` to `t` one coin of the tube `u` of index `i` has been paid out, whether or not the payout is then complete. -/
structure CoinOut (i : Nat) (u : Tube) (s t : State) : Prop where
  tubes : t.cnu.tubes = (changeTube i Tube.giveCoin s).cnu.tubes
  balance : t.cru.session.balance = s.cru.session.balance - u.denomination
  version : t.cru.session.version = risen s.cru
  number : t.cru.session.number = s.cru.session.number
  books : t.cru.books = { s.cru.books with paidOut := s.cru.books.paidOut + u.denomination }
  paidOut : t.ssu.totals.paidOut = min 4294967295 (s.ssu.totals.paidOut + u.denomination)
  vsq : t.vsq = s.vsq
  rfc : t.rfc = s.rfc
  mxd : t.mxd = s.mxd

theorem raisedCoin_out {i : Nat} {u : Tube} {s : State} (tube : tubeAt s i = some u) :
    CoinOut i u s (raiseVersion (coinPaid i s)) := by
  have denomination : ((tubeAt s i).map Tube.denomination).getD 0 = u.denomination := by rw [tube]; rfl
  constructor
  case version =>
    rw [session_raiseVersion]
    exact risen_congr (changeTube_cru_versionRaised i _ s) (by rw [session_coinPaid])
  case paidOut =>
    rw [raiseVersion_ssu, ← denomination, ← changeTube_ssu i Tube.giveCoin s]
    rfl
  all_goals simp [coinPaid, modBooks, denomination]

theorem payCoin_out {i a : Nat} {u : Tube} {s : State} (tube : tubeAt s i = some u)
    (within : u.denomination ≤ s.cru.session.balance) : CoinOut i u s (payCoin i a s) := by
  obtain ⟨tubes, balance, version, number, books, paidOut, vsq, rfc, mxd⟩ := raisedCoin_out tube
  rcases payCoin_cases (a := a) tube within with ⟨all, e⟩ | ⟨-, e⟩ <;> rw [e]
  · refine ⟨by simpa using tubes, ?_, ?_, ?_, by simpa using books, by simpa using paidOut, by simpa using vsq,
      by simpa using rfc, by simpa using mxd⟩ <;> rw [session_payoutComplete, session_enterIdle]
    · exact (Nat.sub_eq_zero_of_le all.le).symm
    · rw [risen_raiseVersion, ← version, session_raiseVersion]
    · exact number
  · exact ⟨tubes, balance, version, number, books, paidOut, vsq, rfc, mxd⟩

end Sys2Proof.Machine.Paying
end

section
/-! PROOFS. The commands of the payout: a coin seen at the exit, the payout window, and the exit chute (R62 to R68). -/

namespace Sys2Proof.Machine.Paying

set_option Elab.async false

open Laws Credits Intake Keeping Announcing

/-! ### A coin seen at the exit (R63, R66, R67) -/

theorem exec_coinSeen {s : State} (runs : s.phase = .running) :
    exec .coinSeen s = .next (refreshOutputs (seeCoin (standExit true (openEvent s)))) := by
  show Host.Outcome.next (refreshOutputs (running seeCoin (standExit true (openEvent s)))) = _
  rw [running_eq (s := standExit true (openEvent s)) runs]

theorem seeCoin_pulsed {i a : Nat} {w cl : Option Nat} {s : State}
    (payout : s.cru.payout = some ⟨.pulseWait, some i, a, w, cl⟩) : seeCoin s = payCoin i a s := by
  unfold seeCoin; rw [payout]

/-- R66: without a pulse awaited the coin is a stray. -/
theorem seeCoin_stray {s : State} (stray : ∀ p, s.cru.payout = some p → p.phase = .exitClear) :
    seeCoin s = s.modCru fun c => { c with strayExits := countUp c.strayExits 1 } := by
  unfold seeCoin
  split
  · next payout => cases stray _ payout
  · rfl

/-- Settles O26: the paid coin is `CoinOut`, its payout then goes on as `payCoin_cases` says; any other coin is a stray. -/
theorem coinSeenAtTheExit : Obligations.CoinSeenAtTheExit := by
  refine ⟨fun i a w cl u s runs payout tube used fits within => ?paid, fun s runs stray => ?stray⟩
  case paid =>
    let v := standExit true (openEvent s)
    have seen : exec .coinSeen s = .next (refreshOutputs (payCoin i a v)) := by
      rw [exec_coinSeen runs, seeCoin_pulsed (s := v) payout]
    have first : v.cru.versionRaised = false := rfl
    have exact : ExactAnnounced v (payCoin i a v) :=
      exact_of_asked_announced (coinPaid_asked i v) (payCoin_announced i a first)
    have out := payCoin_out (s := v) (a := a) tube within
    refine ⟨_, seen, exact, ?_, fun j other => ?_, out.balance, out.version.trans (risen_fresh first), out.number, out.books,
      out.paidOut, out.vsq, out.rfc, out.mxd, ?_⟩
    · refine (tubeAt_congr out.tubes i).trans ?_
      rw [tubeAt_changeTube_same, ← giveCoin_inUse used fits]
      exact congrArg (Option.map Tube.giveCoin) tube
    · exact (tubeAt_congr out.tubes j).trans (tubeAt_changeTube_other other Tube.giveCoin v)
    · rcases payCoin_cases (s := v) (a := a) tube within with ⟨all, e⟩ | ⟨more, e⟩ <;> rw [e]
      · rw [if_pos (show s.cru.session.balance = _ from all)]
        simp
      · rw [if_neg (show s.cru.session.balance ≠ _ from more)]
        simp [session_coinPaid, v, standExit, openEvent]
  case stray =>
    rw [exec_coinSeen runs, seeCoin_stray (s := standExit true (openEvent s)) stray]
    rfl

/-! ### The payout window (R64) -/

theorem exec_payoutWindowExpiry {i a w : Nat} {cl : Option Nat} {s : State}
    (payout : s.cru.payout = some ⟨.pulseWait, some i, a, some w, cl⟩) :
    exec .payoutWindowExpiry s = .next (refreshOutputs (failAttempt i a (reach 400 w (openEvent s)))) := by
  show Host.Outcome.next (refreshOutputs (endPayoutWindow (openEvent s))) = _
  unfold endPayoutWindow
  rw [show (openEvent s).cru.payout = _ from payout]
  rfl

/-- Settles O27: the second failure is a coin step with the tube emptied, and the plan pays from no DRY tube
(`nextTube_normal`). -/
theorem payoutWindowExpires : Obligations.PayoutWindowExpires := by
  intro i a w cl s payout u
  refine ⟨fun first => ?again, fun later due x tube normal => ?dry⟩
  case again =>
    rw [exec_payoutWindowExpiry payout, failAttempt, if_pos first]
    rfl
  case dry =>
    let v := changeTube i Tube.goDry u
    have goes : PaysOn s v := (reach_paysOn 400 w s).changeTube i Tube.goDry
    have asked : StatusAsked u v := changeTube_asked i Tube.goDry u
    have due' : 0 < v.cru.session.balance := by rw [goes.balance]; exact due
    have failed : exec .payoutWindowExpiry s = .next (refreshOutputs (coinStep v)) := by
      rw [exec_payoutWindowExpiry payout, failAttempt, if_neg later]
      rfl
    have stood (j : Nat) : tubeAt u j = tubeAt s j := tubeAt_congr (reach_tubes _ _ _) j
    have empty : tubeAt v i = some { x with count := 0, state := .dry } := by
      rw [tubeAt_changeTube_same, stood, tube, Option.map_some, Tube.goDry, if_pos normal]
    have others (j : Nat) (other : j ≠ i) : tubeAt v j = tubeAt s j := by rw [tubeAt_changeTube_other other, stood]
    cases next : nextTube v s.cru.session.balance with
    | some j =>
      have plan : nextTube (refreshOutputs (pulse j 1 v)) s.cru.session.balance = some j := next
      have other : j ≠ i := by
        rintro rfl
        obtain ⟨y, there, inUse⟩ := nextTube_normal next
        rw [empty] at there
        cases there
        cases inUse
      rw [coinStep_pulses due' (goes.balance ▸ next)] at failed
      refine ⟨_, failed, exactAnnounced_reached (asked.trans (.of_lnk rfl rfl)).exact, empty, others, goes.balance, ?_⟩
      rw [plan]
      exact ⟨other, rfl, rfl, changeTube_cru_session i Tube.goDry u⟩
    | none =>
      have tubes : (refreshOutputs (payoutShort v)).cnu.tubes = v.cnu.tubes := by simp
      have plan : nextTube (refreshOutputs (payoutShort v)) s.cru.session.balance = none := (nextTube_congr tubes _).trans next
      have ended := goes.endedShort
      rw [coinStep_ends due' (goes.balance ▸ next)] at failed
      have exact : ExactAnnounced u (payoutShort v) := exact_of_asked_announced asked (payoutShort_announced goes.first)
      refine ⟨_, failed, exactAnnounced_reached exact, (tubeAt_congr tubes i).trans empty,
        fun j other => (tubeAt_congr tubes j).trans (others j other), ended.balance, ?_⟩
      rw [plan]
      exact ⟨ended.payout, ended.state, ended.changeShort, ended.version, ended.books, ended.totals⟩

/-! ### The exit chute (R65, R68) -/

theorem exec_exitClears {tube : Option Nat} {a : Nat} {w k : Option Nat} {s : State} (runs : s.phase = .running)
    (payout : s.cru.payout = some ⟨.exitClear, tube, a, w, k⟩) :
    exec .exitClears s = .next (refreshOutputs (coinStep (standExit false (openEvent s)))) := by
  show Host.Outcome.next (refreshOutputs (running exitCleared (standExit false (openEvent s)))) = _
  rw [running_eq (s := standExit false (openEvent s)) runs]
  unfold exitCleared
  rw [show (standExit false (openEvent s)).cru.payout = _ from payout]

theorem exec_clearTimerExpiry {tube : Option Nat} {a k : Nat} {w : Option Nat} {s : State}
    (payout : s.cru.payout = some ⟨.exitClear, tube, a, w, some k⟩) :
    exec .clearTimerExpiry s = .next (refreshOutputs (payoutShort (reach 500 k (openEvent s)))) := by
  show Host.Outcome.next (refreshOutputs (endClearTime (openEvent s))) = _
  unfold endClearTime
  rw [show (openEvent s).cru.payout = _ from payout]
  rfl

/-- R62, R65, R68: what ends the payout short in EXIT-CLEAR: a new coin step with no tube that can pay, or the chute BLOCKED too
long. -/
theorem exec_endsShort {c : Instr} {tube : Option Nat} {a k : Nat} {w : Option Nat} {s : State}
    (payout : s.cru.payout = some ⟨.exitClear, tube, a, w, some k⟩) (due : 0 < s.cru.session.balance)
    (cause : (c = .exitClears ∧ s.phase = .running ∧ nextTube s s.cru.session.balance = none) ∨ c = .clearTimerExpiry) :
    ∃ u, PaysOn s u ∧ u.cnu.tubes = s.cnu.tubes ∧ (∀ t, Announced u t → Announced s t) ∧
      exec c s = .next (refreshOutputs (payoutShort u)) := by
  rcases cause with ⟨rfl, runs, noTube⟩ | rfl
  · refine ⟨standExit false (openEvent s), standExit_paysOn false s, rfl, fun t a => a.after rfl rfl rfl, ?_⟩
    rw [exec_exitClears runs payout]
    exact congrArg (fun v => Host.Outcome.next (refreshOutputs v)) (coinStep_ends due noTube)
  · exact ⟨_, reach_paysOn 500 k s, reach_tubes _ _ _, fun t a => a.reached, exec_clearTimerExpiry payout⟩

/-- Settles O28: the clearing chute is a coin step, and both causes of the short ending are `payoutShort` of the event. -/
theorem chuteClearsOrJams : Obligations.ChuteClearsOrJams := by
  intro tube a k w s payout due
  refine ⟨fun runs i next => ?pulsed, fun c cause => ?short⟩
  case pulsed =>
    rw [exec_exitClears runs payout, coinStep_pulses (s := standExit false (openEvent s)) due next]
    rfl
  case short =>
    obtain ⟨u, goes, tubes, announces, e⟩ := exec_endsShort payout due cause
    have announced := announces _ (payoutShort_announced goes.first)
    have ended := goes.endedShort
    refine ⟨_, e, announced.exact, ended.payout, ended.solenoid, ended.state, ended.changeShort, ended.balance, ended.version,
      ended.idleTimer, ended.books, congrArg (·.shortPays) ended.totals, ?_, announced.awaits⟩
    simp [tubes]

end Sys2Proof.Machine.Paying
end

section
/-! PROOFS. The law of the places (R75, R83, R165, R168, TABLE 5-1, TABLE 9-1), list by list: what may become of the transmit queue, of
the credit cache and of the peer load table. -/

namespace Sys2Proof.Machine.Placing

set_option Elab.async false

open Laws

/-! ### The transmit queue (R165, R168) -/

/-- R165, R168: a transmit queue within its places, with at most one frame on the bus. -/
structure Fits (q : List TxEntry) : Prop where
  length : q.length ≤ 8
  onBus : (q.filter fun e => e.onBus.isSome).length ≤ 1

/-- With no frame in it begun, the bus is free. -/
theorem Fits.of_none {q : List TxEntry} (length : q.length ≤ 8) (free : ∀ e ∈ q, e.onBus.isSome = false) : Fits q :=
  ⟨length, by rw [List.filter_eq_nil_iff.mpr fun e he => by simp [free e he]]; exact Nat.zero_le 1⟩

theorem Fits.sublist {q r : List TxEntry} (h : Fits q) (sub : r.Sublist q) : Fits r :=
  ⟨sub.length_le.trans h.length, (sub.filter _).length_le.trans h.onBus⟩

/-- Entries changed in place, none of them put on the bus. -/
theorem Fits.map {q : List TxEntry} (h : Fits q) {g : TxEntry → TxEntry}
    (quiet : ∀ e, (g e).onBus.isSome = true → e.onBus.isSome = true) : Fits (q.map g) where
  length := (List.length_map g).trans_le h.length
  onBus := by
    rw [List.filter_map, List.length_map]
    exact (List.monotone_filter_right q quiet).length_le.trans h.onBus

theorem Fits.fresh {q : List TxEntry} (h : Fits q) (room : q.length < 8) (f : Frame) : Fits (q ++ [TxEntry.fresh f]) where
  length := by simp only [List.length_append, List.length_singleton]; omega
  onBus := by simpa [TxEntry.fresh] using h.onBus

/-- Of entries that have not begun, one begins. -/
theorem Fits.begin {q : List TxEntry} (h : Fits q) (free : ∀ e ∈ q, e.onBus.isSome = false) (g : TxEntry → TxEntry) (i : Nat) :
    Fits (q.modify i g) where
  length := (List.length_modify ..).trans_le h.length
  onBus := by
    clear h
    induction q generalizing i with
    | nil => simp
    | cons e r ih =>
      have rest : r.filter (fun e => e.onBus.isSome) = [] :=
        List.filter_eq_nil_iff.mpr fun x hx => by simp [free x (List.mem_cons_of_mem e hx)]
      cases i with
      | zero =>
        rw [List.modify_zero_cons, List.filter_cons, rest]
        split <;> simp
      | succ j =>
        rw [List.modify_succ_cons, List.filter_cons_of_neg (by simp [free e List.mem_cons_self])]
        exact ih (fun x hx => free x (List.mem_cons_of_mem e hx)) j

/-! ### Records by rising station number (TABLE 5-1, TABLE 9-1) -/

/-- A record of a station that has none goes to its place by the station's number. -/
theorem orderedInsert_rising {α : Type} {st : α → Station} {x : α} {l : List α}
    (order : l.Pairwise fun a b => (st a).toNat < (st b).toNat) (new : ∀ y ∈ l, st y ≠ st x) :
    (l.orderedInsert (fun a b => (st a).toNat < (st b).toNat) x).Pairwise fun a b => (st a).toNat < (st b).toNat := by
  induction l with
  | nil => exact List.pairwise_singleton _ _
  | cons y r ih =>
    obtain ⟨first, rest⟩ := List.pairwise_cons.mp order
    rw [List.orderedInsert_cons]
    split
    · next lt =>
      exact List.pairwise_cons.mpr ⟨List.forall_mem_cons.mpr ⟨lt, fun z hz => lt.trans (first z hz)⟩, order⟩
    · next ge =>
      have after : (st y).toNat < (st x).toNat :=
        lt_of_le_of_ne (Nat.le_of_not_lt ge) fun eq => new y List.mem_cons_self (BitVec.eq_of_toNat_eq eq)
      refine List.pairwise_cons.mpr ⟨fun z hz => ?_, ih rest fun z hz => new z (List.mem_cons_of_mem y hz)⟩
      rcases (List.mem_orderedInsert _).mp hz with rfl | hz
      · exact after
      · exact first z hz

/-! ### The credit cache (R75, TABLE 5-1) -/

/-- R75, TABLE 5-1: cache entries within their places, by rising station number. -/
structure CacheOrdered (l : List CacheEntry) : Prop where
  length : l.length ≤ 8
  order : l.Pairwise fun a b => a.station.toNat < b.station.toNat

theorem CacheOrdered.sublist {l m : List CacheEntry} (h : CacheOrdered l) (sub : m.Sublist l) : CacheOrdered m :=
  ⟨sub.length_le.trans h.length, h.order.sublist sub⟩

/-- Entries changed in place keep their stations, and with them their order. -/
theorem CacheOrdered.map {l : List CacheEntry} (h : CacheOrdered l) {g : CacheEntry → CacheEntry}
    (same : ∀ e, (g e).station = e.station) : CacheOrdered (l.map g) where
  length := (List.length_map g).trans_le h.length
  order := List.pairwise_map.mpr (by simpa only [same] using h.order)

theorem insertEntry_eq (e : CacheEntry) (l : List CacheEntry) :
    insertEntry e l = l.orderedInsert (fun a b => a.station.toNat < b.station.toNat) e := by
  induction l with
  | nil => rfl
  | cons y r ih => rw [insertEntry, List.orderedInsert_cons, ih]

/-- R77: the entry displaced is one of the cache's. -/
theorem oldestEntry_mem {l : List CacheEntry} {o : CacheEntry} (h : oldestEntry l = some o) : o ∈ l := by
  induction l generalizing o with
  | nil => cases h
  | cons e r ih =>
    unfold oldestEntry at h
    split at h
    · exact (Option.some.inj h) ▸ List.mem_cons_self
    · next p hp =>
      split at h
      · exact (Option.some.inj h) ▸ List.mem_cons_self
      · exact (Option.some.inj h) ▸ List.mem_cons_of_mem e (ih hp)

theorem oldestEntry_isSome {l : List CacheEntry} (h : l ≠ []) : ∃ o, oldestEntry l = some o := by
  cases l with
  | nil => exact absurd rfl h
  | cons e r =>
    unfold oldestEntry
    split
    · exact ⟨e, rfl⟩
    · split <;> exact ⟨_, rfl⟩

theorem makeRoom_sublist (l : List CacheEntry) : (makeRoom l).Sublist l := by
  unfold makeRoom
  split
  · exact .refl l
  · split
    · exact List.filter_sublist
    · exact .refl l

theorem removeEntry_length {l : List CacheEntry} {o : CacheEntry} (h : o ∈ l) : (removeEntry o.station l).length < l.length :=
  List.length_filter_lt_length_iff_exists.mpr ⟨o, h, by simp⟩

/-- R77: a new entry finds a place. -/
theorem makeRoom_length {l : List CacheEntry} (h : l.length ≤ 8) : (makeRoom l).length < 8 := by
  unfold makeRoom
  split
  · assumption
  · next full =>
    obtain ⟨o, ho⟩ := oldestEntry_isSome (l := l) (by rintro rfl; exact full (by decide))
    rw [ho]
    exact (removeEntry_length (oldestEntry_mem ho)).trans_le h

/-- R76, R77: a CREDIT changes the entry of its station in place, or puts a new one where none was. -/
theorem takeCredit_ordered {l : List CacheEntry} (h : CacheOrdered l) (n : CacheEntry) : CacheOrdered (takeCredit n l) := by
  unfold takeCredit
  split
  · split
    · exact h.map fun e => by split <;> rfl
    · exact h.map fun e => by split <;> simp [*]
  · next none =>
    have room := makeRoom_length h.length
    have sub := makeRoom_sublist l
    rw [insertEntry_eq]
    refine ⟨by rw [List.orderedInsert_length]; omega, orderedInsert_rising (h.order.sublist sub) fun x hx => ?_⟩
    simpa using List.find?_eq_none.mp none x (sub.mem hx)

theorem rememberNumber_entries (st : Station) (n : Byte) (c : Cca) : (rememberNumber st n c).entries = c.entries := by
  unfold rememberNumber; split <;> rfl

/-! ### The peer load table (TABLE 9-1) -/

/-- TABLE 9-1: peer entries by rising station number, each with its claims within their places. -/
structure PeersOrdered (l : List Peer) : Prop where
  order : l.Pairwise fun a b => a.station.toNat < b.station.toNat
  claims : ∀ e ∈ l, e.claims.length ≤ 4

/-- An act on a peer entry that leaves its station and keeps its claims within their places. -/
structure PeerAct (f : Peer → Peer) : Prop where
  station : ∀ e, (f e).station = e.station
  claims : ∀ e : Peer, e.claims.length ≤ 4 → (f e).claims.length ≤ 4

theorem PeersOrdered.sublist {l m : List Peer} (h : PeersOrdered l) (sub : m.Sublist l) : PeersOrdered m :=
  ⟨h.order.sublist sub, fun e he => h.claims e (sub.mem he)⟩

theorem PeersOrdered.map {l : List Peer} (h : PeersOrdered l) {f : Peer → Peer} (act : PeerAct f) : PeersOrdered (l.map f) where
  order := List.pairwise_map.mpr (by simpa only [act.station] using h.order)
  claims e he := by
    obtain ⟨x, hx, rfl⟩ := List.mem_map.mp he
    exact act.claims x (h.claims x hx)

/-- An act on the entry of one station. -/
theorem PeerAct.at {f : Peer → Peer} (act : PeerAct f) (st : Station) : PeerAct fun e => if e.station = st then f e else e where
  station e := by split <;> simp [act.station]
  claims e h := by
    split
    · exact act.claims e h
    · exact h

theorem insertPeer_eq (e : Peer) (l : List Peer) :
    insertPeer e l = l.orderedInsert (fun a b => a.station.toNat < b.station.toNat) e := by
  induction l with
  | nil => rfl
  | cons y r ih => rw [insertPeer, List.orderedInsert_cons, ih]

/-- R148: a station noted has its entry in its place. -/
theorem PeersOrdered.insert {l : List Peer} (h : PeersOrdered l) (st : Station) (new : ∀ x ∈ l, x.station ≠ st) :
    PeersOrdered (insertPeer (newPeer st) l) where
  order := by rw [insertPeer_eq]; exact orderedInsert_rising h.order new
  claims e he := by
    rw [insertPeer_eq] at he
    rcases (List.mem_orderedInsert _).mp he with rfl | he
    · exact Nat.zero_le 4
    · exact h.claims e he

theorem takeStatus_act (change : Byte) (total limit : Nat) (flags : Byte) : PeerAct (Peer.takeStatus change total limit flags) where
  station _ := rfl
  claims e h := by
    unfold Peer.takeStatus
    dsimp only
    split
    · exact h
    · exact (List.length_filter_le _ _).trans h

/-- R159: a claim beyond the four places is an excess claim, which is not listed. -/
theorem takeClaim_act (c : Claim) : PeerAct (Peer.takeClaim c) where
  station e := by unfold Peer.takeClaim; split <;> [rfl; split <;> rfl]
  claims e h := by
    unfold Peer.takeClaim
    split
    · exact (List.length_map _).trans_le h
    · split
      · next room => exact (List.length_append ..).trans_le room
      · exact h

theorem takeRelease_act (kind sequence : Byte) : PeerAct (Peer.takeRelease kind sequence) where
  station _ := rfl
  claims _ h := (List.length_filter_le _ _).trans h

theorem assume_act (kind : Byte) : PeerAct (Peer.assume kind) where
  station _ := rfl
  claims _ h := (List.length_map _).trans_le h

/-- An act that leaves an entry's station and claims as they are. -/
theorem PeerAct.of_same {f : Peer → Peer} (station : ∀ e, (f e).station = e.station) (claims : ∀ e, (f e).claims = e.claims) :
    PeerAct f := ⟨station, fun e h => by rwa [claims]⟩

theorem later_act (d : Nat) : PeerAct (Peer.later d) where
  station _ := rfl
  claims _ h := (List.length_map _).trans_le h

end Sys2Proof.Machine.Placing
end

section
/-! PROOFS. What keeps the law of the places: the operations of the Link Unit, the Load Budget Unit, the Refrigeration Controller and
the Credit Unit, which touch the transmit queue alone (Chapters 1 to 4 and 8 to 10). -/

namespace Sys2Proof.Machine.Placing

set_option Elab.async false

open Laws

variable {s t : State}

theorem fits_of (law : PlacesLaw s) : Fits s.lnk.queue := ⟨law.transmit, law.onBus⟩

/-- The law of the places, list by list. -/
theorem placesLaw_of (queue : Fits t.lnk.queue) (selections : t.vsq.queue.length ≤ 4) (cache : CacheOrdered t.cca.entries)
    (peers : PeersOrdered t.lbu.peers) : PlacesLaw t :=
  ⟨queue.length, queue.onBus, selections, cache.length, cache.order, peers.order, peers.claims⟩

theorem cacheOrdered_of (law : PlacesLaw s) : CacheOrdered s.cca.entries := ⟨law.cache, law.cacheOrder⟩

theorem peersOrdered_of (law : PlacesLaw s) : PeersOrdered s.lbu.peers := ⟨law.peerOrder, law.claims⟩

/-- An act that touches the transmit queue alone of the four lists. -/
theorem requeued (law : PlacesLaw s) (queue : Fits t.lnk.queue) (selections : t.vsq.queue = s.vsq.queue := by rfl)
    (cache : t.cca.entries = s.cca.entries := by rfl) (peers : t.lbu.peers = s.lbu.peers := by rfl) : PlacesLaw t :=
  placesLaw_of queue (selections ▸ law.selections) (cache ▸ cacheOrdered_of law) (peers ▸ peersOrdered_of law)

/-- An act that leaves the four lists as they are. -/
theorem unmoved (law : PlacesLaw s) (queue : t.lnk.queue = s.lnk.queue := by rfl)
    (selections : t.vsq.queue = s.vsq.queue := by rfl) (cache : t.cca.entries = s.cca.entries := by rfl)
    (peers : t.lbu.peers = s.lbu.peers := by rfl) : PlacesLaw t := requeued law (queue ▸ fits_of law) selections cache peers

theorem ite_lawful {c : Prop} [Decidable c] (yes : PlacesLaw s) (no : PlacesLaw t) : PlacesLaw (if c then s else t) := by
  split
  · exact yes
  · exact no

/-! ### The Link Unit (R165, R166, R168) -/

theorem request_lawful (f : Frame) (law : PlacesLaw s) : PlacesLaw (request f s).1 := by
  have fits := fits_of law
  rcases request_cases f s with ⟨e, -⟩ | ⟨e, -⟩ | ⟨e, -, room, -⟩ <;> rw [e]
  · exact law
  · exact requeued law (fits.map fun e => by split <;> exact id)
  · exact requeued law (fits.fresh room f)

theorem send_lawful (f : Frame) (law : PlacesLaw s) : PlacesLaw (send f s) := request_lawful f law

theorem queueStatus_lawful (law : PlacesLaw s) : PlacesLaw (queueStatus s) :=
  ite_lawful (unmoved (request_lawful .status law)) (request_lawful .status law)

theorem startStatus_lawful (law : PlacesLaw s) : PlacesLaw (startStatus s) :=
  ite_lawful (unmoved (request_lawful .status law)) (request_lawful .status law)

theorem announceChange_lawful (law : PlacesLaw s) : PlacesLaw (announceChange s) := queueStatus_lawful (unmoved law)

theorem queueCredit_lawful (law : PlacesLaw s) : PlacesLaw (queueCredit s) :=
  ite_lawful law (unmoved (request_lawful .credit law))

theorem removeClaim_lawful (k : LoadKind) (q : Byte) (law : PlacesLaw s) : PlacesLaw (removeClaim k q s) :=
  requeued law ((fits_of law).sublist List.filter_sublist)

theorem beginFrame_lawful (law : PlacesLaw s) : PlacesLaw (beginFrame s) := by
  unfold beginFrame
  split
  · next may =>
    have free : ∀ e ∈ s.lnk.queue, e.onBus.isSome = false := by
      simp only [mayOffer, onBus, Bool.and_eq_true, Bool.not_eq_true', List.any_eq_false, Bool.not_eq_true] at may
      exact may.2
    split
    · exact law
    · exact requeued law ((fits_of law).begin free _ _)
  · exact law

theorem standAgain_lawful (law : PlacesLaw s) : PlacesLaw (standAgain s) := requeued law ((fits_of law).map nofun)

theorem leaveQueue_lawful (law : PlacesLaw s) : PlacesLaw (leaveQueue s) :=
  requeued law ((fits_of law).sublist List.filter_sublist)

theorem countFailure_lawful (law : PlacesLaw s) : PlacesLaw (countFailure s) :=
  requeued law ((fits_of law).map fun e => by split <;> exact id)

theorem dropFrame_lawful (law : PlacesLaw s) : PlacesLaw (dropFrame s) := unmoved (leaveQueue_lawful law)

/-! ### The Load Budget Unit's own records (Chapter 9) -/

theorem modLoad_lawful (k : LoadKind) (f : OwnLoad → OwnLoad) (law : PlacesLaw s) : PlacesLaw (modLoad k f s) :=
  unmoved law (peers := modLoad_lbu_peers k f s)

theorem grantLoad_lawful (k : LoadKind) (law : PlacesLaw s) : PlacesLaw (grantLoad k s) :=
  unmoved (announceChange_lawful (modLoad_lawful k _ law))

theorem queueClaim_lawful (k : LoadKind) (law : PlacesLaw s) : PlacesLaw (queueClaim k s) :=
  ite_lawful (modLoad_lawful k _ (unmoved (request_lawful _ law))) (modLoad_lawful k _ law)

theorem testOne_lawful (k : LoadKind) (law : PlacesLaw s) : PlacesLaw (testOne k s) := by
  rcases testOne_cases k s with ⟨e, -⟩ | ⟨e, -⟩ | ⟨e, -⟩ | ⟨e, -⟩ <;> rw [e]
  · exact law
  · exact grantLoad_lawful k law
  · exact queueClaim_lawful k law
  · exact modLoad_lawful k _ law

theorem testWaiting_lawful (law : PlacesLaw s) : PlacesLaw (testWaiting s) :=
  testOne_lawful .heater (testOne_lawful .compressor (testOne_lawful .motor law))

theorem testOthers_lawful (k : LoadKind) (law : PlacesLaw s) : PlacesLaw (testOthers k s) := by
  have one {u : State} (j : LoadKind) (h : PlacesLaw u) : PlacesLaw (if j = k then u else testOne j u) :=
    ite_lawful h (testOne_lawful j h)
  exact one .heater (one .compressor (one .motor law))

theorem testRecord_lawful (k : LoadKind) (law : PlacesLaw s) : PlacesLaw (testRecord k s) :=
  ite_lawful (testOne_lawful k law) (testOthers_lawful k (testOne_lawful k law))

theorem waitAgain_lawful (k : LoadKind) (law : PlacesLaw s) : PlacesLaw (waitAgain k s) := modLoad_lawful k _ law

theorem clearLoad_lawful (k : LoadKind) (law : PlacesLaw s) : PlacesLaw (clearLoad k s) := modLoad_lawful k _ law

theorem retestQueued_lawful (k : LoadKind) (law : PlacesLaw s) : PlacesLaw (retestQueued k s) :=
  ite_lawful (waitAgain_lawful k (removeClaim_lawful k _ law)) law

theorem tableChanged_lawful (law : PlacesLaw s) : PlacesLaw (tableChanged s) :=
  testWaiting_lawful (retestQueued_lawful .heater (retestQueued_lawful .compressor (retestQueued_lawful .motor (unmoved law))))

theorem afterTable_lawful (before : State) (law : PlacesLaw s) : PlacesLaw (afterTable before s) :=
  ite_lawful law (tableChanged_lawful law)

theorem sendRelease_lawful (k : LoadKind) (q : Byte) (law : PlacesLaw s) : PlacesLaw (sendRelease k q s) :=
  announceChange_lawful (send_lawful _ law)

theorem askLoad_lawful (k : LoadKind) (c : ClaimClass) (a : Nat) (law : PlacesLaw s) : PlacesLaw (askLoad k c a s) :=
  ite_lawful (testRecord_lawful k (modLoad_lawful k _ law)) law

theorem withdrawLoad_lawful (k : LoadKind) (law : PlacesLaw s) : PlacesLaw (withdrawLoad k s) := by
  have cleared := clearLoad_lawful k law
  unfold withdrawLoad
  dsimp only
  split
  · exact ite_lawful (testWaiting_lawful cleared) cleared
  · exact testWaiting_lawful (ite_lawful (sendRelease_lawful k _ cleared) (clearLoad_lawful k (removeClaim_lawful k _ law)))
  · exact testWaiting_lawful (sendRelease_lawful k _ cleared)
  · exact law
  · exact law

theorem releaseLoad_lawful (k : LoadKind) (law : PlacesLaw s) : PlacesLaw (releaseLoad k s) :=
  ite_lawful (testWaiting_lawful (announceChange_lawful (clearLoad_lawful k law))) law

theorem giveUp_lawful (k : LoadKind) (law : PlacesLaw s) : PlacesLaw (giveUp k s) :=
  ite_lawful (releaseLoad_lawful k law) (withdrawLoad_lawful k law)

theorem raiseClass_lawful (k : LoadKind) (c : ClaimClass) (law : PlacesLaw s) : PlacesLaw (raiseClass k c s) := by
  unfold raiseClass
  extract_lets l stored
  have raised : PlacesLaw stored := modLoad_lawful k _ law
  split
  · exact raised
  · exact ite_lawful raised (send_lawful _ (removeClaim_lawful k _ raised))
  · exact raised
  · exact law
  · exact law

theorem lowerAmount_lawful (k : LoadKind) (a : Nat) (law : PlacesLaw s) : PlacesLaw (lowerAmount k a s) :=
  ite_lawful (testWaiting_lawful (announceChange_lawful (modLoad_lawful k _ law))) law

theorem claimEnded_lawful (k : LoadKind) (q : Byte) (completed : Bool) (law : PlacesLaw s) :
    PlacesLaw (claimEnded k q completed s) :=
  ite_lawful (ite_lawful (modLoad_lawful k _ law) (testWaiting_lawful (waitAgain_lawful k law))) law

theorem decideProposed_lawful (k : LoadKind) (law : PlacesLaw s) : PlacesLaw (decideProposed k s) :=
  ite_lawful (testWaiting_lawful (grantLoad_lawful k law))
    (testOthers_lawful k (sendRelease_lawful k _ (waitAgain_lawful k law)))

theorem takeObject_lawful (kind q : Byte) (sum : Half) (law : PlacesLaw s) : PlacesLaw (takeObject kind q sum s) := by
  unfold takeObject
  extract_lets noted ignored
  have note : PlacesLaw noted := unmoved law
  split
  · next k _ =>
    exact ite_lawful (testOthers_lawful k (modLoad_lawful k _ (sendRelease_lawful k _ (waitAgain_lawful k note)))) (unmoved note)
  · exact unmoved note

theorem decideSolo_lawful (k : LoadKind) (law : PlacesLaw s) : PlacesLaw (decideSolo k s) := by
  unfold decideSolo
  dsimp only
  split
  · have removed := removeClaim_lawful k (s.lbu.load k).sequence law
    have again := waitAgain_lawful k removed
    exact ite_lawful (grantLoad_lawful k removed) (ite_lawful (sendRelease_lawful k _ again) again)
  · exact ite_lawful (grantLoad_lawful k law) (sendRelease_lawful k _ (waitAgain_lawful k law))
  all_goals exact law

theorem becomeIsolated_lawful (law : PlacesLaw s) : PlacesLaw (becomeIsolated s) :=
  have decided := decideSolo_lawful .heater (decideSolo_lawful .compressor (decideSolo_lawful .motor law))
  ite_lawful (testWaiting_lawful decided) decided

theorem leaveIsolated_lawful (law : PlacesLaw s) : PlacesLaw (leaveIsolated s) := testWaiting_lawful (unmoved law)

theorem noteIsolation_lawful (was : Bool) (law : PlacesLaw s) : PlacesLaw (noteIsolation was s) :=
  ite_lawful law
    (ite_lawful (queueStatus_lawful (becomeIsolated_lawful law)) (queueStatus_lawful (leaveIsolated_lawful law)))

/-! ### The peer load table (R148, R149) -/

/-- An act that touches the peer load table alone of the four lists. -/
theorem repeered (law : PlacesLaw s) (peers : PeersOrdered t.lbu.peers) (queue : t.lnk.queue = s.lnk.queue := by rfl)
    (selections : t.vsq.queue = s.vsq.queue := by rfl) (cache : t.cca.entries = s.cca.entries := by rfl) : PlacesLaw t :=
  placesLaw_of (queue ▸ fits_of law) (selections ▸ law.selections) (cache ▸ cacheOrdered_of law) peers

theorem modPeer_lawful (st : Station) {f : Peer → Peer} (act : PeerAct f) (law : PlacesLaw s) : PlacesLaw (modPeer st f s) :=
  repeered law ((peersOrdered_of law).map (act.at st))

theorem removePeer_lawful (st : Station) (law : PlacesLaw s) : PlacesLaw (removePeer st s) :=
  repeered law ((peersOrdered_of law).sublist List.filter_sublist)

theorem notePeer_lawful (src : Station) (law : PlacesLaw s) : PlacesLaw (notePeer src s) := by
  unfold notePeer
  split
  · next none =>
    refine repeered law ((peersOrdered_of law).insert src fun x hx => ?_)
    simpa using List.find?_eq_none.mp none x hx
  · exact modPeer_lawful src (.of_same (fun _ => rfl) fun _ => rfl) law

theorem noteSource_lawful (src : Station) (law : PlacesLaw s) : PlacesLaw (noteSource src s) := notePeer_lawful src (unmoved law)

/-! ### The Refrigeration Controller (Chapter 8) -/

theorem enterWant_lawful (law : PlacesLaw s) : PlacesLaw (enterWant s) := askLoad_lawful .compressor _ _ (unmoved law)

theorem testOff_lawful (law : PlacesLaw s) : PlacesLaw (testOff s) := ite_lawful (enterWant_lawful law) law

theorem endLockout_lawful (law : PlacesLaw s) : PlacesLaw (endLockout s) := testOff_lawful (unmoved law)

theorem withdrawWant_lawful (law : PlacesLaw s) : PlacesLaw (withdrawWant s) := withdrawLoad_lawful .compressor (unmoved law)

theorem endDutyWait_lawful (law : PlacesLaw s) : PlacesLaw (endDutyWait s) := withdrawWant_lawful (unmoved law)

theorem raiseWant_lawful (law : PlacesLaw s) : PlacesLaw (raiseWant s) :=
  ite_lawful (raiseClass_lawful .compressor .coolUrgent (unmoved law)) law

theorem endStart_lawful (law : PlacesLaw s) : PlacesLaw (endStart s) := lowerAmount_lawful .compressor _ (unmoved law)

theorem startDefrost_lawful (law : PlacesLaw s) : PlacesLaw (startDefrost s) := askLoad_lawful .heater _ _ (unmoved law)

theorem openRelay_lawful (law : PlacesLaw s) : PlacesLaw (openRelay s) := by
  unfold openRelay
  extract_lets opened released
  have release : PlacesLaw released := releaseLoad_lawful .compressor (unmoved law)
  exact ite_lawful (startDefrost_lawful release) (unmoved release)

theorem wholeSecond_lawful (law : PlacesLaw s) : PlacesLaw (wholeSecond s) := ite_lawful (unmoved law) law

theorem stopCompressor_lawful (law : PlacesLaw s) : PlacesLaw (stopCompressor s) := openRelay_lawful (wholeSecond_lawful law)

theorem testStop_lawful (law : PlacesLaw s) : PlacesLaw (testStop s) := ite_lawful (stopCompressor_lawful law) law

theorem testWant_lawful (law : PlacesLaw s) : PlacesLaw (testWant s) :=
  ite_lawful law
    (ite_lawful (withdrawWant_lawful law) (ite_lawful (endDutyWait_lawful law) (ite_lawful (raiseWant_lawful law) law)))

theorem cabinetEvent_lawful (law : PlacesLaw s) : PlacesLaw (cabinetEvent s) := by
  unfold cabinetEvent
  split
  · exact testOff_lawful law
  · exact testWant_lawful law
  · exact testStop_lawful law
  all_goals exact law

theorem endHeaterWait_lawful (law : PlacesLaw s) : PlacesLaw (endHeaterWait s) := withdrawLoad_lawful .heater (unmoved law)

theorem endDefrost_lawful (law : PlacesLaw s) : PlacesLaw (endDefrost s) := giveUp_lawful .heater (unmoved law)

theorem evaporatorEvent_lawful (law : PlacesLaw s) : PlacesLaw (evaporatorEvent s) := ite_lawful (endDefrost_lawful law) law

theorem latchHotHold_lawful (law : PlacesLaw s) : PlacesLaw (latchHotHold s) := queueStatus_lawful (unmoved law)

theorem clearHotHold_lawful (law : PlacesLaw s) : PlacesLaw (clearHotHold s) := queueStatus_lawful (unmoved law)

/-! ### The Coin Unit and the Credit Unit (Chapters 1, 3 and 4) -/

theorem reevaluateExact_lawful (law : PlacesLaw s) : PlacesLaw (reevaluateExact s) :=
  ite_lawful law (queueStatus_lawful (unmoved law))

theorem probe_lawful (law : PlacesLaw s) : PlacesLaw (probe s) := reevaluateExact_lawful (unmoved law)

theorem probeAfter_lawful (before : List (Option Tube)) (law : PlacesLaw s) : PlacesLaw (probeAfter before s) :=
  ite_lawful law (probe_lawful law)

theorem modTube_lawful (i : Nat) (f : Tube → Tube) (law : PlacesLaw s) : PlacesLaw (modTube i f s) := by
  cases i <;> exact unmoved law

theorem changeTube_lawful (i : Nat) (f : Tube → Tube) (law : PlacesLaw s) : PlacesLaw (changeTube i f s) :=
  probeAfter_lawful _ (modTube_lawful i f law)

theorem raiseVersion_lawful (law : PlacesLaw s) : PlacesLaw (raiseVersion s) := ite_lawful law (queueCredit_lawful (unmoved law))

theorem enterIdle_lawful (law : PlacesLaw s) : PlacesLaw (enterIdle s) := reevaluateExact_lawful (raiseVersion_lawful (unmoved law))

theorem enterOpen_lawful (law : PlacesLaw s) : PlacesLaw (enterOpen s) := raiseVersion_lawful (unmoved law)

theorem payoutComplete_lawful (law : PlacesLaw s) : PlacesLaw (payoutComplete s) := enterIdle_lawful (unmoved law)

theorem payoutShort_lawful (law : PlacesLaw s) : PlacesLaw (payoutShort s) :=
  reevaluateExact_lawful (enterOpen_lawful (unmoved law))

theorem coinStep_lawful (law : PlacesLaw s) : PlacesLaw (coinStep s) := by
  rcases coinStep_cases s with ⟨-, e⟩ | ⟨i, -, e⟩ | ⟨-, -, e⟩ <;> rw [e]
  · exact payoutComplete_lawful law
  · exact unmoved law
  · exact payoutShort_lawful law

theorem enterPaying_lawful (law : PlacesLaw s) : PlacesLaw (enterPaying s) :=
  have turned := raiseVersion_lawful (unmoved law)
  ite_lawful (unmoved turned) (coinStep_lawful turned)

theorem openSession_lawful (v : Nat) (law : PlacesLaw s) : PlacesLaw (openSession v s) := raiseVersion_lawful (unmoved law)

theorem addCoin_lawful (v : Nat) (law : PlacesLaw s) : PlacesLaw (addCoin v s) :=
  ite_lawful (unmoved law) (raiseVersion_lawful (unmoved law))

theorem creditCoin_lawful (v : Nat) (law : PlacesLaw s) : PlacesLaw (creditCoin v s) :=
  ite_lawful (openSession_lawful v law) (addCoin_lawful v law)

theorem takeDebit_lawful (r : Station) (n : Byte) (a : Nat) (tag : Byte) (x : Option Half) (law : PlacesLaw s) :
    PlacesLaw (takeDebit r n a tag x s).1 := by
  rcases takeDebit_cases r n a tag x s with ⟨-, -, e⟩ | ⟨-, e⟩ <;> rw [e]
  · exact raiseVersion_lawful (unmoved law)
  · exact law

theorem afterSettle_lawful (r : SettleResult) (law : PlacesLaw s) : PlacesLaw (afterSettle r s) :=
  ite_lawful (ite_lawful (enterIdle_lawful (unmoved law)) (enterPaying_lawful (unmoved law)))
    (ite_lawful (enterPaying_lawful law) (ite_lawful (enterIdle_lawful law) (enterOpen_lawful law)))

theorem endHold_lawful (r : SettleResult) (law : PlacesLaw s) : PlacesLaw (endHold r s) := ite_lawful (unmoved law) (unmoved law)

theorem takeSettle_lawful (r : Station) (tag n : Byte) (res : SettleResult) (law : PlacesLaw s) :
    PlacesLaw (takeSettle r tag n res s).1 := by
  rcases takeSettle_cases r tag n res s with ⟨-, e⟩ | ⟨-, e⟩ <;> rw [e]
  · exact afterSettle_lawful res (endHold_lawful res law)
  · exact law

theorem expireHold_lawful (h : Hold) (law : PlacesLaw s) : PlacesLaw (expireHold h s) :=
  ite_lawful (enterPaying_lawful (unmoved law)) (enterOpen_lawful (unmoved law))

theorem forfeit_lawful (law : PlacesLaw s) : PlacesLaw (forfeit s) := enterIdle_lawful (unmoved law)

theorem expireIdle_lawful (law : PlacesLaw s) : PlacesLaw (expireIdle s) := ite_lawful (forfeit_lawful law) (enterPaying_lawful law)

theorem pressLever_lawful (law : PlacesLaw s) : PlacesLaw (pressLever s) := by
  unfold pressLever
  split
  · exact enterPaying_lawful law
  · exact unmoved law
  all_goals exact law

theorem expireRefresh_lawful (law : PlacesLaw s) : PlacesLaw (expireRefresh s) := ite_lawful (queueCredit_lawful law) (unmoved law)

theorem payCoin_lawful (i a : Nat) (law : PlacesLaw s) : PlacesLaw (payCoin i a s) :=
  have paid := raiseVersion_lawful (unmoved (changeTube_lawful i Tube.giveCoin law))
  ite_lawful (payoutComplete_lawful paid) (unmoved paid)

theorem seeCoin_lawful (law : PlacesLaw s) : PlacesLaw (seeCoin s) := by
  unfold seeCoin
  split
  · exact payCoin_lawful _ _ law
  · exact unmoved law

theorem failAttempt_lawful (i a : Nat) (law : PlacesLaw s) : PlacesLaw (failAttempt i a s) :=
  ite_lawful (unmoved law) (coinStep_lawful (changeTube_lawful i _ law))

end Sys2Proof.Machine.Placing
end

section
/-! PROOFS. What keeps the law of the places: the operations of the Vend Sequencer, the agenda of an event, and the hearing of a frame
(Chapters 5 to 7 and 10). -/

namespace Sys2Proof.Machine.Placing

set_option Elab.async false

open Laws

variable {s t : State}

/-! ### Answers, settlement and the outcome decision (R82, R84, R91, R108, R109) -/

theorem modSlot_lawful (n : Nat) (f : Slot → Slot) (law : PlacesLaw s) : PlacesLaw (modSlot n f s) := unmoved law

theorem modVend_lawful (f : Vend → Vend) (law : PlacesLaw s) : PlacesLaw (modVend f s) := unmoved law

theorem modTest_lawful (f : Test → Test) (law : PlacesLaw s) : PlacesLaw (modTest f s) := unmoved law

theorem answerPanel_lawful (r : Selection) (o : VendOutcome) (p : Nat) (law : PlacesLaw s) : PlacesLaw (answerPanel r o p s) :=
  send_lawful _ law

/-- The selection queue becomes no longer. -/
theorem reselected (law : PlacesLaw s) {l : List Selection} (le : l.length ≤ s.vsq.queue.length) :
    PlacesLaw (s.modVsq fun q => { q with queue := l }) :=
  placesLaw_of (fits_of (s := s) law) (le.trans law.selections) (cacheOrdered_of (s := s) law) (peersOrdered_of (s := s) law)

theorem emptyQueue_lawful (o : VendOutcome) (law : PlacesLaw s) : PlacesLaw (emptyQueue o s) := by
  have answered (l : List Selection) {u : State} (h : PlacesLaw u) :
      PlacesLaw (l.foldl (fun t sel => answerPanel sel o 0 t) u) := by
    induction l generalizing u with
    | nil => exact h
    | cons r l ih => exact ih (answerPanel_lawful r o 0 h)
  exact reselected (answered s.vsq.queue law) (Nat.zero_le _)

theorem dropQueue_lawful (law : PlacesLaw s) : PlacesLaw (dropQueue s) := reselected law (Nat.zero_le _)

theorem slotOutcome_lawful (n : Nat) (o : VendOutcome) (law : PlacesLaw s) : PlacesLaw (slotOutcome n o s) := by
  unfold slotOutcome
  split
  · exact unmoved law
  · exact unmoved law
  · exact law

theorem countUnpaid_lawful (r : SettleResult) (a : Option SettleOutcome) (law : PlacesLaw s) : PlacesLaw (countUnpaid r a s) :=
  ite_lawful (unmoved law) law

theorem settlementOver_lawful (law : PlacesLaw s) : PlacesLaw (settlementOver s) := unmoved law

theorem sendSettle_lawful (v : Vend) (tag n : Byte) (r : SettleResult) (k : Nat) (law : PlacesLaw s) :
    PlacesLaw (sendSettle v tag n r k s) := modVend_lawful _ (send_lawful _ law)

theorem settleAtHome_lawful (g : Grant) (r : SettleResult) (law : PlacesLaw s) : PlacesLaw (settleAtHome g r s) :=
  settlementOver_lawful (countUnpaid_lawful r _ (takeSettle_lawful _ _ _ r law))

theorem settleVend_lawful (v : Vend) (o : VendOutcome) (law : PlacesLaw s) : PlacesLaw (settleVend v o s) := by
  unfold settleVend
  split
  · exact ite_lawful (settleAtHome_lawful _ _ law) (sendSettle_lawful v _ _ _ 1 law)
  · split
    · exact sendSettle_lawful v _ _ _ 1 law
    · exact settlementOver_lawful law

theorem giveUpMotor_lawful (law : PlacesLaw s) : PlacesLaw (giveUpMotor s) :=
  ite_lawful (ite_lawful (releaseLoad_lawful .motor law) law) (withdrawLoad_lawful .motor law)

theorem tryLeave_lawful (law : PlacesLaw s) : PlacesLaw (tryLeave s) := by
  rcases tryLeave_cases s with e | ⟨v, -, -, -, -, e⟩ <;> rw [e]
  · exact law
  · exact unmoved (answerPanel_lawful v.selection (v.outcome.getD .aborted) v.price law)

theorem decideOutcome_lawful (o : VendOutcome) (c : EndCause) (law : PlacesLaw s) : PlacesLaw (decideOutcome o c s) := by
  unfold decideOutcome
  split
  · exact law
  · next v _ =>
    exact tryLeave_lawful (settleVend_lawful v o (giveUpMotor_lawful (unmoved (slotOutcome_lawful v.selection.slot o law))))

/-! ### Claiming, turning and the motor test (R99, R101, R115, R116) -/

theorem enterClaiming_lawful (law : PlacesLaw s) : PlacesLaw (enterClaiming s) := askLoad_lawful .motor _ _ (unmoved law)

theorem finishTest_lawful (law : PlacesLaw s) : PlacesLaw (finishTest s) := by
  unfold finishTest
  split
  · split
    · exact ite_lawful (unmoved (send_lawful _ law)) law
    · exact law
  · exact law

theorem endTest_lawful (r : TestResult) (law : PlacesLaw s) : PlacesLaw (endTest r s) :=
  finishTest_lawful (giveUpMotor_lawful (unmoved law))

theorem beginTest_lawful (n : Nat) (x : Slot) (tag : Byte) (st : Station) (law : PlacesLaw s) :
    PlacesLaw (beginTest n x tag st s) :=
  ite_lawful (endTest_lawful .driveFault (unmoved law))
    (ite_lawful (endTest_lawful .unavailableTemp (unmoved law)) (askLoad_lawful .motor _ _ (unmoved law)))

/-! ### Payment and the head record (R53, R86 to R89, R97) -/

theorem endUnpaid_lawful (o : VendOutcome) (law : PlacesLaw s) : PlacesLaw (endUnpaid o s) :=
  decideOutcome_lawful o .debit (modVend_lawful _ law)

theorem askDebit_lawful (v : Vend) (n : Byte) (x : Option Half) (retry : Bool) (law : PlacesLaw s) :
    PlacesLaw (askDebit v n x retry s) :=
  have asked := request_lawful (.debit v.selection.creditStation n v.price (nextTag s) x) (unmoved law : PlacesLaw (takeTag s))
  ite_lawful (modVend_lawful _ asked) (endUnpaid_lawful .paymentUnreachable asked)

theorem debitGranted_lawful (tag n : Byte) (law : PlacesLaw s) : PlacesLaw (debitGranted tag n s) :=
  enterClaiming_lawful (modVend_lawful _ law)

theorem actOnDebit_lawful (v : Vend) (a : Asked) (o : DebitOutcome) (b : Option Nat) (x : Option Half) (law : PlacesLaw s) :
    PlacesLaw (actOnDebit v a o b x s) :=
  ite_lawful (debitGranted_lawful _ _ law) (ite_lawful (askDebit_lawful v _ _ _ law) (endUnpaid_lawful _ law))

theorem debitAtHome_lawful (v : Vend) (law : PlacesLaw s) : PlacesLaw (debitAtHome v s) :=
  have taken := takeDebit_lawful s.ssu.own s.cru.session.number v.price (nextTag s) (some s.cru.session.version)
    (unmoved law : PlacesLaw (takeTag s))
  ite_lawful (debitGranted_lawful _ _ taken) (endUnpaid_lawful _ taken)

theorem enterDebiting_lawful (v : Vend) (law : PlacesLaw s) : PlacesLaw (enterDebiting v s) :=
  ite_lawful (debitAtHome_lawful v (unmoved law)) (askDebit_lawful v _ _ _ (unmoved law))

theorem startVend_lawful (r : Selection) (p : Nat) (law : PlacesLaw s) : PlacesLaw (startVend r p s) :=
  ite_lawful (enterClaiming_lawful (unmoved law)) (enterDebiting_lawful _ (unmoved law))

/-- R97: the head record leaves the selection queue. -/
theorem takeHead_lawful (law : PlacesLaw s) : PlacesLaw (takeHead s) := by
  unfold takeHead
  refine ite_lawful ?_ law
  split
  · exact law
  · next r rest queue =>
    have taken : PlacesLaw (s.modVsq fun q => { q with queue := rest }) := reselected law (by simp [queue])
    split
    · exact unmoved (answerPanel_lawful r _ _ taken)
    · exact startVend_lawful r _ taken

/-! ### Grants and the agenda -/

theorem motorGranted_lawful (law : PlacesLaw s) : PlacesLaw (motorGranted s) := by
  unfold motorGranted
  refine ite_lawful ?_ law
  split
  · split
    · exact ite_lawful (decideOutcome_lawful _ _ law) (unmoved law)
    · exact law
  · split
    · exact ite_lawful (unmoved law) law
    · exact law
  · exact law

theorem takeSignal_lawful (g : Signal) (law : PlacesLaw s) : PlacesLaw (takeSignal g s) := by
  unfold takeSignal
  split
  · exact motorGranted_lawful law
  · exact ite_lawful (unmoved law) law
  · exact ite_lawful (unmoved law) law
  · exact takeHead_lawful law

theorem runAgendaFor_lawful (n : Nat) (law : PlacesLaw s) : PlacesLaw (runAgendaFor n s) := by
  induction n generalizing s with
  | zero => exact law
  | succ n ih =>
    unfold runAgendaFor
    split
    · exact law
    · exact ih (takeSignal_lawful _ (unmoved law))

theorem runAgenda_lawful (law : PlacesLaw s) : PlacesLaw (runAgenda s) := runAgendaFor_lawful 32 law

/-! ### What reaches the vend or the test in progress -/

theorem stopMotor_lawful (law : PlacesLaw s) : PlacesLaw (stopMotor s) := unmoved law

theorem enterDropWait_lawful (law : PlacesLaw s) : PlacesLaw (enterDropWait s) := unmoved law

theorem takeCamPulse_lawful (law : PlacesLaw s) : PlacesLaw (takeCamPulse s) := by
  unfold takeCamPulse
  split
  · have counted (f : Vend → Vend) := stopMotor_lawful (modVend_lawful f law)
    exact ite_lawful
      (ite_lawful (ite_lawful (decideOutcome_lawful _ _ (counted _)) (enterDropWait_lawful (counted _))) (modVend_lawful _ law)) law
  · exact ite_lawful (ite_lawful (endTest_lawful _ (modTest_lawful _ law)) (modTest_lawful _ law)) law
  · exact law

theorem takeJam_lawful (law : PlacesLaw s) : PlacesLaw (takeJam s) := by
  unfold takeJam
  split
  · exact ite_lawful (ite_lawful (decideOutcome_lawful _ _ (unmoved law)) (unmoved law)) law
  · exact ite_lawful (endTest_lawful _ (unmoved law)) law
  · exact law

theorem takeMotorOpen_lawful (law : PlacesLaw s) : PlacesLaw (takeMotorOpen s) := by
  unfold takeMotorOpen
  split
  · exact ite_lawful (decideOutcome_lawful _ _ (unmoved law)) law
  · exact ite_lawful (endTest_lawful _ (unmoved law)) law
  · exact law

theorem takeDrop_lawful (law : PlacesLaw s) : PlacesLaw (takeDrop s) := by
  unfold takeDrop
  dsimp only
  split
  · exact ite_lawful (ite_lawful (decideOutcome_lawful _ _ (unmoved law)) (unmoved law)) (unmoved law)
  · exact unmoved law

theorem endWindow_lawful (v : Vend) (law : PlacesLaw s) : PlacesLaw (endWindow v s) :=
  have decided (o : VendOutcome) (c : EndCause) (f : Vend → Vend) := decideOutcome_lawful o c (modVend_lawful f law)
  ite_lawful (unmoved law) (ite_lawful (decided _ _ _) (ite_lawful (decided _ _ _) (decided _ _ _)))

theorem doorAtVend_lawful (law : PlacesLaw s) : PlacesLaw (doorAtVend s) := by
  unfold doorAtVend
  split
  · exact law
  · split
    · exact decideOutcome_lawful _ _ law
    · exact decideOutcome_lawful _ _ law
    · exact ite_lawful (decideOutcome_lawful _ _ (unmoved law)) (unmoved law)
    · exact unmoved law
    all_goals exact law

theorem allOffReported_lawful (law : PlacesLaw s) : PlacesLaw (allOffReported s) := by
  have released : PlacesLaw (if motorHeld s then releaseLoad .motor s else s) := ite_lawful (releaseLoad_lawful .motor law) law
  unfold allOffReported
  split
  · exact tryLeave_lawful released
  · exact ite_lawful (finishTest_lawful released) law
  · exact law

theorem faultAtVend_lawful (law : PlacesLaw s) : PlacesLaw (faultAtVend s) := by
  have emptied := emptyQueue_lawful .outOfService law
  unfold faultAtVend
  dsimp only
  split
  · exact decideOutcome_lawful _ _ emptied
  · exact decideOutcome_lawful _ _ emptied
  · exact decideOutcome_lawful _ _ (unmoved emptied)
  · exact decideOutcome_lawful _ _ emptied
  · split
    · exact ite_lawful (allOffReported_lawful emptied) (endTest_lawful _ emptied)
    · exact emptied
  · exact allOffReported_lawful emptied
  · exact emptied

theorem lossOfCold_lawful (law : PlacesLaw s) : PlacesLaw (lossOfCold s) := by
  unfold lossOfCold
  split
  · exact ite_lawful (decideOutcome_lawful _ _ law) law
  · exact ite_lawful (endTest_lawful _ law) law
  · exact law

theorem saleEvent_lawful (law : PlacesLaw s) : PlacesLaw (saleEvent s) :=
  ite_lawful (lossOfCold_lawful (unmoved law)) (unmoved law)

/-! ### The address conflict and the hearing of a frame (R148, R164, R171) -/

theorem enterListenOnly_lawful (law : PlacesLaw s) : PlacesLaw (enterListenOnly s) :=
  dropQueue_lawful (requeued law (.of_none (Nat.zero_le 8) nofun))

theorem queueLastStatus_lawful (law : PlacesLaw s) : PlacesLaw (queueLastStatus s) :=
  requeued law (.of_none (by show 1 ≤ 8; decide) fun e he => by rw [List.mem_singleton.mp he]; rfl)

theorem takeConflict_lawful (law : PlacesLaw s) : PlacesLaw (takeConflict s) :=
  have listens := enterListenOnly_lawful law
  ite_lawful law (runAgenda_lawful (queueLastStatus_lawful (ite_lawful listens (becomeIsolated_lawful listens))))

theorem acknowledge_lawful (b : Bool) (law : PlacesLaw s) : PlacesLaw (acknowledge b s) := unmoved law

theorem afterHearing_lawful (listed : Bool) (before : State) (law : PlacesLaw s) : PlacesLaw (afterHearing listed before s) :=
  ite_lawful (ite_lawful (tableChanged_lawful law) (afterTable_lawful before law)) (noteIsolation_lawful _ law)

/-- An act that keeps the law of the places. -/
def KeepsPlaces (f : State → State) : Prop := ∀ ⦃u : State⦄, PlacesLaw u → PlacesLaw (f u)

/-! ### Time -/

theorem advance_lawful (d : Nat) (law : PlacesLaw s) : PlacesLaw (advance d s) :=
  placesLaw_of (fits_of (s := s) law) law.selections ((cacheOrdered_of law).map fun _ => rfl) ((peersOrdered_of law).map (later_act d))

theorem elapse_lawful (d : Nat) (law : PlacesLaw s) : PlacesLaw (elapse d s) := by
  rcases elapse_cases d s with e | e <;> rw [e]
  · exact law
  · exact advance_lawful d law

theorem reach_lawful (limit now : Nat) (law : PlacesLaw s) : PlacesLaw (reach limit now s) := elapse_lawful _ law

section Frames
variable {f : State → State} (hf : KeepsPlaces f)
include hf

theorem running_lawful : KeepsPlaces (running f) := fun _ law => ite_lawful (hf law) law

theorem receiving_lawful : KeepsPlaces (receiving f) := fun _ law => ite_lawful law (hf law)

theorem directed_lawful (dst : Station) : KeepsPlaces (directed dst f) := fun _ law => ite_lawful (hf law) law

theorem onTimer_lawful (timer : Option Nat) (limit : Nat) : KeepsPlaces (onTimer timer limit f) := fun _ law => by
  unfold onTimer
  split
  · exact runAgenda_lawful (hf (reach_lawful _ _ law))
  · exact law

theorem hearWith_lawful (src : Station) {act : State → State} (ha : KeepsPlaces act) (listed : Bool) :
    KeepsPlaces (hearWith src act listed f) := fun s law => by
  rcases hearWith_cases src act listed f s with ⟨-, e⟩ | ⟨-, -, e⟩ | ⟨-, -, e⟩ <;> rw [e]
  · exact law
  · exact takeConflict_lawful (acknowledge_lawful false law)
  · have acted := ha (noteSource_lawful src (acknowledge_lawful (s.lnk.state == .active) law))
    exact runAgenda_lawful (hf (runAgenda_lawful (afterHearing_lawful listed _ acted)))

theorem hear_lawful (src : Station) : KeepsPlaces (hear src f) := hearWith_lawful hf src (fun _ => id) false

theorem serve_lawful (h : ServiceHead) : KeepsPlaces (serve h f) := by
  refine hear_lawful (fun u law => ?_) h.source
  split
  · exact directed_lawful hf h.dest law
  · exact unmoved law

/-- A filtered change that is an event from the end of the reconciliation onward. -/
theorem inputEvent_lawful (g : Inputs → Inputs) : KeepsPlaces fun u => running f (u.modInputs g) := fun _ law =>
  running_lawful hf (unmoved law)

end Frames

end Sys2Proof.Machine.Placing
end

section
/-! PROOFS. What keeps the law of the places: every command, and with it every step (R75, R83, R165, R168). -/

namespace Sys2Proof.Machine.Placing

set_option Elab.async false

open Laws

/-! ### Coins, credit and the payout (Chapters 1 to 4) -/

theorem takeCoin_lawful (code : Nat) (c : CoinType) : KeepsPlaces (takeCoin code c) := fun s law => by
  unfold takeCoin
  split
  · next i _ =>
    have routed : PlacesLaw (routeToTube i c.value s) := unmoved (modTube_lawful i Tube.takeCoin
      (unmoved law : PlacesLaw (s.modTotals fun t => { t with toTubes := moneyUp t.toTubes c.value })))
    exact probeAfter_lawful _ (creditCoin_lawful _ routed)
  · exact ite_lawful (creditCoin_lawful _ (unmoved law)) (unmoved law)

theorem coinReport_lawful (code : Nat) : KeepsPlaces (coinReport code) := fun s law => by
  unfold coinReport
  refine ite_lawful law (ite_lawful (unmoved law) (ite_lawful (unmoved law) ?_))
  split
  · exact takeCoin_lawful code _ law
  · exact unmoved law

theorem endRouting_lawful : KeepsPlaces endRouting := fun s law => by
  unfold endRouting
  split
  · exact unmoved (reach_lawful _ _ law)
  · exact law

theorem askSave_lawful : KeepsPlaces askSave := fun _ law => ite_lawful (unmoved law) (unmoved law)

theorem endSave_lawful (ending : SaveEnd) : KeepsPlaces (endSave ending) := fun s law => by
  unfold endSave
  split
  · exact law
  · exact ite_lawful (unmoved law) (unmoved law)

theorem takeDoorOpening_lawful : KeepsPlaces takeDoorOpening := fun _ law =>
  runAgenda_lawful (queueStatus_lawful (doorAtVend_lawful (emptyQueue_lawful .doorOpen law)))

theorem takeDoorClosing_lawful : KeepsPlaces takeDoorClosing := fun _ law => queueStatus_lawful (askSave_lawful law)

theorem answerDebit_lawful (src : Station) (n : Byte) (a : Nat) (tag : Byte) (x : Option Half) :
    KeepsPlaces (answerDebit src n a tag x) := fun _ law => ite_lawful law (send_lawful _ (takeDebit_lawful src n a tag x law))

theorem answerSettle_lawful (src : Station) (tag n : Byte) (r : SettleResult) : KeepsPlaces (answerSettle src tag n r) := fun _ law =>
  send_lawful _ (takeSettle_lawful src tag n r law)

theorem endOldHold_lawful : KeepsPlaces endOldHold := fun s law => by
  unfold endOldHold
  split
  · exact expireHold_lawful _ (reach_lawful _ _ law)
  · exact law

theorem endRefresh_lawful : KeepsPlaces endRefresh := fun s law => by
  unfold endRefresh
  split
  · exact expireRefresh_lawful (reach_lawful _ _ law)
  · exact law

theorem endIdleTime_lawful : KeepsPlaces endIdleTime := fun s law => by
  unfold endIdleTime
  split
  · exact ite_lawful (expireIdle_lawful (reach_lawful _ _ law)) law
  · exact law

theorem endPulse_lawful : KeepsPlaces endPulse := fun s law => by
  unfold endPulse
  split
  · exact unmoved (reach_lawful _ _ law)
  · exact law

theorem endPayoutWindow_lawful : KeepsPlaces endPayoutWindow := fun s law => by
  unfold endPayoutWindow
  split
  · exact failAttempt_lawful _ _ (reach_lawful _ _ law)
  · exact law

theorem exitCleared_lawful : KeepsPlaces exitCleared := fun s law => by
  unfold exitCleared
  split
  · exact coinStep_lawful law
  · exact law

theorem endClearTime_lawful : KeepsPlaces endClearTime := fun s law => by
  unfold endClearTime
  split
  · exact payoutShort_lawful (reach_lawful _ _ law)
  · exact law

/-! ### The credit cache (R76 to R79) -/

/-- An act that touches the credit cache alone of the four lists. -/
theorem recached {s t : State} (law : PlacesLaw s) (cache : CacheOrdered t.cca.entries) (queue : t.lnk.queue = s.lnk.queue := by rfl)
    (selections : t.vsq.queue = s.vsq.queue := by rfl) (peers : t.lbu.peers = s.lbu.peers := by rfl) : PlacesLaw t :=
  placesLaw_of (queue ▸ fits_of law) (selections ▸ law.selections) cache (peers ▸ peersOrdered_of law)

theorem cacheCredit_lawful (n : CacheEntry) : KeepsPlaces (cacheCredit n) := fun s law => by
  refine recached law ?_
  show CacheOrdered (rememberNumber n.station n.number { s.cca with entries := takeCredit n s.cca.entries }).entries
  rw [rememberNumber_entries]
  exact takeCredit_ordered (cacheOrdered_of law) n

theorem cachePurge_lawful (st : Station) (n : Byte) : KeepsPlaces (cachePurge st n) := fun s law => by
  refine recached law ?_
  show CacheOrdered (rememberNumber st n { s.cca with entries := removeEntry st s.cca.entries }).entries
  rw [rememberNumber_entries]
  exact (cacheOrdered_of law).sublist List.filter_sublist

theorem ageOutEntry_lawful (st : Station) : KeepsPlaces (ageOutEntry st) := fun s law => by
  unfold ageOutEntry
  split
  · next e _ =>
    have later := reach_lawful Config.cacheAge e.age law
    exact recached later ((cacheOrdered_of later).sublist List.filter_sublist)
  · exact law

/-! ### Selections (R81 to R83) -/

/-- R81, R83: a SELECT that passes every check finds a place in the selection queue. -/
theorem selectRefusal_room {panel : Station} {slot credit : Nat} {s : State} (h : selectRefusal panel slot credit s = none) :
    s.vsq.queue.length < 4 := by
  unfold selectRefusal at h
  split at h
  · cases h
  split at h
  · cases h
  split at h
  · cases h
  split at h
  · cases h
  split at h
  · cases h
  split at h
  · cases h
  · next free => exact Nat.lt_of_not_le fun full => free (.inl full)

theorem joinQueue_lawful {r : Selection} {s : State} (law : PlacesLaw s) (room : s.vsq.queue.length < 4) :
    PlacesLaw (joinQueue r s) := by
  have joined : PlacesLaw (s.modVsq fun q => { q with queue := q.queue ++ [r] }) :=
    placesLaw_of (fits_of (s := s) law) ((List.length_append ..).trans_le room) (cacheOrdered_of (s := s) law)
      (peersOrdered_of (s := s) law)
  exact ite_lawful (unmoved (send_lawful _ joined)) (send_lawful _ joined)

theorem takeSelect_lawful (panel : Station) (tag : Byte) (slot credit : Nat) : KeepsPlaces (takeSelect panel tag slot credit) :=
  fun s law => by
    unfold takeSelect
    refine ite_lawful law ?_
    dsimp only
    split
    · exact answerPanel_lawful _ _ _ law
    · next passes => exact joinQueue_lawful law (selectRefusal_room passes)

/-! ### Debit and settlement as requester, and the vend's timers (R87 to R92, R99 to R106) -/

theorem repeatDebit_lawful (v : Vend) (a : Asked) : KeepsPlaces (repeatDebit v a) := fun _ law =>
  ite_lawful (ite_lawful (modVend_lawful _ (request_lawful _ law)) (endUnpaid_lawful _ law)) (endUnpaid_lawful _ law)

theorem endAnswerTime_lawful : KeepsPlaces endAnswerTime := fun s law => by
  unfold endAnswerTime
  split
  · split
    · exact runAgenda_lawful (repeatDebit_lawful _ _ (reach_lawful _ _ law))
    · exact law
  · exact law

theorem takeDebitAnswer_lawful (src : Station) (tag : Byte) (o : DebitOutcome) (b x : Option Half) :
    KeepsPlaces (takeDebitAnswer src tag o b x) := fun s law => by
  unfold takeDebitAnswer
  split
  · split
    · exact ite_lawful (actOnDebit_lawful _ _ o _ x law) law
    · exact law
  · exact law

theorem settlementEnded_lawful (r : SettleResult) (a : Option SettleOutcome) :
    KeepsPlaces fun s => tryLeave (settlementOver (countUnpaid r a s)) := fun _ law =>
  tryLeave_lawful (settlementOver_lawful (countUnpaid_lawful r a law))

theorem endSettleTime_lawful : KeepsPlaces endSettleTime := fun s law => by
  unfold endSettleTime
  split
  · split
    · next v _ _ a _ =>
      have later := reach_lawful Config.settleTime a.timer law
      exact runAgenda_lawful (ite_lawful (sendSettle_lawful v _ _ _ 2 later) (settlementEnded_lawful a.result none later))
    · exact law
  · exact law

theorem takeSettleAnswer_lawful (src : Station) (tag : Byte) (o : SettleOutcome) : KeepsPlaces (takeSettleAnswer src tag o) :=
  fun s law => by
    unfold takeSettleAnswer
    split
    · split
      · exact ite_lawful (settlementEnded_lawful _ (some o) law) law
      · exact law
    · exact law

theorem endBudgetTime_lawful : KeepsPlaces endBudgetTime := fun s law => by
  unfold endBudgetTime
  split
  · split
    · exact runAgenda_lawful (decideOutcome_lawful _ _ (reach_lawful _ _ law))
    · exact law
  · split
    · exact runAgenda_lawful (endTest_lawful _ (reach_lawful _ _ law))
    · exact law
  · exact law

theorem takeCam_lawful : KeepsPlaces takeCam := fun s law => by
  unfold takeCam
  split
  · exact law
  · exact runAgenda_lawful (takeCamPulse_lawful (unmoved law))

theorem endJamTime_lawful : KeepsPlaces endJamTime := fun s law => by
  unfold endJamTime
  split
  · exact runAgenda_lawful (takeJam_lawful (reach_lawful _ _ law))
  · exact law

theorem endDropWindow_lawful : KeepsPlaces endDropWindow := fun s law => by
  unfold endDropWindow
  split
  · split
    · exact ite_lawful (runAgenda_lawful (endWindow_lawful _ (reach_lawful _ _ law))) law
    · exact law
  · exact law

/-! ### The drive and the sensors (Chapters 7 and 8) -/

theorem transfer_lawful : KeepsPlaces transfer := fun s law => by
  unfold transfer
  split
  · exact law
  · exact unmoved law
  · exact allOffReported_lawful (unmoved law)

theorem readback_lawful (rows : BitVec 8) (cols : BitVec 10) {s : State} (law : PlacesLaw s) :
    PlacesLaw (readback rows cols s).1 := by
  unfold readback
  split
  · exact unmoved law
  · split
    · exact unmoved law
    · split
      · exact unmoved law
      · exact law

theorem readbackStep_lawful (rows : BitVec 8) (cols : BitVec 10) : KeepsPlaces (readbackStep rows cols) := fun s law => by
  have read := readback_lawful rows cols law
  unfold readbackStep
  dsimp only
  split
  · exact read
  · exact queueStatus_lawful (faultAtVend_lawful (unmoved read))

theorem tickDrive_lawful (rows : BitVec 8) (cols cams : BitVec 10) : KeepsPlaces (tickDrive rows cols cams) := fun s law => by
  unfold tickDrive
  extract_lets moved ticked
  have time : PlacesLaw ticked := unmoved (reach_lawful Config.driveTick s.mxd.tick law)
  exact ite_lawful (runAgenda_lawful (readbackStep_lawful rows cols (transfer_lawful time))) time

theorem takeReport_lawful (r : CurrentReport) : KeepsPlaces (takeReport r) := fun _ law => by
  cases r
  · exact law
  · exact takeMotorOpen_lawful law
  · exact takeJam_lawful law

theorem sampleCurrent_lawful (reading : Byte) : KeepsPlaces (sampleCurrent reading) := fun s law => by
  unfold sampleCurrent
  split
  · next e _ _ =>
    exact ite_lawful (runAgenda_lawful (takeReport_lawful _ (unmoved (reach_lawful (sampleTime s.mxd) e law)))) law
  · exact law

theorem followFault_lawful (was : Bool) : KeepsPlaces (followFault was) := fun _ law => ite_lawful law (queueStatus_lawful law)

theorem sensorReaches_lawful (k : Sensor) : KeepsPlaces (sensorReaches k) := fun _ law => by
  cases k
  · exact runAgenda_lawful (saleEvent_lawful (runAgenda_lawful (cabinetEvent_lawful law)))
  · exact runAgenda_lawful (evaporatorEvent_lawful law)

theorem takeAverage_lawful (k : Sensor) (x : Vector (BitVec 10) 8) : KeepsPlaces (takeAverage k x) := fun s law => by
  unfold takeAverage
  extract_lets old c raw new updated shown
  have taken : PlacesLaw shown := followFault_lawful _ (unmoved (reach_lawful Config.averagingPeriod old.period law))
  exact ite_lawful (sensorReaches_lawful k taken) taken

theorem endOnPhase_lawful : KeepsPlaces endOnPhase := fun s law => by
  unfold endOnPhase
  split
  · exact endDutyWait_lawful law
  · exact testStop_lawful law
  all_goals exact law

theorem lockoutExpiry_lawful : KeepsPlaces lockoutExpiry := fun _ law =>
  ite_lawful (onTimer_lawful (fun _ => endLockout_lawful) _ _ law) law

theorem offExpiry_lawful : KeepsPlaces offExpiry := fun _ law =>
  ite_lawful (onTimer_lawful (fun _ => testOff_lawful) _ _ law) law

theorem urgentExpiry_lawful : KeepsPlaces urgentExpiry := fun _ law =>
  ite_lawful (onTimer_lawful (fun _ => raiseWant_lawful) _ _ law) law

theorem dutyExpiry_lawful : KeepsPlaces dutyExpiry := fun _ law =>
  ite_lawful (onTimer_lawful endOnPhase_lawful _ _ law) law

theorem startExpiry_lawful : KeepsPlaces startExpiry := fun _ law =>
  ite_lawful (onTimer_lawful (fun _ => endStart_lawful) _ _ law) law

theorem heaterWaitEnd_lawful : KeepsPlaces heaterWaitEnd := fun _ law =>
  ite_lawful (onTimer_lawful (fun _ => endHeaterWait_lawful) _ _ law) law

theorem defrostExpiry_lawful : KeepsPlaces defrostExpiry := fun _ law =>
  ite_lawful (onTimer_lawful (fun _ => endDefrost_lawful) _ _ law) law

theorem dripExpiry_lawful : KeepsPlaces dripExpiry := fun _ law =>
  ite_lawful (onTimer_lawful (fun _ law => unmoved law) _ _ law) law

theorem countSecond_lawful : KeepsPlaces countSecond := fun _ law => ite_lawful (unmoved (reach_lawful _ _ law)) law

/-! ### The load table and the own records (Chapter 9) -/

theorem ageOutPeer_lawful (st : Station) : KeepsPlaces (ageOutPeer st) := fun s law => by
  unfold ageOutPeer
  split
  · next e _ =>
    have later := reach_lawful Config.peerAge e.age law
    have lost : PeerAct fun e : Peer => { e with live := false } := .of_same (fun _ => rfl) fun _ => rfl
    exact ite_lawful
      (runAgenda_lawful (afterTable_lawful _ (ite_lawful (removePeer_lawful st later) (modPeer_lawful st lost later)))) law
  · exact law

theorem objectTo_lawful (src : Station) (kind sequence : Byte) : KeepsPlaces (objectTo src kind sequence) := fun _ law =>
  ite_lawful (send_lawful _ law) law

theorem assumeClaim_lawful (st : Station) (kind : Byte) : KeepsPlaces (assumeClaim st kind) := fun s law => by
  unfold assumeClaim
  split
  · exact modPeer_lawful st (assume_act kind) (reach_lawful _ _ law)
  · exact law

theorem endHeldOff_lawful (k : LoadKind) : KeepsPlaces (endHeldOff k) := fun _ law =>
  ite_lawful (runAgenda_lawful (testRecord_lawful k (modLoad_lawful k _ (reach_lawful _ _ law)))) law

theorem retryClaim_lawful (k : LoadKind) : KeepsPlaces (retryClaim k) := fun _ law =>
  ite_lawful (runAgenda_lawful (testRecord_lawful k (reach_lawful _ _ law))) law

theorem endSettleWindow_lawful (k : LoadKind) : KeepsPlaces (endSettleWindow k) := fun s law => by
  unfold endSettleWindow
  dsimp only
  split
  · exact ite_lawful (runAgenda_lawful (decideProposed_lawful k (reach_lawful _ _ law))) law
  · exact law

/-! ### The link (R155, R164 to R171) -/

theorem countUnknown_lawful : KeepsPlaces countUnknown := fun _ law => unmoved law

theorem heardOwnNumber_lawful : KeepsPlaces heardOwnNumber := fun _ law => takeConflict_lawful (acknowledge_lawful false law)

theorem reportEnding_lawful (f : Frame) (completed : Bool) : KeepsPlaces (reportEnding f completed) := fun s law => by
  unfold reportEnding
  split
  · exact claimEnded_lawful _ _ completed law
  · exact law

theorem attemptFailed_lawful (e : TxEntry) : KeepsPlaces (attemptFailed e) := fun _ law =>
  have counted := countFailure_lawful law
  ite_lawful (leaveQueue_lawful counted)
    (ite_lawful (standAgain_lawful counted) (reportEnding_lawful e.frame false (dropFrame_lawful counted)))

theorem attemptCompleted_lawful (e : TxEntry) : KeepsPlaces (attemptCompleted e) := fun _ law =>
  reportEnding_lawful e.frame true (unmoved (leaveQueue_lawful law))

theorem checkFailures_lawful : KeepsPlaces checkFailures := fun _ law => ite_lawful (noteIsolation_lawful _ (unmoved law)) law

theorem endAttempt_lawful (ending : AttemptEnd) : KeepsPlaces (endAttempt ending) := fun s law => by
  unfold endAttempt
  split
  · exact law
  · next e _ =>
    exact runAgenda_lawful (checkFailures_lawful (ite_lawful (attemptCompleted_lawful e law) (attemptFailed_lawful e law)))

theorem endSilent_lawful : KeepsPlaces endSilent := fun s law => by
  unfold endSilent
  split
  · next n _ =>
    exact ite_lawful (runAgenda_lawful (noteIsolation_lawful true (unmoved (reach_lawful Config.silentTime n law)))) law
  · exact law

theorem endPeriod_lawful : KeepsPlaces endPeriod := fun s law => by
  unfold endPeriod
  split
  · exact queueStatus_lawful (reach_lawful _ _ law)
  · exact law

theorem endHearing_lawful : KeepsPlaces endHearing := fun s law =>
  ite_lawful
    (runAgenda_lawful (noteIsolation_lawful _ (unmoved (reach_lawful Config.isolationTime s.lnk.isolationTimer law)))) law

/-! ### Start-up and restart (R175, R176) -/

theorem announceStart_lawful : KeepsPlaces announceStart := fun _ law => startStatus_lawful (send_lawful _ law)

theorem finishPowerUp_lawful (l : InputLevels) : KeepsPlaces (finishPowerUp l) := fun _ law =>
  announceStart_lawful (probe_lawful (unmoved law))

/-- R175: a powered-up part begins with its four lists empty. -/
theorem powerUpState_lawful (straps : Station) (p : ParamRead) (a : AuditRead) (s : State) :
    PlacesLaw (powerUpState straps p a s) :=
  placesLaw_of (.of_none (Nat.zero_le 8) nofun) (Nat.zero_le 4) ⟨Nat.zero_le 8, .nil⟩ ⟨.nil, nofun⟩

/-- R176: the restarted blocks begin with the transmit queue, the selection queue and the cache empty; the peers are kept. -/
theorem blocksRestarted_lawful (straps : Station) (a : Applied) {s : State} (law : PlacesLaw s) :
    PlacesLaw (Keeping.blocksRestarted straps a s) :=
  placesLaw_of (.of_none (Nat.zero_le 8) nofun) (Nat.zero_le 4) ⟨Nat.zero_le 8, .nil⟩ (peersOrdered_of (s := s) law)

theorem restartDrive_lawful (a : Applied) : KeepsPlaces (restartDrive a) := fun _ law =>
  ite_lawful (queueStatus_lawful (unmoved law)) (unmoved law)

theorem restartLoad_lawful (before : State) : KeepsPlaces (restartLoad before) := fun s law => by
  have compressor {u : State} (h : PlacesLaw u) : PlacesLaw (restartCompressorLoad u) :=
    ite_lawful (testRecord_lawful .compressor (waitAgain_lawful .compressor h)) h
  have table := afterTable_lawful before
    (removePeer_lawful s.ssu.own (compressor (giveUp_lawful .heater (giveUp_lawful .motor law))))
  exact ite_lawful table (testWaiting_lawful (announceChange_lawful table))

theorem keepCooling_lawful : KeepsPlaces keepCooling := fun s law => by
  have lockout : KeepsPlaces restartLockout := fun _ h => ite_lawful (endLockout_lawful h) h
  have longest : KeepsPlaces restartMaxDefrost := fun _ h => ite_lawful (endDefrost_lawful h) h
  have warm : KeepsPlaces restartWarm := fun _ h => ite_lawful (latchHotHold_lawful h) h
  have begun : PlacesLaw (restartDefrost s) := unmoved law
  exact warm (saleEvent_lawful (longest (testStop_lawful (lockout begun))))

theorem restartCooling_lawful (a : Applied) : KeepsPlaces (restartCooling a) := fun _ law =>
  ite_lawful (ite_lawful (unmoved law) law)
    (ite_lawful (keepCooling_lawful law) (unmoved (giveUp_lawful .heater (giveUp_lawful .compressor law))))

theorem restartAll_lawful (straps : Station) (p : ParamRead) : KeepsPlaces (restartAll straps p) := fun s law => by
  rw [Keeping.restartAll_eq]
  have blocks := blocksRestarted_lawful straps (applyImage straps p) law
  have cooled := restartCooling_lawful (applyImage straps p) (restartLoad_lawful s (restartDrive_lawful (applyImage straps p) blocks))
  exact announceStart_lawful (probe_lawful (runAgenda_lawful (noteIsolation_lawful _ (runAgenda_lawful cooled))))

/-! ### The service requests (R177 to R179) -/

theorem answerTool_lawful (tag : Byte) (r : ServiceResult) (data : List Byte) : KeepsPlaces (answerTool tag r data) := fun _ law =>
  send_lawful _ law

theorem takeRequest_lawful (tag : Byte) (r : Option ServiceResult) {act : State → State} (h : KeepsPlaces act) :
    KeepsPlaces (takeRequest tag r act) := fun s law => by
  unfold takeRequest
  split
  · exact answerTool_lawful _ _ _ law
  · exact answerTool_lawful _ _ _ (h law)

theorem readState_lawful (tag : Byte) (args : List Byte) : KeepsPlaces (readState tag args) := fun s law => by
  have answered (r : ServiceResult) (d : List Byte) := answerTool_lawful tag r d law
  unfold readState
  split
  · refine ite_lawful (answered _ _) ?_
    split
    · exact answered _ _
    · split <;> exact answered _ _
  · exact answered _ _

theorem readAudit_lawful (tag : Byte) (args : List Byte) : KeepsPlaces (readAudit tag args) := fun s law => by
  have answered (r : ServiceResult) (d : List Byte) := answerTool_lawful tag r d law
  unfold readAudit
  split
  · split <;> exact answered _ _
  · exact answered _ _

theorem serveAuditClear_lawful (tag : Byte) (args : List Byte) : KeepsPlaces (serveAuditClear tag args) :=
  takeRequest_lawful tag _ fun _ law => askSave_lawful (unmoved law)

theorem setsSlot_lawful (n : Nat) (f : Slot → Slot) : KeepsPlaces (modSlot n f) := fun _ law => modSlot_lawful n f law

theorem serveSetPrice_lawful (tag : Byte) (args : List Byte) : KeepsPlaces (serveSetPrice tag args) := fun s law => by
  unfold serveSetPrice
  split
  · exact takeRequest_lawful tag _ (setsSlot_lawful _ _) law
  · exact answerTool_lawful _ _ _ law

theorem serveSetSlot_lawful (tag : Byte) (args : List Byte) : KeepsPlaces (serveSetSlot tag args) := fun s law => by
  unfold serveSetSlot
  split
  · exact ite_lawful (takeRequest_lawful tag _ (setsSlot_lawful _ _) law) (answerTool_lawful _ _ _ law)
  · exact answerTool_lawful _ _ _ law

theorem serveSetStock_lawful (tag : Byte) (args : List Byte) : KeepsPlaces (serveSetStock tag args) := fun s law => by
  unfold serveSetStock
  split
  · exact ite_lawful (takeRequest_lawful tag _ (setsSlot_lawful _ _) law) (answerTool_lawful _ _ _ law)
  · exact answerTool_lawful _ _ _ law

theorem serveSetTube_lawful (tag : Byte) (args : List Byte) : KeepsPlaces (serveSetTube tag args) := fun s law => by
  unfold serveSetTube
  split
  · exact takeRequest_lawful tag _ (fun _ h => changeTube_lawful _ _ h) law
  · exact answerTool_lawful _ _ _ law

theorem clearTarget_lawful (tag target index : Byte) : KeepsPlaces (clearTarget tag target index) := fun s law => by
  have answered {u : State} (r : ServiceResult) (d : List Byte) (h : PlacesLaw u) := answerTool_lawful tag r d h
  have drive : PlacesLaw (clearFaultState .normal s) := queueStatus_lawful (unmoved law)
  unfold clearTarget
  refine ite_lawful ?slot (ite_lawful (ite_lawful (answered _ _ drive) (answered _ _ law))
    (ite_lawful (ite_lawful (answered _ _ (clearHotHold_lawful law)) (answered _ _ law)) (ite_lawful ?tube (answered _ _ law))))
  case slot =>
    split
    · exact answered _ _ law
    · exact answered _ _ (modSlot_lawful _ _ law)
  case tube =>
    split
    · exact answered _ _ law
    · exact answered _ _ (changeTube_lawful _ _ law)

theorem serveClearFault_lawful (tag : Byte) (args : List Byte) : KeepsPlaces (serveClearFault tag args) := fun s law => by
  unfold serveClearFault
  split
  · exact clearTarget_lawful tag _ _ law
  · exact answerTool_lawful _ _ _ law

theorem serveTestMotor_lawful (tag : Byte) (args : List Byte) : KeepsPlaces (serveTestMotor tag args) := fun s law => by
  unfold serveTestMotor
  split
  · split
    · exact answerTool_lawful _ _ _ law
    · exact beginTest_lawful _ _ tag _ law
    · exact law
  · exact answerTool_lawful _ _ _ law

theorem serveForgetPeer_lawful (tag : Byte) (args : List Byte) : KeepsPlaces (serveForgetPeer tag args) := fun s law => by
  unfold serveForgetPeer
  split
  · exact takeRequest_lawful tag _ (fun _ h => afterTable_lawful _ (removePeer_lawful _ h)) law
  · exact answerTool_lawful _ _ _ law

theorem serveRestart_lawful (tag : Byte) (args : List Byte) (straps : Station) (p : ParamRead) :
    KeepsPlaces (serveRestart tag args straps p) := fun _ law =>
  ite_lawful (answerTool_lawful _ _ _ law)
    (ite_lawful (answerTool_lawful _ _ _ law) (answerTool_lawful _ _ _ (restartAll_lawful straps p law)))

/-! ### Every command, and every step -/

theorem event_lawful {f : State → State} (hf : KeepsPlaces f) {s t : State} (law : PlacesLaw s) (h : event f s = .next t) :
    PlacesLaw t := by
  obtain rfl := Host.Outcome.next.inj h
  exact unmoved (hf (unmoved law : PlacesLaw (openEvent s)))

theorem exec_lawful {c : Instr} {s t : State} (law : PlacesLaw s) (h : exec c s = .next t) : PlacesLaw t := by
  have keep : KeepsPlaces id := fun _ law => law
  have unknown (src : Station) : KeepsPlaces (hear src countUnknown) := hear_lawful countUnknown_lawful src
  have acted (src : Station) {f : Peer → Peer} (act : PeerAct f) : KeepsPlaces (modPeer src f) := fun _ law =>
    modPeer_lawful src act law
  cases c with
  | coinStrobe a b => exact event_lawful (inputEvent_lawful (coinReport_lawful _) _) law h
  | routingTimeExpiry => exact event_lawful endRouting_lawful law h
  | cashboxSwitchChange closed => exact event_lawful (inputEvent_lawful (fun _ law => unmoved law) _) law h
  | levelSwitchChange i w covered => exact event_lawful (inputEvent_lawful (fun _ law => changeTube_lawful i _ law) _) law h
  | serviceDoorOpens => exact event_lawful (inputEvent_lawful takeDoorOpening_lawful _) law h
  | serviceDoorCloses => exact event_lawful (inputEvent_lawful takeDoorClosing_lawful _) law h
  | auditSaveEnd ending => exact event_lawful (endSave_lawful ending) law h
  | debitReceived src dst n a tag x =>
    exact event_lawful (hear_lawful (directed_lawful (answerDebit_lawful src n a.toNat tag x) dst) src) law h
  | settleReceived src dst tag n r =>
    exact event_lawful (hear_lawful (directed_lawful (answerSettle_lawful src tag n r) dst) src) law h
  | holdExpiry => exact event_lawful endOldHold_lawful law h
  | refreshTimerExpiry => exact event_lawful endRefresh_lawful law h
  | idleTimerExpiry => exact event_lawful endIdleTime_lawful law h
  | coinSeen => exact event_lawful (inputEvent_lawful (fun _ law => seeCoin_lawful law) _) law h
  | solenoidPulseEnd => exact event_lawful endPulse_lawful law h
  | payoutWindowExpiry => exact event_lawful endPayoutWindow_lawful law h
  | exitClears => exact event_lawful (inputEvent_lawful exitCleared_lawful _) law h
  | clearTimerExpiry => exact event_lawful endClearTime_lawful law h
  | escrowLever => exact event_lawful (inputEvent_lawful (fun _ law => pressLever_lawful law) _) law h
  | creditReceived src dst n state b v short => exact event_lawful (hear_lawful (cacheCredit_lawful _) src) law h
  | cacheEntryAgeOut st => exact event_lawful (ageOutEntry_lawful st) law h
  | purgeReceived src dst n => exact event_lawful (hear_lawful (cachePurge_lawful src n) src) law h
  | selectReceived src dst tag slot credit =>
    exact event_lawful (hear_lawful (directed_lawful (takeSelect_lawful src tag slot.toNat credit.toNat) dst) src) law h
  | answerTimerExpiry => exact event_lawful endAnswerTime_lawful law h
  | debitAnswerReceived src dst tag o b v =>
    exact event_lawful (hear_lawful (directed_lawful (takeDebitAnswer_lawful src tag o b v) dst) src) law h
  | settleTimerExpiry => exact event_lawful endSettleTime_lawful law h
  | settleAnswerReceived src dst tag o =>
    exact event_lawful (hear_lawful (directed_lawful (takeSettleAnswer_lawful src tag o) dst) src) law h
  | budgetTimerExpiry => exact event_lawful endBudgetTime_lawful law h
  | camPulse => exact event_lawful takeCam_lawful law h
  | jamTimerExpiry => exact event_lawful endJamTime_lawful law h
  | drop => exact event_lawful (inputEvent_lawful (fun _ law => runAgenda_lawful (takeDrop_lawful law)) _) law h
  | dropWindowExpiry => exact event_lawful endDropWindow_lawful law h
  | driveTick rows cols cams => exact event_lawful (fun _ law => ite_lawful law (tickDrive_lawful rows cols cams law)) law h
  | currentSample reading => exact event_lawful (sampleCurrent_lawful reading) law h
  | averagingPeriodEnd k x => exact event_lawful (fun _ law => ite_lawful law (takeAverage_lawful k x law)) law h
  | lockoutTimerExpiry => exact event_lawful lockoutExpiry_lawful law h
  | offTimerExpiry => exact event_lawful offExpiry_lawful law h
  | cycleTimerUrgent => exact event_lawful urgentExpiry_lawful law h
  | cycleTimerFixedDuty => exact event_lawful dutyExpiry_lawful law h
  | startTimerExpiry => exact event_lawful startExpiry_lawful law h
  | onTimerExpiry => exact event_lawful (fun _ law => onTimer_lawful (fun _ => testStop_lawful) _ _ law) law h
  | accumulatorSecond => exact event_lawful countSecond_lawful law h
  | heaterWaitExpiry => exact event_lawful heaterWaitEnd_lawful law h
  | defrostTimerExpiry => exact event_lawful defrostExpiry_lawful law h
  | dripTimerExpiry => exact event_lawful dripExpiry_lawful law h
  | warmTimerExpiry => exact event_lawful (fun _ law => onTimer_lawful (fun _ => latchHotHold_lawful) _ _ law) law h
  | statusReceived src dst change total limit flags =>
    exact event_lawful (hearWith_lawful keep src (acted src (takeStatus_act ..)) false) law h
  | peerEntryAgeOut st => exact event_lawful (ageOutPeer_lawful st) law h
  | claimReceived src dst kind cls a q =>
    exact event_lawful (fun _ law => ite_lawful (unknown src law)
      (hearWith_lawful (objectTo_lawful src kind q) src (acted src (takeClaim_act _)) _ law)) law h
  | releaseReceived src dst kind q =>
    exact event_lawful (fun _ law => ite_lawful (unknown src law)
      (hearWith_lawful keep src (acted src (takeRelease_act kind q)) false law)) law h
  | claimAssumed st kind => exact event_lawful (assumeClaim_lawful st kind) law h
  | objectReceived src dst kind q sum =>
    exact event_lawful (fun _ law => ite_lawful (unknown src law)
      (hear_lawful (directed_lawful (fun _ law => takeObject_lawful kind q sum law) dst) src law)) law h
  | heldOffExpiry k => exact event_lawful (endHeldOff_lawful k) law h
  | claimRetryAge k => exact event_lawful (retryClaim_lawful k) law h
  | settleWindowExpiry k => exact event_lawful (endSettleWindow_lawful k) law h
  | badFrame cause => exact event_lawful (receiving_lawful fun _ law => unmoved law) law h
  | unknownFrame src => exact event_lawful (unknown src) law h
  | vendStatusReceived src dst tag o p q => exact event_lawful (hear_lawful keep src) law h
  | serviceAnswerReceived src dst tag r data => exact event_lawful (hear_lawful keep src) law h
  | addressConflict => exact event_lawful (receiving_lawful heardOwnNumber_lawful) law h
  | frameOffer => exact event_lawful (fun _ law => beginFrame_lawful law) law h
  | lostArbitration => exact event_lawful (fun _ law => standAgain_lawful law) law h
  | frameAttemptEnd ending => exact event_lawful (endAttempt_lawful ending) law h
  | silentEnd => exact event_lawful endSilent_lawful law h
  | statusPeriodExpiry => exact event_lawful endPeriod_lawful law h
  | isolationTimerExpiry => exact event_lawful endHearing_lawful law h
  | powerUp straps p a => exact event_lawful (fun u _ => powerUpState_lawful straps p a u) law h
  | powerUpReconciliation l => exact event_lawful (fun _ law => ite_lawful (finishPowerUp_lawful l law) law) law h
  | stateRead q args => exact event_lawful (serve_lawful (readState_lawful q.tag args) q) law h
  | auditRead q args => exact event_lawful (serve_lawful (readAudit_lawful q.tag args) q) law h
  | auditClear q args => exact event_lawful (serve_lawful (serveAuditClear_lawful q.tag args) q) law h
  | setPrice q args => exact event_lawful (serve_lawful (serveSetPrice_lawful q.tag args) q) law h
  | setSlot q args => exact event_lawful (serve_lawful (serveSetSlot_lawful q.tag args) q) law h
  | setStock q args => exact event_lawful (serve_lawful (serveSetStock_lawful q.tag args) q) law h
  | setTube q args => exact event_lawful (serve_lawful (serveSetTube_lawful q.tag args) q) law h
  | clearFault q args => exact event_lawful (serve_lawful (serveClearFault_lawful q.tag args) q) law h
  | testMotor q args => exact event_lawful (serve_lawful (serveTestMotor_lawful q.tag args) q) law h
  | forgetPeer q args => exact event_lawful (serve_lawful (serveForgetPeer_lawful q.tag args) q) law h
  | restart q args straps p => exact event_lawful (serve_lawful (serveRestart_lawful q.tag args straps p) q) law h
  | serviceUnknownCode q code args => exact event_lawful (serve_lawful (answerTool_lawful q.tag .badArgument []) q) law h

theorem idle_lawful {s : State} (law : PlacesLaw s) : PlacesLaw (idle s) :=
  ite_lawful law (ite_lawful (unmoved (elapse_lawful 1 law)) (unmoved law))

/-- Settles O7: every command keeps the law of the places (`exec_lawful`), and so does the time that passes with none waiting. -/
theorem listsKeepTheirPlaces : Obligations.ListsKeepTheirPlaces := by
  intro s t law h
  rcases Intake.step_cases h with ⟨c, p, d, e⟩ | ⟨d, rfl⟩ | rfl
  · exact exec_lawful (unmoved law : PlacesLaw { s with pending := p, due := d }) e
  · exact unmoved law
  · exact idle_lawful law

end Sys2Proof.Machine.Placing
end

section
/-! PROOFS. The credit cache under CREDIT, PURGE and the ages of its entries (R76 to R79): what a lookup by station finds after
each of them. -/

namespace Sys2Proof.Machine.Caching

set_option Elab.async false

open Laws Placing

/-! ### Lookups in a list of entries -/

/-- The entry of a station in a list of entries, as `cacheEntry` looks it up. -/
def entryOf (st : Station) (l : List CacheEntry) : Option CacheEntry := l.find? fun e => e.station == st

theorem cacheEntry_eq (st : Station) (s : State) : cacheEntry st s = entryOf st s.cca.entries := rfl

theorem entryOf_cons (st : Station) (e : CacheEntry) (l : List CacheEntry) :
    entryOf st (e :: l) = if e.station = st then some e else entryOf st l := by
  unfold entryOf
  rw [List.find?_cons]
  by_cases h : e.station = st
  · rw [if_pos h, beq_iff_eq.mpr h]
  · rw [if_neg h, beq_eq_false_iff_ne.mpr h]

theorem entryOf_none {st : Station} {l : List CacheEntry} : entryOf st l = none ↔ ∀ e ∈ l, e.station ≠ st := by
  simp [entryOf, List.find?_eq_none]

theorem entryOf_removed (st : Station) (l : List CacheEntry) : entryOf st (removeEntry st l) = none :=
  entryOf_none.mpr fun e he => by simpa using (List.mem_filter.mp he).2

theorem entryOf_removeEntry {st j : Station} (h : j ≠ st) (l : List CacheEntry) : entryOf j (removeEntry st l) = entryOf j l := by
  have both (e : CacheEntry) : decide ((e.station != st) = true ∧ (e.station == j) = true) = (e.station == j) := by
    by_cases g : e.station = j <;> simp [g, h]
  unfold entryOf removeEntry
  rw [List.find?_filter]
  exact congrArg (List.find? · l) (funext both)

/-- R77: the new entry is found in its place. -/
theorem entryOf_inserted {n : CacheEntry} {l : List CacheEntry} (new : entryOf n.station l = none) :
    entryOf n.station (insertEntry n l) = some n := by
  induction l with
  | nil => simp [insertEntry, entryOf]
  | cons x r ih =>
    rw [entryOf_cons] at new
    split at new
    · cases new
    · next other =>
      unfold insertEntry
      split
      · rw [entryOf_cons, if_pos rfl]
      · rw [entryOf_cons, if_neg other, ih new]

theorem entryOf_insertEntry {n : CacheEntry} {j : Station} (h : j ≠ n.station) (l : List CacheEntry) :
    entryOf j (insertEntry n l) = entryOf j l := by
  induction l with
  | nil => simp [insertEntry, entryOf, h.symm]
  | cons x r ih =>
    unfold insertEntry
    split
    · rw [entryOf_cons, if_neg h.symm]
    · rw [entryOf_cons, entryOf_cons, ih]

/-- An act on the entry of one station, which leaves it that station's. -/
theorem entryOf_map {st : Station} {g : CacheEntry → CacheEntry} (keeps : ∀ e, e.station = st → (g e).station = st) (j : Station)
    (l : List CacheEntry) :
    entryOf j (l.map fun x => if x.station = st then g x else x) =
      if j = st then (entryOf st l).map g else entryOf j l := by
  induction l with
  | nil => simp [entryOf]
  | cons x r ih =>
    simp only [List.map_cons, entryOf_cons]
    rw [ih]
    by_cases own : x.station = st
    · by_cases h : j = st
      · simp [own, h, keeps x own]
      · simp [own, h, keeps x own, Ne.symm h]
    · by_cases h : j = st
      · simp [own, h]
      · simp [own, h]

/-! ### A CREDIT taken (R76, R77) -/

/-- R77: the entry of the greatest age, and of equal ages the lowest station, is the one displaced. -/
theorem oldestEntry_eq {l : List CacheEntry} (order : l.Pairwise fun a b => a.station.toNat < b.station.toNat) {o : CacheEntry}
    (mem : o ∈ l) (oldest : ∀ e ∈ l, e.age < o.age ∨ (e.age = o.age ∧ o.station.toNat ≤ e.station.toNat)) :
    oldestEntry l = some o := by
  induction l with
  | nil => cases mem
  | cons x r ih =>
    obtain ⟨first, rest⟩ := List.pairwise_cons.mp order
    obtain ⟨head, tail⟩ := List.forall_mem_cons.mp oldest
    rw [oldestEntry]
    rcases List.mem_cons.mp mem with rfl | mem
    · cases h : oldestEntry r with
      | none => rfl
      | some p =>
        have : p.age ≤ o.age := (tail p (oldestEntry_mem h)).elim Nat.le_of_lt fun eq => eq.1.le
        exact if_pos this
    · rw [ih rest mem tail]
      have younger : ¬ o.age ≤ x.age := by have := first o mem; omega
      exact if_neg younger

/-- R77: with a place free nothing is displaced. -/
theorem makeRoom_free {l : List CacheEntry} (room : l.length < 8) : makeRoom l = l := if_pos room

/-- R77: a full cache gives up its oldest entry. -/
theorem makeRoom_full {l : List CacheEntry} (full : l.length = 8) {o : CacheEntry} (oldest : oldestEntry l = some o) :
    makeRoom l = removeEntry o.station l := by
  rw [makeRoom, if_neg (by rw [full]; decide), oldest]

/-- R76, R77: what a CREDIT leaves at its own station. -/
def creditedEntry (n : CacheEntry) (before : Option CacheEntry) : CacheEntry :=
  match before with
  | some e => if e.number = n.number ∧ e.version = n.version then { e with age := 0 } else n
  | none => n

theorem entryOf_takeCredit (n : CacheEntry) (l : List CacheEntry) :
    entryOf n.station (takeCredit n l) = some (creditedEntry n (entryOf n.station l)) := by
  unfold takeCredit
  cases h : l.find? (fun e => e.station == n.station) with
  | none =>
    have new : entryOf n.station (makeRoom l) = none :=
      entryOf_none.mpr fun e he => entryOf_none.mp h e ((makeRoom_sublist l).mem he)
    rw [show entryOf n.station l = none from h]
    exact entryOf_inserted new
  | some e =>
    have found : entryOf n.station l = some e := h
    rw [found, creditedEntry]
    dsimp only
    split
    · rw [entryOf_map (g := fun x => { x with age := 0 }) (fun _ => id), if_pos rfl, found, Option.map_some]
    · rw [entryOf_map (fun _ _ => rfl), if_pos rfl, found, Option.map_some]

/-- R76: with an entry of its station there, a CREDIT leaves every other entry. -/
theorem takeCredit_known {n : CacheEntry} {l : List CacheEntry} (known : (entryOf n.station l).isSome = true) {j : Station}
    (h : j ≠ n.station) : entryOf j (takeCredit n l) = entryOf j l := by
  obtain ⟨e, he⟩ := Option.isSome_iff_exists.mp known
  unfold takeCredit
  rw [show l.find? (fun e => e.station == n.station) = some e from he]
  dsimp only
  split
  · rw [entryOf_map (g := fun x => { x with age := 0 }) (fun _ => id), if_neg h]
  · rw [entryOf_map (fun _ _ => rfl), if_neg h]

/-- R77: with none there, the new entry goes where room is made. -/
theorem takeCredit_new {n : CacheEntry} {l : List CacheEntry} (new : entryOf n.station l = none) :
    takeCredit n l = insertEntry n (makeRoom l) := by
  unfold takeCredit
  rw [show l.find? (fun e => e.station == n.station) = none from new]

/-- R76, R77: a CREDIT displaces no entry where its station's is there or a place is free. -/
theorem takeCredit_other {n : CacheEntry} {l : List CacheEntry}
    (room : (entryOf n.station l).isSome = true ∨ l.length < 8) {j : Station} (h : j ≠ n.station) :
    entryOf j (takeCredit n l) = entryOf j l := by
  cases known : entryOf n.station l with
  | some e => exact takeCredit_known (by rw [known]; rfl) h
  | none =>
    have free : l.length < 8 := room.resolve_left (by simp [known])
    rw [takeCredit_new known, entryOf_insertEntry h, makeRoom_free free]

/-! ### The session number memory (R79) -/

theorem rememberNumber_memory {st : Station} (h : st ≠ 0) (n : Byte) (c : Cca) :
    (rememberNumber st n c).memory = c.memory.modify (st.toNat - 1) fun _ => some n := by
  unfold rememberNumber
  split
  · next zero => exact absurd (BitVec.eq_of_toNat_eq zero) h
  · next j e => rw [e]; rfl

theorem rememberedNumber_eq {st : Station} (h : st ≠ 0) (s : State) :
    rememberedNumber st s = recordAt s.cca.memory (st.toNat - 1) := by
  unfold rememberedNumber
  split
  · next zero => exact absurd (BitVec.eq_of_toNat_eq zero) h
  · next j e => rw [e]; rfl

/-- R79: the memory after a session number is noted: that station's position, and no other. -/
theorem remembered {st : Station} (h : st ≠ 0) {n : Byte} {s t : State} (length : s.cca.memory.length = 15)
    (memory : t.cca.memory = (s.cca.memory.modify (st.toNat - 1) fun _ => some n)) :
    rememberedNumber st t = some n ∧ ∀ j, j ≠ st → rememberedNumber j t = rememberedNumber j s := by
  constructor
  · have place : st.toNat - 1 < s.cca.memory.length := by rw [length]; omega
    simp [rememberedNumber_eq h, memory, recordAt, place]
  · intro j other
    by_cases zero : j = 0
    · subst zero; rfl
    · have apart : st.toNat - 1 ≠ j.toNat - 1 := by
        have := (BitVec.toNat_ne_iff_ne).mpr other
        have := (BitVec.toNat_ne_iff_ne).mpr h
        have := (BitVec.toNat_ne_iff_ne).mpr zero
        simp only [BitVec.ofNat_eq_ofNat, BitVec.toNat_ofNat, Nat.zero_mod] at *
        omega
      simp [rememberedNumber_eq zero, memory, recordAt, apart]

/-! ### A frame at the Credit Cache -/

/-- R164: what a frame of another station does at the Credit Cache is all that its hearing does there. -/
theorem heard_cca {src : Station} {s : State} (receiving : s.phase ≠ .heldOff) (other : src ≠ s.ssu.own) (g : Cca → Cca) :
    (refreshOutputs (hear src (fun u => u.modCca g) (openEvent s))).cca = g s.cca := by
  rcases hearWith_cases src id false (fun u => u.modCca g) (openEvent s) with ⟨off, -⟩ | ⟨-, own, -⟩ | ⟨-, -, e⟩
  · exact absurd off receiving
  · exact absurd own other
  · rw [hear, e]; simp [hearAtLbu]

/-- Settles O29: list by list, what a lookup by station finds after the frame or the expiry. -/
theorem cacheMirrorsTheSessions : Obligations.CacheMirrorsTheSessions := by
  unfold Obligations.CacheMirrorsTheSessions
  refine ⟨?credit, ?purge, ?age⟩
  case credit =>
    intro src dst n st b v cs s receiving other nonzero memory law
    let c : CacheEntry := ⟨src, n, st, b.toNat, v, cs, 0⟩
    let t := refreshOutputs (hear src (cacheCredit c) (openEvent s))
    have cca : t.cca = rememberNumber src n { s.cca with entries := takeCredit c s.cca.entries } :=
      heard_cca receiving other _
    have entries : t.cca.entries = takeCredit c s.cca.entries := by rw [cca, rememberNumber_entries]
    have lookup (j : Station) : cacheEntry j t = entryOf j (takeCredit c s.cca.entries) := by rw [cacheEntry_eq, entries]
    obtain ⟨noted, kept⟩ := remembered nonzero memory (t := t) (by rw [cca, rememberNumber_memory nonzero])
    refine ⟨t, rfl, noted, kept, ?own, fun room j h => ?free, fun none full o mem oldest => ?full⟩
    case own =>
      rw [lookup, entryOf_takeCredit c, cacheEntry_eq]
      cases entryOf src s.cca.entries with
      | none => rfl
      | some e => exact apply_ite some _ _ _
    case free => rw [lookup]; exact takeCredit_other (n := c) room h
    case full =>
      have displaced : takeCredit c s.cca.entries = insertEntry c (removeEntry o.station s.cca.entries) := by
        rw [takeCredit_new (n := c) none, makeRoom_full full (oldestEntry_eq law.cacheOrder mem oldest)]
      have away : o.station ≠ src := entryOf_none.mp none o mem
      constructor
      · rw [lookup, displaced, entryOf_insertEntry away, entryOf_removed]
      · intro j new old
        rw [lookup, displaced, entryOf_insertEntry new, entryOf_removeEntry old, cacheEntry_eq]
  case purge =>
    intro src dst n s receiving other nonzero memory
    let t := refreshOutputs (hear src (cachePurge src n) (openEvent s))
    have cca : t.cca = rememberNumber src n { s.cca with entries := removeEntry src s.cca.entries } :=
      heard_cca receiving other _
    have entries : t.cca.entries = removeEntry src s.cca.entries := by rw [cca, rememberNumber_entries]
    obtain ⟨noted, kept⟩ := remembered nonzero memory (t := t) (by rw [cca, rememberNumber_memory nonzero])
    refine ⟨t, rfl, ?_, noted, fun j h => ?_, kept⟩
    · rw [cacheEntry_eq, entries, entryOf_removed]
    · rw [cacheEntry_eq, entries, entryOf_removeEntry h, cacheEntry_eq]
  case age =>
    intro st e s found
    have removal (l : List CacheEntry) : removeEntry st l = l.filter fun x => decide (x.station ≠ st) :=
      List.filter_congr fun x _ => by simp [bne, beq_eq_decide]
    show event (ageOutEntry st) s = _
    rw [event_next, ageOutEntry, show cacheEntry st (openEvent s) = some e from found]
    simp only [State.modCca, removal]
    rfl

end Sys2Proof.Machine.Caching
end

section
/-! PROOFS. The Vend Sequencer as requester, operation by operation: a frame it queues, the vend that leaves SETTLING, the
settlement that is over (R82, R91, R92, R97, R109). -/

namespace Sys2Proof.Machine.Requesting

set_option Elab.async false

open Laws Intake Announcing

/-! ### Frames (R168) -/

/-- The state with a frame queued at the tail of its transmit queue. -/
def queueing (f : Frame) (s : State) : State := s.modLnk fun l => { l with queue := l.queue ++ [TxEntry.fresh f] }

theorem listens_not {s : State} (link : s.lnk.state ≠ .listenOnly) : listenOnly s = false :=
  Bool.eq_false_iff.mpr (mt (listenOnly_iff s).mp link)

/-- R168: a frame that joins none, with a place free, takes it. -/
theorem request_queueing {f : Frame} {s : State} (plain : superseding f = false) (link : s.lnk.state ≠ .listenOnly)
    (room : s.lnk.queue.length < 8) : request f s = (queueing f s, true) := request_fresh (listens_not link) plain room

theorem send_queueing {f : Frame} {s : State} (plain : superseding f = false) (link : s.lnk.state ≠ .listenOnly)
    (room : s.lnk.queue.length < 8) : send f s = queueing f s := send_fresh (listens_not link) plain room

/-! ### Time and the vend -/

/-- The passing of time changes a vend's timers alone. -/
structure SameVend (v w : Vend) : Prop where
  selection : w.selection = v.selection
  price : w.price = v.price
  granted : w.granted = v.granted
  outcome : w.outcome = v.outcome
  settled : w.settled = v.settled

theorem reach_vend (limit now : Nat) {v : Vend} {s : State} (h : s.vsq.vend = some v) :
    ∃ w, (reach limit now s).vsq.vend = some w ∧ SameVend v w := by
  rcases elapse_cases (limit - now) s with e | e <;> rw [reach, e]
  · exact ⟨v, h, rfl, rfl, rfl, rfl, rfl⟩
  · exact ⟨_, congrArg (Option.map _) h, rfl, rfl, rfl, rfl, rfl⟩

theorem reach_agenda (limit now : Nat) (s : State) : (reach limit now s).lbu.agenda = s.lbu.agenda :=
  reach_same (·.lbu.agenda) (fun _ => rfl) _ _
theorem reach_motor (limit now : Nat) (s : State) : (reach limit now s).lbu.motor.state = s.lbu.motor.state :=
  reach_same (·.lbu.motor.state) (fun _ => rfl) _ _
theorem reach_slots (limit now : Nat) (s : State) : (reach limit now s).vsq.slots = s.vsq.slots :=
  reach_same (·.vsq.slots) (fun _ => rfl) _ _

/-! ### Leaving SETTLING (R97, R109) -/

/-- The one signal of an event, taken. -/
theorem runAgenda_signal {g : Signal} {s : State} (agenda : s.lbu.agenda = []) (after : (takeSignal g s).lbu.agenda = []) :
    runAgenda (signal g s) = takeSignal g s := by
  have left : (signal g s).lbu.agenda = [g] := by
    show s.lbu.agenda ++ _ = _; rw [agenda]; rfl
  have rest : ((signal g s).modLbu fun b => { b with agenda := [] }) = s := by
    show { s with lbu := { s.lbu with agenda := [] } } = s
    rw [← agenda]
  rw [runAgenda, runAgendaFor_cons left, rest, runAgendaFor, after]

/-- R97: with the selection queue empty there is no head to take. -/
theorem runAgenda_takeHead {s : State} (agenda : s.lbu.agenda = []) (empty : s.vsq.queue = []) :
    runAgenda (signal .takeHead s) = s := by
  have head : takeSignal .takeHead s = s := by
    rw [takeSignal, takeHead, empty]; exact ite_self s
  rw [runAgenda_signal agenda (by rw [head, agenda]), head]

/-- R109: the vend is over, its final VEND-STATUS queued, and VSQ is IDLE. -/
def departed (v : Vend) (o : VendOutcome) (s : State) : State :=
  { s with
    lnk :=
      { s.lnk with
        queue :=
          s.lnk.queue ++
            [TxEntry.fresh (.vendStatus v.selection.panel v.selection.tag o (if o = .insufficient then some v.price else none) none)] }
    vsq := { s.vsq with vend := none, state := .idle } }

/-- R109: the vend whose settlement is over and whose MOTOR load is given up leaves SETTLING; with no selection behind it that is
all. -/
theorem runAgenda_tryLeave {v : Vend} {s : State} (vend : s.vsq.vend = some v)
    (settling : s.vsq.state = .settling) (settled : v.settled = true) (given : s.lbu.motor.state = .none)
    (empty : s.vsq.queue = []) (agenda : s.lbu.agenda = []) (link : s.lnk.state ≠ .listenOnly) (room : s.lnk.queue.length < 8) :
    runAgenda (tryLeave s) = departed v (v.outcome.getD .aborted) s := by
  have leaves : tryLeave s = signal .takeHead (departed v (v.outcome.getD .aborted) s) := by
    unfold tryLeave
    rw [vend]
    dsimp only
    rw [if_pos ⟨settling, settled, given⟩, answerPanel, send_queueing rfl link room]
    rfl
  rw [leaves]
  exact runAgenda_takeHead agenda empty

/-- R109: until its MOTOR load is given up the vend stands in SETTLING. -/
theorem tryLeave_stays {s : State} (load : s.lbu.motor.state ≠ .none) : tryLeave s = s := by
  unfold tryLeave
  split
  · exact if_neg fun h => load h.2.2
  · rfl

/-! ### The settlement (R91, R92) -/

theorem sendSettle_queueing {v : Vend} {tag number : Byte} {r : SettleResult} {k : Nat} {s : State}
    (link : s.lnk.state ≠ .listenOnly) (room : s.lnk.queue.length < 8) :
    sendSettle v tag number r k s =
      modVend (fun w => { w with settling := some ⟨tag, number, r, k, 0⟩ })
        (queueing (.settle v.selection.creditStation tag number r) s) := by
  unfold sendSettle
  rw [send_queueing rfl link room]

theorem settlementOver_vend {w : Vend} {s : State} (h : s.vsq.vend = some w) :
    (settlementOver s).vsq.vend = some { w with settling := none, settled := true } :=
  congrArg (Option.map _) h

theorem countUnpaid_totals (r : SettleResult) (answer : Option SettleOutcome) (s : State) :
    (countUnpaid r answer s).ssu.totals =
      if r = .vended ∧ answer ≠ some .ok then
        { s.ssu.totals with unpaidVends := min 65535 (s.ssu.totals.unpaidVends + 1) }
      else s.ssu.totals := by
  unfold countUnpaid; split <;> rfl

/-- R91, R92, R109: the settlement of a decided vend ends in `s`: what `t` then shows. -/
structure SettledIn (v : Vend) (r : SettleResult) (ok : Bool) (s t : State) : Prop where
  balance : t.cru.session.balance = s.cru.session.balance
  slots : t.vsq.slots = s.vsq.slots
  totals :
    t.ssu.totals =
      if r = .vended ∧ ok = false then { s.ssu.totals with unpaidVends := min 65535 (s.ssu.totals.unpaidVends + 1) }
      else s.ssu.totals
  loaded :
    s.lbu.motor.state ≠ .none →
      t.vsq.state = .settling ∧ t.lnk.queue = s.lnk.queue ∧ ∃ w, t.vsq.vend = some w ∧ w.settling = none ∧ w.settled = true
  free :
    s.lbu.motor.state = .none → ∀ o, v.outcome = some o →
      t.vsq.state = .idle ∧ t.vsq.vend = none ∧
        t.lnk.queue =
          s.lnk.queue ++
            [TxEntry.fresh (.vendStatus v.selection.panel v.selection.tag o (if o = .insufficient then some v.price else none) none)]

theorem settlement_ends {w : Vend} {r : SettleResult} {answer : Option SettleOutcome} {s : State} (vend : s.vsq.vend = some w)
    (settling : s.vsq.state = .settling) (empty : s.vsq.queue = []) (agenda : s.lbu.agenda = [])
    (link : s.lnk.state ≠ .listenOnly) (room : s.lnk.queue.length < 8) :
    SettledIn w r (answer == some .ok) s (runAgenda (tryLeave (settlementOver (countUnpaid r answer s)))) := by
  let e : Vend := { w with settling := none, settled := true }
  let u := settlementOver (countUnpaid r answer s)
  have ended : u.vsq.vend = some e := settlementOver_vend (by rw [countUnpaid_vsq]; exact vend)
  have state : u.vsq.state = .settling := by simpa [u] using settling
  have load : u.lbu = s.lbu := by simp [u]
  have queue : u.lnk = s.lnk := by simp [u]
  have slots : u.vsq.slots = s.vsq.slots := by simp [u]
  have session : u.cru.session = s.cru.session := by simp [u]
  have totals :
      u.ssu.totals =
        if r = .vended ∧ (answer == some .ok) = false then
          { s.ssu.totals with unpaidVends := min 65535 (s.ssu.totals.unpaidVends + 1) }
        else s.ssu.totals := by
    simpa [u] using countUnpaid_totals r answer s
  show SettledIn w r _ s (runAgenda (tryLeave u))
  by_cases given : s.lbu.motor.state = .none
  · rw [runAgenda_tryLeave ended state rfl (by rw [load]; exact given) (by simpa [u] using empty) (by rw [load]; exact agenda)
      (by rw [queue]; exact link) (by rw [queue]; exact room)]
    refine ⟨congrArg Session.balance session, slots, totals, fun h => absurd given h, fun _ o decided => ⟨rfl, rfl, ?_⟩⟩
    rw [departed, queue, show e.outcome = some o from decided]
    rfl
  · rw [tryLeave_stays (by rw [load]; exact given), runAgenda_nil (by rw [load]; exact agenda)]
    exact ⟨congrArg Session.balance session, slots, totals, fun _ => ⟨state, by rw [queue], e, ended, rfl, rfl⟩,
      fun h => absurd h given⟩

/-- A settlement that ends after time has passed, or after the hearing of a frame, ends as it does in the state before. -/
theorem SettledIn.before {v w : Vend} {r : SettleResult} {ok : Bool} {s u t : State} (h : SettledIn w r ok u t) (same : SameVend v w)
    (balance : u.cru.session.balance = s.cru.session.balance) (slots : u.vsq.slots = s.vsq.slots)
    (totals : u.ssu.totals = s.ssu.totals) (motor : u.lbu.motor.state = s.lbu.motor.state)
    (queue : u.lnk.queue = s.lnk.queue) : SettledIn v r ok s t where
  balance := h.balance.trans balance
  slots := h.slots.trans slots
  totals := by rw [h.totals, totals]
  loaded load := by rw [← queue]; exact h.loaded (by rwa [motor])
  free given o decided := by
    rw [← queue, ← same.selection, ← same.price]
    exact h.free (by rwa [motor]) o (by rw [same.outcome, decided])

theorem SameVend.refl (v : Vend) : SameVend v v := ⟨rfl, rfl, rfl, rfl, rfl⟩

/-- R91, R92: at the expiry of the settle timer. -/
theorem settleTimer_event {v : Vend} {a : Settling} {s : State} (vend : s.vsq.vend = some v) (settle : v.settling = some a) :
    exec .settleTimerExpiry s =
      .next (refreshOutputs (runAgenda (repeatSettle v a (reach Config.settleTime a.timer (openEvent s))))) := by
  show event endSettleTime s = _
  rw [event_next, endSettleTime, show (openEvent s).vsq.vend = some v from vend]
  dsimp only
  rw [settle]

/-- R164: what a directed frame of a known station does at this one. -/
theorem directed_event {src own : Station} {s : State} (known : Known src s) (here : s.ssu.own = own) (used : own ≠ 0)
    (f : State → State) : event (hear src (directed own f)) s = .next (refreshOutputs (runAgenda (f (heardFrom src s)))) := by
  rw [event_next, hear_hearing known.hears.1, known.hears.2, directed_here (s := heardFrom src s) here used]

/-- Settles O33: the resend is one request, and every ending of the settlement is `settlement_ends`. -/
theorem settlementEnds : Obligations.SettlementEnds := by
  unfold Obligations.SettlementEnds
  intro v a s vend settle settling room link
  let u := reach Config.settleTime a.timer (openEvent s)
  have agenda : u.lbu.agenda = [] := reach_agenda _ _ _
  have queue : u.lnk.queue = s.lnk.queue := reach_lnk_queue _ _ _
  have linked : u.lnk.state ≠ .listenOnly := by rw [show u.lnk.state = s.lnk.state from reach_lnk_state _ _ _]; exact link
  have free : u.lnk.queue.length < 8 := by rw [queue]; exact room
  refine ⟨fun first => ?resend, fun c ok ending empty undone => ?ends⟩
  case resend =>
    rw [settleTimer_event vend settle, repeatSettle, if_pos first, sendSettle_queueing linked free]
    rw [runAgenda_nil (show (modVend _ (queueing _ u)).lbu.agenda = [] from agenda)]
    show Host.Outcome.next (refreshOutputs (modVend _ (u.modLnk fun l => _))) = _
    simp only [State.modLnk]
    rw [queue]
    rfl
  case ends =>
    have shown : ∃ t, exec c s = .next (refreshOutputs t) ∧ SettledIn v a.result ok s t := by
      rcases ending with ⟨rfl, second, rfl⟩ | ⟨src, own, o, known, here, used, rfl, rfl, rfl⟩
      · obtain ⟨w, later, same⟩ := reach_vend Config.settleTime a.timer (s := openEvent s) vend
        have ends := settlement_ends (r := a.result) (answer := none) later
          ((reach_vsq_state _ _ _).trans settling) ((reach_vsq_queue _ _ _).trans empty) agenda linked free
        refine ⟨_, by rw [settleTimer_event vend settle, repeatSettle, if_neg second], ?_⟩
        exact .before ends same (reach_balance _ _ (openEvent s)) (reach_slots _ _ (openEvent s))
          (congrArg Ssu.totals (reach_ssu _ _ (openEvent s))) (reach_motor _ _ (openEvent s)) queue
      · have ends := settlement_ends (r := a.result) (answer := some o) (s := heardFrom v.selection.creditStation s) vend
          settling empty rfl link room
        refine ⟨_, (directed_event known here used _).trans ?_, .before ends (.refl v) rfl rfl rfl rfl rfl⟩
        rw [takeSettleAnswer, show (heardFrom v.selection.creditStation s).vsq.vend = some v from vend]
        dsimp only
        rw [settle]
        dsimp only
        rw [if_pos ⟨settling, rfl, rfl⟩]
    obtain ⟨t, next, h⟩ := shown
    exact ⟨refreshOutputs t, next, h.balance, h.slots, h.totals, h.loaded, h.free⟩

end Sys2Proof.Machine.Requesting
end

section
/-! PROOFS. A SELECT by the checks of TABLE 5-2 (R80 to R83): the check the model finds is the first that the table lists. -/

namespace Sys2Proof.Machine.Selecting

set_option Elab.async false

open Laws Intake Announcing Requesting

/-! ### The checks of TABLE 5-2 (R81) -/

/-- R81, TABLE 5-3: a failed check as its answer says it: the price is carried for INSUFFICIENT alone. -/
def answered (f : VendOutcome × Nat) : VendOutcome × Option Nat := (f.1, if f.1 = .insufficient then some f.2 else none)

/-- One line of the table: a check said in two ways, and the rest of the table behind it. -/
theorem check_line {c d : Prop} {_ : Decidable c} {_ : Decidable d} (same : c ↔ d) {f : VendOutcome × Nat}
    {g : VendOutcome × Option Nat} {x : Option (VendOutcome × Option Nat)} {y : Option (VendOutcome × Nat)}
    (rest : x = y.map answered) (hit : g = answered f := by rfl) :
    (if c then some g else x) = (if d then some f else y).map answered := by
  by_cases h : d
  · rw [if_pos (same.mpr h), if_pos h, hit]; rfl
  · rw [if_neg (mt same.mp h), if_neg h, rest]

theorem tooWarm_iff (u : Slot) (s : State) :
    tooWarm s u = true ↔ u.chilled = true ∧ s.params.cooling = true ∧ s.rfc.sellableCold = false := by
  simp [tooWarm, and_assoc]

theorem panelBusy_iff (panel : Station) (s : State) :
    panelBusy panel s = true ↔ (∃ r ∈ s.vsq.queue, r.panel = panel) ∨ ∃ v, s.vsq.vend = some v ∧ v.selection.panel = panel := by
  unfold panelBusy
  cases s.vsq.vend <;> simp

theorem configured_iff (s : State) : configured s = false ↔ s.ssu.cause ≠ none := by
  simp [configured, Option.isNone_eq_false_iff, Option.isSome_iff_ne_none]

theorem zero_iff (b : Byte) : b = 0 ↔ b.toNat = 0 :=
  ⟨fun h => by rw [h]; rfl, fun h => BitVec.eq_of_toNat_eq h⟩

/-- TABLE 5-2, check by check. -/
theorem selectRefusal_table (src : Station) (slot credit : Byte) (s : State) :
    (if s.ssu.cause ≠ none ∨ s.mxd.state = .fault ∨ s.params.matrix = false then some (VendOutcome.outOfService, (none : Option Nat))
      else if doorOpen s = true then some (.doorOpen, none)
      else
        match (if slot.toNat ≤ 79 then slotAt s slot.toNat else none) with
        | none => some (.invalidSlot, none)
        | some u =>
          if u.state ≠ .ready then some (.unavailable, none)
          else if u.chilled = true ∧ s.params.cooling = true ∧ s.rfc.sellableCold = false then some (.unavailableTemp, none)
          else if 4 ≤ s.vsq.queue.length ∨ (∃ r ∈ s.vsq.queue, r.panel = src) ∨
              (∃ v, s.vsq.vend = some v ∧ v.selection.panel = src) then
            some (.busy, none)
          else if 0 < u.price ∧ (credit = 0 ∨ 15 < credit.toNat) then some (.insufficient, some u.price)
          else if 0 < u.price ∧
              ((knownSession credit.toNat s).map fun k => k.1 == .opened && decide (k.2 < u.price)) = some true then
            some (.insufficient, some u.price)
          else none) =
      (selectRefusal src slot.toNat credit.toNat s).map answered := by
  unfold selectRefusal
  refine check_line (or_congr_left (configured_iff s).symm) (check_line Iff.rfl ?_)
  cases (if slot.toNat ≤ 79 then slotAt s slot.toNat else none) with
  | none => rfl
  | some u =>
    exact check_line Iff.rfl <| check_line (tooWarm_iff u s).symm <| check_line (or_congr_right (panelBusy_iff src s).symm) <|
      check_line (and_congr_right fun _ => or_congr_left (zero_iff credit)) <| check_line Iff.rfl rfl

/-! ### What a SELECT does (R80, R82) -/

/-- R80, R81: a SELECT that fails a check is answered, and changes nothing else. -/
theorem takeSelect_refused {src : Station} {tag : Byte} {slot credit : Nat} {o : VendOutcome} {p : Nat} {s : State}
    (fails : selectRefusal src slot credit s = some (o, p)) (link : s.lnk.state ≠ .listenOnly) (room : s.lnk.queue.length < 8) :
    takeSelect src tag slot credit s = queueing (.vendStatus src tag o (answered (o, p)).2 none) s := by
  unfold takeSelect
  rw [listens_not link, if_neg Bool.false_ne_true]
  dsimp only
  rw [fails]
  exact send_queueing rfl link room

/-- R82: one that passes every check joins the tail of the queue and is answered with its position. -/
theorem takeSelect_accepted {src : Station} {tag : Byte} {slot credit : Nat} {s : State}
    (passes : selectRefusal src slot credit s = none) (link : s.lnk.state ≠ .listenOnly) :
    takeSelect src tag slot credit s = joinQueue ⟨src, tag, slot, credit⟩ s := by
  unfold takeSelect
  rw [listens_not link, if_neg Bool.false_ne_true]
  dsimp only
  rw [passes]

/-- R82: while VSQ is not IDLE the record waits in the queue. -/
theorem joinQueue_waits {r : Selection} {s : State} (busy : s.vsq.state ≠ .idle) (link : s.lnk.state ≠ .listenOnly)
    (room : s.lnk.queue.length < 8) :
    joinQueue r s =
      queueing (.vendStatus r.panel r.tag .accepted none (some (s.vsq.queue.length + 1)))
        (s.modVsq fun q => { q with queue := q.queue ++ [r] }) := by
  let joined : State := s.modVsq fun q => { q with queue := q.queue ++ [r] }
  have length : joined.vsq.queue.length = s.vsq.queue.length + 1 := List.length_append ..
  unfold joinQueue
  rw [if_neg busy]
  show send (.vendStatus r.panel r.tag .accepted none (some joined.vsq.queue.length)) joined = _
  rw [length]
  exact send_queueing rfl link room

/-- R168: in LISTEN-ONLY no SELECT is taken. -/
theorem takeSelect_listening {src : Station} {tag : Byte} {slot credit : Nat} {s : State} (listens : s.lnk.state = .listenOnly) :
    takeSelect src tag slot credit s = s := if_pos ((listenOnly_iff s).mpr listens)

/-- Settles O30: the checks are `selectRefusal_table`, and each answer is one frame queued. -/
theorem selectIsCheckedInOrder : Obligations.SelectIsCheckedInOrder := by
  unfold Obligations.SelectIsCheckedInOrder
  refine ⟨?active, ?listening⟩
  case active =>
    intro src own tag slot credit s known here used room answer session refusal
    subst here
    let h := heardFrom src s
    have linked : h.lnk.state ≠ .listenOnly := by
      rw [show h.lnk.state = s.lnk.state from rfl, known_active known]; nofun
    have table : refusal = (selectRefusal src slot.toNat credit.toNat h).map answered :=
      selectRefusal_table src slot credit h
    have heard : exec (.selectReceived src s.ssu.own tag slot credit) s =
        .next (refreshOutputs (runAgenda (takeSelect src tag slot.toNat credit.toNat h))) := directed_event known rfl used _
    constructor
    · intro o p fails
      rw [table, Option.map_eq_some_iff] at fails
      obtain ⟨⟨o', price⟩, found, said⟩ := fails
      obtain ⟨rfl, rfl⟩ := Prod.mk.inj said
      rw [heard, takeSelect_refused found linked room, runAgenda_nil rfl]
      rfl
    · intro passes busy
      rw [table, Option.map_eq_none_iff] at passes
      rw [heard, takeSelect_accepted passes linked, joinQueue_waits (s := h) busy linked room, runAgenda_nil rfl]
      rfl
  case listening =>
    intro src dst tag slot credit s receiving other listens settled
    let h := hearing src s
    have link : h.lnk = { s.lnk with heard := true, isolationTimer := 0, acknowledged := false } := hearing_quiet src listens
    have queue : h.lnk.queue = s.lnk.queue := by rw [link]
    have acknowledged : h.lnk.acknowledged = false := by rw [link]
    have untaken : directed dst (takeSelect src tag slot.toNat credit.toNat) h = h := by
      unfold directed
      rw [takeSelect_listening (by rw [link]; exact listens), ite_self]
    refine ⟨refreshOutputs h, ?_, hearing_vsq src s, queue, acknowledged, hearing_session src s,
      hearing_cnu src s, hearing_mxd src s, hearing_rfc src s, hearing_own src s⟩
    refine (event_heard (hears_listenOnly receiving other settled) (congrArg State.lbu untaken)).trans ?_
    rw [show directed dst _ (hearing src s) = h from untaken]

end Sys2Proof.Machine.Selecting
end

section
/-! PROOFS. A request of an own load record on a station that is not ISOLATED (R152, R153): what its one test makes of it. -/

namespace Sys2Proof.Machine.Requesting

set_option Elab.async false

open Laws Intake Announcing

/-! ### What a test reads (R150, R151) -/

/-- R152: the base load and the HELD amounts of the own records other than `k`. -/
def ownBeside (k : LoadKind) (s : State) : Nat :=
  s.params.baseLoad +
    ((classOrder.filter fun j => decide (j ≠ k ∧ (s.lbu.load j).state = .held)).map fun j => (s.lbu.load j).amount).sum

theorem ownTotal_beside (k : LoadKind) (s : State) : ownTotal s = ownBeside k s + (s.lbu.load k).heldAmount := by
  have sum : ownBeside k s = s.params.baseLoad +
      (((if .motor = k then 0 else s.lbu.motor.heldAmount) + (if .compressor = k then 0 else s.lbu.compressor.heldAmount)) +
        if .heater = k then 0 else s.lbu.heater.heldAmount) := by
    unfold ownBeside classOrder OwnLoad.heldAmount
    simp only [List.filter_cons, List.filter_nil, Lbu.load]
    by_cases m : LoadKind.motor = k <;> by_cases c : LoadKind.compressor = k <;> by_cases h : LoadKind.heater = k <;>
      by_cases hm : s.lbu.motor.state = .held <;> by_cases hc : s.lbu.compressor.state = .held <;>
      by_cases hh : s.lbu.heater.state = .held <;> simp [m, c, h, hm, hc, hh, Nat.add_assoc]
  rw [sum, ownTotal]
  cases k <;> simp [Lbu.load] <;> omega

/-- Of two states everything that the test of record `k` counts beside its own amount is the same. -/
structure TestsAlike (k : LoadKind) (v w : State) : Prop where
  together : isolated w = isolated v
  params : w.params = v.params
  others : ∀ j, j ≠ k → w.lbu.load j = v.lbu.load j
  sum : peerSum w = peerSum v
  limit : effectiveLimit w = effectiveLimit v

theorem TestsAlike.own {k : LoadKind} {v w : State} (h : TestsAlike k v w) : ownBeside k w = ownBeside k v := by
  unfold ownBeside
  rw [h.params]
  have same : (classOrder.filter fun j => decide (j ≠ k ∧ (w.lbu.load j).state = .held)) =
      classOrder.filter fun j => decide (j ≠ k ∧ (v.lbu.load j).state = .held) :=
    List.filter_congr fun j _ => by by_cases g : j = k <;> simp [g, h.others]
  rw [same]
  congr 2
  refine List.map_congr_left fun j hj => ?_
  have other : j ≠ k := (of_decide_eq_true (List.mem_filter.mp hj).2).1
  rw [h.others j other]

theorem TestsAlike.claims {k : LoadKind} {v w : State} (h : TestsAlike k v w) : otherClaims k w = otherClaims k v := by
  have motor (o : LoadKind.motor ≠ k) : w.lbu.motor = v.lbu.motor := h.others .motor o
  have compressor (o : LoadKind.compressor ≠ k) : w.lbu.compressor = v.lbu.compressor := h.others .compressor o
  have heater (o : LoadKind.heater ≠ k) : w.lbu.heater = v.lbu.heater := h.others .heater o
  cases k <;> simp [otherClaims, motor, compressor, heater]

/-- With the same peer entries the sums over them are the same. -/
theorem TestsAlike.of_peers {k : LoadKind} {v w : State} (together : isolated w = isolated v) (params : w.params = v.params)
    (others : ∀ j, j ≠ k → w.lbu.load j = v.lbu.load j) (peers : w.lbu.peers = v.lbu.peers) : TestsAlike k v w where
  together := together
  params := params
  others := others
  sum := by simp only [peerSum, countedTotal, soloAllowance, params, peers]
  limit := by simp only [effectiveLimit, params, peers]

theorem TestsAlike.trans {k : LoadKind} {u v w : State} (h : TestsAlike k u v) (g : TestsAlike k v w) : TestsAlike k u w :=
  ⟨g.together.trans h.together, g.params.trans h.params, fun j o => (g.others j o).trans (h.others j o), g.sum.trans h.sum,
    g.limit.trans h.limit⟩

/-- The hearing of a known station restarts an age, which no test counts. -/
theorem heardFrom_alike (k : LoadKind) (src : Station) (s : State) : TestsAlike k s (heardFrom src s) where
  together := rfl
  params := rfl
  others j _ := by cases j <;> rfl
  sum := by
    show List.foldl _ 0 (s.lbu.peers.map _) = _
    rw [List.foldl_map, peerSum]
    congr 1
    funext a e
    split <;> rfl
  limit := by
    show List.foldl _ _ ((s.lbu.peers.map _).filter _) = _
    rw [List.filter_map, List.foldl_map, effectiveLimit]
    have same (e : Peer) : (if e.station = src then { e with age := 0 } else e).limit = e.limit := by split <;> rfl
    have live (e : Peer) : (if e.station = src then { e with age := 0 } else e).live = e.live := by split <;> rfl
    simp only [same, Function.comp_def, live]
    rfl

/-- R151: the test of a WAITING record passes. -/
def passes (k : LoadKind) (amount : Nat) (s : State) : Prop :=
  ownBeside k s + otherClaims k s + peerSum s + amount ≤ effectiveLimit s

theorem fits_passes {k : LoadKind} {s : State} (waits : (s.lbu.load k).state = .waiting) :
    fits k s = true ↔ passes k (s.lbu.load k).amount s := by
  have none : (s.lbu.load k).heldAmount = 0 := by rw [OwnLoad.heldAmount, waits]; rfl
  rw [fits, decide_eq_true_iff, fitSum, ownTotal_beside k, none]
  rfl

theorem TestsAlike.passes {k : LoadKind} {v w : State} (h : TestsAlike k v w) (amount : Nat) :
    passes k amount w ↔ passes k amount v := by
  rw [Requesting.passes, Requesting.passes, h.own, h.claims, h.sum, h.limit]

/-! ### The request (R152, R153) -/

/-- R152: a record as its request leaves it before the test. -/
def askedRecord (cls : ClaimClass) (amount : Nat) (l : OwnLoad) : OwnLoad :=
  { l with state := .waiting, cls := cls, amount := amount, waitAge := 0, heldOff := false, metFull := false, window := none }

/-- R152, R153: what the request of record `k` in `s` leaves in `t`, on a station that is not ISOLATED: the record QUEUED with the
next sequence and its CLAIM at the tail, or waiting from zero. -/
structure RequestMade (k : LoadKind) (cls : ClaimClass) (amount : Nat) (s t : State) : Prop where
  record : (t.lbu.load k).cls = cls ∧ (t.lbu.load k).amount = amount ∧ (t.lbu.load k).heldOff = false
  agenda : t.lbu.agenda = s.lbu.agenda
  queued :
    passes k amount s → s.lnk.queue.length < 8 →
      (t.lbu.load k).state = .queued ∧ (t.lbu.load k).sequence = s.lbu.claimCounter + 1 ∧
        t.lbu.claimCounter = s.lbu.claimCounter + 1 ∧
        t.lnk.queue = s.lnk.queue ++ [TxEntry.fresh (.claim k cls amount (s.lbu.claimCounter + 1))]
  waits :
    ¬ (passes k amount s ∧ s.lnk.queue.length < 8) →
      (t.lbu.load k).state = .waiting ∧ (t.lbu.load k).waitAge = 0 ∧ t.lbu.claimCounter = s.lbu.claimCounter ∧
        t.lnk.queue = s.lnk.queue

theorem modLoad_lbu_agenda (k : LoadKind) (f : OwnLoad → OwnLoad) (s : State) : (modLoad k f s).lbu.agenda = s.lbu.agenda := by
  cases k <;> rfl
theorem modLoad_lbu_claimCounter (k : LoadKind) (f : OwnLoad → OwnLoad) (s : State) :
    (modLoad k f s).lbu.claimCounter = s.lbu.claimCounter := by cases k <;> rfl
theorem modLoad_lbu_peers (k : LoadKind) (f : OwnLoad → OwnLoad) (s : State) : (modLoad k f s).lbu.peers = s.lbu.peers := by
  cases k <;> rfl

theorem modLoad_alike (k : LoadKind) (f : OwnLoad → OwnLoad) (s : State) : TestsAlike k s (modLoad k f s) :=
  .of_peers rfl rfl (fun _ h => modLoad_other h f s) (modLoad_lbu_peers k f s)

/-- The own total stands while a record is neither made HELD nor was. -/
theorem ownTotal_modLoad {k : LoadKind} {f : OwnLoad → OwnLoad} {s : State} (before : (s.lbu.load k).state ≠ .held)
    (after : (f (s.lbu.load k)).state ≠ .held) : ownTotal (modLoad k f s) = ownTotal s := by
  have none : (s.lbu.load k).heldAmount = 0 := if_neg before
  have still : (f (s.lbu.load k)).heldAmount = 0 := if_neg after
  rw [ownTotal_beside k, ownTotal_beside k s, modLoad_load, none, still, (modLoad_alike k f s).own]

/-- R153: the next sequence is taken and the CLAIM queued. -/
def claimed (k : LoadKind) (s : State) : State :=
  modLoad k (fun l => { l with state := .queued, sequence := s.lbu.claimCounter + 1, metFull := false })
    ((queueing (.claim k (s.lbu.load k).cls (s.lbu.load k).amount (s.lbu.claimCounter + 1)) s).modLbu fun b =>
      { b with claimCounter := s.lbu.claimCounter + 1 })

theorem queueClaim_room {k : LoadKind} {s : State} (link : s.lnk.state ≠ .listenOnly) (room : s.lnk.queue.length < 8) :
    queueClaim k s = claimed k s := by
  unfold queueClaim
  dsimp only
  rw [request_queueing rfl link room]
  rfl

theorem queueClaim_full {k : LoadKind} {s : State} (full : ¬ s.lnk.queue.length < 8) :
    queueClaim k s = modLoad k (fun l => { l with waitAge := 0, metFull := true }) s := by
  unfold queueClaim request
  simp [superseding, Config.queuePlaces, full]

theorem claimed_load (k : LoadKind) (s : State) :
    (claimed k s).lbu.load k =
      { s.lbu.load k with state := .queued, sequence := s.lbu.claimCounter + 1, metFull := false } := by
  rw [claimed, modLoad_load]
  cases k <;> rfl

theorem claimed_counter (k : LoadKind) (s : State) : (claimed k s).lbu.claimCounter = s.lbu.claimCounter + 1 := by
  cases k <;> rfl

theorem claimed_agenda (k : LoadKind) (s : State) : (claimed k s).lbu.agenda = s.lbu.agenda := by cases k <;> rfl

theorem claimed_total {k : LoadKind} {s : State} (waits : (s.lbu.load k).state = .waiting) :
    ownTotal (claimed k s) = ownTotal s := by
  refine ownTotal_modLoad (fun held => ?_) nofun
  have now : (s.lbu.load k).state = .held := by cases k <;> exact held
  rw [waits] at now
  cases now

/-- R153: the test of a WAITING record that is not held off, on a station that is not ISOLATED. -/
theorem testOne_together {k : LoadKind} {s : State} (waits : (s.lbu.load k).state = .waiting) (together : isolated s = false)
    (free : (s.lbu.load k).heldOff = false) :
    testOne k s = if fits k s = true then queueClaim k s else modLoad k (fun l => { l with metFull := false }) s := by
  simp [testOne, waits, together, free]

/-- R152, R153: the test of the record just asked for. -/
theorem testOne_made {k : LoadKind} {cls : ClaimClass} {amount : Nat} {s : State} (together : isolated s = false) :
    let w := modLoad k (askedRecord cls amount) s
    RequestMade k cls amount s (testOne k w) ∧ ownTotal (testOne k w) = ownTotal w := by
  intro w
  have record : w.lbu.load k = askedRecord cls amount (s.lbu.load k) := modLoad_load ..
  have counter : w.lbu.claimCounter = s.lbu.claimCounter := modLoad_lbu_claimCounter ..
  have agenda : w.lbu.agenda = s.lbu.agenda := modLoad_lbu_agenda ..
  have waits : (w.lbu.load k).state = .waiting := by rw [record]; rfl
  have unheld : (w.lbu.load k).state ≠ .held := by rw [waits]; nofun
  have link : w.lnk.state ≠ .listenOnly := by
    have active : s.lnk.state = .active := by
      simp only [isolated, Bool.or_eq_false_iff, bne_eq_false_iff_eq] at together; exact together.2
    rw [show w.lnk = s.lnk from rfl, active]; nofun
  have fit : fits k w = true ↔ passes k amount s := by
    rw [fits_passes waits, record]; exact (modLoad_alike k _ s).passes amount
  rw [testOne_together waits together (by rw [record]; rfl)]
  by_cases hit : passes k amount s
  · rw [if_pos (fit.mpr hit)]
    by_cases room : s.lnk.queue.length < 8
    · rw [queueClaim_room link room]
      refine ⟨⟨?_, (claimed_agenda k w).trans agenda, fun _ _ => ⟨?_, ?_, ?_, ?_⟩, fun misses => absurd ⟨hit, room⟩ misses⟩,
        claimed_total waits⟩
      · rw [claimed_load, record]; exact ⟨rfl, rfl, rfl⟩
      · rw [claimed_load]
      · rw [claimed_load, counter]
      · rw [claimed_counter, counter]
      · show s.lnk.queue ++ _ = _
        rw [record, counter]
        rfl
    · rw [queueClaim_full (s := w) room]
      refine ⟨⟨?_, (modLoad_lbu_agenda ..).trans agenda, fun _ h => absurd h room, fun _ => ⟨?_, ?_, ?_, rfl⟩⟩,
        ownTotal_modLoad unheld unheld⟩
      · rw [modLoad_load, record]; exact ⟨rfl, rfl, rfl⟩
      · rw [modLoad_load]; exact waits
      · rw [modLoad_load]
      · rw [modLoad_lbu_claimCounter, counter]
  · rw [if_neg (mt fit.mp hit)]
    refine ⟨⟨?_, (modLoad_lbu_agenda ..).trans agenda, fun h => absurd h hit, fun _ => ⟨?_, ?_, ?_, rfl⟩⟩,
      ownTotal_modLoad unheld unheld⟩
    · rw [modLoad_load, record]; exact ⟨rfl, rfl, rfl⟩
    · rw [modLoad_load]; exact waits
    · rw [modLoad_load, record]; rfl
    · rw [modLoad_lbu_claimCounter, counter]

/-- R152, R153: a request of a record in NONE: its test is the only one. -/
theorem askLoad_made {k : LoadKind} {cls : ClaimClass} {amount : Nat} {s : State} (none : (s.lbu.load k).state = .none)
    (together : isolated s = false) : RequestMade k cls amount s (askLoad k cls amount s) := by
  obtain ⟨made, total⟩ := testOne_made (k := k) (cls := cls) (amount := amount) together
  have one : askLoad k cls amount s = testOne k (modLoad k (askedRecord cls amount) s) := by
    unfold askLoad testRecord
    rw [if_pos none]
    exact if_pos total
  rw [one]
  exact made

/-- A request reads no more of the state than the own records, the link and the parameters. -/
theorem RequestMade.of_same {k : LoadKind} {cls : ClaimClass} {amount : Nat} {v s t : State} (h : RequestMade k cls amount v t)
    (lbu : v.lbu = s.lbu) (lnk : v.lnk = s.lnk) (params : v.params = s.params) : RequestMade k cls amount s t where
  record := h.record
  agenda := by rw [← lbu]; exact h.agenda
  queued hit room := by
    have alike : TestsAlike k v s :=
      .of_peers (by simp only [isolated, lnk]) params.symm (fun _ _ => by rw [lbu]) (by rw [lbu])
    rw [← lbu, ← lnk]
    exact h.queued ((alike.passes amount).mp hit) (by rwa [lnk])
  waits misses := by
    have alike : TestsAlike k v s :=
      .of_peers (by simp only [isolated, lnk]) params.symm (fun _ _ => by rw [lbu]) (by rw [lbu])
    rw [← lbu, ← lnk]
    exact h.waits fun ⟨hit, room⟩ => misses ⟨(alike.passes amount).mpr hit, by rwa [← lnk]⟩

theorem RequestMade.waitsOrQueued {k : LoadKind} {cls : ClaimClass} {amount : Nat} {s t : State} (h : RequestMade k cls amount s t) :
    (t.lbu.load k).state = .waiting ∨ (t.lbu.load k).state = .queued := by
  by_cases hit : passes k amount s ∧ s.lnk.queue.length < 8
  · exact .inr (h.queued hit.1 hit.2).1
  · exact .inl (h.waits hit).1

/-- R153: a sequence is taken exactly by a record that is QUEUED. -/
theorem RequestMade.counter {k : LoadKind} {cls : ClaimClass} {amount : Nat} {s t : State} (h : RequestMade k cls amount s t) :
    t.lbu.claimCounter = if (t.lbu.load k).state = .queued then s.lbu.claimCounter + 1 else s.lbu.claimCounter := by
  by_cases hit : passes k amount s ∧ s.lnk.queue.length < 8
  · obtain ⟨state, -, counter, -⟩ := h.queued hit.1 hit.2
    rw [counter, if_pos state]
  · obtain ⟨state, -, counter, -⟩ := h.waits hit
    rw [counter, if_neg (by rw [state]; nofun)]

/-- R168: what stands in the queue before the request stands there after it. -/
theorem RequestMade.place {k : LoadKind} {cls : ClaimClass} {amount : Nat} {s t : State} (h : RequestMade k cls amount s t)
    {i : Nat} {e : TxEntry} (stands : s.lnk.queue[i]? = some e) : t.lnk.queue[i]? = some e := by
  by_cases hit : passes k amount s ∧ s.lnk.queue.length < 8
  · obtain ⟨-, -, -, queue⟩ := h.queued hit.1 hit.2
    rw [queue, List.getElem?_append_left (List.getElem?_eq_some_iff.mp stands).1, stands]
  · obtain ⟨-, -, -, queue⟩ := h.waits hit
    rw [queue, stands]

/-- R152, R153: a request made in `v`, told from the state `s` before it in the same event. -/
theorem RequestMade.tested {k : LoadKind} {cls : ClaimClass} {amount : Nat} {place : Prop} {s v t : State}
    (h : RequestMade k cls amount v t) (alike : TestsAlike k s v) (together : isolated s = false)
    (room : place ↔ v.lnk.queue.length < 8) : RequestTested k cls amount place s t := by
  obtain ⟨cls', amount', free⟩ := h.record
  have hits : passes k amount v ↔ passes k amount s := alike.passes amount
  refine ⟨cls', amount', free, fun _ hit open_ => ?_, fun _ misses => ?_, fun alone => ?_, fun alone => ?_⟩
  · obtain ⟨state, sequence, counter, queue⟩ := h.queued (hits.mpr hit) (room.mp open_)
    refine ⟨state, sequence.trans counter.symm, TxEntry.fresh (.claim k cls amount (t.lbu.load k).sequence), ?_, rfl, rfl⟩
    rw [queue, sequence]
    exact List.mem_append_right _ List.mem_cons_self
  · obtain ⟨state, age, -, -⟩ := h.waits fun ⟨hit, free⟩ => misses ⟨hits.mp hit, room.mpr free⟩
    exact ⟨state, age⟩
  · rw [together] at alone; cases alone
  · rw [together] at alone; cases alone

end Sys2Proof.Machine.Requesting
end

section
/-! PROOFS. The requester's DEBIT: its resend, the outcomes of TABLE 5-5, and the vend that ends unpaid (R85 to R89, R99). -/

namespace Sys2Proof.Machine.Requesting

set_option Elab.async false

open Laws Intake Announcing

/-! ### A vend that ends without a debit (R108, R109) -/

/-- R100: a MOTOR record that was never asked for is not given up. -/
theorem giveUpMotor_none {s : State} (unloaded : s.lbu.motor.state = .none) : giveUpMotor s = s := by
  have unheld : motorHeld s = false := by rw [motorHeld, unloaded]; rfl
  unfold giveUpMotor withdrawLoad
  rw [unheld, if_neg Bool.false_ne_true]
  dsimp only [Lbu.load]
  rw [unloaded]

/-- R107: an outcome that says nothing of the slot leaves it. -/
theorem slotOutcome_same {n : Nat} {o : VendOutcome} (quiet : o ≠ .vended ∧ o ≠ .noProduct) (s : State) :
    slotOutcome n o s = s := by
  obtain ⟨vended, noProduct⟩ := quiet
  cases o <;> first | rfl | exact absurd rfl vended | exact absurd rfl noProduct

/-- R108: the record of a vend whose outcome has been decided. -/
def decidedVend (o : VendOutcome) (c : EndCause) (v : Vend) : Vend :=
  { v with
    outcome := some o, endedBy := some c, windowArmed := false, motorOn := false, asked := none, budgetTimer := none
    jamTimer := none, windowTimer := none }

/-- R107, R108: SETTLING as entered, the MOTOR load not yet given up and the settlement not yet asked for. -/
def deciding (o : VendOutcome) (c : EndCause) (v : Vend) (s : State) : State :=
  let u := slotOutcome v.selection.slot o s
  { u with
    vsq := { u.vsq with state := .settling, vend := some (decidedVend o c v) }
    mxd := { u.mxd with staging := none } }

theorem slotOutcome_vend (n : Nat) (o : VendOutcome) (s : State) : (slotOutcome n o s).vsq.vend = s.vsq.vend := by cases o <;> rfl

/-- R108: an outcome decision, step by step. -/
theorem decideOutcome_eq {o : VendOutcome} {c : EndCause} {v : Vend} {s : State} (vend : s.vsq.vend = some v) :
    decideOutcome o c s = tryLeave (settleVend v o (giveUpMotor (deciding o c v s))) := by
  unfold decideOutcome deciding
  rw [vend]
  simp only [modVend, State.modVsq, setVsq, writeStaging, State.modMxd, slotOutcome_vend, vend, Option.map_some]
  rfl

/-- R89, R108, R109: with no debit granted, none outstanding and no MOTOR load, the decided vend is over at once. -/
theorem endUnpaid_departs {v : Vend} {o : VendOutcome} {s : State} (vend : s.vsq.vend = some v) (ungranted : v.granted = none)
    (unloaded : s.lbu.motor.state = .none) (empty : s.vsq.queue = []) (agenda : s.lbu.agenda = [])
    (link : s.lnk.state ≠ .listenOnly) (room : s.lnk.queue.length < 8) (quiet : o ≠ .vended ∧ o ≠ .noProduct) :
    runAgenda (endUnpaid o s) = departed v o { s with mxd := { s.mxd with staging := none } } := by
  let w : Vend := { v with asked := none }
  let u := modVend (fun v => { v with asked := none }) s
  let d := deciding o .debit w u
  have asked : u.vsq.vend = some w := congrArg (Option.map _) vend
  have same : d = { u with vsq := { u.vsq with state := .settling, vend := some (decidedVend o .debit w) }
                           mxd := { u.mxd with staging := none } } := by
    show deciding o .debit w u = _
    unfold deciding
    rw [slotOutcome_same quiet]
  have ends : endUnpaid o s = tryLeave (settlementOver d) := by
    have idle : d.lbu.motor.state = .none := by rw [same]; exact unloaded
    rw [endUnpaid, decideOutcome_eq asked, giveUpMotor_none idle]
    unfold settleVend
    rw [show w.granted = none from ungranted]
  have vendNow : (settlementOver d).vsq.vend = some { decidedVend o .debit w with settling := none, settled := true } := by
    rw [same]; rfl
  rw [ends, runAgenda_tryLeave vendNow (by rw [same]; rfl) rfl (by rw [same]; exact unloaded) (by rw [same]; exact empty)
    (by rw [same]; exact agenda) (by rw [same]; exact link) (by rw [same]; exact room), same]
  rfl

/-! ### The DEBIT and its resend (R85 to R87) -/

/-- R85, R86: a DEBIT with the next tag is queued, its answer timer from zero. -/
theorem askDebit_queueing {v : Vend} {number : Byte} {expected : Option Half} {retry : Bool} {s : State}
    (link : s.lnk.state ≠ .listenOnly) (room : s.lnk.queue.length < 8) :
    askDebit v number expected retry s =
      modVend (fun w => { w with asked := some ⟨s.vsq.tagCounter + 1, number, expected, 1, retry, 0⟩ })
        (queueing (.debit v.selection.creditStation number v.price (s.vsq.tagCounter + 1) expected) (takeTag s)) := by
  unfold askDebit nextTag
  dsimp only
  rw [request_queueing (s := takeTag s) rfl link room]
  rfl

theorem answerTimer_event {v : Vend} {a : Asked} {s : State} (vend : s.vsq.vend = some v) (outstanding : v.asked = some a) :
    exec .answerTimerExpiry s =
      .next (refreshOutputs (runAgenda (repeatDebit v a (reach Config.answerTime a.timer (openEvent s))))) := by
  show event endAnswerTime s = _
  rw [event_next, endAnswerTime, show (openEvent s).vsq.vend = some v from vend]
  dsimp only
  rw [outstanding]

/-- R87: the one resend. -/
theorem repeatDebit_first {v : Vend} {a : Asked} {s : State} (first : a.sendings = 1) (link : s.lnk.state ≠ .listenOnly)
    (room : s.lnk.queue.length < 8) :
    repeatDebit v a s =
      modVend (fun w => { w with asked := some { a with sendings := 2, timer := 0 } })
        (queueing (.debit v.selection.creditStation a.number v.price a.tag a.expected) s) := by
  unfold repeatDebit
  rw [if_pos first]
  dsimp only
  rw [request_queueing rfl link room]
  rfl

/-! ### Claiming (R99) -/

/-- R99: CLAIMING as entered, the MOTOR load not yet asked for. -/
def claimingVend (s : State) : State :=
  modVend (fun v => { v with budgetTimer := some 0, asked := none }) (setVsq .claiming s)

/-- R99, R152, R153: CLAIMING is entered with the budget timer from zero, and the MOTOR load asked for and tested. -/
theorem enterClaiming_made {v : Vend} {s : State} (vend : s.vsq.vend = some v) (unloaded : s.lbu.motor.state = .none)
    (together : isolated s = false) :
    RequestMade .motor .vend s.params.motorAmount s (enterClaiming s) ∧
      (enterClaiming s).vsq =
        { s.vsq with state := .claiming, vend := some { v with budgetTimer := some 0, asked := none } } := by
  constructor
  · exact (askLoad_made (k := .motor) (s := claimingVend s) unloaded together).of_same rfl rfl rfl
  · show (askLoad .motor .vend s.params.motorAmount (claimingVend s)).vsq = _
    rw [askLoad_vsq]
    simp only [claimingVend, modVend, setVsq, State.modVsq, vend, Option.map_some]

/-! ### The DEBIT-ANSWER (R88, R89, TABLE 5-5) -/

/-- R88: an answer that VSQ accepts. -/
def Accepts (v : Vend) (src : Station) (tag : Byte) (s : State) : Prop :=
  ∃ a, v.asked = some a ∧ s.vsq.state = .debiting ∧ src = v.selection.creditStation ∧ tag = a.tag

theorem takeDebitAnswer_accepted {v : Vend} {a : Asked} {src : Station} {tag : Byte} {o : DebitOutcome}
    {b x : Option Half} {s : State} (vend : s.vsq.vend = some v) (outstanding : v.asked = some a)
    (accepts : Accepts v src tag s) : takeDebitAnswer src tag o b x s = actOnDebit v a o (b.map BitVec.toNat) x s := by
  obtain ⟨a', asked, debiting, station, same⟩ := accepts
  obtain rfl := Option.some.inj (outstanding.symm.trans asked)
  unfold takeDebitAnswer
  rw [vend]
  dsimp only
  rw [outstanding]
  exact if_pos ⟨debiting, station, same⟩

theorem takeDebitAnswer_disregarded {v : Vend} {src : Station} {tag : Byte} {o : DebitOutcome} {b x : Option Half} {s : State}
    (vend : s.vsq.vend = some v) (stranger : ¬ Accepts v src tag s) : takeDebitAnswer src tag o b x s = s := by
  unfold takeDebitAnswer
  rw [vend]
  dsimp only
  split
  · next a outstanding => exact if_neg fun h => stranger ⟨a, outstanding, h⟩
  · rfl

theorem actOnDebit_granted {v : Vend} {a : Asked} {b : Option Nat} {x : Option Half} (s : State) :
    actOnDebit v a .granted b x s = debitGranted a.tag a.number s := if_pos rfl

theorem actOnDebit_again {v : Vend} {a : Asked} {b x : Option Half} (s : State) (first : a.retry = false)
    (enough : ∃ y, b = some y ∧ v.price ≤ y.toNat) :
    actOnDebit v a .stale (b.map BitVec.toNat) x s = askDebit v a.number x true s := by
  obtain ⟨y, rfl, le⟩ := enough
  unfold actOnDebit
  rw [if_neg nofun, if_pos ⟨rfl, first, by simpa using le⟩]

theorem actOnDebit_refused {v : Vend} {a : Asked} {o : DebitOutcome} {b x : Option Half} (s : State) (refused : o ≠ .granted)
    (last : ¬ (o = .stale ∧ a.retry = false ∧ ∃ y, b = some y ∧ v.price ≤ y.toNat)) :
    actOnDebit v a o (b.map BitVec.toNat) x s = endUnpaid (refusalOutcome o) s := by
  unfold actOnDebit
  rw [if_neg refused, if_neg]
  rintro ⟨stale, first, enough⟩
  cases b with
  | none => cases enough
  | some y => exact last ⟨stale, first, y, rfl, by simpa using enough⟩

/-- TABLE 5-5: a refused debit's ending, and the price it carries. -/
theorem refusalOutcome_eq {o : DebitOutcome} :
    refusalOutcome o = if o = .noChange then .noChange else if o = .heldBusy then .paymentBusy else .insufficient := by
  cases o <;> rfl

/-- TABLE 5-5: what the accepted answer to the DEBIT `a` of the vend `v` leaves in `t`. -/
structure AnsweredIn (v : Vend) (a : Asked) (o : DebitOutcome) (b x : Option Half) (s t : State) : Prop where
  cca : t.cca = s.cca
  slots : t.vsq.slots = s.vsq.slots
  session : t.cru.session = s.cru.session
  acts :
    if o = .granted then
      t.vsq.state = .claiming ∧
        t.vsq.vend = some { v with granted := some ⟨a.tag, a.number⟩, asked := none, budgetTimer := some 0 } ∧
        (t.lbu.motor.state = .waiting ∨ t.lbu.motor.state = .queued) ∧ t.lbu.motor.cls = .vend ∧
        t.lbu.motor.amount = s.params.motorAmount
    else if o = .stale ∧ a.retry = false ∧ (∃ y, b = some y ∧ v.price ≤ y.toNat) then
      t.vsq.state = s.vsq.state ∧ t.vsq.tagCounter = s.vsq.tagCounter + 1 ∧
        t.vsq.vend = some { v with asked := some ⟨s.vsq.tagCounter + 1, a.number, x, 1, true, 0⟩ } ∧
        t.lnk.queue =
          s.lnk.queue ++ [TxEntry.fresh (.debit v.selection.creditStation a.number v.price (s.vsq.tagCounter + 1) x)]
    else
      t.vsq.state = .idle ∧ t.vsq.vend = none ∧ t.lbu.motor.state = .none ∧
        t.lnk.queue =
          s.lnk.queue ++
            [TxEntry.fresh (.vendStatus v.selection.panel v.selection.tag
              (if o = .noChange then .noChange else if o = .heldBusy then .paymentBusy else .insufficient)
              (if o = .noChange ∨ o = .heldBusy then none else some v.price) none)]

theorem actOnDebit_answered {v : Vend} {a : Asked} (o : DebitOutcome) (b x : Option Half) {s : State} (vend : s.vsq.vend = some v)
    (ungranted : v.granted = none) (unloaded : s.lbu.motor.state = .none) (empty : s.vsq.queue = []) (agenda : s.lbu.agenda = [])
    (together : isolated s = false) (link : s.lnk.state ≠ .listenOnly) (room : s.lnk.queue.length < 8) :
    AnsweredIn v a o b x s (runAgenda (actOnDebit v a o (b.map BitVec.toNat) x s)) := by
  by_cases granted : o = .granted
  · subst granted
    let g : Vend := { v with granted := some ⟨a.tag, a.number⟩ }
    let u := modVend (fun w => { w with granted := some ⟨a.tag, a.number⟩ }) s
    obtain ⟨made, claiming⟩ := enterClaiming_made (s := u) (v := g) (congrArg (Option.map _) vend) unloaded together
    obtain ⟨cls, amount, -⟩ := made.record
    rw [actOnDebit_granted, debitGranted, runAgenda_nil (made.agenda.trans agenda)]
    refine ⟨enterClaiming_cca u, by rw [claiming]; rfl, by rw [enterClaiming_cru]; rfl, ?_⟩
    rw [if_pos rfl]
    exact ⟨congrArg Vsq.state claiming, congrArg Vsq.vend claiming, made.waitsOrQueued, cls, amount⟩
  · by_cases again : o = .stale ∧ a.retry = false ∧ ∃ y, b = some y ∧ v.price ≤ y.toNat
    · obtain ⟨rfl, first, enough⟩ := again
      rw [actOnDebit_again s first enough, askDebit_queueing link room]
      rw [runAgenda_nil (show (modVend _ (queueing _ (takeTag s))).lbu.agenda = [] from agenda)]
      refine ⟨rfl, rfl, rfl, ?_⟩
      rw [if_neg nofun, if_pos ⟨rfl, first, enough⟩]
      exact ⟨rfl, rfl, congrArg (Option.map _) vend, rfl⟩
    · rw [actOnDebit_refused s granted again, refusalOutcome_eq,
        endUnpaid_departs vend ungranted unloaded empty agenda link room (by split_ifs <;> exact ⟨nofun, nofun⟩)]
      refine ⟨rfl, rfl, rfl, ?_⟩
      rw [if_neg granted, if_neg again]
      refine ⟨rfl, rfl, unloaded, ?_⟩
      by_cases change : o = .noChange
      · subst change; rfl
      · by_cases held : o = .heldBusy
        · subst held; rfl
        · simp only [departed, change, held, if_false, or_self]
          rfl

/-- Settles O32: the resend and the endings are one frame each, and an accepted answer is `actOnDebit_answered`. -/
theorem debitIsFollowedUp : Obligations.DebitIsFollowedUp := by
  unfold Obligations.DebitIsFollowedUp
  refine ⟨?timer, ?answer⟩
  case timer =>
    intro v a s vend outstanding
    let u := reach Config.answerTime a.timer (openEvent s)
    have agenda : u.lbu.agenda = [] := reach_agenda _ _ _
    have queue : u.lnk.queue = s.lnk.queue := reach_lnk_queue _ _ _
    have state : u.lnk.state = s.lnk.state := reach_lnk_state _ _ _
    refine ⟨fun first link room => ?_, fun second link room ungranted empty unloaded => ?_⟩
    · rw [answerTimer_event vend outstanding, repeatDebit_first first (by rw [state]; exact link) (by rw [queue]; exact room),
        runAgenda_nil (show (modVend _ (queueing _ u)).lbu.agenda = [] from agenda)]
      show Host.Outcome.next (refreshOutputs (modVend _ (u.modLnk fun l => _))) = _
      simp only [State.modLnk]
      rw [queue]
      rfl
    · obtain ⟨w, later, same⟩ := reach_vend Config.answerTime a.timer (s := openEvent s) vend
      have ended := endUnpaid_departs (o := .paymentUnreachable) (s := u) later (same.granted.trans ungranted)
        ((reach_motor _ _ _).trans unloaded) ((reach_vsq_queue _ _ _).trans empty) agenda (by rw [state]; exact link)
        (by rw [queue]; exact room) ⟨nofun, nofun⟩
      refine ⟨_, answerTimer_event vend outstanding, ?_⟩
      rw [repeatDebit, if_neg second]
      show (refreshOutputs (runAgenda (endUnpaid _ u))).vsq.state = _ ∧ _
      rw [ended]
      refine ⟨rfl, rfl, ?_, reach_slots _ _ _, rfl, rfl, rfl⟩
      show u.lnk.queue ++ _ = _
      rw [queue, same.selection]
      rfl
  case answer =>
    intro src own tag o b x v s known here used vend
    let h := heardFrom src s
    have heard : exec (.debitAnswerReceived src own tag o b x) s =
        .next (refreshOutputs (runAgenda (takeDebitAnswer src tag o b x h))) := directed_event known here used _
    split
    case isFalse stranger =>
      rw [heard, takeDebitAnswer_disregarded (s := h) vend stranger, runAgenda_nil rfl]
    case isTrue accepts =>
      intro a outstanding room unloaded ungranted empty
      have active : s.lnk.state = .active := known_active known
      have debiting : s.vsq.state = .debiting := by obtain ⟨-, -, debiting, -⟩ := accepts; exact debiting
      have shown : ∃ t, exec (.debitAnswerReceived src own tag o b x) s = .next (refreshOutputs t) ∧ AnsweredIn v a o b x h t := by
        refine ⟨_, heard, ?_⟩
        rw [takeDebitAnswer_accepted (s := h) vend outstanding accepts]
        exact actOnDebit_answered o b x (s := h) vend ungranted unloaded empty rfl known.together (by rw [show h.lnk.state = _ from active]; nofun) room
      obtain ⟨t, next, answered⟩ := shown
      refine ⟨refreshOutputs t, next, answered.cca, answered.slots, answered.session, ?_⟩
      rw [← debiting]
      exact answered.acts

end Sys2Proof.Machine.Requesting
end

section
/-! PROOFS. A selection that finds VSQ idle (R82, R86, R96, R97, R99): its record is the head taken in the same event, and begins its
vend free, paid by another station, or paid at home. -/

namespace Sys2Proof.Machine.Requesting

set_option Elab.async false

open Laws Intake Credits Announcing Selecting

/-! ### The head is taken (R97) -/

/-- R97: the one record of the queue passes the checks of the head and becomes the vend in progress. -/
theorem runAgenda_takeRecord {r : Selection} {x : Slot} {s : State} (agenda : s.lbu.agenda = []) (idle : s.vsq.state = .idle)
    (queue : s.vsq.queue = [r]) (slot : slotAt s r.slot = some x) (passes : headRefusal r s = none) {t : State}
    (begins : startVend r x.price (s.modVsq fun q => { q with queue := [] }) = t) (after : t.lbu.agenda = []) :
    runAgenda (signal .takeHead s) = t := by
  have taken : takeSignal .takeHead s = t := by
    rw [takeSignal, takeHead, if_pos idle, queue]
    dsimp only
    rw [passes]
    dsimp only
    rw [slot]
    exact begins
  rw [runAgenda_signal agenda (by rw [taken, after]), taken]

theorem send_full {f : Frame} {s : State} (plain : superseding f = false) (full : ¬ s.lnk.queue.length < 8) : send f s = s := by
  simp [send, request, plain, full, Config.queuePlaces]

/-- R82: the queue takes the record and gives it up in the same event. -/
theorem accepted_head {f : Frame} {r : Selection} {s : State} (empty : s.vsq.queue = []) (plain : superseding f = false)
    (link : s.lnk.state ≠ .listenOnly) :
    ((send f (s.modVsq fun q => { q with queue := q.queue ++ [r] })).modVsq fun q => { q with queue := [] }) = send f s := by
  have same : { s.vsq with queue := [] } = s.vsq := by rw [← empty]
  by_cases room : s.lnk.queue.length < 8
  · rw [send_queueing plain link room, send_queueing (s := s.modVsq _) plain link room]
    simp only [queueing, State.modLnk, State.modVsq, same]
  · rw [send_full plain room, send_full (s := s.modVsq _) plain room]
    simp only [State.modVsq, same]

/-- R82, R97: the answer to a selection that finds VSQ IDLE, before the vend begins. -/
def accepted (r : Selection) (s : State) : State := send (.vendStatus r.panel r.tag .accepted none (some 1)) s

theorem accepted_eq {r : Selection} {s : State} (link : s.lnk.state ≠ .listenOnly) :
    accepted r s =
      if s.lnk.queue.length < 8 then queueing (.vendStatus r.panel r.tag .accepted none (some 1)) s else s := by
  unfold accepted
  split
  · next room => exact send_queueing rfl link room
  · next full => exact send_full rfl full

/-- R97: the checks of the head are among those of the SELECT. -/
theorem headRefusal_none {r : Selection} {x : Slot} {s : State} (slot : slotAt s r.slot = some x) (ready : x.state = .ready)
    (cold : tooWarm s x = false) (paid : 0 < x.price → r.credit ≠ 0 ∧ r.credit ≤ 15) : headRefusal r s = none := by
  unfold headRefusal
  rw [slot]
  dsimp only
  rw [if_neg (not_not_intro ready), cold, if_neg Bool.false_ne_true, if_neg]
  rintro ⟨priced, none | far⟩
  · exact (paid priced).1 none
  · exact Nat.not_lt.mpr (paid priced).2 far

/-- R82, R97: an accepted selection that finds VSQ IDLE begins its vend in the same event. -/
theorem joinQueue_begins {r : Selection} {x : Slot} {s t : State} (agenda : s.lbu.agenda = []) (idle : s.vsq.state = .idle)
    (empty : s.vsq.queue = []) (link : s.lnk.state ≠ .listenOnly) (slot : slotAt s r.slot = some x) (ready : x.state = .ready)
    (cold : tooWarm s x = false) (paid : 0 < x.price → r.credit ≠ 0 ∧ r.credit ≤ 15)
    (begins : startVend r x.price (accepted r s) = t) (after : t.lbu.agenda = []) : runAgenda (joinQueue r s) = t := by
  let joined : State := s.modVsq fun q => { q with queue := q.queue ++ [r] }
  let f : Frame := .vendStatus r.panel r.tag .accepted none (some 1)
  have one : joined.vsq.queue = [r] := by
    show s.vsq.queue ++ [r] = _; rw [empty]; rfl
  have joins : joinQueue r s = signal .takeHead (send f joined) := by
    unfold joinQueue
    rw [if_pos idle]
    show signal .takeHead (send (.vendStatus r.panel r.tag .accepted none (some joined.vsq.queue.length)) joined) = _
    rw [one]
    rfl
  rw [joins]
  refine runAgenda_takeRecord (r := r) (x := x) ?_ ?_ ?_ ?_ (headRefusal_none (x := x) ?_ ready ?_ paid) ?_ after
  · rw [send_lbu]; exact agenda
  · rw [send_vsq]; exact idle
  · rw [send_vsq]; exact one
  · rw [slotAt, send_vsq]; exact slot
  · rw [slotAt, send_vsq]; exact slot
  · rw [tooWarm, send_params, send_rfc]; exact cold
  · rw [accepted_head empty rfl link]; exact begins

/-! ### The vend begins (R86, R96, R99) -/

/-- R96: the vend record as created. -/
def withVend (v : Vend) (s : State) : State := s.modVsq fun q => { q with vend := some v }

/-- R97, R99: a free vend enters CLAIMING. -/
theorem startVend_free {r : Selection} {s : State} (unloaded : s.lbu.motor.state = .none) (together : isolated s = false) :
    RequestMade .motor .vend s.params.motorAmount s (startVend r 0 s) ∧
      (startVend r 0 s).vsq =
        { s.vsq with state := .claiming, vend := some { newVend r 0 with budgetTimer := some 0 } } := by
  obtain ⟨made, vsq⟩ := enterClaiming_made (s := withVend (newVend r 0) s) rfl unloaded together
  exact ⟨made.of_same rfl rfl rfl, vsq⟩

/-- R86: a vend that another station pays enters DEBITING, its DEBIT queued with the next tag. -/
theorem startVend_remote {r : Selection} {p : Nat} {s : State} (priced : p ≠ 0) (away : paysAtHome s r = false)
    (link : s.lnk.state ≠ .listenOnly) (room : s.lnk.queue.length < 8) :
    startVend r p s =
      let tag := s.vsq.tagCounter + 1
      let number := debitNumber r.creditStation s
      let expected := (cacheEntry r.creditStation s).map CacheEntry.version
      { s with
        lnk := { s.lnk with queue := s.lnk.queue ++ [TxEntry.fresh (.debit r.creditStation number p tag expected)] }
        vsq :=
          { s.vsq with
            state := .debiting, tagCounter := tag
            vend := some { newVend r p with payment := .remote, asked := some ⟨tag, number, expected, 1, false, 0⟩ } } } := by
  let w := withVend (newVend r p) s
  let e := modVend (fun v => { v with payment := .remote }) (setVsq .debiting w)
  have elsewhere : paysAtHome w (newVend r p).selection = false := away
  have starts : startVend r p s =
      askDebit (newVend r p) (debitNumber r.creditStation s) ((cacheEntry r.creditStation s).map CacheEntry.version) false e := by
    unfold startVend
    rw [if_neg priced]
    show enterDebiting (newVend r p) w = _
    unfold enterDebiting
    rw [elsewhere, if_neg Bool.false_ne_true]
    rfl
  rw [starts, askDebit_queueing (s := e) link room]
  simp only [queueing, takeTag, modVend, setVsq, withVend, State.modLnk, State.modVsq, Option.map_some, e, w]
  rfl

/-- R53, R86: DEBITING at home, the next tag taken. -/
def debitingAtHome (r : Selection) (p : Nat) (s : State) : State :=
  takeTag (modVend (fun v => { v with payment := .own }) (setVsq .debiting (withVend (newVend r p) s)))

theorem debitAtHome_granted {v : Vend} {s g : State} {reply : DebitReply} (grants : reply.outcome = .granted)
    (taken : takeDebit s.ssu.own s.cru.session.number v.price (nextTag s) (some s.cru.session.version) (takeTag s) = (g, reply)) :
    debitAtHome v s = debitGranted (nextTag s) s.cru.session.number g := by
  unfold debitAtHome
  dsimp only
  rw [taken]
  exact if_pos grants

/-- R53, R86, R99: a vend that the own session can pay is granted and enters CLAIMING. -/
theorem startVend_home {r : Selection} {p : Nat} {s : State} (priced : p ≠ 0) (home : paysAtHome s r = true)
    (grants :
      debitCheck s.ssu.own s.cru.session.number p (s.vsq.tagCounter + 1) (some s.cru.session.version) s = .granted)
    (unheld : s.cru.session.hold = none) (unloaded : s.lbu.motor.state = .none) (together : isolated s = false) :
    let tag := s.vsq.tagCounter + 1
    let g := grantDebit s.ssu.own p tag (debitingAtHome r p s)
    RequestMade .motor .vend s.params.motorAmount g (startVend r p s) ∧ (startVend r p s).cru = g.cru ∧
      (startVend r p s).vsq =
        { s.vsq with
          state := .claiming, tagCounter := tag
          vend :=
            some
              { newVend r p with
                payment := .own, granted := some ⟨tag, s.cru.session.number⟩, budgetTimer := some 0 } } := by
  intro tag g
  let w := withVend (newVend r p) s
  let v : Vend := { newVend r p with payment := .own, granted := some ⟨tag, s.cru.session.number⟩ }
  let e := modVend (fun v => { v with granted := some ⟨tag, s.cru.session.number⟩ }) g
  have here : paysAtHome w (newVend r p).selection = true := home
  have granted : takeDebit s.ssu.own s.cru.session.number p tag (some s.cru.session.version) (debitingAtHome r p s) =
      (g, debitReply .granted g) := by
    rcases takeDebit_cases s.ssu.own s.cru.session.number p tag (some s.cru.session.version) (debitingAtHome r p s) with
      ⟨-, -, e⟩ | ⟨refused | held, -⟩
    · exact e
    · exact absurd grants refused
    · exact absurd unheld held
  have starts : startVend r p s = enterClaiming e := by
    unfold startVend
    rw [if_neg priced]
    show enterDebiting (newVend r p) w = _
    unfold enterDebiting
    rw [here, if_pos rfl]
    exact debitAtHome_granted (reply := debitReply .granted g) rfl granted
  have vend : e.vsq.vend = some v := by
    show g.vsq.vend.map _ = _
    rw [grantDebit_vsq]
    rfl
  have vsq : g.vsq = (debitingAtHome r p s).vsq := grantDebit_vsq ..
  obtain ⟨made, claims⟩ := enterClaiming_made (s := e) vend (by show g.lbu.motor.state = _; rw [grantDebit_lbu]; exact unloaded)
    (by show isolated g = _; unfold isolated; rw [grantDebit_lnk_heard, grantDebit_lnk_state]; exact together)
  rw [starts]
  refine ⟨?_, by rw [enterClaiming_cru]; rfl, ?_⟩
  · rw [show s.params = e.params by show _ = g.params; rw [grantDebit_params]; rfl]
    exact made.of_same rfl rfl rfl
  · have others : e.vsq = { (debitingAtHome r p s).vsq with vend := some v } := by
      simp only [e, modVend, State.modVsq, vsq]
      rfl
    rw [claims, others]
    rfl

/-! ### The places of the transmit queue (R168) -/

/-- R168: a request leaves in its place every frame it does not join. -/
theorem request_place {f : Frame} {e : TxEntry} {i : Nat} {s : State} (apart : e.waits f = false)
    (stands : s.lnk.queue[i]? = some e) : (request f s).1.lnk.queue[i]? = some e := by
  rcases request_cases f s with ⟨c, -⟩ | ⟨c, -⟩ | ⟨c, -⟩ <;> rw [c]
  · exact stands
  · show (s.lnk.queue.map _)[i]? = _
    rw [List.getElem?_map, stands, Option.map_some, apart, if_neg Bool.false_ne_true]
  · show (s.lnk.queue ++ _)[i]? = _
    rw [List.getElem?_append_left (List.getElem?_eq_some_iff.mp stands).1, stands]

/-- R168: a request takes at most one place. -/
theorem request_length_le (f : Frame) (s : State) : (request f s).1.lnk.queue.length ≤ s.lnk.queue.length + 1 := by
  rcases request_cases f s with ⟨c, -⟩ | ⟨c, -⟩ | ⟨c, -⟩ <;> rw [c]
  · exact Nat.le_succ _
  · exact (List.length_map ..).trans_le (Nat.le_succ _)
  · exact (List.length_append ..).le

/-- R35, R53: what a grant asks of the transmit queue is the one CREDIT. -/
theorem grantDebit_queue {r : Station} {a : Nat} {tag : Byte} {s : State} (first : s.cru.versionRaised = false)
    (link : s.lnk.state ≠ .listenOnly) : (grantDebit r a tag s).lnk.queue = (request .credit s).1.lnk.queue := by
  have same {u : State} (lnk : u.lnk = s.lnk) : (queueCredit u).lnk.queue = (request .credit s).1.lnk.queue := by
    unfold queueCredit
    rw [listens_not (by rw [lnk]; exact link), if_neg Bool.false_ne_true]
    show (request .credit u).1.lnk.queue = _
    unfold request listenOnly
    rw [lnk]
    split_ifs <;> simp [lnk]
  unfold grantDebit raiseVersion
  rw [show (s.modSession _).cru.versionRaised = false from first, if_neg Bool.false_ne_true]
  exact same rfl

theorem RequestMade.mem {k : LoadKind} {cls : ClaimClass} {amount : Nat} {s t : State} (h : RequestMade k cls amount s t)
    {e : TxEntry} (stands : e ∈ s.lnk.queue) : e ∈ t.lnk.queue := by
  obtain ⟨i, at_⟩ := List.mem_iff_getElem?.mp stands
  exact List.mem_iff_getElem?.mpr ⟨i, h.place at_⟩

theorem RequestMade.awaits {k : LoadKind} {cls : ClaimClass} {amount : Nat} {s t : State} (h : RequestMade k cls amount s t)
    {f : Frame} (waits : Awaits f s) : Awaits f t := by
  obtain ⟨e, mem, waiting⟩ := waits
  exact ⟨e, h.mem mem, waiting⟩

/-! ### The selection (R81, R82) -/

/-- R81: a selection of a station in order, with no vend in progress and the payer able to pay, fails no check. -/
theorem selectRefusal_none {panel : Station} {slot credit : Nat} {x : Slot} {s : State} (cause : s.ssu.cause = none)
    (sound : s.mxd.state ≠ .fault) (matrix : s.params.matrix = true) (closed : doorOpen s = false) (number : slot ≤ 79)
    (found : slotAt s slot = some x) (ready : x.state = .ready) (cold : tooWarm s x = false) (empty : s.vsq.queue = [])
    (idle : s.vsq.vend = none) (paid : 0 < x.price → credit ≠ 0 ∧ credit ≤ 15)
    (funded : 0 < x.price → ∀ k, knownSession credit s = some k → k.1 = .opened → x.price ≤ k.2) :
    selectRefusal panel slot credit s = none := by
  have configures : configured s = true := by rw [configured, cause]; rfl
  have free : panelBusy panel s = false := by rw [panelBusy, empty, idle]; rfl
  unfold selectRefusal
  rw [if_neg (by simp [configures, sound, matrix]), closed, if_neg Bool.false_ne_true, if_pos number, found]
  dsimp only
  rw [if_neg (not_not_intro ready), cold, if_neg Bool.false_ne_true, free, empty, if_neg (by decide), if_neg, if_neg]
  · rintro ⟨priced, short⟩
    cases known : knownSession credit s with
    | none => rw [known] at short; cases short
    | some k =>
      rw [known, Option.map_some, Option.some.injEq, Bool.and_eq_true, beq_iff_eq, decide_eq_true_iff] at short
      exact Nat.not_lt.mpr (funded priced k known short.1) short.2
  · rintro ⟨priced, none | far⟩
    · exact (paid priced).1 none
    · exact Nat.not_lt.mpr (paid priced).2 far

end Sys2Proof.Machine.Requesting
end

section
/-! PROOFS. The selection taken at once (R82, R96, R97, R99): the answer, the vend begun, and the test of its MOTOR request, told
from the state in which the SELECT is heard. -/

namespace Sys2Proof.Machine.Requesting

set_option Elab.async false

open Laws Intake Credits Keeping Announcing Selecting

/-- R82, R164: the state in which the vend begins: the SELECT heard and answered, and nothing more. -/
structure AnsweredAt (f : Frame) (s y : State) : Prop where
  vsq : y.vsq = s.vsq
  agenda : y.lbu.agenda = []
  motor : y.lbu.motor = s.lbu.motor
  counter : y.lbu.claimCounter = s.lbu.claimCounter
  alike : TestsAlike .motor s y
  cru : y.cru = { s.cru with versionRaised := false }
  cca : y.cca = s.cca
  params : y.params = s.params
  ssu : y.ssu = s.ssu
  cnu : y.cnu = s.cnu
  rfc : y.rfc = s.rfc
  together : isolated y = false
  link : y.lnk.state ≠ .listenOnly
  queue : s.lnk.queue.length < 8 → y.lnk.queue = s.lnk.queue ++ [TxEntry.fresh f]
  full : ¬ s.lnk.queue.length < 8 → y.lnk.queue = s.lnk.queue

theorem heardFrom_link {src : Station} {s : State} (known : Known src s) : (heardFrom src s).lnk.state ≠ .listenOnly := by
  rw [← known.hears.2]; exact known_link known

theorem accepted_answeredAt {src : Station} {s : State} (known : Known src s) (r : Selection) :
    AnsweredAt (.vendStatus r.panel r.tag .accepted none (some 1)) s (accepted r (heardFrom src s)) := by
  let h := heardFrom src s
  have link : h.lnk.state ≠ .listenOnly := heardFrom_link known
  have alike : TestsAlike .motor h (accepted r h) :=
    .of_peers (by unfold isolated accepted; rw [send_lnk_heard, send_lnk_state]) (send_params ..)
      (fun _ _ => by rw [accepted, send_lbu]) (by rw [accepted, send_lbu])
  refine ⟨send_vsq .., ?_, ?_, ?_, (heardFrom_alike .motor src s).trans alike, send_cru .., send_cca .., send_params .., send_ssu ..,
    send_cnu .., send_rfc .., ?_, ?_, fun room => ?_, fun full => ?_⟩
  · rw [accepted, send_lbu]; rfl
  · rw [accepted, send_lbu]; rfl
  · rw [accepted, send_lbu]; rfl
  · exact alike.together.trans known.together
  · rw [accepted, send_lnk_state]; exact link
  · rw [accepted_eq link, if_pos (c := h.lnk.queue.length < 8) room]; rfl
  · rw [accepted_eq link, if_neg (c := h.lnk.queue.length < 8) full]; rfl

namespace AnsweredAt
variable {f : Frame} {s y : State} (h : AnsweredAt f s y)
include h

/-- R168: the answer stands behind what was queued before it. -/
theorem place (room : s.lnk.queue.length < 8) : y.lnk.queue[s.lnk.queue.length]? = some (TxEntry.fresh f) := by
  rw [h.queue room]; simp

theorem length (room : s.lnk.queue.length < 8) : y.lnk.queue.length = s.lnk.queue.length + 1 := by
  rw [h.queue room]; exact List.length_append ..

theorem session : y.cru.session = s.cru.session := by rw [h.cru]
theorem books : y.cru.books = s.cru.books := by rw [h.cru]

/-- R79: the credit cache and its memory stand as they stood. -/
theorem entry (st : Station) : cacheEntry st y = cacheEntry st s := by unfold cacheEntry; rw [h.cca]
theorem remembered (st : Station) : rememberedNumber st y = rememberedNumber st s := by unfold rememberedNumber; rw [h.cca]

theorem room_iff : s.lnk.queue.length + 1 < 8 ↔ y.lnk.queue.length < 8 := by
  by_cases room : s.lnk.queue.length < 8
  · rw [h.length room]
  · rw [h.full room]; omega

end AnsweredAt

/-- R53: the own session can pay. -/
structure PaysHere (p : Nat) (s : State) : Prop where
  station : coinStation s = true
  opened : s.cru.session.state = .opened
  unheld : s.cru.session.hold = none
  enough : p ≤ s.cru.session.balance
  change : s.cru.session.balance = p ∨ planExact s (s.cru.session.balance - p) = true

theorem PaysHere.grants {p : Nat} {s : State} (h : PaysHere p s) (r : Station) (tag : Byte) :
    debitCheck r s.cru.session.number p tag (some s.cru.session.version) s = .granted := by
  rw [debitCheck_eq, if_neg (by simp [h.station, h.opened]), if_neg (by simp [h.unheld]), if_neg (by simp [h.unheld]),
    if_neg (not_not_intro rfl), if_neg (Nat.not_lt.mpr h.enough), if_neg]
  rintro ⟨rest, inexact⟩
  rcases h.change with exact_ | exact_
  · omega
  · rw [inexact] at exact_; cases exact_

/-- R53: what the grant to the vend of this station leaves, before CLAIMING is entered. -/
structure GrantedAt (p : Nat) (y g : State) : Prop where
  session :
    g.cru.session =
      { y.cru.session with
        balance := y.cru.session.balance - p, state := .held, idleTimer := none, version := y.cru.session.version + 1
        hold := some ⟨y.ssu.own, y.vsq.tagCounter + 1, p, 0⟩ }
  books : g.cru.books = y.cru.books
  lbu : g.lbu = y.lbu
  params : g.params = y.params
  together : isolated g = isolated y
  announced : y.lnk.queue.length < 8 → Awaits .credit g
  length : g.lnk.queue.length ≤ y.lnk.queue.length + 1
  place : ∀ (i : Nat) (f : Frame), f ≠ .credit → y.lnk.queue[i]? = some (TxEntry.fresh f) →
    g.lnk.queue[i]? = some (TxEntry.fresh f)

theorem grantDebit_grantedAt {p : Nat} {s : State} (r : Selection) (first : s.cru.versionRaised = false)
    (link : s.lnk.state ≠ .listenOnly) :
    GrantedAt p s (grantDebit s.ssu.own p (s.vsq.tagCounter + 1) (debitingAtHome r p s)) where
  session := by
    rw [session_grantDebit, risen_fresh (show (debitingAtHome r p s).cru.versionRaised = false from first)]
    rfl
  books := by simp [grantDebit, debitingAtHome, withVend, setVsq]
  lbu := grantDebit_lbu ..
  params := grantDebit_params ..
  together := by unfold isolated; rw [grantDebit_lnk_heard, grantDebit_lnk_state]; rfl
  announced room :=
    (grantDebit_announced (s := debitingAtHome r p s) first).awaits
      (show HasRoom .credit (debitingAtHome r p s) from ⟨link, .inr room⟩)
  length := by
    rw [grantDebit_queue (s := debitingAtHome r p s) first link]
    exact request_length_le .credit (debitingAtHome r p s)
  place i f other stands := by
    rw [grantDebit_queue (s := debitingAtHome r p s) first link]
    refine request_place (s := debitingAtHome r p s) ?_ stands
    unfold TxEntry.waits TxEntry.fresh
    simpa using other

/-- R99, R152, R153: the request of a vend that enters CLAIMING from `v`, told from the state `s` in which its SELECT is heard. -/
theorem motor_asked {amount : Nat} {place : Prop} {s v t : State} (made : RequestMade .motor .vend amount v t)
    (alike : TestsAlike .motor s v) (together : isolated s = false) (counter : v.lbu.claimCounter = s.lbu.claimCounter)
    (room : place ↔ v.lnk.queue.length < 8) :
    RequestTested .motor .vend amount place s t ∧
      t.lbu.claimCounter = if t.lbu.motor.state = .queued then s.lbu.claimCounter + 1 else s.lbu.claimCounter :=
  ⟨made.tested alike together room, by rw [made.counter, counter]; rfl⟩

theorem knownSession_away {credit : Nat} {s : State} (away : credit ≠ s.ssu.own.toNat) :
    knownSession credit s = (cacheEntry (BitVec.ofNat 4 credit) s).map fun e => (e.state, e.balance) := if_neg away

theorem knownSession_home {credit : Nat} {s : State} (home : credit = s.ssu.own.toNat) :
    knownSession credit s = some (s.cru.session.state, s.cru.session.balance) := if_pos home

/-- R79, R86: the number a DEBIT carries: the cached session's, else the remembered one, else 0. -/
theorem debitNumber_eq (st : Station) (s : State) :
    debitNumber st s = ((cacheEntry st s).map CacheEntry.number).getD ((rememberedNumber st s).getD 0) := by
  unfold debitNumber
  cases cacheEntry st s <;> rfl

/-! ### The three beginnings, told from the state in which the SELECT is heard -/

section Beginnings
variable {f : Frame} {r : Selection} {s y : State} (h : AnsweredAt f s y) (together : isolated s = false)
  (unloaded : s.lbu.motor.state = .none)
include h

include together unloaded in
/-- R97, R99: a free one. -/
theorem free_begins :
    let t := startVend r 0 y
    t.lbu.agenda = [] ∧ (s.lnk.queue.length < 8 → t.lnk.queue[s.lnk.queue.length]? = some (TxEntry.fresh f)) ∧
      t.cru.session = s.cru.session ∧
      t.vsq = { s.vsq with state := .claiming, vend := some { newVend r 0 with budgetTimer := some 0 } } ∧
      RequestTested .motor .vend s.params.motorAmount (s.lnk.queue.length + 1 < 8) s t ∧
      t.lbu.claimCounter = if t.lbu.motor.state = .queued then s.lbu.claimCounter + 1 else s.lbu.claimCounter := by
  obtain ⟨made, vsq⟩ := startVend_free (r := r) (s := y) (by rw [h.motor]; exact unloaded) h.together
  rw [h.params] at made
  rw [h.vsq] at vsq
  have cru : (startVend r 0 y).cru = y.cru := by
    show (enterClaiming (withVend (newVend r 0) y)).cru = _
    rw [enterClaiming_cru]
    rfl
  exact ⟨made.agenda.trans h.agenda, fun room => made.place (h.place room), (congrArg Cru.session cru).trans h.session, vsq,
    motor_asked made h.alike together h.counter h.room_iff⟩

/-- R86: one that another station pays. -/
theorem remote_begins {p : Nat} (priced : p ≠ 0) (away : r.credit ≠ s.ssu.own.toNat) (room : s.lnk.queue.length < 7) :
    let t := startVend r p y
    let tag := s.vsq.tagCounter + 1
    let number := ((cacheEntry r.creditStation s).map CacheEntry.number).getD ((rememberedNumber r.creditStation s).getD 0)
    let expected := (cacheEntry r.creditStation s).map CacheEntry.version
    t.lbu = y.lbu ∧ t.cru.session = s.cru.session ∧
      t.lnk.queue[s.lnk.queue.length]? = some (TxEntry.fresh f) ∧
      t.lnk.queue[s.lnk.queue.length + 1]? = some (TxEntry.fresh (.debit r.creditStation number p tag expected)) ∧
      t.vsq =
        { s.vsq with
          state := .debiting, tagCounter := tag
          vend := some { newVend r p with payment := .remote, asked := some ⟨tag, number, expected, 1, false, 0⟩ } } := by
  have elsewhere : paysAtHome y r = false := by rw [paysAtHome, h.ssu]; simpa using away
  rw [startVend_remote priced elsewhere h.link (h.room_iff.mp (by omega)), debitNumber_eq, h.entry, h.remembered, h.vsq,
    h.queue (by omega)]
  exact ⟨rfl, h.session, by simp, by simp, rfl⟩

include together unloaded in
/-- R53, R99: one that the own session pays. -/
theorem home_begins {p : Nat} (priced : p ≠ 0) (home : r.credit = s.ssu.own.toNat) (pays : PaysHere p s) (plain : f ≠ .credit)
    (room : s.lnk.queue.length < 6) :
    let t := startVend r p y
    let tag := s.vsq.tagCounter + 1
    let c := s.cru.session
    t.lbu.agenda = [] ∧ t.lnk.queue[s.lnk.queue.length]? = some (TxEntry.fresh f) ∧
      t.cru.session =
        { c with
          balance := c.balance - p, state := .held, idleTimer := none, version := c.version + 1
          hold := some ⟨s.ssu.own, tag, p, 0⟩ } ∧
      t.cru.books = s.cru.books ∧ Awaits .credit t ∧
      t.vsq =
        { s.vsq with
          state := .claiming, tagCounter := tag
          vend :=
            some { newVend r p with payment := .own, granted := some ⟨tag, c.number⟩, budgetTimer := some 0 } } ∧
      RequestTested .motor .vend s.params.motorAmount True s t ∧
      t.lbu.claimCounter = if t.lbu.motor.state = .queued then s.lbu.claimCounter + 1 else s.lbu.claimCounter := by
  have length : y.lnk.queue.length = s.lnk.queue.length + 1 := h.length (by omega)
  have here : paysAtHome y r = true := by rw [paysAtHome, h.ssu]; simpa using home
  have paysNow : PaysHere p y := by
    obtain ⟨station, opened, unheld, enough, change⟩ := pays
    refine ⟨?_, ?_, ?_, ?_, ?_⟩
    · unfold coinStation configured at station ⊢; rwa [h.params, h.ssu]
    · rwa [h.session]
    · rwa [h.session]
    · rwa [h.session]
    · rwa [h.session, planExact_congr (congrArg Cnu.tubes h.cnu)]
  obtain ⟨made, cru, vsq⟩ := startVend_home (r := r) (s := y) priced here (paysNow.grants ..) paysNow.unheld
    (by rw [h.motor]; exact unloaded) h.together
  have granted := grantDebit_grantedAt (p := p) (s := y) r (by rw [h.cru]) h.link
  generalize grantDebit y.ssu.own p (y.vsq.tagCounter + 1) (debitingAtHome r p y) = g at *
  have alike : TestsAlike .motor s g :=
    h.alike.trans (.of_peers granted.together granted.params (fun _ _ => by rw [granted.lbu]) (by rw [granted.lbu]))
  rw [h.params] at made
  rw [h.vsq, h.session] at vsq
  refine ⟨by rw [made.agenda, granted.lbu, h.agenda], made.place (granted.place _ _ plain (h.place (by omega))), ?_, ?_,
    made.awaits (granted.announced (by omega)), vsq,
    motor_asked made alike together (by rw [granted.lbu, h.counter]) (iff_of_true trivial ?_)⟩
  · rw [cru, granted.session, h.session, h.ssu, h.vsq]
  · rw [cru, granted.books, h.books]
  · have := granted.length
    omega

end Beginnings

/-- R81: who pays a priced selection can: the check of TABLE 5-2 on the credit station does not hold. -/
structure Payer (credit : Nat) (p : Nat) (s : State) : Prop where
  named : credit ≠ 0 ∧ credit ≤ 15
  funded : ∀ k, knownSession credit s = some k → k.1 = .opened → p ≤ k.2

theorem Payer.remote {credit : Nat} {p : Nat} {s : State} (away : credit ≠ s.ssu.own.toNat) (some_ : credit ≠ 0)
    (within : credit ≤ 15) (enough : ∀ e, cacheEntry (BitVec.ofNat 4 credit) s = some e → e.state = .opened → p ≤ e.balance) :
    Payer credit p s where
  named := ⟨some_, within⟩
  funded k knows opened := by
    rw [knownSession_away away, Option.map_eq_some_iff] at knows
    obtain ⟨e, entry, rfl⟩ := knows
    exact enough e entry opened

theorem Payer.home {credit : Nat} {p : Nat} {s : State} (home : credit = s.ssu.own.toNat) (used : s.ssu.own ≠ 0)
    (enough : p ≤ s.cru.session.balance) : Payer credit p s where
  named := by
    rw [home]
    exact ⟨fun zero => used (BitVec.eq_of_toNat_eq zero), Nat.le_of_lt_succ s.ssu.own.isLt⟩
  funded k knows _ := by
    rw [knownSession_home home] at knows
    obtain rfl := Option.some.inj knows
    exact enough

/-- Settles O31: the head is taken by `joinQueue_begins`, and the three beginnings are `free_begins`, `remote_begins` and `home_begins`. -/
theorem selectionIsTakenAtOnce : Obligations.SelectionIsTakenAtOnce := by
  unfold Obligations.SelectionIsTakenAtOnce
  intro src own tag slot credit u s known here used idle empty unbegun _ unloaded cause sound matrix closed number found ready
    cold st num expected remote c athome asked how
  subst here
  let r : Selection := ⟨src, tag, slot.toNat, credit.toNat⟩
  let y := accepted r (heardFrom src s)
  have h : AnsweredAt (.vendStatus src tag .accepted none (some 1)) s y := accepted_answeredAt known r
  have together : isolated s = false := known.together
  have payer (priced : 0 < u.price) : Payer credit.toNat u.price (heardFrom src s) := by
    rcases (how.resolve_left (Nat.ne_of_gt priced)).2 with ⟨-, away, some_, within, enough⟩ | ⟨-, home, -, -, -, enough, -⟩
    · exact .remote (s := heardFrom src s) away (mt (zero_iff credit).mpr some_) within enough
    · exact .home (s := heardFrom src s) home used enough
  have next (after : (startVend r u.price y).lbu.agenda = []) :
      exec (.selectReceived src s.ssu.own tag slot credit) s = .next (refreshOutputs (startVend r u.price y)) := by
    have heard : exec (.selectReceived src s.ssu.own tag slot credit) s =
        .next (refreshOutputs (runAgenda (takeSelect src tag slot.toNat credit.toNat (heardFrom src s)))) :=
      directed_event known rfl used _
    have passes := selectRefusal_none (panel := src) (s := heardFrom src s) cause sound matrix closed number found ready cold empty
      unbegun (fun priced => (payer priced).named) fun priced => (payer priced).funded
    rw [heard, takeSelect_accepted passes (heardFrom_link known)]
    rw [joinQueue_begins (r := r) (x := u) (s := heardFrom src s) rfl idle empty (heardFrom_link known) found ready cold
      (fun priced => (payer priced).named) rfl after]
  have cnu : (startVend r u.price y).cnu = s.cnu := (startVend_cnu ..).trans h.cnu
  have rfc : (startVend r u.price y).rfc = s.rfc := (startVend_rfc ..).trans h.rfc
  have queue : (startVend r u.price y).vsq.queue = [] := by rw [startVend_vsq_queue, h.vsq, empty]
  by_cases free : u.price = 0
  case pos =>
    obtain ⟨agenda, place, session, vsq, told⟩ := free_begins (r := r) h together unloaded
    have begun : startVend r u.price y = startVend r 0 y := by rw [free]
    rw [← begun] at agenda place session vsq told
    generalize startVend r u.price y = t at *
    have slots := congrArg Vsq.slots vsq
    have tags := congrArg Vsq.tagCounter vsq
    refine ⟨refreshOutputs t, next agenda, place, queue, slots, cnu, rfc, fun _ => ?_,
      fun pays => absurd pays.1 (by omega), fun pays => absurd pays.1 (by omega)⟩
    exact ⟨congrArg Vsq.state vsq, session, tags, congrArg Vsq.vend vsq, told⟩
  case neg =>
    obtain ⟨room, pays⟩ := how.resolve_left free
    rcases pays with ⟨-, away, -⟩ | ⟨-, home, station, opened, unheld, enough, change⟩
    case inl =>
      obtain ⟨lbu, session, place, debit, vsq⟩ := remote_begins (r := r) h free away (by omega)
      generalize startVend r u.price y = t at *
      have slots := congrArg Vsq.slots vsq
      have tags := congrArg Vsq.tagCounter vsq
      refine ⟨refreshOutputs t, next (by rw [lbu, h.agenda]), fun _ => place, queue, slots, cnu, rfc,
        fun zero => absurd zero free, fun _ => ?_, fun pays => absurd pays.2.1 away⟩
      exact ⟨congrArg Vsq.state vsq, session, tags, (congrArg Lbu.motor lbu).trans h.motor, congrArg Vsq.vend vsq, debit⟩
    case inr =>
      obtain ⟨agenda, place, session, books, waits, vsq, told⟩ :=
        home_begins (r := r) h together unloaded free home ⟨station, opened, unheld, enough, change⟩ nofun room
      generalize startVend r u.price y = t at *
      have slots := congrArg Vsq.slots vsq
      have tags := congrArg Vsq.tagCounter vsq
      refine ⟨refreshOutputs t, next agenda, fun _ => place, queue, slots, cnu, rfc,
        fun zero => absurd zero free, fun pays => absurd home pays.2.1, fun _ => ?_⟩
      exact ⟨congrArg Vsq.state vsq, tags, congrArg Vsq.vend vsq, session, books, waits, told⟩

end Sys2Proof.Machine.Requesting
end

section
/-! PROOFS. What an operation asks of the transmit queue (R152, R153, R158, R168): the frames that wait go on to wait, a CLAIM taken
back excepted, and it takes no more than a stated number of places beside that of a STATUS. -/

namespace Sys2Proof.Machine.Queueing

set_option Elab.async false

open Laws Intake Announcing Requesting

/-! ### Places taken -/

/-- R153, R154: a CLAIM may be taken back before it is sent; every other frame stays until it is sent or given up. -/
def isClaimFrame : Frame → Bool
  | .claim _ _ _ _ => true
  | _ => false

/-- The frames of a queue with the place that a STATUS takes, whether or not one waits. -/
def reserved (p : List (Frame × Option Wire)) : Nat := p.length + if (Frame.status, none) ∈ p then 0 else 1

/-- From `s` to `t` every waiting frame but a CLAIM goes on to wait, and at most `n` places are taken beside that of a STATUS. -/
structure Queued (n : Nat) (s t : State) : Prop where
  link : t.lnk.state = s.lnk.state
  waits : ∀ f, isClaimFrame f = false → (f, none) ∈ places s → (f, none) ∈ places t
  taken : reserved (places t) ≤ reserved (places s) + n

theorem length_le_reserved (p : List (Frame × Option Wire)) : p.length ≤ reserved p := Nat.le_add_right _ _

theorem reserved_le (p : List (Frame × Option Wire)) : reserved p ≤ p.length + 1 := by
  unfold reserved; split <;> omega

namespace Queued
variable {m n : Nat} {s t u : State}

theorem of_queue (link : t.lnk.state = s.lnk.state) (queue : t.lnk.queue = s.lnk.queue) : Queued n s t := by
  have same : places t = places s := by unfold places; rw [queue]
  exact ⟨link, fun f _ => by rw [same]; exact id, by rw [same]; exact Nat.le_add_right _ _⟩

theorem of_lnk (h : t.lnk = s.lnk) : Queued n s t := .of_queue (by rw [h]) (by rw [h])

theorem refl (s : State) : Queued n s s := .of_lnk rfl

theorem trans (h : Queued m s t) (g : Queued n t u) : Queued (m + n) s u where
  link := g.link.trans h.link
  waits f lasts waits := g.waits f lasts (h.waits f lasts waits)
  taken := by have := h.taken; have := g.taken; omega

/-- What comes after and leaves the link takes no place. -/
theorem andSame (h : Queued n s t) (same : u.lnk = t.lnk) : Queued n s u := h.trans (n := 0) (.of_lnk same)

theorem mono (h : Queued m s t) (le : m ≤ n) : Queued n s t := ⟨h.link, h.waits, h.taken.trans (Nat.add_le_add_left le _)⟩

theorem awaits (h : Queued n s t) {f : Frame} (lasts : isClaimFrame f = false) (waits : Awaits f s) : Awaits f t :=
  (awaits_iff f t).mpr (h.waits f lasts ((awaits_iff f s).mp waits))

/-- With places enough reserved there is room. -/
theorem room (h : Queued n s t) (places_ : reserved (places s) + n < 8) : t.lnk.queue.length < 8 := by
  have := h.taken
  have := length_le_reserved (places t)
  rw [places_length] at this
  omega

end Queued

/-- A frame asked for takes one place; a STATUS takes that reserved for it. -/
theorem withFrame_reserved (f : Frame) (link : LinkState) (p : List (Frame × Option Wire)) :
    reserved (withFrame f link p) ≤ reserved p + if f = .status then 0 else 1 := by
  unfold withFrame
  split
  · exact Nat.le_add_right _ _
  · next absent =>
    unfold reserved
    rw [List.length_append, List.length_singleton]
    by_cases status : f = .status
    · subst status
      have new : (Frame.status, none) ∉ p := fun mem => absent (.inr (.inl ⟨rfl, mem⟩))
      simp [new]
    · have same : (Frame.status, none) ∈ p ++ [(f, none)] ↔ (Frame.status, none) ∈ p := by simp [Ne.symm status]
      simp only [same, if_neg status]
      omega

theorem queued_withFrame {f : Frame} {s t : State} (link : t.lnk.state = s.lnk.state)
    (queue : places t = withFrame f s.lnk.state (places s)) : Queued (if f = .status then 0 else 1) s t :=
  ⟨link, fun _ _ mem => by rw [queue]; exact subset_withFrame _ _ _ mem, by rw [queue]; exact withFrame_reserved ..⟩

theorem request_queued (f : Frame) (s : State) : Queued 1 s (request f s).1 :=
  (queued_withFrame (by simp) (request_places f s)).mono (by split <;> omega)

theorem send_queued (f : Frame) (s : State) : Queued 1 s (send f s) := request_queued f s

/-- R169: a STATUS asked for takes no place but its own. -/
theorem queueStatus_queued (s : State) : Queued 0 s (queueStatus s) := queued_withFrame (by simp) (queueStatus_places s)

theorem announceChange_queued (s : State) : Queued 0 s (announceChange s) :=
  (Queued.of_queue (n := 0) (s := s) (t := s.modLnk fun l => { l with change := l.change + 1 }) rfl rfl).trans (queueStatus_queued _)

/-! ### The tests of the own records (R153, R161) -/

theorem modLoad_queued (k : LoadKind) (f : OwnLoad → OwnLoad) (s : State) : Queued 0 s (modLoad k f s) := .of_lnk rfl

theorem grantLoad_queued (k : LoadKind) (s : State) : Queued 0 s (grantLoad k s) :=
  ((modLoad_queued k _ s).trans (announceChange_queued _)).andSame rfl

theorem queueClaim_queued (k : LoadKind) (s : State) : Queued 1 s (queueClaim k s) := by
  unfold queueClaim
  dsimp only
  split
  · exact (request_queued _ s).andSame rfl
  · exact .of_lnk rfl

theorem testOne_queued (k : LoadKind) (s : State) : Queued 1 s (testOne k s) := by
  rcases testOne_cases k s with ⟨e, -⟩ | ⟨e, -⟩ | ⟨e, -⟩ | ⟨e, -⟩ <;> rw [e]
  · exact .refl s
  · exact (grantLoad_queued k s).mono (Nat.zero_le 1)
  · exact queueClaim_queued k s
  · exact (modLoad_queued k _ s).mono (Nat.zero_le 1)

/-- A test of one record leaves the others. -/
theorem testOne_other {j k : LoadKind} (h : j ≠ k) (s : State) : (testOne k s).lbu.load j = s.lbu.load j := by
  rcases testOne_cases k s with ⟨e, -⟩ | ⟨e, -⟩ | ⟨e, -⟩ | ⟨e, -⟩ <;> rw [e]
  · show (announceChange (modLoad k _ s)).lbu.load j = _
    rw [announceChange_lbu, modLoad_other h]
  · unfold queueClaim
    dsimp only
    split
    · rw [modLoad_other h]
      show (request _ s).1.lbu.load j = _
      rw [request_lbu]
    · exact modLoad_other h _ s
  · exact modLoad_other h _ s

/-- R153: the tests of the records that wait beside MOTOR. -/
theorem testWaiting_motorless {s : State} (h : s.lbu.motor.state = .none) :
    (testWaiting s).lbu.motor.state = .none ∧ Queued 2 s (testWaiting s) := by
  have motor : testOne .motor s = s := testOne_settled (k := .motor) (by show s.lbu.motor.state ≠ _; rw [h]; nofun)
  have same : (testWaiting s).lbu.load .motor = s.lbu.load .motor := by
    unfold testWaiting
    rw [motor, testOne_other (by decide : LoadKind.motor ≠ .heater), testOne_other (by decide : LoadKind.motor ≠ .compressor)]
  refine ⟨(congrArg OwnLoad.state same).trans h, ?_⟩
  unfold testWaiting
  rw [motor]
  exact (testOne_queued .compressor s).trans (testOne_queued .heater _)

/-! ### The MOTOR load given up (R100, R158) -/

theorem clearLoad_queued (k : LoadKind) (s : State) : Queued 0 s (clearLoad k s) := modLoad_queued ..

theorem isClaim_of_lasting {k : LoadKind} {q : Byte} {f : Frame} (lasts : isClaimFrame f = false) : isClaim k q f = false := by
  cases f with
  | claim => cases lasts
  | _ => rfl

theorem removeClaim_queued (k : LoadKind) (q : Byte) (s : State) : Queued 0 s (removeClaim k q s) := by
  have sub : (places (removeClaim k q s)).Sublist (places s) := List.filter_sublist.map _
  have keeps (f : Frame) (lasts : isClaimFrame f = false) (mem : (f, none) ∈ places s) :
      (f, none) ∈ places (removeClaim k q s) := by
    obtain ⟨e, he, same⟩ := List.mem_map.mp mem
    refine List.mem_map.mpr ⟨e, List.mem_filter.mpr ⟨he, ?_⟩, same⟩
    obtain ⟨rfl, -⟩ := Prod.mk.inj same
    simp [isClaim_of_lasting lasts]
  refine ⟨rfl, keeps, ?_⟩
  have length := sub.length_le
  unfold reserved
  by_cases status : (Frame.status, none) ∈ places s
  · rw [if_pos status, if_pos (keeps .status rfl status)]; omega
  · rw [if_neg status]; split <;> omega

theorem sendRelease_queued (k : LoadKind) (q : Byte) (s : State) : Queued 1 s (sendRelease k q s) :=
  (send_queued _ s).trans (announceChange_queued _)

theorem sendRelease_motor (k : LoadKind) (q : Byte) (s : State) : (sendRelease k q s).lbu.motor = s.lbu.motor := by
  rw [sendRelease, announceChange_lbu, send_lbu]

/-- R158: a withdrawal of MOTOR: its RELEASE, the STATUS, and a CLAIM for each of the others. -/
theorem withdrawMotor {s : State} (unheld : s.lbu.motor.state ≠ .held) :
    (withdrawLoad .motor s).lbu.motor.state = .none ∧ Queued 3 s (withdrawLoad .motor s) := by
  have tested {u : State} (before : Queued 1 s u) (none : u.lbu.motor.state = .none) :
      (testWaiting u).lbu.motor.state = .none ∧ Queued 3 s (testWaiting u) :=
    let ⟨motor, queued⟩ := testWaiting_motorless none
    ⟨motor, before.trans queued⟩
  unfold withdrawLoad
  dsimp only
  split
  · split
    · exact tested ((clearLoad_queued .motor s).mono (Nat.zero_le 1)) rfl
    · exact ⟨rfl, (clearLoad_queued .motor s).mono (Nat.zero_le 3)⟩
  · split
    · exact tested ((clearLoad_queued .motor s).trans (sendRelease_queued ..)) (by rw [sendRelease_motor]; rfl)
    · exact tested (((removeClaim_queued ..).trans (clearLoad_queued .motor _)).mono (Nat.zero_le 1)) rfl
  · exact tested ((clearLoad_queued .motor s).trans (sendRelease_queued ..)) (by rw [sendRelease_motor]; rfl)
  · next idle => exact ⟨idle, .refl s⟩
  · next held => exact absurd held unheld

/-- R158: the release of a HELD MOTOR: the STATUS, and a CLAIM for each of the others. -/
theorem releaseMotor {s : State} (held : s.lbu.motor.state = .held) :
    (releaseLoad .motor s).lbu.motor.state = .none ∧ Queued 2 s (releaseLoad .motor s) := by
  have none : (announceChange (clearLoad .motor s)).lbu.motor.state = .none := by rw [announceChange_lbu]; rfl
  obtain ⟨motor, queued⟩ := testWaiting_motorless none
  unfold releaseLoad
  rw [if_pos (show (s.lbu.load .motor).state = _ from held)]
  exact ⟨motor, ((clearLoad_queued .motor s).trans (announceChange_queued _)).trans queued⟩

/-- R100: MOTOR is given up, or kept HELD until the latch holds all-off. -/
theorem giveUpMotor_queued (s : State) :
    Queued 3 s (giveUpMotor s) ∧ (s.lbu.motor.state ≠ .held → (giveUpMotor s).lbu.motor.state = .none) := by
  unfold giveUpMotor motorHeld
  by_cases held : s.lbu.motor.state = .held
  · rw [beq_iff_eq.mpr held, if_pos rfl]
    refine ⟨?_, fun unheld => absurd held unheld⟩
    split
    · exact (releaseMotor held).2.mono (by omega)
    · exact .refl s
  · rw [beq_eq_false_iff_ne.mpr held, if_neg Bool.false_ne_true]
    obtain ⟨motor, queued⟩ := withdrawMotor held
    exact ⟨queued, fun _ => motor⟩

/-! ### The settlement, the end of the vend, and the signals of the event -/

theorem announced_queued {s t : State} (h : Announced s t) : Queued 1 s t := by
  obtain ⟨u, credit, status⟩ := h
  refine (queued_withFrame credit.link credit.queue).trans (n := 0) ?_
  rcases status.only.queue with same | asked
  · exact ⟨status.only.link, fun f _ => by rw [same]; exact id, by rw [same]; exact Nat.le_add_right _ _⟩
  · exact queued_withFrame status.only.link asked

theorem sendSettle_queued (v : Vend) (tag number : Byte) (r : SettleResult) (k : Nat) (s : State) :
    Queued 1 s (sendSettle v tag number r k s) := (send_queued _ s).andSame rfl

theorem settlementOver_queued (s : State) : Queued 0 s (settlementOver s) := .of_lnk rfl

theorem countUnpaid_queued (r : SettleResult) (a : Option SettleOutcome) (s : State) : Queued 0 s (countUnpaid r a s) :=
  .of_lnk (by simp)

/-- R54: a settlement at home asks for the CREDIT, and what a change of the exact-change-only flag brings. -/
theorem settleAtHome_queued (g : Grant) (r : SettleResult) {s : State} (first : s.cru.versionRaised = false) :
    Queued 1 s (settleAtHome g r s) := by
  have taken : Queued 1 s (takeSettle s.ssu.own g.tag g.number r s).1 := by
    rcases takeSettle_cases s.ssu.own g.tag g.number r s with ⟨-, e⟩ | ⟨-, e⟩ <;> rw [e]
    · exact announced_queued (settled_announced first)
    · exact .refl s
  exact (taken.trans (countUnpaid_queued ..)).trans (settlementOver_queued _)

theorem settleVend_queued (v : Vend) (o : VendOutcome) {s : State} (first : s.cru.versionRaised = false) :
    Queued 1 s (settleVend v o s) := by
  unfold settleVend
  split
  · split
    · exact settleAtHome_queued _ _ first
    · exact sendSettle_queued ..
  · split
    · exact sendSettle_queued ..
    · exact (settlementOver_queued s).mono (Nat.zero_le 1)

theorem tryLeave_queued (s : State) : Queued 1 s (tryLeave s) := by
  rcases tryLeave_cases s with e | ⟨v, -, -, -, -, e⟩ <;> rw [e]
  · exact .refl s
  · exact (send_queued _ s).andSame rfl

end Sys2Proof.Machine.Queueing
end

section
/-! PROOFS. The outcome decision of a vend and what follows it in its event (R91, R97, R100, R107 to R109): the vend in SETTLING or over,
its slot, its motor and MOTOR load, its settlement and its final VEND-STATUS. -/

namespace Sys2Proof.Machine.Deciding

set_option Elab.async false

open Laws Intake Credits Keeping Announcing Requesting Queueing

/-! ### The signals left in an event that ends a vend -/

/-- With VSQ in SETTLING or IDLE and no selection queued a signal concerns the cooling alone. -/
theorem takeSignal_aside {s : State} (calm : s.vsq.state = .settling ∨ s.vsq.state = .idle) (empty : s.vsq.queue = []) (g : Signal) :
    ∃ r, takeSignal g s = { s with rfc := r } := by
  cases g with
  | takeHead => exact ⟨s.rfc, by rw [takeSignal, takeHead, empty]; exact ite_self s⟩
  | granted k =>
    cases k with
    | motor =>
      refine ⟨s.rfc, ?_⟩
      show motorGranted s = s
      unfold motorGranted
      rcases calm with state | state <;> rw [state] <;> exact ite_self s
    | compressor =>
      show ∃ r, compressorGranted s = _
      unfold compressorGranted
      split
      · exact ⟨_, rfl⟩
      · exact ⟨s.rfc, rfl⟩
    | heater =>
      show ∃ r, heaterGranted s = _
      unfold heaterGranted
      split
      · exact ⟨_, rfl⟩
      · exact ⟨s.rfc, rfl⟩

theorem runAgenda_aside {s : State} (calm : s.vsq.state = .settling ∨ s.vsq.state = .idle) (empty : s.vsq.queue = []) :
    ∃ r a, runAgenda s = { s with rfc := r, lbu := { s.lbu with agenda := a } } := by
  have any (n : Nat) (u : State) (calm : u.vsq.state = .settling ∨ u.vsq.state = .idle) (empty : u.vsq.queue = []) :
      ∃ r a, runAgendaFor n u = { u with rfc := r, lbu := { u.lbu with agenda := a } } := by
    induction n generalizing u with
    | zero => exact ⟨u.rfc, u.lbu.agenda, rfl⟩
    | succ n ih =>
      unfold runAgendaFor
      split
      · exact ⟨u.rfc, u.lbu.agenda, rfl⟩
      · next g rest _ =>
        obtain ⟨r, taken⟩ := takeSignal_aside (s := u.modLbu fun b => { b with agenda := rest }) calm empty g
        rw [taken]
        exact ih _ calm empty
  exact any 32 s calm empty

/-! ### The decision -/

/-- R108, R109: the vend `v` stands decided in SETTLING, or is over. -/
def EndsAs (o : VendOutcome) (c : EndCause) (v : Vend) (t : State) : Prop :=
  (∃ w, t.vsq.vend = some w ∧ t.vsq.state = .settling ∧ w.selection = v.selection ∧ w.outcome = some o ∧ w.endedBy = some c ∧
      w.motorOn = false ∧ w.windowArmed = false) ∨
    (t.vsq.vend = none ∧ t.vsq.state = .idle)

theorem EndsAs.calm {o : VendOutcome} {c : EndCause} {v : Vend} {t : State} (h : EndsAs o c v t) :
    t.vsq.state = .settling ∨ t.vsq.state = .idle := h.imp (fun ⟨_, _, state, _⟩ => state) And.right

/-- R91: a settlement touches of the vend its own records alone. -/
theorem settleVend_vend {v w : Vend} {o : VendOutcome} {s : State} (h : s.vsq.vend = some w) :
    ∃ a b, (settleVend v o s).vsq.vend = some { w with settling := a, settled := b } := by
  have sent (u : State) (same : u.vsq = s.vsq) (a : Settling) :
      (modVend (fun x => { x with settling := some a }) u).vsq.vend = some { w with settling := some a } := by
    show u.vsq.vend.map _ = _; rw [same, h]; rfl
  have ended (u : State) (same : u.vsq = s.vsq) :
      (settlementOver u).vsq.vend = some { w with settling := none, settled := true } := by
    show u.vsq.vend.map _ = _; rw [same, h]; rfl
  unfold settleVend
  split
  · split
    · exact ⟨none, true, ended _ (by rw [countUnpaid_vsq, takeSettle_vsq])⟩
    · exact ⟨_, w.settled, sent _ (send_vsq ..) _⟩
  · split
    · exact ⟨_, w.settled, sent _ (send_vsq ..) _⟩
    · exact ⟨none, true, ended s rfl⟩

/-! ### The hold of the own session ended (R48, R49) -/

theorem endHold_home {r : SettleResult} {h : Hold} {s : State} (first : s.cru.versionRaised = false)
    (hold : s.cru.session.hold = some h) : HoldEnded r h s (endHold r s) := by
  have amount : s.cru.session.heldAmount = h.amount := by simp [Session.heldAmount, hold]
  refine ⟨?_, ?_, ?_, ?_, ?_, ?_, ?_, ?_, by simp, by simp, by simp, by simp⟩
  · rw [session_endHold]
  · rw [session_endHold]
  · rw [session_endHold, amount]; rfl
  · rw [session_endHold]
  · rw [session_endHold]
  · rw [risen_congr (c := s.cru) (by simp) (by rw [session_endHold]), risen_fresh first]
  · rw [books_endHold, amount]
  · rw [totals_endHold, amount]; rfl

/-- R48, R49: with no payout waiting an unsold hold returns to an OPEN session. -/
theorem afterSettle_returns {h : Hold} {s : State} (first : s.cru.versionRaised = false) (hold : s.cru.session.hold = some h)
    (escrow : s.cru.session.escrowPending = false) (some_ : 0 < h.amount) :
    let w := afterSettle .notVended (endHold .notVended s)
    w.cru.session =
        { s.cru.session with
          state := .opened, balance := s.cru.session.balance + h.amount, version := s.cru.session.version + 1, hold := none
          idleTimer := if s.params.idleTime = 0 then none else some 0 } ∧
      w.cru.books = s.cru.books := by
  have amount : s.cru.session.heldAmount = h.amount := by simp [Session.heldAmount, hold]
  have ended := endHold_home (r := .notVended) first hold
  have due : settledBalance .notVended h s = s.cru.session.balance + h.amount := rfl
  rcases afterSettle_cases .notVended (endHold .notVended s) with ⟨begins, -⟩ | ⟨empty, -⟩ | ⟨-, -, -, opens⟩
  · obtain ⟨-, waits | ⟨vended, -⟩⟩ := ended.begins_iff.mp begins
    · rw [escrow] at waits; cases waits
    · cases vended
  · rw [ended.balance, due] at empty; omega
  · rw [opens]
    have stand : (enterOpen (endHold .notVended s)).cru.books = (endHold .notVended s).cru.books := by simp [enterOpen]
    refine ⟨?_, by rw [stand, ended.books]; rfl⟩
    rw [session_enterOpen, ended.version, freshIdle_of ended.params, session_endHold, amount]
    rfl

/-- R48, R59: a sold hold is in the book and the audit total, whatever the session does next. -/
theorem afterSettle_sells {h : Hold} {s : State} (first : s.cru.versionRaised = false) (hold : s.cru.session.hold = some h) :
    let w := afterSettle .vended (endHold .vended s)
    w.cru.session.hold = none ∧ w.cru.books.sold = s.cru.books.sold + h.amount ∧
      w.ssu.totals.sold = min 4294967295 (s.ssu.totals.sold + h.amount) := by
  have ended := endHold_home (r := .vended) first hold
  obtain ⟨gone, -⟩ := ended.session
  obtain ⟨short, paid⟩ := ended.counted
  refine ⟨gone, ?_⟩
  by_cases c : EndsShort .vended h s (afterSettle .vended (endHold .vended s))
  · obtain ⟨books, totals⟩ := short c
    rw [books, totals, ended.books, ended.totals]
    exact ⟨rfl, rfl⟩
  · obtain ⟨books, totals⟩ := paid c
    rw [books, totals, ended.books, ended.totals]
    exact ⟨rfl, rfl⟩

section Decided
variable {o : VendOutcome} {c : EndCause} {v : Vend} {u : State} (vend : u.vsq.vend = some v)

/-- R100, R108: the decision with the MOTOR load given up, the settlement not yet asked for. -/
def decided (o : VendOutcome) (c : EndCause) (v : Vend) (u : State) : State := giveUpMotor (deciding o c v u)

theorem decided_vsq (o : VendOutcome) (c : EndCause) (v : Vend) (u : State) :
    (decided o c v u).vsq =
      { (slotOutcome v.selection.slot o u).vsq with state := .settling, vend := some (decidedVend o c v) } := giveUpMotor_vsq _

theorem decided_queued (o : VendOutcome) (c : EndCause) (v : Vend) (u : State) : Queued 3 u (decided o c v u) :=
  (Queued.of_lnk (n := 0) (t := deciding o c v u) (slotOutcome_lnk ..)).trans (giveUpMotor_queued _).1 |>.mono (by omega)

theorem decided_motor (unheld : u.lbu.motor.state ≠ .held) : (decided o c v u).lbu.motor.state = .none :=
  (giveUpMotor_queued (deciding o c v u)).2 (by
    show (slotOutcome v.selection.slot o u).lbu.motor.state ≠ _
    rwa [slotOutcome_lbu])

theorem decided_cru (o : VendOutcome) (c : EndCause) (v : Vend) (u : State) : (decided o c v u).cru = u.cru := by
  rw [decided, giveUpMotor_cru]
  exact slotOutcome_cru ..

theorem decided_params (o : VendOutcome) (c : EndCause) (v : Vend) (u : State) : (decided o c v u).params = u.params := by
  rw [decided, giveUpMotor_params]
  exact slotOutcome_params ..

theorem decided_own (o : VendOutcome) (c : EndCause) (v : Vend) (u : State) : (decided o c v u).ssu.own = u.ssu.own := by
  rw [decided, giveUpMotor_ssu]
  exact slotOutcome_ssu_own ..

theorem decided_sold (o : VendOutcome) (c : EndCause) (v : Vend) (u : State) :
    (decided o c v u).ssu.totals.sold = u.ssu.totals.sold := by
  rw [decided, giveUpMotor_ssu]
  cases o <;> rfl

include vend in
theorem decideOutcome_decided : decideOutcome o c u = tryLeave (settleVend v o (decided o c v u)) := decideOutcome_eq vend

/-- R107 to R109: what the decision leaves, whatever the link. -/
structure DecisionLeaves (o : VendOutcome) (c : EndCause) (v : Vend) (u d : State) : Prop where
  ends : EndsAs o c v d
  queue : d.vsq.queue = u.vsq.queue
  slots : d.vsq.slots = (slotOutcome v.selection.slot o u).vsq.slots
  staging : d.mxd.staging = none
  motor : u.lbu.motor.state ≠ .held → d.lbu.motor.state = .none

include vend in
theorem decideOutcome_leaves : DecisionLeaves o c v u (decideOutcome o c u) := by
  let m := decided o c v u
  let y := settleVend v o m
  obtain ⟨a, b, settles⟩ := settleVend_vend (v := v) (o := o) (s := m) (w := decidedVend o c v) (by rw [decided_vsq])
  have state : y.vsq.state = .settling := by rw [settleVend_vsq_state, decided_vsq]
  rw [decideOutcome_decided vend]
  constructor
  case ends =>
    rcases tryLeave_cases y with e | ⟨x, -, -, -, -, e⟩ <;> rw [e]
    · exact .inl ⟨_, settles, state, rfl, rfl, rfl, rfl, rfl⟩
    · exact .inr ⟨rfl, rfl⟩
  case queue =>
    rw [tryLeave_vsq_queue, settleVend_vsq_queue, decided_vsq]
    cases o <;> rfl
  case slots => rw [tryLeave_vsq_slots, settleVend_vsq_slots, decided_vsq]
  case staging =>
    rw [tryLeave_mxd, settleVend_mxd, decided, giveUpMotor_mxd]
    rfl
  case motor =>
    intro unheld
    rw [tryLeave_lbu_motor, settleVend_lbu]
    exact decided_motor unheld

/-! ### The frames of the decision -/

variable (first : u.cru.versionRaised = false)

include vend first in
theorem decideOutcome_queued : Queued 5 u (decideOutcome o c u) := by
  rw [decideOutcome_decided vend]
  exact ((decided_queued o c v u).trans (settleVend_queued v o (by rw [decided_cru, first]))).trans (tryLeave_queued _)

include vend first in
/-- R109: a vend that is over has its final VEND-STATUS waiting. -/
theorem decideOutcome_answers (link : u.lnk.state ≠ .listenOnly) (room : reserved (places u) ≤ 3)
    (gone : (decideOutcome o c u).vsq.vend = none) :
    Awaits (.vendStatus v.selection.panel v.selection.tag o (if o = .insufficient then some v.price else none) none)
      (decideOutcome o c u) := by
  let m := decided o c v u
  let y := settleVend v o m
  have queued : Queued 4 u y := (decided_queued o c v u).trans (settleVend_queued v o (by rw [decided_cru, first]))
  obtain ⟨a, b, settles⟩ := settleVend_vend (v := v) (o := o) (s := m) (w := decidedVend o c v) (by rw [decided_vsq])
  rw [decideOutcome_decided vend] at gone ⊢
  rcases tryLeave_cases y with e | ⟨x, stands, -, -, -, e⟩
  · rw [e] at gone
    cases settles.symm.trans gone
  · obtain rfl := Option.some.inj (settles.symm.trans stands)
    rw [e]
    show Awaits _ (answerPanel _ _ _ y)
    rw [answerPanel, send_queueing rfl (by rw [queued.link]; exact link) (queued.room (by omega))]
    exact ⟨_, List.mem_append_right _ List.mem_cons_self, rfl, rfl⟩

include vend in
/-- R91: a SETTLE asked for by the decision waits, and the vend with it. -/
theorem decideOutcome_settles {tag number : Byte} {r : SettleResult} (unsettled : v.settled = false)
    (sends : settleVend v o (decided o c v u) = sendSettle v tag number r 1 (decided o c v u)) (link : u.lnk.state ≠ .listenOnly)
    (room : reserved (places u) ≤ 3) :
    (decideOutcome o c u).vsq.state = .settling ∧ Awaits (.settle v.selection.creditStation tag number r) (decideOutcome o c u) := by
  let m := decided o c v u
  have queued : Queued 3 u m := decided_queued o c v u
  have sent : sendSettle v tag number r 1 m = _ :=
    sendSettle_queueing (by rw [queued.link]; exact link) (queued.room (by omega))
  have stays : decideOutcome o c u = sendSettle v tag number r 1 m := by
    rw [decideOutcome_decided vend, sends]
    rcases tryLeave_cases (sendSettle v tag number r 1 m) with e | ⟨x, stands, -, settled, -⟩
    · exact e
    · have before : m.vsq.vend = some (decidedVend o c v) := by rw [decided_vsq]
      rw [sent] at stands
      obtain rfl := Option.some.inj ((congrArg (Option.map _) before).symm.trans stands)
      cases unsettled.symm.trans settled
  rw [stays, sent]
  refine ⟨?_, _, List.mem_append_right _ List.mem_cons_self, rfl, rfl⟩
  show m.vsq.state = _
  rw [decided_vsq]

/-- The decision with the own session's hold settled. -/
def homeSettled (o : VendOutcome) (c : EndCause) (v : Vend) (u : State) : State :=
  afterSettle (settleResult o) (endHold (settleResult o) (decided o c v u))

theorem homeSettled_vsq (o : VendOutcome) (c : EndCause) (v : Vend) (u : State) :
    (homeSettled o c v u).vsq = (decided o c v u).vsq := by rw [homeSettled, afterSettle_vsq, endHold_vsq]

theorem homeSettled_lbu (o : VendOutcome) (c : EndCause) (v : Vend) (u : State) :
    (homeSettled o c v u).lbu = (decided o c v u).lbu := by rw [homeSettled, afterSettle_lbu, endHold_lbu]

include vend in
/-- R54, R109: the hold of the own session is settled in the same event. -/
theorem decideOutcome_atHome {g : Grant} {h : Hold} (granted : v.granted = some g) (own : v.payment = .own)
    (home : HomeHold g h u) :
    (decideOutcome o c u).cru = (homeSettled o c v u).cru ∧ (decideOutcome o c u).ssu = (homeSettled o c v u).ssu ∧
      (∀ f, isClaimFrame f = false → Awaits f (homeSettled o c v u) → Awaits f (decideOutcome o c u)) ∧
      (u.lbu.motor.state ≠ .held → (decideOutcome o c u).vsq.state = .idle ∧ (decideOutcome o c u).vsq.vend = none) := by
  let w := homeSettled o c v u
  let m := decided o c v u
  obtain ⟨hold, requester, tag, number, -, -, -⟩ := home
  have cru : m.cru = u.cru := decided_cru ..
  have here : m.ssu.own = u.ssu.own := decided_own ..
  have matched : settleMatches m.ssu.own g.tag g.number m = true :=
    (settleMatches_iff ..).mpr ⟨h, by rw [cru, hold], by rw [here, requester], tag, by rw [cru, number]⟩
  have settles : settleVend v o m = settlementOver w := by
    unfold settleVend
    rw [granted]
    dsimp only
    rw [if_pos own, settleAtHome, takeSettle, if_pos matched]
    dsimp only
    rw [countUnpaid, if_neg (fun k => k.2 rfl)]
    rfl
  have vendNow : w.vsq = m.vsq := homeSettled_vsq ..
  rw [decideOutcome_decided vend, settles]
  refine ⟨?_, ?_, fun f lasts waits => ?_, fun unheld => ?_⟩
  · rw [tryLeave_cru]; rfl
  · rw [tryLeave_ssu]; rfl
  · exact ((settlementOver_queued w).trans (tryLeave_queued _)).awaits lasts waits
  · unfold tryLeave
    have stands : (settlementOver w).vsq.vend = some { decidedVend o c v with settling := none, settled := true } :=
      settlementOver_vend (by rw [vendNow, decided_vsq])
    have state : (settlementOver w).vsq.state = .settling := by
      show w.vsq.state = _; rw [vendNow, decided_vsq]
    have motor : (settlementOver w).lbu.motor.state = .none := by
      show (homeSettled o c v u).lbu.motor.state = _
      rw [homeSettled_lbu]
      exact decided_motor unheld
    rw [stands]
    dsimp only
    rw [if_pos ⟨state, rfl, motor⟩]
    exact ⟨rfl, rfl⟩

include vend first in
/-- R54: the unsold hold is back in the balance of the OPEN session, announced. -/
theorem decideOutcome_returns {g : Grant} {h : Hold} (granted : v.granted = some g) (own : v.payment = .own)
    (home : HomeHold g h u) (unsold : settleResult o = .notVended) (link : u.lnk.state ≠ .listenOnly)
    (room : reserved (places u) ≤ 3) : HomeReturned h u (decideOutcome o c u) := by
  let m := decided o c v u
  obtain ⟨cru, -, waits, -⟩ := decideOutcome_atHome (o := o) (c := c) vend granted own home
  obtain ⟨hold, -, -, -, -, escrow, some_⟩ := home
  have same : m.cru = u.cru := decided_cru ..
  have queued : Queued 3 u m := decided_queued o c v u
  simp only [homeSettled, unsold] at cru waits
  obtain ⟨session, books⟩ := afterSettle_returns (s := m) (by rw [same, first]) (by rw [same, hold]) (by rw [same, escrow]) some_
  refine ⟨?_, ?_, waits _ rfl ?_⟩
  · rw [cru, session, same, decided_params]
  · rw [cru, books, same]
  · exact (settled_announced (by rw [same, first])).awaits
      ⟨by rw [queued.link]; exact link, .inr (queued.room (by omega))⟩

include vend first in
/-- R48, R59: the hold is sold, in the book and the audit total. -/
theorem decideOutcome_sells {g : Grant} {h : Hold} (granted : v.granted = some g) (own : v.payment = .own)
    (home : HomeHold g h u) (sold : settleResult o = .vended) :
    (decideOutcome o c u).cru.session.hold = none ∧
      (decideOutcome o c u).cru.books.sold = u.cru.books.sold + h.amount ∧
      (decideOutcome o c u).ssu.totals.sold = min 4294967295 (u.ssu.totals.sold + h.amount) := by
  let m := decided o c v u
  obtain ⟨cru, ssu, -⟩ := decideOutcome_atHome (o := o) (c := c) vend granted own home
  obtain ⟨hold, -⟩ := home
  have same : m.cru = u.cru := decided_cru ..
  simp only [homeSettled, sold] at cru ssu
  obtain ⟨gone, books, totals⟩ := afterSettle_sells (s := m) (by rw [same, first]) (by rw [same, hold])
  rw [cru, ssu]
  exact ⟨gone, by rw [books, same], by rw [totals, decided_sold]⟩

end Decided

end Sys2Proof.Machine.Deciding
end

section
/-! PROOFS. The service door opening (R84, R110 to R112, R168, R169): the selection queue answered and emptied, the STATUS behind the
answers, and what the vend in progress makes of it. -/

namespace Sys2Proof.Machine.Opening

set_option Elab.async false

open Laws Intake Credits Keeping Announcing Requesting Queueing Deciding

/-! ### The selection queue answered (R84) -/

/-- The DOOR-OPEN answer to a queued selection. -/
def doorAnswer (r : Selection) : Frame := .vendStatus r.panel r.tag .doorOpen none none

theorem answers_queued (l : List Selection) (s : State) (link : s.lnk.state ≠ .listenOnly) (room : s.lnk.queue.length + l.length ≤ 8) :
    l.foldl (fun t r => answerPanel r .doorOpen 0 t) s =
      s.modLnk fun k => { k with queue := k.queue ++ l.map fun r => TxEntry.fresh (doorAnswer r) } := by
  induction l generalizing s with
  | nil => simp [State.modLnk]
  | cons r l ih =>
    rw [List.length_cons] at room
    have first : answerPanel r .doorOpen 0 s = queueing (doorAnswer r) s := send_queueing rfl link (by omega)
    have length : (queueing (doorAnswer r) s).lnk.queue.length = s.lnk.queue.length + 1 := by simp [queueing]
    rw [List.foldl_cons, first, ih (queueing (doorAnswer r) s) link (by omega)]
    simp [queueing, State.modLnk]

theorem answers_quiet (l : List Selection) (s : State) (listens : s.lnk.state = .listenOnly) :
    l.foldl (fun t r => answerPanel r .doorOpen 0 t) s = s := by
  have quiet (r : Selection) : answerPanel r .doorOpen 0 s = s := by
    rw [answerPanel, send, request_listenOnly ((listenOnly_iff s).mpr listens)]
  induction l with
  | nil => rfl
  | cons r l ih => rw [List.foldl_cons, quiet, ih]

/-! ### The event up to the vend -/

/-- The event begun, with the door standing open. -/
def unlocked (s : State) : State := (openEvent s).modInputs fun n => { n with door := Filter.standing true }

/-- The selection queue empty besides. -/
def cleared (s : State) : State := { unlocked s with vsq := { s.vsq with queue := [] } }

/-- The queued selections answered besides. -/
def answeredOpen (s : State) : State :=
  { cleared s with
    lnk := { s.lnk with queue := s.lnk.queue ++ s.vsq.queue.map fun r => TxEntry.fresh (doorAnswer r) } }

theorem exec_serviceDoorOpens {s : State} (runs : s.phase = .running) :
    exec .serviceDoorOpens s = .next (refreshOutputs (takeDoorOpening (unlocked s))) := by
  show Host.Outcome.next (refreshOutputs (running takeDoorOpening _)) = _
  rw [running_eq (by exact runs)]
  rfl

theorem opens_answered {s : State} (runs : s.phase = .running) (link : s.lnk.state ≠ .listenOnly)
    (room : s.lnk.queue.length + s.vsq.queue.length ≤ 8) :
    exec .serviceDoorOpens s = .next (refreshOutputs (runAgenda (queueStatus (doorAtVend (answeredOpen s))))) := by
  have emptied : emptyQueue .doorOpen (unlocked s) = answeredOpen s := by
    unfold emptyQueue
    rw [answers_queued (unlocked s).vsq.queue (unlocked s) link room]
    rfl
  rw [exec_serviceDoorOpens runs, takeDoorOpening, emptied]

theorem opens_quiet {s : State} (runs : s.phase = .running) (listens : s.lnk.state = .listenOnly) :
    exec .serviceDoorOpens s = .next (refreshOutputs (runAgenda (queueStatus (doorAtVend (cleared s))))) := by
  have emptied : emptyQueue .doorOpen (unlocked s) = cleared s := by
    unfold emptyQueue
    rw [answers_quiet (unlocked s).vsq.queue (unlocked s) listens]
    rfl
  rw [exec_serviceDoorOpens runs, takeDoorOpening, emptied]

/-! ### The vend in progress (R110 to R112) -/

/-- The running vend as the door leaves it, its outcome open. -/
def stoppedVend (v : Vend) : Vend :=
  { v with motorOn := false, jamTimer := none, extraLeft := 0, doorOpened := true, doorStop := true }

theorem stoppedVend_selection (v : Vend) : (stoppedVend v).selection = v.selection := rfl

/-- The motor stopped by the door, the slot left off-home. -/
def stopped (v : Vend) (s : State) : State :=
  modVend (fun v => { v with extraLeft := 0, doorOpened := true, doorStop := true }) (leaveHome v.selection.slot (stopMotor s))

section
variable {v : Vend} {s : State}

theorem stopped_lnk : (stopped v s).lnk = s.lnk := rfl
theorem stopped_cru : (stopped v s).cru = s.cru := rfl
theorem stopped_ssu : (stopped v s).ssu = s.ssu := rfl
theorem enterDropWait_stopped_lnk : (enterDropWait (stopped v s)).lnk = s.lnk := by rw [enterDropWait_lnk, stopped_lnk]
theorem stopped_empty : (stopped v s).vsq.queue = s.vsq.queue := rfl

theorem stopped_vend (vend : s.vsq.vend = some v) : (stopped v s).vsq.vend = some (stoppedVend v) := by
  show ((s.vsq.vend.map _).map _) = _
  rw [vend]
  rfl

theorem slotAt_leaveHome_same (n : Nat) (s : State) :
    slotAt (leaveHome n s) n = (slotAt s n).map fun x => { x with offHome := true } :=
  (recordAt_modify s.vsq.slots _ n n).trans (if_pos rfl)

theorem slotAt_leaveHome_other {n k : Nat} (h : k ≠ n) (s : State) : slotAt (leaveHome n s) k = slotAt s k :=
  (recordAt_modify s.vsq.slots _ n k).trans (if_neg (Ne.symm h))

theorem slotAt_stopped_same {x : Slot} (slot : slotAt s v.selection.slot = some x) :
    slotAt (stopped v s) v.selection.slot = some { x with offHome := true } :=
  (slotAt_leaveHome_same _ (stopMotor s)).trans (congrArg (Option.map _) slot)

theorem slotAt_stopped_other {k : Nat} (h : k ≠ v.selection.slot) : slotAt (stopped v s) k = slotAt s k :=
  slotAt_leaveHome_other h (stopMotor s)

theorem sold_eq (x : Slot) : x.sold = SoldSlot x := by
  unfold Slot.sold SoldSlot
  cases x.state <;> by_cases h : x.stock = some 1 <;> simp [h, SlotState.sellOut]

theorem slotAt_vended_same (n : Nat) (s : State) : slotAt (slotOutcome n .vended s) n = (slotAt s n).map SoldSlot := by
  rw [← funext sold_eq]
  exact (recordAt_modify s.vsq.slots _ n n).trans (if_pos rfl)

theorem slotAt_vended_other {n k : Nat} (h : k ≠ n) (s : State) : slotAt (slotOutcome n .vended s) k = slotAt s k :=
  (recordAt_modify s.vsq.slots _ n k).trans (if_neg (Ne.symm h))

theorem doorAtVend_spared (h : s.vsq.vend = none ∨ s.vsq.state = .settling) : doorAtVend s = s := by
  unfold doorAtVend
  split
  · rfl
  · next vend =>
    rcases h with none | settling
    · cases none.symm.trans vend
    · rw [settling]

theorem doorAtVend_unstarted (vend : s.vsq.vend = some v) (state : s.vsq.state = .debiting ∨ s.vsq.state = .claiming) :
    doorAtVend s = decideOutcome .aborted .door s := by
  unfold doorAtVend
  rw [vend]
  rcases state with state | state <;> rw [state]

theorem doorAtVend_dropped (vend : s.vsq.vend = some v) (state : s.vsq.state = .running) (drop : v.dropSeen = true) :
    doorAtVend s = decideOutcome .vended .door (stopped v s) := by
  unfold doorAtVend
  rw [vend, state]
  exact if_pos drop

theorem doorAtVend_turning (vend : s.vsq.vend = some v) (state : s.vsq.state = .running) (drop : v.dropSeen = false) :
    doorAtVend s = enterDropWait (stopped v s) := by
  unfold doorAtVend
  rw [vend, state]
  exact if_neg (Bool.eq_false_iff.mp drop)

theorem doorAtVend_waiting (vend : s.vsq.vend = some v) (state : s.vsq.state = .dropWait) :
    doorAtVend s = { s with vsq := { s.vsq with vend := some { v with doorOpened := true } } } := by
  unfold doorAtVend
  rw [vend, state]
  simp [modVend, State.modVsq, vend]

end

/-! ### The end of the event -/

/-- The event ends in `t` with what the vend made of the door in `d`: the STATUS is asked for, and no signal left concerns these. -/
structure Closes (d t : State) : Prop where
  vsq : t.vsq = d.vsq
  cru : t.cru = d.cru
  ssu : t.ssu = d.ssu
  mxd : t.mxd = d.mxd
  motor : t.lbu.motor = d.lbu.motor
  lnk : t.lnk = (queueStatus d).lnk

theorem closes_calm {d : State} (calm : d.vsq.state = .settling ∨ d.vsq.state = .idle) (empty : d.vsq.queue = []) :
    Closes d (refreshOutputs (runAgenda (queueStatus d))) := by
  obtain ⟨r, a, ends⟩ := runAgenda_aside (s := queueStatus d) (by rwa [queueStatus_vsq]) (by rwa [queueStatus_vsq])
  rw [ends]
  constructor <;> simp

theorem closes_unsignalled {d : State} (agenda : d.lbu.agenda = []) : Closes d (refreshOutputs (runAgenda (queueStatus d))) := by
  rw [runAgenda_nil (by rwa [queueStatus_lbu])]
  constructor <;> simp

theorem Closes.awaits {f : Frame} {d t : State} (h : Closes d t) (waits : Awaits f (queueStatus d)) : Awaits f t := by
  unfold Awaits at *
  rwa [h.lnk]

/-- The STATUS and the answers wait. -/
def Told (s t : State) : Prop := Awaits .status t ∧ ∀ r ∈ s.vsq.queue, Awaits (doorAnswer r) t

theorem reserved_answered {s : State} (room : s.lnk.queue.length + s.vsq.queue.length < 3) :
    reserved (places (answeredOpen s)) ≤ 3 := by
  have length : (places (answeredOpen s)).length = s.lnk.queue.length + s.vsq.queue.length := by
    rw [places_length]; simp [answeredOpen]
  have before := reserved_le (places (answeredOpen s))
  omega

/-- The vend takes at most five places beside that of the STATUS, and three are reserved before it. -/
theorem Closes.told {s d t : State} (h : Closes d t) (room : s.lnk.queue.length + s.vsq.queue.length < 3)
    (link : s.lnk.state ≠ .listenOnly) (queued : Queued 5 (answeredOpen s) d) : Told s t := by
  have taken : reserved (places d) ≤ 8 := queued.taken.trans (Nat.add_le_add_right (reserved_answered room) 5)
  refine ⟨h.awaits (awaits_queueStatus ⟨by rw [queued.link]; exact link, ?_⟩), fun r mem => h.awaits ?_⟩
  · rw [awaits_iff, ← places_length]
    unfold reserved at taken
    split at taken
    · next waits => exact .inl waits
    · exact .inr (by omega)
  · refine (queueStatus_queued d).awaits rfl (queued.awaits rfl ?_)
    exact ⟨_, List.mem_append_right _ (List.mem_map_of_mem mem), rfl, rfl⟩

end Sys2Proof.Machine.Opening
end

section
/-! PROOFS. Obligation O19: the opening service door, by the state of the vend, with frames and in LISTEN-ONLY. -/

namespace Sys2Proof.Machine.Opening

set_option Elab.async false

open Laws Intake Credits Keeping Announcing Requesting Queueing Deciding

/-! ### The event, by what the vend makes of the door -/

/-- No signal left in the event concerns what the vend made of the door. -/
def Quieted (d : State) : Prop :=
  ((d.vsq.state = .settling ∨ d.vsq.state = .idle) ∧ d.vsq.queue = []) ∨ d.lbu.agenda = []

theorem closes_of_quieted {d : State} (quieted : Quieted d) : Closes d (refreshOutputs (runAgenda (queueStatus d))) := by
  rcases quieted with ⟨calm, empty⟩ | agenda
  · exact closes_calm calm empty
  · exact closes_unsignalled agenda

theorem quieted_decideOutcome {o : VendOutcome} {v : Vend} {u : State} (vend : u.vsq.vend = some v) (empty : u.vsq.queue = []) :
    Quieted (decideOutcome o .door u) :=
  let leaves : DecisionLeaves o .door v u _ := decideOutcome_leaves vend
  .inl ⟨leaves.ends.calm, leaves.queue.trans empty⟩

section
variable {v : Vend} {x : Slot} {s d : State} (runs : s.phase = .running)

include runs

theorem opens_closes (link : s.lnk.state ≠ .listenOnly) (room : s.lnk.queue.length + s.vsq.queue.length ≤ 8)
    (made : doorAtVend (answeredOpen s) = d) (quieted : Quieted d) : ∃ t, exec .serviceDoorOpens s = .next t ∧ Closes d t :=
  ⟨_, by rw [opens_answered runs link room, made], closes_of_quieted quieted⟩

theorem opens_closes_quiet (listens : s.lnk.state = .listenOnly) (made : doorAtVend (cleared s) = d) (quieted : Quieted d) :
    ∃ t, exec .serviceDoorOpens s = .next t ∧ Closes d t :=
  ⟨_, by rw [opens_quiet runs listens, made], closes_of_quieted quieted⟩

end

theorem Closes.slotAt {d t : State} (h : Closes d t) (n : Nat) : slotAt t n = Machine.slotAt d n := by
  unfold Machine.slotAt; rw [h.vsq]

theorem Closes.lnk_quiet {s d t : State} (h : Closes d t) (same : d.lnk = s.lnk) (listens : s.lnk.state = .listenOnly) :
    t.lnk = s.lnk := by
  rw [h.lnk, queueStatus_quiet (by rw [same, listens]), same]

theorem slotAt_of_leaves {o : VendOutcome} {c : EndCause} {v : Vend} {u d : State} (h : DecisionLeaves o c v u d) (n : Nat) :
    slotAt d n = slotAt (slotOutcome v.selection.slot o u) n := by
  unfold slotAt; rw [h.slots]

/-- R108, R109: the vend stands decided in SETTLING, or is over and answered. -/
theorem decided_of_closes {o : VendOutcome} {v : Vend} {u t : State} (vend : u.vsq.vend = some v)
    (first : u.cru.versionRaised = false) (link : u.lnk.state ≠ .listenOnly) (room : reserved (places u) ≤ 3)
    (closes : Closes (decideOutcome o .door u) t) : Decided o .door v t := by
  rcases (decideOutcome_leaves vend : DecisionLeaves o .door v u _).ends with stands | ⟨gone, idle⟩
  · refine .inl ?_
    rwa [closes.vsq]
  · have waits := decideOutcome_answers vend first link room gone
    exact .inr ⟨by rw [closes.vsq, gone], by rw [closes.vsq, idle],
      closes.awaits ((queueStatus_queued _).awaits rfl waits)⟩

/-! ### No vend to act on -/

theorem opens_spared {s : State} (runs : s.phase = .running) (spared : s.vsq.vend = none ∨ s.vsq.state = .settling)
    (link : s.lnk.state ≠ .listenOnly) (absent : ¬ Awaits .status s) (room : s.lnk.queue.length + s.vsq.queue.length < 8) :
    ∃ t, exec .serviceDoorOpens s = .next t ∧ doorOpen t = true ∧ t.vsq = { s.vsq with queue := [] } ∧
      t.lnk.queue = s.lnk.queue ++ (s.vsq.queue.map fun r => TxEntry.fresh (doorAnswer r)) ++ [TxEntry.fresh .status] ∧
      t.cru.session = s.cru.session ∧ t.cnu = s.cnu ∧ t.ssu = s.ssu ∧ t.mxd = s.mxd ∧ t.rfc = s.rfc ∧
      t.lbu.peers = s.lbu.peers ∧ t.lbu.motor = s.lbu.motor := by
  let u := answeredOpen s
  have length : u.lnk.queue.length = s.lnk.queue.length + s.vsq.queue.length := by simp [u, answeredOpen]
  have unasked : u.lnk.queue.any (TxEntry.waits .status) = false := by
    have before : s.lnk.queue.any (TxEntry.waits .status) = false :=
      Bool.eq_false_iff.mpr fun waits => absent ((awaits_iff _ s).mpr ((any_waits_iff _ s).mp waits))
    simp [u, answeredOpen, before, TxEntry.waits, TxEntry.fresh, doorAnswer]
  have queue : (queueStatus u).lnk.queue = u.lnk.queue ++ [TxEntry.fresh .status] := by
    unfold queueStatus
    rcases request_cases .status u with ⟨-, lost⟩ | ⟨-, -, -, waits⟩ | ⟨e, -⟩
    · rcases lost with listens | full
      · exact absurd ((listenOnly_iff u).mp listens) link
      · omega
    · rw [unasked] at waits; cases waits
    · rw [e]; rfl
  rw [opens_answered runs link (Nat.le_of_lt room), doorAtVend_spared (s := answeredOpen s) spared,
    runAgenda_nil (by rw [queueStatus_lbu]; rfl)]
  refine ⟨_, rfl, ?_, by simp [answeredOpen, cleared], by rw [refreshOutputs_lnk, queue]; rfl, ?_⟩
  · rw [doorOpen, refreshOutputs_inputs, queueStatus_inputs]
    rfl
  · simp [answeredOpen, cleared, unlocked]

theorem opens_spared_quiet {s : State} (runs : s.phase = .running) (spared : s.vsq.vend = none ∨ s.vsq.state = .settling)
    (listens : s.lnk.state = .listenOnly) :
    exec .serviceDoorOpens s =
      .next (refreshOutputs
        { openEvent s with
          inputs := { s.inputs with door := Filter.standing true }
          vsq := { s.vsq with queue := [] } }) := by
  rw [opens_quiet runs listens, doorAtVend_spared (s := cleared s) spared, queueStatus_quiet (s := cleared s) listens,
    runAgenda_nil rfl]
  rfl

/-! ### A vend, with the link up -/

section Answering
variable {v : Vend} {x : Slot} {s : State} (runs : s.phase = .running) (vend : s.vsq.vend = some v)
  (room : s.lnk.queue.length + s.vsq.queue.length < 3) (link : s.lnk.state ≠ .listenOnly)

include runs vend room link

/-- R90, R110: before the motor start the vend ends ABORTED, and its debit is settled NOT-VENDED. -/
theorem opens_unstarted (unsettled : v.settled = false) (state : s.vsq.state = .debiting ∨ s.vsq.state = .claiming)
    (unheld : s.lbu.motor.state ≠ .held) :
    ∃ t, exec .serviceDoorOpens s = .next t ∧ Decided .aborted .door v t ∧ t.lbu.motor.state = .none ∧
      t.vsq.slots = s.vsq.slots ∧ t.vsq.queue = [] ∧ Told s t ∧
      (∀ g, v.granted = some g → v.payment ≠ .own →
        t.vsq.state = .settling ∧ Awaits (.settle v.selection.creditStation g.tag g.number .notVended) t) ∧
      (∀ a, v.granted = none → v.asked = some a →
        t.vsq.state = .settling ∧ Awaits (.settle v.selection.creditStation a.tag a.number .notVended) t) ∧
      ∀ g h, v.granted = some g → v.payment = .own → HomeHold g h s →
        t.vsq.state = .idle ∧ t.vsq.vend = none ∧ HomeReturned h s t := by
  let u := answeredOpen s
  let d := decideOutcome .aborted .door u
  have stands : u.vsq.vend = some v := vend
  have reserve : reserved (places u) ≤ 3 := reserved_answered room
  have leaves : DecisionLeaves .aborted .door v u d := decideOutcome_leaves stands
  obtain ⟨t, event, closes⟩ := opens_closes runs link (by omega) (doorAtVend_unstarted (s := u) vend state)
    (quieted_decideOutcome stands rfl)
  have asked {f : Frame} (lasts : isClaimFrame f = false) (waits : Awaits f d) : Awaits f t :=
    closes.awaits ((queueStatus_queued d).awaits lasts waits)
  refine ⟨t, event, decided_of_closes stands rfl link reserve closes, ?_, ?_, ?_,
    closes.told room link (decideOutcome_queued stands rfl), fun g granted away => ?_, fun a ungranted outstanding => ?_,
    fun g h granted own home => ?_⟩
  · rw [closes.motor]; exact leaves.motor unheld
  · rw [closes.vsq]; exact leaves.slots
  · rw [closes.vsq]; exact leaves.queue
  · obtain ⟨settling, waits⟩ := decideOutcome_settles (o := .aborted) (c := .door) (tag := g.tag) (number := g.number)
      (r := .notVended) stands unsettled (by simp [settleVend, granted, away, settleResult]) link reserve
    exact ⟨by rw [closes.vsq]; exact settling, asked rfl waits⟩
  · obtain ⟨settling, waits⟩ := decideOutcome_settles (o := .aborted) (c := .door) (tag := a.tag) (number := a.number)
      (r := .notVended) stands unsettled (by simp [settleVend, ungranted, outstanding]) link reserve
    exact ⟨by rw [closes.vsq]; exact settling, asked rfl waits⟩
  · obtain ⟨-, -, -, departs⟩ := decideOutcome_atHome (o := .aborted) (c := .door) stands granted own home
    obtain ⟨idle, gone⟩ := departs unheld
    obtain ⟨session, books, credit⟩ := decideOutcome_returns (o := .aborted) (c := .door) stands rfl granted own home rfl link reserve
    rw [HomeReturned, closes.vsq, closes.cru]
    exact ⟨idle, gone, session, books, asked rfl credit⟩

/-- R107, R111: with a drop seen the vend is VENDED, and the own session's hold sold. -/
theorem opens_dropped (slot : slotAt s v.selection.slot = some x) (state : s.vsq.state = .running) (drop : v.dropSeen = true) :
    ∃ t, exec .serviceDoorOpens s = .next t ∧ Decided .vended .door v t ∧ t.mxd.staging = none ∧ t.vsq.queue = [] ∧ Told s t ∧
      slotAt t v.selection.slot = some (SoldSlot { x with offHome := true }) ∧
      (∀ n, n ≠ v.selection.slot → slotAt t n = slotAt s n) ∧
      ∀ g h, v.granted = some g → v.payment = .own → HomeHold g h s →
        t.cru.session.hold = none ∧ t.cru.books.sold = s.cru.books.sold + h.amount ∧
          t.ssu.totals.sold = min 4294967295 (s.ssu.totals.sold + h.amount) := by
  let u := stopped v (answeredOpen s)
  let d := decideOutcome .vended .door u
  have stands : u.vsq.vend = some (stoppedVend v) := stopped_vend vend
  have leaves : DecisionLeaves .vended .door (stoppedVend v) u d := decideOutcome_leaves stands
  have reserve : reserved (places u) ≤ 3 := by
    rw [places, stopped_lnk]
    exact reserved_answered room
  have first : u.cru.versionRaised = false := by rw [stopped_cru]; rfl
  have heard : u.lnk.state ≠ .listenOnly := by rw [stopped_lnk]; exact link
  have queued : Queued 5 (answeredOpen s) d :=
    ((Queued.of_lnk (n := 0) stopped_lnk).trans (decideOutcome_queued stands first)).mono (by omega)
  obtain ⟨t, event, closes⟩ := opens_closes runs link (by omega) (doorAtVend_dropped (s := answeredOpen s) vend state drop)
    (quieted_decideOutcome stands stopped_empty)
  have ends : Decided .vended .door (stoppedVend v) t := decided_of_closes stands first heard reserve closes
  refine ⟨t, event, ends, ?_, ?_, closes.told room link queued, ?_, fun n other => ?_, fun g h granted own home => ?_⟩
  · rw [closes.mxd]; exact leaves.staging
  · rw [closes.vsq]; exact leaves.queue
  · rw [closes.slotAt, slotAt_of_leaves leaves, stoppedVend_selection, slotAt_vended_same,
      slotAt_stopped_same (s := answeredOpen s) slot]
    rfl
  · rw [closes.slotAt, slotAt_of_leaves leaves, stoppedVend_selection, slotAt_vended_other other, slotAt_stopped_other other]
    rfl
  · have here : HomeHold g h u := by
      rw [HomeHold, stopped_cru, stopped_ssu]
      exact home
    have sells := decideOutcome_sells (o := .vended) (c := .door) stands first granted own here rfl
    rw [stopped_cru, stopped_ssu] at sells
    rw [closes.cru, closes.ssu]
    exact sells

/-- R111: without a drop the vend waits for one, the window from zero. -/
theorem opens_turning (slot : slotAt s v.selection.slot = some x) (state : s.vsq.state = .running) (drop : v.dropSeen = false) :
    ∃ t, exec .serviceDoorOpens s = .next t ∧ t.vsq.state = .dropWait ∧ t.mxd.staging = none ∧ t.vsq.queue = [] ∧ Told s t ∧
      slotAt t v.selection.slot = some { x with offHome := true } ∧
      t.vsq.vend = some { stoppedVend v with windowTimer := some 0 } := by
  obtain ⟨t, event, closes⟩ := opens_closes runs link (by omega) (doorAtVend_turning (s := answeredOpen s) vend state drop) (.inr rfl)
  refine ⟨t, event, ?_, ?_, ?_, closes.told room link (.of_lnk rfl), ?_, ?_⟩
  · rw [closes.vsq]; rfl
  · rw [closes.mxd]; rfl
  · rw [closes.vsq]; rfl
  · rw [closes.slotAt]; exact slotAt_stopped_same slot
  · rw [closes.vsq]; exact congrArg (Option.map _) (stopped_vend vend)

/-- R112: in DROP-WAIT the vend is marked alone. -/
theorem opens_waiting (state : s.vsq.state = .dropWait) :
    ∃ t, exec .serviceDoorOpens s = .next t ∧ Told s t ∧
      t.vsq = { s.vsq with queue := [], vend := some { v with doorOpened := true } } := by
  obtain ⟨t, event, closes⟩ := opens_closes runs link (by omega) (doorAtVend_waiting (s := answeredOpen s) vend state) (.inr rfl)
  exact ⟨t, event, closes.told room link (.of_lnk rfl), closes.vsq⟩

end Answering

/-! ### A vend, in LISTEN-ONLY -/

section Listening
variable {v : Vend} {x : Slot} {s : State} (runs : s.phase = .running) (vend : s.vsq.vend = some v)
  (listens : s.lnk.state = .listenOnly)

include runs vend listens

theorem listens_unstarted (state : s.vsq.state = .debiting ∨ s.vsq.state = .claiming) (unheld : s.lbu.motor.state ≠ .held) :
    ∃ t, exec .serviceDoorOpens s = .next t ∧ t.lbu.motor.state = .none ∧ t.vsq.slots = s.vsq.slots ∧ t.vsq.queue = [] ∧
      ((t.vsq.state = .idle ∧ t.vsq.vend = none) ∨
        (t.vsq.state = .settling ∧ ∃ w, t.vsq.vend = some w ∧ w.outcome = some .aborted)) := by
  let u := cleared s
  have stands : u.vsq.vend = some v := vend
  have leaves : DecisionLeaves .aborted .door v u (decideOutcome .aborted .door u) := decideOutcome_leaves stands
  obtain ⟨t, event, closes⟩ := opens_closes_quiet runs listens (doorAtVend_unstarted (s := u) vend state)
    (quieted_decideOutcome stands rfl)
  refine ⟨t, event, ?_, ?_, ?_, ?_⟩
  · rw [closes.motor]; exact leaves.motor unheld
  · rw [closes.vsq]; exact leaves.slots
  · rw [closes.vsq]; exact leaves.queue
  · rw [closes.vsq]
    rcases leaves.ends with ⟨w, vend, settling, -, outcome, -⟩ | ⟨gone, idle⟩
    · exact .inr ⟨settling, w, vend, outcome⟩
    · exact .inl ⟨idle, gone⟩

theorem listens_dropped (slot : slotAt s v.selection.slot = some x) (state : s.vsq.state = .running) (drop : v.dropSeen = true) :
    ∃ t, exec .serviceDoorOpens s = .next t ∧ t.mxd.staging = none ∧ t.vsq.queue = [] ∧
      slotAt t v.selection.slot = some (SoldSlot { x with offHome := true }) := by
  let u := stopped v (cleared s)
  have stands : u.vsq.vend = some (stoppedVend v) := stopped_vend vend
  have leaves : DecisionLeaves .vended .door (stoppedVend v) u (decideOutcome .vended .door u) := decideOutcome_leaves stands
  obtain ⟨t, event, closes⟩ := opens_closes_quiet runs listens (doorAtVend_dropped (s := cleared s) vend state drop)
    (quieted_decideOutcome stands stopped_empty)
  refine ⟨t, event, ?_, ?_, ?_⟩
  · rw [closes.mxd]; exact leaves.staging
  · rw [closes.vsq]; exact leaves.queue
  · rw [closes.slotAt, slotAt_of_leaves leaves, stoppedVend_selection, slotAt_vended_same,
      slotAt_stopped_same (s := cleared s) slot]
    rfl

theorem listens_turning (slot : slotAt s v.selection.slot = some x) (state : s.vsq.state = .running) (drop : v.dropSeen = false) :
    ∃ t, exec .serviceDoorOpens s = .next t ∧ t.mxd.staging = none ∧ t.vsq.queue = [] ∧
      slotAt t v.selection.slot = some { x with offHome := true } ∧ t.vsq.state = .dropWait ∧ t.lnk = s.lnk := by
  obtain ⟨t, event, closes⟩ := opens_closes_quiet runs listens (doorAtVend_turning (s := cleared s) vend state drop) (.inr rfl)
  refine ⟨t, event, ?_, ?_, ?_, ?_, closes.lnk_quiet enterDropWait_stopped_lnk listens⟩
  · rw [closes.mxd]; rfl
  · rw [closes.vsq]; rfl
  · rw [closes.slotAt]; exact slotAt_stopped_same slot
  · rw [closes.vsq]; rfl

theorem listens_waiting (state : s.vsq.state = .dropWait) :
    ∃ t, exec .serviceDoorOpens s = .next t ∧ t.lnk = s.lnk ∧
      t.vsq = { s.vsq with queue := [], vend := some { v with doorOpened := true } } := by
  obtain ⟨t, event, closes⟩ := opens_closes_quiet runs listens (doorAtVend_waiting (s := cleared s) vend state) (.inr rfl)
  exact ⟨t, event, closes.lnk_quiet rfl listens, closes.vsq⟩

end Listening

/-- Settles O19, by the state of the vend: the decision leads to SETTLING or IDLE, where no signal left in the event concerns the
Vend Sequencer, and with three places reserved before it every frame it asks for finds its place. -/
theorem doorOpens : Obligations.DoorOpens := by
  refine ⟨fun s runs spared => ⟨opens_spared runs spared, opens_spared_quiet runs spared⟩,
    fun v x s runs vend slot room link unsettled => ⟨?_, ?_, ?_, ?_⟩, fun v x s runs vend slot listens _ => ⟨?_, fun state => ?_, ?_⟩⟩
  · exact opens_unstarted runs vend room link unsettled
  · exact opens_dropped runs vend room link slot
  · exact opens_turning runs vend room link slot
  · exact opens_waiting runs vend room link
  · exact listens_unstarted runs vend listens
  · cases drop : v.dropSeen
    · obtain ⟨t, event, staging, queue, left, waits, lnk⟩ := listens_turning runs vend listens slot state drop
      exact ⟨t, event, staging, queue, left, fun _ => ⟨waits, lnk⟩⟩
    · obtain ⟨t, event, staging, queue, sold⟩ := listens_dropped runs vend listens slot state drop
      exact ⟨t, event, staging, queue, sold, nofun⟩
  · exact listens_waiting runs vend listens

end Sys2Proof.Machine.Opening
end

section
/-! PROOFS. The law of the vend (R96, R99, R100, R108, R109, R116, TABLE 6-3): what keeps it, and the operations that spare the Vend
Sequencer's state and records and its resting MOTOR record (Chapters 1 to 4 and 8 to 10). -/

namespace Sys2Proof.Machine.Vending

set_option Elab.async false

open Laws

variable {s t u : State}

/-! ### What keeps the law -/

/-- R100: the MOTOR record is in NONE or HELD, which no act of another owner changes. -/
def MotorRests (s : State) : Prop := s.lbu.motor.state = .none ∨ s.lbu.motor.state = .held

/-- R108: a vend without outcome, cause and settlement. -/
def Undecided (v : Vend) : Prop := v.outcome = none ∧ v.endedBy = none ∧ v.settling = none ∧ v.settled = false

/-- The vend changed by an act that sets no motor running and, before SETTLING, decides nothing. -/
theorem vendLaw_carry (law : VendLaw s) (f : Vend → Vend) (state : t.vsq.state = s.vsq.state)
    (vend : t.vsq.vend = s.vsq.vend.map f) (test : t.vsq.test.isSome = s.vsq.test.isSome)
    (motor : MotorRests s → t.lbu.motor.state = s.lbu.motor.state) (off : ∀ v, (f v).motorOn = true → v.motorOn = true)
    (open_ : s.vsq.state ≠ .settling → ∀ v, Undecided v → Undecided (f v)) : VendLaw t where
  vend := by rw [vend, Option.isSome_map, state]; exact law.vend
  test := by rw [test, state]; exact law.test
  motor h := by
    rw [state] at h
    have none := law.motor h
    exact (motor (.inl none)).trans none
  held h := by
    rw [state] at h
    have held := law.held h
    exact (motor (.inr held)).trans held
  turning w hw on := by
    rw [vend, Option.map_eq_some_iff] at hw
    obtain ⟨v, hv, rfl⟩ := hw
    rw [state]
    exact law.turning v hv (off v on)
  undecided w hw h := by
    rw [state] at h
    rw [vend, Option.map_eq_some_iff] at hw
    obtain ⟨v, hv, rfl⟩ := hw
    exact open_ h v (law.undecided v hv h)

/-- From `s` to `t` the Vend Sequencer's state and records stand, and so does a MOTOR record that rests. -/
structure Spared (s t : State) : Prop where
  state : t.vsq.state = s.vsq.state
  vend : t.vsq.vend = s.vsq.vend
  test : t.vsq.test = s.vsq.test
  motor : MotorRests s → t.lbu.motor.state = s.lbu.motor.state

namespace Spared

theorem law (h : Spared s t) (law : VendLaw s) : VendLaw t :=
  vendLaw_carry law id h.state (by rw [h.vend, Option.map_id]; rfl) (by rw [h.test]) h.motor (fun _ => id) fun _ _ => id

theorem of_motor (motor : MotorRests s → t.lbu.motor.state = s.lbu.motor.state) (vsq : t.vsq = s.vsq := by simp) : Spared s t :=
  ⟨by rw [vsq], by rw [vsq], by rw [vsq], motor⟩

/-- An act that touches neither the Vend Sequencer nor the own load records; the Frames lemmas say so for the shared operations, and
`simp` finds them. -/
theorem of_eq (vsq : t.vsq = s.vsq := by simp) (motor : t.lbu.motor.state = s.lbu.motor.state := by simp) : Spared s t :=
  .of_motor (fun _ => motor) vsq

theorem refl (s : State) : Spared s s := ⟨rfl, rfl, rfl, fun _ => rfl⟩

theorem trans (h : Spared s t) (g : Spared t u) : Spared s u where
  state := g.state.trans h.state
  vend := g.vend.trans h.vend
  test := g.test.trans h.test
  motor rests := by
    have same := h.motor rests
    exact (g.motor (by unfold MotorRests; rwa [same])).trans same

theorem ite {c : Prop} [Decidable c] (h : Spared s t) (g : Spared s u) : Spared s (if c then t else u) := by
  split
  · exact h
  · exact g

end Spared

/-! ### The Load Budget Unit (Chapter 9) -/

/-- The record `k` is another owner's, or MOTOR while it waits or claims. -/
def Stirs (k : LoadKind) (s : State) : Prop := k = .motor → ¬ MotorRests s

theorem stirs_of_ne {k : LoadKind} (h : k ≠ .motor) : Stirs k s := fun e => absurd e h

theorem stirs_of_state {k : LoadKind} {x : LoadState} (h : (s.lbu.load k).state = x) (none : x ≠ .none := by decide)
    (held : x ≠ .held := by decide) : Stirs k s := by
  rintro rfl (rests | rests)
  · exact none (h.symm.trans rests)
  · exact held (h.symm.trans rests)

theorem modLoad_spares {k : LoadKind} (h : Stirs k s) (f : OwnLoad → OwnLoad) : Spared s (modLoad k f s) := by
  refine .of_motor (fun rests => ?_) rfl
  cases k
  · exact absurd rests (h rfl)
  all_goals rfl

/-- An act on the record `k` that leaves its state. -/
theorem restated_spares (k : LoadKind) (f : OwnLoad → OwnLoad) (s : State)
    (h : ∀ l, (f l).state = l.state := by exact fun _ => rfl) : Spared s (modLoad k f s) := by
  refine .of_motor (fun _ => ?_) rfl
  cases k
  · exact h _
  all_goals rfl

theorem announceChange_spares (s : State) : Spared s (announceChange s) := .of_eq

theorem sendRelease_spares (k : LoadKind) (q : Byte) (s : State) : Spared s (sendRelease k q s) := .of_eq

theorem removeClaim_spares (k : LoadKind) (q : Byte) (s : State) : Spared s (removeClaim k q s) := .of_eq

theorem grantLoad_spares {k : LoadKind} (h : Stirs k s) : Spared s (grantLoad k s) :=
  (modLoad_spares h _).trans (.of_eq (by simp) (congrArg (·.motor.state) (announceChange_lbu _)))

theorem testOne_spares (k : LoadKind) (s : State) : Spared s (testOne k s) := by
  by_cases waits : (s.lbu.load k).state = .waiting
  · refine .of_motor (fun rests => ?_)
    have other : k ≠ .motor := fun e => (stirs_of_state waits : Stirs k s) e rests
    exact congrArg OwnLoad.state (Queueing.testOne_other (Ne.symm other) s)
  · rw [testOne_settled waits]; exact .refl s

theorem testWaiting_spares (s : State) : Spared s (testWaiting s) :=
  (testOne_spares .motor s).trans ((testOne_spares .compressor _).trans (testOne_spares .heater _))

theorem testOthers_spares (k : LoadKind) (s : State) : Spared s (testOthers k s) :=
  have one (j : LoadKind) (u : State) : Spared u (if j = k then u else testOne j u) := .ite (.refl u) (testOne_spares j u)
  (one .motor s).trans ((one .compressor _).trans (one .heater _))

theorem testRecord_spares (k : LoadKind) (s : State) : Spared s (testRecord k s) :=
  .ite (testOne_spares k s) ((testOne_spares k s).trans (testOthers_spares k _))

theorem waitAgain_spares {k : LoadKind} (h : Stirs k s) : Spared s (waitAgain k s) := modLoad_spares h _

theorem retestQueued_spares (k : LoadKind) (s : State) : Spared s (retestQueued k s) := by
  unfold retestQueued
  dsimp only
  split
  · next queued =>
    exact (removeClaim_spares k _ s).trans (waitAgain_spares (stirs_of_state (s := removeClaim k _ s) queued.1))
  · exact .refl s

theorem tableChanged_spares (s : State) : Spared s (tableChanged s) :=
  (.of_eq rfl rfl : Spared s (clearHeldOff s)).trans
    ((retestQueued_spares .motor _).trans
      ((retestQueued_spares .compressor _).trans ((retestQueued_spares .heater _).trans (testWaiting_spares _))))

theorem afterTable_spares (before s : State) : Spared s (afterTable before s) := .ite (.refl s) (tableChanged_spares s)

theorem askLoad_spares {k : LoadKind} (other : k ≠ .motor) (c : ClaimClass) (a : Nat) (s : State) : Spared s (askLoad k c a s) :=
  .ite ((modLoad_spares (stirs_of_ne other) _).trans (testRecord_spares k _)) (.refl s)

theorem withdrawLoad_spares (k : LoadKind) (s : State) : Spared s (withdrawLoad k s) := by
  unfold withdrawLoad
  dsimp only
  split
  · next waits =>
    have cleared : Spared s (clearLoad k s) := modLoad_spares (stirs_of_state waits) _
    exact .ite (cleared.trans (testWaiting_spares _)) cleared
  · next queued =>
    refine .trans (.ite ?_ ?_) (testWaiting_spares _)
    · exact (modLoad_spares (stirs_of_state queued) _).trans (sendRelease_spares k _ _)
    · exact (removeClaim_spares k _ s).trans (modLoad_spares (stirs_of_state (s := removeClaim k _ s) queued) _)
  · next proposed =>
    exact ((modLoad_spares (stirs_of_state proposed) _).trans (sendRelease_spares k _ _)).trans (testWaiting_spares _)
  · exact .refl s
  · exact .refl s

theorem releaseLoad_spares {k : LoadKind} (other : k ≠ .motor) (s : State) : Spared s (releaseLoad k s) :=
  .ite (((modLoad_spares (stirs_of_ne other) _).trans (announceChange_spares _)).trans (testWaiting_spares _)) (.refl s)

theorem giveUp_spares {k : LoadKind} (other : k ≠ .motor) (s : State) : Spared s (giveUp k s) :=
  .ite (releaseLoad_spares other s) (withdrawLoad_spares k s)

theorem raiseClass_spares (k : LoadKind) (c : ClaimClass) (s : State) : Spared s (raiseClass k c s) := by
  unfold raiseClass
  extract_lets l stored
  have raised : Spared s stored := restated_spares k _ s
  split
  · exact raised
  · exact .ite raised (raised.trans .of_eq)
  · exact raised
  · exact .refl s
  · exact .refl s

theorem lowerAmount_spares (k : LoadKind) (a : Nat) (s : State) : Spared s (lowerAmount k a s) :=
  .ite (((restated_spares k _ s).trans (announceChange_spares _)).trans (testWaiting_spares _)) (.refl s)

theorem claimEnded_spares (k : LoadKind) (q : Byte) (completed : Bool) (s : State) : Spared s (claimEnded k q completed s) := by
  unfold claimEnded
  dsimp only
  split
  · next queued =>
    have stirs : Stirs k s := stirs_of_state queued.1
    exact .ite (modLoad_spares stirs _) ((waitAgain_spares stirs).trans (testWaiting_spares _))
  · exact .refl s

theorem decideProposed_spares {k : LoadKind} (proposed : (s.lbu.load k).state = .proposed) : Spared s (decideProposed k s) :=
  have stirs : Stirs k s := stirs_of_state proposed
  .ite ((grantLoad_spares stirs).trans (testWaiting_spares _))
    ((waitAgain_spares stirs).trans ((sendRelease_spares k _ _).trans (testOthers_spares k _)))

theorem takeObject_spares (kind q : Byte) (sum : Half) (s : State) : Spared s (takeObject kind q sum s) := by
  unfold takeObject
  extract_lets noted ignored
  have note : Spared s noted := .of_eq rfl rfl
  have ignore : Spared s ignored := .of_eq rfl rfl
  split
  · next k _ =>
    split
    · next proposed =>
      refine note.trans ((waitAgain_spares (stirs_of_state (s := noted) (k := k) (x := .proposed) ?_)).trans
        ((sendRelease_spares k _ _).trans ((restated_spares k _ _).trans (testOthers_spares k _))))
      cases k <;> exact proposed.1
    · exact ignore
  · exact ignore

theorem decideSolo_spares (k : LoadKind) (s : State) : Spared s (decideSolo k s) := by
  unfold decideSolo
  dsimp only
  split
  · next queued =>
    have stirs : Stirs k (removeClaim k (s.lbu.load k).sequence s) := stirs_of_state (s := removeClaim k _ s) queued
    refine (removeClaim_spares k _ s).trans (.ite (grantLoad_spares stirs) (.ite ?_ (waitAgain_spares stirs)))
    exact (waitAgain_spares stirs).trans (sendRelease_spares k _ _)
  · next proposed =>
    have stirs : Stirs k s := stirs_of_state proposed
    exact .ite (grantLoad_spares stirs) ((waitAgain_spares stirs).trans (sendRelease_spares k _ _))
  all_goals exact .refl s

theorem becomeIsolated_spares (s : State) : Spared s (becomeIsolated s) :=
  have decided := (decideSolo_spares .motor s).trans ((decideSolo_spares .compressor _).trans (decideSolo_spares .heater _))
  .ite (decided.trans (testWaiting_spares _)) decided

theorem queueStatus_spares (s : State) : Spared s (queueStatus s) := .of_eq

theorem noteIsolation_spares (was : Bool) (s : State) : Spared s (noteIsolation was s) :=
  have left : Spared s (leaveIsolated s) := (.of_eq rfl rfl : Spared s (clearHeldOff s)).trans (testWaiting_spares _)
  .ite (.refl s)
    (.ite ((becomeIsolated_spares s).trans (queueStatus_spares _)) (left.trans (queueStatus_spares _)))

/-! ### The Refrigeration Controller (Chapter 8) -/

theorem modRfc_spares (f : Rfc → Rfc) (s : State) : Spared s (s.modRfc f) := .of_eq rfl rfl

theorem testOff_spares (s : State) : Spared s (testOff s) :=
  .ite ((modRfc_spares _ s).trans (askLoad_spares (by decide) _ _ _)) (.refl s)

theorem endLockout_spares (s : State) : Spared s (endLockout s) := (modRfc_spares _ s).trans (testOff_spares _)

theorem withdrawWant_spares (s : State) : Spared s (withdrawWant s) := (modRfc_spares _ s).trans (withdrawLoad_spares .compressor _)

theorem endDutyWait_spares (s : State) : Spared s (endDutyWait s) := (modRfc_spares _ s).trans (withdrawWant_spares _)

theorem raiseWant_spares (s : State) : Spared s (raiseWant s) :=
  .ite ((modRfc_spares _ s).trans (raiseClass_spares .compressor .coolUrgent _)) (.refl s)

theorem endStart_spares (s : State) : Spared s (endStart s) := (modRfc_spares _ s).trans (lowerAmount_spares .compressor _ _)

theorem testStop_spares (s : State) : Spared s (testStop s) := by
  have opened (u : State) : Spared u (openRelay u) := by
    unfold openRelay
    extract_lets stopped released
    have release : Spared u released := (modRfc_spares _ u).trans (releaseLoad_spares (by decide) stopped)
    exact .ite (release.trans ((modRfc_spares _ _).trans (askLoad_spares (by decide) _ _ _))) (release.trans (modRfc_spares _ _))
  exact .ite ((.of_eq : Spared s (wholeSecond s)).trans (opened _)) (.refl s)

theorem testWant_spares (s : State) : Spared s (testWant s) :=
  .ite (.refl s) (.ite (withdrawWant_spares s) (.ite (endDutyWait_spares s) (.ite (raiseWant_spares s) (.refl s))))

theorem cabinetEvent_spares (s : State) : Spared s (cabinetEvent s) := by
  unfold cabinetEvent
  split
  · exact testOff_spares s
  · exact testWant_spares s
  · exact testStop_spares s
  all_goals exact .refl s

theorem endOnPhase_spares (s : State) : Spared s (endOnPhase s) := by
  unfold endOnPhase
  split
  · exact endDutyWait_spares s
  · exact testStop_spares s
  all_goals exact .refl s

theorem endHeaterWait_spares (s : State) : Spared s (endHeaterWait s) := (modRfc_spares _ s).trans (withdrawLoad_spares .heater _)

theorem endDefrost_spares (s : State) : Spared s (endDefrost s) := (modRfc_spares _ s).trans (giveUp_spares (by decide) _)

theorem evaporatorEvent_spares (s : State) : Spared s (evaporatorEvent s) := .ite (endDefrost_spares s) (.refl s)

theorem latchHotHold_spares (s : State) : Spared s (latchHotHold s) := .of_eq

end Sys2Proof.Machine.Vending
end


section
/-! PROOFS. What keeps the law of the vend: the operations of the Vend Sequencer itself (Chapters 5 and 6), the agenda of an event, and
the hearing of a frame. -/

namespace Sys2Proof.Machine.Vending

set_option Elab.async false

open Laws

variable {s t u : State}

theorem ite_law {c : Prop} [Decidable c] (yes : VendLaw s) (no : VendLaw t) : VendLaw (if c then s else t) := by
  split
  · exact yes
  · exact no

/-! ### What the law says of a state (TABLE 6-3) -/

/-- R116: the test in progress is TESTING's, with no vend beside it. -/
theorem testing_of (law : VendLaw s) {r : Test} (test : s.vsq.test = some r) : s.vsq.state = .testing ∧ s.vsq.vend = none := by
  have testing : s.vsq.state = .testing := law.test.mp (by rw [test]; rfl)
  refine ⟨testing, ?_⟩
  by_contra some_
  exact (law.vend.mp (Option.isSome_iff_ne_none.mpr some_)).2 testing

theorem no_test (law : VendLaw s) (state : s.vsq.state ≠ .testing) : s.vsq.test = none := by
  by_contra some_
  exact state (law.test.mp (Option.isSome_iff_ne_none.mpr some_))

/-- R96: with a vend in progress VSQ is neither IDLE nor TESTING, and holds no test. -/
theorem vending_of (law : VendLaw s) {v : Vend} (vend : s.vsq.vend = some v) :
    s.vsq.state ≠ .idle ∧ s.vsq.state ≠ .testing ∧ s.vsq.test = none := by
  obtain ⟨idle, testing⟩ := law.vend.mp (by rw [vend]; rfl)
  exact ⟨idle, testing, no_test law testing⟩

/-- R109, R116: IDLE as it is entered and left. -/
theorem law_idle (state : s.vsq.state = .idle) (vend : s.vsq.vend = none) (test : s.vsq.test = none)
    (motor : s.lbu.motor.state = .none) : VendLaw s where
  vend := by simp [vend, state]
  test := by simp [test, state]
  motor _ := motor
  held := by simp [state]
  turning _ h := by simp [vend] at h
  undecided _ h := by simp [vend] at h

/-- R108: SETTLING. -/
theorem law_settling {v : Vend} (state : s.vsq.state = .settling) (vend : s.vsq.vend = some v) (test : s.vsq.test = none)
    (off : v.motorOn = false) : VendLaw s where
  vend := by simp [vend, state]
  test := by simp [test, state]
  motor := by simp [state]
  held := by simp [state]
  turning w hw on := by
    obtain rfl := Option.some.inj (vend.symm.trans hw)
    rw [off] at on; cases on
  undecided _ _ h := absurd state h

/-- A vend that is not yet decided, in the state `x`. -/
theorem law_undecided {v : Vend} {x : VsqState} (state : s.vsq.state = x) (vend : s.vsq.vend = some v) (test : s.vsq.test = none)
    (open_ : Undecided v) (before : x ≠ .idle ∧ x ≠ .testing)
    (motor : x = .debiting → s.lbu.motor.state = .none) (held : x = .running ∨ x = .dropWait → s.lbu.motor.state = .held)
    (on : v.motorOn = true → x = .running) : VendLaw s where
  vend := by rw [vend, state]; simpa using before
  test := by rw [test, state]; simpa using before.2
  motor h := by
    rw [state] at h
    exact motor (h.resolve_left before.1)
  held h := by rw [state] at h; exact held h
  turning w hw h := by
    obtain rfl := Option.some.inj (vend.symm.trans hw)
    exact state.trans (on h)
  undecided w hw _ := by
    obtain rfl := Option.some.inj (vend.symm.trans hw)
    exact open_

/-- R99, R100, R115: in CLAIMING, SETTLING and TESTING the MOTOR record may be in any state. -/
theorem law_reloaded (law : VendLaw s) (free : s.vsq.state = .claiming ∨ s.vsq.state = .settling ∨ s.vsq.state = .testing)
    (vsq : t.vsq = s.vsq := by simp) : VendLaw t where
  vend := vsq ▸ law.vend
  test := vsq ▸ law.test
  motor h := by rw [vsq] at h; rcases free with e | e | e <;> rw [e] at h <;> simp at h
  held h := by rw [vsq] at h; rcases free with e | e | e <;> rw [e] at h <;> simp at h
  turning := vsq ▸ law.turning
  undecided := vsq ▸ law.undecided

/-- A change of the vend that sets no motor running and decides nothing. -/
theorem modVend_law (law : VendLaw s) (f : Vend → Vend) (off : ∀ v, (f v).motorOn = true → v.motorOn = true := by exact fun _ => id)
    (open_ : ∀ v, Undecided v → Undecided (f v) := by exact fun _ => id) : VendLaw (modVend f s) :=
  vendLaw_carry law f rfl rfl rfl (fun _ => rfl) off fun _ => open_

theorem modTest_law (law : VendLaw s) (f : Test → Test) : VendLaw (modTest f s) :=
  vendLaw_carry law id rfl (by simp [modTest, State.modVsq]) (by simp [modTest, State.modVsq]) (fun _ => rfl) (fun _ => id) fun _ _ => id

/-- R91: in SETTLING the settlement may change. -/
theorem modVend_settling (law : VendLaw s) (state : s.vsq.state = .settling) (f : Vend → Vend)
    (off : ∀ v, (f v).motorOn = true → v.motorOn = true := by exact fun _ => id) : VendLaw (modVend f s) :=
  vendLaw_carry law f rfl rfl rfl (fun _ => rfl) off fun h => absurd state h

theorem spared_law (law : VendLaw s) (vsq : t.vsq = s.vsq := by simp) (motor : t.lbu.motor.state = s.lbu.motor.state := by simp) :
    VendLaw t := (Spared.of_eq vsq motor).law law

/-- The slots, the queue, and the parts of other units play no part in the law. -/
theorem unread_law (law : VendLaw s) (state : t.vsq.state = s.vsq.state := by rfl) (vend : t.vsq.vend = s.vsq.vend := by rfl)
    (test : t.vsq.test = s.vsq.test := by rfl) (motor : t.lbu.motor.state = s.lbu.motor.state := by rfl) : VendLaw t :=
  Spared.law ⟨state, vend, test, fun _ => motor⟩ law

theorem modSlot_law (n : Nat) (f : Slot → Slot) (law : VendLaw s) : VendLaw (modSlot n f s) := unread_law law

theorem writeStaging_law (p : Option Pair) (law : VendLaw s) : VendLaw (writeStaging p s) := unread_law law

theorem modTotals_law (f : AuditTotals → AuditTotals) (law : VendLaw s) : VendLaw (s.modTotals f) := unread_law law

theorem leaveHome_law (n : Nat) (law : VendLaw s) : VendLaw (leaveHome n s) := modSlot_law n _ law

theorem emptyQueue_law (o : VendOutcome) (law : VendLaw s) : VendLaw (emptyQueue o s) := by
  have answered (l : List Selection) {u : State} (h : VendLaw u) : VendLaw (l.foldl (fun t r => answerPanel r o 0 t) u) := by
    induction l generalizing u with
    | nil => exact h
    | cons r l ih => exact ih (spared_law h)
  exact unread_law (answered s.vsq.queue law)

/-! ### The outcome decision and the end (R108, R109, R116) -/

theorem tryLeave_law (law : VendLaw s) : VendLaw (tryLeave s) := by
  rcases tryLeave_cases s with e | ⟨v, vend, -, -, motor, e⟩ <;> rw [e]
  · exact law
  · refine law_idle rfl rfl ?_ ?_
    · show (answerPanel _ _ _ s).vsq.test = _
      rw [answerPanel_vsq]
      exact (vending_of law vend).2.2
    · show (answerPanel _ _ _ s).lbu.motor.state = _
      rwa [answerPanel_lbu]

/-- R109: a vend that is over leaves no MOTOR load. -/
theorem decideOutcome_idle {o : VendOutcome} {c : EndCause} {v : Vend} (vend : s.vsq.vend = some v)
    (idle : (decideOutcome o c s).vsq.state = .idle) : (decideOutcome o c s).lbu.motor.state = .none := by
  have decided := Deciding.decideOutcome_decided (o := o) (c := c) vend
  rw [decided] at idle ⊢
  rw [tryLeave_lbu_motor]
  rcases tryLeave_cases (settleVend v o (Deciding.decided o c v s)) with e | ⟨-, -, -, -, motor, -⟩
  · rw [e, settleVend_vsq_state, Deciding.decided_vsq] at idle
    cases idle
  · exact motor

theorem decideOutcome_law (o : VendOutcome) (c : EndCause) (law : VendLaw s) : VendLaw (decideOutcome o c s) := by
  cases vend : s.vsq.vend with
  | none => unfold decideOutcome; rw [vend]; exact law
  | some v =>
    have leaves : Deciding.DecisionLeaves o c v s _ := Deciding.decideOutcome_leaves vend
    have test : (decideOutcome o c s).vsq.test = none := (decideOutcome_vsq_test o c s).trans (vending_of law vend).2.2
    rcases leaves.ends with ⟨w, stands, settling, -, -, -, off, -⟩ | ⟨gone, idle⟩
    · exact law_settling settling stands test off
    · exact law_idle idle gone test (decideOutcome_idle vend idle)

theorem finishTest_law (law : VendLaw s) : VendLaw (finishTest s) := by
  unfold finishTest
  split
  · next r test =>
    split
    · split
      · next ends =>
        refine law_idle rfl ?_ rfl ?_
        · show (send _ s).vsq.vend = _
          rw [send_vsq]
          exact (testing_of law test).2
        · show (send _ s).lbu.motor.state = _
          rw [send_lbu]
          exact ends.2
      · exact law
    · exact law
  · exact law

theorem endTest_law {e : Test} (r : TestResult) (law : VendLaw s) (test : s.vsq.test = some e) : VendLaw (endTest r s) := by
  have ended : VendLaw (writeStaging none (modTest
      (fun t => { t with result := some r, motorOn := false, budgetTimer := none, jamTimer := none }) s)) :=
    writeStaging_law none (modTest_law law _)
  exact finishTest_law (law_reloaded ended (.inr (.inr (testing_of law test).1)))

/-! ### Claiming and turning (R99, R101, R102, R106) -/

/-- R96, R99: a vend that has not asked for the MOTOR load. -/
structure Begins (s : State) : Prop where
  vend : ∃ v, s.vsq.vend = some v ∧ Undecided v ∧ v.motorOn = false
  test : s.vsq.test = none
  motor : s.lbu.motor.state = .none

theorem Begins.modVend (b : Begins s) (f : Vend → Vend) (off : ∀ v, (f v).motorOn = v.motorOn := by exact fun _ => rfl)
    (open_ : ∀ v, Undecided v → Undecided (f v) := by exact fun _ => id) : Begins (modVend f s) := by
  obtain ⟨v, vend, undecided, on⟩ := b.vend
  exact ⟨⟨f v, congrArg (Option.map f) vend, open_ v undecided, (off v).trans on⟩, b.test, b.motor⟩

theorem begins_of (law : VendLaw s) (state : s.vsq.state = .debiting) : Begins s := by
  obtain ⟨v, vend⟩ := Option.isSome_iff_exists.mp (law.vend.mpr (by simp [state]))
  refine ⟨⟨v, vend, law.undecided v vend (by simp [state]), ?_⟩, (vending_of law vend).2.2, law.motor (.inr state)⟩
  by_contra on
  cases state.symm.trans (law.turning v vend (by simpa using on))

theorem Begins.law (b : Begins s) {x : VsqState} (state : s.vsq.state = x) (early : x = .debiting ∨ x = .claiming) : VendLaw s := by
  obtain ⟨v, vend, undecided, off⟩ := b.vend
  refine law_undecided state vend b.test undecided ?_ (fun _ => b.motor) (fun h => ?_) (fun on => ?_)
  · rcases early with rfl | rfl <;> exact ⟨nofun, nofun⟩
  · rcases early with rfl | rfl <;> rcases h with h | h <;> cases h
  · rw [off] at on; cases on

theorem enterClaiming_law (b : Begins s) : VendLaw (enterClaiming s) :=
  have claims : Begins (setVsq .claiming s) := ⟨b.vend, b.test, b.motor⟩
  law_reloaded ((claims.modVend fun v => { v with budgetTimer := some 0, asked := none }).law rfl (.inr rfl)) (.inl rfl)
    (askLoad_vsq ..)

theorem startMotor_law (n : Nat) (x : Slot) (law : VendLaw s) (state : s.vsq.state = .claiming) (held : motorHeld s = true) :
    VendLaw (startMotor n x s) := by
  obtain ⟨v, vend⟩ := Option.isSome_iff_exists.mp (law.vend.mpr (by simp [state]))
  have undecided : Undecided v := law.undecided v vend (by simp [state])
  exact law_undecided (x := .running) rfl (congrArg (Option.map _) vend) (vending_of law vend).2.2 undecided ⟨nofun, nofun⟩ nofun
    (fun _ => beq_iff_eq.mp held) (fun _ => rfl)

theorem stopMotor_law (law : VendLaw s) : VendLaw (stopMotor s) :=  by
  exact writeStaging_law none (modVend_law law (fun v => { v with motorOn := false, jamTimer := none }) (by simp))

/-- R102, R103, R111: from RUNNING the vend waits for a drop, its motor stopped. -/
theorem enterDropWait_law (law : VendLaw s) (state : s.vsq.state = .running) (off : ∀ v, s.vsq.vend = some v → v.motorOn = false) :
    VendLaw (enterDropWait s) := by
  obtain ⟨v, vend⟩ := Option.isSome_iff_exists.mp (law.vend.mpr (by simp [state]))
  have undecided : Undecided v := law.undecided v vend (by simp [state])
  exact law_undecided (x := .dropWait) rfl (congrArg (Option.map _) vend) (vending_of law vend).2.2 undecided ⟨nofun, nofun⟩ nofun
    (fun _ => law.held (.inl state)) (fun on => by cases (off v vend).symm.trans on)

theorem stopMotor_off {v : Vend} (h : (stopMotor s).vsq.vend = some v) : v.motorOn = false := by
  obtain ⟨w, -, rfl⟩ := Option.map_eq_some_iff.mp (show s.vsq.vend.map _ = some v from h)
  rfl

theorem extraTurn_law (n : Nat) (law : VendLaw s) (state : s.vsq.state = .dropWait) : VendLaw (extraTurn n s) := by
  obtain ⟨v, vend⟩ := Option.isSome_iff_exists.mp (law.vend.mpr (by simp [state]))
  have undecided : Undecided v := law.undecided v vend (by simp [state])
  exact law_undecided (x := .running) rfl (congrArg (Option.map _) vend) (vending_of law vend).2.2 undecided ⟨nofun, nofun⟩ nofun
    (fun _ => law.held (.inr state)) (fun _ => rfl)

/-! ### Payment and the head record (R86 to R89, R97) -/

theorem endUnpaid_law (o : VendOutcome) (law : VendLaw s) : VendLaw (endUnpaid o s) := decideOutcome_law o .debit (modVend_law law _)

theorem askDebit_law (v : Vend) (n : Byte) (x : Option Half) (retry : Bool) (law : VendLaw s) : VendLaw (askDebit v n x retry s) := by
  have asked : VendLaw (request (.debit v.selection.creditStation n v.price (nextTag s) x) (takeTag s)).1 :=
    spared_law (unread_law law : VendLaw (takeTag s))
  exact ite_law (modVend_law asked _) (endUnpaid_law .paymentUnreachable asked)

theorem debitGranted_law (tag n : Byte) (law : VendLaw s) (state : s.vsq.state = .debiting) : VendLaw (debitGranted tag n s) :=
  enterClaiming_law ((begins_of law state).modVend _)

theorem actOnDebit_law (v : Vend) (a : Asked) (o : DebitOutcome) (b : Option Nat) (x : Option Half) (law : VendLaw s)
    (state : s.vsq.state = .debiting) : VendLaw (actOnDebit v a o b x s) :=
  ite_law (debitGranted_law _ _ law state) (ite_law (askDebit_law v _ _ _ law) (endUnpaid_law _ law))

theorem enterDebiting_law (v : Vend) (b : Begins s) : VendLaw (enterDebiting v s) := by
  have debits (p : Payment) : VendLaw (modVend (fun v => { v with payment := p }) (setVsq .debiting s)) :=
    ((⟨b.vend, b.test, b.motor⟩ : Begins (setVsq .debiting s)).modVend fun v => { v with payment := p }).law rfl (.inl rfl)
  unfold enterDebiting debitAtHome
  extract_lets tag c r
  have taken : VendLaw r.1 := spared_law (s := takeTag _) (unread_law (debits .own)) (takeDebit_vsq ..)
    (congrArg (·.motor.state) (takeDebit_lbu ..))
  have state : r.1.vsq.state = .debiting := congrArg Vsq.state (takeDebit_vsq ..)
  exact ite_law (ite_law (debitGranted_law _ _ taken state) (endUnpaid_law _ taken)) (askDebit_law v _ _ _ (debits .remote))

theorem startVend_law (r : Selection) (p : Nat) (law : VendLaw s) (state : s.vsq.state = .idle) : VendLaw (startVend r p s) := by
  have begins : Begins (s.modVsq fun q => { q with vend := some (newVend r p) }) :=
    ⟨⟨newVend r p, rfl, ⟨rfl, rfl, rfl, rfl⟩, rfl⟩, no_test (s := s) law (by simp [state]), law.motor (.inl state)⟩
  exact ite_law (enterClaiming_law begins) (enterDebiting_law _ begins)

theorem takeHead_law (law : VendLaw s) : VendLaw (takeHead s) := by
  unfold takeHead
  split
  · next idle =>
    split
    · exact law
    · next r rest _ =>
      have taken : VendLaw (s.modVsq fun q => { q with queue := rest }) := unread_law law
      split
      · exact spared_law taken (by simp [signal]) (by simp [signal])
      · exact startVend_law r _ taken idle
  · exact law

/-! ### Grants and the agenda -/

theorem startTestMotor_law (n : Nat) (home : Bool) (law : VendLaw s) : VendLaw (startTestMotor n home s) :=
  modSlot_law n _ (writeStaging_law _ (modTest_law law _))

theorem motorGranted_law (law : VendLaw s) : VendLaw (motorGranted s) := by
  unfold motorGranted
  split
  · next held =>
    split
    · next state _ =>
      split
      · exact ite_law (decideOutcome_law _ _ law) (startMotor_law _ _ law state held)
      · exact law
    · split
      · exact ite_law (startTestMotor_law _ _ law) law
      · exact law
    · exact law
  · exact law

theorem takeSignal_law (g : Signal) (law : VendLaw s) : VendLaw (takeSignal g s) := by
  unfold takeSignal
  split
  · exact motorGranted_law law
  · exact spared_law law
  · exact spared_law law
  · exact takeHead_law law

theorem runAgenda_law (law : VendLaw s) : VendLaw (runAgenda s) := by
  have any (n : Nat) {u : State} (law : VendLaw u) : VendLaw (runAgendaFor n u) := by
    induction n generalizing u with
    | zero => exact law
    | succ n ih =>
      unfold runAgendaFor
      split
      · exact law
      · exact ih (takeSignal_law _ (unread_law law))
  exact any 32 law

/-! ### What reaches the vend or the test in progress -/

theorem takeCamPulse_law (law : VendLaw s) : VendLaw (takeCamPulse s) := by
  unfold takeCamPulse
  split
  · next v vend =>
    split
    · next turns =>
      have counted := modVend_law law fun v => { v with pulses := v.pulses - 1, jamTimer := some 0 }
      exact ite_law (ite_law (decideOutcome_law _ _ (stopMotor_law counted))
        (enterDropWait_law (stopMotor_law counted) (law.turning v vend turns.1) fun _ => stopMotor_off)) counted
    · exact law
  · next e _ test =>
    split
    · have counted := modTest_law law fun t => { t with pulses := t.pulses - 1, jamTimer := some 0 }
      exact ite_law (endTest_law _ counted (congrArg (Option.map _) test)) counted
    · exact law
  · exact law

theorem takeJam_law (law : VendLaw s) : VendLaw (takeJam s) := by
  unfold takeJam
  split
  · next v vend =>
    split
    · next turns =>
      extract_lets n s1 s2 s3
      have stopped : VendLaw s1 := stopMotor_law (modVend_law law _)
      have marked : VendLaw s3 := unread_law stopped
      exact ite_law (decideOutcome_law _ _ marked)
        (enterDropWait_law marked (law.turning v vend turns) fun _ h => stopMotor_off (s := modVend _ s) h)
    · exact law
  · next e _ test =>
    exact ite_law (endTest_law _ (leaveHome_law _ law) test) law
  · exact law

theorem takeMotorOpen_law (law : VendLaw s) : VendLaw (takeMotorOpen s) := by
  unfold takeMotorOpen
  split
  · exact ite_law (decideOutcome_law _ _ (modSlot_law _ _ (stopMotor_law law))) law
  · next test => exact ite_law (endTest_law _ (leaveHome_law _ law) test) law
  · exact law

theorem takeDrop_law (law : VendLaw s) : VendLaw (takeDrop s) := by
  unfold takeDrop
  dsimp only
  split
  · have seen := modVend_law law fun v => { v with dropSeen := true, windowArmed := false }
    exact ite_law (ite_law (decideOutcome_law _ _ seen) seen) (modTotals_law _ law)
  · exact modTotals_law _ law

theorem endWindow_law (v : Vend) (law : VendLaw s) (state : s.vsq.state = .dropWait) : VendLaw (endWindow v s) := by
  have ended := modVend_law law fun v => { v with windowArmed := false, windowTimer := none }
  exact ite_law (extraTurn_law _ ended state)
    (ite_law (decideOutcome_law _ _ ended) (ite_law (decideOutcome_law _ _ ended) (decideOutcome_law _ _ ended)))

theorem doorAtVend_law (law : VendLaw s) : VendLaw (doorAtVend s) := by
  unfold doorAtVend
  split
  · exact law
  · split
    · exact decideOutcome_law _ _ law
    · exact decideOutcome_law _ _ law
    · next v _ _ running =>
      have stopped := modVend_law (leaveHome_law v.selection.slot (stopMotor_law law))
        fun v => { v with extraLeft := 0, doorOpened := true, doorStop := true }
      refine ite_law (decideOutcome_law _ _ stopped) (enterDropWait_law stopped running fun w h => ?_)
      obtain ⟨x, hx, rfl⟩ := Option.map_eq_some_iff.mp (show (stopMotor s).vsq.vend.map _ = some w from h)
      exact (stopMotor_off (s := s) hx : x.motorOn = false)
    · exact modVend_law law _
    all_goals exact law

theorem allOffReported_law (law : VendLaw s) : VendLaw (allOffReported s) := by
  have released (free : s.vsq.state = .settling ∨ s.vsq.state = .testing) :
      VendLaw (if motorHeld s then releaseLoad .motor s else s) := ite_law (law_reloaded law (.inr free)) law
  unfold allOffReported
  split
  · next settling => exact tryLeave_law (released (.inl settling))
  · next testing _ => exact ite_law (finishTest_law (released (.inr testing))) law
  · exact law

theorem faultAtVend_law (law : VendLaw s) : VendLaw (faultAtVend s) := by
  have emptied := emptyQueue_law .outOfService law
  unfold faultAtVend
  dsimp only
  split
  · exact decideOutcome_law _ _ emptied
  · exact decideOutcome_law _ _ emptied
  · exact decideOutcome_law _ _ (leaveHome_law _ (stopMotor_law emptied))
  · exact decideOutcome_law _ _ emptied
  · split
    · next test => exact ite_law (allOffReported_law emptied) (endTest_law _ emptied test)
    · exact emptied
  · exact allOffReported_law emptied
  · exact emptied

theorem lossOfCold_law (law : VendLaw s) : VendLaw (lossOfCold s) := by
  unfold lossOfCold
  split
  · exact ite_law (decideOutcome_law _ _ law) law
  · next test => exact ite_law (endTest_law _ law test) law
  · exact law

theorem saleEvent_law (law : VendLaw s) : VendLaw (saleEvent s) :=
  have evaluated : VendLaw (evaluateSale s) := unread_law law
  ite_law (lossOfCold_law evaluated) evaluated

/-! ### The address conflict and the hearing of a frame (R148, R164, R171) -/

theorem takeConflict_law (law : VendLaw s) : VendLaw (takeConflict s) :=
  have listens : VendLaw (enterListenOnly s) := unread_law law
  ite_law law (runAgenda_law (unread_law (ite_law listens ((becomeIsolated_spares _).law listens))))

theorem afterHearing_spares (listed : Bool) (before s : State) : Spared s (afterHearing listed before s) :=
  .ite (.ite (tableChanged_spares s) (afterTable_spares before s)) (noteIsolation_spares _ s)

/-- An act that keeps the law of the vend. -/
def KeepsVend (f : State → State) : Prop := ∀ ⦃u : State⦄, VendLaw u → VendLaw (f u)

theorem keepsVend_of_spared {f : State → State} (h : ∀ u, Spared u (f u)) : KeepsVend f := fun u law => (h u).law law

/-! ### Time -/

theorem elapse_law (d : Nat) (law : VendLaw s) : VendLaw (elapse d s) := by
  rcases elapse_cases d s with e | e <;> rw [e]
  · exact law
  · refine vendLaw_carry law _ rfl rfl ?_ (fun _ => rfl) (fun _ => id) fun _ v h => ?_
    · simp [advance, Vsq.later]
    · obtain ⟨outcome, cause, settling, settled⟩ := h
      exact ⟨outcome, cause, by simp [settling], settled⟩

theorem reach_law (limit now : Nat) (law : VendLaw s) : VendLaw (reach limit now s) := elapse_law _ law

section Frames
variable {f : State → State} (hf : KeepsVend f)
include hf

theorem running_law : KeepsVend (running f) := fun _ law => ite_law (hf law) law

theorem receiving_law : KeepsVend (receiving f) := fun _ law => ite_law law (hf law)

theorem directed_law (dst : Station) : KeepsVend (directed dst f) := fun _ law => ite_law (hf law) law

theorem onTimer_law (timer : Option Nat) (limit : Nat) : KeepsVend (onTimer timer limit f) := fun _ law => by
  unfold onTimer
  split
  · exact runAgenda_law (hf (reach_law _ _ law))
  · exact law

theorem hearWith_law (src : Station) {act : State → State} (ha : KeepsVend act) (listed : Bool) :
    KeepsVend (hearWith src act listed f) := fun s law => by
  rcases hearWith_cases src act listed f s with ⟨-, e⟩ | ⟨-, -, e⟩ | ⟨-, -, e⟩ <;> rw [e]
  · exact law
  · exact takeConflict_law (unread_law law)
  · have noted : VendLaw (noteSource src (acknowledge (s.lnk.state == .active) s)) := spared_law law
    exact runAgenda_law (hf (runAgenda_law ((afterHearing_spares listed _ _).law (ha noted))))

theorem hear_law (src : Station) : KeepsVend (hear src f) := hearWith_law hf src (fun _ => id) false

theorem serve_law (h : ServiceHead) : KeepsVend (serve h f) := by
  refine hear_law (fun u law => ?_) h.source
  split
  · exact directed_law hf h.dest law
  · exact unread_law law

/-- A filtered change that is an event from the end of the reconciliation onward. -/
theorem inputEvent_law (g : Inputs → Inputs) : KeepsVend fun u => running f (u.modInputs g) := fun _ law =>
  running_law hf (unread_law law)

theorem event_law {s t : State} (law : VendLaw s) (h : event f s = .next t) : VendLaw t := by
  obtain rfl := Host.Outcome.next.inj h
  exact unread_law (hf (unread_law law : VendLaw (openEvent s)))

end Frames

end Sys2Proof.Machine.Vending
end

section
/-! PROOFS. What keeps the law of the vend: every command, and with it every step (R96, R99, R100, R108, R109, R116, TABLE 6-3). -/

namespace Sys2Proof.Machine.Vending

set_option Elab.async false

open Laws

variable {s t u : State}

/-! ### Coins, credit, the payout and the service door (Chapters 1 to 4) -/

theorem coinReport_spares (code : Nat) (s : State) : Spared s (coinReport code s) := by
  have taken (c : CoinType) : Spared s (takeCoin code c s) := by
    unfold takeCoin
    split
    · next i _ => exact .of_eq (by simp [routeToTube, setRoute]) (by simp [routeToTube, setRoute])
    · exact .ite (.trans (.of_eq rfl rfl : Spared s (routeToCashbox c.value s)) .of_eq) (.of_eq rfl rfl)
  unfold coinReport
  refine .ite (.refl s) (.ite (.of_eq rfl rfl) (.ite (.of_eq rfl rfl) ?_))
  split
  · exact taken _
  · exact .of_eq rfl rfl

theorem reconcileTube_spares (i : Nat) (s : State) : Spared s (reconcileTube i s) :=
  .of_eq (changeTube_vsq ..) (congrArg (·.motor.state) (changeTube_lbu ..))

theorem endRouting_law : KeepsVend endRouting := fun s law => by
  unfold endRouting
  split
  · exact unread_law (reach_law _ _ law)
  · exact law

theorem takeDoorOpening_law : KeepsVend takeDoorOpening := fun _ law =>
  runAgenda_law ((queueStatus_spares _).law (doorAtVend_law (emptyQueue_law .doorOpen law)))

theorem endSave_spares (ending : SaveEnd) (s : State) : Spared s (endSave ending s) := .of_eq

theorem askSave_spares (s : State) : Spared s (askSave s) := .of_eq

theorem takeDoorClosing_spares (s : State) : Spared s (takeDoorClosing s) :=
  (askSave_spares s).trans (queueStatus_spares _)

theorem send_spares (f : Frame) (s : State) : Spared s (send f s) := .of_eq

theorem answerDebit_spares (src : Station) (n : Byte) (a : Nat) (tag : Byte) (x : Option Half) (s : State) :
    Spared s (answerDebit src n a tag x s) :=
  .ite (.refl s) ((.of_eq : Spared s (takeDebit src n a tag x s).1).trans (send_spares _ _))

theorem answerSettle_spares (src : Station) (tag n : Byte) (r : SettleResult) (s : State) : Spared s (answerSettle src tag n r s) :=
  (.of_eq : Spared s (takeSettle src tag n r s).1).trans (send_spares _ _)

theorem endOldHold_law : KeepsVend endOldHold := fun s law => by
  unfold endOldHold
  split
  · next h _ => exact spared_law (reach_law Config.holdTime h.age law)
  · exact law

theorem endRefresh_law : KeepsVend endRefresh := fun s law => by
  unfold endRefresh
  split
  · next n _ => exact spared_law (reach_law (refreshLimit s.cru) n law)
  · exact law

theorem endIdleTime_law : KeepsVend endIdleTime := fun s law => by
  unfold endIdleTime
  split
  · next n _ => exact ite_law (spared_law (reach_law (s.params.idleTime * 1000) n law)) law
  · exact law

theorem endPulse_law : KeepsVend endPulse := fun s law => by
  unfold endPulse
  split
  · exact unread_law (reach_law _ _ law)
  · exact law

theorem endPayoutWindow_law : KeepsVend endPayoutWindow := fun s law => by
  unfold endPayoutWindow
  split
  · next w _ _ => exact spared_law (reach_law Config.payoutWindow w law)
  · exact law

theorem exitCleared_spares (s : State) : Spared s (exitCleared s) := by
  unfold exitCleared
  split
  · exact .of_eq
  · exact .refl s

theorem endClearTime_law : KeepsVend endClearTime := fun s law => by
  unfold endClearTime
  split
  · next n _ => exact spared_law (reach_law Config.clearTime n law)
  · exact law

theorem ageOutEntry_law (st : Station) : KeepsVend (ageOutEntry st) := fun s law => by
  unfold ageOutEntry
  split
  · exact unread_law (reach_law _ _ law)
  · exact law

/-! ### Selections, debit and settlement as requester (R81 to R92) -/

theorem takeSelect_spares (panel : Station) (tag : Byte) (slot credit : Nat) (s : State) :
    Spared s (takeSelect panel tag slot credit s) := by
  have joined (r : Selection) : Spared s (joinQueue r s) := by
    have queued : Spared s (s.modVsq fun q => { q with queue := q.queue ++ [r] }) := ⟨rfl, rfl, rfl, fun _ => rfl⟩
    have answered := queued.trans (send_spares (.vendStatus r.panel r.tag .accepted none (some (s.vsq.queue ++ [r]).length)) _)
    exact .ite (answered.trans .of_eq) answered
  unfold takeSelect
  refine .ite (.refl s) ?_
  dsimp only
  split
  · exact .of_eq
  · exact joined _

theorem repeatDebit_law (v : Vend) (a : Asked) : KeepsVend (repeatDebit v a) := fun _ law =>
  ite_law (ite_law (modVend_law (spared_law law) _) (endUnpaid_law _ law)) (endUnpaid_law _ law)

theorem endAnswerTime_law : KeepsVend endAnswerTime := fun s law => by
  unfold endAnswerTime
  split
  · split
    · exact runAgenda_law (repeatDebit_law _ _ (reach_law _ _ law))
    · exact law
  · exact law

theorem takeDebitAnswer_law (src : Station) (tag : Byte) (o : DebitOutcome) (b x : Option Half) :
    KeepsVend (takeDebitAnswer src tag o b x) := fun s law => by
  unfold takeDebitAnswer
  split
  · split
    · split
      · next asked => exact actOnDebit_law _ _ o _ x law asked.1
      · exact law
    · exact law
  · exact law

/-- R91: a vend with its settlement open is in SETTLING. -/
theorem settling_of (law : VendLaw s) {v : Vend} (vend : s.vsq.vend = some v) {a : Settling} (asked : v.settling = some a) :
    s.vsq.state = .settling := by
  by_contra early
  cases asked.symm.trans (law.undecided v vend early).2.2.1

theorem settlementEnded_law (r : SettleResult) (o : Option SettleOutcome) (law : VendLaw s) (state : s.vsq.state = .settling) :
    VendLaw (tryLeave (settlementOver (countUnpaid r o s))) :=
  tryLeave_law (modVend_settling (spared_law law) (by simpa using state) _)

theorem repeatSettle_law (v : Vend) (a : Settling) (law : VendLaw s) (state : s.vsq.state = .settling) :
    VendLaw (repeatSettle v a s) :=
  ite_law (modVend_settling (spared_law law) (by simpa using state) _) (settlementEnded_law _ _ law state)

theorem endSettleTime_law : KeepsVend endSettleTime := fun s law => by
  unfold endSettleTime
  split
  · next v vend =>
    split
    · next asked =>
      exact runAgenda_law (repeatSettle_law v _ (reach_law _ _ law)
        ((Announcing.reach_vsq_state _ _ _).trans (settling_of law vend asked)))
    · exact law
  · exact law

theorem takeSettleAnswer_law (src : Station) (tag : Byte) (o : SettleOutcome) : KeepsVend (takeSettleAnswer src tag o) :=
  fun s law => by
    unfold takeSettleAnswer
    split
    · split
      · split
        · next settles => exact settlementEnded_law _ _ law settles.1
        · exact law
      · exact law
    · exact law

/-! ### The timers of the vend and of the test (R99, R102, R103, R106, R116) -/

theorem reach_test (limit now : Nat) {e : Test} (test : s.vsq.test = some e) : ∃ r, (reach limit now s).vsq.test = some r := by
  rcases elapse_cases (limit - now) s with eq | eq <;> rw [reach, eq]
  · exact ⟨e, test⟩
  · exact ⟨_, congrArg (Option.map _) test⟩

theorem endBudgetTime_law : KeepsVend endBudgetTime := fun s law => by
  unfold endBudgetTime
  split
  · split
    · exact runAgenda_law (decideOutcome_law _ _ (reach_law _ _ law))
    · exact law
  · next test =>
    split
    · obtain ⟨r, later⟩ := reach_test Config.budgetTime _ test
      exact runAgenda_law (endTest_law _ (reach_law _ _ law) later)
    · exact law
  · exact law

theorem takeCam_law : KeepsVend takeCam := fun s law => by
  unfold takeCam
  split
  · exact law
  · exact runAgenda_law (takeCamPulse_law (unread_law law))

theorem endJamTime_law : KeepsVend endJamTime := fun s law => by
  unfold endJamTime
  split
  · exact runAgenda_law (takeJam_law (reach_law _ _ law))
  · exact law

theorem endDropWindow_law : KeepsVend endDropWindow := fun s law => by
  unfold endDropWindow
  split
  · split
    · split
      · next state =>
        exact runAgenda_law (endWindow_law _ (reach_law _ _ law) ((Announcing.reach_vsq_state _ _ _).trans state))
      · exact law
    · exact law
  · exact law

/-! ### The drive and the sensors (Chapters 7 and 8) -/

theorem transfer_law : KeepsVend transfer := fun s law => by
  unfold transfer
  split
  · exact law
  · exact spared_law law
  · exact allOffReported_law (spared_law law)

theorem readbackStep_law (rows : BitVec 8) (cols : BitVec 10) : KeepsVend (readbackStep rows cols) := fun s law => by
  have read : VendLaw (readback rows cols s).1 := spared_law law
  unfold readbackStep
  dsimp only
  split
  · exact read
  · exact (queueStatus_spares _).law (faultAtVend_law (spared_law read))

theorem tickDrive_law (rows : BitVec 8) (cols cams : BitVec 10) : KeepsVend (tickDrive rows cols cams) := fun s law => by
  unfold tickDrive
  extract_lets moved ticked
  have time : VendLaw ticked := unread_law (reach_law Config.driveTick s.mxd.tick law)
  exact ite_law (runAgenda_law (readbackStep_law rows cols (transfer_law time))) time

theorem takeReport_law (r : CurrentReport) : KeepsVend (takeReport r) := fun _ law => by
  cases r
  · exact law
  · exact takeMotorOpen_law law
  · exact takeJam_law law

theorem sampleCurrent_law (reading : Byte) : KeepsVend (sampleCurrent reading) := fun s law => by
  unfold sampleCurrent
  split
  · exact ite_law (runAgenda_law (takeReport_law _ (unread_law (reach_law _ _ law)))) law
  · exact law

theorem sensorReaches_law (k : Sensor) : KeepsVend (sensorReaches k) := fun _ law => by
  cases k
  · exact runAgenda_law (saleEvent_law (runAgenda_law ((cabinetEvent_spares _).law law)))
  · exact runAgenda_law ((evaporatorEvent_spares _).law law)

theorem takeAverage_law (k : Sensor) (x : Vector (BitVec 10) 8) : KeepsVend (takeAverage k x) := fun s law => by
  unfold takeAverage
  extract_lets old c raw new updated shown
  have updates : VendLaw updated := unread_law (reach_law Config.averagingPeriod old.period law)
  have taken : VendLaw shown := ite_law updates ((queueStatus_spares _).law updates)
  exact ite_law (sensorReaches_law k taken) taken

theorem countSecond_law : KeepsVend countSecond := fun s law => ite_law (spared_law (reach_law 1000 s.rfc.second law)) law

/-! ### The load table and the own records (Chapter 9) -/

theorem ageOutPeer_law (st : Station) : KeepsVend (ageOutPeer st) := fun s law => by
  unfold ageOutPeer
  split
  · next e _ =>
    have later := reach_law Config.peerAge e.age law
    exact ite_law (runAgenda_law ((afterTable_spares _ _).law (ite_law (spared_law later) (spared_law later)))) law
  · exact law

theorem objectTo_spares (src : Station) (kind q : Byte) (s : State) : Spared s (objectTo src kind q s) := .ite .of_eq (.refl s)

theorem assumeClaim_law (st : Station) (kind : Byte) : KeepsVend (assumeClaim st kind) := fun s law => by
  unfold assumeClaim
  split
  · next c _ => exact spared_law (reach_law Config.assumedAge c.heardAge law)
  · exact law

theorem endHeldOff_law (k : LoadKind) : KeepsVend (endHeldOff k) := fun _ law =>
  ite_law (runAgenda_law (((restated_spares k _ _).trans (testRecord_spares k _)).law (reach_law _ _ law))) law

theorem retryClaim_law (k : LoadKind) : KeepsVend (retryClaim k) := fun _ law =>
  ite_law (runAgenda_law ((testRecord_spares k _).law (reach_law _ _ law))) law

theorem reach_load_state (k : LoadKind) (limit now : Nat) (s : State) :
    ((reach limit now s).lbu.load k).state = (s.lbu.load k).state := by
  rcases elapse_cases (limit - now) s with eq | eq <;> rw [reach, eq]
  cases k <;> rfl

theorem endSettleWindow_law (k : LoadKind) : KeepsVend (endSettleWindow k) := fun s law => by
  unfold endSettleWindow
  dsimp only
  split
  · split
    · next proposed =>
      exact runAgenda_law ((decideProposed_spares ((reach_load_state k _ _ s).trans proposed)).law (reach_law _ _ law))
    · exact law
  · exact law

/-! ### The link (R155, R164 to R171) -/

theorem reportEnding_spares (f : Frame) (completed : Bool) (s : State) : Spared s (reportEnding f completed s) := by
  unfold reportEnding
  split
  · exact claimEnded_spares _ _ completed s
  · exact .refl s

theorem attemptFailed_spares (e : TxEntry) (s : State) : Spared s (attemptFailed e s) :=
  have counted : Spared s (countFailure s) := .of_eq
  .ite (counted.trans .of_eq)
    (.ite (counted.trans .of_eq) ((counted.trans .of_eq).trans (reportEnding_spares e.frame false (dropFrame _))))

theorem attemptCompleted_spares (e : TxEntry) (s : State) : Spared s (attemptCompleted e s) := by
  have left : Spared s ((leaveQueue s).modLnk fun l => { l with failures := 0 }) :=
    (.of_eq : Spared s (leaveQueue s)).trans (.of_eq rfl rfl)
  exact left.trans (reportEnding_spares e.frame true _)

theorem checkFailures_spares (s : State) : Spared s (checkFailures s) :=
  .ite ((.of_eq rfl rfl : Spared s (s.modLnk _)).trans (noteIsolation_spares _ _)) (.refl s)

theorem endAttempt_law (ending : AttemptEnd) : KeepsVend (endAttempt ending) := fun s law => by
  unfold endAttempt
  split
  · exact law
  · next e _ =>
    exact runAgenda_law
      ((Spared.trans (.ite (attemptCompleted_spares e s) (attemptFailed_spares e s)) (checkFailures_spares _)).law law)

theorem endSilent_law : KeepsVend endSilent := fun s law => by
  unfold endSilent
  split
  · next n _ =>
    exact ite_law (runAgenda_law ((noteIsolation_spares true _).law (unread_law (reach_law Config.silentTime n law)))) law
  · exact law

theorem endPeriod_law : KeepsVend endPeriod := fun s law => by
  unfold endPeriod
  split
  · exact (queueStatus_spares _).law (reach_law _ _ law)
  · exact law

theorem endHearing_law : KeepsVend endHearing := fun s law =>
  ite_law
    (runAgenda_law ((noteIsolation_spares _ _).law (unread_law (reach_law Config.isolationTime s.lnk.isolationTimer law)))) law

/-! ### Start-up and restart (R175, R176) -/

theorem startStatus_spares (s : State) : Spared s (startStatus s) := .of_eq

theorem announceStart_spares (s : State) : Spared s (announceStart s) := (send_spares (.purge s.cru.session.number) s).trans (startStatus_spares _)

theorem probe_spares (s : State) : Spared s (probe s) := .of_eq

theorem finishPowerUp_law (l : InputLevels) : KeepsVend (finishPowerUp l) := fun _ law =>
  (announceStart_spares _).law ((probe_spares _).law (unread_law law))

theorem powerUpState_law (straps : Station) (p : ParamRead) (a : AuditRead) (s : State) : VendLaw (powerUpState straps p a s) :=
  law_idle rfl rfl rfl rfl

/-- R176: the restarted blocks keep the state and the records of the Vend Sequencer, and the load records. -/
theorem blocksRestarted_spares (straps : Station) (a : Applied) (s : State) : Spared s (Keeping.blocksRestarted straps a s) :=
  ⟨rfl, rfl, rfl, fun _ => rfl⟩

/-- R100, R176: only an IDLE Vend Sequencer is restarted, and its MOTOR record is NONE. -/
theorem giveUpMotor_of_idle (law : VendLaw s) (idle : s.vsq.state = .idle) : giveUp .motor s = s := by
  have none : s.lbu.motor.state = .none := law.motor (.inl idle)
  simp [giveUp, withdrawLoad, none]

theorem removePeer_spares (st : Station) (s : State) : Spared s (removePeer st s) := .of_eq

theorem restartLoad_law (before : State) (law : VendLaw s) (idle : s.vsq.state = .idle) : VendLaw (restartLoad before s) := by
  have compressor (u : State) : Spared u (restartCompressorLoad u) := by
    unfold restartCompressorLoad
    split
    · next queued =>
      exact (waitAgain_spares (stirs_of_ne (k := .compressor) (by decide))).trans (testRecord_spares .compressor _)
    · exact .refl u
  have table := (((giveUp_spares (k := .heater) (by decide) s).trans (compressor _)).trans
    (removePeer_spares s.ssu.own _)).trans (afterTable_spares before _)
  have tested := table.trans ((announceChange_spares _).trans (testWaiting_spares _))
  unfold restartLoad
  rw [giveUpMotor_of_idle law idle]
  exact ite_law (table.law law) (tested.law law)

theorem restartDrive_spares (a : Applied) (s : State) : Spared s (restartDrive a s) :=
  have restarted : Spared s (s.modMxd (restartMxd (if a.drives then .normal else .off))) := .of_eq rfl rfl
  .ite (restarted.trans (queueStatus_spares _)) restarted

theorem keepCooling_law : KeepsVend keepCooling := fun s law => by
  have lockout (u : State) : Spared u (restartLockout u) := .ite (endLockout_spares u) (.refl u)
  have longest (u : State) : Spared u (restartMaxDefrost u) := .ite (endDefrost_spares u) (.refl u)
  have warm (u : State) : Spared u (restartWarm u) := .ite (latchHotHold_spares u) (.refl u)
  have begun : VendLaw (restartDefrost s) := unread_law law
  exact (warm _).law (saleEvent_law ((longest _).law ((testStop_spares _).law ((lockout _).law begun))))

theorem restartCooling_law (a : Applied) : KeepsVend (restartCooling a) := fun s law => by
  have dropped : Spared s (dropCooling s) :=
    (giveUp_spares (k := .compressor) (by decide) s).trans
      ((giveUp_spares (k := .heater) (by decide) _).trans (modRfc_spares _ _))
  exact ite_law (ite_law ((modRfc_spares _ s).law law) law) (ite_law (keepCooling_law law) (dropped.law law))

theorem restartAll_law (straps : Station) (p : ParamRead) (law : VendLaw s) (idle : s.vsq.state = .idle) :
    VendLaw (restartAll straps p s) := by
  have drives := (blocksRestarted_spares straps (applyImage straps p) s).trans (restartDrive_spares (applyImage straps p) _)
  have cooled := restartCooling_law (applyImage straps p) (restartLoad_law s (drives.law law) (drives.state.trans idle))
  have noted := runAgenda_law ((noteIsolation_spares (isolated s) _).law (runAgenda_law cooled))
  rw [Keeping.restartAll_eq]
  exact (announceStart_spares _).law ((probe_spares _).law noted)

/-! ### The service requests (R177 to R179) -/

theorem answerTool_spares (tag : Byte) (r : ServiceResult) (data : List Byte) (s : State) : Spared s (answerTool tag r data s) :=
  .of_eq

theorem takeRequest_spares (tag : Byte) (r : Option ServiceResult) {act : State → State} (h : Spared s (act s)) :
    Spared s (takeRequest tag r act s) := by
  unfold takeRequest
  split
  · exact answerTool_spares _ _ _ s
  · exact h.trans (answerTool_spares _ _ _ _)

theorem readState_spares (tag : Byte) (args : List Byte) (s : State) : Spared s (readState tag args s) := by
  have answered (r : ServiceResult) (d : List Byte) := answerTool_spares tag r d s
  unfold readState
  split
  · refine .ite (answered _ _) ?_
    split
    · exact answered _ _
    · split <;> exact answered _ _
  · exact answered _ _

theorem readAudit_spares (tag : Byte) (args : List Byte) (s : State) : Spared s (readAudit tag args s) := by
  have answered (r : ServiceResult) (d : List Byte) := answerTool_spares tag r d s
  unfold readAudit
  split
  · split <;> exact answered _ _
  · exact answered _ _

theorem serveAuditClear_spares (tag : Byte) (args : List Byte) (s : State) : Spared s (serveAuditClear tag args s) :=
  takeRequest_spares tag _ (.trans (.of_eq rfl rfl : Spared s (s.modTotals fun _ => State.zeroTotals)) (askSave_spares _))

theorem setsSlot_spares (n : Nat) (f : Slot → Slot) (s : State) : Spared s (modSlot n f s) := ⟨rfl, rfl, rfl, fun _ => rfl⟩

theorem serveSetPrice_spares (tag : Byte) (args : List Byte) (s : State) : Spared s (serveSetPrice tag args s) := by
  unfold serveSetPrice
  split
  · exact takeRequest_spares tag _ (setsSlot_spares _ _ s)
  · exact answerTool_spares _ _ _ s

theorem serveSetSlot_spares (tag : Byte) (args : List Byte) (s : State) : Spared s (serveSetSlot tag args s) := by
  unfold serveSetSlot
  split
  · exact .ite (takeRequest_spares tag _ (setsSlot_spares _ _ s)) (answerTool_spares _ _ _ s)
  · exact answerTool_spares _ _ _ s

theorem serveSetStock_spares (tag : Byte) (args : List Byte) (s : State) : Spared s (serveSetStock tag args s) := by
  unfold serveSetStock
  split
  · exact .ite (takeRequest_spares tag _ (setsSlot_spares _ _ s)) (answerTool_spares _ _ _ s)
  · exact answerTool_spares _ _ _ s

theorem serveSetTube_spares (tag : Byte) (args : List Byte) (s : State) : Spared s (serveSetTube tag args s) := by
  unfold serveSetTube
  split
  · exact takeRequest_spares tag _ .of_eq
  · exact answerTool_spares _ _ _ s

theorem clearTarget_spares (tag target index : Byte) (s : State) : Spared s (clearTarget tag target index s) := by
  have answered {u : State} (r : ServiceResult) (d : List Byte) (h : Spared s u) : Spared s (answerTool tag r d u) :=
    h.trans (answerTool_spares _ _ _ u)
  unfold clearTarget
  refine .ite ?slot (.ite (.ite (answered _ _ .of_eq) (answered _ _ (.refl s)))
    (.ite (.ite (answered _ _ .of_eq) (answered _ _ (.refl s))) (.ite ?tube (answered _ _ (.refl s)))))
  case slot =>
    split
    · exact answered _ _ (.refl s)
    · exact answered _ _ (setsSlot_spares _ _ s)
  case tube =>
    split
    · exact answered _ _ (.refl s)
    · exact answered _ _ .of_eq

theorem serveClearFault_spares (tag : Byte) (args : List Byte) (s : State) : Spared s (serveClearFault tag args s) := by
  unfold serveClearFault
  split
  · exact clearTarget_spares tag _ _ s
  · exact answerTool_spares _ _ _ s

/-- R115: a motor test begins from IDLE alone. -/
theorem idle_of_testRefusal {slot : Byte} (h : testRefusal slot s = none) : s.vsq.state = .idle := by
  unfold testRefusal at h
  split at h
  · cases h
  · split at h
    · cases h
    · split at h
      · cases h
      · next idle => exact Decidable.not_not.mp idle

theorem beginTest_law (slot : Nat) (x : Slot) (tag : Byte) (st : Station) (law : VendLaw s) (idle : s.vsq.state = .idle) :
    VendLaw (beginTest slot x tag st s) := by
  have novend : s.vsq.vend = none := by
    by_contra some_
    exact (law.vend.mp (Option.isSome_iff_ne_none.mpr some_)).1 idle
  have tests (r : Test) : VendLaw (s.modVsq fun q => { q with state := .testing, test := some r }) :=
    { vend := by simp [State.modVsq, novend]
      test := by simp [State.modVsq]
      motor := by simp [State.modVsq]
      held := by simp [State.modVsq]
      turning := fun w hw => by cases novend.symm.trans hw
      undecided := fun w hw => by cases novend.symm.trans hw }
  exact ite_law (endTest_law _ (tests _) rfl) (ite_law (endTest_law _ (tests _) rfl)
    (law_reloaded (modTest_law (tests _) fun t => { t with budgetTimer := some 0 }) (.inr (.inr rfl)) (askLoad_vsq ..)))

theorem serveTestMotor_law (tag : Byte) (args : List Byte) : KeepsVend (serveTestMotor tag args) := fun s law => by
  unfold serveTestMotor
  split
  · split
    · exact (answerTool_spares _ _ _ s).law law
    · next passes _ => exact beginTest_law _ _ tag _ law (idle_of_testRefusal passes)
    · exact law
  · exact (answerTool_spares _ _ _ s).law law

theorem serveForgetPeer_spares (tag : Byte) (args : List Byte) (s : State) : Spared s (serveForgetPeer tag args s) := by
  unfold serveForgetPeer
  split
  · exact takeRequest_spares tag _ ((.of_eq : Spared s (removePeer _ s)).trans (afterTable_spares _ _))
  · exact answerTool_spares _ _ _ s

theorem serveRestart_law (tag : Byte) (args : List Byte) (straps : Station) (p : ParamRead) :
    KeepsVend (serveRestart tag args straps p) := fun s law => by
  unfold serveRestart
  refine ite_law ((answerTool_spares _ _ _ s).law law) ?_
  split
  · exact (answerTool_spares _ _ _ s).law law
  · next free =>
    have idle : s.vsq.state = .idle := by simpa using (Bool.or_eq_false_iff.mp (Bool.eq_false_iff.mpr free)).2
    exact (answerTool_spares _ _ _ _).law (restartAll_law straps p law idle)

/-! ### Every command, and every step -/

theorem exec_law {c : Instr} (law : VendLaw s) (h : exec c s = .next t) : VendLaw t := by
  have all {f : State → State} (spares : ∀ u, Spared u (f u)) : KeepsVend f := keepsVend_of_spared spares
  have keep : KeepsVend id := fun _ law => law
  have unread {f : State → State} (same : ∀ u, Spared u (f u) := by exact fun _ => .of_eq rfl rfl) : KeepsVend f := all same
  have unknown (src : Station) : KeepsVend (hear src countUnknown) := hear_law unread src
  have peer (src : Station) (f : Peer → Peer) : KeepsVend (modPeer src f) := all fun _ => .of_eq
  cases c with
  | coinStrobe a b => exact event_law (inputEvent_law (all (coinReport_spares _)) _) law h
  | routingTimeExpiry => exact event_law endRouting_law law h
  | cashboxSwitchChange closed => exact event_law (inputEvent_law unread _) law h
  | levelSwitchChange i w covered => exact event_law (inputEvent_law (all (reconcileTube_spares i)) _) law h
  | serviceDoorOpens => exact event_law (inputEvent_law takeDoorOpening_law _) law h
  | serviceDoorCloses => exact event_law (inputEvent_law (all takeDoorClosing_spares) _) law h
  | auditSaveEnd ending => exact event_law (all (endSave_spares ending)) law h
  | debitReceived src dst n a tag x =>
    exact event_law (hear_law (directed_law (all (answerDebit_spares src n a.toNat tag x)) dst) src) law h
  | settleReceived src dst tag n r =>
    exact event_law (hear_law (directed_law (all (answerSettle_spares src tag n r)) dst) src) law h
  | holdExpiry => exact event_law endOldHold_law law h
  | refreshTimerExpiry => exact event_law endRefresh_law law h
  | idleTimerExpiry => exact event_law endIdleTime_law law h
  | coinSeen => exact event_law (inputEvent_law (all fun _ => .of_eq) _) law h
  | solenoidPulseEnd => exact event_law endPulse_law law h
  | payoutWindowExpiry => exact event_law endPayoutWindow_law law h
  | exitClears => exact event_law (inputEvent_law (all exitCleared_spares) _) law h
  | clearTimerExpiry => exact event_law endClearTime_law law h
  | escrowLever => exact event_law (inputEvent_law (all fun _ => .of_eq) _) law h
  | creditReceived src dst n state b v short => exact event_law (hear_law unread src) law h
  | cacheEntryAgeOut st => exact event_law (ageOutEntry_law st) law h
  | purgeReceived src dst n => exact event_law (hear_law unread src) law h
  | selectReceived src dst tag slot credit =>
    exact event_law (hear_law (directed_law (all (takeSelect_spares src tag slot.toNat credit.toNat)) dst) src) law h
  | answerTimerExpiry => exact event_law endAnswerTime_law law h
  | debitAnswerReceived src dst tag o b v =>
    exact event_law (hear_law (directed_law (takeDebitAnswer_law src tag o b v) dst) src) law h
  | settleTimerExpiry => exact event_law endSettleTime_law law h
  | settleAnswerReceived src dst tag o => exact event_law (hear_law (directed_law (takeSettleAnswer_law src tag o) dst) src) law h
  | budgetTimerExpiry => exact event_law endBudgetTime_law law h
  | camPulse => exact event_law takeCam_law law h
  | jamTimerExpiry => exact event_law endJamTime_law law h
  | drop => exact event_law (inputEvent_law (fun _ law => runAgenda_law (takeDrop_law law)) _) law h
  | dropWindowExpiry => exact event_law endDropWindow_law law h
  | driveTick rows cols cams => exact event_law (fun _ law => ite_law law (tickDrive_law rows cols cams law)) law h
  | currentSample reading => exact event_law (sampleCurrent_law reading) law h
  | averagingPeriodEnd k x => exact event_law (fun _ law => ite_law law (takeAverage_law k x law)) law h
  | lockoutTimerExpiry =>
    exact event_law (fun _ law => ite_law (onTimer_law (all endLockout_spares) _ _ law) law) law h
  | offTimerExpiry => exact event_law (fun _ law => ite_law (onTimer_law (all testOff_spares) _ _ law) law) law h
  | cycleTimerUrgent => exact event_law (fun _ law => ite_law (onTimer_law (all raiseWant_spares) _ _ law) law) law h
  | cycleTimerFixedDuty => exact event_law (fun _ law => ite_law (onTimer_law (all endOnPhase_spares) _ _ law) law) law h
  | startTimerExpiry => exact event_law (fun _ law => ite_law (onTimer_law (all endStart_spares) _ _ law) law) law h
  | onTimerExpiry => exact event_law (fun _ law => onTimer_law (all testStop_spares) _ _ law) law h
  | accumulatorSecond => exact event_law countSecond_law law h
  | heaterWaitExpiry => exact event_law (fun _ law => ite_law (onTimer_law (all endHeaterWait_spares) _ _ law) law) law h
  | defrostTimerExpiry => exact event_law (fun _ law => ite_law (onTimer_law (all endDefrost_spares) _ _ law) law) law h
  | dripTimerExpiry => exact event_law (fun _ law => ite_law (onTimer_law unread _ _ law) law) law h
  | warmTimerExpiry => exact event_law (fun _ law => onTimer_law (all latchHotHold_spares) _ _ law) law h
  | statusReceived src dst change total limit flags => exact event_law (hearWith_law keep src (peer src _) false) law h
  | peerEntryAgeOut st => exact event_law (ageOutPeer_law st) law h
  | claimReceived src dst kind cls a q =>
    exact event_law (fun _ law => ite_law (unknown src law)
      (hearWith_law (all (objectTo_spares src kind q)) src (peer src _) _ law)) law h
  | releaseReceived src dst kind q =>
    exact event_law (fun _ law => ite_law (unknown src law) (hearWith_law keep src (peer src _) false law)) law h
  | claimAssumed st kind => exact event_law (assumeClaim_law st kind) law h
  | objectReceived src dst kind q sum =>
    exact event_law (fun _ law => ite_law (unknown src law)
      (hear_law (directed_law (all (takeObject_spares kind q sum)) dst) src law)) law h
  | heldOffExpiry k => exact event_law (endHeldOff_law k) law h
  | claimRetryAge k => exact event_law (retryClaim_law k) law h
  | settleWindowExpiry k => exact event_law (endSettleWindow_law k) law h
  | badFrame cause => exact event_law (receiving_law unread) law h
  | unknownFrame src => exact event_law (unknown src) law h
  | vendStatusReceived src dst tag o p q => exact event_law (hear_law keep src) law h
  | serviceAnswerReceived src dst tag r data => exact event_law (hear_law keep src) law h
  | addressConflict => exact event_law (receiving_law fun _ law => takeConflict_law (spared_law law)) law h
  | frameOffer => exact event_law (all fun _ => .of_eq) law h
  | lostArbitration => exact event_law (all fun _ => .of_eq) law h
  | frameAttemptEnd ending => exact event_law (endAttempt_law ending) law h
  | silentEnd => exact event_law endSilent_law law h
  | statusPeriodExpiry => exact event_law endPeriod_law law h
  | isolationTimerExpiry => exact event_law endHearing_law law h
  | powerUp straps p a => exact event_law (fun u _ => powerUpState_law straps p a u) law h
  | powerUpReconciliation l => exact event_law (fun _ law => ite_law (finishPowerUp_law l law) law) law h
  | stateRead q args => exact event_law (serve_law (all (readState_spares q.tag args)) q) law h
  | auditRead q args => exact event_law (serve_law (all (readAudit_spares q.tag args)) q) law h
  | auditClear q args => exact event_law (serve_law (all (serveAuditClear_spares q.tag args)) q) law h
  | setPrice q args => exact event_law (serve_law (all (serveSetPrice_spares q.tag args)) q) law h
  | setSlot q args => exact event_law (serve_law (all (serveSetSlot_spares q.tag args)) q) law h
  | setStock q args => exact event_law (serve_law (all (serveSetStock_spares q.tag args)) q) law h
  | setTube q args => exact event_law (serve_law (all (serveSetTube_spares q.tag args)) q) law h
  | clearFault q args => exact event_law (serve_law (all (serveClearFault_spares q.tag args)) q) law h
  | testMotor q args => exact event_law (serve_law (serveTestMotor_law q.tag args) q) law h
  | forgetPeer q args => exact event_law (serve_law (all (serveForgetPeer_spares q.tag args)) q) law h
  | restart q args straps p => exact event_law (serve_law (serveRestart_law q.tag args straps p) q) law h
  | serviceUnknownCode q code args => exact event_law (serve_law (all (answerTool_spares q.tag .badArgument [])) q) law h

theorem idle_law {s : State} (law : VendLaw s) : VendLaw (idle s) :=
  ite_law law (ite_law (unread_law (elapse_law 1 law)) (unread_law law))

/-- Settles O8: every command keeps the law of the vend (`exec_law`), and so does the time that passes with none waiting. -/
theorem vendFollowsItsState : Obligations.VendFollowsItsState := by
  intro s t law h
  rcases Intake.step_cases h with ⟨c, p, d, e⟩ | ⟨d, rfl⟩ | rfl
  · exact exec_law (unread_law law : VendLaw { s with pending := p, due := d }) e
  · exact unread_law law
  · exact idle_law law

end Sys2Proof.Machine.Vending
end

section
/-! PROOFS. The slot requests of the tool (R95, R177, TABLE 6-2): SET-PRICE, SET-SLOT and SET-STOCK. -/

namespace Sys2Proof.Machine.SlotSetting

set_option Elab.async false

open Laws Intake

/-! ### The arguments -/

/-- R177: a two-byte argument is sent high byte first. -/
theorem pairArg_eq (hi lo : Byte) : pairArg hi lo = 256 * hi.toNat + lo.toNat := by
  simp [pairArg, numberOf, Nat.mul_comm]

theorem byte_one_of_flag {b : Byte} (h : b.toNat ≤ 1) : b = 0 ∨ b = 1 := by
  rcases (by omega : b.toNat = 0 ∨ b.toNat = 1) with e | e
  · exact .inl (BitVec.eq_of_toNat_eq e)
  · exact .inr (BitVec.eq_of_toNat_eq e)

/-- R177: a flag is 0 or 1. -/
theorem flagArg_iff (b : Byte) : flagArg b = true ↔ b.toNat ≤ 1 := by
  refine ⟨fun h => ?_, fun h => ?_⟩
  · simp only [flagArg, Bool.or_eq_true, beq_iff_eq] at h
    rcases h with rfl | rfl <;> decide
  · rcases byte_one_of_flag h with rfl | rfl <;> decide

theorem isYes_of_flag {b : Byte} (h : b.toNat ≤ 1) : isYes b = (b == 1) := by
  rcases byte_one_of_flag h with rfl | rfl <;> decide

theorem slotRefusal_present {b : Byte} {s : State} (h : b.toNat ≤ 79 ∧ slotAt s b.toNat ≠ none) : slotRefusal b s = none := by
  obtain ⟨x, present⟩ := Option.ne_none_iff_exists'.mp h.2
  exact if_neg (by rw [slotArg_present h.1 present]; nofun)

theorem slotRefusal_absent {b : Byte} {s : State} (h : ¬ (b.toNat ≤ 79 ∧ slotAt s b.toNat ≠ none)) :
    slotRefusal b s = some .notPresent :=
  if_pos (slotArg_absent (by by_cases r : b.toNat ≤ 79 <;> simp_all))

/-! ### What the requests set (R95, TABLE 6-2) -/

/-- R95: SET-PRICE clamps the price. -/
theorem setPrice_eq (p1 p0 : Byte) :
    Slot.setPrice (pairArg p1 p0) = fun x => { x with price := min 9999 (256 * p1.toNat + p0.toNat) } := by
  funext x
  rw [Slot.setPrice, pairArg_eq]

theorem set_eq {p1 p0 turns extra chilled enable : Byte} (hc : chilled.toNat ≤ 1) (he : enable.toNat ≤ 1) :
    Slot.set (pairArg p1 p0) turns.toNat extra.toNat (isYes chilled) (isYes enable) = fun x =>
      { x with
        price := min 9999 (256 * p1.toNat + p0.toNat), turns := max 1 (min 4 turns.toNat)
        extraTurns := min 2 extra.toNat, chilled := chilled == 1
        state := if enable = 1 then .ready else .disabled
        noDropRun := if enable = 1 then 0 else x.noDropRun } := by
  funext x
  simp only [Slot.set, pairArg_eq, isYes_of_flag hc, isYes_of_flag he, clampNat, beq_iff_eq]

theorem sellOut_eq (x : SlotState) : x.sellOut = if x = .ready then .soldOut else x := by cases x <;> rfl

theorem restock_eq (x : SlotState) : x.restock = if x = .soldOut then .ready else x := by cases x <;> rfl

/-- R95: a stock of 0 sells the slot out, and any other clears its no-drop run and restocks it. -/
theorem setStock_eq {stock flag : Byte} (hf : flag.toNat ≤ 1) :
    Slot.setStock (if isYes flag then some stock.toNat else none) = fun x =>
      if flag = 1 ∧ stock = 0 then
        { x with stock := some 0, state := if x.state = .ready then .soldOut else x.state }
      else
        { x with
          stock := if flag = 1 then some stock.toNat else none, noDropRun := 0
          state := if x.state = .soldOut then .ready else x.state } := by
  funext x
  rcases byte_one_of_flag hf with rfl | rfl
  · simp [Slot.setStock, isYes, restock_eq]
  · by_cases out : stock = 0#8
    · subst out
      simp [Slot.setStock, isYes, sellOut_eq]
    · have some_ : stock.toNat ≠ 0 := fun h => out (BitVec.eq_of_toNat_eq h)
      simp [Slot.setStock, isYes, restock_eq, out, some_]

/-! ### The event -/

section Event
variable {tag : Byte} {s : State} (hears : Hears 15 s) (own : s.ssu.own ≠ 0)
include hears own

/-- R177: a request on a slot changes the present slot and is answered DONE; an absent one is answered NOT-PRESENT. -/
theorem event_slotRequest {f : State → State} {g : Slot → Slot} (slot : Byte)
    (acts : f (hearing 15 s) = takeRequest tag (slotRefusal slot (hearing 15 s)) (modSlot slot.toNat g) (hearing 15 s)) :
    event (serve ⟨15, s.ssu.own, tag⟩ f) s = .next
      (if slot.toNat ≤ 79 ∧ slotAt s slot.toNat ≠ none then
        refreshOutputs (answered tag .done [] (modSlot slot.toNat g (hearing 15 s)))
      else refreshOutputs (answered tag .notPresent [] (hearing 15 s))) := by
  have at_ : slotAt (hearing 15 s) slot.toNat = slotAt s slot.toNat := by rw [slotAt, hearing_vsq]; rfl
  split
  · next present =>
    rw [slotRefusal_present (by rwa [at_])] at acts
    have kept : (f (hearing 15 s)).lbu = (hearing 15 s).lbu := by rw [acts]; exact answerTool_lbu ..
    rw [event_serve hears own kept, acts]
    exact congrArg (fun t => Host.Outcome.next (refreshOutputs t)) (answerTool_eq ..)
  · next absent =>
    rw [slotRefusal_absent (by rwa [at_])] at acts
    exact event_answered hears own acts

/-- R177: a flag other than 0 and 1 is answered BAD-ARGUMENT before anything else of the request. -/
theorem event_flagged {f : State → State} {c : Prop} [Decidable c] {good : Bool} {act : State} {t : State}
    (bad : c ↔ good = false)
    (acts : f (hearing 15 s) = if good then act else answerTool tag .badArgument [] (hearing 15 s))
    (then_ : good = true → event (serve ⟨15, s.ssu.own, tag⟩ f) s = .next t) :
    event (serve ⟨15, s.ssu.own, tag⟩ f) s =
      .next (if c then refreshOutputs (answered tag .badArgument [] (hearing 15 s)) else t) := by
  split
  · next h =>
    rw [bad.mp h] at acts
    exact event_answered hears own acts
  · next h => exact then_ (by simpa using mt bad.mpr h)

end Event

/-- Settles O58: the three requests are `event_slotRequest`, behind the test of their flags (`event_flagged`). -/
theorem slotRequestsSetTheRecord : Obligations.SlotRequestsSetTheRecord := by
  intro tag slot s hears own
  refine ⟨fun p1 p0 => ?_, fun p1 p0 turns extra chilled enable => ?_, fun stock flag => ?_⟩
  · exact event_slotRequest hears own slot
      (f := serveSetPrice tag [slot, p1, p0]) (by rw [← setPrice_eq]; rfl)
  · have bad : 1 < chilled.toNat ∨ 1 < enable.toNat ↔ (flagArg chilled && flagArg enable) = false := by
      rw [Bool.and_eq_false_iff, ← Bool.not_eq_true, ← Bool.not_eq_true, flagArg_iff, flagArg_iff]
      omega
    refine event_flagged hears own (f := serveSetSlot tag [slot, p1, p0, turns, extra, chilled, enable]) bad rfl fun good => ?_
    obtain ⟨hc, he⟩ := Bool.and_eq_true_iff.mp good
    rw [← set_eq ((flagArg_iff _).mp hc) ((flagArg_iff _).mp he)]
    exact event_slotRequest hears own slot (if_pos good)
  · have bad : 1 < flag.toNat ↔ flagArg flag = false := by
      rw [← Bool.not_eq_true, flagArg_iff]
      omega
    refine event_flagged hears own (f := serveSetStock tag [slot, stock, flag]) bad rfl fun good => ?_
    rw [← setStock_eq ((flagArg_iff _).mp good)]
    exact event_slotRequest hears own slot (if_pos good)

end Sys2Proof.Machine.SlotSetting
end

section
/-! PROOFS. A turning motor (R100 to R104, R115, R116): the decision of a vend and the end of a test while the pair is still latched, what
a settlement leaves, and how an event ends that has decided a vend. -/

namespace Sys2Proof.Machine.Turning

set_option Elab.async false

open Laws Intake Credits Keeping Announcing Requesting Queueing Deciding

variable {o : VendOutcome} {c : EndCause} {v : Vend} {s t u : State}

/-! ### The vend and the test by their operations -/

theorem modVend_of (vend : s.vsq.vend = some v) (f : Vend → Vend) :
    modVend f s = { s with vsq := { s.vsq with vend := some (f v) } } := by
  rw [modVend, State.modVsq, vend]; rfl

theorem modTest_of {r : Test} (test : s.vsq.test = some r) (f : Test → Test) :
    modTest f s = { s with vsq := { s.vsq with test := some (f r) } } := by
  rw [modTest, State.modVsq, test]; rfl

theorem slotAt_congr (h : t.vsq.slots = s.vsq.slots) (n : Nat) : slotAt t n = slotAt s n := by unfold slotAt; rw [h]

theorem slotAt_modSlot_same (n : Nat) (f : Slot → Slot) (s : State) : slotAt (modSlot n f s) n = (slotAt s n).map f :=
  (recordAt_modify s.vsq.slots f n n).trans (if_pos rfl)

theorem slotAt_modSlot_other {n k : Nat} (h : k ≠ n) (f : Slot → Slot) (s : State) : slotAt (modSlot n f s) k = slotAt s k :=
  (recordAt_modify s.vsq.slots f n k).trans (if_neg (Ne.symm h))

/-! ### The MOTOR load while the pair is latched (R100) -/

/-- R100: the MOTOR record is held and a pair still latched, so that neither vend nor test can give the load up. -/
structure Latched (s : State) : Prop where
  held : s.lbu.motor.state = .held
  latch : s.mxd.latch ≠ none

theorem Latched.of_eq (h : Latched s) (motor : t.lbu.motor.state = s.lbu.motor.state := by rfl)
    (latch : t.mxd.latch = s.mxd.latch := by rfl) : Latched t := ⟨motor.trans h.held, latch ▸ h.latch⟩

theorem giveUpMotor_latched (h : Latched s) : giveUpMotor s = s := by
  have held : motorHeld s = true := beq_iff_eq.mpr h.held
  rw [giveUpMotor, if_pos held, if_neg h.latch]

theorem unreleased (h : Latched s) : s.lbu.motor.state ≠ .none := by rw [h.held]; nofun

/-- R100, R108: with its pair latched the vend stands in SETTLING when it is decided. -/
theorem decideOutcome_latched (vend : u.vsq.vend = some v) (h : Latched u) :
    decideOutcome o c u = settleVend v o (deciding o c v u) := by
  have stands : Latched (deciding o c v u) :=
    h.of_eq (congrArg (·.motor.state) (slotOutcome_lbu v.selection.slot o u))
      (congrArg Mxd.latch (slotOutcome_mxd v.selection.slot o u) : (slotOutcome v.selection.slot o u).mxd.latch = _)
  have settled : Latched (settleVend v o (deciding o c v u)) :=
    stands.of_eq (congrArg (·.motor.state) (settleVend_lbu ..)) (congrArg Mxd.latch (settleVend_mxd ..))
  rw [decideOutcome_eq vend, giveUpMotor_latched stands, tryLeave_stays (unreleased settled)]

/-- R116: with its pair latched the test keeps its result, unanswered. -/
theorem endTest_latched {r : Test} (test : u.vsq.test = some r) (h : Latched u) (x : TestResult) :
    endTest x u =
      { u with
        mxd := { u.mxd with staging := none }
        vsq :=
          { u.vsq with
            test := some { r with result := some x, motorOn := false, budgetTimer := none, jamTimer := none } } } := by
  have ended : Latched (writeStaging none (modTest
      (fun t => { t with result := some x, motorOn := false, budgetTimer := none, jamTimer := none }) u)) := h.of_eq
  have stays {w : State} (h : Latched w) : finishTest w = w := by
    unfold finishTest
    split
    · split
      · exact if_neg fun k => unreleased h k.2
      · rfl
    · rfl
  rw [endTest, giveUpMotor_latched ended, stays ended, modTest_of test]
  rfl

/-- R108: the vend decided with its pair latched. -/
structure DecidedLatched (o : VendOutcome) (c : EndCause) (v : Vend) (u d : State) : Prop where
  state : d.vsq.state = .settling
  decided : ∀ d', d'.vsq = d.vsq → Decided o c v d'
  lbu : d.lbu = u.lbu
  mxd : d.mxd = { u.mxd with staging := none }
  inputs : d.inputs = u.inputs
  slots : d.vsq.slots = (slotOutcome v.selection.slot o u).vsq.slots

theorem decideOutcome_decidedLatched (vend : u.vsq.vend = some v) (h : Latched u) :
    DecidedLatched o c v u (decideOutcome o c u) := by
  obtain ⟨a, b, settles⟩ := settleVend_vend (v := v) (o := o) (s := deciding o c v u) (w := decidedVend o c v) rfl
  rw [decideOutcome_latched vend h]
  have state : (settleVend v o (deciding o c v u)).vsq.state = .settling := settleVend_vsq_state ..
  refine ⟨state, fun d same => .inl ⟨_, (congrArg Vsq.vend same).trans settles, by rw [same, state], rfl, rfl, rfl, rfl, rfl⟩, ?_, ?_, ?_, ?_⟩
  · rw [settleVend_lbu]; exact slotOutcome_lbu ..
  · rw [settleVend_mxd]; exact congrArg (fun m : Mxd => { m with staging := none }) (slotOutcome_mxd v.selection.slot o u)
  · rw [settleVend_inputs]; exact slotOutcome_inputs ..
  · rw [settleVend_vsq_slots]; rfl

/-! ### What a settlement leaves (R54, R91) -/

/-- R91: a settlement elsewhere touches neither the own session nor a total. -/
theorem settleVend_elsewhere (elsewhere : v.payment ≠ .own) (o : VendOutcome) (s : State) :
    (settleVend v o s).cru = s.cru ∧ (settleVend v o s).ssu = s.ssu := by
  have sent (tag number : Byte) (r : SettleResult) : (sendSettle v tag number r 1 s).cru = s.cru ∧
      (sendSettle v tag number r 1 s).ssu = s.ssu := ⟨by simp [sendSettle], by simp [sendSettle]⟩
  unfold settleVend
  split
  · rw [if_neg elsewhere]; exact sent ..
  · split
    · exact sent ..
    · exact ⟨rfl, rfl⟩

/-- From `s` to `t` the totals of the vends and of their jams stand. -/
structure Counted (s t : State) : Prop where
  jams : t.ssu.totals.jams = s.ssu.totals.jams
  sum : t.ssu.totals.vendSum = s.ssu.totals.vendSum
  counts : t.ssu.totals.vendCounts = s.ssu.totals.vendCounts

theorem Counted.of_eq (h : t.ssu = s.ssu) : Counted s t := ⟨by rw [h], by rw [h], by rw [h]⟩

theorem Counted.trans (h : Counted s t) (g : Counted t u) : Counted s u :=
  ⟨g.jams.trans h.jams, g.sum.trans h.sum, g.counts.trans h.counts⟩

theorem takeSettle_counted (r : Station) (tag n : Byte) (x : SettleResult) (first : s.cru.versionRaised = false) :
    Counted s (takeSettle r tag n x s).1 := by
  rcases takeSettle_cases r tag n x s with ⟨matched, e⟩ | ⟨-, e⟩ <;> rw [e]
  · obtain ⟨h, hold, -⟩ := (settleMatches_iff r tag n s).mp matched
    have ended := endHold_home (r := x) first hold
    obtain ⟨short, paid⟩ := ended.counted
    have held : Counted s (endHold x s) := ⟨by rw [ended.totals], by rw [ended.totals], by rw [ended.totals]⟩
    refine held.trans ?_
    by_cases c : EndsShort x h s (afterSettle x (endHold x s))
    · have totals := (short c).2
      exact ⟨by rw [totals], by rw [totals], by rw [totals]⟩
    · have totals := (paid c).2
      exact ⟨by rw [totals], by rw [totals], by rw [totals]⟩
  · exact .of_eq rfl

theorem countUnpaid_counted (r : SettleResult) (a : Option SettleOutcome) (s : State) : Counted s (countUnpaid r a s) := by
  unfold countUnpaid
  split
  · exact ⟨rfl, rfl, rfl⟩
  · exact .of_eq rfl

/-- R54: no settlement counts a vend or a jam. -/
theorem settleVend_counted (v : Vend) (o : VendOutcome) (first : s.cru.versionRaised = false) : Counted s (settleVend v o s) := by
  by_cases own : v.payment = .own
  · unfold settleVend
    split
    · next g _ =>
      rw [if_pos own]
      exact ((takeSettle_counted s.ssu.own g.tag g.number _ first).trans (countUnpaid_counted _ _ _)).trans (.of_eq rfl)
    · split
      · exact .of_eq (by simp [sendSettle])
      · exact .of_eq rfl
  · exact .of_eq (settleVend_elsewhere own o s).2

/-- R107, R108: of these totals a decision counts the vend that sells. -/
theorem decideOutcome_counted (vend : u.vsq.vend = some v) (first : u.cru.versionRaised = false) :
    Counted (slotOutcome v.selection.slot o u) (decideOutcome o c u) := by
  have given : Counted (slotOutcome v.selection.slot o u) (decided o c v u) := .of_eq (giveUpMotor_ssu _)
  rw [decideOutcome_decided vend]
  refine (given.trans (settleVend_counted v o (by rw [decided_cru, first]))).trans (.of_eq (tryLeave_ssu _))

theorem decideOutcome_elsewhere (vend : u.vsq.vend = some v) (elsewhere : v.payment ≠ .own) :
    (decideOutcome o c u).cru = u.cru ∧ (decideOutcome o c u).ssu = (slotOutcome v.selection.slot o u).ssu := by
  obtain ⟨cru, ssu⟩ := settleVend_elsewhere elsewhere o (decided o c v u)
  rw [decideOutcome_decided vend, tryLeave_cru, tryLeave_ssu, cru, ssu, decided_cru]
  exact ⟨rfl, giveUpMotor_ssu _⟩

/-! ### The end of the event -/

/-- The event ends in `t` with what was done in `d`: no signal left in the event concerns more than the cooling. -/
structure Ends (d t : State) : Prop where
  vsq : t.vsq = d.vsq
  cru : t.cru = d.cru
  ssu : t.ssu = d.ssu
  mxd : t.mxd = d.mxd
  lnk : t.lnk = d.lnk
  motor : t.lbu.motor = d.lbu.motor

theorem ends_calm (calm : s.vsq.state = .settling ∨ s.vsq.state = .idle) (empty : s.vsq.queue = []) :
    Ends s (refreshOutputs (runAgenda s)) := by
  obtain ⟨r, a, ends⟩ := runAgenda_aside calm empty
  rw [ends]
  exact ⟨rfl, rfl, rfl, rfl, rfl, rfl⟩

theorem Ends.awaits {f : Frame} (h : Ends s t) (waits : Awaits f s) : Awaits f t := by
  unfold Awaits at *
  rwa [h.lnk]

theorem Ends.slotAt (h : Ends s t) (n : Nat) : slotAt t n = Machine.slotAt s n := slotAt_congr (by rw [h.vsq]) n

/-- A vend decided in an event with no selection queued ends it. -/
theorem decideOutcome_ends (vend : u.vsq.vend = some v) (empty : u.vsq.queue = []) :
    Ends (decideOutcome o c u) (refreshOutputs (runAgenda (decideOutcome o c u))) :=
  have leaves : DecisionLeaves o c v u _ := decideOutcome_leaves vend
  ends_calm leaves.ends.calm (leaves.queue.trans empty)

end Sys2Proof.Machine.Turning
end

section
/-! PROOFS. Obligation O35: the cam pulse, for a vend and for a motor test (R102, R116). -/

namespace Sys2Proof.Machine.Turning

set_option Elab.async false

open Laws Intake Credits Keeping Announcing Requesting Queueing Deciding

variable {v : Vend} {r : Test} {n : Nat} {s u : State}

/-- The event begun, with the return line of the pair of slot `n` closed (log 35). -/
def camClosed (n : Nat) (s : State) : State :=
  { openEvent s with
    inputs :=
      { s.inputs with
        camLines := s.inputs.camLines ||| (1 <<< (pairOf n).col.toNat), cam := Filter.standing true } }

theorem exec_camPulse (latch : s.mxd.latch = some (pairOf n)) :
    exec .camPulse s = .next (refreshOutputs (runAgenda (takeCamPulse (camClosed n s)))) := by
  have taken : takeCam (openEvent s) = runAgenda (takeCamPulse (camClosed n s)) := by
    have latched : (openEvent s).mxd.latch = some (pairOf n) := latch
    unfold takeCam
    rw [latched]
    rfl
  exact (event_next takeCam s).trans (by rw [taken])

/-- R102: a counted pulse of a vend's motor. -/
theorem takeCamPulse_counts (vend : u.vsq.vend = some v) (on : v.motorOn = true)
    (latch : u.mxd.latch = some (pairOf v.selection.slot)) (more : 1 < v.pulses) :
    takeCamPulse u = { u with vsq := { u.vsq with vend := some { v with pulses := v.pulses - 1, jamTimer := some 0 } } } := by
  have going : v.pulses - 1 ≠ 0 := by omega
  rw [takeCamPulse_vend vend, if_pos ⟨on, latch⟩]
  dsimp only
  rw [if_neg going, modVend_of vend]

/-- R102: the vend with its last turn made and its motor stopped. -/
def turnedVend (v : Vend) : Vend := { v with pulses := 0, motorOn := false, jamTimer := none }

/-- R102: the motor of the vend stopped at home. -/
def turned (v : Vend) (u : State) : State :=
  { u with mxd := { u.mxd with staging := none }, vsq := { u.vsq with vend := some (turnedVend v) } }

/-- R102: at the last pulse the motor stops, and the vend goes on by the drop it has seen. -/
theorem takeCamPulse_last (vend : u.vsq.vend = some v) (on : v.motorOn = true)
    (latch : u.mxd.latch = some (pairOf v.selection.slot)) (last : v.pulses = 1) :
    takeCamPulse u =
      if v.dropSeen then decideOutcome .vended .runEnd (turned v u) else enterDropWait (turned v u) := by
  have stopped : stopMotor (modVend (fun v => { v with pulses := v.pulses - 1, jamTimer := some 0 }) u) = turned v u := by
    rw [modVend_of vend]
    simp [stopMotor, writeStaging, modVend, State.modVsq, State.modMxd, turned, turnedVend, last]
  rw [takeCamPulse_vend vend, if_pos ⟨on, latch⟩]
  dsimp only
  rw [if_pos (by rw [last]), stopped]

/-- R116: a counted pulse of the motor of the test. -/
def testTurned (r : Test) (u : State) : State :=
  { u with vsq := { u.vsq with test := some { r with pulses := r.pulses - 1, jamTimer := some 0 } } }

/-- R116: a pulse of a test's motor, counted or the last. -/
theorem takeCamPulse_test (novend : u.vsq.vend = none) (test : u.vsq.test = some r) (on : r.motorOn = true)
    (latch : u.mxd.latch = some (pairOf r.slot)) :
    takeCamPulse u = if r.pulses - 1 = 0 then endTest .complete (testTurned r u) else testTurned r u := by
  unfold takeCamPulse
  rw [novend, test]
  dsimp only
  rw [if_pos ⟨on, latch⟩, modTest_of test, testTurned]

/-- R102, R108: with a drop already seen the last pulse sells, the vend in SETTLING until its motor is off. -/
theorem exec_camPulse_sells (vend : s.vsq.vend = some v) (on : v.motorOn = true)
    (latch : s.mxd.latch = some (pairOf v.selection.slot)) (held : s.lbu.motor.state = .held) (last : v.pulses = 1)
    (drop : v.dropSeen = true) :
    ∃ t, exec .camPulse s = .next t ∧ Decided .vended .runEnd v t ∧ t.vsq.state = .settling ∧ t.mxd.staging = none ∧
      t.lbu.motor = s.lbu.motor ∧ t.mxd.latch = s.mxd.latch ∧ t.inputs = (camClosed v.selection.slot s).inputs ∧
      (v.payment ≠ .own → t.cru = (camClosed v.selection.slot s).cru) ∧
      ∀ g h, v.granted = some g → v.payment = .own → HomeHold g h s →
        t.cru.session.hold = none ∧ t.cru.books.sold = s.cru.books.sold + h.amount ∧
          t.ssu.totals.sold = min 4294967295 (s.ssu.totals.sold + h.amount) := by
  let e := turned v (camClosed v.selection.slot s)
  have latched : Latched e := ⟨held, fun none => nomatch latch.symm.trans none⟩
  have ends : DecidedLatched .vended .runEnd (turnedVend v) e (decideOutcome .vended .runEnd e) :=
    decideOutcome_decidedLatched rfl latched
  have agenda : (decideOutcome .vended .runEnd e).lbu.agenda = [] := congrArg Lbu.agenda ends.lbu
  rw [exec_camPulse latch, takeCamPulse_last (u := camClosed v.selection.slot s) vend on latch last, if_pos drop,
    runAgenda_nil agenda]
  have motor : (decideOutcome .vended .runEnd e).lbu.motor = e.lbu.motor := congrArg Lbu.motor ends.lbu
  have pair : (decideOutcome .vended .runEnd e).mxd.latch = e.mxd.latch := congrArg Mxd.latch ends.mxd
  exact ⟨_, rfl, ends.decided _ rfl, ends.state, congrArg Mxd.staging ends.mxd, motor, pair, ends.inputs, fun elsewhere => (decideOutcome_elsewhere (u := e) rfl elsewhere).1,
    fun g h granted own home => decideOutcome_sells (u := e) (v := turnedVend v) rfl rfl granted own home rfl⟩

/-- Settles O35: a pulse with nothing latched, and by `takeCamPulse_counts`, `takeCamPulse_last` and `takeCamPulse_test` the pulses of a
vend and of a test. -/
theorem camPulseTurnsTheSpiral : Obligations.CamPulseTurnsTheSpiral := by
  refine ⟨fun s latch => ?_, fun v s vend on latch held _ => ⟨fun more => ?_, fun last drop => ?_, fun last drop => ?_⟩,
    fun r s novend test on latch held _ => ⟨fun more => ?_, fun last => ?_⟩⟩
  · have unlatched : (openEvent s).mxd.latch = none := latch
    have taken : takeCam (openEvent s) = openEvent s := by unfold takeCam; rw [unlatched]
    exact (event_next takeCam s).trans (by rw [taken])
  · rw [exec_camPulse latch, takeCamPulse_counts (u := camClosed v.selection.slot s) vend on latch more]
    exact congrArg (fun t => Host.Outcome.next (refreshOutputs t)) (runAgenda_nil rfl)
  · rw [exec_camPulse latch, takeCamPulse_last (u := camClosed v.selection.slot s) vend on latch last,
      if_neg (Bool.eq_false_iff.mp drop)]
    exact congrArg (fun t => Host.Outcome.next (refreshOutputs t)) (runAgenda_nil rfl)
  · exact exec_camPulse_sells vend on latch held last drop
  · have going : r.pulses - 1 ≠ 0 := by omega
    rw [exec_camPulse latch, takeCamPulse_test (u := camClosed r.slot s) novend test on latch, if_neg going]
    exact congrArg (fun t => Host.Outcome.next (refreshOutputs t)) (runAgenda_nil rfl)
  · have latched : Latched (testTurned r (camClosed r.slot s)) := ⟨held, fun none => nomatch latch.symm.trans none⟩
    rw [exec_camPulse latch, takeCamPulse_test (u := camClosed r.slot s) novend test on latch, if_pos (by rw [last]),
      endTest_latched rfl latched, runAgenda_nil rfl]
    exact ⟨_, rfl, rfl, rfl, rfl, by rw [last]; rfl⟩

end Sys2Proof.Machine.Turning
end

section
/-! PROOFS. A vend decided at an expiry (log 1): what the time that passes leaves of the vend, the test and the own session's hold, and the
final VEND-STATUS of a vend that was not settled before (R54, R91, R108, R109). -/

namespace Sys2Proof.Machine.Turning

set_option Elab.async false

open Laws Intake Credits Keeping Announcing Requesting Queueing Deciding

variable {o : VendOutcome} {c : EndCause} {v : Vend} {s t u : State}

/-! ### Time (log 1) -/

/-- The passing of time changes of a vend its timers alone. -/
def VendAged (v w : Vend) : Prop :=
  ∃ a n b j k, w = { v with asked := a, settling := n, budgetTimer := b, jamTimer := j, windowTimer := k }

theorem reach_vendAged (limit now : Nat) (h : s.vsq.vend = some v) : ∃ w, (reach limit now s).vsq.vend = some w ∧ VendAged v w := by
  rcases elapse_cases (limit - now) s with e | e <;> rw [reach, e]
  · exact ⟨v, h, _, _, _, _, _, rfl⟩
  · exact ⟨_, congrArg (Option.map _) h, _, _, _, _, _, rfl⟩

/-- The passing of time changes of a test its timers alone. -/
theorem reach_testAged (limit now : Nat) {r : Test} (h : s.vsq.test = some r) :
    ∃ b j, (reach limit now s).vsq.test = some { r with budgetTimer := b, jamTimer := j } := by
  rcases elapse_cases (limit - now) s with e | e <;> rw [reach, e]
  · exact ⟨r.budgetTimer, r.jamTimer, h⟩
  · exact ⟨_, _, congrArg (Option.map _) h⟩

theorem reach_novend (limit now : Nat) (h : s.vsq.vend = none) : (reach limit now s).vsq.vend = none := by
  rcases elapse_cases (limit - now) s with e | e <;> rw [reach, e]
  · exact h
  · exact congrArg (Option.map _) h

theorem reach_latch (limit now : Nat) (s : State) : (reach limit now s).mxd.latch = s.mxd.latch :=
  reach_same (·.mxd.latch) (fun _ => rfl) _ _
theorem reach_drive (limit now : Nat) (s : State) :
    (reach limit now s).mxd.samples = s.mxd.samples ∧ (reach limit now s).mxd.supervision = s.mxd.supervision ∧
      (reach limit now s).mxd.stallRun = s.mxd.stallRun :=
  ⟨reach_same (·.mxd.samples) (fun _ => rfl) _ _, reach_same (·.mxd.supervision) (fun _ => rfl) _ _,
    reach_same (·.mxd.stallRun) (fun _ => rfl) _ _⟩
theorem reach_sellableCold (limit now : Nat) (s : State) : (reach limit now s).rfc.sellableCold = s.rfc.sellableCold := by
  refine reach_same (·.rfc.sellableCold) (fun d => ?_) _ _
  show (s.rfc.later s.params d).sellableCold = _
  unfold Rfc.later
  split <;> rfl
theorem reach_slotAt (limit now : Nat) (s : State) (n : Nat) : slotAt (reach limit now s) n = slotAt s n :=
  slotAt_congr (reach_slots ..) n

theorem reach_latched (limit now : Nat) (h : Latched s) : Latched (reach limit now s) :=
  h.of_eq (reach_motor ..) (reach_latch ..)

/-- The passing of time changes of the own session its idle timer and the age of its hold alone. -/
theorem reach_homeHold (limit now : Nat) {g : Grant} {h : Hold} (home : HomeHold g h s) :
    ∃ n i, HomeHold g { h with age := n } (reach limit now s) ∧
      (reach limit now s).cru.session = { s.cru.session with hold := some { h with age := n }, idleTimer := i } := by
  obtain ⟨hold, requester, tag, number, held, escrow, some_⟩ := home
  rcases elapse_cases (limit - now) s with e | e <;> rw [reach, e]
  · exact ⟨h.age, s.cru.session.idleTimer, ⟨hold, requester, tag, number, held, escrow, some_⟩, by rw [← hold]⟩
  · let i := (advance (limit - now) s).cru.session.idleTimer
    exact ⟨_, i, ⟨congrArg (Option.map _) hold, requester, tag, number, held, escrow, some_⟩,
      congrArg (fun x => { s.cru.session with hold := x, idleTimer := i }) (congrArg (Option.map _) hold)⟩

/-- The state `u` is the event of `s` begun, at most with time passed and with the drive's current supervision moved on. -/
structure Later (s u : State) : Prop where
  params : u.params = s.params
  ssu : u.ssu = s.ssu
  first : u.cru.versionRaised = false
  state : u.vsq.state = s.vsq.state
  empty : u.vsq.queue = s.vsq.queue
  slots : u.vsq.slots = s.vsq.slots
  link : u.lnk.state = s.lnk.state
  queue : u.lnk.queue = s.lnk.queue
  agenda : u.lbu.agenda = []
  motor : u.lbu.motor.state = s.lbu.motor.state
  latch : u.mxd.latch = s.mxd.latch

theorem reach_later (limit now : Nat) (s : State) : Later s (reach limit now (openEvent s)) :=
  ⟨reach_params .., reach_ssu .., reach_versionRaised .., reach_vsq_state .., reach_vsq_queue .., reach_slots .., reach_lnk_state ..,
    reach_lnk_queue .., reach_agenda .., reach_motor .., reach_latch ..⟩

namespace Later

theorem slotAt (time : Later s u) (n : Nat) : Machine.slotAt u n = Machine.slotAt s n := slotAt_congr time.slots n

theorem latched (time : Later s u) (held : s.lbu.motor.state = .held) (latch : s.mxd.latch ≠ none) : Latched u :=
  ⟨time.motor.trans held, time.latch ▸ latch⟩

end Later

/-! ### The decision of a vend not settled before (R91, R108, R109) -/

/-- R91: elsewhere than at home a settlement asks with a SETTLE, or there is nothing to settle. -/
theorem settleVend_asks (elsewhere : v.payment ≠ .own) (o : VendOutcome) (s : State) :
    (∃ tag number r, settleVend v o s = sendSettle v tag number r 1 s) ∨ settleVend v o s = settlementOver s := by
  unfold settleVend
  split
  · rw [if_neg elsewhere]; exact .inl ⟨_, _, _, rfl⟩
  · split
    · exact .inl ⟨_, _, _, rfl⟩
    · exact .inr rfl

/-- R91: while its SETTLE is asked for the vend stands. -/
theorem tryLeave_sendSettle {w : Vend} {tag number : Byte} {r : SettleResult} (vend : s.vsq.vend = some w)
    (unsettled : w.settled = false) : tryLeave (sendSettle v tag number r 1 s) = sendSettle v tag number r 1 s := by
  rcases tryLeave_cases (sendSettle v tag number r 1 s) with e | ⟨x, stands, -, settled, -⟩
  · exact e
  · have sent : (send (.settle v.selection.creditStation tag number r) s).vsq.vend = some w := by rw [send_vsq, vend]
    obtain rfl := Option.some.inj ((congrArg (Option.map _) sent).symm.trans stands)
    cases unsettled.symm.trans settled

variable (vend : u.vsq.vend = some v) (first : u.cru.versionRaised = false)

include vend first in
/-- R109: the vend paid at home needs one place more, for its CREDIT. -/
theorem decideOutcome_answered (link : u.lnk.state ≠ .listenOnly) (unsettled : v.settled = false)
    (room : reserved (places u) ≤ 4) (home : v.payment = .own → reserved (places u) ≤ 3)
    (gone : (decideOutcome o c u).vsq.vend = none) :
    Awaits (.vendStatus v.selection.panel v.selection.tag o (if o = .insufficient then some v.price else none) none)
      (decideOutcome o c u) := by
  by_cases own : v.payment = .own
  · exact decideOutcome_answers vend first link (home own) gone
  · let m := decided o c v u
    have stands : m.vsq.vend = some (decidedVend o c v) := by rw [decided_vsq]
    have queued : Queued 3 u m := decided_queued o c v u
    rw [decideOutcome_decided vend] at gone ⊢
    rcases settleVend_asks own o m with ⟨tag, number, r, asks⟩ | none
    · rw [asks, tryLeave_sendSettle stands unsettled] at gone
      have sent : (send (.settle v.selection.creditStation tag number r) m).vsq.vend = some (decidedVend o c v) := by
        rw [send_vsq, stands]
      cases (congrArg (Option.map _) sent).symm.trans gone
    · rw [none] at gone ⊢
      rcases tryLeave_cases (settlementOver m) with e | ⟨x, leaving, -, -, -, e⟩
      · rw [e, settlementOver_vend stands] at gone
        cases gone
      · obtain rfl := Option.some.inj ((settlementOver_vend stands).symm.trans leaving)
        rw [e]
        show Awaits _ (answerPanel v.selection o v.price (settlementOver m))
        rw [answerPanel, send_queueing rfl (by rw [settlementOver_lnk, queued.link]; exact link)
          (by rw [settlementOver_lnk]; exact queued.room (by omega))]
        exact ⟨_, List.mem_append_right _ List.mem_cons_self, rfl, rfl⟩

include vend first in
/-- R108, R109: at the end of its event the vend is decided, in SETTLING or over and answered. -/
theorem decided_of_ends (link : u.lnk.state ≠ .listenOnly) (unsettled : v.settled = false) (room : reserved (places u) ≤ 4)
    (home : v.payment = .own → reserved (places u) ≤ 3) (ends : Ends (decideOutcome o c u) t) : Decided o c v t := by
  rcases (decideOutcome_leaves vend : DecisionLeaves o c v u _).ends with stands | ⟨gone, idle⟩
  · exact .inl (by rwa [ends.vsq])
  · exact .inr ⟨by rw [ends.vsq, gone], by rw [ends.vsq, idle],
      ends.awaits (decideOutcome_answered vend first link unsettled room home gone)⟩

/-- A queue with a place to spare, its STATUS counted in. -/
theorem reserved_of_short {n : Nat} (short : s.lnk.queue.length < n) : reserved (places s) ≤ n := by
  have length : (places s).length = s.lnk.queue.length := places_length s
  have before := reserved_le (places s)
  omega

/-- What a settlement at home returns is what the session held before the time that passed. -/
theorem homeReturned_of_reach {limit now n : Nat} {i : Option Nat} {h : Hold}
    (session : (reach limit now (openEvent s)).cru.session =
      { (openEvent s).cru.session with hold := some { h with age := n }, idleTimer := i })
    (returned : HomeReturned { h with age := n } (reach limit now (openEvent s)) t) : HomeReturned h s t := by
  obtain ⟨now_, books, credit⟩ := returned
  rw [session, reach_params] at now_
  rw [reach_books] at books
  exact ⟨now_, books, credit⟩

end Sys2Proof.Machine.Turning
end

section
/-! PROOFS. Obligation O36: the jam, for a vend without and with a drop seen and for a motor test (R103, R108, R116). -/

namespace Sys2Proof.Machine.Turning

set_option Elab.async false

open Laws Intake Credits Keeping Announcing Requesting Queueing Deciding

variable {v w : Vend} {r : Test} {x : Slot} {s u : State}

/-! ### The jam (R103) -/

theorem jam_eq (x : SlotState) : x.jam = if x = .disabled then .disabled else .jammed := by cases x <;> rfl

/-- R103: the vend of a jammed motor, without a drop seen its extra turns at an end. -/
def jammedVend (v : Vend) : Vend :=
  { v with jammed := true, extraLeft := if v.dropSeen then v.extraLeft else 0, motorOn := false, jamTimer := none }

/-- R103: the motor stopped, its slot off-home and jammed, and the jam counted. -/
def jamStopped (v : Vend) (u : State) : State :=
  { u with
    mxd := { u.mxd with staging := none }
    vsq :=
      { u.vsq with
        vend := some (jammedVend v)
        slots := u.vsq.slots.modify v.selection.slot (Option.map fun t => { t with offHome := true, state := t.state.jam }) }
    ssu := { u.ssu with totals := { u.ssu.totals with jams := countUp u.ssu.totals.jams 1 } } }

theorem takeJam_vend (vend : u.vsq.vend = some v) (on : v.motorOn = true) :
    takeJam u = if v.dropSeen then decideOutcome .vended .jam (jamStopped v u) else enterDropWait (jamStopped v u) := by
  unfold takeJam
  rw [vend]
  dsimp only
  rw [if_pos on, modVend_of vend]
  rfl

theorem takeJam_test (novend : u.vsq.vend = none) (test : u.vsq.test = some r) (on : r.motorOn = true) :
    takeJam u = endTest .jammed (leaveHome r.slot u) := by
  unfold takeJam
  rw [novend, test]
  exact if_pos on

/-- R103: the slot of a jammed motor. -/
def jammedSlot (x : Slot) : Slot := { x with offHome := true, state := if x.state = .disabled then .disabled else .jammed }

theorem slotAt_jamStopped (slot : slotAt u v.selection.slot = some x) :
    slotAt (jamStopped v u) v.selection.slot = some (jammedSlot x) := by
  refine ((slotAt_modSlot_same v.selection.slot _ u).trans (congrArg (Option.map _) slot)).trans ?_
  rw [Option.map_some, jam_eq]
  rfl

theorem slotAt_jamStopped_other {n : Nat} (h : n ≠ v.selection.slot) : slotAt (jamStopped v u) n = slotAt u n :=
  slotAt_modSlot_other h _ u

/-- R107, R108: the slots of a vend decided VENDED. -/
theorem slotAt_sells {c : EndCause} {d : State} (leaves : DecisionLeaves .vended c v u d)
    (slot : slotAt u v.selection.slot = some x) :
    slotAt d v.selection.slot = some (SoldSlot x) ∧ ∀ n, n ≠ v.selection.slot → slotAt d n = slotAt u n := by
  refine ⟨?_, fun n other => ?_⟩
  · rw [Opening.slotAt_of_leaves leaves, Opening.slotAt_vended_same, slot]; rfl
  · rw [Opening.slotAt_of_leaves leaves, Opening.slotAt_vended_other other]

/-- R103: without a drop seen the vend waits for one. -/
theorem takeJam_waits (time : Later s u) (vend : u.vsq.vend = some v) (on : v.motorOn = true) (undropped : v.dropSeen = false) :
    runAgenda (takeJam u) = enterDropWait (jamStopped v u) := by
  rw [takeJam_vend vend on, if_neg (Bool.eq_false_iff.mp undropped)]
  exact runAgenda_nil time.agenda

/-- R103: what a jam leaves of a vend that waits for a drop. -/
theorem jam_waited (time : Later s u) (slot : slotAt s v.selection.slot = some x) :
    let t := refreshOutputs (enterDropWait (jamStopped v u))
    t.vsq.state = .dropWait ∧ t.mxd.staging = none ∧ t.mxd.latch = s.mxd.latch ∧
      slotAt t v.selection.slot = some (jammedSlot x) ∧ (∀ n, n ≠ v.selection.slot → slotAt t n = slotAt s n) ∧
      t.ssu.totals = { s.ssu.totals with jams := min 65535 (s.ssu.totals.jams + 1) } ∧ t.lbu.motor.state = s.lbu.motor.state ∧
      t.lnk.queue = s.lnk.queue ∧ t.vsq.vend = some { jammedVend v with windowTimer := some 0 } := by
  refine ⟨rfl, rfl, time.latch, slotAt_jamStopped (u := u) (by rw [time.slotAt, slot]), fun n other => ?_, ?_, time.motor,
    time.queue, rfl⟩
  · exact (slotAt_jamStopped_other (u := u) other).trans (time.slotAt n)
  · rw [← time.ssu]; rfl

/-- R103, R108: with a drop seen the vend is sold all the same. -/
theorem takeJam_sells (vend : u.vsq.vend = some v) (on : v.motorOn = true) (dropped : v.dropSeen = true) :
    takeJam u = decideOutcome .vended .jam (jamStopped v u) := by rw [takeJam_vend vend on, if_pos dropped]

/-- R103, R107: what a jam leaves of a vend that it sells. -/
theorem jam_sold {t : State} (time : Later s u) (slot : slotAt s v.selection.slot = some x)
    (ends : Ends (decideOutcome .vended .jam (jamStopped v u)) t) :
    t.mxd.staging = none ∧ slotAt t v.selection.slot = some (SoldSlot (jammedSlot x)) ∧
      (∀ n, n ≠ v.selection.slot → slotAt t n = slotAt s n) ∧
      t.ssu.totals.jams = min 65535 (s.ssu.totals.jams + 1) ∧
      t.ssu.totals.vendSum = min 65535 (s.ssu.totals.vendSum + 1) := by
  let e := jamStopped v u
  have leaves : DecisionLeaves .vended .jam (jammedVend v) e (decideOutcome .vended .jam e) := decideOutcome_leaves rfl
  have counted : Counted (slotOutcome v.selection.slot .vended e) (decideOutcome .vended .jam e) :=
    decideOutcome_counted (u := e) (v := jammedVend v) rfl time.first
  have jammed : slotAt e v.selection.slot = some (jammedSlot x) := slotAt_jamStopped (by rw [time.slotAt, slot])
  obtain ⟨sold, others⟩ := slotAt_sells leaves jammed
  refine ⟨by rw [ends.mxd, leaves.staging], (ends.slotAt _).trans sold, fun n other => ?_, ?_, ?_⟩
  · exact ((ends.slotAt n).trans (others n other)).trans ((slotAt_jamStopped_other other).trans (time.slotAt n))
  · rw [ends.ssu, counted.jams, ← time.ssu]; rfl
  · rw [ends.ssu, counted.sum, ← time.ssu]; rfl

/-- R116: the jam of a test, its pair latched. -/
theorem jam_tested {b j : Option Nat} (time : Later s u) (novend : u.vsq.vend = none)
    (test : u.vsq.test = some { r with budgetTimer := b, jamTimer := j }) (on : r.motorOn = true) (latched : Latched u) :
    runAgenda (takeJam u) =
      { leaveHome r.slot u with
        mxd := { u.mxd with staging := none }
        vsq :=
          { (leaveHome r.slot u).vsq with
            test := some { r with result := some .jammed, motorOn := false, budgetTimer := none, jamTimer := none } } } := by
  rw [takeJam_test novend test on, endTest_latched (u := leaveHome _ u) test latched.of_eq]
  exact runAgenda_nil time.agenda

/-! ### The event -/

theorem exec_jamTimerExpiry {k : Nat} (timer : jamTimer s = some k) :
    exec .jamTimerExpiry s = .next (refreshOutputs (runAgenda (takeJam (reach s.params.jamTime k (openEvent s))))) := by
  have timed : jamTimer (openEvent s) = some k := timer
  have ends : endJamTime (openEvent s) = runAgenda (takeJam (reach s.params.jamTime k (openEvent s))) := by
    unfold endJamTime
    rw [timed]
    rfl
  exact (event_next endJamTime s).trans (by rw [ends])

/-- Settles O36: the jam of a vend by the drop it has seen (`takeJam_waits`, `jam_sold`), and the jam of a test (`jam_tested`). -/
theorem jamStopsTheMotor : Obligations.JamStopsTheMotor := by
  refine ⟨fun v k x s vend on timer undropped slot => ?_,
    fun v k x s vend on timer dropped unsettled slot empty short link => ?_,
    fun r k x s novend test on timer slot latch held => ?_⟩
  · have expires : jamTimer s = some k := by rw [jamTimer, vend]; exact timer
    let u := reach s.params.jamTime k (openEvent s)
    have time : Later s u := reach_later ..
    obtain ⟨w, later, a, n, b, j, i, rfl⟩ := reach_vendAged s.params.jamTime k (s := openEvent s) vend
    let w : Vend := { v with asked := a, settling := n, budgetTimer := b, jamTimer := j, windowTimer := i }
    have event := exec_jamTimerExpiry expires
    rw [takeJam_waits time later on undropped] at event
    obtain ⟨state, staging, latch, jammed, others, totals, motor, queue, stands⟩ := jam_waited (v := w) (u := u) time slot
    exact ⟨_, event, state, staging, latch, jammed, others, totals, motor, queue, _, stands, rfl,
      if_neg (Bool.eq_false_iff.mp undropped), rfl, rfl, rfl, rfl, rfl⟩
  · have expires : jamTimer s = some k := by rw [jamTimer, vend]; exact timer
    let u := reach s.params.jamTime k (openEvent s)
    have time : Later s u := reach_later ..
    obtain ⟨w, later, a, n, b, j, i, rfl⟩ := reach_vendAged s.params.jamTime k (s := openEvent s) vend
    let w : Vend := { v with asked := a, settling := n, budgetTimer := b, jamTimer := j, windowTimer := i }
    let e := jamStopped w u
    have ends : Ends (decideOutcome .vended .jam e) _ := decideOutcome_ends (v := jammedVend w) rfl (time.empty.trans empty)
    have up : e.lnk.state ≠ .listenOnly := fun h => link (time.link.symm.trans h)
    have room : reserved (places e) ≤ 3 := reserved_of_short ((congrArg List.length time.queue).trans_lt short)
    have decided : Decided .vended .jam (jammedVend w) _ :=
      decided_of_ends (u := e) rfl time.first up unsettled (by omega) (fun _ => room) ends
    have sold := jam_sold (v := w) (u := u) (x := x) time slot ends
    have event := exec_jamTimerExpiry expires
    rw [takeJam_sells later on dropped] at event
    exact ⟨_, event, decided, sold⟩
  · have expires : jamTimer s = some k := by rw [jamTimer, novend, test]; exact timer
    let u := reach s.params.jamTime k (openEvent s)
    have time : Later s u := reach_later ..
    obtain ⟨b, j, later⟩ := reach_testAged s.params.jamTime k (s := openEvent s) test
    have latched : Latched u := time.latched held (Option.isSome_iff_ne_none.mp latch)
    rw [exec_jamTimerExpiry expires, jam_tested time (reach_novend _ _ novend) later on latched]
    have jammed : slotAt (leaveHome r.slot u) r.slot = some { x with offHome := true } :=
      (Opening.slotAt_leaveHome_same r.slot u).trans (by rw [time.slotAt, slot]; rfl)
    exact ⟨_, rfl, jammed, rfl, congrArg Ssu.totals time.ssu, _, rfl, rfl, rfl, rfl⟩

end Sys2Proof.Machine.Turning
end

section
/-! PROOFS. Obligation O39: the current sample, its report by the supervision, and what the report makes of a vend and of a motor test
(R103, R104, R115, R116, R124, R125). -/

namespace Sys2Proof.Machine.Turning

set_option Elab.async false

open Laws Intake Credits Keeping Announcing Requesting Queueing Deciding

variable {v w : Vend} {e : Test} {x : Slot} {r : Byte} {p : Pair} {k : Nat} {s t u : State}

/-! ### The sample judged (R124, R125) -/

/-- R124: the first sample is below the threshold of an open motor. -/
def OpenMotor (r : Byte) (s : State) : Prop := s.mxd.supervision = true ∧ s.mxd.samples = 0 ∧ r.toNat < s.params.openThreshold

/-- R125: the third sample in a row is above the threshold of a stall. -/
def Stall (r : Byte) (s : State) : Prop :=
  s.mxd.supervision = true ∧ s.mxd.samples ≠ 0 ∧ s.params.stallThreshold < r.toNat ∧ s.mxd.stallRun = 2

theorem judgeSample_open (h : OpenMotor r s) : judgeSample s.params r s.mxd = .motorOpen := by
  obtain ⟨supervised, first, low⟩ := h
  simp [judgeSample, supervised, first, low]

theorem judgeSample_stall (h : Stall r s) : judgeSample s.params r s.mxd = .stall := by
  obtain ⟨supervised, later, high, run⟩ := h
  simp [judgeSample, supervised, later, high, run]

theorem judgeSample_quiet (h : ¬ OpenMotor r s) (g : ¬ Stall r s) : judgeSample s.params r s.mxd = .quiet := by
  unfold judgeSample
  split
  · rfl
  · next supervised =>
    have on : s.mxd.supervision = true := Bool.eq_true_of_not_eq_false supervised
    split
    · next first => exact if_neg fun low => h ⟨on, first, low⟩
    · next later => exact if_neg fun high => g ⟨on, later, high⟩

/-- R124, R125: the sample stored and counted. -/
def storedSample (r : Byte) (s u : State) : Mxd :=
  { u.mxd with
    lastSample := r, samples := s.mxd.samples + 1
    stallRun :=
      if s.mxd.supervision = false ∨ s.mxd.samples = 0 then s.mxd.stallRun
      else if s.params.stallThreshold < r.toNat then s.mxd.stallRun + 1 else 0 }

/-- R124, R125: a report closes supervision. -/
def reported (r : Byte) (s u : State) : State := { u with mxd := { storedSample r s u with supervision := false } }

/-- The time the sample of a drive is due at. -/
def sampled (s : State) (k : Nat) : State := reach (sampleTime s.mxd) k (openEvent s)

theorem takeSample_sampled (r : Byte) (s : State) (k : Nat) :
    takeSample s.params r (sampled s k).mxd =
      { storedSample r s (sampled s k) with
        supervision := s.mxd.supervision && judgeSample s.params r s.mxd == .quiet } := by
  obtain ⟨samples, supervision, run⟩ := reach_drive (sampleTime s.mxd) k (openEvent s)
  have judged : judgeSample s.params r (sampled s k).mxd = judgeSample s.params r s.mxd := by
    unfold judgeSample sampled
    rw [samples, supervision, run]
    rfl
  unfold takeSample
  rw [judged, sampled, samples, supervision, run]
  rfl

section
variable (latch : s.mxd.latch = some p) (energised : s.mxd.energised = some k) (normal : s.mxd.state = .normal)
include latch energised normal

theorem exec_currentSample :
    exec (.currentSample r) s =
      .next (refreshOutputs (runAgenda (takeReport (judgeSample s.params r s.mxd)
        ((sampled s k).modMxd (takeSample s.params r))))) := by
  have taken : sampleCurrent r (openEvent s) =
      runAgenda (takeReport (judgeSample s.params r s.mxd) ((sampled s k).modMxd (takeSample s.params r))) := by
    have l : (openEvent s).mxd.latch = some p := latch
    have e : (openEvent s).mxd.energised = some k := energised
    have n : (openEvent s).mxd.state = .normal := normal
    unfold sampleCurrent
    rw [l, e]
    dsimp only
    rw [if_pos n]
    rfl
  exact (event_next (sampleCurrent r) s).trans (by rw [taken])

theorem exec_currentSample_quiet (h : ¬ OpenMotor r s) (g : ¬ Stall r s) :
    exec (.currentSample r) s = .next (refreshOutputs { sampled s k with mxd := storedSample r s (sampled s k) }) := by
  have supervision : (sampled s k).mxd.supervision = s.mxd.supervision := (reach_drive ..).2.1
  have stored : (sampled s k).modMxd (takeSample s.params r) =
      { sampled s k with mxd := storedSample r s (sampled s k) } := by
    rw [State.modMxd, takeSample_sampled, judgeSample_quiet h g]
    simp [storedSample, ← supervision]
  rw [exec_currentSample latch energised normal, judgeSample_quiet h g, stored]
  exact congrArg (fun t => Host.Outcome.next (refreshOutputs t)) (runAgenda_nil (reach_agenda ..))

theorem exec_currentSample_report {c : CurrentReport} (judged : judgeSample s.params r s.mxd = c) (report : c ≠ .quiet) :
    exec (.currentSample r) s = .next (refreshOutputs (runAgenda (takeReport c (reported r s (sampled s k))))) := by
  have stored : (sampled s k).modMxd (takeSample s.params r) = reported r s (sampled s k) := by
    rw [State.modMxd, takeSample_sampled, judged, beq_eq_false_iff_ne.mpr report, Bool.and_false]
    rfl
  rw [exec_currentSample latch energised normal, judged, stored]

end

theorem reported_later (r : Byte) (s : State) (k : Nat) : Later s (reported r s (sampled s k)) :=
  have time : Later s (sampled s k) := reach_later ..
  { time with }

/-! ### A report with no motor set running (R115, R124) -/

/-- No motor is set running, by a vend or by a test. -/
structure Still (s : State) : Prop where
  vend : ∀ v, s.vsq.vend = some v → v.motorOn = false
  test : ∀ e, s.vsq.vend = none → s.vsq.test = some e → e.motorOn = false

theorem takeReport_still (h : Still u) (c : CurrentReport) : takeReport c u = u := by
  cases c with
  | quiet => rfl
  | motorOpen =>
    show takeMotorOpen u = u
    unfold takeMotorOpen
    split
    · next vend => exact if_neg (Bool.eq_false_iff.mp (h.vend _ vend))
    · next novend test => exact if_neg (Bool.eq_false_iff.mp (h.test _ novend test))
    · rfl
  | stall =>
    show takeJam u = u
    unfold takeJam
    split
    · next vend => exact if_neg (Bool.eq_false_iff.mp (h.vend _ vend))
    · next novend test => exact if_neg (Bool.eq_false_iff.mp (h.test _ novend test))
    · rfl

theorem reach_still (limit now : Nat) (h : Still s) : Still (reach limit now s) := by
  constructor
  · intro w later
    cases vend : s.vsq.vend with
    | none => cases (reach_novend limit now vend).symm.trans later
    | some v =>
      obtain ⟨x, aged, a, n, b, j, i, rfl⟩ := reach_vendAged limit now vend
      obtain rfl := Option.some.inj (aged.symm.trans later)
      exact h.vend v vend
  · intro e novend later
    cases test : s.vsq.test with
    | none =>
      have none : (reach limit now s).vsq.test = none := by
        rcases elapse_cases (limit - now) s with e | e <;> rw [reach, e]
        · exact test
        · exact congrArg (Option.map _) test
      cases none.symm.trans later
    | some y =>
      obtain ⟨b, j, aged⟩ := reach_testAged limit now test
      obtain rfl := Option.some.inj (aged.symm.trans later)
      cases vend : s.vsq.vend with
      | none => exact h.test y vend test
      | some v =>
        obtain ⟨x, some_, -⟩ := reach_vendAged limit now vend
        cases novend.symm.trans some_

/-! ### An open motor (R104) -/

/-- R104: the vend of an open motor. -/
def openVend (v : Vend) : Vend := { v with motorOn := false, jamTimer := none }

/-- R104: the motor stopped and its slot off-home and disabled. -/
def openStopped (v : Vend) (u : State) : State :=
  { u with
    mxd := { u.mxd with staging := none }
    vsq :=
      { u.vsq with
        vend := some (openVend v)
        slots := u.vsq.slots.modify v.selection.slot (Option.map fun t => { t with offHome := true, state := .disabled }) } }

theorem takeMotorOpen_vend (vend : u.vsq.vend = some v) (on : v.motorOn = true) :
    takeMotorOpen u = decideOutcome (if v.dropSeen then .vended else .motorFault) .motorOpen (openStopped v u) := by
  unfold takeMotorOpen
  rw [vend]
  dsimp only
  rw [if_pos on, stopMotor, modVend_of vend]
  rfl

theorem takeMotorOpen_test (novend : u.vsq.vend = none) (test : u.vsq.test = some e) (on : e.motorOn = true) :
    takeMotorOpen u = endTest .motorOpen (leaveHome e.slot u) := by
  unfold takeMotorOpen
  rw [novend, test]
  exact if_pos on

/-- R104: the slot of an open motor. -/
def openSlot (x : Slot) : Slot := { x with offHome := true, state := .disabled }

theorem slotAt_openStopped (slot : slotAt u v.selection.slot = some x) :
    slotAt (openStopped v u) v.selection.slot = some (openSlot x) :=
  (slotAt_modSlot_same v.selection.slot _ u).trans (congrArg (Option.map _) slot)

/-! ### The event, by the vend or the test it meets -/

/-- A vend decided in this event, with its pair latched, ends it. -/
theorem ends_latched {o : VendOutcome} {c : EndCause} {d : State} (decided : DecidedLatched o c v u d)
    (agenda : u.lbu.agenda = []) : Ends d (refreshOutputs (runAgenda d)) := by
  rw [runAgenda_nil (by rw [decided.lbu, agenda])]
  exact ⟨rfl, rfl, rfl, rfl, rfl, rfl⟩

section Running
variable (time : Later s u) (vend : u.vsq.vend = some v) (on : v.motorOn = true) (latched : Latched u)
  (slot : slotAt s v.selection.slot = some x)
include time vend on latched slot

/-- R104: the vend of an open motor is decided by the drop it has seen. -/
theorem motorOpen_ends {o : VendOutcome} (decides : (if v.dropSeen then .vended else .motorFault) = o) :
    let t := refreshOutputs (runAgenda (takeReport .motorOpen u))
    Decided o .motorOpen v t ∧ t.mxd = { u.mxd with staging := none } ∧
      slotAt t v.selection.slot = some (if v.dropSeen then SoldSlot (openSlot x) else openSlot x) := by
  let z := openStopped v u
  have decided : DecidedLatched o .motorOpen (openVend v) z (decideOutcome o .motorOpen z) :=
    decideOutcome_decidedLatched (u := z) rfl latched.of_eq
  have ends := ends_latched decided time.agenda
  have disabled : slotAt z v.selection.slot = some (openSlot x) := slotAt_openStopped (by rw [time.slotAt, slot])
  have slots : slotAt (decideOutcome o .motorOpen z) v.selection.slot =
      some (if v.dropSeen then SoldSlot (openSlot x) else openSlot x) := by
    refine (slotAt_congr decided.slots _).trans ?_
    subst decides
    cases v.dropSeen
    · exact disabled
    · exact (Opening.slotAt_vended_same v.selection.slot z).trans (congrArg (Option.map _) disabled)
  have made : takeReport .motorOpen u = decideOutcome o .motorOpen z := (takeMotorOpen_vend vend on).trans (by rw [decides])
  rw [made]
  exact ⟨decided.decided _ ends.vsq, ends.mxd.trans decided.mxd, (ends.slotAt _).trans slots⟩

omit latched in
/-- R103, R125: without a drop seen a stall leaves the vend waiting for one. -/
theorem stall_waits (undropped : v.dropSeen = false) :
    let t := refreshOutputs (runAgenda (takeReport .stall u))
    t.vsq.state = .dropWait ∧ t.mxd = { u.mxd with staging := none } ∧ slotAt t v.selection.slot = some (jammedSlot x) ∧
      t.ssu.totals.jams = min 65535 (s.ssu.totals.jams + 1) := by
  obtain ⟨state, -, -, jammed, -, totals, -⟩ := jam_waited (v := v) time slot
  have made : runAgenda (takeReport .stall u) = enterDropWait (jamStopped v u) := takeJam_waits time vend on undropped
  rw [made]
  exact ⟨state, rfl, jammed, congrArg AuditTotals.jams totals⟩

/-- R103, R125: with a drop seen a stall sells. -/
theorem stall_sells (dropped : v.dropSeen = true) :
    let t := refreshOutputs (runAgenda (takeReport .stall u))
    Decided .vended .jam v t ∧ t.mxd = { u.mxd with staging := none } ∧
      slotAt t v.selection.slot = some (SoldSlot (jammedSlot x)) ∧ t.ssu.totals.jams = min 65535 (s.ssu.totals.jams + 1) := by
  let z := jamStopped v u
  have decided : DecidedLatched .vended .jam (jammedVend v) z (decideOutcome .vended .jam z) :=
    decideOutcome_decidedLatched (u := z) rfl latched.of_eq
  have ends := ends_latched decided time.agenda
  obtain ⟨-, sold, -, jams, -⟩ := jam_sold time slot ends
  have made : takeReport .stall u = decideOutcome .vended .jam z := takeJam_sells vend on dropped
  rw [made]
  exact ⟨decided.decided _ ends.vsq, ends.mxd.trans decided.mxd, sold, jams⟩

end Running

/-- R115, R116: what a report leaves of a test. -/
theorem report_tested {b j : Option Nat} {c : CurrentReport} {y : TestResult} (time : Later s u) (novend : u.vsq.vend = none)
    (test : u.vsq.test = some { e with budgetTimer := b, jamTimer := j }) (on : e.motorOn = true) (latched : Latched u)
    (slot : slotAt s e.slot = some x) (result : (c = .motorOpen ∧ y = .motorOpen) ∨ (c = .stall ∧ y = .jammed)) :
    let t := refreshOutputs (runAgenda (takeReport c u))
    t.mxd = { u.mxd with staging := none } ∧ slotAt t e.slot = some { x with offHome := true } ∧
      (∀ n, n ≠ e.slot → slotAt t n = slotAt s n) ∧ t.ssu.totals = s.ssu.totals ∧
      t.vsq.test = some { e with motorOn := false, jamTimer := none, budgetTimer := none, result := some y } := by
  have made : runAgenda (takeReport c u) =
      { leaveHome e.slot u with
        mxd := { u.mxd with staging := none }
        vsq :=
          { (leaveHome e.slot u).vsq with
            test := some { e with result := some y, motorOn := false, budgetTimer := none, jamTimer := none } } } := by
    rcases result with ⟨rfl, rfl⟩ | ⟨rfl, rfl⟩
    · have opened : takeReport .motorOpen u = _ := takeMotorOpen_test novend test on
      rw [opened, endTest_latched (u := leaveHome _ u) test latched.of_eq]
      exact runAgenda_nil time.agenda
    · exact jam_tested time novend test on latched
  rw [made]
  refine ⟨rfl, ?_, fun n other => ?_, congrArg Ssu.totals time.ssu, rfl⟩
  · exact (Opening.slotAt_leaveHome_same e.slot u).trans (by rw [time.slotAt, slot]; rfl)
  · exact (Opening.slotAt_leaveHome_other other u).trans (time.slotAt n)

/-- Settles O39: a quiet sample, a report with no motor set running (`takeReport_still`), and a report that meets a vend
(`motorOpen_ends`, `stall_waits`, `stall_sells`) or a test (`report_tested`). -/
theorem currentSampleJudgesTheMotor : Obligations.CurrentSampleJudgesTheMotor := by
  intro r p k s latch energised normal
  let u := reported r s (sampled s k)
  have time : Later s u := reported_later r s k
  have opens (h : OpenMotor r s) :
      exec (.currentSample r) s = .next (refreshOutputs (runAgenda (takeReport .motorOpen u))) :=
    exec_currentSample_report latch energised normal (judgeSample_open h) nofun
  have stalls (h : Stall r s) : exec (.currentSample r) s = .next (refreshOutputs (runAgenda (takeReport .stall u))) :=
    exec_currentSample_report latch energised normal (judgeSample_stall h) nofun
  have latched (held : s.lbu.motor.state = .held) : Latched u := time.latched held (by rw [latch]; nofun)
  have aged {v : Vend} (vend : s.vsq.vend = some v) : ∃ w, u.vsq.vend = some w ∧ VendAged v w :=
    reach_vendAged _ _ (s := openEvent s) vend
  refine ⟨exec_currentSample_quiet latch energised normal, fun report off rests => ?_,
    fun v x vend on undropped slot held => ⟨fun h => ?_, fun h => ?_⟩,
    fun v x vend on dropped slot held => ⟨fun h => ?_, fun h => ?_⟩, fun e x novend test on slot held report => ?_⟩
  · have before := reach_still (sampleTime s.mxd) k (s := openEvent s) ⟨off, rests⟩
    have still : Still u := ⟨before.vend, before.test⟩
    have unmoved (c : CurrentReport) : refreshOutputs (runAgenda (takeReport c u)) = refreshOutputs u := by
      rw [takeReport_still still, runAgenda_nil time.agenda]
    rcases report with h | h
    · exact (opens h).trans (congrArg _ (unmoved _))
    · exact (stalls h).trans (congrArg _ (unmoved _))
  · obtain ⟨w, later, a, n, b, j, i, rfl⟩ := aged vend
    obtain ⟨decided, mxd, slots⟩ := motorOpen_ends time later on (latched held) slot (if_neg (Bool.eq_false_iff.mp undropped))
    exact ⟨_, opens h, decided, by rw [mxd], by rw [mxd]; rfl, by rw [mxd]; rfl,
      slots.trans (congrArg some (if_neg (Bool.eq_false_iff.mp undropped)))⟩
  · obtain ⟨w, later, a, n, b, j, i, rfl⟩ := aged vend
    obtain ⟨state, mxd, slots, jams⟩ := stall_waits time later on slot undropped
    exact ⟨_, stalls h, state, by rw [mxd], by rw [mxd]; rfl, by rw [mxd]; rfl, slots, jams⟩
  · obtain ⟨w, later, a, n, b, j, i, rfl⟩ := aged vend
    obtain ⟨decided, mxd, slots⟩ := motorOpen_ends time later on (latched held) slot (if_pos dropped)
    exact ⟨_, opens h, decided, by rw [mxd], by rw [mxd]; rfl, by rw [mxd]; rfl,
      slots.trans (congrArg some (if_pos dropped))⟩
  · obtain ⟨w, later, a, n, b, j, i, rfl⟩ := aged vend
    obtain ⟨decided, mxd, slots, jams⟩ := stall_sells time later on (latched held) slot dropped
    exact ⟨_, stalls h, decided, by rw [mxd], by rw [mxd]; rfl, by rw [mxd]; rfl, slots, jams⟩
  · obtain ⟨b, j, later⟩ := reach_testAged (sampleTime s.mxd) k (s := openEvent s) test
    have gone : u.vsq.vend = none := reach_novend _ _ (s := openEvent s) novend
    rcases report with h | h
    · obtain ⟨mxd, off, others, totals, ended⟩ := report_tested time gone later on (latched held) slot (.inl ⟨rfl, rfl⟩)
      exact ⟨_, opens h, by rw [mxd], by rw [mxd]; rfl, by rw [mxd]; rfl, off, others, totals, ended.trans (by rw [if_pos h.2.1])⟩
    · obtain ⟨mxd, off, others, totals, ended⟩ := report_tested time gone later on (latched held) slot (.inr ⟨rfl, rfl⟩)
      exact ⟨_, stalls h, by rw [mxd], by rw [mxd]; rfl, by rw [mxd]; rfl, off, others, totals, ended.trans (by rw [if_neg h.2.1])⟩

end Sys2Proof.Machine.Turning
end

section
/-! PROOFS. Obligation O37: the drop, counted spurious, remembered or deciding, and the window that ends without one (R54, R59, R105 to
R107). -/

namespace Sys2Proof.Machine.Turning

set_option Elab.async false

open Laws Intake Credits Keeping Announcing Requesting Queueing Deciding

variable {v w : Vend} {x : Slot} {g : Grant} {h : Hold} {s t u : State}

/-! ### The drop (R105, R107) -/

/-- The event begun, with the light curtain standing broken. -/
def curtained (s : State) : State := { openEvent s with inputs := { s.inputs with curtain := Filter.standing true } }

theorem exec_drop (runs : s.phase = .running) : exec .drop s = .next (refreshOutputs (runAgenda (takeDrop (curtained s)))) := by
  show Host.Outcome.next (refreshOutputs (running (fun u => runAgenda (takeDrop u)) _)) = _
  rw [running_eq (by exact runs)]
  rfl

/-- R105: a drop with no armed window. -/
theorem takeDrop_spurious (unarmed : ∀ v, u.vsq.vend = some v → v.windowArmed = false) :
    takeDrop u = u.modTotals fun n => { n with spuriousDrops := countUp n.spuriousDrops 1 } := by
  unfold takeDrop
  dsimp only
  split
  · next vend => exact if_neg (Bool.eq_false_iff.mp (unarmed _ vend))
  · rfl

/-- R105: the vend with its drop seen. -/
def droppedVend (v : Vend) : Vend := { v with dropSeen := true, windowArmed := false }

/-- R105: the drop of the armed window, before what it decides. -/
def dropped (v : Vend) (u : State) : State := { u with vsq := { u.vsq with vend := some (droppedVend v) } }

/-- R105, R106: the drop of an armed window decides the vend in DROP-WAIT alone. -/
theorem takeDrop_armed (vend : u.vsq.vend = some v) (armed : v.windowArmed = true) :
    takeDrop u = if u.vsq.state = .dropWait then decideOutcome .vended .drop (dropped v u) else dropped v u := by
  unfold takeDrop
  rw [vend]
  dsimp only
  rw [if_pos armed, modVend_of vend]
  rfl

theorem takeDrop_remembers (vend : u.vsq.vend = some v) (armed : v.windowArmed = true) (early : u.vsq.state ≠ .dropWait) :
    takeDrop u = dropped v u := by rw [takeDrop_armed vend armed, if_neg early]

theorem takeDrop_decides (vend : u.vsq.vend = some v) (armed : v.windowArmed = true) (waits : u.vsq.state = .dropWait) :
    takeDrop u = decideOutcome .vended .drop (dropped v u) := by rw [takeDrop_armed vend armed, if_pos waits]

/-- R107, R108: what the deciding drop leaves of the slots and the totals. -/
theorem drop_sold (time : Later s u) (slot : slotAt s v.selection.slot = some x)
    (ends : Ends (decideOutcome .vended .drop (dropped v u)) t) :
    t.mxd.staging = none ∧ slotAt t v.selection.slot = some (SoldSlot x) ∧
      (∀ n, n ≠ v.selection.slot → slotAt t n = slotAt s n) ∧
      t.ssu.totals.vendSum = min 65535 (s.ssu.totals.vendSum + 1) ∧
      t.ssu.totals.vendCounts = (s.ssu.totals.vendCounts.modify v.selection.slot fun n => min 65535 (n + 1)) := by
  let e := dropped v u
  have leaves : DecisionLeaves .vended .drop (droppedVend v) e (decideOutcome .vended .drop e) := decideOutcome_leaves rfl
  have counted : Counted (slotOutcome v.selection.slot .vended e) (decideOutcome .vended .drop e) :=
    decideOutcome_counted (u := e) (v := droppedVend v) rfl time.first
  obtain ⟨sold, others⟩ := slotAt_sells leaves ((time.slotAt _).trans slot)
  refine ⟨by rw [ends.mxd, leaves.staging], (ends.slotAt _).trans sold, fun n other => ?_, ?_, ?_⟩
  · exact ((ends.slotAt n).trans (others n other)).trans (time.slotAt n)
  · rw [ends.ssu, counted.sum, ← time.ssu]; rfl
  · rw [ends.ssu, counted.counts, ← time.ssu]; rfl

theorem curtained_later (s : State) : Later s (curtained s) := ⟨rfl, rfl, rfl, rfl, rfl, rfl, rfl, rfl, rfl, rfl, rfl⟩

/-- The room in the transmit queue that a decision needs. -/
structure Roomy (v : Vend) (s : State) : Prop where
  link : s.lnk.state ≠ .listenOnly
  short : s.lnk.queue.length < 4
  home : v.payment = .own → s.lnk.queue.length < 3
  unsettled : v.settled = false
  empty : s.vsq.queue = []

/-- R108, R109: a vend decided at `u`, in the event of `s`, is decided at the end of the event. -/
theorem Roomy.decides {o : VendOutcome} {c : EndCause} (roomy : Roomy w s) (time : Later s u) (vend : u.vsq.vend = some v)
    (payment : v.payment = w.payment) (settled : v.settled = w.settled) :
    let t := refreshOutputs (runAgenda (decideOutcome o c u))
    Ends (decideOutcome o c u) t ∧ Decided o c v t := by
  have ends : Ends (decideOutcome o c u) _ := decideOutcome_ends (o := o) (c := c) vend (time.empty.trans roomy.empty)
  have up : u.lnk.state ≠ .listenOnly := fun h => roomy.link (time.link.symm.trans h)
  have room {n : Nat} (short : s.lnk.queue.length < n) : reserved (places u) ≤ n := reserved_of_short (by rwa [time.queue])
  exact ⟨ends, decided_of_ends vend time.first up (settled.trans roomy.unsettled) (room roomy.short)
    (fun own => room (roomy.home (payment.symm.trans own))) ends⟩

/-! ### The window that ends without a drop (R106) -/

/-- R106: the vend with its window ended. -/
def unwindowed (v : Vend) : Vend := { v with windowArmed := false, windowTimer := none }

/-- R106: the window ended. -/
def windowOver (v : Vend) (u : State) : State := { u with vsq := { u.vsq with vend := some (unwindowed v) } }

theorem endWindow_eq (vend : u.vsq.vend = some w) (slot : slotAt u v.selection.slot = some x) :
    endWindow v u =
      if 0 < v.extraLeft ∧ v.doorOpened = false ∧ tooWarm u x = false then extraTurn v.selection.slot (windowOver w u)
      else if v.doorOpened = true ∧ (0 < v.extraLeft ∨ v.doorStop = true) then decideOutcome .aborted .door (windowOver w u)
      else if v.jammed then decideOutcome .jammed .jam (windowOver w u)
      else decideOutcome .noProduct .windowEnd (windowOver w u) := by
  unfold endWindow
  rw [modVend_of vend, slot]
  rfl

theorem tooWarm_reach (limit now : Nat) (s : State) (x : Slot) : tooWarm (reach limit now s) x = tooWarm s x := by
  unfold tooWarm
  rw [reach_params, reach_sellableCold]

theorem exec_dropWindowExpiry {k : Nat} (vend : s.vsq.vend = some v) (timer : v.windowTimer = some k) (waits : s.vsq.state = .dropWait) :
    exec .dropWindowExpiry s = .next (refreshOutputs (runAgenda (endWindow v (reach Config.dropWindow k (openEvent s))))) := by
  have ends : endDropWindow (openEvent s) = runAgenda (endWindow v (reach Config.dropWindow k (openEvent s))) := by
    have stands : (openEvent s).vsq.vend = some v := vend
    have state : (openEvent s).vsq.state = .dropWait := waits
    unfold endDropWindow
    rw [stands]
    dsimp only
    rw [timer]
    exact if_pos state
  exact (event_next endDropWindow s).trans (by rw [ends])

/-- R106: a missed slot, SOLD-OUT with its second miss in a row. -/
theorem missed_eq (x : Slot) :
    x.missed =
      { x with
        noDropRun := min 2 (x.noDropRun + 1)
        state := if 1 ≤ x.noDropRun ∧ x.state = .ready then .soldOut else x.state } := by
  have second : min 2 (x.noDropRun + 1) = 2 ↔ 1 ≤ x.noDropRun := by omega
  unfold Slot.missed
  dsimp only
  by_cases run : 1 ≤ x.noDropRun
  · rw [if_pos (second.mpr run)]
    cases x.state <;> simp [run, SlotState.sellOut]
  · rw [if_neg (mt second.mp run), if_neg fun h => run h.1]

/-- R106: what an ending of the window leaves of the motor and of the slot. -/
theorem windowOver_ends {o : VendOutcome} {c : EndCause} (time : Later s u) (slot : slotAt s w.selection.slot = some x)
    (ends : Ends (decideOutcome o c (windowOver w u)) t) (unsold : o ≠ .vended) :
    t.mxd.staging = none ∧ slotAt t w.selection.slot = some (if o = .noProduct then x.missed else x) := by
  have leaves : DecisionLeaves o c (unwindowed w) (windowOver w u) _ := decideOutcome_leaves rfl
  refine ⟨by rw [ends.mxd, leaves.staging], ?_⟩
  have before : slotAt (windowOver w u) w.selection.slot = some x := (time.slotAt _).trans slot
  rw [ends.slotAt, Opening.slotAt_of_leaves leaves]
  split
  · next missed =>
    subst missed
    exact (slotAt_modSlot_same w.selection.slot _ _).trans (congrArg (Option.map _) before)
  · next others =>
    have same : slotOutcome w.selection.slot o (windowOver w u) = windowOver w u := by
      unfold slotOutcome
      split
      · exact absurd rfl unsold
      · exact absurd rfl others
      · rfl
    exact (congrArg (fun z => slotAt z w.selection.slot) same).trans before

/-- R106: the window that ends without a drop, with an extra turn left. -/
theorem exec_dropWindowExpiry_turns {k : Nat} (vend : s.vsq.vend = some v) (timer : v.windowTimer = some k)
    (waits : s.vsq.state = .dropWait) (slot : slotAt s v.selection.slot = some x)
    (turns : 0 < v.extraLeft ∧ v.doorOpened = false ∧ tooWarm s x = false) :
    let u := reach Config.dropWindow k (openEvent s)
    exec .dropWindowExpiry s =
      .next (refreshOutputs
        { u with
          mxd := { u.mxd with staging := some (pairOf v.selection.slot) }
          vsq :=
            { u.vsq with
              state := .running
              vend :=
                u.vsq.vend.map fun w =>
                  { w with
                    motorOn := true, pulses := 1, extraLeft := v.extraLeft - 1, jamTimer := some 0, windowArmed := true
                    windowTimer := none } } }) := by
  have time : Later s (reach Config.dropWindow k (openEvent s)) := reach_later ..
  have warm : tooWarm (reach Config.dropWindow k (openEvent s)) x = tooWarm s x := tooWarm_reach _ _ (openEvent s) x
  obtain ⟨w, later, a, n, b, j, i, rfl⟩ := reach_vendAged Config.dropWindow k (s := openEvent s) vend
  rw [exec_dropWindowExpiry vend timer waits, endWindow_eq later (by rw [time.slotAt, slot]), if_pos (by rw [warm]; exact turns)]
  dsimp only
  generalize reach Config.dropWindow k (openEvent s) = u at *
  rw [later]
  exact congrArg (fun t => Host.Outcome.next (refreshOutputs t)) (runAgenda_nil time.agenda)

/-- R106: the window that ends without a drop ends the vend in the order of the causes. -/
theorem exec_dropWindowExpiry_ends {k : Nat} (vend : s.vsq.vend = some v) (timer : v.windowTimer = some k)
    (waits : s.vsq.state = .dropWait) (slot : slotAt s v.selection.slot = some x) (roomy : Roomy v s)
    (ended : ¬ (0 < v.extraLeft ∧ v.doorOpened = false ∧ tooWarm s x = false)) {o : VendOutcome} {c : EndCause}
    (decides : (o, c) =
      if v.doorOpened = true ∧ (0 < v.extraLeft ∨ v.doorStop = true) then (.aborted, .door)
      else if v.jammed then (.jammed, .jam) else (.noProduct, .windowEnd)) :
    ∃ t, exec .dropWindowExpiry s = .next t ∧ t.mxd.staging = none ∧ Decided o c v t ∧
      slotAt t v.selection.slot = some (if o = .noProduct then x.missed else x) ∧
      ∀ g h, v.granted = some g → v.payment = .own → HomeHold g h s → HomeReturned h s t := by
  let u := reach Config.dropWindow k (openEvent s)
  have time : Later s u := reach_later ..
  have warm : tooWarm u x = tooWarm s x := tooWarm_reach _ _ (openEvent s) x
  obtain ⟨w, later, a, n, b, j, i, rfl⟩ := reach_vendAged Config.dropWindow k (s := openEvent s) vend
  let w : Vend := { v with asked := a, settling := n, budgetTimer := b, jamTimer := j, windowTimer := i }
  have made : endWindow v u = decideOutcome o c (windowOver w u) ∧ settleResult o = .notVended ∧ o ≠ .vended := by
    rw [endWindow_eq (u := u) (v := v) (w := w) later (by rw [time.slotAt, slot]), if_neg (by rw [warm]; exact ended)]
    split at decides
    · next aborted =>
      obtain ⟨rfl, rfl⟩ := Prod.mk.inj decides
      exact ⟨if_pos aborted, rfl, nofun⟩
    · next open_ =>
      rw [if_neg open_]
      split at decides
      · next jammed =>
        obtain ⟨rfl, rfl⟩ := Prod.mk.inj decides
        exact ⟨if_pos jammed, rfl, nofun⟩
      · next free =>
        obtain ⟨rfl, rfl⟩ := Prod.mk.inj decides
        exact ⟨if_neg free, rfl, nofun⟩
  obtain ⟨made, unsold, lost⟩ := made
  have after : Later s (windowOver w u) := { time with }
  obtain ⟨ends, decided⟩ := roomy.decides (o := o) (c := c) (v := unwindowed w) after rfl rfl rfl
  obtain ⟨staging, slots⟩ := windowOver_ends (w := w) time slot ends lost
  have event := exec_dropWindowExpiry vend timer waits
  rw [made] at event
  refine ⟨_, event, staging, decided, slots, fun g h granted own home => ?_⟩
  obtain ⟨m, l, held, session⟩ := reach_homeHold Config.dropWindow k (s := openEvent s) home
  have room : reserved (places (windowOver w u)) ≤ 3 :=
    reserved_of_short ((congrArg List.length after.queue).trans_lt (roomy.home own))
  have up : (windowOver w u).lnk.state ≠ .listenOnly := fun h => roomy.link (after.link.symm.trans h)
  obtain ⟨now_, books, credit⟩ := decideOutcome_returns (o := o) (c := c) (u := windowOver w u) (v := unwindowed w) rfl
    after.first granted own held unsold up room
  exact homeReturned_of_reach session ⟨by rw [ends.cru]; exact now_, by rw [ends.cru]; exact books, ends.awaits credit⟩

/-- Settles O37: the drop by the window it meets (`takeDrop_spurious`, `takeDrop_remembers`, `takeDrop_decides`), and the end of the window
(`exec_dropWindowExpiry_turns`, `exec_dropWindowExpiry_ends`). -/
theorem dropAndItsWindow : Obligations.DropAndItsWindow := by
  refine ⟨fun s runs => ⟨fun unarmed => ?_, fun v vend armed early => ?_, fun v x vend armed waits unsettled slot empty short home link => ?_⟩,
    fun v k x s vend timer waits slot empty short home link unsettled => ?_⟩
  · rw [exec_drop runs, takeDrop_spurious (u := curtained s) unarmed]
    exact congrArg (fun t => Host.Outcome.next (refreshOutputs t)) (runAgenda_nil rfl)
  · rw [exec_drop runs, takeDrop_remembers (u := curtained s) vend armed early]
    exact congrArg (fun t => Host.Outcome.next (refreshOutputs t)) (runAgenda_nil rfl)
  · let e := dropped v (curtained s)
    have roomy : Roomy v s := ⟨link, short, home, unsettled, empty⟩
    have time : Later s e := { curtained_later s with }
    obtain ⟨ends, decided⟩ := roomy.decides (o := .vended) (c := .drop) (v := droppedVend v) time rfl rfl rfl
    obtain ⟨staging, sold, others, sum, counts⟩ := drop_sold (curtained_later s) slot ends
    have event := exec_drop runs
    rw [takeDrop_decides (u := curtained s) vend armed waits] at event
    refine ⟨_, event, decided, staging, sold, others, sum, counts, fun elsewhere => ?_, fun g h granted own home => ?_⟩
    · obtain ⟨cru, ssu⟩ := decideOutcome_elsewhere (o := .vended) (c := .drop) (u := e) (v := droppedVend v) rfl elsewhere
      rw [ends.ssu, ends.cru, cru, ssu]
      exact ⟨rfl, rfl⟩
    · rw [ends.cru, ends.ssu]
      exact decideOutcome_sells (u := e) (v := droppedVend v) rfl rfl granted own home rfl
  · have roomy : Roomy v s := ⟨link, short, home, unsettled, empty⟩
    dsimp only
    split
    · next turns => exact exec_dropWindowExpiry_turns vend timer waits slot turns
    · next ended =>
      by_cases aborted : v.doorOpened = true ∧ (0 < v.extraLeft ∨ v.doorStop = true)
      · obtain ⟨t, event, staging, decided, same, home⟩ :=
          exec_dropWindowExpiry_ends vend timer waits slot roomy ended (if_pos aborted).symm
        exact ⟨t, event, staging, fun _ => ⟨decided, same⟩, fun n => absurd aborted n, fun n => absurd aborted n, home⟩
      · by_cases jammed : v.jammed = true
        · obtain ⟨t, event, staging, decided, same, home⟩ :=
            exec_dropWindowExpiry_ends vend timer waits slot roomy ended ((if_neg aborted).trans (if_pos jammed)).symm
          exact ⟨t, event, staging, fun y => absurd y aborted, fun _ _ => ⟨decided, same⟩,
            fun _ n => (nomatch jammed.symm.trans n), home⟩
        · obtain ⟨t, event, staging, decided, missed, home⟩ :=
            exec_dropWindowExpiry_ends vend timer waits slot roomy ended ((if_neg aborted).trans (if_neg jammed)).symm
          rw [if_pos rfl, missed_eq] at missed
          exact ⟨t, event, staging, fun y => absurd y aborted, fun _ y => absurd y jammed, fun _ _ => ⟨decided, missed⟩, home⟩

end Sys2Proof.Machine.Turning
end

section
/-! PROOFS. The transmit queue through the acts of the load table, of the money and of the vend (R158, R165, R168): what waits goes on to
wait, LISTEN-ONLY adds nothing, and none of them answers the tool. -/

namespace Sys2Proof.Machine.Lasting

set_option Elab.async false

open Laws Intake Queueing

variable {s t u : State}

/-- From `s` to `t` the link stands, every waiting frame but a CLAIM goes on to wait, LISTEN-ONLY adds no frame, and no SERVICE-ANSWER
is added. -/
structure Lasts (s t : State) : Prop where
  link : t.lnk.state = s.lnk.state
  waits : ∀ f, isClaimFrame f = false → Awaits f s → Awaits f t
  quiet : s.lnk.state = .listenOnly → ∀ e ∈ t.lnk.queue, e ∈ s.lnk.queue
  answers : ∀ e ∈ t.lnk.queue, ∀ d g r x, e.frame = .serviceAnswer d g r x → ∃ y ∈ s.lnk.queue, y.frame = e.frame

namespace Lasts

theorem refl (s : State) : Lasts s s := ⟨rfl, fun _ _ => id, fun _ _ => id, fun e h _ _ _ _ _ => ⟨e, h, rfl⟩⟩

theorem trans (h : Lasts s t) (g : Lasts t u) : Lasts s u where
  link := g.link.trans h.link
  waits f lasts waits := g.waits f lasts (h.waits f lasts waits)
  quiet listens e mem := h.quiet listens e (g.quiet (h.link.trans listens) e mem)
  answers e mem d n r x is := by
    obtain ⟨y, hy, same⟩ := g.answers e mem d n r x is
    obtain ⟨z, hz, before⟩ := h.answers y hy d n r x (same.trans is)
    exact ⟨z, hz, before.trans same⟩

theorem of_queue (link : t.lnk.state = s.lnk.state) (queue : t.lnk.queue = s.lnk.queue) : Lasts s t := by
  refine ⟨link, fun f _ waits => ?_, fun _ e mem => queue ▸ mem, fun e mem _ _ _ _ _ => ⟨e, queue ▸ mem, rfl⟩⟩
  unfold Awaits at *
  rwa [queue]

theorem of_lnk (h : t.lnk = s.lnk := by simp) : Lasts s t := .of_queue (by rw [h]) (by rw [h])

/-- An act before which nothing of the link changes. -/
theorem from_ (h : Lasts t u) (same : t.lnk = s.lnk := by rfl) : Lasts s u := (of_lnk same).trans h

/-- An act after which nothing of the link changes. -/
theorem to_ (h : Lasts s t) (same : u.lnk = t.lnk := by rfl) : Lasts s u := h.trans (of_lnk same)

theorem ite {c : Prop} [Decidable c] (h : Lasts s t) (g : Lasts s u) : Lasts s (if c then t else u) := by
  split
  · exact h
  · exact g

end Lasts

/-! ### The operations of the queue (R168) -/

/-- A frame that is no answer to the tool. -/
def Plain (f : Frame) : Prop := ∀ d g r x, f ≠ .serviceAnswer d g r x

theorem request_lasts {f : Frame} (plain : Plain f) (s : State) : Lasts s (request f s).1 := by
  rcases request_cases f s with ⟨e, -⟩ | ⟨e, listens, -, -⟩ | ⟨e, listens, -, -⟩ <;> rw [e]
  · exact .refl s
  · have awake : s.lnk.state ≠ .listenOnly := fun h => absurd ((listenOnly_iff s).mpr h) (Bool.eq_false_iff.mp listens)
    refine ⟨rfl, fun g _ ⟨e, mem, is, off⟩ => ?_, fun h => absurd h awake, fun e mem _ _ _ _ is => ?_⟩
    · exact ⟨_, List.mem_map_of_mem mem, by split <;> exact is, by split <;> exact off⟩
    · obtain ⟨y, hy, rfl⟩ := List.mem_map.mp mem
      exact ⟨y, hy, by split <;> rfl⟩
  · have awake : s.lnk.state ≠ .listenOnly := fun h => absurd ((listenOnly_iff s).mpr h) (Bool.eq_false_iff.mp listens)
    refine ⟨rfl, fun g _ ⟨e, mem, stands⟩ => ⟨e, List.mem_append_left _ mem, stands⟩, fun h => absurd h awake,
      fun e mem d n r x is => ?_⟩
    rcases List.mem_append.mp mem with before | new
    · exact ⟨e, before, rfl⟩
    · rw [List.mem_singleton.mp new] at is
      exact absurd is (plain d n r x)

theorem send_lasts {f : Frame} (s : State) (plain : Plain f := by intro _ _ _ _ h; cases h) : Lasts s (send f s) :=
  request_lasts plain s

theorem queueStatus_lasts (s : State) : Lasts s (queueStatus s) := by
  have asked : Lasts s (request .status s).1 := request_lasts (fun _ _ _ _ h => by cases h) s
  exact .ite (asked.trans (.of_queue rfl rfl)) asked

theorem removeClaim_lasts (k : LoadKind) (q : Byte) (s : State) : Lasts s (removeClaim k q s) := by
  have sub : ∀ e ∈ (removeClaim k q s).lnk.queue, e ∈ s.lnk.queue := fun e mem => (List.mem_filter.mp mem).1
  refine ⟨rfl, fun f lasts ⟨e, mem, is, off⟩ => ⟨e, List.mem_filter.mpr ⟨mem, ?_⟩, is, off⟩, fun _ => sub,
    fun e mem _ _ _ _ _ => ⟨e, sub e mem, rfl⟩⟩
  rw [is, isClaim_of_lasting lasts]
  rfl

theorem queueCredit_lasts (s : State) : Lasts s (queueCredit s) :=
  have asked : Lasts s (request .credit s).1 := request_lasts (fun _ _ _ _ h => by cases h) s
  .ite (.refl s) asked.to_

/-! ### The load table (Chapter 9) -/

theorem announceChange_lasts (s : State) : Lasts s (announceChange s) :=
  (.of_queue rfl rfl : Lasts s (s.modLnk _)).trans (queueStatus_lasts _)

theorem sendRelease_lasts (k : LoadKind) (q : Byte) (s : State) : Lasts s (sendRelease k q s) :=
  (send_lasts s).trans (announceChange_lasts _)

theorem grantLoad_lasts (k : LoadKind) (s : State) : Lasts s (grantLoad k s) :=
  ((announceChange_lasts (modLoad k _ s)).from_).to_

theorem queueClaim_lasts (k : LoadKind) (s : State) : Lasts s (queueClaim k s) := by
  unfold queueClaim
  dsimp only
  split
  · have asked : Lasts s (request (.claim k (s.lbu.load k).cls (s.lbu.load k).amount (s.lbu.claimCounter + 1)) s).1 :=
      request_lasts (fun _ _ _ _ h => by cases h) s
    exact asked.to_
  · exact .of_lnk

theorem testOne_lasts (k : LoadKind) (s : State) : Lasts s (testOne k s) := by
  have unpassed : Lasts s (modLoad k (fun l => { l with metFull := false }) s) := .of_lnk
  exact .ite (.refl s) (.ite (.ite (grantLoad_lasts k s) unpassed) (.ite (.refl s) (.ite (queueClaim_lasts k s) unpassed)))

theorem testWaiting_lasts (s : State) : Lasts s (testWaiting s) :=
  (testOne_lasts .motor s).trans ((testOne_lasts .compressor _).trans (testOne_lasts .heater _))

theorem testOthers_lasts (k : LoadKind) (s : State) : Lasts s (testOthers k s) :=
  have one (j : LoadKind) (u : State) : Lasts u (if j = k then u else testOne j u) := .ite (.refl u) (testOne_lasts j u)
  (one .motor s).trans ((one .compressor _).trans (one .heater _))

theorem testRecord_lasts (k : LoadKind) (s : State) : Lasts s (testRecord k s) :=
  .ite (testOne_lasts k s) ((testOne_lasts k s).trans (testOthers_lasts k _))

theorem askLoad_lasts (k : LoadKind) (c : ClaimClass) (a : Nat) (s : State) : Lasts s (askLoad k c a s) :=
  .ite ((testRecord_lasts k _).from_) (.refl s)

theorem retestQueued_lasts (k : LoadKind) (s : State) : Lasts s (retestQueued k s) := .ite ((removeClaim_lasts k _ s).to_) (.refl s)

theorem tableChanged_lasts (s : State) : Lasts s (tableChanged s) :=
  ((retestQueued_lasts .motor (clearHeldOff s)).from_).trans
    ((retestQueued_lasts .compressor _).trans ((retestQueued_lasts .heater _).trans (testWaiting_lasts _)))

theorem afterTable_lasts (before s : State) : Lasts s (afterTable before s) := .ite (.refl s) (tableChanged_lasts s)

theorem withdrawLoad_lasts (k : LoadKind) (s : State) : Lasts s (withdrawLoad k s) := by
  have cleared : Lasts s (clearLoad k s) := .of_lnk rfl
  unfold withdrawLoad
  dsimp only
  split
  · exact .ite (cleared.trans (testWaiting_lasts _)) cleared
  · exact .trans (.ite ((sendRelease_lasts k _ _).from_) ((removeClaim_lasts k _ s).to_)) (testWaiting_lasts _)
  · exact ((sendRelease_lasts k _ (clearLoad k s)).from_).trans (testWaiting_lasts _)
  · exact .refl s
  · exact .refl s

theorem releaseLoad_lasts (k : LoadKind) (s : State) : Lasts s (releaseLoad k s) :=
  .ite (((announceChange_lasts (clearLoad k s)).from_).trans (testWaiting_lasts _)) (.refl s)

/-! ### The session (Chapters 3 and 4) -/

theorem raiseVersion_lasts (s : State) : Lasts s (raiseVersion s) := .ite (.refl s) ((queueCredit_lasts _).from_)

theorem reevaluateExact_lasts (s : State) : Lasts s (reevaluateExact s) := .ite (.refl s) ((queueStatus_lasts _).from_)

theorem enterIdle_lasts (s : State) : Lasts s (enterIdle s) := ((raiseVersion_lasts _).from_).trans (reevaluateExact_lasts _)

theorem enterOpen_lasts (s : State) : Lasts s (enterOpen s) := (raiseVersion_lasts _).from_

theorem payoutShort_lasts (s : State) : Lasts s (payoutShort s) := ((enterOpen_lasts _).from_).trans (reevaluateExact_lasts _)

theorem coinStep_lasts (s : State) : Lasts s (coinStep s) := by
  unfold coinStep
  refine .ite ((enterIdle_lasts _).from_) ?_
  split
  · exact .of_lnk rfl
  · exact payoutShort_lasts s

theorem enterPaying_lasts (s : State) : Lasts s (enterPaying s) := by
  have begun : Lasts s (raiseVersion (s.modSession fun c =>
      { c with state := .paying, escrowPending := false, idleTimer := none })) := (raiseVersion_lasts _).from_
  exact .ite begun.to_ (begun.trans (coinStep_lasts _))

theorem afterSettle_lasts (r : SettleResult) (s : State) : Lasts s (afterSettle r s) :=
  .ite (.ite ((enterIdle_lasts _).from_) ((enterPaying_lasts _).from_))
    (.ite (enterPaying_lasts s) (.ite (enterIdle_lasts s) (enterOpen_lasts s)))

theorem takeSettle_lasts (r : Station) (tag n : Byte) (x : SettleResult) (s : State) : Lasts s (takeSettle r tag n x s).1 := by
  rcases takeSettle_cases r tag n x s with ⟨-, e⟩ | ⟨-, e⟩ <;> rw [e]
  · exact (afterSettle_lasts x (endHold x s)).from_ (endHold_lnk ..)
  · exact .refl s

theorem takeDebit_lasts (r : Station) (n : Byte) (a : Nat) (tag : Byte) (x : Option Half) (s : State) :
    Lasts s (takeDebit r n a tag x s).1 := .ite ((raiseVersion_lasts _).from_) (.refl s)

/-! ### The vend (Chapters 5 and 6) -/

theorem sendSettle_lasts (v : Vend) (tag n : Byte) (r : SettleResult) (k : Nat) (s : State) : Lasts s (sendSettle v tag n r k s) :=
  have sent : Lasts s (send (.settle v.selection.creditStation tag n r) s) := send_lasts s
  sent.to_

theorem settleVend_lasts (v : Vend) (o : VendOutcome) (s : State) : Lasts s (settleVend v o s) := by
  unfold settleVend
  split
  · exact .ite ((takeSettle_lasts ..).to_ (countUnpaid_lnk ..)) (sendSettle_lasts v _ _ _ 1 s)
  · split
    · exact sendSettle_lasts v _ _ _ 1 s
    · exact .of_lnk rfl

theorem giveUpMotor_lasts (s : State) : Lasts s (giveUpMotor s) :=
  .ite (.ite (releaseLoad_lasts .motor s) (.refl s)) (withdrawLoad_lasts .motor s)

theorem answerPanel_lasts (r : Selection) (o : VendOutcome) (p : Nat) (s : State) : Lasts s (answerPanel r o p s) := send_lasts s

theorem tryLeave_lasts (s : State) : Lasts s (tryLeave s) := by
  unfold tryLeave
  split
  · exact .ite ((answerPanel_lasts ..).to_) (.refl s)
  · exact .refl s

theorem decideOutcome_lasts (o : VendOutcome) (c : EndCause) (s : State) : Lasts s (decideOutcome o c s) := by
  cases vend : s.vsq.vend with
  | none => unfold decideOutcome; rw [vend]; exact .refl s
  | some v =>
    rw [Requesting.decideOutcome_eq vend]
    exact ((giveUpMotor_lasts (Requesting.deciding o c v s)).from_ (slotOutcome_lnk ..)).trans
      ((settleVend_lasts v o _).trans (tryLeave_lasts _))

theorem endUnpaid_lasts (o : VendOutcome) (s : State) : Lasts s (endUnpaid o s) := (decideOutcome_lasts _ _ _).from_

theorem enterClaiming_lasts (s : State) : Lasts s (enterClaiming s) := (askLoad_lasts _ _ _ _).from_

theorem askDebit_lasts (v : Vend) (n : Byte) (x : Option Half) (retry : Bool) (s : State) : Lasts s (askDebit v n x retry s) := by
  have asked : Lasts s (request (.debit v.selection.creditStation n v.price (nextTag s) x) (takeTag s)).1 :=
    (request_lasts (fun _ _ _ _ h => by cases h) _).from_
  exact .ite asked.to_ (asked.trans (endUnpaid_lasts _ _))

theorem debitAtHome_lasts (v : Vend) (s : State) : Lasts s (debitAtHome v s) := by
  unfold debitAtHome
  extract_lets tag c r
  have taken : Lasts s r.1 := (takeDebit_lasts _ _ _ _ _ (takeTag s)).from_
  exact .ite (taken.trans ((enterClaiming_lasts _).from_)) (taken.trans (endUnpaid_lasts _ _))

theorem startVend_lasts (r : Selection) (p : Nat) (s : State) : Lasts s (startVend r p s) := by
  have debits (v : Vend) (u : State) : Lasts u (enterDebiting v u) :=
    .ite ((debitAtHome_lasts v _).from_) ((askDebit_lasts v _ _ _ _).from_)
  exact .ite ((enterClaiming_lasts _).from_) ((debits _ _).from_)

theorem takeHead_lasts (s : State) : Lasts s (takeHead s) := by
  unfold takeHead
  split
  · split
    · exact .refl s
    · next r rest _ =>
      split
      · next o p _ =>
        have answered : Lasts (s.modVsq fun q => { q with queue := rest }) (answerPanel r o p _) := answerPanel_lasts ..
        exact (answered.from_).to_
      · exact (startVend_lasts _ _ _).from_
  · exact .refl s

theorem motorGranted_lasts (s : State) : Lasts s (motorGranted s) := by
  unfold motorGranted
  split
  · split
    · split
      · exact .ite (decideOutcome_lasts _ _ s) (.of_lnk rfl)
      · exact .refl s
    · split
      · exact .ite (.of_lnk rfl) (.refl s)
      · exact .refl s
    · exact .refl s
  · exact .refl s

theorem takeSignal_lasts (g : Signal) (s : State) : Lasts s (takeSignal g s) := by
  unfold takeSignal
  split
  · exact motorGranted_lasts s
  · exact .of_lnk
  · exact .of_lnk
  · exact takeHead_lasts s

theorem runAgenda_lasts (s : State) : Lasts s (runAgenda s) := by
  have any (n : Nat) (u : State) : Lasts u (runAgendaFor n u) := by
    induction n generalizing u with
    | zero => exact .refl u
    | succ n ih =>
      unfold runAgendaFor
      split
      · exact .refl u
      · exact ((takeSignal_lasts _ _).from_).trans (ih _)
  exact any 32 s

end Sys2Proof.Machine.Lasting
end

section
/-! PROOFS. Obligation O60: the motor test, refused, ended at once or asking for its MOTOR load (R115, R116, R152, R153, R161). -/

namespace Sys2Proof.Machine.MotorTest

set_option Elab.async false

open Laws Intake Requesting Queueing Lasting Turning

variable {tag b : Byte} {r : Test} {x : Slot} {s t u : State}

/-! ### The hearing of the tool -/

theorem hearing_load (src : Station) (s : State) (k : LoadKind) : (hearing src s).lbu.load k = s.lbu.load k := by
  unfold hearing statusAsked
  cases k <;> (dsimp only; (repeat' split) <;> rfl)

theorem hearing_isolated (src : Station) (s : State) : isolated (hearing src s) = (s.lnk.state != .active) := by
  unfold isolated hearing statusAsked
  dsimp only
  (repeat' split) <;> rfl

theorem hearing_total (src : Station) (s : State) : ownTotal (hearing src s) = ownTotal s := by
  have motor : (hearing src s).lbu.motor = s.lbu.motor := hearing_load src s .motor
  have compressor : (hearing src s).lbu.compressor = s.lbu.compressor := hearing_load src s .compressor
  have heater : (hearing src s).lbu.heater = s.lbu.heater := hearing_load src s .heater
  unfold ownTotal
  rw [motor, compressor, heater, hearing_params]

theorem hearing_allowance (src : Station) (s : State) : soloAllowance (hearing src s) = soloAllowance s := by
  unfold soloAllowance
  rw [hearing_params]

/-- R170: beside a STATUS asked for the hearing of a frame leaves the transmit queue. -/
theorem hearing_begun (src : Station) (s : State) :
    ∃ u : State, (u.lnk.state = s.lnk.state ∧ u.lnk.queue = s.lnk.queue) ∧ (hearing src s = u ∨ hearing src s = queueStatus u) := by
  unfold hearing
  dsimp only
  split
  · refine ⟨_, ?_, .inr (queueStatus_eq _).symm⟩
    exact ⟨rfl, rfl⟩
  · refine ⟨_, ?_, .inl rfl⟩
    exact ⟨rfl, rfl⟩

theorem hearing_lasts (src : Station) (s : State) : Lasts s (hearing src s) := by
  obtain ⟨u, ⟨link, queue⟩, e | e⟩ := hearing_begun src s <;> rw [e]
  · exact .of_queue link queue
  · exact (Lasts.of_queue link queue).trans (queueStatus_lasts u)

theorem hearing_queued (src : Station) (s : State) : Queued 0 s (hearing src s) := by
  obtain ⟨u, ⟨link, queue⟩, e | e⟩ := hearing_begun src s <;> rw [e]
  · exact .of_queue link queue
  · exact (Queued.of_queue (n := 0) link queue).trans (queueStatus_queued u)

/-! ### The checks (R115) -/

theorem slotArg_hearing (b : Byte) (s : State) : slotArg b (hearing 15 s) = slotArg b s := by
  unfold slotArg slotAt
  rw [hearing_vsq]

theorem serveTestMotor_refused {e : ServiceResult} (refused : testRefusal b s = some e) :
    serveTestMotor tag [b] s = answerTool tag e [] s := by
  show (match testRefusal b s, slotArg b s with
    | some r, _ => answerTool tag r [] s
    | none, some t => beginTest b.toNat t tag toolStation s
    | none, none => s) = _
  rw [refused]

theorem serveTestMotor_begins (passes : testRefusal b s = none) (slot : slotArg b s = some x) :
    serveTestMotor tag [b] s = beginTest b.toNat x tag toolStation s := by
  show (match testRefusal b s, slotArg b s with
    | some r, _ => answerTool tag r [] s
    | none, some t => beginTest b.toNat t tag toolStation s
    | none, none => s) = _
  rw [passes, slot]

/-- R115: the checks of a TEST-MOTOR, in order. -/
theorem testRefusal_hearing (b : Byte) (s : State) :
    testRefusal b (hearing 15 s) =
      if slotArg b s = none ∨ s.params.matrix = false then some .notPresent
      else if doorOpen s = false then some .needsDoor
      else if s.vsq.state ≠ .idle then some .busy
      else none := by
  unfold testRefusal doorOpen
  rw [slotArg_hearing, hearing_params, hearing_inputs, hearing_vsq]

/-! ### A test that ends at once (R116) -/

theorem answered_modVsq (tag : Byte) (e : ServiceResult) (data : List Byte) (f : Vsq → Vsq) (s : State) :
    (answered tag e data s).modVsq f = answered tag e data (s.modVsq f) := by
  unfold answered
  split
  · next room => exact (if_pos (c := (s.modVsq f).lnk.state ≠ .listenOnly ∧ (s.modVsq f).lnk.queue.length < 8) room).symm
  · next lost => exact (if_neg (c := (s.modVsq f).lnk.state ≠ .listenOnly ∧ (s.modVsq f).lnk.queue.length < 8) lost).symm

/-- R116: with the MOTOR record in NONE a test that has its result is answered and over. -/
theorem endTest_atOnce (tool : r.station = toolStation) (test : u.vsq.test = some r) (testing : u.vsq.state = .testing)
    (unloaded : u.lbu.motor.state = .none) (empty : u.vsq.queue = []) (agenda : u.lbu.agenda = []) (y : TestResult) :
    runAgenda (endTest y u) =
      answered r.tag .done [y.code]
        { u with mxd := { u.mxd with staging := none }, vsq := { u.vsq with state := .idle, test := none } } := by
  let e : Test := { r with result := some y, motorOn := false, budgetTimer := none, jamTimer := none }
  let w : State := { u with mxd := { u.mxd with staging := none }, vsq := { u.vsq with test := some e } }
  have given : giveUpMotor (writeStaging none (modTest
      (fun t => { t with result := some y, motorOn := false, budgetTimer := none, jamTimer := none }) u)) = w := by
    rw [modTest_of test]
    exact giveUpMotor_none unloaded
  have finished : finishTest w =
      signal .takeHead ((answered r.tag .done [y.code] w).modVsq fun q => { q with test := none, state := .idle }) := by
    have leaves : w.vsq.state = .testing ∧ w.lbu.motor.state = .none := ⟨testing, unloaded⟩
    rw [← answerTool_eq, answerTool, ← tool]
    exact if_pos leaves
  rw [endTest, given, finished, answered_modVsq]
  refine runAgenda_takeHead ?_ ?_
  · unfold answered
    split <;> exact agenda
  · unfold answered
    split <;> exact empty

/-! ### The request of the MOTOR load (R115, R152, R153) -/

/-- R115: the test begun in TESTING, its budget timer from zero. -/
def askedTest (b tag : Byte) : Test := ⟨b.toNat, tag, 15, 0, false, some 0, none, none⟩

/-- R115: the state in which the test asks for its MOTOR load. -/
def testBegun (b tag : Byte) (s : State) : State :=
  { s with vsq := { s.vsq with state := .testing, test := some (askedTest b tag) } }

theorem beginTest_asks (sound : s.mxd.state ≠ .fault) (cold : tooWarm s x = false) :
    beginTest b.toNat x tag toolStation s = askLoad .motor .vend s.params.motorAmount (testBegun b tag s) := by
  have warm : ¬ tooWarm s x = true := Bool.eq_false_iff.mp cold
  exact (if_neg sound).trans (if_neg warm)

theorem beginTest_ends {y : TestResult} (ends : y = if s.mxd.state = .fault then .driveFault else .unavailableTemp)
    (barred : s.mxd.state = .fault ∨ tooWarm s x = true) :
    ∃ r : Test, r.station = toolStation ∧ r.tag = tag ∧
      beginTest b.toNat x tag toolStation s =
        endTest y { s with vsq := { s.vsq with state := .testing, test := some r } } := by
  refine ⟨⟨b.toNat, tag, toolStation, 0, false, none, none, none⟩, rfl, rfl, ?_⟩
  by_cases fault : s.mxd.state = .fault
  · rw [ends, if_pos fault]
    exact if_pos fault
  · rw [ends, if_neg fault]
    exact (if_neg fault).trans (if_pos (barred.resolve_left fault))

/-! ### The solo rule (R161) -/

/-- A signal of a grant to the cooling. -/
def Cooling (g : Signal) : Prop := g = .granted .compressor ∨ g = .granted .heater

theorem takeSignal_cooling {g : Signal} (cooling : Cooling g) (s : State) : ∃ r, takeSignal g s = { s with rfc := r } := by
  rcases cooling with rfl | rfl
  · show ∃ r, compressorGranted s = _
    unfold compressorGranted
    split
    · exact ⟨_, rfl⟩
    · exact ⟨s.rfc, rfl⟩
  · show ∃ r, heaterGranted s = _
    unfold heaterGranted
    split
    · exact ⟨_, rfl⟩
    · exact ⟨s.rfc, rfl⟩

/-- Grants to the cooling touch the cooling alone. -/
theorem runAgendaFor_cooling (n : Nat) (s : State) (cooling : ∀ g ∈ s.lbu.agenda, Cooling g) :
    ∃ r a, runAgendaFor n s = { s with rfc := r, lbu := { s.lbu with agenda := a } } := by
  induction n generalizing s with
  | zero => exact ⟨s.rfc, s.lbu.agenda, rfl⟩
  | succ n ih =>
    unfold runAgendaFor
    split
    · exact ⟨s.rfc, s.lbu.agenda, rfl⟩
    · next g rest left =>
      rw [left] at cooling
      obtain ⟨r, taken⟩ := takeSignal_cooling (cooling g List.mem_cons_self) (s.modLbu fun b => { b with agenda := rest })
      rw [taken]
      exact ih _ fun g mem => cooling g (List.mem_cons_of_mem _ mem)

theorem testOne_agenda (k : LoadKind) (s : State) :
    (testOne k s).lbu.agenda = s.lbu.agenda ∨ (testOne k s).lbu.agenda = s.lbu.agenda ++ [.granted k] := by
  have unpassed : (modLoad k (fun l => { l with metFull := false }) s).lbu.agenda = s.lbu.agenda := Requesting.modLoad_lbu_agenda ..
  have granted : (grantLoad k s).lbu.agenda = s.lbu.agenda ++ [.granted k] := by
    show (announceChange _).lbu.agenda ++ _ = _
    rw [announceChange_lbu, Requesting.modLoad_lbu_agenda]
  have claims : (queueClaim k s).lbu.agenda = s.lbu.agenda := by
    unfold queueClaim
    dsimp only
    split
    · rw [Requesting.modLoad_lbu_agenda]
      show (request _ s).1.lbu.agenda = _
      rw [request_lbu]
    · exact Requesting.modLoad_lbu_agenda ..
  unfold testOne
  dsimp only
  split
  · exact .inl rfl
  · split
    · split
      · exact .inr granted
      · exact .inl unpassed
    · split
      · exact .inl rfl
      · split
        · exact .inl claims
        · exact .inl unpassed

theorem testOthers_agenda (s : State) :
    ∃ l, (testOthers .motor s).lbu.agenda = s.lbu.agenda ++ l ∧ ∀ g ∈ l, Cooling g := by
  have one {k : LoadKind} (cooling : Cooling (.granted k)) (u : State) :
      ∃ l, (testOne k u).lbu.agenda = u.lbu.agenda ++ l ∧ ∀ g ∈ l, Cooling g := by
    rcases testOne_agenda k u with e | e
    · exact ⟨[], by rw [e, List.append_nil], nofun⟩
    · exact ⟨[.granted k], e, fun g mem => List.mem_singleton.mp mem ▸ cooling⟩
  obtain ⟨l, first, cl⟩ := one (k := .compressor) (.inl rfl) s
  obtain ⟨m, second, cm⟩ := one (k := .heater) (.inr rfl) (testOne .compressor s)
  have made : testOthers .motor s = testOne .heater (testOne .compressor s) := rfl
  refine ⟨l ++ m, by rw [made, second, first, List.append_assoc], fun g mem => ?_⟩
  exact (List.mem_append.mp mem).elim (cl g) (cm g)

end Sys2Proof.Machine.MotorTest
end

section
/-! PROOFS. The motor test that asks for its MOTOR load, on a station that is not ISOLATED and by the solo rule (R115, R152, R153, R161). -/

namespace Sys2Proof.Machine.MotorTest

set_option Elab.async false

open Laws Intake Requesting Queueing Lasting Turning

variable {tag b : Byte} {r : Test} {x : Slot} {k : LoadKind} {s t u : State}

/-- No SERVICE-ANSWER is in the queue of `t` but those in that of `s`. -/
def NoAnswers (s t : State) : Prop :=
  ∀ e ∈ t.lnk.queue, ∀ d g r x, e.frame = .serviceAnswer d g r x → ∃ y ∈ s.lnk.queue, y.frame = e.frame

/-! ### The MOTOR load decided by the solo rule (R161) -/

/-- R161: the MOTOR record held by the solo rule, its owner still to be told. -/
structure SoloGranted (u t : State) : Prop where
  motor : t.lbu.motor = { askedRecord .vend u.params.motorAmount u.lbu.motor with state := .held }
  agenda : ∃ rest, t.lbu.agenda = .granted .motor :: rest ∧ ∀ g ∈ rest, Cooling g
  vsq : t.vsq = u.vsq
  mxd : t.mxd = u.mxd

/-- R161: the test of a WAITING record on an ISOLATED station. -/
theorem testOne_solo (waits : (s.lbu.load k).state = .waiting) (alone : isolated s = true) :
    testOne k s = if fitsSolo k s = true then grantLoad k s else modLoad k (fun l => { l with metFull := false }) s := by
  simp [testOne, waits, alone]

theorem ownTotal_asked (unloaded : u.lbu.motor.state = .none) (a : Nat) :
    ownTotal (modLoad .motor (askedRecord .vend a) u) = ownTotal u := by
  have before : (u.lbu.load .motor).state ≠ .held := fun held => by cases unloaded.symm.trans held
  exact ownTotal_modLoad before nofun

section Solo
variable (unloaded : u.lbu.motor.state = .none) (alone : isolated u = true) (agenda : u.lbu.agenda = [])
include unloaded alone agenda

/-- R161: within the allowance the record is held, and the others are tested. -/
theorem askLoad_granted (fits : ownTotal u + u.params.motorAmount ≤ soloAllowance u) :
    SoloGranted u (askLoad .motor .vend u.params.motorAmount u) := by
  let w := modLoad .motor (askedRecord .vend u.params.motorAmount) u
  have total : ownTotal w = ownTotal u := ownTotal_asked unloaded _
  have solo : fitsSolo .motor w = true := decide_eq_true (by rw [total]; exact fits)
  have tested : testOne .motor w = grantLoad .motor w := (testOne_solo (s := w) rfl alone).trans (if_pos solo)
  have first : (grantLoad .motor w).lbu.agenda = [.granted .motor] := by
    show (announceChange _).lbu.agenda ++ _ = _
    rw [announceChange_lbu]
    show u.lbu.agenda ++ _ = _
    rw [agenda]; rfl
  have granted : SoloGranted u (grantLoad .motor w) :=
    ⟨congrArg Lbu.motor (announceChange_lbu _), ⟨[], first, nofun⟩, by rw [grantLoad_vsq]; rfl, by rw [grantLoad_mxd]; rfl⟩
  have asks : askLoad .motor .vend u.params.motorAmount u = testRecord .motor w := if_pos unloaded
  rw [asks, testRecord, tested]
  split
  · exact granted
  · obtain ⟨l, more, cooling⟩ := testOthers_agenda (grantLoad .motor w)
    have other (j : LoadKind) (h : LoadKind.motor ≠ j) (v : State) : (testOne j v).lbu.motor = v.lbu.motor := testOne_other h v
    have motor : (testOthers .motor (grantLoad .motor w)).lbu.motor = (grantLoad .motor w).lbu.motor :=
      (other .heater (by decide) _).trans (other .compressor (by decide) _)
    exact ⟨motor.trans granted.motor, ⟨l, by rw [more, first]; rfl, cooling⟩, by rw [testOthers_vsq, granted.vsq],
      by rw [testOthers_mxd, granted.mxd]⟩

omit agenda in
/-- R161: beyond the allowance the record waits. -/
theorem askLoad_refused (exceeds : soloAllowance u < ownTotal u + u.params.motorAmount) :
    askLoad .motor .vend u.params.motorAmount u = modLoad .motor (askedRecord .vend u.params.motorAmount) u := by
  let w := modLoad .motor (askedRecord .vend u.params.motorAmount) u
  have total : ownTotal w = ownTotal u := ownTotal_asked unloaded _
  have solo : fitsSolo .motor w = false := decide_eq_false (by rw [total]; exact Nat.not_le.mpr exceeds)
  have tested : testOne .motor w = w :=
    (testOne_solo (s := w) rfl alone).trans (if_neg (Bool.eq_false_iff.mp solo))
  have asks : askLoad .motor .vend u.params.motorAmount u = testRecord .motor w := if_pos unloaded
  rw [asks, testRecord, tested]
  exact if_pos rfl

end Solo

/-! ### The motor of the test started (R115) -/

/-- R115: the test with its motor started. -/
def startedTest (r : Test) (x : Slot) : Test :=
  { r with motorOn := true, pulses := 1 + (if x.offHome then 1 else 0), jamTimer := some 0, budgetTimer := none }

theorem motorGranted_tests (held : u.lbu.motor.state = .held) (testing : u.vsq.state = .testing) (test : u.vsq.test = some r)
    (slot : slotAt u r.slot = some x) (fresh : r.result = none ∧ r.motorOn = false) :
    motorGranted u = startTestMotor r.slot x.offHome u := by
  have holds : motorHeld u = true := beq_iff_eq.mpr held
  unfold motorGranted
  rw [if_pos holds, testing, test]
  dsimp only
  rw [slot]
  exact if_pos fresh

/-- R115: what the start of the motor leaves at the end of the event. -/
structure Started (r : Test) (x : Slot) (u t : State) : Prop where
  state : t.vsq.state = .testing
  motor : t.lbu.motor = u.lbu.motor
  staging : t.mxd.staging = some (pairOf r.slot)
  slot : slotAt t r.slot = some { x with offHome := false }
  others : ∀ n, n ≠ r.slot → slotAt t n = slotAt u n
  test : t.vsq.test = some (startedTest r x)

theorem runAgenda_starts {rest : List Signal} (held : u.lbu.motor.state = .held) (testing : u.vsq.state = .testing)
    (test : u.vsq.test = some r) (slot : slotAt u r.slot = some x) (fresh : r.result = none ∧ r.motorOn = false)
    (agenda : u.lbu.agenda = .granted .motor :: rest) (cooling : ∀ g ∈ rest, Cooling g) : Started r x u (runAgenda u) := by
  let w := u.modLbu fun b => { b with agenda := rest }
  have taken : takeSignal (.granted .motor) w = startTestMotor r.slot x.offHome w :=
    motorGranted_tests (u := w) held testing test slot fresh
  obtain ⟨f, a, ends⟩ := runAgendaFor_cooling 31 (startTestMotor r.slot x.offHome w) cooling
  rw [runAgenda, runAgendaFor_cons agenda]
  show Started r x u (runAgendaFor 31 (takeSignal (.granted .motor) w))
  rw [taken, ends]
  refine ⟨testing, rfl, rfl, ?_, fun n other => ?_, ?_⟩
  · exact (slotAt_modSlot_same r.slot _ w).trans (congrArg (Option.map _) slot)
  · exact slotAt_modSlot_other other _ w
  · exact congrArg (Option.map _) test

/-! ### The test of the request (R152, R153) -/

/-- R115: what a TEST-MOTOR that passes its checks asks of the load table. -/
def MotorTested (b : Byte) (tag : Byte) (x : Slot) (s t : State) : Prop :=
  let here := hearing 15 s
  t.vsq.state = .testing ∧
    RequestTested .motor .vend s.params.motorAmount (here.lnk.queue.length < 8) here t ∧
    (∀ e ∈ t.lnk.queue, ∀ d g r x, e.frame = .serviceAnswer d g r x → ∃ y ∈ s.lnk.queue, y.frame = e.frame) ∧
    if s.lnk.state = .active ∨ soloAllowance s < ownTotal s + s.params.motorAmount then
      t.vsq.test = some (askedTest b tag) ∧ t.vsq.slots = s.vsq.slots ∧ t.mxd = s.mxd ∧
        (t.lbu.motor.state = .waiting ∨ (s.lnk.state = .active ∧ t.lbu.motor.state = .queued))
    else
      t.lbu.motor.state = .held ∧ t.mxd.staging = some (pairOf b.toNat) ∧
        slotAt t b.toNat = some { x with offHome := false } ∧ (∀ n, n ≠ b.toNat → slotAt t n = slotAt s n) ∧
        t.vsq.test = some (startedTest (askedTest b tag) x)

section Asked
variable (unloaded : s.lbu.motor.state = .none) (slot : slotAt s b.toNat = some x)
include unloaded

/-- The event of a TEST-MOTOR, its request made. -/
def asksMotor (b tag : Byte) (s : State) : State :=
  askLoad .motor .vend s.params.motorAmount (testBegun b tag (hearing 15 s))

omit unloaded in
theorem asksMotor_lasts (b tag : Byte) (s : State) : Lasts s (refreshOutputs (runAgenda (asksMotor b tag s))) :=
  ((hearing_lasts 15 s).trans
    (((askLoad_lasts .motor .vend s.params.motorAmount (testBegun b tag (hearing 15 s))).from_).trans (runAgenda_lasts _))).to_

theorem begun_unloaded : (testBegun b tag (hearing 15 s)).lbu.motor.state = .none :=
  (congrArg OwnLoad.state (hearing_load 15 s .motor)).trans unloaded

omit unloaded in
theorem begun_total : ownTotal (testBegun b tag (hearing 15 s)) = ownTotal s := hearing_total 15 s

theorem hearing_beside : ownBeside .motor (hearing 15 s) = ownTotal s := by
  have none : ((hearing 15 s).lbu.load .motor).heldAmount = 0 := by
    rw [hearing_load]
    exact if_neg fun held => by cases unloaded.symm.trans held
  have total := ownTotal_beside .motor (hearing 15 s)
  rw [none, hearing_total] at total
  exact total.symm

/-- R152, R153: together with the others the request is tested at once. -/
theorem motorTested_active (active : s.lnk.state = .active) : MotorTested b tag x s (refreshOutputs (runAgenda (asksMotor b tag s))) := by
  let here := hearing 15 s
  let u := testBegun b tag here
  have together : isolated here = false := by rw [hearing_isolated, active]; rfl
  have made : RequestMade .motor .vend s.params.motorAmount u (asksMotor b tag s) :=
    askLoad_made (begun_unloaded unloaded) together
  have alike : TestsAlike .motor here u := .of_peers rfl rfl (fun _ _ => rfl) rfl
  have tested := made.tested alike together (place := here.lnk.queue.length < 8) Iff.rfl
  have quiet : (asksMotor b tag s).lbu.agenda = [] := made.agenda.trans (hearing_agenda 15 s)
  have vsq : (asksMotor b tag s).vsq = u.vsq := askLoad_vsq ..
  have mxd : (asksMotor b tag s).mxd = s.mxd := (askLoad_mxd ..).trans (hearing_mxd 15 s)
  have answers := (asksMotor_lasts b tag s).answers
  rw [runAgenda_nil quiet] at answers ⊢
  refine ⟨congrArg Vsq.state vsq, tested, answers, ?_⟩
  rw [if_pos (.inl active)]
  refine ⟨congrArg Vsq.test vsq, (congrArg Vsq.slots vsq).trans ?_, mxd, made.waitsOrQueued.imp id fun queued => ⟨active, queued⟩⟩
  show here.vsq.slots = _
  rw [hearing_vsq]

/-- R161: alone and beyond the allowance the request waits. -/
theorem motorTested_waits (alone : s.lnk.state ≠ .active) (exceeds : soloAllowance s < ownTotal s + s.params.motorAmount) :
    MotorTested b tag x s (refreshOutputs (runAgenda (asksMotor b tag s))) := by
  let here := hearing 15 s
  let u := testBegun b tag here
  have isolates : isolated here = true := by rw [hearing_isolated]; exact bne_iff_ne.mpr alone
  have params : u.params = s.params := hearing_params 15 s
  have beyond : soloAllowance u < ownTotal u + u.params.motorAmount := by
    rw [begun_total, params]; exact (hearing_allowance 15 s).symm ▸ exceeds
  have made : asksMotor b tag s = modLoad .motor (askedRecord .vend u.params.motorAmount) u := by
    rw [← askLoad_refused (begun_unloaded unloaded) isolates beyond, params]; rfl
  have quiet : (asksMotor b tag s).lbu.agenda = [] := by rw [made]; exact hearing_agenda 15 s
  have answers := (asksMotor_lasts b tag s).answers
  rw [runAgenda_nil quiet] at answers ⊢
  rw [made] at answers ⊢
  refine ⟨rfl, ⟨rfl, congrArg Params.motorAmount params, rfl, fun together => ?_, fun together => ?_, fun _ within => ?_, fun _ _ => ⟨rfl, rfl⟩⟩,
    answers, ?_⟩
  · cases isolates.symm.trans together
  · cases isolates.symm.trans together
  · have : ownBeside .motor here + s.params.motorAmount ≤ soloAllowance here := within
    rw [hearing_beside unloaded, hearing_allowance] at this
    omega
  · rw [if_pos (.inr exceeds)]
    refine ⟨rfl, ?_, hearing_mxd 15 s, .inl rfl⟩
    show here.vsq.slots = _
    rw [hearing_vsq]

include slot in
/-- R161: alone and within the allowance the load is held and the motor started. -/
theorem motorTested_starts (alone : s.lnk.state ≠ .active) (within : ownTotal s + s.params.motorAmount ≤ soloAllowance s) :
    MotorTested b tag x s (refreshOutputs (runAgenda (asksMotor b tag s))) := by
  let here := hearing 15 s
  let u := testBegun b tag here
  have isolates : isolated here = true := by rw [hearing_isolated]; exact bne_iff_ne.mpr alone
  have params : u.params = s.params := hearing_params 15 s
  have fits : ownTotal u + u.params.motorAmount ≤ soloAllowance u := by
    rw [begun_total, params]; exact (hearing_allowance 15 s).symm ▸ within
  have granted : SoloGranted u (asksMotor b tag s) := by
    have g := askLoad_granted (begun_unloaded unloaded) isolates (hearing_agenda 15 s) fits
    rwa [params] at g
  obtain ⟨rest, agenda, cooling⟩ := granted.agenda
  have at_ (n : Nat) : slotAt (asksMotor b tag s) n = slotAt s n := by
    refine (slotAt_congr (congrArg Vsq.slots granted.vsq) n).trans (slotAt_congr ?_ n)
    show here.vsq.slots = _
    rw [hearing_vsq]
  have held : (asksMotor b tag s).lbu.motor.state = .held := by rw [granted.motor]
  have started : Started (askedTest b tag) x (asksMotor b tag s) (runAgenda (asksMotor b tag s)) :=
    runAgenda_starts held (congrArg Vsq.state granted.vsq) (congrArg Vsq.test granted.vsq) ((at_ _).trans slot) ⟨rfl, rfl⟩ agenda cooling
  have answers := (asksMotor_lasts b tag s).answers
  have motor : (refreshOutputs (runAgenda (asksMotor b tag s))).lbu.load .motor =
      { askedRecord .vend u.params.motorAmount u.lbu.motor with state := .held } := started.motor.trans granted.motor
  refine ⟨started.state, ⟨by rw [motor]; rfl, ?_, by rw [motor]; rfl, fun together => ?_, fun together => ?_, fun _ _ => ?_,
    fun _ beyond => ?_⟩, answers, ?_⟩
  · rw [motor]; exact congrArg Params.motorAmount params
  · cases isolates.symm.trans together
  · cases isolates.symm.trans together
  · rw [motor]
  · have : soloAllowance here < ownBeside .motor here + s.params.motorAmount := beyond
    rw [hearing_beside unloaded, hearing_allowance] at this
    omega
  · rw [if_neg (fun h => h.elim alone fun exceeds => by omega)]
    refine ⟨?_, started.staging, started.slot, fun n other => (started.others n other).trans (at_ n), started.test⟩
    show (runAgenda _).lbu.motor.state = _
    rw [started.motor, held]

end Asked

end Sys2Proof.Machine.MotorTest
end

section
/-! PROOFS. Obligation O60: TEST-MOTOR and FORGET-PEER (R115, R116, R149, R177). -/

namespace Sys2Proof.Machine.MotorTest

set_option Elab.async false

open Laws Intake Requesting Queueing Lasting Turning

variable {tag b : Byte} {x : Slot} {s t u : State}

/-! ### FORGET-PEER (R149) -/

/-- R177: the station that FORGET-PEER names. -/
theorem station_named {st : Station} (h : b.toNat ≤ 15) : (st == BitVec.ofNat 4 b.toNat) = true ↔ st.toNat = b.toNat := by
  rw [beq_iff_eq]
  refine ⟨fun e => ?_, fun e => BitVec.eq_of_toNat_eq ?_⟩
  · rw [e, BitVec.toNat_ofNat]; omega
  · rw [e, BitVec.toNat_ofNat]; omega

theorem namedPeer_none (absent : 15 < b.toNat ∨ ∀ e ∈ s.lbu.peers, e.station.toNat ≠ b.toNat) : namedPeer b s = none := by
  unfold namedPeer
  split
  · next low =>
    refine List.find?_eq_none.mpr fun e mem same => ?_
    exact absent.elim (by omega) fun others => others e mem ((station_named low).mp same)
  · rfl

theorem namedPeer_some (present : ∃ e ∈ s.lbu.peers, e.station.toNat = b.toNat) : namedPeer b s ≠ none := by
  obtain ⟨e, mem, same⟩ := present
  have low : b.toNat ≤ 15 := same ▸ Nat.lt_succ_iff.mp e.station.isLt
  rw [namedPeer, if_pos low]
  intro none
  exact List.find?_eq_none.mp none e mem ((station_named low).mpr same)

/-- R177: the forgotten entry leaves the table, and no other. -/
theorem forgetPeer_peers (present : ∃ e ∈ s.lbu.peers, e.station.toNat = b.toNat) :
    (forgetPeer b s).lbu.peers = s.lbu.peers.filter fun e => decide (e.station.toNat ≠ b.toNat) := by
  obtain ⟨e, -, same⟩ := present
  have low : b.toNat ≤ 15 := same ▸ Nat.lt_succ_iff.mp e.station.isLt
  rw [forgetPeer, afterTable_lbu_peers]
  refine List.filter_congr fun e _ => ?_
  rw [bne, Bool.eq_iff_iff, Bool.not_eq_true', ← Bool.not_eq_true, station_named low, decide_eq_true_iff]

theorem forgetPeer_lasts (b : Byte) (s : State) : Lasts s (forgetPeer b s) := (afterTable_lasts s _).from_

theorem retestQueued_queued (k : LoadKind) (s : State) : Queued 0 s (retestQueued k s) := by
  unfold retestQueued
  dsimp only
  split
  · exact (removeClaim_queued k _ s).andSame rfl
  · exact .refl s

theorem testWaiting_queued (s : State) : Queued 3 s (testWaiting s) :=
  (testOne_queued .motor s).trans ((testOne_queued .compressor _).trans (testOne_queued .heater _))

/-- R154: the records tested after a change of the table need a place each. -/
theorem forgetPeer_queued (b : Byte) (s : State) : Queued 3 s (forgetPeer b s) := by
  have removed : Queued 0 s (removePeer (BitVec.ofNat 4 b.toNat) s) := .of_lnk rfl
  have changed (u : State) : Queued 3 u (tableChanged u) := by
    have freed : Queued 0 u (clearHeldOff u) := .of_lnk rfl
    exact ((freed.trans (retestQueued_queued .motor _)).trans ((retestQueued_queued .compressor _).trans
      (retestQueued_queued .heater _))).trans (testWaiting_queued _)
  unfold forgetPeer afterTable
  split
  · exact removed.mono (Nat.zero_le 3)
  · exact removed.trans (changed _)

section Forget
variable (hears : Hears 15 s) (own : s.ssu.own ≠ 0)
include hears own

theorem exec_forgetPeer (present : ∃ e ∈ (hearing 15 s).lbu.peers, e.station.toNat = b.toNat) :
    exec (.forgetPeer ⟨15, s.ssu.own, tag⟩ [b]) s =
      .next (refreshOutputs (runAgenda (answered tag .done [] (forgetPeer b (hearing 15 s))))) := by
  have passes : takeRequest tag (if namedPeer b (hearing 15 s) = none then some .notPresent else none) (forgetPeer b) (hearing 15 s) =
      answerTool tag .done [] (forgetPeer b (hearing 15 s)) := by
    rw [if_neg (namedPeer_some present)]
    rfl
  refine (event_next _ s).trans ?_
  rw [serve_hearing hears own, ← answerTool_eq, ← passes]
  rfl

/-- R149: FORGET-PEER on a station of the table. -/
theorem forgets (present : ∃ e ∈ (hearing 15 s).lbu.peers, e.station.toNat = b.toNat) :
    ∃ t, exec (.forgetPeer ⟨15, s.ssu.own, tag⟩ [b]) s = .next t ∧
      t.lbu.peers = ((hearing 15 s).lbu.peers.filter fun e => decide (e.station.toNat ≠ b.toNat)) ∧
      (s.lnk.state ≠ .listenOnly → s.lnk.queue.length < 4 → Awaits (.serviceAnswer 15 tag .done []) t) ∧
      (s.lnk.state = .listenOnly → ∀ e ∈ t.lnk.queue, e ∈ s.lnk.queue) ∧
      (8 ≤ s.lnk.queue.length → LoadsSettled s → (t.lnk.queue.map fun e => e.frame) = s.lnk.queue.map fun e => e.frame) := by
  let here := hearing 15 s
  let w := forgetPeer b here
  have before : Lasts s w := (hearing_lasts 15 s).trans (forgetPeer_lasts b here)
  refine ⟨_, exec_forgetPeer hears own present, ?_, fun awake short => ?_, fun listens e mem => ?_, fun full settled => ?_⟩
  · show (runAgenda (answered tag .done [] w)).lbu.peers = _
    rw [runAgenda_lbu_peers, ← answerTool_eq, answerTool_lbu]
    exact forgetPeer_peers present
  · have queued : Queued 3 s w := (hearing_queued 15 s).trans (forgetPeer_queued b here)
    have room : w.lnk.queue.length < 8 := queued.room (by have := reserved_of_short short; omega)
    have up : w.lnk.state ≠ .listenOnly := fun h => awake (queued.link.symm.trans h)
    have sent : Awaits (.serviceAnswer 15 tag .done []) (answered tag .done [] w) := by
      rw [answered, if_pos ⟨up, room⟩]
      exact ⟨_, List.mem_append_right _ List.mem_cons_self, rfl, rfl⟩
    exact (runAgenda_lasts (answered tag .done [] w)).waits _ rfl sent
  · have quiet : answered tag .done [] w = w := if_neg fun h => h.1 (before.link.trans listens)
    rw [quiet] at mem
    exact (before.trans (runAgenda_lasts w)).quiet listens e mem
  · have still : LoadsSettled (removePeer (BitVec.ofNat 4 b.toNat) here) := fun k => by
      have same : (removePeer (BitVec.ofNat 4 b.toNat) here).lbu.load k = s.lbu.load k :=
        (by cases k <;> rfl : _ = here.lbu.load k).trans (hearing_load 15 s k)
      rw [same]
      exact settled k
    have unchanged : w = removePeer (BitVec.ofNat 4 b.toNat) here := afterTable_settled still
    have heard : places here = places s := (hearing_statusOnly 15 s).frames (.inr full)
    have length : 8 ≤ here.lnk.queue.length := by rw [← places_length, heard, places_length]; exact full
    have lost : answered tag .done [] w = w := by
      rw [unchanged]
      exact if_neg fun h => absurd h.2 (Nat.not_lt.mpr length)
    have quiet : w.lbu.agenda = [] := by rw [unchanged]; exact hearing_agenda 15 s
    rw [lost, runAgenda_nil quiet, unchanged]
    show here.lnk.queue.map _ = _
    rw [← places_frames, heard, places_frames]

end Forget

/-! ### TEST-MOTOR (R115, R116) -/

section Test
variable (hears : Hears 15 s) (own : s.ssu.own ≠ 0)
include hears own

/-- R177: a failed check is answered. -/
theorem exec_testMotor_refused {e : ServiceResult} (refused : testRefusal b (hearing 15 s) = some e) :
    exec (.testMotor ⟨15, s.ssu.own, tag⟩ [b]) s = .next (refreshOutputs (answered tag e [] (hearing 15 s))) :=
  event_answered hears own (f := serveTestMotor tag [b]) (serveTestMotor_refused refused)

variable (slot : slotAt s b.toNat = some x) (number : b.toNat ≤ 79)
include slot number

theorem exec_testMotor_begins (passes : testRefusal b (hearing 15 s) = none) :
    exec (.testMotor ⟨15, s.ssu.own, tag⟩ [b]) s =
      .next (refreshOutputs (runAgenda (beginTest b.toNat x tag toolStation (hearing 15 s)))) := by
  have named : slotArg b (hearing 15 s) = some x := (slotArg_hearing b s).trans (slotArg_present number slot)
  refine (event_next (serve ⟨15, s.ssu.own, tag⟩ (serveTestMotor tag [b])) s).trans ?_
  rw [serve_hearing hears own, serveTestMotor_begins passes named]

variable (matrix : s.params.matrix = true)
include matrix

omit hears own in
theorem testRefusal_named :
    testRefusal b (hearing 15 s) =
      if doorOpen s = false then some .needsDoor else if s.vsq.state ≠ .idle then some .busy else none := by
  have named : slotArg b s = some x := slotArg_present number slot
  rw [testRefusal_hearing, named, matrix]
  exact if_neg (by simp)

variable (door : doorOpen s = true) (idle : s.vsq.state = .idle) (unloaded : s.lbu.motor.state = .none)
include door idle unloaded

omit hears own unloaded in
theorem testRefusal_passes : testRefusal b (hearing 15 s) = none := by
  rw [testRefusal_named slot number matrix, if_neg (by rw [door]; nofun), if_neg (not_not.mpr idle)]

/-- R116: in the drive's fault state, or with too warm a slot, the test ends at once. -/
theorem exec_testMotor_ends (empty : s.vsq.queue = []) (barred : s.mxd.state = .fault ∨ tooWarm s x = true) :
    exec (.testMotor ⟨15, s.ssu.own, tag⟩ [b]) s =
      .next (refreshOutputs (answered tag .done [if s.mxd.state = .fault then 4 else 5]
        { hearing 15 s with mxd := { s.mxd with staging := none }, vsq := { s.vsq with test := none } })) := by
  let here := hearing 15 s
  have warm : tooWarm here x = tooWarm s x := by unfold tooWarm; rw [hearing_params, hearing_rfc]
  have mxd : here.mxd = s.mxd := hearing_mxd 15 s
  have vsq : here.vsq = s.vsq := hearing_vsq 15 s
  obtain ⟨r, tool, named, begins⟩ := beginTest_ends (b := b) (tag := tag) (s := here) (x := x) rfl (by rw [mxd, warm]; exact barred)
  let u : State := { here with vsq := { here.vsq with state := .testing, test := some r } }
  have at_ := endTest_atOnce (u := u) tool rfl rfl ((congrArg OwnLoad.state (hearing_load 15 s .motor)).trans unloaded)
    ((congrArg Vsq.queue vsq).trans empty) (hearing_agenda 15 s) (if here.mxd.state = .fault then .driveFault else .unavailableTemp)
  have ended : ({ u.vsq with state := .idle, test := none } : Vsq) = { s.vsq with test := none } := by
    show ({ here.vsq with state := .idle, test := none } : Vsq) = _
    rw [vsq, ← idle]
  have code : (if here.mxd.state = .fault then TestResult.driveFault else .unavailableTemp).code =
      if s.mxd.state = .fault then 4 else 5 := by
    rw [mxd]
    split <;> rfl
  rw [exec_testMotor_begins hears own slot number (testRefusal_passes slot number matrix door idle), begins, at_, ended, code, named]
  exact congrArg (fun m => Host.Outcome.next (refreshOutputs (answered tag .done [if s.mxd.state = .fault then 4 else 5]
    { here with mxd := { m with staging := none }, vsq := { s.vsq with test := none } }))) mxd

/-- R115, R152: with the checks passed the request is made and tested. -/
theorem exec_testMotor_asks (sound : s.mxd.state ≠ .fault) (cold : tooWarm s x = false) :
    ∃ t, exec (.testMotor ⟨15, s.ssu.own, tag⟩ [b]) s = .next t ∧ MotorTested b tag x s t := by
  let here := hearing 15 s
  have warm : tooWarm here x = false := by unfold tooWarm; rw [hearing_params, hearing_rfc]; exact cold
  have fine : here.mxd.state ≠ .fault := by rw [hearing_mxd]; exact sound
  have begins : beginTest b.toNat x tag toolStation here = asksMotor b tag s := by
    rw [beginTest_asks fine warm, hearing_params]; rfl
  refine ⟨_, exec_testMotor_begins hears own slot number (testRefusal_passes slot number matrix door idle), ?_⟩
  rw [begins]
  by_cases active : s.lnk.state = .active
  · exact motorTested_active unloaded active
  · by_cases exceeds : soloAllowance s < ownTotal s + s.params.motorAmount
    · exact motorTested_waits unloaded active exceeds
    · exact motorTested_starts unloaded slot active (Nat.not_lt.mp exceeds)

end Test

/-- Settles O60: the checks of TEST-MOTOR, its immediate ends (`exec_testMotor_ends`) and its request (`exec_testMotor_asks`), and
FORGET-PEER (`forgets`). -/
theorem motorTestAndForgottenPeer : Obligations.MotorTestAndForgottenPeer := by
  intro tag b s hears own
  refine ⟨fun absent => ?_, fun x number slot matrix => ⟨fun shut => ?_, fun open_ busy => ?_, fun door idle barred unloaded empty => ?_,
    fun door idle sound cold unloaded => ?_⟩, fun absent => ?_, forgets hears own⟩
  · refine exec_testMotor_refused hears own ?_
    rw [testRefusal_hearing, if_pos]
    rcases absent with high | none | off
    · exact .inl (slotArg_absent (.inl high))
    · exact .inl (slotArg_absent (.inr none))
    · exact .inr off
  · refine exec_testMotor_refused hears own ?_
    rw [testRefusal_named slot number matrix, if_pos shut]
  · refine exec_testMotor_refused hears own ?_
    rw [testRefusal_named slot number matrix, if_neg (by rw [open_]; nofun), if_pos busy]
  · exact exec_testMotor_ends hears own slot number matrix door idle unloaded empty barred
  · exact exec_testMotor_asks hears own slot number matrix door idle unloaded sound cold
  · have refused : takeRequest tag (if namedPeer b (hearing 15 s) = none then some .notPresent else none) (forgetPeer b) (hearing 15 s) =
        answerTool tag .notPresent [] (hearing 15 s) := by
      rw [if_pos (namedPeer_none absent)]
      rfl
    exact event_answered hears own (f := serveForgetPeer tag [b]) refused

end Sys2Proof.Machine.MotorTest
end

section
/-! PROOFS. A withdrawn MOTOR request (R158): the acts of the same event that leave the CLAIMs and RELEASEs queued, the own records and the
cooling as they are, and the signals that tell the cooling of its grants. -/

namespace Sys2Proof.Machine.Withdrawing

set_option Elab.async false

open Laws Intake Requesting Queueing Deciding Turning

variable {s t u : State}

/-! ### The queued CLAIMs and RELEASEs -/

/-- A CLAIM or a RELEASE. -/
def isLoadFrame : Frame → Bool
  | .claim _ _ _ _ => true
  | .release _ _ => true
  | _ => false

theorem loadFrames_eq (s : State) : loadFrames s = s.lnk.queue.filter fun e => isLoadFrame e.frame := rfl

theorem mem_loadFrames {e : TxEntry} : e ∈ loadFrames s ↔ e ∈ s.lnk.queue ∧ isLoadFrame e.frame = true := by
  rw [loadFrames_eq, List.mem_filter]

/-- A RELEASE. -/
def isReleaseFrame : Frame → Bool
  | .release _ _ => true
  | _ => false

theorem releases_eq (s : State) : releases s = (loadFrames s).filter fun e => isReleaseFrame e.frame := by
  have both (e : TxEntry) : (isReleaseFrame e.frame && isLoadFrame e.frame) = isReleaseFrame e.frame := by
    cases e.frame <;> rfl
  rw [loadFrames_eq, List.filter_filter]
  simp only [both]
  rfl

theorem isLoadFrame_of_isClaim {k : LoadKind} {q : Byte} {f : Frame} (h : isClaim k q f = true) : isLoadFrame f = true := by
  cases f with
  | claim => rfl
  | _ => cases h

/-! ### The acts aside (R54, R91, R109, R116) -/

/-- From `s` to `t` the queued CLAIMs and RELEASEs, the change number, the own records and the cooling stand, and a waiting STATUS
goes on to wait. -/
structure Aside (s t : State) : Prop where
  loads : loadFrames t = loadFrames s
  status : Awaits .status s → Awaits .status t
  change : t.lnk.change = s.lnk.change
  load : ∀ k, t.lbu.load k = s.lbu.load k
  rfc : t.rfc = s.rfc

namespace Aside

theorem refl (s : State) : Aside s s := ⟨rfl, id, rfl, fun _ => rfl, rfl⟩

theorem trans (h : Aside s t) (g : Aside t u) : Aside s u :=
  ⟨g.loads.trans h.loads, fun waits => g.status (h.status waits), g.change.trans h.change, fun k => (g.load k).trans (h.load k),
    g.rfc.trans h.rfc⟩

theorem of_lnk (lnk : t.lnk = s.lnk) (lbu : t.lbu = s.lbu := by rfl) (rfc : t.rfc = s.rfc := by rfl) : Aside s t := by
  refine ⟨by rw [loadFrames_eq, loadFrames_eq, lnk], fun waits => ?_, by rw [lnk], fun k => by rw [lbu], rfc⟩
  unfold Awaits at *
  rwa [lnk]

theorem from_ (h : Aside t u) (lnk : t.lnk = s.lnk := by rfl) (lbu : t.lbu = s.lbu := by rfl) (rfc : t.rfc = s.rfc := by rfl) :
    Aside s u := (of_lnk lnk lbu rfc).trans h

theorem to_ (h : Aside s t) (lnk : u.lnk = t.lnk := by rfl) (lbu : u.lbu = t.lbu := by rfl) (rfc : u.rfc = t.rfc := by rfl) :
    Aside s u := h.trans (of_lnk lnk lbu rfc)

theorem ite {c : Prop} [Decidable c] (h : Aside s t) (g : Aside s u) : Aside s (if c then t else u) := by
  split
  · exact h
  · exact g

end Aside

/-- R168: a request of any other frame leaves the CLAIMs and RELEASEs. -/
theorem request_aside {f : Frame} (other : isLoadFrame f = false) (s : State) : Aside s (request f s).1 := by
  rcases request_cases f s with ⟨e, -⟩ | ⟨e, -, -, -⟩ | ⟨e, -, -, -⟩ <;> rw [e]
  · exact .refl s
  · refine ⟨?_, fun ⟨e, mem, is, off⟩ => ?_, rfl, fun _ => rfl, rfl⟩
    · show (s.lnk.queue.map _).filter (fun e : TxEntry => isLoadFrame e.frame) = _
      rw [loadFrames_eq, List.filter_map]
      have plain : ∀ e ∈ s.lnk.queue.filter (fun e => isLoadFrame e.frame),
          (if e.waits f then { e with attempts := 0 } else e) = e := fun e mem => by
        have load := (List.mem_filter.mp mem).2
        refine if_neg fun waits => ?_
        rw [TxEntry.waits, Bool.and_eq_true, beq_iff_eq] at waits
        rw [waits.1, other] at load
        cases load
      have same : ((fun e : TxEntry => isLoadFrame e.frame) ∘ fun e : TxEntry => if e.waits f then { e with attempts := 0 } else e) =
          fun e => isLoadFrame e.frame := by
        funext e
        show isLoadFrame (if e.waits f then { e with attempts := 0 } else e).frame = _
        split <;> rfl
      rw [same]
      exact (List.map_congr_left plain).trans (List.map_id _)
    · exact ⟨_, List.mem_map_of_mem mem, by split <;> exact is, by split <;> exact off⟩
  · refine ⟨?_, fun ⟨e, mem, stands⟩ => ⟨e, List.mem_append_left _ mem, stands⟩, rfl, fun _ => rfl, rfl⟩
    show (s.lnk.queue ++ [TxEntry.fresh f]).filter (fun e : TxEntry => isLoadFrame e.frame) = _
    rw [loadFrames_eq, List.filter_append]
    have none : [TxEntry.fresh f].filter (fun e => isLoadFrame e.frame) = [] :=
      List.filter_eq_nil_iff.mpr fun e mem => by rw [List.mem_singleton.mp mem]; simp [TxEntry.fresh, other]
    exact (congrArg _ none).trans (List.append_nil _)

theorem queueStatus_aside (s : State) : Aside s (queueStatus s) := by
  have asked : Aside s (request .status s).1 := request_aside rfl s
  refine .ite (asked.trans ⟨rfl, id, rfl, fun _ => rfl, rfl⟩) asked

theorem queueCredit_aside (s : State) : Aside s (queueCredit s) :=
  have asked : Aside s (request .credit s).1 := request_aside rfl s
  .ite (.refl s) asked.to_

theorem raiseVersion_aside (s : State) : Aside s (raiseVersion s) := .ite (.refl s) ((queueCredit_aside _).from_)

theorem reevaluateExact_aside (s : State) : Aside s (reevaluateExact s) := .ite (.refl s) ((queueStatus_aside _).from_)

theorem enterIdle_aside (s : State) : Aside s (enterIdle s) := ((raiseVersion_aside _).from_).trans (reevaluateExact_aside _)

theorem enterOpen_aside (s : State) : Aside s (enterOpen s) := (raiseVersion_aside _).from_

theorem payoutShort_aside (s : State) : Aside s (payoutShort s) := ((enterOpen_aside _).from_).trans (reevaluateExact_aside _)

theorem coinStep_aside (s : State) : Aside s (coinStep s) := by
  unfold coinStep
  refine .ite ((enterIdle_aside _).from_) ?_
  split
  · exact .of_lnk rfl
  · exact payoutShort_aside s

theorem enterPaying_aside (s : State) : Aside s (enterPaying s) := by
  have begun : Aside s (raiseVersion (s.modSession fun c =>
      { c with state := .paying, escrowPending := false, idleTimer := none })) := (raiseVersion_aside _).from_
  exact .ite begun.to_ (begun.trans (coinStep_aside _))

theorem afterSettle_aside (r : SettleResult) (s : State) : Aside s (afterSettle r s) :=
  .ite (.ite ((enterIdle_aside _).from_) ((enterPaying_aside _).from_))
    (.ite (enterPaying_aside s) (.ite (enterIdle_aside s) (enterOpen_aside s)))

theorem takeSettle_aside (r : Station) (tag n : Byte) (x : SettleResult) (s : State) : Aside s (takeSettle r tag n x s).1 := by
  rcases takeSettle_cases r tag n x s with ⟨-, e⟩ | ⟨-, e⟩ <;> rw [e]
  · exact (afterSettle_aside x (endHold x s)).from_ (endHold_lnk ..) (endHold_lbu ..) (endHold_rfc ..)
  · exact .refl s

theorem sendSettle_aside (v : Vend) (tag n : Byte) (r : SettleResult) (k : Nat) (s : State) : Aside s (sendSettle v tag n r k s) :=
  have sent : Aside s (send (.settle v.selection.creditStation tag n r) s) := request_aside rfl s
  sent.to_

theorem settleVend_aside (v : Vend) (o : VendOutcome) (s : State) : Aside s (settleVend v o s) := by
  unfold settleVend
  split
  · exact .ite ((takeSettle_aside ..).to_ (countUnpaid_lnk ..) (countUnpaid_lbu ..) (countUnpaid_rfc ..)) (sendSettle_aside v _ _ _ 1 s)
  · split
    · exact sendSettle_aside v _ _ _ 1 s
    · exact .of_lnk rfl

/-- R97, R109: the signal of a departure concerns the agenda alone. -/
theorem signal_aside (g : Signal) (s : State) : Aside s (signal g s) :=
  ⟨rfl, id, rfl, fun k => by cases k <;> rfl, rfl⟩

theorem tryLeave_aside (s : State) : Aside s (tryLeave s) := by
  rcases tryLeave_cases s with e | ⟨v, -, -, -, -, e⟩ <;> rw [e]
  · exact .refl s
  · have answered : Aside s (answerPanel v.selection (v.outcome.getD .aborted) v.price s) := request_aside rfl s
    exact answered.to_.trans (signal_aside ..)

/-! ### The cooling told of its grants (R134, R138) -/

/-- The end of an event in which no signal concerns the vend. -/
structure Calm (s : State) : Prop where
  calm : s.vsq.state = .settling ∨ s.vsq.state = .idle
  empty : s.vsq.queue = []

/-- A signal that brings about `Q` from `P` does so wherever it stands in the agenda. -/
theorem runAgendaFor_tells {P Q : Rfc → Prop} {g : Signal} {held : State → Prop}
    (heldFor : ∀ u r a, held u → held { u with rfc := r, lbu := { u.lbu with agenda := a } })
    (turns : ∀ u, held u → P u.rfc → Q (takeSignal g u).rfc)
    (keeps : ∀ h u, Calm u → P u.rfc → P (takeSignal h u).rfc ∨ Q (takeSignal h u).rfc)
    (stays : ∀ h u, Calm u → Q u.rfc → Q (takeSignal h u).rfc) (n : Nat) (s : State) (calm : Calm s) (h : held s)
    (length : s.lbu.agenda.length ≤ n) (now : Q s.rfc ∨ (P s.rfc ∧ g ∈ s.lbu.agenda)) : Q (runAgendaFor n s).rfc := by
  induction n generalizing s with
  | zero =>
    have none : s.lbu.agenda = [] := List.length_eq_zero_iff.mp (Nat.le_zero.mp length)
    rcases now with done_ | ⟨-, mem⟩
    · exact done_
    · rw [none] at mem; cases mem
  | succ n ih =>
    unfold runAgendaFor
    split
    · next none =>
      rcases now with done_ | ⟨-, mem⟩
      · exact done_
      · rw [none] at mem; cases mem
    · next f rest left =>
      let u := s.modLbu fun b => { b with agenda := rest }
      have calmer : Calm u := ⟨calm.calm, calm.empty⟩
      obtain ⟨r, taken⟩ := takeSignal_aside (s := u) calm.calm calm.empty f
      have standing : held (takeSignal f u) := by
        rw [taken]
        exact heldFor s r rest h
      refine ih (takeSignal f u) (by rw [taken]; exact calmer.casesOn fun a b => ⟨a, b⟩) standing ?_ ?_
      · rw [taken]
        rw [left] at length
        exact Nat.le_of_succ_le_succ length
      · have agenda : (takeSignal f u).lbu.agenda = rest := by rw [taken]; rfl
        rw [agenda]
        rcases now with done_ | ⟨pending, mem⟩
        · exact .inl (stays f u calmer done_)
        · rw [left] at mem
          rcases List.mem_cons.mp mem with same | later
          · subst same
            exact .inl (turns u (heldFor s s.rfc rest h) pending)
          · exact (keeps f u calmer pending).symm.imp id fun still => ⟨still, later⟩

end Sys2Proof.Machine.Withdrawing
end

section
/-! PROOFS. The tests of the own records that wait, one at a time and beside a MOTOR record that is gone (R153, R161). -/

namespace Sys2Proof.Machine.Withdrawing

set_option Elab.async false

open Laws Intake Requesting Queueing Deciding Turning

variable {k : LoadKind} {s t u z y : State}

/-! ### One test (R153, R161) -/

/-- R153: a record that its test concerns. -/
def tries (k : LoadKind) (s : State) : Bool := decide ((s.lbu.load k).state = .waiting) && !(s.lbu.load k).heldOff

/-- The CLAIM and the RELEASE frames grown by CLAIMs of the cooling. -/
def Grown (s t : State) : Prop :=
  ∃ l, loadFrames t = loadFrames s ++ l ∧ ∀ e ∈ l, ∃ j c a q, j ≠ LoadKind.motor ∧ e.frame = .claim j c a q

theorem Grown.of_loads (h : loadFrames t = loadFrames s) : Grown s t := ⟨[], h.trans (List.append_nil _).symm, nofun⟩

theorem Grown.trans (h : Grown s t) (g : Grown t u) : Grown s u := by
  obtain ⟨l, first, cl⟩ := h
  obtain ⟨m, second, cm⟩ := g
  refine ⟨l ++ m, by rw [second, first, List.append_assoc], fun e mem => ?_⟩
  exact (List.mem_append.mp mem).elim (cl e) (cm e)

theorem Grown.mem {e : TxEntry} (h : Grown s t) (mem : e ∈ loadFrames s) : e ∈ loadFrames t := by
  obtain ⟨l, grown, -⟩ := h
  rw [grown]
  exact List.mem_append_left _ mem

theorem Grown.claims {e : TxEntry} {q : Byte} (h : Grown s t) (mem : e ∈ t.lnk.queue) (claim : isClaim .motor q e.frame = true) :
    e ∈ s.lnk.queue := by
  obtain ⟨l, grown, others⟩ := h
  have load : e ∈ loadFrames t := mem_loadFrames.mpr ⟨mem, isLoadFrame_of_isClaim claim⟩
  rw [grown] at load
  rcases List.mem_append.mp load with old | new
  · exact (mem_loadFrames.mp old).1
  · obtain ⟨j, c, a, p, other, frame⟩ := others e new
    rw [frame] at claim
    have same : j = .motor := eq_of_beq (Bool.and_eq_true_iff.mp claim).1
    exact absurd same other

theorem Grown.releases (h : Grown s t) : releases t = releases s := by
  obtain ⟨l, grown, others⟩ := h
  have none : l.filter (fun e => isReleaseFrame e.frame) = [] := List.filter_eq_nil_iff.mpr fun e mem => by
    obtain ⟨j, c, a, p, -, frame⟩ := others e mem
    rw [frame]
    nofun
  rw [releases_eq, releases_eq, grown, List.filter_append, none, List.append_nil]

/-- R153: what a test of a record does on a station that is not ISOLATED, with a place for its CLAIM; `p`: the record passes. -/
structure Tried (k : LoadKind) (p : Bool) (s t : State) : Prop where
  passes : p = true →
    t.lbu.load k = { s.lbu.load k with state := .queued, sequence := s.lbu.claimCounter + 1, metFull := false } ∧
      Awaits (.claim k (s.lbu.load k).cls (s.lbu.load k).amount (s.lbu.claimCounter + 1)) t
  stays : p = false → t.lbu.load k = if tries k s = true then { s.lbu.load k with metFull := false } else s.lbu.load k
  awaits : ∀ f, Awaits f s → Awaits f t
  counter : t.lbu.claimCounter = s.lbu.claimCounter + if p then 1 else 0
  claims : claiming t = fun j => claiming s j || (p && decide (j = k))
  amounts : ∀ j, (t.lbu.load j).amount = (s.lbu.load j).amount
  alike : TestsAlike k s t
  total : ownTotal t = ownTotal s
  agenda : t.lbu.agenda = s.lbu.agenda
  change : t.lnk.change = s.lnk.change
  link : t.lnk.state = s.lnk.state
  grown : k ≠ .motor → Grown s t

theorem Tried.nothing (idle : tries k s = false) : Tried k false s s where
  passes := nofun
  stays _ := (if_neg (Bool.eq_false_iff.mp idle)).symm
  awaits _ := id
  counter := (BitVec.add_zero _).symm
  claims := by funext j; exact (Bool.or_false _).symm
  amounts _ := rfl
  alike := .of_peers rfl rfl (fun _ _ => rfl) rfl
  total := rfl
  agenda := rfl
  change := rfl
  link := rfl
  grown _ := .of_loads rfl

theorem load_metFull (k j : LoadKind) (s : State) :
    ((modLoad k (fun l => { l with metFull := false }) s).lbu.load j).amount = (s.lbu.load j).amount ∧
      ((modLoad k (fun l => { l with metFull := false }) s).lbu.load j).state = (s.lbu.load j).state := by
  cases j <;> cases k <;> exact ⟨rfl, rfl⟩

theorem ownTotal_metFull (k : LoadKind) (s : State) : ownTotal (modLoad k (fun l => { l with metFull := false }) s) = ownTotal s := by
  cases k <;> rfl

theorem Tried.unpassed (tried : tries k s = true) : Tried k false s (modLoad k (fun l => { l with metFull := false }) s) where
  passes := nofun
  stays _ := (modLoad_load ..).trans (if_pos tried).symm
  awaits _ := id
  counter := (Requesting.modLoad_lbu_claimCounter ..).trans (BitVec.add_zero _).symm
  claims := by
    funext j
    show claiming _ j = (claiming s j || false)
    rw [Bool.or_false]
    unfold claiming
    rw [(load_metFull k j s).2]
  amounts j := (load_metFull k j s).1
  alike := modLoad_alike ..
  total := ownTotal_metFull k s
  agenda := Requesting.modLoad_lbu_agenda ..
  change := rfl
  link := rfl
  grown _ := .of_loads rfl

theorem claimed_other {j : LoadKind} (h : j ≠ k) (s : State) : (claimed k s).lbu.load j = s.lbu.load j :=
  (modLoad_other h _ _).trans (by cases j <;> rfl)

theorem Tried.claimed (waits : (s.lbu.load k).state = .waiting) : Tried k true s (claimed k s) where
  passes _ := ⟨claimed_load k s, TxEntry.fresh _, List.mem_append_right _ (List.mem_singleton_self _), rfl, rfl⟩
  stays := nofun
  awaits _ := fun ⟨e, mem, stands⟩ => ⟨e, List.mem_append_left _ mem, stands⟩
  counter := claimed_counter k s
  claims := by
    funext j
    unfold claiming
    by_cases same : j = k
    · subst same; simp [claimed_load]
    · simp [claimed_other same, same]
  amounts j := by
    by_cases same : j = k
    · subst same; rw [claimed_load]
    · rw [claimed_other same]
  alike := .of_peers rfl rfl (fun _ h => claimed_other h s) (by cases k <;> rfl)
  total := claimed_total waits
  agenda := claimed_agenda k s
  change := rfl
  link := rfl
  grown other := by
    refine ⟨[TxEntry.fresh (.claim k (s.lbu.load k).cls (s.lbu.load k).amount (s.lbu.claimCounter + 1))], ?_, fun e mem => ?_⟩
    · rw [loadFrames_eq, loadFrames_eq]
      exact List.filter_append ..
    · exact ⟨k, _, _, _, other, congrArg TxEntry.frame (List.mem_singleton.mp mem)⟩

/-- R153: the test of a record on a station that is not ISOLATED. -/
theorem testOne_tried (together : isolated s = false) (link : s.lnk.state ≠ .listenOnly) (room : s.lnk.queue.length < 8) :
    Tried k (tries k s && fits k s) s (testOne k s) := by
  by_cases tried : tries k s = true
  · obtain ⟨waits, free⟩ := Bool.and_eq_true_iff.mp tried
    have waiting : (s.lbu.load k).state = .waiting := of_decide_eq_true waits
    rw [testOne_together waiting together (Bool.not_eq_true' _ ▸ free), tried, Bool.true_and]
    by_cases fit : fits k s = true
    · rw [if_pos fit, queueClaim_room link room, fit]
      exact .claimed waiting
    · rw [if_neg fit, Bool.eq_false_iff.mpr fit]
      exact .unpassed tried
  · have idle : tries k s = false := Bool.eq_false_iff.mpr tried
    have same : testOne k s = s := by
      unfold tries at idle
      rw [Bool.and_eq_false_iff] at idle
      rcases idle with settled | off
      · exact testOne_settled (of_decide_eq_false settled)
      · have held : (s.lbu.load k).heldOff = true := by simpa using off
        simp [testOne, together, held]
    rw [same, idle, Bool.false_and]
    exact .nothing idle

/-- R161: what a test of a record does on an ISOLATED station; `g`: the record is granted. -/
structure Soloed (k : LoadKind) (g : Bool) (s t : State) : Prop where
  granted : g = true →
    t.lbu.load k = { s.lbu.load k with state := .held, window := none, metFull := false } ∧ Awaits .status t
  waits : g = false → t.lbu.load k = if (s.lbu.load k).state = .waiting then { s.lbu.load k with metFull := false } else s.lbu.load k
  status : Awaits .status s → Awaits .status t
  agenda : t.lbu.agenda = s.lbu.agenda ++ if g then [.granted k] else []
  total : ownTotal t = ownTotal s + if g then (s.lbu.load k).amount else 0
  others : ∀ j, j ≠ k → t.lbu.load j = s.lbu.load j
  params : t.params = s.params
  alone : isolated t = isolated s
  loads : loadFrames t = loadFrames s

theorem Soloed.nothing (idle : (s.lbu.load k).state ≠ .waiting) : Soloed k false s s where
  granted := nofun
  waits _ := (if_neg idle).symm
  status := id
  agenda := (List.append_nil _).symm
  total := rfl
  others _ _ := rfl
  params := rfl
  alone := rfl
  loads := rfl

theorem Soloed.refused (waiting : (s.lbu.load k).state = .waiting) : Soloed k false s (modLoad k (fun l => { l with metFull := false }) s) where
  granted := nofun
  waits _ := (modLoad_load ..).trans (if_pos waiting).symm
  status := id
  agenda := (Requesting.modLoad_lbu_agenda ..).trans (List.append_nil _).symm
  total := ownTotal_metFull k s
  others _ other := modLoad_other other ..
  params := rfl
  alone := rfl
  loads := rfl

theorem ownTotal_granted (waiting : (s.lbu.load k).state = .waiting) :
    ownTotal (grantLoad k s) = ownTotal s + (s.lbu.load k).amount := by
  let w := modLoad k (fun l => { l with state := .held, window := none, metFull := false }) s
  have lbu : (announceChange w).lbu = w.lbu := announceChange_lbu w
  have params : (announceChange w).params = s.params := announceChange_params w
  have same : ownTotal (grantLoad k s) = ownTotal w := by
    show (announceChange w).params.baseLoad + (announceChange w).lbu.motor.heldAmount + (announceChange w).lbu.compressor.heldAmount +
      (announceChange w).lbu.heater.heldAmount = _
    rw [lbu, params]
    rfl
  have none : (s.lbu.load k).heldAmount = 0 := if_neg (by rw [waiting]; nofun)
  have full : (w.lbu.load k).heldAmount = (s.lbu.load k).amount := by
    show ((modLoad k _ s).lbu.load k).heldAmount = _
    rw [modLoad_load]
    exact if_pos rfl
  rw [same, ownTotal_beside k, ownTotal_beside k s, full, none, (modLoad_alike k _ s).own, Nat.add_zero]

theorem Soloed.grants (waiting : (s.lbu.load k).state = .waiting) (room : HasRoom .status s) : Soloed k true s (grantLoad k s) := by
  let w := modLoad k (fun l => { l with state := .held, window := none, metFull := false }) s
  let c := w.modLnk fun l => { l with change := l.change + 1 }
  have lbu : (announceChange w).lbu = w.lbu := announceChange_lbu w
  refine ⟨fun _ => ⟨?_, ?_⟩, nofun, fun waits => ?_, ?_, ?_, fun j other => ?_, ?_, ?_, ?_⟩
  · show ((announceChange w).lbu.load k) = _
    rw [lbu]
    exact modLoad_load ..
  · exact awaits_queueStatus (s := c) room
  · exact (queueStatus_aside c).status waits
  · show (announceChange w).lbu.agenda ++ _ = _
    rw [lbu]
    exact congrArg (· ++ [Signal.granted k]) (Requesting.modLoad_lbu_agenda ..)
  · exact ownTotal_granted waiting
  · show (announceChange w).lbu.load j = _
    rw [lbu]
    exact modLoad_other other ..
  · exact grantLoad_params k s
  · unfold isolated
    rw [grantLoad_lnk_state, grantLoad_lnk_heard]
  · exact (queueStatus_aside c).loads

/-- R161: the test of a record on an ISOLATED station. -/
theorem testOne_soloed (alone : isolated s = true) (room : HasRoom .status s) :
    Soloed k (decide ((s.lbu.load k).state = .waiting) && fitsSolo k s) s (testOne k s) := by
  by_cases waiting : (s.lbu.load k).state = .waiting
  · rw [decide_eq_true waiting, Bool.true_and]
    by_cases fit : fitsSolo k s = true
    · have made : testOne k s = grantLoad k s := by simp [testOne, waiting, alone, fit]
      rw [made, fit]
      exact .grants waiting room
    · have made : testOne k s = modLoad k (fun l => { l with metFull := false }) s := by simp [testOne, waiting, alone, fit]
      rw [made, Bool.eq_false_iff.mpr fit]
      exact .refused waiting
  · rw [decide_eq_false waiting, Bool.false_and, testOne_settled waiting]
    exact .nothing waiting

end Sys2Proof.Machine.Withdrawing
end

section
/-! PROOFS. The tests beside a MOTOR record that is gone, in class order (R153, R161). -/

namespace Sys2Proof.Machine.Withdrawing

set_option Elab.async false

open Laws Intake Requesting Queueing Deciding Turning

variable {k : LoadKind} {s t u z y : State}

/-! ### The records that pass (R153) -/

/-- R151: the claims that count beside the MOTOR record. -/
def counted (s : State) : LoadKind → Bool := fun j => claiming s j && decide (j ≠ .motor)

theorem waitsBeside_cooling (cooling : k ≠ .motor) (s : State) : waitsBeside .motor s k = decide ((s.lbu.load k).state = .waiting) := by
  simp [waitsBeside, cooling]

/-- R153: the claims that count once a record has been tested. -/
def countedAfter (own : Nat) (c : LoadKind → Bool) (k : LoadKind) (s : State) : LoadKind → Bool :=
  fun j => c j || ((tries k s && fitsAt own c k s) && decide (j = k))

theorem counted_step (own : Nat) (c : LoadKind → Bool) (cooling : k ≠ .motor) (s : State) :
    (if waitsBeside .motor s k = true ∧ (s.lbu.load k).heldOff = false ∧ fitsAt own c k s = true then
      fun j => c j || decide (j = k) else c) = countedAfter own c k s := by
  unfold countedAfter tries waitsBeside
  by_cases passes : decide (k ≠ .motor ∧ (s.lbu.load k).state = .waiting) = true ∧ (s.lbu.load k).heldOff = false ∧ fitsAt own c k s = true
  · obtain ⟨waits, free, fit⟩ := passes
    have waiting : (s.lbu.load k).state = .waiting := (of_decide_eq_true waits).2
    rw [if_pos ⟨waits, free, fit⟩, waiting, free, fit]
    rfl
  · rw [if_neg passes]
    funext j
    have fails : (decide ((s.lbu.load k).state = .waiting) && !(s.lbu.load k).heldOff && fitsAt own c k s) = false := by
      rw [Bool.eq_false_iff]
      simpa [cooling, and_assoc] using passes
    rw [fails]
    exact (Bool.or_false _).symm

/-- R153: the compressor record is tested before the heater record. -/
theorem passedBeside_eq (own : Nat) (s : State) :
    passedBeside .motor own s = countedAfter own (countedAfter own (counted s) .compressor s) .heater s := by
  rw [← counted_step own _ (by decide : LoadKind.heater ≠ .motor), ← counted_step own _ (by decide : LoadKind.compressor ≠ .motor)]
  have motor (h : Prop) : ¬ (waitsBeside .motor s .motor = true ∧ h) := fun both => by simp [waitsBeside] at both
  have first (a b : LoadKind → Bool) (h : Prop) [Decidable h] : (if waitsBeside .motor s .motor = true ∧ h then a else b) = b :=
    if_neg (motor h)
  unfold passedBeside classOrder
  simp only [List.foldl_cons, List.foldl_nil, first]
  rfl

/-- R153: the record waits beside MOTOR and passes its test, the records before it tested first. -/
def passing (s : State) (k : LoadKind) : Bool := waitsBeside .motor s k && passedBeside .motor (ownTotal s) s k

theorem passing_motor (s : State) : passing s .motor = false := by simp [passing, waitsBeside]

/-- A record that waits passes only by its own test. -/
theorem passing_of (own : Nat) (c : LoadKind → Bool) (cooling : k ≠ .motor) (fresh : (s.lbu.load k).state = .waiting → c k = false) :
    (waitsBeside .motor s k && countedAfter own c k s k) = (tries k s && fitsAt own c k s) := by
  unfold countedAfter tries waitsBeside
  by_cases waits : (s.lbu.load k).state = .waiting
  · simp [waits, fresh waits, cooling]
  · simp [waits]

theorem counted_waits (waits : (s.lbu.load k).state = .waiting) : counted s k = false := by
  simp [counted, claiming, waits]

theorem passing_compressor (s : State) :
    passing s .compressor = (tries .compressor s && fitsAt (ownTotal s) (counted s) .compressor s) := by
  rw [← passing_of (ownTotal s) (counted s) (by decide) counted_waits, passing, passedBeside_eq]
  congr 1
  show (countedAfter _ _ _ _ _ || (_ && decide (LoadKind.compressor = .heater))) = _
  rw [decide_eq_false (by decide), Bool.and_false, Bool.or_false]

theorem passing_heater (s : State) :
    passing s .heater =
      (tries .heater s && fitsAt (ownTotal s) (countedAfter (ownTotal s) (counted s) .compressor s) .heater s) := by
  have fresh (waits : (s.lbu.load .heater).state = .waiting) :
      countedAfter (ownTotal s) (counted s) .compressor s .heater = false := by
    show (counted s .heater || (_ && decide (LoadKind.heater = .compressor))) = _
    rw [counted_waits waits, decide_eq_false (by decide), Bool.and_false]
    rfl
  rw [← passing_of (ownTotal s) _ (by decide) fresh, passing, passedBeside_eq]

/-- R153: the sequence of the CLAIM of a record that passes. -/
def sequenceOf (s : State) (k : LoadKind) : Byte :=
  s.lbu.claimCounter + 1 + BitVec.ofNat 8 ((classOrder.takeWhile fun j => decide (j ≠ k)).filter (passing s)).length

theorem sequenceOf_compressor (s : State) : sequenceOf s .compressor = s.lbu.claimCounter + 1 := by
  have first : (classOrder.takeWhile fun j => decide (j ≠ LoadKind.compressor)) = [.motor] := rfl
  rw [sequenceOf, first, List.filter_cons_of_neg (by rw [passing_motor]; nofun)]
  exact BitVec.add_zero _

theorem sequenceOf_heater (s : State) :
    sequenceOf s .heater = s.lbu.claimCounter + (if passing s .compressor then 1 else 0) + 1 := by
  have first : (classOrder.takeWhile fun j => decide (j ≠ LoadKind.heater)) = [.motor, .compressor] := rfl
  rw [sequenceOf, first, List.filter_cons_of_neg (by rw [passing_motor]; nofun)]
  by_cases passes : passing s .compressor = true
  · rw [List.filter_cons_of_pos passes, if_pos passes]
    rfl
  · rw [List.filter_cons_of_neg passes, if_neg passes]
    exact (BitVec.add_zero _).trans (congrArg (· + 1) (BitVec.add_zero _).symm)

/-! ### The records the solo rule grants (R161) -/

/-- R161: the records granted beside a MOTOR record that is gone. -/
def soloed (s : State) (k : LoadKind) : Bool := (soloTests (waitsBeside .motor s) s (ownTotal s, fun _ => false)).2 k

/-- R161: the compressor record is granted within the allowance. -/
def soloFirst (s : State) : Bool :=
  decide ((s.lbu.load .compressor).state = .waiting) && decide (ownTotal s + (s.lbu.load .compressor).amount ≤ soloAllowance s)

/-- R161: the heater record is granted within what the compressor leaves of the allowance. -/
def soloSecond (s : State) : Bool :=
  decide ((s.lbu.load .heater).state = .waiting) &&
    decide (ownTotal s + (if soloFirst s then (s.lbu.load .compressor).amount else 0) + (s.lbu.load .heater).amount ≤ soloAllowance s)

/-- R161: one record taken into the own total, or not. -/
theorem solo_step (g : Nat × (LoadKind → Bool)) (w : Bool) (k : LoadKind) (amount allowance : Nat) :
    (if w = true ∧ g.1 + amount ≤ allowance then (g.1 + amount, fun j => g.2 j || decide (j = k)) else g) =
      (g.1 + (if w && decide (g.1 + amount ≤ allowance) then amount else 0),
        fun j => g.2 j || ((w && decide (g.1 + amount ≤ allowance)) && decide (j = k))) := by
  by_cases taken : w = true ∧ g.1 + amount ≤ allowance
  · obtain ⟨waits, fit⟩ := taken
    rw [if_pos ⟨waits, fit⟩, waits, decide_eq_true fit]
    rfl
  · have fails : (w && decide (g.1 + amount ≤ allowance)) = false := by
      rw [Bool.eq_false_iff]
      simpa using taken
    rw [if_neg taken, fails]
    exact Prod.ext rfl (funext fun j => (Bool.or_false _).symm)

theorem soloTests_eq (s : State) :
    (soloTests (waitsBeside .motor s) s (ownTotal s, fun _ => false)).2 = fun j =>
      (false || (soloFirst s && decide (j = .compressor))) || (soloSecond s && decide (j = .heater)) := by
  have motor : waitsBeside .motor s .motor = false := by simp [waitsBeside]
  have skip (a b : Nat × (LoadKind → Bool)) (h : Prop) [Decidable h] : (if waitsBeside .motor s .motor = true ∧ h then a else b) = b :=
    if_neg fun both => by rw [motor] at both; exact Bool.false_ne_true both.1
  have first := waitsBeside_cooling (k := .compressor) (by decide) s
  have second := waitsBeside_cooling (k := .heater) (by decide) s
  unfold soloTests classOrder
  rw [List.foldl_cons, List.foldl_cons, List.foldl_cons, List.foldl_nil, skip, solo_step _ _ .compressor, solo_step _ _ .heater, first,
    second]
  rfl

theorem soloed_compressor (s : State) : soloed s .compressor = soloFirst s := by
  simp [soloed, soloTests_eq]

theorem soloed_heater (s : State) : soloed s .heater = soloSecond s := by
  simp [soloed, soloTests_eq]

end Sys2Proof.Machine.Withdrawing
end

section
/-! PROOFS. What the tests beside a gone MOTOR record leave, and the withdrawal of the MOTOR request (R158). -/

namespace Sys2Proof.Machine.Withdrawing

set_option Elab.async false

open Laws Intake Requesting Queueing Deciding Turning

variable {k : LoadKind} {s t u z y w : State}

/-! ### The tests beside the MOTOR record (R153, R161) -/

/-- R158: from `u` the MOTOR record is gone, and nothing else that the tests read has changed. -/
structure Vacated (u z : State) : Prop where
  motor : z.lbu.motor.state = .none
  unheld : u.lbu.motor.state ≠ .held
  amount : z.lbu.motor.amount = u.lbu.motor.amount
  alike : TestsAlike .motor u z
  counter : z.lbu.claimCounter = u.lbu.claimCounter
  agenda : z.lbu.agenda = []
  rfc : z.rfc = u.rfc
  awake : z.lnk.state ≠ .listenOnly

namespace Vacated
variable (h : Vacated u z)
include h

theorem load (cooling : k ≠ .motor) : z.lbu.load k = u.lbu.load k := h.alike.others k cooling

theorem total : ownTotal z = ownTotal u := by
  have gone : (z.lbu.load .motor).heldAmount = 0 := if_neg fun held => by cases h.motor.symm.trans held
  have before : (u.lbu.load .motor).heldAmount = 0 := if_neg h.unheld
  rw [ownTotal_beside .motor z, ownTotal_beside .motor u, h.alike.own, gone, before]

theorem amounts (j : LoadKind) : (z.lbu.load j).amount = (u.lbu.load j).amount := by
  by_cases motor : j = .motor
  · subst motor; exact h.amount
  · rw [h.load motor]

theorem claims : claiming z = counted u := by
  funext j
  unfold counted
  by_cases motor : j = .motor
  · subst motor
    have settled : claiming z .motor = false := by
      refine decide_eq_false fun claims => ?_
      rcases claims with queued | proposed
      · cases h.motor.symm.trans queued
      · cases h.motor.symm.trans proposed
    rw [settled]
    simp
  · simp [claiming, h.load motor, motor]

theorem tries (cooling : k ≠ .motor) : tries k z = Withdrawing.tries k u := by
  unfold Withdrawing.tries; rw [h.load cooling]

theorem unwaiting : testOne .motor z = z := testOne_settled fun waits => by cases h.motor.symm.trans waits

end Vacated

theorem fitsAt_congr {own : Nat} {c : LoadKind → Bool} (amounts : ∀ j, (t.lbu.load j).amount = (s.lbu.load j).amount)
    (sum : peerSum t = peerSum s) (limit : effectiveLimit t = effectiveLimit s) : fitsAt own c k t = fitsAt own c k s := by
  unfold fitsAt
  simp only [amounts, sum, limit]

/-- R153, R161: what the tests leave of a record of the cooling. -/
structure Retested (k : LoadKind) (u w : State) : Prop where
  claim : isolated u = false → passing u k = true →
    w.lbu.load k = { u.lbu.load k with state := .queued, sequence := sequenceOf u k, metFull := false } ∧
      Awaits (.claim k (u.lbu.load k).cls (u.lbu.load k).amount (sequenceOf u k)) w
  stays : isolated u = false → passing u k = false →
    w.lbu.load k = if waitsBeside .motor u k = true ∧ (u.lbu.load k).heldOff = false then { u.lbu.load k with metFull := false } else u.lbu.load k
  granted : isolated u = true → soloed u k = true →
    w.lbu.load k = { u.lbu.load k with state := .held, window := none, metFull := false } ∧ .granted k ∈ w.lbu.agenda ∧ Awaits .status w
  waits : isolated u = true → soloed u k = false →
    w.lbu.load k = if waitsBeside .motor u k = true then { u.lbu.load k with metFull := false } else u.lbu.load k

/-- R153, R161: what the tests leave of the whole. -/
structure Tests (u z w : State) : Prop where
  motor : w.lbu.motor.state = .none
  compressor : Retested .compressor u w
  heater : Retested .heater u w
  grown : Grown z w
  awaits : ∀ f, isClaimFrame f = false → Awaits f z → Awaits f w
  loads : isolated u = true → loadFrames w = loadFrames z
  change : isolated u = false → w.lnk.change = z.lnk.change
  agenda : w.lbu.agenda.length ≤ 2
  rfc : w.rfc = u.rfc

theorem stays_iff (cooling : k ≠ .motor) : tries k u = true ↔ waitsBeside .motor u k = true ∧ (u.lbu.load k).heldOff = false := by
  rw [waitsBeside_cooling cooling, decide_eq_true_iff, tries, Bool.and_eq_true, decide_eq_true_iff, Bool.not_eq_true']

/-- R153: the tests on a station that is not ISOLATED. -/
theorem tests_together (h : Vacated u z) (room : reserved (places z) ≤ 5) (together : isolated u = false) : Tests u z (testWaiting z) := by
  have queues {v : State} {n : Nat} (q : Queued n z v) (few : n ≤ 1) : v.lnk.queue.length < 8 := q.room (by omega)
  have first : Tried .compressor (tries .compressor z && fits .compressor z) z (testOne .compressor z) :=
    testOne_tried (h.alike.together.trans together) h.awake (queues (n := 0) (.refl z) (by decide))
  generalize made : testOne .compressor z = y at first
  have second : Tried .heater (tries .heater y && fits .heater y) y (testOne .heater y) := by
    refine testOne_tried ((first.alike.together.trans h.alike.together).trans together) ?_ ?_
    · rw [first.link]; exact h.awake
    · rw [← made]; exact queues (testOne_queued .compressor z) (by decide)
  have one : (tries .compressor z && fits .compressor z) = passing u .compressor := by
    rw [passing_compressor, h.tries (by decide), fits_eq_at, h.total, h.claims, fitsAt_congr h.amounts h.alike.sum h.alike.limit]
  have heaterBefore : y.lbu.load .heater = u.lbu.load .heater := (first.alike.others _ (by decide)).trans (h.load (by decide))
  have two : (tries .heater y && fits .heater y) = passing u .heater := by
    have waits : tries .heater y = tries .heater u := by unfold tries; rw [heaterBefore]
    have claims : claiming y = countedAfter (ownTotal u) (counted u) .compressor u := by
      rw [first.claims, h.claims, one, passing_compressor]; rfl
    rw [passing_heater, waits, fits_eq_at, first.total, h.total, claims,
      fitsAt_congr (fun j => (first.amounts j).trans (h.amounts j)) (first.alike.sum.trans h.alike.sum)
        (first.alike.limit.trans h.alike.limit)]
  rw [one] at first
  rw [two] at second
  have whole : testWaiting z = testOne .heater y := by rw [← made, testWaiting, h.unwaiting]
  have rfc : (testWaiting z).rfc = u.rfc := (testWaiting_rfc z).trans h.rfc
  rw [whole] at rfc ⊢
  generalize testOne .heater y = w at second rfc
  have compressorAfter : w.lbu.load .compressor = y.lbu.load .compressor := second.alike.others _ (by decide)
  have alone {p : Prop} (i : isolated u = true) : p := by cases together.symm.trans i
  have compressorSame : z.lbu.load .compressor = u.lbu.load .compressor := h.load (by decide)
  refine ⟨?_, ⟨fun _ p => ?_, fun _ p => ?_, fun i => alone i, fun i => alone i⟩,
    ⟨fun _ p => ?_, fun _ p => ?_, fun i => alone i, fun i => alone i⟩,
    (first.grown (by decide)).trans (second.grown (by decide)), fun f _ waits => second.awaits f (first.awaits f waits), fun i => alone i,
    fun _ => second.change.trans first.change, ?_, rfc⟩
  · have still : w.lbu.load .motor = z.lbu.load .motor := (second.alike.others _ (by decide)).trans (first.alike.others _ (by decide))
    exact (congrArg OwnLoad.state still).trans h.motor
  · obtain ⟨record, waits⟩ := first.passes p
    rw [compressorSame, h.counter] at record waits
    rw [compressorAfter, sequenceOf_compressor]
    exact ⟨record, second.awaits _ waits⟩
  · rw [compressorAfter, first.stays p, h.tries (by decide), compressorSame]
    exact if_congr (stays_iff (by decide)) rfl rfl
  · obtain ⟨record, waits⟩ := second.passes p
    rw [heaterBefore, first.counter, h.counter] at record waits
    rw [sequenceOf_heater]
    exact ⟨record, waits⟩
  · have tried : tries .heater y = tries .heater u := by unfold tries; rw [heaterBefore]
    rw [second.stays p, tried, heaterBefore]
    exact if_congr (stays_iff (by decide)) rfl rfl
  · rw [second.agenda, first.agenda, h.agenda]
    exact Nat.zero_le _

/-- R161: the tests on an ISOLATED station. -/
theorem tests_alone (h : Vacated u z) (room : reserved (places z) ≤ 5) (alone : isolated u = true) : Tests u z (testWaiting z) := by
  have queues {v : State} {n : Nat} (q : Queued n z v) (few : n ≤ 1) : v.lnk.queue.length < 8 := q.room (by omega)
  have asked : isolated z = true := h.alike.together.trans alone
  have first := testOne_soloed (k := .compressor) asked ⟨h.awake, .inr (queues (n := 0) (.refl z) (by decide))⟩
  have firstQueued := testOne_queued .compressor z
  generalize made : testOne .compressor z = y at first firstQueued
  have second := testOne_soloed (k := .heater) (first.alone.trans asked)
    ⟨by rw [firstQueued.link]; exact h.awake, .inr (queues firstQueued (by decide))⟩
  have compressorSame : z.lbu.load .compressor = u.lbu.load .compressor := h.load (by decide)
  have heaterBefore : y.lbu.load .heater = u.lbu.load .heater := (first.others _ (by decide)).trans (h.load (by decide))
  have allowance : soloAllowance z = soloAllowance u := by unfold soloAllowance; rw [h.alike.params]
  have one : (decide ((z.lbu.load .compressor).state = .waiting) && fitsSolo .compressor z) = soloed u .compressor := by
    rw [soloed_compressor, soloFirst, fitsSolo, compressorSame, h.total, allowance]
  rw [one] at first
  have two : (decide ((y.lbu.load .heater).state = .waiting) && fitsSolo .heater y) = soloed u .heater := by
    have after : soloAllowance y = soloAllowance u := by unfold soloAllowance; rw [first.params, h.alike.params]
    rw [soloed_heater, soloSecond, fitsSolo, heaterBefore, first.total, h.total, after, compressorSame, soloed_compressor]
  rw [two] at second
  have whole : testWaiting z = testOne .heater y := by rw [← made, testWaiting, h.unwaiting]
  have rfc : (testWaiting z).rfc = u.rfc := (testWaiting_rfc z).trans h.rfc
  have queued : Queued 2 z (testWaiting z) := (testWaiting_motorless h.motor).2
  rw [whole] at rfc queued ⊢
  generalize testOne .heater y = w at second rfc queued
  have compressorAfter : w.lbu.load .compressor = y.lbu.load .compressor := second.others _ (by decide)
  have never {p : Prop} (i : isolated u = false) : p := by cases alone.symm.trans i
  have agenda : w.lbu.agenda = (if soloed u .compressor then [.granted .compressor] else []) ++
      if soloed u .heater then [.granted .heater] else [] := by
    rw [second.agenda, first.agenda, h.agenda, List.nil_append]
  have loads : loadFrames w = loadFrames z := second.loads.trans first.loads
  refine ⟨?_, ⟨fun i => never i, fun i => never i, fun _ g => ?_, fun _ g => ?_⟩,
    ⟨fun i => never i, fun i => never i, fun _ g => ?_, fun _ g => ?_⟩,
    .of_loads loads, fun f lasts waits => queued.awaits lasts waits, fun _ => loads, fun i => never i, ?_, rfc⟩
  · have still : w.lbu.load .motor = z.lbu.load .motor := (second.others _ (by decide)).trans (first.others _ (by decide))
    exact (congrArg OwnLoad.state still).trans h.motor
  · obtain ⟨record, told⟩ := first.granted g
    rw [compressorSame] at record
    refine ⟨compressorAfter.trans record, ?_, second.status told⟩
    rw [agenda, g]
    exact List.mem_append_left _ (List.mem_singleton_self _)
  · rw [compressorAfter, first.waits g, compressorSame]
    exact if_congr (by rw [waitsBeside_cooling (by decide), decide_eq_true_iff]) rfl rfl
  · obtain ⟨record, told⟩ := second.granted g
    rw [heaterBefore] at record
    refine ⟨record, ?_, told⟩
    rw [agenda, g]
    exact List.mem_append_right _ (List.mem_singleton_self _)
  · rw [second.waits g, heaterBefore]
    exact if_congr (by rw [waitsBeside_cooling (by decide), decide_eq_true_iff]) rfl rfl
  · rw [agenda]
    by_cases c : soloed u .compressor <;> by_cases g : soloed u .heater <;> simp [c, g]

theorem tests_made (h : Vacated u z) (room : reserved (places z) ≤ 5) : Tests u z (testWaiting z) := by
  by_cases alone : isolated u = true
  · exact tests_alone h room alone
  · exact tests_together h room (Bool.eq_false_iff.mpr alone)

end Sys2Proof.Machine.Withdrawing
end

section
/-! PROOFS. The MOTOR request withdrawn, seen at the end of its event (R100, R134, R138, R158). -/

namespace Sys2Proof.Machine.Withdrawing

set_option Elab.async false

open Laws Intake Requesting Queueing Deciding Turning

variable {k : LoadKind} {s t u z y w : State}

/-! ### The cooling told of its grants (R134, R138) -/

/-- What a signal does to the cooling in an event that leaves the vend alone. -/
theorem takeSignal_rfc (calm : Calm u) (g : Signal) :
    (takeSignal g u).rfc = u.rfc ∨
      (g = .granted .compressor ∧ u.rfc.state = .want ∧
        (takeSignal g u).rfc = { u.rfc with state := .starting, startTimer := some 0, onTimer := some 0, second := 0 }) ∨
      (g = .granted .heater ∧ u.rfc.heaterMode = some .waiting ∧ u.rfc.state = .defrostHeat ∧
        (takeSignal g u).rfc = { u.rfc with heaterMode := some .heating }) := by
  cases g with
  | takeHead => exact .inl (by rw [takeSignal, takeHead, calm.empty]; exact congrArg State.rfc (ite_self u))
  | granted k =>
    cases k with
    | motor =>
      refine .inl (congrArg State.rfc (?_ : motorGranted u = u))
      unfold motorGranted
      rcases calm.calm with state | state <;> rw [state] <;> exact ite_self u
    | compressor =>
      by_cases starts : u.rfc.state = .want ∧ u.lbu.compressor.state = .held
      · exact .inr (.inl ⟨rfl, starts.1, congrArg State.rfc (if_pos starts)⟩)
      · exact .inl (congrArg State.rfc (if_neg starts))
    | heater =>
      by_cases heats : u.rfc.state = .defrostHeat ∧ u.rfc.heaterMode = some .waiting ∧ u.lbu.heater.state = .held
      · exact .inr (.inr ⟨rfl, heats.2.1, heats.1, congrArg State.rfc (if_pos heats)⟩)
      · exact .inl (congrArg State.rfc (if_neg heats))

/-- R134: the compressor is started. -/
def CompressorStarts (r : Rfc) : Prop := r.state = .starting ∧ r.startTimer = some 0 ∧ r.onTimer = some 0

theorem runAgendaFor_starts {n : Nat} (calm : Calm s) (length : s.lbu.agenda.length ≤ n) (held : s.lbu.compressor.state = .held)
    (told : .granted .compressor ∈ s.lbu.agenda) (want : s.rfc.state = .want) : CompressorStarts (runAgendaFor n s).rfc := by
  refine runAgendaFor_tells (P := fun r => r.state = .want) (held := fun u => u.lbu.compressor.state = .held) (fun _ _ _ => id)
    (fun u on want => ?_) (fun g u calm want => ?_) (fun g u calm starts => ?_) n s calm held length (.inr ⟨want, told⟩)
  · have made : takeSignal (.granted .compressor) u = startCompressor u := if_pos ⟨want, on⟩
    rw [made]
    exact ⟨rfl, rfl, rfl⟩
  · rcases takeSignal_rfc calm g with e | ⟨-, -, e⟩ | ⟨-, -, -, e⟩ <;> rw [e]
    · exact .inl want
    · exact .inr ⟨rfl, rfl, rfl⟩
    · exact .inl want
  · rcases takeSignal_rfc calm g with e | ⟨-, want, -⟩ | ⟨-, -, -, e⟩
    · rw [e]; exact starts
    · cases starts.1.symm.trans want
    · rw [e]; exact starts

theorem runAgendaFor_heats {n : Nat} (calm : Calm s) (length : s.lbu.agenda.length ≤ n) (held : s.lbu.heater.state = .held)
    (told : .granted .heater ∈ s.lbu.agenda) (defrosts : s.rfc.state = .defrostHeat) (waits : s.rfc.heaterMode = some .waiting) :
    (runAgendaFor n s).rfc.heaterMode = some .heating := by
  refine runAgendaFor_tells (P := fun r => r.state = .defrostHeat ∧ r.heaterMode = some .waiting)
    (Q := fun r => r.heaterMode = some .heating) (held := fun u => u.lbu.heater.state = .held) (fun _ _ _ => id)
    (fun u on pending => ?_) (fun g u calm pending => ?_) (fun g u calm heats => ?_) n s calm held length (.inr ⟨⟨defrosts, waits⟩, told⟩)
  · have made : takeSignal (.granted .heater) u = startHeating u := if_pos ⟨pending.1, pending.2, on⟩
    rw [made]
    rfl
  · rcases takeSignal_rfc calm g with e | ⟨-, want, -⟩ | ⟨-, -, -, e⟩
    · rw [e]; exact .inl pending
    · cases pending.1.symm.trans want
    · rw [e]; exact .inr rfl
  · rcases takeSignal_rfc calm g with e | ⟨-, -, e⟩ | ⟨-, -, -, e⟩ <;> rw [e]
    · exact heats
    · exact heats

/-! ### The rest of the event -/

/-- From `w` to the end `t` of the event the queued CLAIMs and RELEASEs, the change number and the own records stand, a waiting STATUS
goes on to wait, and the cooling is told of its grants. -/
structure Carried (w t : State) : Prop where
  loads : loadFrames t = loadFrames w
  status : Awaits .status w → Awaits .status t
  change : t.lnk.change = w.lnk.change
  load : ∀ k, t.lbu.load k = w.lbu.load k
  told : ∀ k, k ≠ .motor → .granted k ∈ w.lbu.agenda → (w.lbu.load k).state = .held → OwnerTold k w t

/-- The acts aside of an event that leaves the vend in SETTLING or over, and then its signals. -/
theorem Aside.carried (h : Aside w s) (calm : Calm s) {l : List Signal} (agenda : s.lbu.agenda = w.lbu.agenda ++ l)
    (length : s.lbu.agenda.length ≤ 32) : Carried w (refreshOutputs (runAgenda s)) := by
  obtain ⟨r, a, ends⟩ := runAgenda_aside calm.calm calm.empty
  have left {g : Signal} (mem : g ∈ w.lbu.agenda) : g ∈ s.lbu.agenda := by rw [agenda]; exact List.mem_append_left _ mem
  have lnk : (refreshOutputs (runAgenda s)).lnk = s.lnk := by rw [ends]; rfl
  have load (k : LoadKind) : (refreshOutputs (runAgenda s)).lbu.load k = s.lbu.load k := by rw [ends]; cases k <;> rfl
  refine ⟨?_, fun waits => ?_, by rw [lnk, h.change], fun k => (load k).trans (h.load k), fun k cooling mem held => ?_⟩
  · rw [← h.loads, loadFrames_eq, loadFrames_eq, lnk]
  · have asked := h.status waits
    unfold Awaits at *
    rwa [lnk]
  · rw [← h.load k] at held
    cases k with
    | motor => exact absurd rfl cooling
    | compressor =>
      intro want
      exact runAgendaFor_starts calm length held (left mem) (by rw [h.rfc]; exact want)
    | heater =>
      intro defrosts waits
      exact runAgendaFor_heats calm length held (left mem) (by rw [h.rfc]; exact defrosts) (by rw [h.rfc]; exact waits)

theorem Carried.awaits {f : Frame} (c : Carried w t) (load : isLoadFrame f = true) (waits : Awaits f w) : Awaits f t := by
  obtain ⟨e, mem, is, off⟩ := waits
  have kept : e ∈ loadFrames t := by
    rw [c.loads]
    exact mem_loadFrames.mpr ⟨mem, is ▸ load⟩
  exact ⟨e, (mem_loadFrames.mp kept).1, is, off⟩

/-- R153, R161: the tests of the withdrawal, seen at the end of the event. -/
theorem Retested.beside (h : Retested k u w) (cooling : k ≠ .motor) (rfc : w.rfc = u.rfc) (c : Carried w t) :
    TestedBeside .motor (ownTotal u) k u t := by
  refine ⟨fun together => ⟨fun p => ?_, fun p => ?_⟩, fun alone _ => ⟨fun g => ?_, fun g => ?_⟩⟩
  · obtain ⟨record, waits⟩ := h.claim together p
    exact ⟨(c.load k).trans record, c.awaits rfl waits⟩
  · exact (c.load k).trans (h.stays together p)
  · obtain ⟨record, mem, waits⟩ := h.granted alone g
    refine ⟨(c.load k).trans record, ?_, c.status waits⟩
    have told := c.told k cooling mem (by rw [record])
    cases k with
    | motor => exact absurd rfl cooling
    | compressor => rwa [OwnerTold, rfc] at told
    | heater => rwa [OwnerTold, rfc] at told
  · exact (c.load k).trans (h.waits alone g)

theorem Tests.beside (h : Tests u z w) (c : Carried w t) (j : LoadKind) (other : j ≠ .motor) : TestedBeside .motor (ownTotal u) j u t := by
  cases j with
  | motor => exact absurd rfl other
  | compressor => exact h.compressor.beside other h.rfc c
  | heater => exact h.heater.beside other h.rfc c

/-! ### The withdrawal (R158) -/

/-- R158: the MOTOR record is cleared. -/
theorem clearLoad_vacated (awake : u.lnk.state ≠ .listenOnly) (agenda : u.lbu.agenda = []) (unheld : u.lbu.motor.state ≠ .held) :
    Vacated u (clearLoad .motor u) :=
  ⟨rfl, unheld, rfl, modLoad_alike .motor _ u, rfl, agenda, rfl, awake⟩

section Withdrawn
variable (awake : u.lnk.state ≠ .listenOnly) (agenda : u.lbu.agenda = []) (unheld : u.lbu.motor.state ≠ .held)
  (short : u.lnk.queue.length < 4)
include awake agenda unheld short

theorem clearLoad_tests : Tests u (clearLoad .motor u) (testWaiting (clearLoad .motor u)) :=
  tests_made (clearLoad_vacated awake agenda unheld) ((reserved_of_short (s := u) short).trans (by decide))

theorem removeClaim_tests (q : Byte) :
    Tests u (clearLoad .motor (removeClaim .motor q u)) (testWaiting (clearLoad .motor (removeClaim .motor q u))) := by
  have alike : TestsAlike .motor u (removeClaim .motor q u) := .of_peers rfl rfl (fun _ _ => rfl) rfl
  have room : reserved (places (removeClaim .motor q u)) ≤ 4 := by
    have := (removeClaim_queued .motor q u).taken
    have := reserved_of_short short
    omega
  exact tests_made ⟨rfl, unheld, rfl, alike.trans (modLoad_alike ..), rfl, agenda, rfl, awake⟩ (room.trans (by decide))

/-- R158: the RELEASE queued, with its STATUS, on top of the change. -/
structure Released (q : Byte) (u z : State) : Prop where
  tests : Tests u z (testWaiting z)
  loads : loadFrames z = loadFrames u ++ [TxEntry.fresh (.release .motor q)]
  status : Awaits .status z
  change : z.lnk.change = u.lnk.change + 1

theorem sendRelease_released (q : Byte) : Released q u (sendRelease .motor q (clearLoad .motor u)) := by
  let c := clearLoad .motor u
  let r := (queueing (.release .motor q) c).modLnk fun l => { l with change := l.change + 1 }
  have made : sendRelease .motor q c = queueStatus r := by
    rw [sendRelease, send_queueing (s := c) rfl awake (by show u.lnk.queue.length < 8; omega)]
    rfl
  have length : r.lnk.queue.length < 5 := by
    show (u.lnk.queue ++ [_]).length < 5
    rw [List.length_append, List.length_singleton]
    omega
  have lbu : (queueStatus r).lbu = c.lbu := queueStatus_lbu r
  have state : (queueStatus r).lnk.state = u.lnk.state := queueStatus_lnk_state r
  have heard : (queueStatus r).lnk.heard = u.lnk.heard := queueStatus_lnk_heard r
  have cleared := clearLoad_vacated awake agenda unheld
  rw [made]
  refine ⟨tests_made ⟨by rw [lbu]; rfl, unheld, by rw [lbu]; rfl, ?_, by rw [lbu]; rfl, by rw [lbu]; exact agenda,
    queueStatus_rfc r, by rw [state]; exact awake⟩ ?_, ?_, ?_, ?_⟩
  · refine cleared.alike.trans (.of_peers ?_ (queueStatus_params r) (fun j _ => by rw [lbu]) (by rw [lbu]))
    unfold isolated
    rw [state, heard]
    rfl
  · have := (queueStatus_queued r).taken
    have := reserved_of_short length
    omega
  · rw [(queueStatus_aside r).loads, loadFrames_eq, loadFrames_eq]
    exact List.filter_append ..
  · exact awaits_queueStatus ⟨awake, .inr (by omega)⟩
  · exact queueStatus_lnk_change r

/-- R158: the tests of a withdrawal of a record that counts, or that waits on an ISOLATED station. -/
theorem withdrawLoad_tests (tested : claiming u .motor = true ∨ (u.lbu.motor.state = .waiting ∧ isolated u = true)) :
    ∃ z, Tests u z (withdrawLoad .motor u) := by
  obtain ⟨-, -, waitsAlone, unbegun, released⟩ := withdrawLoad_cases .motor u
  rcases tested with claims | ⟨waits, alone⟩
  · rcases of_decide_eq_true claims with queued | proposed
    · by_cases begun : claimBegun .motor (u.lbu.load .motor).sequence u = true
      · rw [released (.inl ⟨queued, begun⟩)]
        exact ⟨_, (sendRelease_released awake agenda unheld short _).tests⟩
      · rw [unbegun queued (Bool.eq_false_iff.mpr begun)]
        exact ⟨_, removeClaim_tests awake agenda unheld short _⟩
    · rw [released (.inr proposed)]
      exact ⟨_, (sendRelease_released awake agenda unheld short _).tests⟩
  · rw [waitsAlone waits alone]
    exact ⟨_, clearLoad_tests awake agenda unheld short⟩

omit awake agenda unheld short in
/-- R158: the removal of a CLAIM leaves the RELEASEs. -/
theorem removeClaim_releases (q : Byte) (u : State) : releases (clearLoad .motor (removeClaim .motor q u)) = releases u := by
  have both (e : TxEntry) : (isReleaseFrame e.frame && (isLoadFrame e.frame && !(isClaim .motor q e.frame && e.onBus.isNone))) =
      (isReleaseFrame e.frame && isLoadFrame e.frame) := by
    cases e.frame <;> rfl
  rw [releases_eq, releases_eq, loadFrames_eq, loadFrames_eq, List.filter_filter, List.filter_filter]
  show (u.lnk.queue.filter _).filter _ = _
  rw [List.filter_filter]
  exact List.filter_congr fun e _ => (Bool.and_assoc ..).trans (both e)

/-- R158: the request withdrawn, by the state of its record. -/
theorem withdrawn_of (c : Carried (withdrawLoad .motor u) t) : Withdrawn .motor u t := by
  obtain ⟨-, waitsBeside, waitsAlone, unbegun, released⟩ := withdrawLoad_cases .motor u
  refine ⟨?_, fun waits => ⟨?_, fun together => ?_⟩, fun queued idle => ?_, fun queued begun => ?_, fun leaves => ?_,
    fun tested j other => ?_⟩
  · exact (congrArg OwnLoad.state (c.load .motor)).trans (withdrawMotor unheld).1
  · rw [c.loads]
    by_cases alone : isolated u = true
    · rw [waitsAlone waits alone]
      exact (clearLoad_tests awake agenda unheld short).loads alone
    · rw [waitsBeside waits (Bool.eq_false_iff.mpr alone)]
      rfl
  · have made := waitsBeside waits together
    refine ⟨by rw [c.change, made]; rfl, fun j other => ?_⟩
    rw [c.load, made]
    exact modLoad_other other ..
  · have made := unbegun queued idle
    have tests := removeClaim_tests awake agenda unheld short (u.lbu.load .motor).sequence
    rw [← made] at tests
    refine ⟨fun e mem => ?_, ?_, fun together => c.change.trans (tests.change together)⟩
    · rw [Bool.eq_false_iff]
      intro claim
      have load : e ∈ loadFrames t := mem_loadFrames.mpr ⟨mem, isLoadFrame_of_isClaim claim⟩
      rw [c.loads] at load
      obtain ⟨old, kept⟩ := List.mem_filter.mp (tests.grown.claims (mem_loadFrames.mp load).1 claim)
      rw [claim, Bool.true_and, Bool.not_eq_true', Option.isNone_eq_false_iff] at kept
      have begun : claimBegun .motor (u.lbu.load .motor).sequence u = true :=
        List.any_eq_true.mpr ⟨e, old, by rw [claim, kept]; rfl⟩
      cases idle.symm.trans begun
    · rw [releases_eq t, c.loads, ← releases_eq, tests.grown.releases, removeClaim_releases]
  · have made := released (.inl ⟨queued, begun⟩)
    have sent := sendRelease_released awake agenda unheld short (u.lbu.load .motor).sequence
    obtain ⟨e, mem, both⟩ := List.any_eq_true.mp begun
    obtain ⟨claim, on⟩ := Bool.and_eq_true_iff.mp both
    have old : e ∈ loadFrames u := mem_loadFrames.mpr ⟨mem, isLoadFrame_of_isClaim claim⟩
    have kept := sent.tests.grown.mem (by rw [sent.loads]; exact List.mem_append_left _ old)
    rw [← made, ← c.loads] at kept
    exact ⟨e, (mem_loadFrames.mp kept).1, claim, on⟩
  · have made := released leaves
    have sent := sendRelease_released awake agenda unheld short (u.lbu.load .motor).sequence
    have fresh : TxEntry.fresh (.release .motor (u.lbu.load .motor).sequence) ∈ loadFrames t := by
      rw [c.loads, made]
      exact sent.tests.grown.mem (by rw [sent.loads]; exact List.mem_append_right _ (List.mem_singleton_self _))
    refine ⟨⟨_, (mem_loadFrames.mp fresh).1, rfl, rfl⟩, c.status ?_, fun together => ?_⟩
    · rw [made]
      exact sent.tests.awaits _ rfl sent.status
    · rw [c.change, made, sent.tests.change together, sent.change]
  · obtain ⟨z, tests⟩ := withdrawLoad_tests awake agenda unheld short tested
    exact tests.beside c j other

/-- R161: a withdrawal tells at most the two records of the cooling. -/
theorem withdrawLoad_agenda : (withdrawLoad .motor u).lbu.agenda.length ≤ 2 := by
  obtain ⟨idle, waitsBeside, -, -, -⟩ := withdrawLoad_cases .motor u
  have quiet : u.lbu.agenda.length ≤ 2 := by rw [agenda]; exact Nat.zero_le _
  by_cases tested : claiming u .motor = true ∨ (u.lbu.motor.state = .waiting ∧ isolated u = true)
  · obtain ⟨z, tests⟩ := withdrawLoad_tests awake agenda unheld short tested
    exact tests.agenda
  · cases state : u.lbu.motor.state with
    | none => rw [idle (.inl state)]; exact quiet
    | held => exact absurd state unheld
    | waiting =>
      have together : isolated u = false := Bool.eq_false_iff.mpr fun alone => tested (.inr ⟨state, alone⟩)
      rw [waitsBeside state together]
      exact quiet
    | queued => exact absurd (.inl (decide_eq_true (.inl state))) tested
    | proposed => exact absurd (.inl (decide_eq_true (.inr state))) tested

end Withdrawn

/-- Of the state before its withdrawal a request reads the load table, the link, the parameters and the cooling alone. -/
theorem withdrawn_same {d : State} (h : Withdrawn .motor d t) (lbu : d.lbu = u.lbu) (lnk : d.lnk = u.lnk) (params : d.params = u.params)
    (rfc : d.rfc = u.rfc) : Withdrawn .motor u t := by
  cases d; cases u; cases lbu; cases lnk; cases params; cases rfc
  obtain ⟨gone, waiting, unbegun, begun, released, tests⟩ := h
  refine ⟨gone, waiting, unbegun, begun, released, fun tested j other => ?_⟩
  obtain ⟨together, alone⟩ := tests tested j other
  have never {p : Prop} {s : State} (waits : waitsBeside .motor s .motor = true) : p := by simp [waitsBeside] at waits
  cases j with
  | motor => exact absurd rfl other
  | compressor => exact ⟨together, fun i _ => alone i never⟩
  | heater => exact ⟨together, fun i _ => alone i never⟩

/-- R100: a MOTOR load that is not HELD is given up by a withdrawal. -/
theorem giveUpMotor_withdraws (unheld : u.lbu.motor.state ≠ .held) : giveUpMotor u = withdrawLoad .motor u := by
  unfold giveUpMotor motorHeld
  rw [beq_eq_false_iff_ne.mpr unheld]
  exact if_neg Bool.false_ne_true

end Sys2Proof.Machine.Withdrawing
end

section
/-! PROOFS. Obligation O34: the budget timer's end, the MOTOR request withdrawn and the vend or the test over (R54, R99, R100, R116, R158). -/

namespace Sys2Proof.Machine.Withdrawing

set_option Elab.async false

open Laws Intake Requesting Queueing Deciding Turning

variable {v : Vend} {r : Test} {k : Nat} {s t u : State}

/-! ### The vend (R99, R100) -/

/-- R99: the vend at its end of the budget time. -/
theorem exec_budget_vend (vend : s.vsq.vend = some v) (timer : v.budgetTimer = some k) :
    exec .budgetTimerExpiry s =
      .next (refreshOutputs (runAgenda (decideOutcome .budgetTimeout .budget (reach Config.budgetTime k (openEvent s))))) := by
  have ends : endBudgetTime (openEvent s) = runAgenda (decideOutcome .budgetTimeout .budget (reach Config.budgetTime k (openEvent s))) := by
    have stands : (openEvent s).vsq.vend = some v := vend
    unfold endBudgetTime
    rw [stands]
    dsimp only
    rw [timer]
  exact (event_next endBudgetTime s).trans (by rw [ends])

/-- R116: the test at its end of the budget time. -/
theorem exec_budget_test (vend : s.vsq.vend = none) (test : s.vsq.test = some r) (timer : r.budgetTimer = some k) :
    exec .budgetTimerExpiry s =
      .next (refreshOutputs (runAgenda (endTest .budgetTimeout (reach Config.budgetTime k (openEvent s))))) := by
  have ends : endBudgetTime (openEvent s) = runAgenda (endTest .budgetTimeout (reach Config.budgetTime k (openEvent s))) := by
    have gone : (openEvent s).vsq.vend = none := vend
    have stands : (openEvent s).vsq.test = some r := test
    unfold endBudgetTime
    rw [gone, stands]
    dsimp only
    rw [timer]
  exact (event_next endBudgetTime s).trans (by rw [ends])

theorem tryLeave_agenda (s : State) : ∃ l, (tryLeave s).lbu.agenda = s.lbu.agenda ++ l ∧ l.length ≤ 1 := by
  rcases tryLeave_cases s with e | ⟨v, -, -, -, -, e⟩ <;> rw [e]
  · exact ⟨[], (List.append_nil _).symm, Nat.zero_le 1⟩
  · refine ⟨[.takeHead], ?_, Nat.le_refl 1⟩
    show (answerPanel v.selection (v.outcome.getD .aborted) v.price s).lbu.agenda ++ _ = _
    rw [answerPanel, send_lbu]

/-- What the end of the budget time needs of the state before it. -/
structure Unloaded (s u : State) : Prop where
  time : Later s u
  short : s.lnk.queue.length < 4
  up : s.lnk.state ≠ .listenOnly
  empty : s.vsq.queue = []
  unheld : s.lbu.motor.state ≠ .held

namespace Unloaded
variable (h : Unloaded s u)
include h

theorem awake : u.lnk.state ≠ .listenOnly := fun off => h.up (h.time.link.symm.trans off)

theorem few : u.lnk.queue.length < 4 := by rw [h.time.queue]; exact h.short

theorem room : reserved (places u) ≤ 4 := reserved_of_short h.few

theorem unheldNow : u.lbu.motor.state ≠ .held := fun held => h.unheld (h.time.motor.symm.trans held)

/-- R100: what comes after the withdrawal in its event leaves it. -/
theorem withdrawn {d w : State} {l : List Signal} (lbu : d.lbu = u.lbu) (lnk : d.lnk = u.lnk) (params : d.params = u.params)
    (rfc : d.rfc = u.rfc) (aside : Aside (withdrawLoad .motor d) w) (calm : Calm w)
    (agenda : w.lbu.agenda = (withdrawLoad .motor d).lbu.agenda ++ l) (length : l.length ≤ 1) :
    Withdrawn .motor u (refreshOutputs (runAgenda w)) := by
  have quiet : d.lbu.agenda = [] := by rw [lbu]; exact h.time.agenda
  have unheld : d.lbu.motor.state ≠ .held := by rw [lbu]; exact h.unheldNow
  have awake : d.lnk.state ≠ .listenOnly := by rw [lnk]; exact h.awake
  have few : d.lnk.queue.length < 4 := by rw [lnk]; exact h.few
  have told : w.lbu.agenda.length ≤ 32 := by
    have := withdrawLoad_agenda awake quiet unheld few
    rw [agenda, List.length_append]
    omega
  exact withdrawn_same (withdrawn_of awake quiet unheld few (aside.carried calm agenda told)) lbu lnk params rfc

/-- R100, R158: a vend decided BUDGET-TIMEOUT has its MOTOR request withdrawn. -/
theorem decides_withdrawn (vend : u.vsq.vend = some v) :
    Withdrawn .motor u (refreshOutputs (runAgenda (decideOutcome .budgetTimeout .budget u))) := by
  let d := deciding .budgetTimeout .budget v u
  let y := settleVend v .budgetTimeout (withdrawLoad .motor d)
  have made : decideOutcome .budgetTimeout .budget u = tryLeave y := by
    rw [decideOutcome_decided vend, decided, giveUpMotor_withdraws (u := d) h.unheldNow]
  have leaves : DecisionLeaves .budgetTimeout .budget v u (decideOutcome .budgetTimeout .budget u) := decideOutcome_leaves vend
  have calm : Calm (decideOutcome .budgetTimeout .budget u) :=
    ⟨leaves.ends.calm, leaves.queue.trans (h.time.empty.trans h.empty)⟩
  rw [made] at calm ⊢
  obtain ⟨l, agenda, length⟩ := tryLeave_agenda y
  refine h.withdrawn (d := d) rfl rfl rfl rfl ((settleVend_aside v .budgetTimeout _).trans (tryLeave_aside y)) calm (agenda.trans ?_) length
  rw [show y.lbu = _ from settleVend_lbu ..]

theorem decides_slots (vend : u.vsq.vend = some v) :
    (refreshOutputs (runAgenda (decideOutcome .budgetTimeout .budget u))).vsq.slots = s.vsq.slots := by
  have leaves : DecisionLeaves .budgetTimeout .budget v u (decideOutcome .budgetTimeout .budget u) := decideOutcome_leaves vend
  have ends : Ends (decideOutcome .budgetTimeout .budget u) _ := decideOutcome_ends vend (h.time.empty.trans h.empty)
  rw [ends.vsq, leaves.slots]
  exact h.time.slots

/-- R91: the granted debit of a vend not paid at home is to be settled NOT-VENDED. -/
theorem decides_settles {g : Grant} (vend : u.vsq.vend = some v) (granted : v.granted = some g) (elsewhere : v.payment ≠ .own)
    (unsettled : v.settled = false) :
    (decideOutcome .budgetTimeout .budget u).vsq.state = .settling ∧
      Awaits (.settle v.selection.creditStation g.tag g.number .notVended) (decideOutcome .budgetTimeout .budget u) := by
  let m := decided .budgetTimeout .budget v u
  have queued : Queued 3 u m := decided_queued .budgetTimeout .budget v u
  have room := h.room
  have stands : m.vsq.vend = some (decidedVend .budgetTimeout .budget v) := by rw [decided_vsq]
  have sends : settleVend v .budgetTimeout m = sendSettle v g.tag g.number .notVended 1 m := by
    unfold settleVend
    rw [granted]
    exact if_neg elsewhere
  rw [decideOutcome_decided vend, sends, tryLeave_sendSettle stands unsettled,
    sendSettle_queueing (by rw [queued.link]; exact h.awake) (queued.room (by omega))]
  refine ⟨?_, _, List.mem_append_right _ List.mem_cons_self, rfl, rfl⟩
  show m.vsq.state = _
  rw [decided_vsq]

/-! ### The test (R116) -/

/-- R116: the test with its result, its motor stopped. -/
def timedOut (r : Test) : Test := { r with result := some .budgetTimeout, motorOn := false, budgetTimer := none, jamTimer := none }

/-- R116: the result taken, the MOTOR request not yet withdrawn. -/
def testOver (r : Test) (u : State) : State :=
  { u with mxd := { u.mxd with staging := none }, vsq := { u.vsq with test := some (timedOut r) } }

/-- R116: the test answered and over. -/
def testLeft (r : Test) (w : State) : State :=
  signal .takeHead ((send (.serviceAnswer r.station r.tag .done [3]) w).modVsq fun q => { q with test := none, state := .idle })

theorem endTest_leaves (test : u.vsq.test = some r) (testing : u.vsq.state = .testing) :
    endTest .budgetTimeout u = testLeft r (withdrawLoad .motor (testOver r u)) := by
  have given : giveUpMotor (writeStaging none (modTest
      (fun t => { t with result := some .budgetTimeout, motorOn := false, budgetTimer := none, jamTimer := none }) u)) =
      withdrawLoad .motor (testOver r u) := by
    rw [modTest_of test]
    exact giveUpMotor_withdraws (u := testOver r u) h.unheldNow
  have vsq : (withdrawLoad .motor (testOver r u)).vsq = (testOver r u).vsq := withdrawLoad_vsq ..
  have motor : (withdrawLoad .motor (testOver r u)).lbu.motor.state = .none := (withdrawMotor (s := testOver r u) h.unheldNow).1
  rw [endTest, given, finishTest, vsq]
  exact if_pos ⟨testing, motor⟩

theorem test_ends (test : u.vsq.test = some r) (testing : u.vsq.state = .testing) :
    let t := refreshOutputs (runAgenda (endTest .budgetTimeout u))
    Withdrawn .motor u t ∧ t.vsq.test = none ∧ t.vsq.state = .idle ∧ t.vsq.slots = s.vsq.slots ∧
      Awaits (.serviceAnswer r.station r.tag .done [3]) t := by
  let w := withdrawLoad .motor (testOver r u)
  have vsq : w.vsq = (testOver r u).vsq := withdrawLoad_vsq ..
  have begun : Queued 0 u (testOver r u) := .of_lnk rfl
  have queued : Queued 3 u w := (begun.trans (withdrawMotor (s := testOver r u) h.unheldNow).2).mono (by decide)
  have room := h.room
  have asked : Aside w (send (.serviceAnswer r.station r.tag .done [3]) w) := request_aside rfl w
  have after : (send (.serviceAnswer r.station r.tag .done [3]) w).vsq = (testOver r u).vsq := (send_vsq ..).trans vsq
  have empty : (testLeft r w).vsq.queue = [] := (congrArg Vsq.queue after).trans (h.time.empty.trans h.empty)
  have calm : Calm (testLeft r w) := ⟨.inr rfl, empty⟩
  have ends : Ends (testLeft r w) (refreshOutputs (runAgenda (testLeft r w))) := ends_calm calm.calm calm.empty
  have agenda : (testLeft r w).lbu.agenda = w.lbu.agenda ++ [.takeHead] :=
    congrArg (fun b : Lbu => b.agenda ++ [Signal.takeHead]) (send_lbu ..)
  intro t
  have same : t = refreshOutputs (runAgenda (testLeft r w)) := by rw [← h.endTest_leaves test testing]
  rw [same]
  refine ⟨h.withdrawn (d := testOver r u) rfl rfl rfl rfl (asked.to_.trans (signal_aside ..)) calm agenda (Nat.le_refl 1), ?_, ?_, ?_, ?_⟩
  · rw [ends.vsq]; rfl
  · rw [ends.vsq]; rfl
  · rw [ends.vsq]
    exact (congrArg Vsq.slots after).trans h.time.slots
  · refine ends.awaits ?_
    show Awaits _ (send _ w)
    rw [send_queueing rfl (by rw [queued.link]; exact h.awake) (queued.room (by omega))]
    exact ⟨_, List.mem_append_right _ List.mem_cons_self, rfl, rfl⟩

end Unloaded

/-- Settles O34: the request withdrawn as its state is, then the vend decided or the test answered. -/
theorem budgetTimeExpires : Obligations.BudgetTimeExpires := by
  intro k s short up empty unheld u
  have h : Unloaded s u := ⟨reach_later Config.budgetTime k s, short, up, empty, unheld⟩
  refine ⟨fun v vend timer unasked elsewhere unsettled => ?_, fun v g hold vend timer own granted home few => ?_,
    fun r vend test testing timer => ?_⟩
  · obtain ⟨w, now, a, n, b, j, x, rfl⟩ := reach_vendAged Config.budgetTime k (s := openEvent s) vend
    have ends := decideOutcome_ends (o := .budgetTimeout) (c := .budget) now (h.time.empty.trans empty)
    have decision := decided_of_ends now h.time.first h.awake unsettled h.room (fun own => absurd own elsewhere) ends
    refine ⟨_, exec_budget_vend vend timer, h.decides_withdrawn now, h.decides_slots now, decision, fun g granted => ?_⟩
    · obtain ⟨state, waits⟩ := h.decides_settles now granted elsewhere unsettled
      exact ⟨(congrArg Vsq.state ends.vsq).trans state, ends.awaits waits⟩
  · obtain ⟨w, now, a, n, b, j, x, rfl⟩ := reach_vendAged Config.budgetTime k (s := openEvent s) vend
    obtain ⟨m, i, homeNow, session⟩ := reach_homeHold Config.budgetTime k (s := openEvent s) home
    have room : reserved (places u) ≤ 3 := reserved_of_short (by rw [h.time.queue]; exact few)
    have ends := decideOutcome_ends (o := .budgetTimeout) (c := .budget) now (h.time.empty.trans empty)
    obtain ⟨-, -, -, vendOver⟩ := decideOutcome_atHome (o := .budgetTimeout) (c := .budget) now granted own homeNow
    obtain ⟨idle, gone⟩ := vendOver h.unheldNow
    have returned := decideOutcome_returns (o := .budgetTimeout) (c := .budget) now h.time.first granted own homeNow rfl h.awake room
    have answered := decideOutcome_answers (o := .budgetTimeout) (c := .budget) now h.time.first h.awake room gone
    obtain ⟨sessionNow, books, credit⟩ := homeReturned_of_reach session returned
    refine ⟨_, exec_budget_vend vend timer, h.decides_withdrawn now, h.decides_slots now, (congrArg Vsq.state ends.vsq).trans idle,
      (congrArg Vsq.vend ends.vsq).trans gone, ends.awaits answered, ?_⟩
    exact ⟨by rw [ends.cru]; exact sessionNow, by rw [ends.cru]; exact books, ends.awaits credit⟩
  · obtain ⟨b, j, now⟩ := reach_testAged Config.budgetTime k (s := openEvent s) test
    have ends := h.test_ends now (h.time.state.trans testing)
    exact ⟨_, exec_budget_test vend test timer, ends⟩

end Sys2Proof.Machine.Withdrawing
end
